-- ==== Sys2Proof/Word.lean ====
section
/-!
DEFINITION. Sys2Proof/Word.lean: the two bit-vector types of the Heset 128 model.
A register is 32 bits wide (R5, Table 0-4), memory is addressed in bytes (R3).
-/
namespace Sys2Proof

/-- One 32-bit register (R2: bit 0 is the least significant). -/
abbrev Word := BitVec 32

/-- One byte of a memory, a record, a container or a slot block. -/
abbrev Byte := BitVec 8

end Sys2Proof
end

