-- ==== Sys2Proof/Types.lean ====
section
/-!
DEFINITION. Sys2Proof/Types.lean: the data that both a command's operands and the state hold: 66B blocks, section entries,
sections, protection groups and mirror generations.
-/
namespace Sys2Proof.Machine

/-- A 66B block: its two sync header bits as a number, and its 64 data bits, the first byte in bits 7:0. -/
structure W66 where
  sync : Nat
  data : Nat
  deriving DecidableEq, Repr

/-- One entry of a section in force: kind, index in the body, and its fields as (field ID, sub-index, value). -/
structure Entry where
  kind   : Nat := 0
  idx    : Nat := 0
  fields : List (Nat × Nat × Int) := []
  deriving DecidableEq, Repr

/-- A section after its clamps (R322): ID, instance number, source slot, and the entries that were kept. -/
structure Section where
  sec     : Nat := 0
  inst    : Nat := 0
  src     : Nat := 0
  digest  : List Byte := []
  entries : List Entry := []
  deriving DecidableEq, Repr

/-- A protection group's state that its registers do not show. -/
structure QsGrp where
  decl    : Nat := 0                  -- declared triggers: bit 0 SF-W, 1 SF-P, 2 SD-W, 3 SD-P
  hoRun   : Nat := 0                  -- triggers in hold-off, same bits (R184)
  due     : Nat := 0                  -- hold-off elapsed, declared at the next boundary
  hold    : Nat := 0                  -- 0 none, 1 WTR, 2 DNR (R186)
  dropped : Bool := false             -- a switch dropped under R25, until the request changes
  apsCand : List Byte := []           -- APS bytes 1 to 3 last received, and their run (R194)
  apsRun  : Nat := 0
  apsAcc  : Option (Nat × Nat × Nat) := none   -- accepted bytes 1 to 3
  msFar   : Bool := false             -- the newest manual switch is the far end's (R185)
  deriving DecidableEq, Repr

/-- The items a mirror generation carries (Table 7-6). -/
structure Mirror where
  gen   : Nat := 0
  grps  : List (Nat × QsGrp) := []
  words : List (Nat × Word) := []     -- quickset group registers
  sect  : List Section := []          -- sections in force and plan progress
  page  : List (Nat × Word) := []     -- plan progress: PLN_STATE and PLN_ID
  time  : List (Nat × Word) := []     -- time core: servo state and selected reference
  hist  : Option Int := none          -- its history
  seqs  : List (Nat × Nat) := []      -- evergreen sequence counters
  step  : Option (Nat × Nat × List Section) := none   -- a named step: number, system time of its boundary in ns, sections (R176)
  deriving DecidableEq, Repr

/-- The plan that a mirrored PLN_ID names. -/
def Mirror.planId (m : Mirror) : Nat := ((m.page.find? fun p => p.1 == 0x5004).map fun p => p.2.toNat).getD 0

end Sys2Proof.Machine
end

