-- ==== Sys2Proof/Syntax.lean ====
section
/-!
DEFINITION. Sys2Proof/Syntax.lean: the commands of the Heset 128, one constructor per row of the opcode table, and their
operands. What a row's event brings from outside the device (a level, a received frame, a measured time, an answer of
a cryptographic engine) is an operand; what the device holds is in State.
-/
namespace Sys2Proof

/-! ### Operands -/

/-- Where a register access comes from: PCIe, SMBus, or a bus matrix master by its code of Table 13-1 with the world of
its access (R342, R360). -/
inductive Src where
  | pcie
  | smbus
  | master (code : Nat) (secure : Bool)
  deriving DecidableEq, Repr

/-- What the deskew of a bond member shows (R43, R50): its signed skew to the lead in 25 ps units, the FlexO
instance number received on it, and by how many microseconds its last entry to POWERED or CDR_ACQ follows the earliest
of the bond (LN_LINKUP). -/
structure DeskewIn where
  skew : Int
  iid  : Nat
  later : Nat := 0
  deriving DecidableEq, Repr

/-- A frame-alignment event at one end of a lane (R57): the second, the 25 ps units of the timestamp past it, and the
25 ps units of the core-side instant past the same second. -/
structure TermIn where
  sec  : Nat
  unit : Nat
  core : Nat
  deriving DecidableEq, Repr

/-- An ordered set in the 66B blocks of a PM block (Table 3-7): its block number, and 1 local fault, 2 remote fault,
3 other. -/
structure OsIn where
  at_  : Nat
  kind : Nat
  deriving DecidableEq, Repr

/-- A justification control of a client (R107, R108), and the payload words that it governs, in the order received; a
word's first byte is in its low bits. -/
structure JcIn where
  cm    : Nat
  sigma : Nat
  crcOk : Bool
  words : List Nat := []
  deriving DecidableEq, Repr

/-- A received frame of a monitored layer: what Table 3-5 has the framer process. A field that the layer lacks is
ignored. `bip` is the number of BIP-8 violations, `errored` the errored-block rule of Table 3-1, `fe` the BEI code. -/
structure FrameIn where
  wordOk  : Bool := true      -- the checked word of Table 3-2, of every instance
  mfas    : Nat := 0          -- MFAS, or the place in the FlexE overhead multiframe that OMF marks
  errored : Bool := false
  bip     : Nat := 0
  fe      : Nat := 0
  stat    : Nat := 1
  bdi     : Bool := false
  tti     : Byte := 0         -- the TTI byte of this frame
  pt      : Nat := 0          -- PSI[0] of the PSI multiframe that ends here, read where mfas = 255
  msi     : List Nat := []    -- PSI[2] onward of that multiframe
  jc      : List (Nat × JcIn) := []  -- justification control, by client context
  gnum    : Nat := 0          -- FlexE group number
  phymap  : List Nat := []    -- FlexE PHY map of the multiframe that ends here, read where mfas = 31
  rpf     : Bool := false
  c       : Nat := 0          -- FlexE calendar bits
  cr      : Option Nat := none   -- the calendar that a received CR, or CA, names
  ca      : Option Nat := none
  label   : Option Nat := none   -- twig host label of a frame whose hcrc is good
  os      : List OsIn := []   -- ordered sets (layers 4 and 6)
  deriving DecidableEq, Repr

/-- The bytes of a switched ODU that fall due in a grid period (R105): their number in units of 2^-24 byte. -/
structure OduIn where
  ctx  : Nat
  due  : Nat
  deriving DecidableEq, Repr

/-- What a lane's pipe decodes in a grid period (Table 2-12): codewords, codewords corrected and uncorrectable,
corrected symbols, PRBS errors, fill of the ingress buffer, and SNR. -/
structure LaneRx where
  lane   : Nat
  cw     : Nat
  corr   : Nat := 0
  uncorr : Nat := 0
  sym    : Nat := 0
  prbs   : Nat := 0
  fill   : Nat := 64
  snr    : Nat := 0
  deriving DecidableEq, Repr

/-- What a grid period brings (GRID_PERIOD). Reads are named by output slot. -/
structure GridIn where
  odus    : List OduIn := []
  streams : List (Nat × List Machine.W66) := []   -- 66B blocks that the lane pipe gives a context on an ETH group (R103)
  flexe   : List (Nat × Nat × Machine.W66) := []  -- FlexE group context, calendar slot, and a 66B block that arrives in it
  eccCorr : List Nat := []                -- contexts with a single-bit error in their fast part (R113)
  ecc     : List Nat := []                -- contexts with an uncorrectable word in their fast part
  corr    : List (Nat × Nat) := []        -- reads with single-bit errors in slice buffer words, and how many words (R133)
  uncorr  : List Nat := []                -- reads with an uncorrectable word
  corrP   : List (Nat × Nat) := []        -- as corr and uncorr, in the words that a SHADOW reads
  uncorrP : List Nat := []
  chk     : List Nat := []                -- reads whose block check fails on the slice that serves the logical slice
  chkP    : List Nat := []                -- reads of a SHADOW whose block check fails
  diff    : List Nat := []                -- reads whose two copies differ although both checks pass
  late    : List (Nat × Nat) := []        -- mate slots by lane and index whose block would start late (R198)
  ticks   : Nat := 0                      -- ticks of the calendar crystal in the grid period (R302)
  lanes   : List LaneRx := []
  deriving DecidableEq, Repr

/-- The device-side decision inputs of a boundary that no register holds. -/
structure BoundaryIn where
  disagree : List Nat := []   -- groups whose duplicate quickset computations disagree (R254)
  genBytes : Nat := 0         -- bytes that the changes of the open generation take in the control channels (R204)
  deriving DecidableEq, Repr

/-- The heartbeat of a mate frame (R197). -/
structure BeatIn where
  rank   : Nat := 0
  mode   : Nat := 0
  role   : Nat := 0
  epoch  : Nat := 0
  digest : Nat := 0
  gen    : Nat := 0
  deriving DecidableEq, Repr

/-- A mate frame that a mate lane delivers (R198): where the frame word matches while the receiver hunts, whether it
matches at the place held, the heartbeat, a mirrored generation whose last part this frame brings, what else its control channel
brings (the mate's recorder fault, R390; messages for MBX_13 and MBX_14, R367), the 58 line bits before the frame word, and
the bytes that follow it, as the lane pipe delivers them, scrambled. -/
structure MateFrameIn where
  found  : List Nat := []
  wordOk : Bool := true
  beat   : Option BeatIn := none
  gen    : Option Machine.Mirror := none
  recFault : Bool := false
  msgs   : List (Nat × List Nat) := []
  seed   : Nat := 0
  body   : List Byte := []
  deriving DecidableEq, Repr

/-- The lock mark of an access (R347). -/
inductive LockMark where
  | plain
  | locked
  | unlocking
  deriving DecidableEq, Repr

/-- A master's request at the bus matrix (R344 to R347): source, internal address, direction, length in bytes, the write
data with a byte whose enable is cleared as none, lock mark, the CLK_CTL cycles it has stalled, whether it is an
instruction fetch, the beats completed when its master is reset during it, and what SECDED finds in the words read: how
many are corrected, and the addresses of uncorrectable ones. -/
structure BusReq where
  src    : Src
  addr   : Nat
  write  : Bool := false
  len    : Nat := 4
  data   : List (Option Byte) := []
  lock   : LockMark := .plain
  waited : Nat := 0
  fetch  : Bool := false
  cut    : Option Nat := none
  corr   : Nat := 0
  ue     : List Nat := []
  deriving DecidableEq, Repr

/-- What a scrub finds (R355, Table 9-6): corrected words of banks, addresses of uncorrectable ones, contexts with a
corrected and with an uncorrectable word in their fast part, and corrected words of physical slices. -/
structure ScrubIn where
  corr      : List (Nat × Nat) := []
  ue        : List Nat := []
  ctxCorr   : List Nat := []
  ctxUe     : List Nat := []
  sliceCorr : List (Nat × Nat) := []
  deriving DecidableEq, Repr

/-- A frame that leaves a STREAM context (R293): the cycles that its start block waits in the egress adaptation buffer beyond
the empty-buffer wait, and the grid periods from the read of that block to the latest one. -/
structure EgressIn where
  wait : Nat := 0
  ago  : Nat := 0
  deriving DecidableEq, Repr

/-- What a boot finds (R308, R310, R429): the frequency of OSCI that PD_AON counts, in Hz (R260); BOOT_SRC and MATE_RANK as
sampled; the slices that fail the self-test; whether the flash answers in a mode of its SFDP table; and the milliseconds
from reset release to RUNNING. -/
structure BootIn where
  osc     : Nat := 25000000
  src     : Nat := 0
  rank    : Bool := true
  bad     : List Nat := []
  flashOk : Bool := true
  ms      : Nat := 0
  deriving DecidableEq, Repr

/-- Bulk data in host memory (R375, kind 2): the bytes that the DMA engine reads, and whether the transfer succeeds. -/
structure BulkIn where
  data : List Byte := []
  ok   : Bool := true
  deriving DecidableEq, Repr

/-- How a background command ends (R370, R379): whether its bulk transfer succeeds, whether the flash errs, the 256-byte
pages that a cut FLASH_WRITE programs, and the milliseconds to RUNNING of a boot that it restarts. -/
structure DoneIn where
  ok    : Bool := true
  err   : Bool := false
  pages : Nat := 0
  ms    : Nat := 0
  deriving DecidableEq, Repr

/-- A command, one constructor per row of the opcode table. -/
inductive Instr where
  -- Registers (R5 to R11, R60, R282, R306)
  /-- REGISTER_WRITE (R5): A host or master write to a register field that has no row of its own acts on that field as
  its access code states. -/
  | registerWrite (src : Src) (off : Nat) (be : Nat) (data : Word) (poisoned : Bool)
  /-- REGISTER_READ_CLEAR (R364): A read that enables every byte of an RC field returns its value and clears it. -/
  | registerReadClear (src : Src) (off : Nat) (be : Nat)
  /-- LOW_WORD_READ (R11): A read of the low word of a 64-bit quantity latches the high word for the next read. -/
  | lowWordRead (src : Src) (off : Nat)
  /-- HIGH_WORD_WRITE (R11): The write of the high word of a 64-bit RW quantity makes the whole quantity take effect. -/
  | highWordWrite (src : Src) (off : Nat) (data : Word)
  /-- LN_TS_SEC_READ (R60): A read of LN_TS_SEC latches LN_TS_NS and LN_TS_SUB for the next reads. -/
  | lnTsSecRead (src : Src) (n : Nat)
  /-- TMC_SEC_LO_READ (R282): A read of TMC_SEC_LO latches TMC_SEC_HI, TMC_NS and TMC_FRAC. -/
  | tmcSecLoRead (src : Src)
  /-- RTC_SEC_LO_READ (R306): A read of RTC_SEC_LO latches RTC_SEC_HI and RTC_TICK. -/
  | rtcSecLoRead (src : Src)
  -- The grid and mate pairs (R20 to R26, R126, R197 to R209)
  /-- GRID_PERIOD (R126): Every 128 CLK_FAB cycles each slot moves one slot block: ingress ports write and slices read
  by the active page. -/
  | gridPeriod (x : GridIn)
  /-- GRID_MULTIFRAME_BOUNDARY (R21): Every 1,024 grid periods the device applies page swaps, plan steps, quickset
  changes, steering changes and tag intervals in the order of Table 1-4. -/
  | gridMultiframeBoundary (x : BoundaryIn)
  /-- MATE_LOST (R199): The 8th consecutive missed beat, or a detected gasp, declares the mate lost at the boundary. -/
  | mateLost
  /-- FLASH_SEIZE (R209): 50 ms after a mate-loss declaration the survivor takes the flash and writes a FLASH_SEIZED
  record. -/
  | flashSeize
  /-- FLASH_REQ_CHANGE (R209): A change of FLASH_REQ makes the arbiter raise or lower FLASH_GNT when it is not
  accessing the flash. -/
  | flashReqChange (level : Bool)
  /-- MATE_FRAME_RECEIVED (R198): A received mate frame is aligned, and its sections hand mate blocks to the ingress
  ports and its overhead to the mate block. -/
  | mateFrameReceived (j : Nat) (f : MateFrameIn)
  /-- MATE_ALIVE_IN_CHANGE (R199): A level change on MATE_ALIVE_IN counts as a received beat. -/
  | mateAliveInChange
  /-- GASP_DETECTED (R200): 16 or more MATE_ALIVE_IN edges within 20 µs are taken as a gasp, and the mate is declared
  lost at the next boundary. -/
  | gaspDetected
  /-- ROLE_RESOLVE (R201): After 8 consecutive beats a NEGOTIATING device resolves its role from ranks and the mate's
  role. -/
  | roleResolve
  /-- GENERATION_COMMIT_RECEIVED (R203): A standby applies a mirrored generation when its commit word arrives with a
  good CRC, or discards it. -/
  | generationCommitReceived (crcOk : Bool)
  /-- MATE_ROLE (R207): The MATE_ROLE command with ACTIVE makes an ISOLATED device ACTIVE, and is refused in other
  roles. -/
  | mateRole (n : Nat)
  -- Changes (R159 to R177)
  /-- PLAN_STEP_DUE (R165): The gap count of grid multiframe boundaries reaches a step's boundary, at which the loaded
  step takes effect or the plan halts. -/
  | planStepDue
  /-- HIT_WINDOW_END (R170): The measuring window after a step ends, and the measured hits are compared with their
  declarations. -/
  | hitWindowEnd
  /-- APPLY (R159): The APPLY command names 1 to 12 section instances to load and put in force at a boundary. -/
  | apply (n : Nat)
  /-- APPLY_PLAN (R165): The APPLY_PLAN command starts a change plan from a start step and optional start time. -/
  | applyPlan (n : Nat)
  /-- HALT_PLAN (R174): The HALT_PLAN command halts the plan in progress with cause HOST or cancels a loading APPLY. -/
  | haltPlan (n : Nat)
  /-- APPLY_LOAD_COMPLETE (R161): The load of an APPLY or step finishes its flash reads, clamps, reference checks,
  page fill and residence check, and arms or fails. -/
  | applyLoadComplete (bad : List (Nat × Nat))
  -- Twigs and evergreen (R116 to R122, R212 to R230, R244)
  /-- TWIG_FRAME_BOUNDARY (R121): At each local twig frame boundary the sub-switch builds each output host from the
  twig espalier. -/
  | twigFrameBoundary
  /-- TWIG_FRAME_RECEIVED (R116): A receive twig host frame is aligned and its label, fnum, hcrc, tags and units are
  taken in. `bytes` are those that the host's mapper has demapped since its last overhead frame, the first sent first. -/
  | twigFrameReceived (h : Nat) (bytes : List Byte)
  /-- HOST_SLIP (R122): A host alignment term that would leave its range slips one twig frame and writes a HOST_SLIP
  record. `fast` says that it would pass 15,999 and not 0, and `past` to how many cycles from the end of its range: to
15,999 + past, or to −past. -/
  | hostSlip (h : Nat) (fast : Bool) (past : Nat)
  /-- TWIG_ROUND_END (R244): At the end of a round of four host frames each twig circuit's tags are judged errored or
  clean. -/
  | twigRoundEnd (h : Nat)
  /-- EVERGREEN_BLOCK_BOUNDARY (R216): Every 16 grid periods each wrap entry's sequence counter increments. -/
  | evergreenBlockBoundary
  /-- EVG_FRAME_ARRIVAL (R220): An evergreen frame completes on a copy and is checked, keyed and stored or discarded. -/
  | evgFrameArrival (i : Nat) (b : Bool) (cyc : Nat) (frame : Nat) (found : List Nat) (tailFull : Bool)
  /-- EVG_PLAYOUT (R222): At a frame's playout instant the merge plays the good frame, the first bad frame, or a fail-
  marked frame. -/
  | evgPlayout (i : Nat) (cyc : Nat) (late : Bool) (markBad : Bool)
  /-- EVG_ACQ_TIMEOUT (R223): When m_acq expires without both copies aligned, the merge anchors on the single copy. -/
  | evgAcqTimeout (i : Nat)
  /-- EVG_REANCHOR (R223): A copy LATE for m_re_wait, or LATE while the other is absent, is re-anchored onto by
  pausing playout. -/
  | evgReanchor (i : Nat) (b : Bool)
  /-- EVG_NO_USABLE_TIMEOUT (R223): 1,024 frame periods without a USABLE copy flush the queue and anchor afresh. -/
  | evgNoUsableTimeout (i : Nat)
  /-- EVG_FLUSH (R230): A requested queue flush takes effect at the next frame boundary of the tail, discarding the
  frames held. -/
  | evgFlush (i : Nat)
  -- Performance monitoring (R91 to R96)
  /-- PM_SECOND_END (R91): When the system time seconds increment, each monitored context's second is closed and
  classified. -/
  | pmSecondEnd (bad : List Nat)
  /-- PM_SECOND_COMMIT (R93): A classified second held for 9 further seconds is committed to the bins with
  availability applied. -/
  | pmSecondCommit
  /-- PM_BIN_CLOSE (R94): A PM bin closes 10 s after its nominal end and moves to history and to HQ_PM. -/
  | pmBinClose (day : Bool)
  -- Lanes (R37 to R64)
  /-- REFCLK_LOSS (R37): A lane reference clock without edges for 1 µs or off frequency for 1 ms is declared lost and
  its lanes squelch and leave UP. -/
  | refclkLoss (r : Nat)
  /-- REFCLK_VALID (R37): A lane reference clock valid for 100 ms lets its lanes relink from POWERED. -/
  | refclkValid (r : Nat)
  /-- SYNTH_LOCK (R52): The quad synthesizer locks; the lane drives its idle pattern and enters CDR_ACQ. -/
  | synthLock (q : Nat)
  /-- SYNTH_UNLOCK (R61): The quad synthesizer loses lock, squelching and taking all lanes of the quad out of UP. -/
  | synthUnlock (q : Nat)
  /-- CDR_LOCK (R52): Signal detect and CDR lock move a lane from CDR_ACQ to ADAPT. -/
  | cdrLock (n : Nat)
  /-- ADAPT_CONVERGED (R52): Receiver adaptation converges and the lane enters FEC_ALIGN. -/
  | adaptConverged (n : Nat)
  /-- FEC_ALIGN_LOCK (R52): FEC codeword lock and an alignment event move the lane to DESKEW. -/
  | fecAlignLock (n : Nat)
  /-- DESKEW_COMPLETE (R52): All bond members are aligned within skew_max and the lane or bond enters UP. -/
  | deskewComplete (n : Nat) (members : List DeskewIn) (gid : Nat) (us : Nat)
  /-- ACQ_ATTEMPT_TIMEOUT (R53): A lane not in UP 500 ms after entering CDR_ACQ restarts adaptation from the rx_eq
  preset. -/
  | acqAttemptTimeout (n : Nat)
  /-- LOS_ENTRY (R61): No signal detect for 100 µs declares LOS and takes the lane out of UP. `also` here and below: the
  other rows of Table 2-11 whose faults enter on the lane in the same cycle (R62). -/
  | losEntry (n : Nat) (also : List Nat)
  /-- LOS_EXIT (R61): Signal detect for 1 ms ends LOS. -/
  | losExit (n : Nat)
  /-- CDR_UNLOCK (R61): The recovered clock goes off frequency or out of phase range and the lane leaves UP. -/
  | cdrUnlock (n : Nat) (also : List Nat)
  /-- FEC_LOSS (R61): Three consecutive codewords failing sync declare FEC loss and the lane leaves UP. -/
  | fecLoss (n : Nat) (also : List Nat)
  /-- ALIGN_LOSS (R61): Four consecutive missing or unmatched alignment events declare alignment loss and the lane
  leaves UP. -/
  | alignLoss (n : Nat) (also : List Nat)
  /-- EB_SLIP (R55): An ingress elastic buffer within 8 words of either end is recentred, with eb_slip set and slips
  counted. -/
  | ebSlip (n : Nat)
  /-- LANE_TERM_MEASURE (R57): At a frame-alignment event the lane timestamps it and measures its ingress and egress
  lane terms. -/
  | laneTermMeasure (n : Nat) (rx : TermIn) (tx : TermIn)
  /-- MOD_INT_EDGE (R64): A stable falling edge of MOD_INT_N sets mod_int on the quad's lanes and raises the module
  interrupt source. -/
  | modIntEdge (q : Nat)
  -- Framers (R70 to R111)
  /-- ALIGN_WINDOW_END (R71): A search window of one frame ends and the framer confirms, keeps or discards its
  candidates. -/
  | alignWindowEnd (c : Nat) (found : List Nat) (term : Nat)
  /-- FRAME_RECEIVED (R73): A received frame of a monitored layer has its alignment word, multiframe and overhead
  processed. -/
  | frameReceived (c : Nat) (f : FrameIn)
  /-- FLEXE_CAL_SWITCH (R111): After CA the transmit calendar switches C at the first overhead multiframe boundary. -/
  | flexeCalSwitch (c : Nat)
  /-- FLEXE_CA_TIMEOUT (R111): No CA within ca_timeout keeps the old calendar, clears cr_pend and writes a
  FLEXE_CAL_TIMEOUT record. -/
  | flexeCaTimeout (c : Nat)
  /-- LOF_DECLARE (R83): OOF present continuously for 3 ms declares LOF. -/
  | lofDeclare (c : Nat)
  /-- LOF_CLEAR (R83): IN_FRAME continuously for 3 ms clears LOF. -/
  | lofClear (c : Nat)
  /-- LOM_DECLARE (R83): OOM continuously for 3 ms declares LOM. -/
  | lomDeclare (c : Nat)
  /-- LOM_CLEAR (R83): IM continuously for 3 ms clears LOM. -/
  | lomClear (c : Nat)
  /-- EGRESS_FRAME_BOUNDARY (R88): At an egress frame boundary the egress mapper starts or ends replacement and
  sources overhead for the context. -/
  | egressFrameBoundary (c : Nat)
  -- Fabric (R144 to R150)
  /-- SPARE_SELF_TEST_PASS (R145): A SPARE slice completes a march self-test pass, recording the time or marking it
  suspect or FAILED. -/
  | spareSelfTestPass (clean : Bool)
  /-- COPPICE_DUE (R149): coppice_min minutes after the last cut-over a rotation falls due for the next boundary. -/
  | coppiceDue
  /-- FABRIC_RESET_SELF_TEST (R148): When PD_FAB leaves reset all 21 slices are self-tested and the steering is built,
  or the fabric stays disabled. -/
  | fabricResetSelfTest (bad : List Nat)
  -- Quickset (R184 to R196)
  /-- HOLDOFF_EXPIRY (R184): A trigger present for its hold-off time is declared at the next grid multiframe boundary. -/
  | holdoffExpiry (g : Nat) (t : Nat)
  /-- WTR_EXPIRY (R186): The wait-to-restore timer expires and the request becomes NR, returning the selector to W. -/
  | wtrExpiry (g : Nat)
  /-- FORCE_PIN_EDGE (R187): A stable edge of FORCE_N holds or releases its LO or FS command on its range of groups. -/
  | forcePinEdge (k : Nat) (on : Bool)
  /-- FORCE_SWITCH (R188): The FORCE_SWITCH command sets the mailbox command LO, FS, MS-W or MS-P of one group. -/
  | forceSwitch (n : Nat)
  /-- CLEAR_FORCE (R188): The CLEAR_FORCE command removes the mailbox command of one group. -/
  | clearForce (n : Nat)
  /-- APS_RECEIVED (R194): APS bytes arrive in an APS frame and are accepted after 3 identical frames. -/
  | apsReceived (g : Nat) (b1 : Nat) (b2 : Nat) (b3 : Nat)
  /-- FOP_NR_DECLARE (R196): A bridged signal differing from the requested signal for 50 ms declares FOP_NR with an
  APS_FAIL record. -/
  | fopNrDeclare (g : Nat)
  -- Integrity (R240 to R257)
  /-- PATH_TAG_CHECK (R240): The egress checker reads the tag block of an interval and classifies it as TAG_OK or a
  tag error. -/
  | pathTagCheck (c : Nat)
  /-- CVU_WINDOW_CLOSE (R249): A CVU window closes, latching the result and reloading the working register. -/
  | cvuWindowClose (u : Nat)
  /-- CVU_VAL_WRITE (R250): A write of CVU_VAL or CVU_CNT takes effect before the bytes of the same cycle. -/
  | cvuValWrite (src : Src) (u : Nat) (off : Nat) (be : Nat) (data : Word) (closes : Bool) (bytes : List Byte)
  /-- CVU_RES_HI_READ (R249): A read of CVU_RES_HI returns the result and clears CVU_ST.ready. -/
  | cvuResHiRead (src : Src) (u : Nat)
  /-- SECDED_SCRUB (R355): Each scrub period the on-chip memories are read to find and correct latent errors. -/
  | secdedScrub (x : ScrubIn)
  -- Clocks and time (R259 to R305)
  /-- OSCI_LOSS (R263): OSCI without edges for 1 µs or off frequency for 1 ms is declared lost and both servos enter
  holdover or free run. -/
  | osciLoss
  /-- OSCI_RESTORE (R263): OSCI valid for 1 s is taken again by the core PLL without a phase step. -/
  | osciRestore
  /-- SERVO_CROSS_CHECK (R264): Once per second the root is compared with OSCI against TMC_FREQ. -/
  | servoCrossCheck (off : Int)
  /-- TIMEREF_EDGE (R267): An edge of a TIMEREF input is timestamped and checked for runts and chatter. -/
  | timerefEdge (c : Nat) (t : Nat) (width : Nat)
  /-- CAND_LOS (R267): A candidate without edges or valid offsets for its timeout enters LOS, is disqualified and
  writes a REF_LOS record. -/
  | candLos (c : Nat)
  /-- CAND_LOS_CLEAR (R267): An edge or valid offset returns, LOS clears and the candidate's wait-to-restore starts. -/
  | candLosClear (c : Nat)
  /-- CHATTER_CLEAR (R267): CHATTER clears after 10 s without LOS, runt or chatter. -/
  | chatterClear (c : Nat)
  /-- CAND_QUALIFIED (R269): A candidate free of faults for ref_wtr seconds becomes qualified. -/
  | candQualified (c : Nat)
  /-- SELECTOR_EVALUATION (R270): At 500 ms past each second the selector chooses the best eligible candidates and
  makes a differing choice pending. -/
  | selectorEvaluation
  /-- PPS_EPOCH (R273): At each whole second pending switches complete, steps apply, measurements are taken and servo
  states move. -/
  | ppsEpoch (freq : List (Nat × Int))
  /-- HISTORY_VALID (R275): LOCKED for hist_min seconds makes the frequency history valid. -/
  | historyValid
  /-- HOLDOVER_EXPIRY (R276): HOLDOVER lasting hold_limit enters FREERUN_EXPIRED and ramps the control word to 0. -/
  | holdoverExpiry (time : Bool)
  /-- TCH_MESSAGE_SEND (R287): A time channel sends message i of the second in the first round at or after its due
  time. -/
  | tchMessageSend (k : Nat) (dep : Nat)
  /-- TCH_MESSAGE_RECEIVED (R289): A received time channel message is validated and gives an offset and path delay. -/
  | tchMessageReceived (k : Nat) (arr : Nat)
  /-- TOD_SENTENCE_SEND (R299): todo_delay after each epoch TOD_TXD sends the sentence naming that second. -/
  | todSentenceSend (k : Nat)
  /-- TOD_SENTENCE_RECEIVED (R299): A ToD sentence arriving within the window is accepted to label the epoch, or
  counted bad. -/
  | todSentenceReceived (k : Nat) (first : Nat) (baud : Nat) (l : List Byte)
  /-- PTP_INGRESS_CORRECT (R293): The ingress mapper adds the ingress lane term and wait to a PTP event message's
  correctionField. -/
  | ptpIngressCorrect (c : Nat) (mate : Option Nat) (wait : Nat) (m : List Byte)
  /-- PTP_EGRESS_CORRECT (R293): The egress mapper adds residence, wait and egress lane term, and patches FCS and UDP
  checksum. -/
  | ptpEgressCorrect (slot : Nat) (x : EgressIn) (m : List Byte)
  /-- RTC_HOLD_END (R304): A calendar clock held for e ticks runs on and clears holding. -/
  | rtcHoldEnd
  /-- RTC_XTAL_FAIL (R302): A calendar crystal stopped for 2 ms sets xtal_fail and writes an RTC_XTAL record. -/
  | rtcXtalFail
  /-- VBAT_LOSS (R302): VBAT below 1.5 V with the main supply absent resets PD_BAT. -/
  | vbatLoss
  /-- SET_RTC (R305): The SET_RTC command loads the calendar clock, unless the time servo is LOCKED. -/
  | setRtc (n : Nat)
  -- Start-up, lifecycle and sessions (R308 to R336, R360, R376)
  /-- RESET_RELEASE_BOOT (R308): Release of a power-on, SYSTEM or thermal reset runs the ROM boot sequence from OSCI
  detection to RUNNING. -/
  | resetReleaseBoot (x : BootIn)
  /-- IMAGE_CONFIRM (R312): A TRIAL image running confirm_s seconds is marked GOOD and may advance the security
  counter. -/
  | imageConfirm
  /-- FLASH_WRITE (R379): The FLASH_WRITE command programs bulk data into an image slot, verifying the slot on the
  last write. -/
  | flashWrite (n : Nat) (x : BulkIn)
  /-- KEY_REVOKE (R320): The KEY_REVOKE command blows the revoked fuse of a key slot with a signed token. -/
  | keyRevoke (n : Nat) (x : BulkIn)
  /-- PROVISION (R328): The PROVISION command blows key hashes, generates the identity key and moves BLANK to
  PROVISIONED. -/
  | provision (n : Nat) (x : BulkIn)
  /-- LC_ADVANCE (R328): The LC_ADVANCE command advances the lifecycle to DEPLOYED or RETURNED with a signed token. -/
  | lcAdvance (n : Nat) (x : BulkIn)
  /-- DEBUG_UNLOCK (R327): The DEBUG_UNLOCK command opens JTAG debug in PROVISIONED with a signed token. -/
  | debugUnlock (n : Nat) (x : BulkIn)
  /-- ATTEST (R334): The ATTEST command returns a signed attestation report bound to a nonce. -/
  | attest (n : Nat) (x : BulkIn)
  /-- NONCE (R377): The NONCE command returns a fresh 32-byte nonce for the channel pair. -/
  | nonce (n : Nat)
  /-- SESSION (R360): The SESSION command accepts a signed token and sets BM_HOST_WORLD.pcie_sec. -/
  | session (n : Nat) (x : BulkIn)
  /-- SESSION_END (R360): The SESSION_END command clears pcie_sec. -/
  | sessionEnd (n : Nat)
  /-- SESSION_IDLE_TIMEOUT (R360): host_sess_s seconds without access to the secure channels clear pcie_sec. -/
  | sessionIdleTimeout
  /-- QUERY (R376): The QUERY command returns the requested state item. -/
  | query (n : Nat) (x : BulkIn)
  -- Tamper, processor and bus (R332 to R354)
  /-- TAMPER_ASSERT (R332): An active TAMPER_N assertion wipes the secure bank and channels, sets stk, writes a TAMPER
  record and asserts FAULT_N. -/
  | tamperAssert (k : Nat)
  /-- LOCKSTEP_FAULT (R337): A difference between the lockstep cores halts both, raises the gasp and restarts the
  processor. -/
  | lockstepFault (pc : Nat) (out : Nat)
  /-- CP_WATCHDOG_EXPIRY (R339): No kick within cp_wdog_ms raises the gasp, writes a CP_WATCHDOG record and restarts
  the processor. -/
  | cpWatchdogExpiry
  /-- WATCHDOG_KICK (R339): A write to CP_WDOG kicks the processor watchdog. -/
  | watchdogKick (src : Src)
  /-- PROCESSOR_RESUME (R339): After a restart the ROM re-verifies the image and resumes service, answering taken
  commands RESTARTED. -/
  | processorResume
  /-- BUS_ACCESS (R344): A master's access or burst to a target is arbitrated by priority and carried out or refused. -/
  | busAccess (reqs : List BusReq)
  /-- LOCK_TIMEOUT (R347): A locked sequence not unlocked within 4,096 CLK_CTL cycles is broken with a LOCK_BROKEN
  record. -/
  | lockTimeout (m : Nat)
  /-- SEMAPHORE_READ (R349): A read of a free semaphore returns 0 and makes the reader its holder; a held one returns
  1. -/
  | semaphoreRead (n : Nat) (srcs : List Src)
  /-- SEMAPHORE_RELEASE (R349): A write of 0 by the holder frees the semaphore. -/
  | semaphoreRelease (n : Nat) (src : Src) (data : Word)
  /-- BANK_OWNER_WRITE (R351): A secure write to MB_OWNER_n requests a bank hand-over and sets pending. -/
  | bankOwnerWrite (src : Src) (n : Nat) (be : Nat) (data : Word)
  /-- BANK_HANDOVER (R351): After the old owner's burst ends the bank passes to the new owner with a BANK_OWNER
  record. -/
  | bankHandover (n : Nat)
  /-- MASTER_WATCHDOG_EXPIRY (R352): A master watchdog expires; its banks pass to CP and its semaphores are freed. -/
  | masterWatchdogExpiry (m : Nat)
  /-- BANK_WAKE_DONE (R354): A bank leaving RETAIN or OFF completes its wake and zero fill and becomes ON. -/
  | bankWakeDone (n : Nat)
  -- Host interface (R363 to R381)
  /-- PERST_ASSERT (R365): PERST_N resets the PCIe endpoint and MBX_LINK and clears pcie_sec. -/
  | perstAssert
  /-- PERST_DEASSERT (R365): PERST_N deassertion starts link training of the endpoint. -/
  | perstDeassert
  /-- PCIE_LINK_UP (R365): The PCIe link comes up and deferred MSI-X messages and MB6 ownership return to the host. -/
  | pcieLinkUp (speed : Nat) (width : Nat) (bme : Bool)
  /-- PCIE_LINK_DOWN (R365): The PCIe link goes down, counting downs and raising the link-down source. -/
  | pcieLinkDown
  /-- MAILBOX_POST (R369): A write of 1 to MBX_CTL.go posts the command on a command channel. -/
  | mailboxPost (src : Src) (n : Nat)
  /-- MAILBOX_TAKE (R370): The processor takes an eligible command channel by group and round robin and carries the
  command out. -/
  | mailboxTake
  /-- MAILBOX_REPLY_CLEAR (R369): The host writes 1 to the reply channel's go to clear it after reading the reply. -/
  | mailboxReplyClear (src : Src) (n : Nat)
  /-- MAILBOX_ABORT (R371): A write of 1 to MBX_CTL.abort cancels a posted command not yet taken, or sets abort_late. -/
  | mailboxAbort (src : Src) (n : Nat)
  /-- SMB_SET_ADDR (R380): The SMBus SET_ADDR command sets the BAR offset of the next access. -/
  | smbSetAddr (addr : Nat) (pec : Bool)
  /-- SMB_READ (R380): The SMBus READ command returns eight registers and advances the address by 32. -/
  | smbRead
  /-- SMB_WRITE (R380): The SMBus WRITE command writes one register and advances the address by 4. -/
  | smbWrite (data : Word) (pec : Bool)
  /-- SMB_TEMP (R380): The SMBus TEMP command returns the hottest junction temperature. -/
  | smbTemp (t : Int)
  /-- SMB_STATUS (R380): The SMBus STATUS command returns boot state, fault, OSCI, link and lifecycle status. -/
  | smbStatus
  /-- SMB_ALERT_MASK (R380): The SMBus ALERT_MASK command writes or reads the conditions that drive SMB_ALERT_N. -/
  | smbAlertMask (write : Option Nat) (pec : Bool)
  /-- SMB_ALERT_RESPONSE (R381): The Heset answers the alert response address with 0x5A. -/
  | smbAlertResponse
  /-- SMB_CLOCK_TIMEOUT (R380): An SMBus clock held low for more than 25 ms releases the bus and counts smb_timeout. -/
  | smbClockTimeout
  -- Records, counters and interrupts (R382 to R400)
  /-- RECORD_ACCEPT (R383): The event engine accepts a waiting record, numbers and stamps it, and stores it in MB3. -/
  | recordAccept (bad : Bool)
  /-- RECORD_ARCHIVE (R387): Unarchived MB3 slots are written to the DDR5 ring in sequence order and freed. -/
  | recordArchive
  /-- FLASH_COPY_PROGRAM (R389): Flash copies are programmed into the record copy region, erasing the next sector
  ahead. -/
  | flashCopyProgram (bad : Bool)
  /-- FREEZE (R391): The FREEZE command stops writes to MB3 and the ring and diverts new records to a holding queue. -/
  | freeze (n : Nat)
  /-- THAW (R391): The THAW command ends a freeze and drains the holding queue into MB3. -/
  | thaw (n : Nat)
  /-- FREEZE_EXPIRY (R391): The freeze limit expires, ending the freeze with a FREEZE_EXPIRED record. -/
  | freezeExpiry
  /-- CLEAR_EVT (R392): The CLEAR_EVT command empties MB3, the ring and the record queues, leaving an EVT_CLEAR
  record. -/
  | clearEvt (n : Nat) (x : BulkIn)
  /-- HARVEST_EVT (R396): The HARVEST_EVT command delivers records from a harvest queue or the flash copies in bulk. -/
  | harvestEvt (n : Nat)
  /-- HARVEST_PM (R396): The HARVEST_PM command delivers closed PM bins from HQ_PM in bulk. -/
  | harvestPm (n : Nat)
  /-- CURSOR_NEXT (R393): The next cursor command moves to the oldest later record that passes the filter, or to
  AT_END. -/
  | cursorNext
  /-- CURSOR_PREV (R393): The prev cursor command moves to the newest earlier record that passes the filter. -/
  | cursorPrev
  /-- CURSOR_MARK (R393): The mark cursor command sets EVR_MARK to EVR_CUR. -/
  | cursorMark
  /-- CURSOR_REWIND (R393): The rewind cursor command seeks to EVR_MARK. -/
  | cursorRewind
  /-- CURSOR_OLDEST (R393): The oldest cursor command goes to the oldest record held. -/
  | cursorOldest
  /-- CURSOR_NEWEST (R393): The newest cursor command goes to the newest record held. -/
  | cursorNewest
  /-- CURSOR_SEEK (R393): A write of EVR_CUR seeks to that sequence number or the next held record. -/
  | cursorSeek (n : Nat)
  /-- CURSOR_STATE_READ (R394): A read of EVR_CUR_ST that returns LOST moves the cursor and mark to the oldest record
  and loads EVR_CUR_LOST. -/
  | cursorStateRead
  /-- HQ_FLUSH_REQUEST (R396): A write of HQ_CTL.flush requests a flush of the harvest queue. -/
  | hqFlushRequest (q : Nat)
  /-- HQ_FLUSH (R396): A requested harvest queue flush takes effect at the next item boundary. -/
  | hqFlush (q : Nat)
  /-- PC_SNAP (R397): A write of PC_CTL.snap copies all 64 counts into PC_SNAP. -/
  | pcSnap (clear : Bool)
  /-- PC_CLEAR (R397): A write of PC_CTL.clear zeroes all 64 counts. -/
  | pcClear
  /-- IRQ_STK_CLEAR (R399): A W1C write to IRQ_STK clears sticky bits and resends MSI-X for bits that stay set. -/
  | irqStkClear (g : Nat) (mask : Nat) (secure : Bool)
  /-- MSIX_SPACING_EXPIRY (R399): The irq_mod spacing of a vector ends and merged messages due meanwhile are sent as
  one. -/
  | msixSpacingExpiry (v : Nat)
  -- Memory, power and pins (R403 to R442)
  /-- DDR_TRAINING_COMPLETE (R407): DDR5 training and zero fill of the fitted channels end, bringing DDR5 UP or
  leaving a channel down. -/
  | ddrTrainingComplete (ms : Nat) (bad : List (Nat × Nat × Nat))
  /-- DDR_RETRAIN (R408): Every 10 s while a channel is down every fitted channel is retrained. -/
  | ddrRetrain
  /-- DDR_REFRESH (R411): The controller refreshes each component at the rate its MR4 field calls for. -/
  | ddrRefresh
  /-- DDR_DQS_RECENTRE (R411): Every 100 ms DQS timing is re-centred from the interval oscillators. -/
  | ddrDqsRecentre
  /-- DDR_PATROL_SCRUB (R411): A patrol scrub reads every word in use once per ddr_scrub_h hours. -/
  | ddrPatrolScrub (corr : List (Nat × Nat)) (ue : List Nat)
  /-- DDR_ECC_CORR (R411): Each second with corrected DDR5 errors writes one DDR_ECC_CORR record per channel. -/
  | ddrEccCorr
  /-- PWR_DOMAIN_TRANSITION_DONE (R417): A domain power-up or shut-down completes, writes a PWR_DOMAIN record and
  starts any pending opposite transition. -/
  | pwrDomainTransitionDone (d : Nat) (us : Nat)
  /-- PWR_SEQ_FAULT (R418): Rails not reaching or leaving their levels within 1 ms leave the domain OFF with a
  PWR_SEQ_FAULT record. -/
  | pwrSeqFault (d : Nat)
  /-- POWER_ON_RESET (R420): PORST_N assertion or a supply below threshold resets every domain except PD_BAT. -/
  | powerOnReset
  /-- RESET_N_ASSERT (R420): RESET_N assertion resets with SYSTEM scope or restarts the processor with CONTROL scope. -/
  | resetNAssert
  /-- THERMAL_TRIP (R420): The hottest sensor above 125 °C for 1 ms applies a SYSTEM-scope reset. -/
  | thermalTrip
  /-- THERMAL_TRIP_END (R420): The sensor falling below 115 °C releases the thermal reset. -/
  | thermalTripEnd
  /-- UNDERVOLTAGE (R439): A rail below its threshold for 2 µs causes a power-on reset without a gasp. -/
  | undervoltage
  /-- SUPPLY_SWITCH_VBAT (R439): PD_BAT switches to VBAT when VDD_IO falls below its threshold. -/
  | supplySwitchVbat
  /-- TRST_ASSERT (R420): TRST_N resets the JTAG TAP and the DEBUG master. -/
  | trstAssert
  /-- MAIN_SUPPLY_RESTORE (R439): The main supply returns: PD_BAT moves from VBAT back to VDD_IO, bat_lost is set if
  PD_BAT was reset, and the internal power-on reset ends 1 ms after the last rail crosses its threshold. -/
  | mainSupplyRestore
  /-- FLASH_GNT_CHANGE (R209): On a rank-low device a change of FLASH_GNT lets it drive the xSPI pins and resume a
  boot, flash copy or FLASH_WRITE waiting for the flash, or makes it release them. -/
  | flashGntChange (level : Bool) (ms : Nat)
  /-- BACKGROUND_COMMAND_DONE (R370): A background command (FLASH_WRITE, HARVEST_PM, HARVEST_EVT, PROVISION,
  LC_ADVANCE) or a queued ATTEST finishes its long operation, writes its bulk and posts its reply. -/
  | backgroundCommandDone (n : Nat) (x : DoneIn)
  /-- TAMPER_DEASSERT (R332): An active TAMPER_N input deasserts, ending the hold of MB5 and the secure channels in
  the wiped state and clearing CP_TAMPER.level. -/
  | tamperDeassert (k : Nat)
  /-- MSIX_ENABLE (R399): The host enables MSI-X in configuration space, and the Heset sends one message for each
  vector that has a pending bit routed to it. -/
  | msixEnable (on : Bool)
  /-- JUNCTION_TEMP_THRESHOLD (R398): The hottest junction sensor crosses RECORDS.temp_warn or temp_crit, raising or
  lowering the level sources of group 15 and writing TEMP_WARN or TEMP_CRIT. -/
  | junctionTempThreshold (t : Int)
  /-- FREQUENCY_FAULT (R268): A candidate's 16 s average frequency offset passes or returns within TIMING.ref_ppm,
  disqualifying it or restarting its wait-to-restore. -/
  | frequencyFault (c : Nat) (freq : Int)
  deriving DecidableEq, Repr

end Sys2Proof
end

