-- ==== Sys2Proof/Decode.lean ====
section
/-!
DEFINITION. Sys2Proof/Decode.lean: the commands of the Heset 128 have no encoding: no row of the opcode table gives bits.
-/
namespace Sys2Proof

/-- The command that a word spells by the bits of the opcode table: none, because the table gives no bits. -/
def decodeTableWord (_nbits _w : Nat) : Option Instr := none

end Sys2Proof
end

