-- ==== Sys2Proof/Machine/Data.lean ====
section
/-!
DEFINITION. Sys2Proof/Machine/Data.lean: sparse tables in canonical form, bit fields, byte order and signed numbers.
-/
namespace Sys2Proof.Machine

/-- The value of key `k` in a table; an unlisted key has the value `d k`. -/
def tget {α : Type} (d : Nat → α) : List (Nat × α) → Nat → α
  | [], k => d k
  | (q, v) :: t, k => if k = q then v else tget d t k

/-- Put `v` at key `k`, keeping the keys of a sorted table strictly rising. -/
def tput {α : Type} : List (Nat × α) → Nat → α → List (Nat × α)
  | [], k, v => [(k, v)]
  | (q, w) :: t, k, v =>
    if k = q then (k, v) :: t else if k < q then (k, v) :: (q, w) :: t else (q, w) :: tput t k v

/-- Remove key `k`. -/
def tdel {α : Type} (t : List (Nat × α)) (k : Nat) : List (Nat × α) := t.filter fun p => p.1 != k

/-- Give key `k` the value `v`; a key at its default is not listed, so equal tables are equal lists. -/
def tset {α : Type} [DecidableEq α] (d : Nat → α) (t : List (Nat × α)) (k : Nat) (v : α) : List (Nat × α) :=
  if v = d k then tdel t k else tput t k v

/-- The keys of a table rise strictly, above `lo`. -/
def keysAbove {α : Type} (lo : Nat) : List (Nat × α) → Bool
  | [] => true
  | (q, _) :: t => decide (lo ≤ q) && keysAbove (q + 1) t

/-- The canonical form of a table: keys strictly rising, no entry at its default. -/
def twf {α : Type} [DecidableEq α] (d : Nat → α) (t : List (Nat × α)) : Bool :=
  keysAbove 0 t && t.all fun p => decide (p.2 ≠ d p.1)

/-- Apply `f` to the value of key `k`. -/
def tmod {α : Type} [DecidableEq α] (d : Nat → α) (t : List (Nat × α)) (k : Nat) (f : α → α) : List (Nat × α) :=
  tset d t k (f (tget d t k))

/-- Apply `f` to every listed value. -/
def tmap {α : Type} [DecidableEq α] (d : Nat → α) (t : List (Nat × α)) (f : α → α) : List (Nat × α) :=
  (t.map fun p => (p.1, f p.2)).filter fun p => decide (p.2 ≠ d p.1)

/-- The number in bits hi down to lo of a register (R2). -/
def bitsOf (w : Word) (hi lo : Nat) : Nat := (w.toNat >>> lo) % 2 ^ (hi + 1 - lo)

/-- The mask with ones in bits hi down to lo. -/
def maskOf (hi lo : Nat) : Word := BitVec.ofNat 32 ((2 ^ (hi + 1 - lo) - 1) <<< lo)

/-- A register with bits hi down to lo replaced by the low bits of `v`. -/
def withBits (w : Word) (hi lo v : Nat) : Word :=
  (w &&& ~~~ maskOf hi lo) ||| (BitVec.ofNat 32 (v <<< lo) &&& maskOf hi lo)

/-- Bit `i` of a number. -/
def bit (v i : Nat) : Bool := v.testBit i

/-- 1 for true, 0 for false. -/
def b2n (b : Bool) : Nat := if b then 1 else 0

/-- Bits hi down to lo of a number. -/
def slice (v hi lo : Nat) : Nat := (v >>> lo) % 2 ^ (hi + 1 - lo)

/-- The number that a list of bits spells, bit 0 first. -/
def ofBits : List Bool → Nat
  | [] => 0
  | b :: t => b2n b + 2 * ofBits t

/-- The `n` bytes of `v`, least significant first (R3). -/
def leBytes : Nat → Nat → List Byte
  | 0, _ => []
  | n + 1, v => BitVec.ofNat 8 v :: leBytes n (v / 256)

/-- The number that bytes spell, least significant first (R3). -/
def leNat : List Byte → Nat
  | [] => 0
  | b :: t => b.toNat + 256 * leNat t

/-- The number that bytes spell, most significant first (R3: the order of the line). -/
def beNat (l : List Byte) : Nat := l.foldl (fun a b => 256 * a + b.toNat) 0

/-- The `n` bytes of `v`, most significant first. -/
def beBytes (n v : Nat) : List Byte := (leBytes n v).reverse

/-- The signed number that `w` bits of two's complement spell. -/
def signedOf (w v : Nat) : Int :=
  if 2 ^ (w - 1) ≤ v % 2 ^ w then (v % 2 ^ w : Nat) - (2 ^ w : Nat) else (v % 2 ^ w : Nat)

/-- A number in two's complement of `w` bits. -/
def unsignedOf (w : Nat) (v : Int) : Nat := (v % (2 ^ w : Nat)).toNat

/-- The nearer bound of a range, for a value outside it. -/
def clampI (lo hi v : Int) : Int := if v < lo then lo else if hi < v then hi else v

/-- The nearer bound of a range, for a value outside it. -/
def clampN (lo hi v : Nat) : Nat := if v < lo then lo else if hi < v then hi else v

/-- `v` or the all-ones value of `w` bits, whichever is smaller (R10). -/
def satN (w v : Nat) : Nat := if 2 ^ w ≤ v then 2 ^ w - 1 else v

/-- Division that rounds up. -/
def ceilDiv (a b : Nat) : Nat := (a + b - 1) / b

/-- Pieces of `n` elements of a list, from its first element; `fuel` bounds the number of pieces. -/
def chunks {α : Type} (n : Nat) : Nat → List α → List (List α)
  | 0, _ => []
  | _ + 1, [] => []
  | f + 1, l => l.take n :: chunks n f (l.drop n)

/-- Apply a step for each element of a list, in order. -/
def forEach {α σ : Type} (l : List α) (s : σ) (f : σ → α → σ) : σ := l.foldl f s

/-- A list without its repeats, first occurrence kept. -/
def dedup (l : List Nat) : List Nat := (l.foldl (fun a x => if a.contains x then a else x :: a) []).reverse

end Sys2Proof.Machine
end

