-- ==== Sys2Proof/Machine/Crc.lean ====
section
/-!
DEFINITION. Sys2Proof/Machine/Crc.lean: the four check value algorithms of Table 9-5 (R248), used by R80, R116, R117,
R133, R215, R237, R249 and R287.
-/
namespace Sys2Proof.Machine

/-- Apply `f` `n` times. -/
def timesN {α : Type} (f : α → α) : Nat → α → α
  | 0, x => x
  | n + 1, x => timesN f n (f x)

/-- One bit of a reflected CRC with the bit-reversed polynomial `poly`. -/
def crcBitR (poly c : Nat) : Nat := if c % 2 = 1 then (c / 2) ^^^ poly else c / 2

/-- One byte of a reflected CRC. -/
def crcByteR (poly c : Nat) (b : Byte) : Nat := timesN (crcBitR poly) 8 (c ^^^ b.toNat)

/-- One bit of a CRC of `w` bits, most significant bit first. -/
def crcBitL (w poly c : Nat) : Nat :=
  if c.testBit (w - 1) then ((c * 2) % 2 ^ w) ^^^ poly else (c * 2) % 2 ^ w

/-- One byte of a CRC of `w` bits, most significant bit first. -/
def crcByteL (w poly c : Nat) (b : Byte) : Nat := timesN (crcBitL w poly) 8 (c ^^^ (b.toNat <<< (w - 8)))

/-- One byte into the working register of algorithm `a` of Table 9-5. -/
def crcByte (a c : Nat) (b : Byte) : Nat :=
  match a with
  | 0 => crcByteR 0x82F63B78 c b
  | 1 => crcByteR 0xEDB88320 c b
  | 2 => crcByteL 16 0x1021 c b
  | _ => crcByteL 64 0x42F0E1EBA9EA3693 c b

/-- Initial value of algorithm `a`. -/
def crcInit : Nat → Nat
  | 0 => 0xFFFFFFFF | 1 => 0xFFFFFFFF | 2 => 0xFFFF | _ => 0

/-- Final XOR value of algorithm `a`. -/
def crcFinal : Nat → Nat
  | 0 => 0xFFFFFFFF | 1 => 0xFFFFFFFF | _ => 0

/-- Bytes into a working register. -/
def crcFeed (a c : Nat) (l : List Byte) : Nat := l.foldl (crcByte a) c

/-- The check value of a byte string. -/
def crcOf (a : Nat) (l : List Byte) : Nat := crcFeed a (crcInit a) l ^^^ crcFinal a

/-- CRC-32C of a byte string. -/
def crc32c (l : List Byte) : Nat := crcOf 0 l

/-- CRC-16/CCITT of a byte string. -/
def crc16 (l : List Byte) : Nat := crcOf 2 l

end Sys2Proof.Machine
end

