-- ==== Sys2Proof/Config.lean ====
section
/-!
DEFINITION. Sys2Proof/Config.lean: what one device fixes, and the free values. Every constant here is opaque: nothing in
Lean can evaluate it or prove a value of it, so what is proved holds whatever it is.
-/
namespace Sys2Proof

/-- The values that the spec leaves open, drawn one after another by the counter State.free. -/
opaque Config.freeValue : Nat → Nat

/-- The fill of an adaptation buffer, in 66B blocks, about which a mapper inserts and deletes idle blocks (R104, which gives
the buffer's size alone). -/
opaque Config.adaptMid : Nat

/-- The 24 bytes of a heartbeat, as a number whose low byte is sent first (R197 gives their content and not their layout):
rank, mode, role, boot epoch, first 32 bits of the image digest, generation. -/
opaque Config.beat (rank mode role epoch digest gen : Nat) : BitVec 192

/-- The fused ball offset of a lane, receive or transmit (LN_CAL, R56): a 12-bit number that test fixes for one device. -/
opaque Config.ball : Nat → Bool → Nat

/-- The bytes of the mask ROM (R340), whose contents the spec does not give. -/
opaque Config.rom : Nat → Byte

/-- SHA3-512, which the spec names (R316, R319, R334) and does not write out: the number of its 64 bytes. -/
opaque Config.sha3 : List Byte → Nat

/-- Whether ML-DSA-87 accepts a signature: public key, message, context string, signature (R316). -/
opaque Config.verify : List Byte → List Byte → List Byte → List Byte → Bool

/-- Whether ML-DSA-87 accepts a signature by the key that a fused key slot stands for: its hash, message, context string,
signature (R377). A token carries no public key, and the slot holds only its hash. -/
opaque Config.tokenVerify : List Byte → List Byte → List Byte → List Byte → Bool

/-- An ML-DSA-87 signature by the key of a seed: seed, message, context string; the number of its 4,627 bytes (R334). -/
opaque Config.sign : List Byte → List Byte → List Byte → Nat

/-- The ML-DSA-87 public key of a seed: the number of its 2,592 bytes (R328). -/
opaque Config.publicKey : List Byte → Nat

end Sys2Proof
end

