-- ==== Sys2Proof/Machine/RecordMap.lean ====
section
/-!
DEFINITION. Sys2Proof/Machine/RecordMap.lean: the record types (Tables 15-3 and 16-10, R385), and the event source
that each occurrence raises (Table 15-8, R398).
-/
namespace Sys2Proof.Machine

/-- A record type: group, item, severity, secure, and the interrupt source of the occurrence, if it has one. -/
structure RecKind where
  group : Nat
  item  : Nat
  sev   : Nat
  sec   : Bool
  src   : Option Nat
  deriving DecidableEq, Repr

/-- The type number of Table 15-1: group in bits 15:8, item in bits 7:0. -/
def RecKind.typ (k : RecKind) : Nat := 256 * k.group + k.item


/-! Group 0x00 -/
def kPAD : RecKind := ⟨0x00, 0x01, 7, false, none⟩
def kSESSION : RecKind := ⟨0x00, 0x02, 5, true, none⟩
def kHOST_LINK : RecKind := ⟨0x00, 0x03, 5, false, none⟩

/-! Group 0x01 -/
def kLANE_UP : RecKind := ⟨0x01, 0x01, 5, false, none⟩
def kLANE_DOWN : RecKind := ⟨0x01, 0x02, 2, false, none⟩
def kLANE_TERM_STEP : RecKind := ⟨0x01, 0x03, 4, false, none⟩
def kMOD_INT_RATE : RecKind := ⟨0x01, 0x04, 4, false, none⟩

/-! Group 0x02 -/
def kMATE_ROLE : RecKind := ⟨0x02, 0x01, 3, false, some 68⟩
def kMATE_TAKEOVER : RecKind := ⟨0x02, 0x02, 1, false, some 70⟩
def kMATE_PATH_DEGRADED : RecKind := ⟨0x02, 0x03, 3, false, some 71⟩
def kMATE_CONFIG : RecKind := ⟨0x02, 0x04, 2, false, some 73⟩
def kMATE_IMAGE_MISMATCH : RecKind := ⟨0x02, 0x05, 2, false, some 73⟩
def kFLASH_SEIZED : RecKind := ⟨0x02, 0x06, 1, false, some 74⟩
def kMATE_RECORDER_FAULT : RecKind := ⟨0x02, 0x07, 1, false, some 75⟩
def kMATE_LATE : RecKind := ⟨0x02, 0x08, 2, false, some 76⟩

/-! Group 0x03 -/
def kDEFECT_SET : RecKind := ⟨0x03, 0x01, 3, false, none⟩
def kDEFECT_CLEAR : RecKind := ⟨0x03, 0x02, 5, false, none⟩
def kALIGN_AMBIGUOUS : RecKind := ⟨0x03, 0x03, 4, false, some 103⟩
def kTTI_CHANGE : RecKind := ⟨0x03, 0x04, 5, false, some 102⟩
def kTCA : RecKind := ⟨0x03, 0x05, 4, false, some 101⟩
def kFRAMER_FAULT : RecKind := ⟨0x03, 0x06, 0, false, none⟩

/-! Group 0x04 -/
def kADAPT_OVF : RecKind := ⟨0x04, 0x01, 3, false, some 128⟩
def kCTX_ECC : RecKind := ⟨0x04, 0x02, 1, false, some 129⟩
def kHOST_SLIP : RecKind := ⟨0x04, 0x03, 4, false, some 130⟩
def kFLEXE_CAL_TIMEOUT : RecKind := ⟨0x04, 0x04, 3, false, some 131⟩

/-! Group 0x05 -/
def kSLICE_FAIL : RecKind := ⟨0x05, 0x01, 1, false, some 162⟩
def kFABRIC_DEGRADED : RecKind := ⟨0x05, 0x02, 0, false, some 163⟩
def kFABRIC_FAIL : RecKind := ⟨0x05, 0x03, 0, false, none⟩
def kCOPPICE_DONE : RecKind := ⟨0x05, 0x04, 6, false, some 165⟩
def kCOPPICE_MISMATCH : RecKind := ⟨0x05, 0x05, 2, false, some 166⟩

/-! Group 0x06 -/
def kCLAMP : RecKind := ⟨0x06, 0x01, 4, false, some 198⟩
def kRESIDENCE_MISMATCH : RecKind := ⟨0x06, 0x02, 2, false, some 199⟩
def kAPPLY_DONE : RecKind := ⟨0x06, 0x03, 5, false, some 192⟩
def kAPPLY_FAILED : RecKind := ⟨0x06, 0x04, 2, false, some 193⟩
def kHIT_EXCEEDED : RecKind := ⟨0x06, 0x05, 3, false, some 197⟩
def kPLAN_STEP : RecKind := ⟨0x06, 0x06, 5, false, some 194⟩
def kPLAN_DONE : RecKind := ⟨0x06, 0x07, 5, false, some 195⟩
def kPLAN_HALTED : RecKind := ⟨0x06, 0x08, 2, false, some 196⟩

/-! Group 0x07 -/
def kQS_SWITCH : RecKind := ⟨0x07, 0x01, 3, false, some 224⟩
def kSWITCH_DROPPED : RecKind := ⟨0x07, 0x02, 2, false, some 228⟩
def kAPS_FAIL : RecKind := ⟨0x07, 0x03, 2, false, some 225⟩
def kFORCE_RATE : RecKind := ⟨0x07, 0x04, 4, false, some 227⟩
def kFORCE_DROPPED : RecKind := ⟨0x07, 0x05, 3, false, some 229⟩
def kQS_ENGINE_FAULT : RecKind := ⟨0x07, 0x06, 1, false, some 230⟩

/-! Group 0x08 -/
def kTRIB_MISMATCH : RecKind := ⟨0x08, 0x01, 2, false, some 260⟩
def kEVG_OFFSET : RecKind := ⟨0x08, 0x02, 4, false, none⟩
def kEVG_ANCHOR : RecKind := ⟨0x08, 0x03, 5, false, none⟩
def kEVG_REANCHOR : RecKind := ⟨0x08, 0x04, 3, false, some 258⟩
def kEVG_DMAX : RecKind := ⟨0x08, 0x05, 2, false, some 259⟩
def kEVG_RESYNC : RecKind := ⟨0x08, 0x06, 3, false, some 257⟩

/-! Group 0x09 -/
def kPATH_FAULT : RecKind := ⟨0x09, 0x01, 1, false, some 288⟩
def kPATH_CLEAR : RecKind := ⟨0x09, 0x02, 5, false, some 289⟩
def kTWIG_FAULT : RecKind := ⟨0x09, 0x03, 1, false, some 290⟩
def kTWIG_CLEAR : RecKind := ⟨0x09, 0x04, 5, false, some 291⟩

/-! Group 0x0A -/
def kCVU_MISMATCH : RecKind := ⟨0x0A, 0x01, 4, false, none⟩

/-! Group 0x0C -/
def kOSC_MISMATCH : RecKind := ⟨0x0C, 0x01, 4, false, some 397⟩
def kOSC_LOSS : RecKind := ⟨0x0C, 0x02, 0, false, none⟩
def kSERVO_RUNAWAY : RecKind := ⟨0x0C, 0x03, 1, false, some 391⟩
def kSERVO_FAULT : RecKind := ⟨0x0C, 0x04, 0, false, none⟩
def kREF_LOS : RecKind := ⟨0x0C, 0x05, 3, false, some 387⟩
def kREF_DISAGREE : RecKind := ⟨0x0C, 0x06, 3, false, some 388⟩
def kREF_SWITCH : RecKind := ⟨0x0C, 0x07, 4, false, some 386⟩
def kSERVO_STATE : RecKind := ⟨0x0C, 0x08, 4, false, none⟩
def kTIME_STEP : RecKind := ⟨0x0C, 0x09, 3, false, some 389⟩
def kRTC_XTAL : RecKind := ⟨0x0C, 0x0A, 2, false, none⟩
def kTIME_SET : RecKind := ⟨0x0C, 0x0B, 4, true, some 396⟩
def kRTC_AHEAD : RecKind := ⟨0x0C, 0x0C, 4, false, some 395⟩

/-! Group 0x0D -/
def kLOCKSTEP_FAULT : RecKind := ⟨0x0D, 0x01, 1, false, some 416⟩
def kCP_WATCHDOG : RecKind := ⟨0x0D, 0x02, 1, false, some 417⟩
def kDECODE_ERR : RecKind := ⟨0x0D, 0x03, 4, false, some 418⟩
def kLOCK_BROKEN : RecKind := ⟨0x0D, 0x04, 3, false, some 419⟩
def kBURST_ABORT : RecKind := ⟨0x0D, 0x05, 4, false, some 420⟩
def kBANK_DENY : RecKind := ⟨0x0D, 0x06, 4, false, some 421⟩
def kBANK_OWNER : RecKind := ⟨0x0D, 0x07, 6, false, none⟩
def kBANK_RECLAIM : RecKind := ⟨0x0D, 0x08, 3, false, some 424⟩
def kBANK_ECC : RecKind := ⟨0x0D, 0x09, 1, false, some 422⟩
def kWORLD_VIOLATION : RecKind := ⟨0x0D, 0x0A, 4, false, some 423⟩

/-! Group 0x0E -/
def kEVT_CLEAR : RecKind := ⟨0x0E, 0x01, 1, true, none⟩
def kFREEZE_EXPIRED : RecKind := ⟨0x0E, 0x02, 5, false, some 451⟩
def kHQ_LOST : RecKind := ⟨0x0E, 0x03, 4, false, some 457⟩
def kFLASH_COPY_FAIL : RecKind := ⟨0x0E, 0x04, 1, false, some 459⟩

/-! Group 0x0F -/
def kTAMPER : RecKind := ⟨0x0F, 0x01, 0, true, none⟩
def kLC_CHANGE : RecKind := ⟨0x0F, 0x02, 1, true, some 481⟩
def kATTEST : RecKind := ⟨0x0F, 0x03, 6, true, some 483⟩
def kKEY_REVOKED : RecKind := ⟨0x0F, 0x04, 1, true, some 482⟩
def kBOOT : RecKind := ⟨0x0F, 0x05, 5, false, none⟩
def kTEMP_WARN : RecKind := ⟨0x0F, 0x06, 3, false, none⟩
def kTEMP_CRIT : RecKind := ⟨0x0F, 0x07, 0, false, none⟩

/-! Group 0x0E -/
def kDDR_TRAINED : RecKind := ⟨0x0E, 0x20, 5, false, none⟩
def kDDR_TRAIN_FAIL : RecKind := ⟨0x0E, 0x21, 0, false, none⟩
def kDDR_CH_DOWN : RecKind := ⟨0x0E, 0x22, 0, false, none⟩
def kDDR_ECC_CORR : RecKind := ⟨0x0E, 0x23, 6, false, some 460⟩
def kDDR_ECC_UNCORR : RecKind := ⟨0x0E, 0x24, 1, false, some 461⟩
def kDDR_REGION_SHORT : RecKind := ⟨0x0E, 0x25, 2, false, none⟩
def kPWR_DOMAIN : RecKind := ⟨0x0E, 0x26, 6, false, none⟩
def kPWR_SEQ_FAULT : RecKind := ⟨0x0E, 0x27, 0, false, some 463⟩
def kRESET_CAUSE : RecKind := ⟨0x0E, 0x28, 5, false, none⟩

end Sys2Proof.Machine
end

