-- ==== Sys2Proof/Machine/ImageMap.lean ====
section
/-!
DEFINITION. Sys2Proof/Machine/ImageMap.lean: the image fields of the sixteen Ackar sections, written from the field
tables of spec/ (Tables 2-13, 3-11, 4-9, 5-10, 5-11, 6-8, 6-9, 7-10, 8-8, 9-9, 10-10, 11-7, 12-13, 13-9, 15-12, 16-12).
Section IDs are those the chapters give (0x01 DEVICE to 0x10 PLAN), entry kinds and field IDs those of R317.
-/
namespace Sys2Proof.Machine

/-- The clamp rules of Table 0-5 (R12). -/
inductive Clamp where
  | sat | dflt | drop | rej
  deriving DecidableEq, Repr

/-- The Range column of the field tables. -/
inductive Range where
  | any
  | span (lo hi : Int)
  | zeroBytes (bytes : List Nat)   -- a byte string whose named bytes are 0x00 (Table 3-11)
  | planSec                        -- 0x02 to 0x0C, or 0x0E (Table 6-9)
  | hitKey                         -- 0 to 2,559 for slots; 0 to 153,599 for twigs (Table 6-9)
  | pcSel                          -- bits 29:0 of PC_SEL, and bit 31 (Table 15-12)
  | cvuSel                         -- bits 20:9 slot 0 to 2,559; bits 8:0 twig 0 to 479 (Table 9-9)
  deriving DecidableEq, Repr

/-- The Default column of the field tables. -/
inductive Dflt where
  | absent                         -- "—": no default (R324)
  | val (v : Int)
  | indexPlus (v : Int)            -- the index of the array element plus a number
  | firstOnly                      -- 1 for index 0, 0 otherwise
  | sameAs (fid : Nat)             -- the value of another field of the entry
  | ptTx                           -- 0x22 for kind 1; 0x07 for kinds 2, 3 (Table 4-9)
  | bankWorld | bankShare          -- Table 13-3
  deriving DecidableEq, Repr

/-- One image field: section, entry kind, field ID, width, signedness, range, default, clamp rule, and for an array
field its first and last index. -/
structure ImgFld where
  sec    : Nat
  kind   : Nat
  fid    : Nat
  bits   : Nat
  signed : Bool
  range  : Range
  dflt   : Dflt
  clamp  : Clamp
  arr    : Option (Nat × Nat)
  deriving DecidableEq, Repr


/-! ### DEVICE (0x01) -/

def DEVICE_image_ver : ImgFld := ⟨0x01, 0, 0x01, 32, false, .any, .val (0), .dflt, none⟩
def DEVICE_lc_mask : ImgFld := ⟨0x01, 0, 0x02, 4, false, .span (1) 15, .val (6), .rej, none⟩
def DEVICE_bind_serial : ImgFld := ⟨0x01, 0, 0x03, 64, false, .any, .val (0), .rej, none⟩
def DEVICE_min_rev : ImgFld := ⟨0x01, 0, 0x04, 8, false, .span (0) 255, .val (177), .rej, none⟩
def DEVICE_confirm_s : ImgFld := ⟨0x01, 0, 0x05, 17, false, .span (10) 86400, .val (600), .sat, none⟩
def DEVICE_ddr_chan : ImgFld := ⟨0x01, 0, 0x06, 2, false, .span (0) 3, .val (3), .dflt, none⟩
def DEVICE_ddr_width : ImgFld := ⟨0x01, 0, 0x07, 1, false, .span (0) 1, .val (0), .dflt, none⟩
def DEVICE_ddr_density : ImgFld := ⟨0x01, 0, 0x08, 2, false, .span (0) 2, .val (0), .dflt, none⟩
def DEVICE_ddr_rate : ImgFld := ⟨0x01, 0, 0x09, 3, false, .span (0) 5, .val (5), .sat, none⟩
def DEVICE_ddr_scrub_h : ImgFld := ⟨0x01, 0, 0x0A, 8, false, .span (1) 168, .val (24), .sat, none⟩
def DEVICE_rst_scope : ImgFld := ⟨0x01, 0, 0x0B, 1, false, .span (0) 1, .val (0), .dflt, none⟩
def DEVICE_host_en : ImgFld := ⟨0x01, 0, 0x0C, 1, false, .span (0) 1, .val (1), .dflt, none⟩

/-! ### LANES (0x02) -/

def LANES_enable : ImgFld := ⟨0x02, 0, 0x01, 1, false, .span (0) 1, .val (0), .dflt, none⟩
def LANES_rate : ImgFld := ⟨0x02, 0, 0x02, 3, false, .span (0) 6, .val (0), .drop, none⟩
def LANES_format : ImgFld := ⟨0x02, 0, 0x03, 4, false, .span (0) 5, .val (0), .drop, none⟩
def LANES_width : ImgFld := ⟨0x02, 0, 0x04, 3, false, .span (1) 4, .val (1), .drop, none⟩
def LANES_profile : ImgFld := ⟨0x02, 0, 0x05, 3, false, .span (0) 4, .val (1), .dflt, none⟩
def LANES_tx_swing : ImgFld := ⟨0x02, 0, 0x06, 4, false, .span (0) 15, .val (12), .sat, none⟩
def LANES_tx_pre2 : ImgFld := ⟨0x02, 0, 0x07, 5, true, .span (-8) 0, .val (0), .sat, none⟩
def LANES_tx_pre1 : ImgFld := ⟨0x02, 0, 0x08, 5, true, .span (-16) 0, .val (-4), .sat, none⟩
def LANES_tx_post1 : ImgFld := ⟨0x02, 0, 0x09, 5, true, .span (-16) 0, .val (0), .sat, none⟩
def LANES_rx_eq : ImgFld := ⟨0x02, 0, 0x0A, 2, false, .span (0) 2, .val (0), .dflt, none⟩
def LANES_rx_pol : ImgFld := ⟨0x02, 0, 0x0B, 1, false, .span (0) 1, .val (0), .dflt, none⟩
def LANES_tx_pol : ImgFld := ⟨0x02, 0, 0x0C, 1, false, .span (0) 1, .val (0), .dflt, none⟩
def LANES_test : ImgFld := ⟨0x02, 0, 0x0D, 3, false, .span (0) 6, .val (0), .dflt, none⟩
def LANES_skew_max : ImgFld := ⟨0x02, 0, 0x0E, 9, false, .span (10) 500, .val (250), .sat, none⟩
def LANES_term_step : ImgFld := ⟨0x02, 0, 0x0F, 11, false, .span (25) 2000, .val (100), .sat, none⟩
def LANES_ser_thresh : ImgFld := ⟨0x02, 0, 0x10, 32, false, .span (1000) 1000000000, .val (240000000), .sat, none⟩
def LANES_flexe_group : ImgFld := ⟨0x02, 0, 0x11, 4, false, .span (0) 15, .val (0), .drop, none⟩
def LANES_flexe_phy : ImgFld := ⟨0x02, 0, 0x12, 8, false, .span (1) 254, .val (1), .drop, none⟩

/-! ### FRAMING (0x03) -/

def FRAMING_twig_n : ImgFld := ⟨0x03, 0, 0x01, 3, false, .span (1) 7, .val (3), .sat, none⟩
def FRAMING_twig_m : ImgFld := ⟨0x03, 0, 0x02, 4, false, .span (2) 15, .val (4), .sat, none⟩
def FRAMING_prof_es15 : ImgFld := ⟨0x03, 0, 0x03, 10, false, .span (0) 900, .val (0), .sat, some (1, 15)⟩
def FRAMING_prof_ses15 : ImgFld := ⟨0x03, 0, 0x04, 10, false, .span (0) 900, .val (0), .sat, some (1, 15)⟩
def FRAMING_prof_bbe15 : ImgFld := ⟨0x03, 0, 0x05, 32, false, .span (0) 4294967295, .val (0), .sat, some (1, 15)⟩
def FRAMING_prof_uas15 : ImgFld := ⟨0x03, 0, 0x06, 10, false, .span (0) 900, .val (0), .sat, some (1, 15)⟩
def FRAMING_prof_es24 : ImgFld := ⟨0x03, 0, 0x07, 17, false, .span (0) 86400, .val (0), .sat, some (1, 15)⟩
def FRAMING_prof_ses24 : ImgFld := ⟨0x03, 0, 0x08, 17, false, .span (0) 86400, .val (0), .sat, some (1, 15)⟩
def FRAMING_prof_bbe24 : ImgFld := ⟨0x03, 0, 0x09, 32, false, .span (0) 4294967295, .val (0), .sat, some (1, 15)⟩
def FRAMING_prof_uas24 : ImgFld := ⟨0x03, 0, 0x0A, 17, false, .span (0) 86400, .val (0), .sat, some (1, 15)⟩
def FRAMING_lead : ImgFld := ⟨0x03, 1, 0x0B, 7, false, .span (0) 127, .absent, .drop, none⟩
def FRAMING_oof_n : ImgFld := ⟨0x03, 1, 0x0C, 3, false, .span (1) 7, .val (2), .sat, none⟩
def FRAMING_oof_m : ImgFld := ⟨0x03, 1, 0x0D, 4, false, .span (2) 15, .val (5), .sat, none⟩
def FRAMING_flexo_gid : ImgFld := ⟨0x03, 1, 0x0E, 20, false, .span (1) 1048575, .val (1), .dflt, none⟩
def FRAMING_flexo_iid : ImgFld := ⟨0x03, 1, 0x0F, 8, false, .span (1) 254, .indexPlus 1, .drop, some (0, 3)⟩
def FRAMING_flexe_gnum : ImgFld := ⟨0x03, 1, 0x10, 20, false, .span (1) 1048574, .absent, .drop, none⟩
def FRAMING_ctx : ImgFld := ⟨0x03, 2, 0x11, 18, false, .span (0) 262143, .absent, .drop, none⟩
def FRAMING_layer : ImgFld := ⟨0x03, 2, 0x12, 4, false, .span (0) 8, .absent, .drop, none⟩
def FRAMING_mode : ImgFld := ⟨0x03, 2, 0x13, 2, false, .span (0) 3, .val (0), .dflt, none⟩
def FRAMING_peer_ctx : ImgFld := ⟨0x03, 2, 0x14, 18, false, .span (0) 262143, .sameAs 17, .dflt, none⟩
def FRAMING_tx_tti : ImgFld := ⟨0x03, 2, 0x15, 512, false, .zeroBytes [0, 16], .val 0, .dflt, none⟩
def FRAMING_exp_sapi : ImgFld := ⟨0x03, 2, 0x16, 128, false, .zeroBytes [0], .val 0, .dflt, none⟩
def FRAMING_exp_dapi : ImgFld := ⟨0x03, 2, 0x17, 128, false, .zeroBytes [0], .val 0, .dflt, none⟩
def FRAMING_tim_mode : ImgFld := ⟨0x03, 2, 0x18, 2, false, .span (0) 3, .val (0), .dflt, none⟩
def FRAMING_tim_act : ImgFld := ⟨0x03, 2, 0x19, 1, false, .span (0) 1, .val (1), .dflt, none⟩
def FRAMING_deg_thr : ImgFld := ⟨0x03, 2, 0x1A, 14, false, .span (1) 9999, .val (1000), .sat, none⟩
def FRAMING_deg_m : ImgFld := ⟨0x03, 2, 0x1B, 4, false, .span (2) 10, .val (7), .sat, none⟩
def FRAMING_sd_trig : ImgFld := ⟨0x03, 2, 0x1C, 1, false, .span (0) 1, .val (1), .dflt, none⟩
def FRAMING_pm : ImgFld := ⟨0x03, 2, 0x1D, 2, false, .span (0) 2, .val (1), .dflt, none⟩
def FRAMING_tca_prof : ImgFld := ⟨0x03, 2, 0x1E, 4, false, .span (0) 15, .val (0), .dflt, none⟩

/-! ### MAPPING (0x04) -/

def MAPPING_ctx : ImgFld := ⟨0x04, 0, 0x01, 18, false, .span (0) 262143, .absent, .drop, none⟩
def MAPPING_kind : ImgFld := ⟨0x04, 0, 0x02, 4, false, .span (0) 8, .absent, .drop, none⟩
def MAPPING_dir : ImgFld := ⟨0x04, 0, 0x03, 1, false, .span (0) 1, .absent, .drop, none⟩
def MAPPING_lead : ImgFld := ⟨0x04, 0, 0x04, 7, false, .span (0) 127, .absent, .drop, none⟩
def MAPPING_server : ImgFld := ⟨0x04, 0, 0x05, 18, false, .span (0) 262143, .sameAs 1, .drop, none⟩
def MAPPING_first : ImgFld := ⟨0x04, 0, 0x06, 10, false, .span (0) 639, .val (0), .drop, none⟩
def MAPPING_count : ImgFld := ⟨0x04, 0, 0x07, 7, false, .span (1) 80, .val (1), .drop, none⟩
def MAPPING_odu_mode : ImgFld := ⟨0x04, 0, 0x08, 1, false, .span (0) 1, .val (0), .dflt, none⟩
def MAPPING_pt_tx : ImgFld := ⟨0x04, 0, 0x09, 8, false, .span (0) 255, .ptTx, .dflt, none⟩
def MAPPING_pt_exp : ImgFld := ⟨0x04, 0, 0x0A, 8, false, .span (0) 255, .sameAs 9, .dflt, none⟩
def MAPPING_msi_tx : ImgFld := ⟨0x04, 0, 0x0B, 8, false, .span (0) 255, .val (0), .dflt, none⟩
def MAPPING_msi_exp : ImgFld := ⟨0x04, 0, 0x0C, 8, false, .span (0) 255, .val (0), .dflt, none⟩
def MAPPING_host : ImgFld := ⟨0x04, 0, 0x0D, 9, false, .span (0) 319, .absent, .drop, none⟩
def MAPPING_host_label_tx : ImgFld := ⟨0x04, 0, 0x0E, 64, false, .any, .val (0), .dflt, none⟩
def MAPPING_host_label_exp : ImgFld := ⟨0x04, 0, 0x0F, 64, false, .any, .val (0), .dflt, none⟩
def MAPPING_twig_first : ImgFld := ⟨0x04, 0, 0x10, 9, false, .span (0) 479, .absent, .drop, none⟩
def MAPPING_twig_n : ImgFld := ⟨0x04, 0, 0x11, 9, false, .span (1) 480, .val (1), .drop, none⟩
def MAPPING_cal_a : ImgFld := ⟨0x04, 0, 0x12, 19, false, .span (0) 262144, .val (262144), .dflt, some (0, 639)⟩
def MAPPING_cal_b : ImgFld := ⟨0x04, 0, 0x13, 19, false, .span (0) 262144, .val (262144), .dflt, some (0, 639)⟩
def MAPPING_cal_tx : ImgFld := ⟨0x04, 0, 0x14, 1, false, .span (0) 1, .val (0), .dflt, none⟩
def MAPPING_ca_timeout : ImgFld := ⟨0x04, 0, 0x15, 10, false, .span (10) 1000, .val (100), .sat, none⟩

/-! ### FABRIC_PAGE (0x05) -/

def FABRIC_PAGE_page_id : ImgFld := ⟨0x05, 0, 0x01, 32, false, .any, .val (0), .dflt, none⟩
def FABRIC_PAGE_coppice_min : ImgFld := ⟨0x05, 0, 0x02, 11, false, .span (1) 1440, .val (60), .sat, none⟩
def FABRIC_PAGE_slice_thr : ImgFld := ⟨0x05, 0, 0x03, 8, false, .span (1) 255, .val (4), .sat, none⟩
def FABRIC_PAGE_mate_slot : ImgFld := ⟨0x05, 1, 0x04, 12, false, .span (0) 2559, .absent, .rej, none⟩
def FABRIC_PAGE_mate_lane : ImgFld := ⟨0x05, 1, 0x05, 4, false, .span (0) 15, .absent, .rej, none⟩
def FABRIC_PAGE_mate_idx : ImgFld := ⟨0x05, 1, 0x06, 5, false, .span (0) 19, .absent, .rej, none⟩
def FABRIC_PAGE_wr_slot : ImgFld := ⟨0x05, 2, 0x07, 12, false, .span (0) 2559, .absent, .rej, none⟩
def FABRIC_PAGE_wr_cycle : ImgFld := ⟨0x05, 2, 0x08, 7, false, .span (0) 127, .absent, .rej, none⟩
def FABRIC_PAGE_wr_slice : ImgFld := ⟨0x05, 2, 0x09, 5, false, .span (0) 19, .absent, .rej, none⟩
def FABRIC_PAGE_rd_cycle : ImgFld := ⟨0x05, 3, 0x0A, 7, false, .span (0) 127, .absent, .rej, none⟩
def FABRIC_PAGE_rd_slice : ImgFld := ⟨0x05, 3, 0x0B, 5, false, .span (0) 19, .absent, .rej, none⟩
def FABRIC_PAGE_out : ImgFld := ⟨0x05, 3, 0x0C, 12, false, .span (0) 2559, .absent, .rej, none⟩
def FABRIC_PAGE_src_wc : ImgFld := ⟨0x05, 3, 0x0D, 7, false, .span (0) 127, .absent, .rej, none⟩
def FABRIC_PAGE_lag : ImgFld := ⟨0x05, 3, 0x0E, 5, false, .span (0) 31, .absent, .rej, none⟩
def FABRIC_PAGE_prot : ImgFld := ⟨0x05, 3, 0x0F, 1, false, .span (0) 1, .val (0), .rej, none⟩
def FABRIC_PAGE_alt_wc : ImgFld := ⟨0x05, 3, 0x10, 7, false, .span (0) 127, .val (0), .rej, none⟩
def FABRIC_PAGE_alt_lag : ImgFld := ⟨0x05, 3, 0x11, 5, false, .span (0) 31, .val (0), .rej, none⟩
def FABRIC_PAGE_qs_group : ImgFld := ⟨0x05, 3, 0x12, 10, false, .span (0) 1023, .val (0), .rej, none⟩
def FABRIC_PAGE_leaf : ImgFld := ⟨0x05, 3, 0x13, 3, false, .span (0) 7, .val (0), .rej, none⟩

/-! ### TWIG_PAGE (0x06) -/

def TWIG_PAGE_page_id : ImgFld := ⟨0x06, 0, 0x01, 32, false, .any, .val (0), .dflt, none⟩
def TWIG_PAGE_out_host : ImgFld := ⟨0x06, 1, 0x02, 9, false, .span (0) 319, .absent, .rej, none⟩
def TWIG_PAGE_out_twig : ImgFld := ⟨0x06, 1, 0x03, 9, false, .span (0) 479, .absent, .rej, none⟩
def TWIG_PAGE_src_host : ImgFld := ⟨0x06, 1, 0x04, 9, false, .span (0) 319, .absent, .rej, none⟩
def TWIG_PAGE_src_twig : ImgFld := ⟨0x06, 1, 0x05, 9, false, .span (0) 479, .absent, .rej, none⟩
def TWIG_PAGE_prot : ImgFld := ⟨0x06, 1, 0x06, 1, false, .span (0) 1, .val (0), .rej, none⟩
def TWIG_PAGE_alt_host : ImgFld := ⟨0x06, 1, 0x07, 9, false, .span (0) 319, .val (0), .rej, none⟩
def TWIG_PAGE_alt_twig : ImgFld := ⟨0x06, 1, 0x08, 9, false, .span (0) 479, .val (0), .rej, none⟩
def TWIG_PAGE_qs_group : ImgFld := ⟨0x06, 1, 0x09, 10, false, .span (0) 1023, .val (0), .rej, none⟩

/-! ### PROTECTION (0x07) -/

def PROTECTION_mate_mode : ImgFld := ⟨0x07, 0, 0x01, 2, false, .span (0) 2, .val (0), .dflt, none⟩
def PROTECTION_mate_gen : ImgFld := ⟨0x07, 0, 0x02, 4, false, .span (1) 8, .val (8), .sat, none⟩
def PROTECTION_force_cmd : ImgFld := ⟨0x07, 0, 0x03, 2, false, .span (0) 2, .val (0), .dflt, some (0, 3)⟩
def PROTECTION_force_first : ImgFld := ⟨0x07, 0, 0x04, 10, false, .span (0) 1023, .val (0), .sat, some (0, 3)⟩
def PROTECTION_force_last : ImgFld := ⟨0x07, 0, 0x05, 10, false, .span (0) 1023, .val (0), .sat, some (0, 3)⟩
def PROTECTION_grp : ImgFld := ⟨0x07, 1, 0x06, 10, false, .span (0) 1023, .absent, .drop, none⟩
def PROTECTION_level : ImgFld := ⟨0x07, 1, 0x07, 2, false, .span (0) 2, .absent, .drop, none⟩
def PROTECTION_type : ImgFld := ⟨0x07, 1, 0x08, 1, false, .span (0) 1, .val (0), .drop, none⟩
def PROTECTION_bidir : ImgFld := ⟨0x07, 1, 0x09, 1, false, .span (0) 1, .val (0), .drop, none⟩
def PROTECTION_aps : ImgFld := ⟨0x07, 1, 0x0A, 1, false, .span (0) 1, .val (0), .drop, none⟩
def PROTECTION_revert : ImgFld := ⟨0x07, 1, 0x0B, 1, false, .span (0) 1, .val (1), .dflt, none⟩
def PROTECTION_wtr : ImgFld := ⟨0x07, 1, 0x0C, 10, false, .span (1) 720, .val (300), .sat, none⟩
def PROTECTION_holdoff : ImgFld := ⟨0x07, 1, 0x0D, 7, false, .span (0) 100, .val (0), .sat, none⟩
def PROTECTION_w_ctx : ImgFld := ⟨0x07, 1, 0x0E, 19, false, .span (0) 262144, .val (262144), .drop, none⟩
def PROTECTION_p_ctx : ImgFld := ⟨0x07, 1, 0x0F, 19, false, .span (0) 262144, .val (262144), .drop, none⟩
def PROTECTION_w_mate : ImgFld := ⟨0x07, 1, 0x10, 1, false, .span (0) 1, .val (0), .dflt, none⟩
def PROTECTION_p_mate : ImgFld := ⟨0x07, 1, 0x11, 1, false, .span (0) 1, .val (0), .dflt, none⟩
def PROTECTION_aps_ctx : ImgFld := ⟨0x07, 1, 0x12, 19, false, .span (0) 262144, .val (262144), .drop, none⟩
def PROTECTION_int_trig : ImgFld := ⟨0x07, 1, 0x13, 1, false, .span (0) 1, .val (1), .dflt, none⟩
def PROTECTION_br_out : ImgFld := ⟨0x07, 2, 0x14, 12, false, .span (0) 2559, .absent, .drop, none⟩
def PROTECTION_br_grp : ImgFld := ⟨0x07, 2, 0x15, 10, false, .span (0) 1023, .absent, .drop, none⟩

/-! ### EVERGREEN (0x08) -/

def EVERGREEN_al_n : ImgFld := ⟨0x08, 0, 0x01, 3, false, .span (1) 7, .val (3), .sat, none⟩
def EVERGREEN_al_m : ImgFld := ⟨0x08, 0, 0x02, 4, false, .span (2) 15, .val (4), .sat, none⟩
def EVERGREEN_wrap : ImgFld := ⟨0x08, 1, 0x03, 12, false, .span (0) 4095, .absent, .drop, none⟩
def EVERGREEN_w_grain : ImgFld := ⟨0x08, 1, 0x04, 1, false, .span (0) 1, .absent, .drop, none⟩
def EVERGREEN_w_src : ImgFld := ⟨0x08, 1, 0x05, 18, false, .span (0) 262143, .absent, .drop, none⟩
def EVERGREEN_w_trib : ImgFld := ⟨0x08, 1, 0x06, 32, false, .span (1) 4294967295, .absent, .drop, none⟩
def EVERGREEN_w_first : ImgFld := ⟨0x08, 1, 0x07, 12, false, .span (0) 2559, .absent, .drop, none⟩
def EVERGREEN_w_host_a : ImgFld := ⟨0x08, 1, 0x08, 9, false, .span (0) 319, .absent, .drop, none⟩
def EVERGREEN_w_twig_a : ImgFld := ⟨0x08, 1, 0x09, 9, false, .span (0) 479, .absent, .drop, none⟩
def EVERGREEN_w_host_b : ImgFld := ⟨0x08, 1, 0x0A, 9, false, .span (0) 319, .absent, .drop, none⟩
def EVERGREEN_w_twig_b : ImgFld := ⟨0x08, 1, 0x0B, 9, false, .span (0) 479, .absent, .drop, none⟩
def EVERGREEN_merge : ImgFld := ⟨0x08, 2, 0x0C, 12, false, .span (0) 4095, .absent, .drop, none⟩
def EVERGREEN_m_grain : ImgFld := ⟨0x08, 2, 0x0D, 1, false, .span (0) 1, .absent, .drop, none⟩
def EVERGREEN_m_trib : ImgFld := ⟨0x08, 2, 0x0E, 32, false, .span (1) 4294967295, .absent, .drop, none⟩
def EVERGREEN_m_size : ImgFld := ⟨0x08, 2, 0x0F, 9, false, .span (1) 472, .absent, .drop, none⟩
def EVERGREEN_m_copy_a : ImgFld := ⟨0x08, 2, 0x10, 18, false, .span (0) 262143, .absent, .drop, none⟩
def EVERGREEN_m_mate_a : ImgFld := ⟨0x08, 2, 0x11, 1, false, .span (0) 1, .val (0), .dflt, none⟩
def EVERGREEN_m_copy_b : ImgFld := ⟨0x08, 2, 0x12, 18, false, .span (0) 262143, .absent, .drop, none⟩
def EVERGREEN_m_mate_b : ImgFld := ⟨0x08, 2, 0x13, 1, false, .span (0) 1, .val (0), .dflt, none⟩
def EVERGREEN_m_out_first : ImgFld := ⟨0x08, 2, 0x14, 12, false, .span (0) 2559, .absent, .drop, none⟩
def EVERGREEN_m_out_host : ImgFld := ⟨0x08, 2, 0x15, 9, false, .span (0) 319, .absent, .drop, none⟩
def EVERGREEN_m_out_twig : ImgFld := ⟨0x08, 2, 0x16, 9, false, .span (0) 479, .absent, .drop, none⟩
def EVERGREEN_m_dmax : ImgFld := ⟨0x08, 2, 0x17, 16, false, .span (100) 40000, .val (10000), .sat, none⟩
def EVERGREEN_m_margin : ImgFld := ⟨0x08, 2, 0x18, 7, false, .span (1) 64, .val (4), .sat, none⟩
def EVERGREEN_m_acq : ImgFld := ⟨0x08, 2, 0x19, 6, false, .span (1) 40, .val (40), .sat, none⟩
def EVERGREEN_m_reanchor : ImgFld := ⟨0x08, 2, 0x1A, 1, false, .span (0) 1, .val (1), .dflt, none⟩
def EVERGREEN_m_re_wait : ImgFld := ⟨0x08, 2, 0x1B, 12, false, .span (1) 3600, .val (10), .sat, none⟩

/-! ### TIMING (0x09) -/

def TIMING_osc_freq : ImgFld := ⟨0x09, 0, 0x01, 3, false, .span (0) 6, .val (0), .dflt, none⟩
def TIMING_pull_ppm : ImgFld := ⟨0x09, 0, 0x02, 9, false, .span (1) 500, .val (92), .sat, none⟩
def TIMING_ref_ppm : ImgFld := ⟨0x09, 0, 0x03, 9, false, .span (1) 500, .val (92), .sat, none⟩
def TIMING_ref_wtr : ImgFld := ⟨0x09, 0, 0x04, 12, false, .span (1) 3600, .val (60), .sat, none⟩
def TIMING_sel_mode : ImgFld := ⟨0x09, 0, 0x05, 1, false, .span (0) 1, .val (0), .dflt, none⟩
def TIMING_ql_min : ImgFld := ⟨0x09, 0, 0x06, 4, false, .span (0) 15, .val (14), .sat, none⟩
def TIMING_revert : ImgFld := ⟨0x09, 0, 0x07, 1, false, .span (0) 1, .val (1), .dflt, none⟩
def TIMING_dis_ppb : ImgFld := ⟨0x09, 0, 0x08, 10, false, .span (1) 1000, .val (50), .sat, none⟩
def TIMING_dis_ns : ImgFld := ⟨0x09, 0, 0x09, 14, false, .span (1) 10000, .val (50), .sat, none⟩
def TIMING_lock_ppb : ImgFld := ⟨0x09, 0, 0x0A, 10, false, .span (1) 1000, .val (10), .sat, none⟩
def TIMING_lock_ns : ImgFld := ⟨0x09, 0, 0x0B, 10, false, .span (1) 1000, .val (10), .sat, none⟩
def TIMING_hist_tau : ImgFld := ⟨0x09, 0, 0x0C, 17, false, .span (60) 86400, .val (900), .sat, none⟩
def TIMING_hist_guard : ImgFld := ⟨0x09, 0, 0x0D, 10, false, .span (0) 600, .val (60), .sat, none⟩
def TIMING_hist_min : ImgFld := ⟨0x09, 0, 0x0E, 17, false, .span (60) 86400, .val (300), .sat, none⟩
def TIMING_hold_limit : ImgFld := ⟨0x09, 0, 0x0F, 13, false, .span (1) 4320, .val (240), .sat, none⟩
def TIMING_ramp : ImgFld := ⟨0x09, 0, 0x10, 10, false, .span (1) 1000, .val (10), .sat, none⟩
def TIMING_step_mode : ImgFld := ⟨0x09, 0, 0x11, 1, false, .span (0) 1, .val (0), .dflt, none⟩
def TIMING_step_thr : ImgFld := ⟨0x09, 0, 0x12, 30, false, .span (20) 1000000000, .val (200), .sat, none⟩
def TIMING_slew_ppb : ImgFld := ⟨0x09, 0, 0x13, 17, false, .span (1) 100000, .val (1000), .sat, none⟩
def TIMING_cand : ImgFld := ⟨0x09, 1, 0x14, 6, false, .span (0) 55, .absent, .drop, none⟩
def TIMING_c_enable : ImgFld := ⟨0x09, 1, 0x15, 1, false, .span (0) 1, .val (0), .dflt, none⟩
def TIMING_c_rank : ImgFld := ⟨0x09, 1, 0x16, 4, false, .span (0) 15, .val (15), .sat, none⟩
def TIMING_c_ql : ImgFld := ⟨0x09, 1, 0x17, 4, false, .span (0) 15, .val (15), .sat, none⟩
def TIMING_c_ql_src : ImgFld := ⟨0x09, 1, 0x18, 1, false, .span (0) 1, .val (0), .dflt, none⟩
def TIMING_c_kind : ImgFld := ⟨0x09, 1, 0x19, 2, false, .span (0) 2, .val (0), .drop, none⟩
def TIMING_c_freq : ImgFld := ⟨0x09, 1, 0x1A, 28, false, .span (1) 156250000, .val (10000000), .drop, none⟩
def TIMING_c_tod : ImgFld := ⟨0x09, 1, 0x1B, 3, false, .span (0) 4, .val (4), .dflt, none⟩
def TIMING_c_lane : ImgFld := ⟨0x09, 1, 0x1C, 8, false, .span (0) 143, .absent, .drop, none⟩
def TIMING_c_delay : ImgFld := ⟨0x09, 1, 0x1D, 24, true, .span (-8388608) 8388607, .val (0), .sat, none⟩
def TIMING_c_lockout : ImgFld := ⟨0x09, 1, 0x1E, 1, false, .span (0) 1, .val (0), .dflt, none⟩

/-! ### TIMEXFER (0x0A) -/

def TIMEXFER_tcor_en : ImgFld := ⟨0x0A, 0, 0x01, 1, false, .span (0) 1, .val (1), .dflt, none⟩
def TIMEXFER_tpid_x : ImgFld := ⟨0x0A, 0, 0x02, 16, false, .span (1536) 65535, .val (37120), .dflt, none⟩
def TIMEXFER_utc_off : ImgFld := ⟨0x0A, 0, 0x03, 8, true, .span (-128) 127, .val (37), .sat, none⟩
def TIMEXFER_mate_delay : ImgFld := ⟨0x0A, 0, 0x04, 20, false, .span (0) 1000000, .val (0), .sat, none⟩
def TIMEXFER_rtc_ahead : ImgFld := ⟨0x0A, 0, 0x05, 11, false, .span (1) 2000, .val (1000), .sat, none⟩
def TIMEXFER_todi_baud : ImgFld := ⟨0x0A, 0, 0x06, 3, false, .span (0) 7, .val (4), .dflt, some (0, 3)⟩
def TIMEXFER_todi_win : ImgFld := ⟨0x0A, 0, 0x07, 10, false, .span (100) 990, .val (800), .sat, none⟩
def TIMEXFER_todo_en : ImgFld := ⟨0x0A, 0, 0x08, 1, false, .span (0) 1, .val (0), .dflt, some (0, 3)⟩
def TIMEXFER_todo_baud : ImgFld := ⟨0x0A, 0, 0x09, 3, false, .span (0) 7, .val (4), .dflt, some (0, 3)⟩
def TIMEXFER_todo_delay : ImgFld := ⟨0x0A, 0, 0x0A, 9, false, .span (0) 500, .val (1), .sat, none⟩
def TIMEXFER_tch : ImgFld := ⟨0x0A, 1, 0x0B, 5, false, .span (0) 31, .absent, .drop, none⟩
def TIMEXFER_tch_lead : ImgFld := ⟨0x0A, 1, 0x0C, 7, false, .span (0) 127, .absent, .drop, none⟩
def TIMEXFER_tch_host : ImgFld := ⟨0x0A, 1, 0x0D, 9, false, .span (0) 319, .absent, .drop, none⟩
def TIMEXFER_tch_twig : ImgFld := ⟨0x0A, 1, 0x0E, 9, false, .span (0) 479, .absent, .drop, none⟩
def TIMEXFER_tch_id : ImgFld := ⟨0x0A, 1, 0x0F, 32, false, .span (1) 4294967295, .absent, .drop, none⟩
def TIMEXFER_tch_asym : ImgFld := ⟨0x0A, 1, 0x10, 32, true, .span (-2000000000) 2000000000, .val (0), .sat, none⟩
def TIMEXFER_tch_rate : ImgFld := ⟨0x0A, 1, 0x11, 7, false, .span (1) 64, .val (16), .sat, none⟩
def TIMEXFER_tch_min : ImgFld := ⟨0x0A, 1, 0x12, 7, false, .span (1) 64, .val (4), .sat, none⟩
def TIMEXFER_tch_pd_win : ImgFld := ⟨0x0A, 1, 0x13, 16, false, .span (1) 65535, .val (20), .sat, none⟩
def TIMEXFER_out : ImgFld := ⟨0x0A, 2, 0x14, 3, false, .span (0) 7, .absent, .drop, none⟩
def TIMEXFER_o_kind : ImgFld := ⟨0x0A, 2, 0x15, 2, false, .span (0) 3, .val (0), .dflt, none⟩
def TIMEXFER_o_freq : ImgFld := ⟨0x0A, 2, 0x16, 28, false, .span (1) 156250000, .val (10000000), .dflt, none⟩
def TIMEXFER_o_width : ImgFld := ⟨0x0A, 2, 0x17, 30, false, .span (100) 500000000, .val (100000), .sat, none⟩
def TIMEXFER_o_delay : ImgFld := ⟨0x0A, 2, 0x18, 24, true, .span (-8388608) 8388607, .val (0), .sat, none⟩
def TIMEXFER_o_squelch : ImgFld := ⟨0x0A, 2, 0x19, 2, false, .span (0) 2, .val (1), .dflt, none⟩

/-! ### INTEGRITY (0x0B) -/

def INTEGRITY_pit_en : ImgFld := ⟨0x0B, 0, 0x01, 1, false, .span (0) 1, .val (1), .dflt, none⟩
def INTEGRITY_twig_en : ImgFld := ⟨0x0B, 0, 0x02, 1, false, .span (0) 1, .val (1), .dflt, none⟩
def INTEGRITY_tag_errs : ImgFld := ⟨0x0B, 0, 0x03, 4, false, .span (1) 15, .val (3), .sat, none⟩
def INTEGRITY_tag_clr : ImgFld := ⟨0x0B, 0, 0x04, 4, false, .span (1) 15, .val (3), .sat, none⟩
def INTEGRITY_twig_errs : ImgFld := ⟨0x0B, 0, 0x05, 4, false, .span (1) 15, .val (3), .sat, none⟩
def INTEGRITY_twig_clr : ImgFld := ⟨0x0B, 0, 0x06, 4, false, .span (1) 15, .val (3), .sat, none⟩
def INTEGRITY_scrub_ms : ImgFld := ⟨0x0B, 0, 0x07, 14, false, .span (10) 10000, .val (1000), .sat, none⟩
def INTEGRITY_cvu : ImgFld := ⟨0x0B, 1, 0x08, 6, false, .span (0) 63, .absent, .drop, none⟩
def INTEGRITY_cvu_owner : ImgFld := ⟨0x0B, 1, 0x09, 2, false, .span (0) 2, .val (1), .dflt, none⟩
def INTEGRITY_cvu_src : ImgFld := ⟨0x0B, 1, 0x0A, 3, false, .span (0) 6, .val (0), .dflt, none⟩
def INTEGRITY_cvu_sel : ImgFld := ⟨0x0B, 1, 0x0B, 21, false, .cvuSel, .val (0), .dflt, none⟩
def INTEGRITY_cvu_poly : ImgFld := ⟨0x0B, 1, 0x0C, 2, false, .span (0) 3, .val (0), .dflt, none⟩
def INTEGRITY_cvu_mode : ImgFld := ⟨0x0B, 1, 0x0D, 1, false, .span (0) 1, .val (0), .dflt, none⟩
def INTEGRITY_cvu_win : ImgFld := ⟨0x0B, 1, 0x0E, 2, false, .span (0) 3, .val (1), .dflt, none⟩
def INTEGRITY_cvu_len : ImgFld := ⟨0x0B, 1, 0x0F, 32, false, .any, .val (0), .dflt, none⟩
def INTEGRITY_cvu_base : ImgFld := ⟨0x0B, 1, 0x10, 40, false, .any, .val (0), .dflt, none⟩
def INTEGRITY_cvu_size : ImgFld := ⟨0x0B, 1, 0x11, 32, false, .any, .val (0), .dflt, none⟩
def INTEGRITY_cvu_master : ImgFld := ⟨0x0B, 1, 0x12, 4, false, .span (0) 8, .val (0), .dflt, none⟩
def INTEGRITY_cvu_exp : ImgFld := ⟨0x0B, 1, 0x13, 64, false, .any, .val (0), .dflt, none⟩
def INTEGRITY_cvu_irq : ImgFld := ⟨0x0B, 1, 0x14, 1, false, .span (0) 1, .val (1), .dflt, none⟩
def INTEGRITY_cvu_on : ImgFld := ⟨0x0B, 1, 0x15, 1, false, .span (0) 1, .val (0), .dflt, none⟩
def INTEGRITY_mx_slot : ImgFld := ⟨0x0B, 2, 0x16, 12, false, .span (0) 2559, .absent, .drop, none⟩
def INTEGRITY_mx_ctx : ImgFld := ⟨0x0B, 2, 0x17, 18, false, .span (0) 262143, .absent, .drop, none⟩

/-! ### RECORDS (0x0C) -/

def RECORDS_keep_sev : ImgFld := ⟨0x0C, 0, 0x01, 3, false, .span (3) 7, .val (7), .sat, none⟩
def RECORDS_hq_en : ImgFld := ⟨0x0C, 0, 0x02, 1, false, .span (0) 1, .firstOnly, .dflt, some (0, 3)⟩
def RECORDS_hq_sev : ImgFld := ⟨0x0C, 0, 0x03, 3, false, .span (0) 7, .val (7), .dflt, some (0, 3)⟩
def RECORDS_hq_grp : ImgFld := ⟨0x0C, 0, 0x04, 16, false, .span (0) 65535, .val (65535), .dflt, some (0, 3)⟩
def RECORDS_hq_pm : ImgFld := ⟨0x0C, 0, 0x05, 1, false, .span (0) 1, .val (1), .dflt, none⟩
def RECORDS_irq_vec : ImgFld := ⟨0x0C, 0, 0x06, 6, false, .span (0) 63, .indexPlus 0, .dflt, some (0, 15)⟩
def RECORDS_irq_pin : ImgFld := ⟨0x0C, 0, 0x07, 4, false, .span (0) 8, .val (8), .dflt, some (0, 15)⟩
def RECORDS_irq_mod : ImgFld := ⟨0x0C, 0, 0x08, 10, false, .span (0) 1000, .val (0), .sat, none⟩
def RECORDS_temp_warn : ImgFld := ⟨0x0C, 0, 0x09, 8, false, .span (0) 125, .val (100), .sat, none⟩
def RECORDS_temp_crit : ImgFld := ⟨0x0C, 0, 0x0A, 8, false, .span (0) 125, .val (110), .sat, none⟩
def RECORDS_pc_owner : ImgFld := ⟨0x0C, 0, 0x0B, 2, false, .span (0) 2, .val (1), .dflt, none⟩
def RECORDS_pc_sel : ImgFld := ⟨0x0C, 0, 0x0C, 32, false, .pcSel, .val (0), .dflt, some (0, 63)⟩
def RECORDS_dv_src : ImgFld := ⟨0x0C, 1, 0x0D, 9, false, .span (0) 511, .absent, .drop, none⟩
def RECORDS_dv_vec : ImgFld := ⟨0x0C, 1, 0x0E, 6, false, .span (16) 63, .absent, .drop, none⟩

/-! ### SECURITY (0x0D) -/

def SECURITY_tamper_en : ImgFld := ⟨0x0D, 0, 0x01, 1, false, .span (0) 1, .val (0), .dflt, some (0, 1)⟩
def SECURITY_tamper_act : ImgFld := ⟨0x0D, 0, 0x02, 2, false, .span (1) 2, .val (1), .sat, some (0, 1)⟩
def SECURITY_svn_advance : ImgFld := ⟨0x0D, 0, 0x03, 1, false, .span (0) 1, .val (0), .dflt, none⟩
def SECURITY_cp_wdog_ms : ImgFld := ⟨0x0D, 0, 0x04, 10, false, .span (10) 1000, .val (100), .sat, none⟩
def SECURITY_host_wd_ms : ImgFld := ⟨0x0D, 0, 0x05, 14, false, .span (100) 10000, .val (1000), .sat, none⟩
def SECURITY_smb_secure : ImgFld := ⟨0x0D, 0, 0x06, 1, false, .span (0) 1, .val (1), .dflt, none⟩
def SECURITY_host_sess_s : ImgFld := ⟨0x0D, 0, 0x07, 12, false, .span (10) 3600, .val (300), .sat, none⟩
def SECURITY_bank : ImgFld := ⟨0x0D, 1, 0x08, 3, false, .span (0) 7, .absent, .drop, none⟩
def SECURITY_bank_world : ImgFld := ⟨0x0D, 1, 0x09, 1, false, .span (0) 1, .bankWorld, .dflt, none⟩
def SECURITY_bank_share : ImgFld := ⟨0x0D, 1, 0x0A, 8, false, .span (0) 255, .bankShare, .dflt, none⟩
def SECURITY_bank_idle : ImgFld := ⟨0x0D, 1, 0x0B, 2, false, .span (0) 2, .val (0), .dflt, none⟩
def SECURITY_rgn : ImgFld := ⟨0x0D, 2, 0x0C, 4, false, .span (0) 15, .absent, .drop, none⟩
def SECURITY_ddr_base : ImgFld := ⟨0x0D, 2, 0x0D, 11, false, .span (0) 2047, .absent, .drop, none⟩
def SECURITY_ddr_size : ImgFld := ⟨0x0D, 2, 0x0E, 12, false, .span (1) 2048, .absent, .drop, none⟩
def SECURITY_ddr_world : ImgFld := ⟨0x0D, 2, 0x0F, 1, false, .span (0) 1, .val (1), .dflt, none⟩

/-! ### RESIDENCE (0x0E) -/

def RESIDENCE_fab_page_id : ImgFld := ⟨0x0E, 0, 0x01, 32, false, .any, .absent, .rej, none⟩
def RESIDENCE_twg_page_id : ImgFld := ⟨0x0E, 0, 0x02, 32, false, .any, .absent, .rej, none⟩
def RESIDENCE_out : ImgFld := ⟨0x0E, 1, 0x03, 12, false, .span (0) 2559, .absent, .rej, none⟩
def RESIDENCE_sel : ImgFld := ⟨0x0E, 1, 0x04, 1, false, .span (0) 1, .val (0), .rej, none⟩
def RESIDENCE_cycles : ImgFld := ⟨0x0E, 1, 0x05, 16, false, .span (1) 65535, .absent, .rej, none⟩
def RESIDENCE_t_key : ImgFld := ⟨0x0E, 2, 0x06, 18, false, .span (0) 153599, .absent, .rej, none⟩
def RESIDENCE_t_sel : ImgFld := ⟨0x0E, 2, 0x07, 1, false, .span (0) 1, .val (0), .rej, none⟩
def RESIDENCE_t_cycles : ImgFld := ⟨0x0E, 2, 0x08, 16, false, .span (1) 65535, .absent, .rej, none⟩

/-! ### PATCH (0x0F) -/

def PATCH_rom_id : ImgFld := ⟨0x0F, 0, 0x01, 32, false, .span 0xB10003 0xB10003, .absent, .rej, none⟩
def PATCH_pp : ImgFld := ⟨0x0F, 1, 0x02, 6, false, .span (0) 63, .absent, .rej, none⟩
def PATCH_pp_line : ImgFld := ⟨0x0F, 1, 0x03, 14, false, .span (0) 16383, .absent, .rej, none⟩
def PATCH_pp_data : ImgFld := ⟨0x0F, 1, 0x04, 256, false, .any, .absent, .rej, none⟩
def PATCH_ext_off : ImgFld := ⟨0x0F, 2, 0x05, 9, false, .span (0) 511, .absent, .rej, none⟩
def PATCH_ext_data : ImgFld := ⟨0x0F, 2, 0x06, 512, false, .any, .absent, .rej, none⟩

/-! ### PLAN (0x10) -/

def PLAN_plan_id : ImgFld := ⟨0x10, 0, 0x01, 32, false, .any, .absent, .rej, none⟩
def PLAN_steps : ImgFld := ⟨0x10, 0, 0x02, 6, false, .span (1) 32, .absent, .rej, none⟩
def PLAN_step : ImgFld := ⟨0x10, 1, 0x03, 6, false, .span (1) 32, .absent, .rej, none⟩
def PLAN_gap : ImgFld := ⟨0x10, 1, 0x04, 24, false, .span (1) 16777215, .absent, .rej, none⟩
def PLAN_sec_id : ImgFld := ⟨0x10, 1, 0x05, 8, false, .planSec, .absent, .rej, some (0, 11)⟩
def PLAN_sec_inst : ImgFld := ⟨0x10, 1, 0x06, 8, false, .span (0) 255, .absent, .rej, some (0, 11)⟩
def PLAN_pre_check : ImgFld := ⟨0x10, 1, 0x07, 1, false, .span (0) 1, .val (1), .dflt, none⟩
def PLAN_pre_fab_id : ImgFld := ⟨0x10, 1, 0x08, 32, false, .any, .absent, .rej, none⟩
def PLAN_pre_twg_id : ImgFld := ⟨0x10, 1, 0x09, 32, false, .any, .absent, .rej, none⟩
def PLAN_h_step : ImgFld := ⟨0x10, 2, 0x0A, 6, false, .span (1) 32, .absent, .rej, none⟩
def PLAN_h_kind : ImgFld := ⟨0x10, 2, 0x0B, 1, false, .span (0) 1, .absent, .rej, none⟩
def PLAN_h_key : ImgFld := ⟨0x10, 2, 0x0C, 18, false, .hitKey, .absent, .rej, none⟩
def PLAN_h_class : ImgFld := ⟨0x10, 2, 0x0D, 3, false, .span (0) 4, .absent, .rej, none⟩
def PLAN_h_max : ImgFld := ⟨0x10, 2, 0x0E, 12, false, .span (0) 4095, .val (0), .rej, none⟩

/-- The fields of section DEVICE, in field ID order. -/
def fieldsDEVICE : List ImgFld :=
  [DEVICE_image_ver, DEVICE_lc_mask, DEVICE_bind_serial, DEVICE_min_rev, DEVICE_confirm_s, DEVICE_ddr_chan, DEVICE_ddr_width, DEVICE_ddr_density, DEVICE_ddr_rate, DEVICE_ddr_scrub_h, DEVICE_rst_scope, DEVICE_host_en]

/-- The fields of section LANES, in field ID order. -/
def fieldsLANES : List ImgFld :=
  [LANES_enable, LANES_rate, LANES_format, LANES_width, LANES_profile, LANES_tx_swing, LANES_tx_pre2, LANES_tx_pre1, LANES_tx_post1, LANES_rx_eq, LANES_rx_pol, LANES_tx_pol, LANES_test, LANES_skew_max, LANES_term_step, LANES_ser_thresh, LANES_flexe_group, LANES_flexe_phy]

/-- The fields of section FRAMING, in field ID order. -/
def fieldsFRAMING : List ImgFld :=
  [FRAMING_twig_n, FRAMING_twig_m, FRAMING_prof_es15, FRAMING_prof_ses15, FRAMING_prof_bbe15, FRAMING_prof_uas15, FRAMING_prof_es24, FRAMING_prof_ses24, FRAMING_prof_bbe24, FRAMING_prof_uas24, FRAMING_lead, FRAMING_oof_n, FRAMING_oof_m, FRAMING_flexo_gid, FRAMING_flexo_iid, FRAMING_flexe_gnum, FRAMING_ctx, FRAMING_layer, FRAMING_mode, FRAMING_peer_ctx, FRAMING_tx_tti, FRAMING_exp_sapi, FRAMING_exp_dapi, FRAMING_tim_mode, FRAMING_tim_act, FRAMING_deg_thr, FRAMING_deg_m, FRAMING_sd_trig, FRAMING_pm, FRAMING_tca_prof]

/-- The fields of section MAPPING, in field ID order. -/
def fieldsMAPPING : List ImgFld :=
  [MAPPING_ctx, MAPPING_kind, MAPPING_dir, MAPPING_lead, MAPPING_server, MAPPING_first, MAPPING_count, MAPPING_odu_mode, MAPPING_pt_tx, MAPPING_pt_exp, MAPPING_msi_tx, MAPPING_msi_exp, MAPPING_host, MAPPING_host_label_tx, MAPPING_host_label_exp, MAPPING_twig_first, MAPPING_twig_n, MAPPING_cal_a, MAPPING_cal_b, MAPPING_cal_tx, MAPPING_ca_timeout]

/-- The fields of section FABRIC_PAGE, in field ID order. -/
def fieldsFABRIC_PAGE : List ImgFld :=
  [FABRIC_PAGE_page_id, FABRIC_PAGE_coppice_min, FABRIC_PAGE_slice_thr, FABRIC_PAGE_mate_slot, FABRIC_PAGE_mate_lane, FABRIC_PAGE_mate_idx, FABRIC_PAGE_wr_slot, FABRIC_PAGE_wr_cycle, FABRIC_PAGE_wr_slice, FABRIC_PAGE_rd_cycle, FABRIC_PAGE_rd_slice, FABRIC_PAGE_out, FABRIC_PAGE_src_wc, FABRIC_PAGE_lag, FABRIC_PAGE_prot, FABRIC_PAGE_alt_wc, FABRIC_PAGE_alt_lag, FABRIC_PAGE_qs_group, FABRIC_PAGE_leaf]

/-- The fields of section TWIG_PAGE, in field ID order. -/
def fieldsTWIG_PAGE : List ImgFld :=
  [TWIG_PAGE_page_id, TWIG_PAGE_out_host, TWIG_PAGE_out_twig, TWIG_PAGE_src_host, TWIG_PAGE_src_twig, TWIG_PAGE_prot, TWIG_PAGE_alt_host, TWIG_PAGE_alt_twig, TWIG_PAGE_qs_group]

/-- The fields of section PROTECTION, in field ID order. -/
def fieldsPROTECTION : List ImgFld :=
  [PROTECTION_mate_mode, PROTECTION_mate_gen, PROTECTION_force_cmd, PROTECTION_force_first, PROTECTION_force_last, PROTECTION_grp, PROTECTION_level, PROTECTION_type, PROTECTION_bidir, PROTECTION_aps, PROTECTION_revert, PROTECTION_wtr, PROTECTION_holdoff, PROTECTION_w_ctx, PROTECTION_p_ctx, PROTECTION_w_mate, PROTECTION_p_mate, PROTECTION_aps_ctx, PROTECTION_int_trig, PROTECTION_br_out, PROTECTION_br_grp]

/-- The fields of section EVERGREEN, in field ID order. -/
def fieldsEVERGREEN : List ImgFld :=
  [EVERGREEN_al_n, EVERGREEN_al_m, EVERGREEN_wrap, EVERGREEN_w_grain, EVERGREEN_w_src, EVERGREEN_w_trib, EVERGREEN_w_first, EVERGREEN_w_host_a, EVERGREEN_w_twig_a, EVERGREEN_w_host_b, EVERGREEN_w_twig_b, EVERGREEN_merge, EVERGREEN_m_grain, EVERGREEN_m_trib, EVERGREEN_m_size, EVERGREEN_m_copy_a, EVERGREEN_m_mate_a, EVERGREEN_m_copy_b, EVERGREEN_m_mate_b, EVERGREEN_m_out_first, EVERGREEN_m_out_host, EVERGREEN_m_out_twig, EVERGREEN_m_dmax, EVERGREEN_m_margin, EVERGREEN_m_acq, EVERGREEN_m_reanchor, EVERGREEN_m_re_wait]

/-- The fields of section TIMING, in field ID order. -/
def fieldsTIMING : List ImgFld :=
  [TIMING_osc_freq, TIMING_pull_ppm, TIMING_ref_ppm, TIMING_ref_wtr, TIMING_sel_mode, TIMING_ql_min, TIMING_revert, TIMING_dis_ppb, TIMING_dis_ns, TIMING_lock_ppb, TIMING_lock_ns, TIMING_hist_tau, TIMING_hist_guard, TIMING_hist_min, TIMING_hold_limit, TIMING_ramp, TIMING_step_mode, TIMING_step_thr, TIMING_slew_ppb, TIMING_cand, TIMING_c_enable, TIMING_c_rank, TIMING_c_ql, TIMING_c_ql_src, TIMING_c_kind, TIMING_c_freq, TIMING_c_tod, TIMING_c_lane, TIMING_c_delay, TIMING_c_lockout]

/-- The fields of section TIMEXFER, in field ID order. -/
def fieldsTIMEXFER : List ImgFld :=
  [TIMEXFER_tcor_en, TIMEXFER_tpid_x, TIMEXFER_utc_off, TIMEXFER_mate_delay, TIMEXFER_rtc_ahead, TIMEXFER_todi_baud, TIMEXFER_todi_win, TIMEXFER_todo_en, TIMEXFER_todo_baud, TIMEXFER_todo_delay, TIMEXFER_tch, TIMEXFER_tch_lead, TIMEXFER_tch_host, TIMEXFER_tch_twig, TIMEXFER_tch_id, TIMEXFER_tch_asym, TIMEXFER_tch_rate, TIMEXFER_tch_min, TIMEXFER_tch_pd_win, TIMEXFER_out, TIMEXFER_o_kind, TIMEXFER_o_freq, TIMEXFER_o_width, TIMEXFER_o_delay, TIMEXFER_o_squelch]

/-- The fields of section INTEGRITY, in field ID order. -/
def fieldsINTEGRITY : List ImgFld :=
  [INTEGRITY_pit_en, INTEGRITY_twig_en, INTEGRITY_tag_errs, INTEGRITY_tag_clr, INTEGRITY_twig_errs, INTEGRITY_twig_clr, INTEGRITY_scrub_ms, INTEGRITY_cvu, INTEGRITY_cvu_owner, INTEGRITY_cvu_src, INTEGRITY_cvu_sel, INTEGRITY_cvu_poly, INTEGRITY_cvu_mode, INTEGRITY_cvu_win, INTEGRITY_cvu_len, INTEGRITY_cvu_base, INTEGRITY_cvu_size, INTEGRITY_cvu_master, INTEGRITY_cvu_exp, INTEGRITY_cvu_irq, INTEGRITY_cvu_on, INTEGRITY_mx_slot, INTEGRITY_mx_ctx]

/-- The fields of section RECORDS, in field ID order. -/
def fieldsRECORDS : List ImgFld :=
  [RECORDS_keep_sev, RECORDS_hq_en, RECORDS_hq_sev, RECORDS_hq_grp, RECORDS_hq_pm, RECORDS_irq_vec, RECORDS_irq_pin, RECORDS_irq_mod, RECORDS_temp_warn, RECORDS_temp_crit, RECORDS_pc_owner, RECORDS_pc_sel, RECORDS_dv_src, RECORDS_dv_vec]

/-- The fields of section SECURITY, in field ID order. -/
def fieldsSECURITY : List ImgFld :=
  [SECURITY_tamper_en, SECURITY_tamper_act, SECURITY_svn_advance, SECURITY_cp_wdog_ms, SECURITY_host_wd_ms, SECURITY_smb_secure, SECURITY_host_sess_s, SECURITY_bank, SECURITY_bank_world, SECURITY_bank_share, SECURITY_bank_idle, SECURITY_rgn, SECURITY_ddr_base, SECURITY_ddr_size, SECURITY_ddr_world]

/-- The fields of section RESIDENCE, in field ID order. -/
def fieldsRESIDENCE : List ImgFld :=
  [RESIDENCE_fab_page_id, RESIDENCE_twg_page_id, RESIDENCE_out, RESIDENCE_sel, RESIDENCE_cycles, RESIDENCE_t_key, RESIDENCE_t_sel, RESIDENCE_t_cycles]

/-- The fields of section PATCH, in field ID order. -/
def fieldsPATCH : List ImgFld :=
  [PATCH_rom_id, PATCH_pp, PATCH_pp_line, PATCH_pp_data, PATCH_ext_off, PATCH_ext_data]

/-- The fields of section PLAN, in field ID order. -/
def fieldsPLAN : List ImgFld :=
  [PLAN_plan_id, PLAN_steps, PLAN_step, PLAN_gap, PLAN_sec_id, PLAN_sec_inst, PLAN_pre_check, PLAN_pre_fab_id, PLAN_pre_twg_id, PLAN_h_step, PLAN_h_kind, PLAN_h_key, PLAN_h_class, PLAN_h_max]

/-- The fields of the section with an ID. -/
def fieldsOf : Nat → List ImgFld
  | 1 => fieldsDEVICE
  | 2 => fieldsLANES
  | 3 => fieldsFRAMING
  | 4 => fieldsMAPPING
  | 5 => fieldsFABRIC_PAGE
  | 6 => fieldsTWIG_PAGE
  | 7 => fieldsPROTECTION
  | 8 => fieldsEVERGREEN
  | 9 => fieldsTIMING
  | 10 => fieldsTIMEXFER
  | 11 => fieldsINTEGRITY
  | 12 => fieldsRECORDS
  | 13 => fieldsSECURITY
  | 14 => fieldsRESIDENCE
  | 15 => fieldsPATCH
  | 16 => fieldsPLAN
  | _ => []

/-- The number of entry kinds of a section (R66, R98, R124, R152, R178, R211, R234, R258, R283, R307, R336, R362, R403). -/
def kindsOf : Nat → Nat
  | 1 | 2 | 4 => 1
  | 5 => 4
  | 6 | 9 | 12 => 2
  | 3 | 7 | 8 | 10 | 11 | 13 | 14 | 15 | 16 => 3
  | _ => 0

/-- Whether a section has a global entry, kind 0 (R317). LANES and MAPPING have none. -/
def hasGlobal (sec : Nat) : Bool := sec != 2 && sec != 4

end Sys2Proof.Machine
end

