-- ==== Sys2Proof/Machine/RegMap.lean ====
section
/-!
DEFINITION. Sys2Proof/Machine/RegMap.lean: every register of the field maps of spec/, written from their tables.
A register has a key: its BAR offset, or its internal address for the internal-only registers (Tables 13-8, 16-11).
Registers that the host reaches through a window have keys of their own, one per instance:
context records (Tables 3-10, 4-7) at 0x1_0000_0000, merge registers (Table 8-7) at 0x2_0000_0000, and
path tag context registers (Table 9-7) at 0x3_0000_0000, each instance 0x40 after the one before it.
-/
namespace Sys2Proof.Machine

/-- A register field: base key and stride of its register, number of instances, and bit range. -/
structure Fld where
  base   : Nat
  stride : Nat
  count  : Nat
  hi     : Nat
  lo     : Nat
  deriving DecidableEq, Repr

/-- The access codes of Table 0-3 (R5). -/
inductive Acc where
  | ro | rw | wo | w1c | w1s | rc | srw
  deriving DecidableEq, Repr

/-- A register of a field map: its instances, and its fields as (hi, lo, access). Bits of no field are reserved (R6). -/
structure RegDef where
  base   : Nat
  stride : Nat
  count  : Nat
  fields : List (Nat × Nat × Acc)
  deriving DecidableEq, Repr

/-! ### Table 12-12 -/

def CP_ID_part : Fld := ⟨0x000000, 0x0, 1, 31, 16⟩
def CP_ID_major : Fld := ⟨0x000000, 0x0, 1, 15, 12⟩
def CP_ID_minor : Fld := ⟨0x000000, 0x0, 1, 11, 8⟩
def CP_ID_grade : Fld := ⟨0x000000, 0x0, 1, 0, 0⟩

def CP_SERIAL_LO_serial_lo : Fld := ⟨0x000004, 0x0, 1, 31, 0⟩

def CP_SERIAL_HI_serial_hi : Fld := ⟨0x000008, 0x0, 1, 31, 0⟩

def CP_BOOT_ST_state : Fld := ⟨0x00000C, 0x0, 1, 31, 29⟩
def CP_BOOT_ST_slot : Fld := ⟨0x00000C, 0x0, 1, 28, 27⟩
def CP_BOOT_ST_cs : Fld := ⟨0x00000C, 0x0, 1, 26, 26⟩
def CP_BOOT_ST_src : Fld := ⟨0x00000C, 0x0, 1, 25, 24⟩
def CP_BOOT_ST_fallback : Fld := ⟨0x00000C, 0x0, 1, 23, 23⟩
def CP_BOOT_ST_confirmed : Fld := ⟨0x00000C, 0x0, 1, 22, 22⟩
def CP_BOOT_ST_cause : Fld := ⟨0x00000C, 0x0, 1, 21, 18⟩
def CP_BOOT_ST_restarts : Fld := ⟨0x00000C, 0x0, 1, 7, 0⟩

def CP_BOOT_EPOCH_epoch : Fld := ⟨0x000010, 0x0, 1, 31, 0⟩

def CP_BOOT_TIME_ms : Fld := ⟨0x000014, 0x0, 1, 15, 0⟩

def CP_IMG_VER_ver : Fld := ⟨0x000018, 0x0, 1, 31, 0⟩

def CP_IMG_SVN_fuse_svn : Fld := ⟨0x00001C, 0x0, 1, 15, 8⟩
def CP_IMG_SVN_img_svn : Fld := ⟨0x00001C, 0x0, 1, 7, 0⟩

def CP_CLAMP_boot : Fld := ⟨0x000020, 0x0, 1, 31, 16⟩
def CP_CLAMP_apply : Fld := ⟨0x000020, 0x0, 1, 15, 0⟩

def CP_SEC_REJ_rej : Fld := ⟨0x000024, 0x0, 1, 16, 1⟩

def CP_IMG_DIGEST_digest : Fld := ⟨0x000040, 0x4, 16, 31, 0⟩

def CP_LC_state : Fld := ⟨0x000080, 0x0, 1, 31, 30⟩
def CP_LC_boot_state : Fld := ⟨0x000080, 0x0, 1, 29, 28⟩
def CP_LC_present : Fld := ⟨0x000080, 0x0, 1, 27, 24⟩
def CP_LC_revoked : Fld := ⟨0x000080, 0x0, 1, 23, 20⟩
def CP_LC_key_used : Fld := ⟨0x000080, 0x0, 1, 19, 18⟩
def CP_LC_id_key : Fld := ⟨0x000080, 0x0, 1, 17, 17⟩
def CP_LC_debug : Fld := ⟨0x000080, 0x0, 1, 16, 16⟩

def CP_TAMPER_bat : Fld := ⟨0x000084, 0x0, 1, 4, 4⟩
def CP_TAMPER_stk : Fld := ⟨0x000084, 0x0, 1, 3, 2⟩
def CP_TAMPER_level : Fld := ⟨0x000084, 0x0, 1, 1, 0⟩

/-! ### Table 5-9 -/

def FAB_PAGE_swaps : Fld := ⟨0x004000, 0x0, 1, 31, 16⟩
def FAB_PAGE_standby : Fld := ⟨0x004000, 0x0, 1, 3, 2⟩
def FAB_PAGE_active : Fld := ⟨0x004000, 0x0, 1, 0, 0⟩

def FAB_PAGE_ID_id : Fld := ⟨0x004004, 0x0, 1, 31, 0⟩

def TWG_PAGE_swaps : Fld := ⟨0x004008, 0x0, 1, 31, 16⟩
def TWG_PAGE_standby : Fld := ⟨0x004008, 0x0, 1, 3, 2⟩
def TWG_PAGE_active : Fld := ⟨0x004008, 0x0, 1, 0, 0⟩

def TWG_PAGE_ID_id : Fld := ⟨0x00400C, 0x0, 1, 31, 0⟩

def FAB_GMF_LO_gmf_lo : Fld := ⟨0x004010, 0x0, 1, 31, 0⟩

def FAB_GMF_HI_gmf_hi : Fld := ⟨0x004014, 0x0, 1, 31, 0⟩

def FAB_STEER_phys3 : Fld := ⟨0x004020, 0x4, 5, 28, 24⟩
def FAB_STEER_phys2 : Fld := ⟨0x004020, 0x4, 5, 20, 16⟩
def FAB_STEER_phys1 : Fld := ⟨0x004020, 0x4, 5, 12, 8⟩
def FAB_STEER_phys0 : Fld := ⟨0x004020, 0x4, 5, 4, 0⟩

def FAB_COPPICE_state : Fld := ⟨0x004040, 0x0, 1, 31, 30⟩
def FAB_COPPICE_deferred : Fld := ⟨0x004040, 0x0, 1, 29, 29⟩
def FAB_COPPICE_shadow : Fld := ⟨0x004040, 0x0, 1, 25, 21⟩
def FAB_COPPICE_spare : Fld := ⟨0x004040, 0x0, 1, 20, 16⟩
def FAB_COPPICE_next_min : Fld := ⟨0x004040, 0x0, 1, 10, 0⟩

def FAB_COPPICE_CNT_done : Fld := ⟨0x004044, 0x0, 1, 31, 0⟩

def FAB_COPPICE_MIS_last : Fld := ⟨0x004048, 0x0, 1, 31, 16⟩
def FAB_COPPICE_MIS_total : Fld := ⟨0x004048, 0x0, 1, 15, 0⟩

def FAB_ERR_stale : Fld := ⟨0x00404C, 0x0, 1, 31, 16⟩
def FAB_ERR_nosrc : Fld := ⟨0x00404C, 0x0, 1, 15, 0⟩

def FAB_SLICE_ST_state : Fld := ⟨0x004100, 0x10, 21, 31, 30⟩
def FAB_SLICE_ST_suspect : Fld := ⟨0x004100, 0x10, 21, 29, 29⟩
def FAB_SLICE_ST_cause : Fld := ⟨0x004100, 0x10, 21, 28, 27⟩
def FAB_SLICE_ST_logical : Fld := ⟨0x004100, 0x10, 21, 20, 16⟩
def FAB_SLICE_ST_rot_ok : Fld := ⟨0x004100, 0x10, 21, 15, 0⟩

def FAB_SLICE_CORR_corr : Fld := ⟨0x004104, 0x10, 21, 31, 0⟩

def FAB_SLICE_ERR_chk_err : Fld := ⟨0x004108, 0x10, 21, 31, 16⟩
def FAB_SLICE_ERR_mis : Fld := ⟨0x004108, 0x10, 21, 15, 0⟩

def FAB_SLICE_TEST_last_pass : Fld := ⟨0x00410C, 0x10, 21, 31, 0⟩

/-! ### Table 6-7 -/

def PLN_STATE_cause : Fld := ⟨0x005000, 0x0, 1, 27, 24⟩
def PLN_STATE_kind : Fld := ⟨0x005000, 0x0, 1, 21, 20⟩
def PLN_STATE_state : Fld := ⟨0x005000, 0x0, 1, 19, 17⟩
def PLN_STATE_step : Fld := ⟨0x005000, 0x0, 1, 15, 8⟩
def PLN_STATE_steps : Fld := ⟨0x005000, 0x0, 1, 5, 0⟩

def PLN_ID_id : Fld := ⟨0x005004, 0x0, 1, 31, 0⟩

def PLN_DUE_LO_due_lo : Fld := ⟨0x005008, 0x0, 1, 31, 0⟩

def PLN_DUE_HI_due_hi : Fld := ⟨0x00500C, 0x0, 1, 31, 0⟩

def PLN_DETAIL_sec : Fld := ⟨0x005010, 0x0, 1, 31, 24⟩
def PLN_DETAIL_key : Fld := ⟨0x005010, 0x0, 1, 23, 0⟩

def PLN_HIT_exceeded : Fld := ⟨0x005014, 0x0, 1, 31, 16⟩
def PLN_HIT_last_max : Fld := ⟨0x005014, 0x0, 1, 15, 0⟩

def PLN_CNT_steps : Fld := ⟨0x005018, 0x0, 1, 31, 16⟩
def PLN_CNT_applies : Fld := ⟨0x005018, 0x0, 1, 15, 0⟩

/-! ### Table 7-8 -/

def QS_GRP_ST_req : Fld := ⟨0x006000, 0x10, 1024, 31, 28⟩
def QS_GRP_ST_fe_req : Fld := ⟨0x006000, 0x10, 1024, 27, 24⟩
def QS_GRP_ST_sel : Fld := ⟨0x006000, 0x10, 1024, 23, 23⟩
def QS_GRP_ST_bridge : Fld := ⟨0x006000, 0x10, 1024, 22, 22⟩
def QS_GRP_ST_fop_nr : Fld := ⟨0x006000, 0x10, 1024, 21, 21⟩
def QS_GRP_ST_fop_pm : Fld := ⟨0x006000, 0x10, 1024, 20, 20⟩
def QS_GRP_ST_holdoff : Fld := ⟨0x006000, 0x10, 1024, 19, 19⟩
def QS_GRP_ST_wtr : Fld := ⟨0x006000, 0x10, 1024, 18, 18⟩
def QS_GRP_ST_defined : Fld := ⟨0x006000, 0x10, 1024, 17, 17⟩
def QS_GRP_ST_mbx : Fld := ⟨0x006000, 0x10, 1024, 16, 16⟩
def QS_GRP_ST_wtr_left : Fld := ⟨0x006000, 0x10, 1024, 9, 0⟩

def QS_GRP_TRIG_pin : Fld := ⟨0x006004, 0x10, 1024, 11, 11⟩
def QS_GRP_TRIG_mbx_cmd : Fld := ⟨0x006004, 0x10, 1024, 10, 8⟩
def QS_GRP_TRIG_mate_p : Fld := ⟨0x006004, 0x10, 1024, 7, 7⟩
def QS_GRP_TRIG_mate_w : Fld := ⟨0x006004, 0x10, 1024, 6, 6⟩
def QS_GRP_TRIG_int_p : Fld := ⟨0x006004, 0x10, 1024, 5, 5⟩
def QS_GRP_TRIG_int_w : Fld := ⟨0x006004, 0x10, 1024, 4, 4⟩
def QS_GRP_TRIG_sd_p : Fld := ⟨0x006004, 0x10, 1024, 3, 3⟩
def QS_GRP_TRIG_sf_p : Fld := ⟨0x006004, 0x10, 1024, 2, 2⟩
def QS_GRP_TRIG_sd_w : Fld := ⟨0x006004, 0x10, 1024, 1, 1⟩
def QS_GRP_TRIG_sf_w : Fld := ⟨0x006004, 0x10, 1024, 0, 0⟩

def QS_GRP_APS_rx_req : Fld := ⟨0x006008, 0x10, 1024, 31, 24⟩
def QS_GRP_APS_rx_br : Fld := ⟨0x006008, 0x10, 1024, 23, 16⟩
def QS_GRP_APS_tx_req : Fld := ⟨0x006008, 0x10, 1024, 15, 8⟩
def QS_GRP_APS_tx_br : Fld := ⟨0x006008, 0x10, 1024, 7, 0⟩

def QS_GRP_CNT_switches : Fld := ⟨0x00600C, 0x10, 1024, 31, 16⟩
def QS_GRP_CNT_holdoff_abort : Fld := ⟨0x00600C, 0x10, 1024, 15, 8⟩
def QS_GRP_CNT_aps_bad : Fld := ⟨0x00600C, 0x10, 1024, 7, 0⟩

def QS_FORCE_masked : Fld := ⟨0x00A000, 0x0, 1, 19, 16⟩
def QS_FORCE_level : Fld := ⟨0x00A000, 0x0, 1, 11, 8⟩
def QS_FORCE_edge : Fld := ⟨0x00A000, 0x0, 1, 3, 0⟩

def QS_FORCE_EXC_exc : Fld := ⟨0x00A004, 0x0, 1, 31, 0⟩

def QS_SUMMARY_on_p : Fld := ⟨0x00A008, 0x0, 1, 26, 16⟩
def QS_SUMMARY_defined : Fld := ⟨0x00A008, 0x0, 1, 10, 0⟩

/-! ### Table 7-9 -/

def MATE_ST_mode : Fld := ⟨0x00A100, 0x0, 1, 31, 30⟩
def MATE_ST_role : Fld := ⟨0x00A100, 0x0, 1, 29, 28⟩
def MATE_ST_rank : Fld := ⟨0x00A100, 0x0, 1, 27, 27⟩
def MATE_ST_mate_rank : Fld := ⟨0x00A100, 0x0, 1, 26, 26⟩
def MATE_ST_lost : Fld := ⟨0x00A100, 0x0, 1, 25, 25⟩
def MATE_ST_link_ok : Fld := ⟨0x00A100, 0x0, 1, 24, 24⟩
def MATE_ST_pin_ok : Fld := ⟨0x00A100, 0x0, 1, 23, 23⟩
def MATE_ST_sync : Fld := ⟨0x00A100, 0x0, 1, 22, 22⟩
def MATE_ST_flash_own : Fld := ⟨0x00A100, 0x0, 1, 21, 21⟩
def MATE_ST_flash_seized : Fld := ⟨0x00A100, 0x0, 1, 20, 20⟩
def MATE_ST_missed : Fld := ⟨0x00A100, 0x0, 1, 19, 16⟩
def MATE_ST_lanes_up : Fld := ⟨0x00A100, 0x0, 1, 4, 0⟩

def MATE_GEN_gen : Fld := ⟨0x00A104, 0x0, 1, 31, 16⟩
def MATE_GEN_age : Fld := ⟨0x00A104, 0x0, 1, 7, 0⟩

def MATE_CNT_takeovers : Fld := ⟨0x00A108, 0x0, 1, 31, 16⟩
def MATE_CNT_losses : Fld := ⟨0x00A108, 0x0, 1, 15, 0⟩

def MATE_MISS_link_miss : Fld := ⟨0x00A10C, 0x0, 1, 31, 16⟩
def MATE_MISS_pin_miss : Fld := ⟨0x00A10C, 0x0, 1, 15, 0⟩

def MATE_PEER_digest : Fld := ⟨0x00A110, 0x0, 1, 31, 0⟩

/-! ### Table 8-7 -/

def EVG_SUM_merges : Fld := ⟨0x00B000, 0x0, 1, 28, 16⟩
def EVG_SUM_wraps : Fld := ⟨0x00B000, 0x0, 1, 12, 0⟩

def EVG_CAP_mbps : Fld := ⟨0x00B004, 0x0, 1, 20, 0⟩

def EVG_DDR_bp_drop : Fld := ⟨0x00B008, 0x0, 1, 31, 16⟩
def EVG_DDR_mark_err : Fld := ⟨0x00B008, 0x0, 1, 15, 0⟩

def EVG_SEL_index : Fld := ⟨0x00B00C, 0x0, 1, 11, 0⟩

def EVG_M_ST_defined : Fld := ⟨0x200000000, 0x40, 4096, 31, 31⟩
def EVG_M_ST_grain : Fld := ⟨0x200000000, 0x40, 4096, 30, 30⟩
def EVG_M_ST_mstate : Fld := ⟨0x200000000, 0x40, 4096, 29, 28⟩
def EVG_M_ST_state_a : Fld := ⟨0x200000000, 0x40, 4096, 27, 26⟩
def EVG_M_ST_state_b : Fld := ⟨0x200000000, 0x40, 4096, 25, 24⟩
def EVG_M_ST_stored : Fld := ⟨0x200000000, 0x40, 4096, 23, 23⟩
def EVG_M_ST_last : Fld := ⟨0x200000000, 0x40, 4096, 22, 22⟩

def EVG_M_OFF_A_valid : Fld := ⟨0x200000004, 0x40, 4096, 31, 31⟩
def EVG_M_OFF_A_off : Fld := ⟨0x200000004, 0x40, 4096, 25, 0⟩

def EVG_M_OFF_B_valid : Fld := ⟨0x200000008, 0x40, 4096, 31, 31⟩
def EVG_M_OFF_B_off : Fld := ⟨0x200000008, 0x40, 4096, 25, 0⟩

def EVG_M_SEQ_seq : Fld := ⟨0x20000000C, 0x40, 4096, 31, 0⟩

def EVG_M_QFILL_head : Fld := ⟨0x200000010, 0x40, 4096, 31, 28⟩
def EVG_M_QFILL_tail : Fld := ⟨0x200000010, 0x40, 4096, 27, 24⟩
def EVG_M_QFILL_middle : Fld := ⟨0x200000010, 0x40, 4096, 20, 0⟩

def EVG_M_QW_written : Fld := ⟨0x200000014, 0x40, 4096, 31, 0⟩

def EVG_M_QR_played : Fld := ⟨0x200000018, 0x40, 4096, 31, 0⟩

def EVG_M_ERR_bad_a : Fld := ⟨0x20000001C, 0x40, 4096, 31, 16⟩
def EVG_M_ERR_bad_b : Fld := ⟨0x20000001C, 0x40, 4096, 15, 0⟩

def EVG_M_LOSS_both_bad : Fld := ⟨0x200000020, 0x40, 4096, 31, 16⟩
def EVG_M_LOSS_missing : Fld := ⟨0x200000020, 0x40, 4096, 15, 0⟩

def EVG_M_DUP_dup : Fld := ⟨0x200000024, 0x40, 4096, 31, 16⟩
def EVG_M_DUP_reanchors : Fld := ⟨0x200000024, 0x40, 4096, 15, 8⟩
def EVG_M_DUP_resyncs : Fld := ⟨0x200000024, 0x40, 4096, 7, 0⟩

def EVG_M_DROP_bp_drop : Fld := ⟨0x200000028, 0x40, 4096, 31, 16⟩
def EVG_M_DROP_ovf : Fld := ⟨0x200000028, 0x40, 4096, 15, 0⟩

/-! ### Table 9-7 -/

def PIT_SUM_faulty : Fld := ⟨0x00C000, 0x0, 1, 21, 9⟩
def PIT_SUM_twig_faulty : Fld := ⟨0x00C000, 0x0, 1, 8, 0⟩

def PIT_LAST_twig : Fld := ⟨0x00C004, 0x0, 1, 31, 31⟩
def PIT_LAST_ctx : Fld := ⟨0x00C004, 0x0, 1, 17, 0⟩

def PIT_CNT_decl : Fld := ⟨0x00C008, 0x0, 1, 31, 16⟩
def PIT_CNT_clr : Fld := ⟨0x00C008, 0x0, 1, 15, 0⟩

def PIT_SEL_ctx : Fld := ⟨0x00C00C, 0x0, 1, 17, 0⟩

def PIT_CTX_ST_checked : Fld := ⟨0x300000000, 0x40, 262144, 31, 31⟩
def PIT_CTX_ST_faulty : Fld := ⟨0x300000000, 0x40, 262144, 30, 30⟩
def PIT_CTX_ST_result : Fld := ⟨0x300000000, 0x40, 262144, 29, 27⟩
def PIT_CTX_ST_alive_ok : Fld := ⟨0x300000000, 0x40, 262144, 26, 26⟩
def PIT_CTX_ST_err_run : Fld := ⟨0x300000000, 0x40, 262144, 25, 22⟩
def PIT_CTX_ST_ok_run : Fld := ⟨0x300000000, 0x40, 262144, 21, 18⟩
def PIT_CTX_ST_exp : Fld := ⟨0x300000000, 0x40, 262144, 17, 0⟩

def PIT_CTX_ERR_crc_err : Fld := ⟨0x300000004, 0x40, 262144, 31, 16⟩
def PIT_CTX_ERR_id_err : Fld := ⟨0x300000004, 0x40, 262144, 15, 8⟩
def PIT_CTX_ERR_alive_err : Fld := ⟨0x300000004, 0x40, 262144, 7, 0⟩

def PIT_CTX_MISS_missing : Fld := ⟨0x300000008, 0x40, 262144, 31, 16⟩
def PIT_CTX_MISS_relapse : Fld := ⟨0x300000008, 0x40, 262144, 15, 0⟩

def PIT_CTX_TAG_LO_tag_lo : Fld := ⟨0x30000000C, 0x40, 262144, 31, 0⟩

def PIT_CTX_TAG_HI_tag_hi : Fld := ⟨0x300000010, 0x40, 262144, 31, 0⟩

/-! ### Table 13-7 -/

def CP_RUN_cause : Fld := ⟨0x00D000, 0x0, 1, 31, 28⟩
def CP_RUN_lockstep : Fld := ⟨0x00D000, 0x0, 1, 23, 16⟩
def CP_RUN_wdog : Fld := ⟨0x00D000, 0x0, 1, 15, 8⟩
def CP_RUN_patches : Fld := ⟨0x00D000, 0x0, 1, 6, 0⟩

def BM_HOST_WORLD_smb_sec : Fld := ⟨0x00D004, 0x0, 1, 1, 1⟩
def BM_HOST_WORLD_pcie_sec : Fld := ⟨0x00D004, 0x0, 1, 0, 0⟩

def BM_CONF_conf : Fld := ⟨0x00D010, 0x4, 8, 31, 0⟩

def BM_WV_count : Fld := ⟨0x00D030, 0x0, 1, 31, 16⟩
def BM_WV_master : Fld := ⟨0x00D030, 0x0, 1, 15, 12⟩
def BM_WV_write : Fld := ⟨0x00D030, 0x0, 1, 11, 11⟩

def BM_WV_ADDR_LO_addr_lo : Fld := ⟨0x00D034, 0x0, 1, 31, 0⟩

def BM_WV_ADDR_HI_addr_hi : Fld := ⟨0x00D038, 0x0, 1, 7, 0⟩

def BM_EVT_lock_broken : Fld := ⟨0x00D03C, 0x0, 1, 31, 24⟩
def BM_EVT_burst_abort : Fld := ⟨0x00D03C, 0x0, 1, 23, 16⟩
def BM_EVT_decode_err : Fld := ⟨0x00D03C, 0x0, 1, 15, 8⟩

def BM_MWD_expired : Fld := ⟨0x00D040, 0x0, 1, 7, 0⟩

def MB_ST_power : Fld := ⟨0x00D100, 0x10, 8, 31, 30⟩
def MB_ST_world : Fld := ⟨0x00D100, 0x10, 8, 29, 29⟩
def MB_ST_owner : Fld := ⟨0x00D100, 0x10, 8, 28, 25⟩
def MB_ST_share : Fld := ⟨0x00D100, 0x10, 8, 24, 17⟩
def MB_ST_pending : Fld := ⟨0x00D100, 0x10, 8, 16, 16⟩
def MB_ST_repaired : Fld := ⟨0x00D100, 0x10, 8, 15, 12⟩

def MB_ECC_corr : Fld := ⟨0x00D104, 0x10, 8, 31, 16⟩
def MB_ECC_uncorr : Fld := ⟨0x00D104, 0x10, 8, 15, 0⟩

def MB_ACC_off_acc : Fld := ⟨0x00D108, 0x10, 8, 31, 16⟩
def MB_ACC_deny : Fld := ⟨0x00D108, 0x10, 8, 15, 0⟩

def MB_OWNER_share : Fld := ⟨0x00D10C, 0x10, 8, 11, 4⟩
def MB_OWNER_owner : Fld := ⟨0x00D10C, 0x10, 8, 3, 0⟩

/-! ### Table 13-8 -/

def CP_WDOG_kick : Fld := ⟨0x11000000, 0x0, 1, 31, 0⟩

def BM_SEM_holder : Fld := ⟨0x11001000, 0x4, 64, 7, 4⟩
def BM_SEM_lock : Fld := ⟨0x11001000, 0x4, 64, 0, 0⟩

/-! ### Table 14-4 -/

/-- Message word `w` of a channel (Table 14-4). -/
def MBX_MSG_data (w : Nat) : Fld := ⟨0x010000 + 4 * w, 0x100, 16, 31, 0⟩

def MBX_CTL_abort : Fld := ⟨0x010040, 0x100, 16, 1, 1⟩
def MBX_CTL_go : Fld := ⟨0x010040, 0x100, 16, 0, 0⟩

def MBX_ST_posted : Fld := ⟨0x010044, 0x100, 16, 31, 24⟩
def MBX_ST_dir : Fld := ⟨0x010044, 0x100, 16, 15, 14⟩
def MBX_ST_world : Fld := ⟨0x010044, 0x100, 16, 13, 13⟩
def MBX_ST_abort_late : Fld := ⟨0x010044, 0x100, 16, 6, 6⟩
def MBX_ST_aborted : Fld := ⟨0x010044, 0x100, 16, 5, 5⟩
def MBX_ST_wr_busy : Fld := ⟨0x010044, 0x100, 16, 4, 4⟩
def MBX_ST_wiped : Fld := ⟨0x010044, 0x100, 16, 3, 3⟩
def MBX_ST_sender_rst : Fld := ⟨0x010044, 0x100, 16, 2, 2⟩
def MBX_ST_taken : Fld := ⟨0x010044, 0x100, 16, 1, 1⟩

/-! ### Table 14-5 -/

def MBX_SUM_go : Fld := ⟨0x011000, 0x0, 1, 31, 16⟩
def MBX_SUM_sender_rst : Fld := ⟨0x011000, 0x0, 1, 15, 0⟩

def MBX_LINK_downs : Fld := ⟨0x011004, 0x0, 1, 31, 16⟩
def MBX_LINK_perst : Fld := ⟨0x011004, 0x0, 1, 9, 9⟩
def MBX_LINK_msix_en : Fld := ⟨0x011004, 0x0, 1, 8, 8⟩
def MBX_LINK_bme : Fld := ⟨0x011004, 0x0, 1, 7, 7⟩
def MBX_LINK_width : Fld := ⟨0x011004, 0x0, 1, 6, 4⟩
def MBX_LINK_speed : Fld := ⟨0x011004, 0x0, 1, 3, 1⟩
def MBX_LINK_up : Fld := ⟨0x011004, 0x0, 1, 0, 0⟩

def MBX_CMD_taken : Fld := ⟨0x011008, 0x0, 1, 31, 16⟩
def MBX_CMD_refused : Fld := ⟨0x011008, 0x0, 1, 15, 0⟩

def MBX_HOSTERR_poisoned : Fld := ⟨0x01100C, 0x0, 1, 31, 16⟩
def MBX_HOSTERR_smb_pec : Fld := ⟨0x01100C, 0x0, 1, 15, 8⟩
def MBX_HOSTERR_smb_timeout : Fld := ⟨0x01100C, 0x0, 1, 7, 0⟩

/-! ### Table 15-11 -/

def IRQ_RAW_raw : Fld := ⟨0x020000, 0x10, 16, 31, 0⟩

def IRQ_STK_stk : Fld := ⟨0x020004, 0x10, 16, 31, 0⟩

def IRQ_EN_en : Fld := ⟨0x020008, 0x10, 16, 31, 0⟩

def IRQ_PEND_pend : Fld := ⟨0x02000C, 0x10, 16, 31, 0⟩

def IRQ_SUM_groups : Fld := ⟨0x020100, 0x0, 1, 15, 0⟩

def IRQ_PIN_fault : Fld := ⟨0x020104, 0x0, 1, 8, 8⟩
def IRQ_PIN_int : Fld := ⟨0x020104, 0x0, 1, 7, 0⟩

/-! ### Table 15-9 -/

def EVR_ST_frozen : Fld := ⟨0x030000, 0x0, 1, 31, 31⟩
def EVR_ST_degraded : Fld := ⟨0x030000, 0x0, 1, 30, 30⟩
def EVR_ST_ring_ok : Fld := ⟨0x030000, 0x0, 1, 29, 29⟩
def EVR_ST_flash_ok : Fld := ⟨0x030000, 0x0, 1, 28, 28⟩
def EVR_ST_flash_erasing : Fld := ⟨0x030000, 0x0, 1, 27, 27⟩
def EVR_ST_mb3_fill : Fld := ⟨0x030000, 0x0, 1, 12, 0⟩

def EVR_NEWEST_LO_seq_lo : Fld := ⟨0x030004, 0x0, 1, 31, 0⟩

def EVR_NEWEST_HI_seq_hi : Fld := ⟨0x030008, 0x0, 1, 31, 0⟩

def EVR_OLDEST_LO_seq_lo : Fld := ⟨0x03000C, 0x0, 1, 31, 0⟩

def EVR_OLDEST_HI_seq_hi : Fld := ⟨0x030010, 0x0, 1, 31, 0⟩

def EVR_HOLD_ovf : Fld := ⟨0x030014, 0x0, 1, 31, 16⟩
def EVR_HOLD_fill : Fld := ⟨0x030014, 0x0, 1, 6, 0⟩

def EVR_FLASH_lost : Fld := ⟨0x030018, 0x0, 1, 31, 16⟩
def EVR_FLASH_pending : Fld := ⟨0x030018, 0x0, 1, 6, 0⟩

def EVR_FAULT_0_word : Fld := ⟨0x03001C, 0x0, 1, 31, 0⟩

def EVR_FAULT_1_word : Fld := ⟨0x030020, 0x0, 1, 31, 0⟩

def EVR_LOSS_ovwr : Fld := ⟨0x030040, 0x4, 8, 31, 16⟩
def EVR_LOSS_drop : Fld := ⟨0x030040, 0x4, 8, 15, 0⟩

def EVR_CUR_CTL_cmd : Fld := ⟨0x030080, 0x0, 1, 5, 0⟩

def EVR_CUR_ST_state : Fld := ⟨0x030084, 0x0, 1, 31, 30⟩

def EVR_CUR_LO_seq_lo : Fld := ⟨0x030088, 0x0, 1, 31, 0⟩

def EVR_CUR_HI_seq_hi : Fld := ⟨0x03008C, 0x0, 1, 31, 0⟩

def EVR_MARK_LO_seq_lo : Fld := ⟨0x030090, 0x0, 1, 31, 0⟩

def EVR_MARK_HI_seq_hi : Fld := ⟨0x030094, 0x0, 1, 31, 0⟩

def EVR_CUR_LOST_lost : Fld := ⟨0x030098, 0x0, 1, 31, 0⟩

def EVR_FILT_grp : Fld := ⟨0x03009C, 0x0, 1, 31, 16⟩
def EVR_FILT_sev_max : Fld := ⟨0x03009C, 0x0, 1, 2, 0⟩

def EVR_WIN_data : Fld := ⟨0x030100, 0x4, 68, 31, 0⟩

def HQ_ST_flushing : Fld := ⟨0x030400, 0x10, 5, 31, 31⟩
def HQ_ST_spill : Fld := ⟨0x030400, 0x10, 5, 30, 30⟩
def HQ_ST_items : Fld := ⟨0x030400, 0x10, 5, 20, 0⟩

def HQ_CTL_flush : Fld := ⟨0x030404, 0x10, 5, 0, 0⟩

def HQ_LOST_lost : Fld := ⟨0x030408, 0x10, 5, 31, 0⟩

/-! ### Table 15-10 -/

def PC_SEL_enable : Fld := ⟨0x040000, 0x20, 64, 31, 31⟩
def PC_SEL_denied : Fld := ⟨0x040000, 0x20, 64, 30, 30⟩
def PC_SEL_kind : Fld := ⟨0x040000, 0x20, 64, 29, 27⟩
def PC_SEL_arg : Fld := ⟨0x040000, 0x20, 64, 26, 16⟩
def PC_SEL_filter : Fld := ⟨0x040000, 0x20, 64, 15, 0⟩

def PC_VAL_LO_val_lo : Fld := ⟨0x040004, 0x20, 64, 31, 0⟩

def PC_VAL_HI_val_hi : Fld := ⟨0x040008, 0x20, 64, 31, 0⟩

def PC_SNAP_LO_snap_lo : Fld := ⟨0x04000C, 0x20, 64, 31, 0⟩

def PC_SNAP_HI_snap_hi : Fld := ⟨0x040010, 0x20, 64, 31, 0⟩

def PC_CTL_clear : Fld := ⟨0x040800, 0x0, 1, 1, 1⟩
def PC_CTL_snap : Fld := ⟨0x040800, 0x0, 1, 0, 0⟩

/-! ### Table 9-8 -/

def CVU_CTL_enable : Fld := ⟨0x050000, 0x40, 64, 31, 31⟩
def CVU_CTL_mode : Fld := ⟨0x050000, 0x40, 64, 30, 30⟩
def CVU_CTL_poly : Fld := ⟨0x050000, 0x40, 64, 29, 28⟩
def CVU_CTL_src : Fld := ⟨0x050000, 0x40, 64, 27, 25⟩
def CVU_CTL_win : Fld := ⟨0x050000, 0x40, 64, 24, 23⟩
def CVU_CTL_irq_en : Fld := ⟨0x050000, 0x40, 64, 22, 22⟩
def CVU_CTL_owner : Fld := ⟨0x050000, 0x40, 64, 21, 20⟩
def CVU_CTL_master : Fld := ⟨0x050000, 0x40, 64, 19, 16⟩

def CVU_SEL_slot : Fld := ⟨0x050004, 0x40, 64, 31, 20⟩
def CVU_SEL_twig : Fld := ⟨0x050004, 0x40, 64, 19, 11⟩

def CVU_BASE_LO_base_lo : Fld := ⟨0x050008, 0x40, 64, 31, 0⟩

def CVU_BASE_HI_base_hi : Fld := ⟨0x05000C, 0x40, 64, 7, 0⟩

def CVU_SIZE_size : Fld := ⟨0x050010, 0x40, 64, 31, 0⟩

def CVU_LEN_len : Fld := ⟨0x050014, 0x40, 64, 31, 0⟩

def CVU_VAL_LO_val_lo : Fld := ⟨0x050018, 0x40, 64, 31, 0⟩

def CVU_VAL_HI_val_hi : Fld := ⟨0x05001C, 0x40, 64, 31, 0⟩

def CVU_EXP_LO_exp_lo : Fld := ⟨0x050020, 0x40, 64, 31, 0⟩

def CVU_EXP_HI_exp_hi : Fld := ⟨0x050024, 0x40, 64, 31, 0⟩

def CVU_RES_LO_res_lo : Fld := ⟨0x050028, 0x40, 64, 31, 0⟩

def CVU_RES_HI_res_hi : Fld := ⟨0x05002C, 0x40, 64, 31, 0⟩

def CVU_CNT_cnt : Fld := ⟨0x050030, 0x40, 64, 31, 0⟩

def CVU_ST_windows : Fld := ⟨0x050034, 0x40, 64, 31, 16⟩
def CVU_ST_denied : Fld := ⟨0x050034, 0x40, 64, 3, 3⟩
def CVU_ST_overrun : Fld := ⟨0x050034, 0x40, 64, 2, 2⟩
def CVU_ST_mismatch : Fld := ⟨0x050034, 0x40, 64, 1, 1⟩
def CVU_ST_ready : Fld := ⟨0x050034, 0x40, 64, 0, 0⟩

def CVU_MIS_CNT_mis : Fld := ⟨0x050038, 0x40, 64, 31, 0⟩

/-! ### Table 10-8 -/

def TMC_ST_fstate : Fld := ⟨0x060000, 0x0, 1, 31, 29⟩
def TMC_ST_tstate : Fld := ⟨0x060000, 0x0, 1, 28, 26⟩
def TMC_ST_traceable : Fld := ⟨0x060000, 0x0, 1, 25, 25⟩
def TMC_ST_hist_valid : Fld := ⟨0x060000, 0x0, 1, 24, 24⟩
def TMC_ST_osc_loss : Fld := ⟨0x060000, 0x0, 1, 23, 23⟩
def TMC_ST_osc_code : Fld := ⟨0x060000, 0x0, 1, 22, 20⟩
def TMC_ST_step_pend : Fld := ⟨0x060000, 0x0, 1, 19, 19⟩
def TMC_ST_slewing : Fld := ⟨0x060000, 0x0, 1, 18, 18⟩
def TMC_ST_fpend : Fld := ⟨0x060000, 0x0, 1, 17, 17⟩
def TMC_ST_tpend : Fld := ⟨0x060000, 0x0, 1, 16, 16⟩
def TMC_ST_servo_fault : Fld := ⟨0x060000, 0x0, 1, 15, 15⟩
def TMC_ST_runaway_stk : Fld := ⟨0x060000, 0x0, 1, 6, 6⟩
def TMC_ST_osc_loss_stk : Fld := ⟨0x060000, 0x0, 1, 5, 5⟩
def TMC_ST_disagree_stk : Fld := ⟨0x060000, 0x0, 1, 4, 4⟩
def TMC_ST_step_stk : Fld := ⟨0x060000, 0x0, 1, 3, 3⟩
def TMC_ST_fswitch_stk : Fld := ⟨0x060000, 0x0, 1, 2, 2⟩
def TMC_ST_tswitch_stk : Fld := ⟨0x060000, 0x0, 1, 1, 1⟩

def TMC_SEL_fsel : Fld := ⟨0x060004, 0x0, 1, 29, 24⟩
def TMC_SEL_tsel : Fld := ⟨0x060004, 0x0, 1, 21, 16⟩
def TMC_SEL_fnext : Fld := ⟨0x060004, 0x0, 1, 13, 8⟩
def TMC_SEL_tnext : Fld := ⟨0x060004, 0x0, 1, 5, 0⟩

def TMC_SEC_LO_sec_lo : Fld := ⟨0x060008, 0x0, 1, 31, 0⟩

def TMC_SEC_HI_sec_hi : Fld := ⟨0x06000C, 0x0, 1, 15, 0⟩

def TMC_NS_ns : Fld := ⟨0x060010, 0x0, 1, 29, 0⟩

def TMC_FRAC_frac : Fld := ⟨0x060014, 0x0, 1, 31, 0⟩

def TMC_FREQ_freq : Fld := ⟨0x060018, 0x0, 1, 31, 0⟩

def TMC_HIST_hist : Fld := ⟨0x06001C, 0x0, 1, 31, 0⟩

def TMC_PHASE_phase : Fld := ⟨0x060020, 0x0, 1, 31, 0⟩

def TMC_HOLD_hold_s : Fld := ⟨0x060024, 0x0, 1, 17, 0⟩

def TMC_THOLD_hold_s : Fld := ⟨0x060028, 0x0, 1, 17, 0⟩

def TMC_STEP_step : Fld := ⟨0x06002C, 0x0, 1, 31, 0⟩

def TMC_STEP_SEC_sec : Fld := ⟨0x060030, 0x0, 1, 31, 0⟩

def TMC_OSC_dev : Fld := ⟨0x060034, 0x0, 1, 31, 0⟩

def TMC_CNT_fswitch : Fld := ⟨0x060038, 0x0, 1, 31, 24⟩
def TMC_CNT_tswitch : Fld := ⟨0x060038, 0x0, 1, 23, 16⟩
def TMC_CNT_steps : Fld := ⟨0x060038, 0x0, 1, 15, 8⟩
def TMC_CNT_runaways : Fld := ⟨0x060038, 0x0, 1, 7, 4⟩
def TMC_CNT_osc_losses : Fld := ⟨0x060038, 0x0, 1, 3, 0⟩

def TMC_INC_inc_adj : Fld := ⟨0x06003C, 0x0, 1, 31, 0⟩

def TMC_CAND_ST_enabled : Fld := ⟨0x060100, 0x10, 56, 31, 31⟩
def TMC_CAND_ST_time : Fld := ⟨0x060100, 0x10, 56, 30, 30⟩
def TMC_CAND_ST_qualified : Fld := ⟨0x060100, 0x10, 56, 29, 29⟩
def TMC_CAND_ST_fsel : Fld := ⟨0x060100, 0x10, 56, 28, 28⟩
def TMC_CAND_ST_tsel : Fld := ⟨0x060100, 0x10, 56, 27, 27⟩
def TMC_CAND_ST_los : Fld := ⟨0x060100, 0x10, 56, 26, 26⟩
def TMC_CAND_ST_chatter : Fld := ⟨0x060100, 0x10, 56, 25, 25⟩
def TMC_CAND_ST_freq_fault : Fld := ⟨0x060100, 0x10, 56, 24, 24⟩
def TMC_CAND_ST_tod_fault : Fld := ⟨0x060100, 0x10, 56, 23, 23⟩
def TMC_CAND_ST_lockout : Fld := ⟨0x060100, 0x10, 56, 22, 22⟩
def TMC_CAND_ST_disagree : Fld := ⟨0x060100, 0x10, 56, 21, 21⟩
def TMC_CAND_ST_rank : Fld := ⟨0x060100, 0x10, 56, 19, 16⟩
def TMC_CAND_ST_ql : Fld := ⟨0x060100, 0x10, 56, 15, 12⟩
def TMC_CAND_ST_wtr_left : Fld := ⟨0x060100, 0x10, 56, 11, 0⟩

def TMC_CAND_FREQ_freq : Fld := ⟨0x060104, 0x10, 56, 31, 0⟩

def TMC_CAND_PHASE_phase : Fld := ⟨0x060108, 0x10, 56, 31, 0⟩

def TMC_CAND_CNT_los : Fld := ⟨0x06010C, 0x10, 56, 31, 24⟩
def TMC_CAND_CNT_chatter : Fld := ⟨0x06010C, 0x10, 56, 23, 16⟩
def TMC_CAND_CNT_runts : Fld := ⟨0x06010C, 0x10, 56, 15, 8⟩
def TMC_CAND_CNT_tod_err : Fld := ⟨0x06010C, 0x10, 56, 7, 0⟩

/-! ### Table 11-5 -/

def TMC_TCH_ST_defined : Fld := ⟨0x060800, 0x40, 32, 31, 31⟩
def TMC_TCH_ST_valid : Fld := ⟨0x060800, 0x40, 32, 30, 30⟩
def TMC_TCH_ST_route_err : Fld := ⟨0x060800, 0x40, 32, 29, 29⟩
def TMC_TCH_ST_id_err : Fld := ⟨0x060800, 0x40, 32, 28, 28⟩
def TMC_TCH_ST_loop : Fld := ⟨0x060800, 0x40, 32, 27, 27⟩
def TMC_TCH_ST_peer_trace : Fld := ⟨0x060800, 0x40, 32, 26, 26⟩
def TMC_TCH_ST_peer_ql : Fld := ⟨0x060800, 0x40, 32, 25, 22⟩
def TMC_TCH_ST_peer_state : Fld := ⟨0x060800, 0x40, 32, 21, 19⟩
def TMC_TCH_ST_hops : Fld := ⟨0x060800, 0x40, 32, 15, 8⟩
def TMC_TCH_ST_accepted : Fld := ⟨0x060800, 0x40, 32, 7, 0⟩

def TMC_TCH_OFF_off : Fld := ⟨0x060804, 0x40, 32, 31, 0⟩

def TMC_TCH_PD_pd : Fld := ⟨0x060808, 0x40, 32, 31, 0⟩

def TMC_TCH_CNT_rx : Fld := ⟨0x06080C, 0x40, 32, 31, 16⟩
def TMC_TCH_CNT_crc_err : Fld := ⟨0x06080C, 0x40, 32, 15, 8⟩
def TMC_TCH_CNT_pd_reject : Fld := ⟨0x06080C, 0x40, 32, 7, 0⟩

def TMC_TCH_RXSEQ_seq : Fld := ⟨0x060810, 0x40, 32, 31, 0⟩

def TMC_TCH_TXSEQ_seq : Fld := ⟨0x060814, 0x40, 32, 31, 0⟩

def TMC_TCOR_ST_en : Fld := ⟨0x061000, 0x0, 1, 0, 0⟩

def TMC_TCOR_CNT_corrected : Fld := ⟨0x061004, 0x0, 1, 31, 0⟩

def TMC_TCOR_MACSEC_macsec : Fld := ⟨0x061008, 0x0, 1, 31, 0⟩

def TMC_TCOR_UNSUP_deep : Fld := ⟨0x06100C, 0x0, 1, 31, 16⟩
def TMC_TCOR_UNSUP_other : Fld := ⟨0x06100C, 0x0, 1, 15, 0⟩

def TMC_TCOR_OVF_ovf : Fld := ⟨0x061010, 0x0, 1, 31, 0⟩

def TMC_OUT_ST_kind : Fld := ⟨0x061100, 0x10, 8, 31, 30⟩
def TMC_OUT_ST_squelch : Fld := ⟨0x061100, 0x10, 8, 29, 29⟩

def TMC_OUT_CNT_squelches : Fld := ⟨0x061104, 0x10, 8, 15, 0⟩

def TMC_TOD_RX_ST_valid : Fld := ⟨0x061200, 0x10, 4, 31, 31⟩
def TMC_TOD_RX_ST_ql : Fld := ⟨0x061200, 0x10, 4, 27, 24⟩
def TMC_TOD_RX_ST_st : Fld := ⟨0x061200, 0x10, 4, 23, 16⟩
def TMC_TOD_RX_ST_utc : Fld := ⟨0x061200, 0x10, 4, 15, 8⟩
def TMC_TOD_RX_ST_bad : Fld := ⟨0x061200, 0x10, 4, 7, 0⟩

def TMC_TOD_RX_SEC_sec : Fld := ⟨0x061204, 0x10, 4, 31, 0⟩

def TMC_TOD_TX_en : Fld := ⟨0x061240, 0x0, 1, 3, 0⟩

def TMC_UTC_utc : Fld := ⟨0x061244, 0x0, 1, 15, 8⟩
def TMC_UTC_from_ref : Fld := ⟨0x061244, 0x0, 1, 2, 2⟩
def TMC_UTC_leap : Fld := ⟨0x061244, 0x0, 1, 1, 0⟩

def RTC_ST_valid : Fld := ⟨0x061300, 0x0, 1, 31, 31⟩
def RTC_ST_bat_lost : Fld := ⟨0x061300, 0x0, 1, 30, 30⟩
def RTC_ST_xtal_fail : Fld := ⟨0x061300, 0x0, 1, 29, 29⟩
def RTC_ST_xtal_fail_stk : Fld := ⟨0x061300, 0x0, 1, 28, 28⟩
def RTC_ST_ahead : Fld := ⟨0x061300, 0x0, 1, 27, 27⟩
def RTC_ST_holding : Fld := ⟨0x061300, 0x0, 1, 26, 26⟩
def RTC_ST_last_err : Fld := ⟨0x061300, 0x0, 1, 15, 0⟩

def RTC_SEC_LO_sec_lo : Fld := ⟨0x061304, 0x0, 1, 31, 0⟩

def RTC_SEC_HI_sec_hi : Fld := ⟨0x061308, 0x0, 1, 15, 0⟩

def RTC_TICK_tick : Fld := ⟨0x06130C, 0x0, 1, 14, 0⟩

def RTC_TRIM_trim : Fld := ⟨0x061310, 0x0, 1, 15, 0⟩

def RTC_CNT_disc : Fld := ⟨0x061314, 0x0, 1, 31, 16⟩
def RTC_CNT_sets : Fld := ⟨0x061314, 0x0, 1, 15, 0⟩

/-! ### Table 2-12 -/

def LN_ID_width : Fld := ⟨0x080000, 0x100, 144, 28, 26⟩
def LN_ID_format : Fld := ⟨0x080000, 0x100, 144, 25, 22⟩
def LN_ID_profile : Fld := ⟨0x080000, 0x100, 144, 21, 19⟩
def LN_ID_rate : Fld := ⟨0x080000, 0x100, 144, 18, 16⟩
def LN_ID_kind : Fld := ⟨0x080000, 0x100, 144, 14, 14⟩
def LN_ID_quad : Fld := ⟨0x080000, 0x100, 144, 13, 8⟩
def LN_ID_lane : Fld := ⟨0x080000, 0x100, 144, 7, 0⟩

def LN_STATE_squelch_src : Fld := ⟨0x080004, 0x100, 144, 18, 16⟩
def LN_STATE_test : Fld := ⟨0x080004, 0x100, 144, 15, 15⟩
def LN_STATE_tap : Fld := ⟨0x080004, 0x100, 144, 14, 14⟩
def LN_STATE_refclk_ok : Fld := ⟨0x080004, 0x100, 144, 13, 13⟩
def LN_STATE_term_valid : Fld := ⟨0x080004, 0x100, 144, 12, 12⟩
def LN_STATE_squelch : Fld := ⟨0x080004, 0x100, 144, 9, 9⟩
def LN_STATE_tx_on : Fld := ⟨0x080004, 0x100, 144, 8, 8⟩
def LN_STATE_bond_up : Fld := ⟨0x080004, 0x100, 144, 7, 7⟩
def LN_STATE_align : Fld := ⟨0x080004, 0x100, 144, 6, 6⟩
def LN_STATE_fec_lock : Fld := ⟨0x080004, 0x100, 144, 5, 5⟩
def LN_STATE_cdr_lock : Fld := ⟨0x080004, 0x100, 144, 4, 4⟩
def LN_STATE_sig_det : Fld := ⟨0x080004, 0x100, 144, 3, 3⟩
def LN_STATE_state : Fld := ⟨0x080004, 0x100, 144, 2, 0⟩

def LN_STICKY_mod_int_masked : Fld := ⟨0x080008, 0x100, 144, 13, 13⟩
def LN_STICKY_mod_int : Fld := ⟨0x080008, 0x100, 144, 12, 12⟩
def LN_STICKY_synth_unlock : Fld := ⟨0x080008, 0x100, 144, 11, 11⟩
def LN_STICKY_refclk_loss : Fld := ⟨0x080008, 0x100, 144, 10, 10⟩
def LN_STICKY_term_step : Fld := ⟨0x080008, 0x100, 144, 9, 9⟩
def LN_STICKY_link_up : Fld := ⟨0x080008, 0x100, 144, 8, 8⟩
def LN_STICKY_link_down : Fld := ⟨0x080008, 0x100, 144, 7, 7⟩
def LN_STICKY_skew_exceeded : Fld := ⟨0x080008, 0x100, 144, 6, 6⟩
def LN_STICKY_align_loss : Fld := ⟨0x080008, 0x100, 144, 5, 5⟩
def LN_STICKY_eb_slip : Fld := ⟨0x080008, 0x100, 144, 4, 4⟩
def LN_STICKY_hi_ser : Fld := ⟨0x080008, 0x100, 144, 3, 3⟩
def LN_STICKY_fec_loss : Fld := ⟨0x080008, 0x100, 144, 2, 2⟩
def LN_STICKY_cdr_unlock : Fld := ⟨0x080008, 0x100, 144, 1, 1⟩
def LN_STICKY_los : Fld := ⟨0x080008, 0x100, 144, 0, 0⟩

def LN_FEC_CW_LO_cw_lo : Fld := ⟨0x080010, 0x100, 144, 31, 0⟩

def LN_FEC_CW_HI_cw_hi : Fld := ⟨0x080014, 0x100, 144, 31, 0⟩

def LN_FEC_CORR_LO_corr_lo : Fld := ⟨0x080018, 0x100, 144, 31, 0⟩

def LN_FEC_CORR_HI_corr_hi : Fld := ⟨0x08001C, 0x100, 144, 31, 0⟩

def LN_FEC_UNCORR_uncorr : Fld := ⟨0x080020, 0x100, 144, 31, 0⟩

def LN_FEC_SYM_sym : Fld := ⟨0x080024, 0x100, 144, 31, 0⟩

def LN_SER_ser : Fld := ⟨0x080028, 0x100, 144, 31, 0⟩

def LN_EB_slips : Fld := ⟨0x08002C, 0x100, 144, 31, 16⟩
def LN_EB_fill : Fld := ⟨0x08002C, 0x100, 144, 6, 0⟩

def LN_RX_TERM_rx_term : Fld := ⟨0x080030, 0x100, 144, 19, 0⟩

def LN_TX_TERM_tx_term : Fld := ⟨0x080034, 0x100, 144, 19, 0⟩

def LN_CAL_tx_ball : Fld := ⟨0x080038, 0x100, 144, 27, 16⟩
def LN_CAL_rx_ball : Fld := ⟨0x080038, 0x100, 144, 11, 0⟩

def LN_SKEW_skew : Fld := ⟨0x08003C, 0x100, 144, 15, 0⟩

def LN_TS_SEC_sec : Fld := ⟨0x080040, 0x100, 144, 31, 0⟩

def LN_TS_NS_ns : Fld := ⟨0x080044, 0x100, 144, 29, 0⟩

def LN_TS_SUB_sub : Fld := ⟨0x080048, 0x100, 144, 5, 0⟩

def LN_SNR_snr : Fld := ⟨0x08004C, 0x100, 144, 15, 0⟩

def LN_PRBS_ERR_errs : Fld := ⟨0x080050, 0x100, 144, 31, 0⟩

def LN_LINKUP_time : Fld := ⟨0x080054, 0x100, 144, 23, 0⟩

def LN_DOWN_CNT_count : Fld := ⟨0x080058, 0x100, 144, 15, 0⟩

/-! ### Table 4-6 -/

def MAP_CTX_PAGE_page : Fld := ⟨0x100000, 0x0, 1, 2, 0⟩

/-! ### Table 3-10 -/

def FRM_DEF_tsd : Fld := ⟨0x100000000, 0x40, 262144, 19, 19⟩
def FRM_DEF_tsf : Fld := ⟨0x100000000, 0x40, 262144, 18, 18⟩
def FRM_DEF_hlm : Fld := ⟨0x100000000, 0x40, 262144, 17, 17⟩
def FRM_DEF_rpf : Fld := ⟨0x100000000, 0x40, 262144, 16, 16⟩
def FRM_DEF_phymm : Fld := ⟨0x100000000, 0x40, 262144, 15, 15⟩
def FRM_DEF_gidm : Fld := ⟨0x100000000, 0x40, 262144, 14, 14⟩
def FRM_DEF_rf : Fld := ⟨0x100000000, 0x40, 262144, 13, 13⟩
def FRM_DEF_lf : Fld := ⟨0x100000000, 0x40, 262144, 12, 12⟩
def FRM_DEF_deg : Fld := ⟨0x100000000, 0x40, 262144, 11, 11⟩
def FRM_DEF_msim : Fld := ⟨0x100000000, 0x40, 262144, 10, 10⟩
def FRM_DEF_plm : Fld := ⟨0x100000000, 0x40, 262144, 9, 9⟩
def FRM_DEF_tim : Fld := ⟨0x100000000, 0x40, 262144, 8, 8⟩
def FRM_DEF_bdi : Fld := ⟨0x100000000, 0x40, 262144, 7, 7⟩
def FRM_DEF_lck : Fld := ⟨0x100000000, 0x40, 262144, 6, 6⟩
def FRM_DEF_oci : Fld := ⟨0x100000000, 0x40, 262144, 5, 5⟩
def FRM_DEF_ais : Fld := ⟨0x100000000, 0x40, 262144, 4, 4⟩
def FRM_DEF_lom : Fld := ⟨0x100000000, 0x40, 262144, 3, 3⟩
def FRM_DEF_lof : Fld := ⟨0x100000000, 0x40, 262144, 2, 2⟩
def FRM_DEF_oof : Fld := ⟨0x100000000, 0x40, 262144, 1, 1⟩
def FRM_DEF_ssf : Fld := ⟨0x100000000, 0x40, 262144, 0, 0⟩

def FRM_DEF_STK_stk : Fld := ⟨0x100000004, 0x40, 262144, 17, 0⟩

def FRM_ALIGN_amb_cnt : Fld := ⟨0x100000008, 0x40, 262144, 31, 16⟩
def FRM_ALIGN_cands : Fld := ⟨0x100000008, 0x40, 262144, 15, 8⟩
def FRM_ALIGN_n_cur : Fld := ⟨0x100000008, 0x40, 262144, 6, 4⟩
def FRM_ALIGN_im : Fld := ⟨0x100000008, 0x40, 262144, 1, 1⟩
def FRM_ALIGN_state : Fld := ⟨0x100000008, 0x40, 262144, 0, 0⟩

def FRM_LABEL_acc_valid : Fld := ⟨0x10000000C, 0x40, 262144, 31, 31⟩
def FRM_LABEL_msim_cnt : Fld := ⟨0x10000000C, 0x40, 262144, 30, 24⟩
def FRM_LABEL_msim_ts : Fld := ⟨0x10000000C, 0x40, 262144, 23, 16⟩
def FRM_LABEL_exp_pt : Fld := ⟨0x10000000C, 0x40, 262144, 15, 8⟩
def FRM_LABEL_acc_pt : Fld := ⟨0x10000000C, 0x40, 262144, 7, 0⟩

def FRM_TTI_crc : Fld := ⟨0x100000010, 0x40, 262144, 31, 0⟩

def FRM_TTI_ST_tti_changed : Fld := ⟨0x100000014, 0x40, 262144, 1, 1⟩
def FRM_TTI_ST_tti_valid : Fld := ⟨0x100000014, 0x40, 262144, 0, 0⟩

def FRM_PM_fe_unavail : Fld := ⟨0x100000018, 0x40, 262144, 25, 25⟩
def FRM_PM_ne_unavail : Fld := ⟨0x100000018, 0x40, 262144, 24, 24⟩
def FRM_PM_fe_run : Fld := ⟨0x100000018, 0x40, 262144, 23, 20⟩
def FRM_PM_ne_run : Fld := ⟨0x100000018, 0x40, 262144, 19, 16⟩
def FRM_PM_deg_bad : Fld := ⟨0x100000018, 0x40, 262144, 15, 12⟩
def FRM_PM_deg_good : Fld := ⟨0x100000018, 0x40, 262144, 11, 8⟩

def FRM_EB_CUR_eb : Fld := ⟨0x10000001C, 0x40, 262144, 23, 0⟩

/-! ### Table 4-7 -/

def MAP_CTX_CFG_defined : Fld := ⟨0x100000020, 0x40, 262144, 31, 31⟩
def MAP_CTX_CFG_dir : Fld := ⟨0x100000020, 0x40, 262144, 30, 30⟩
def MAP_CTX_CFG_kind : Fld := ⟨0x100000020, 0x40, 262144, 29, 26⟩
def MAP_CTX_CFG_carriage : Fld := ⟨0x100000020, 0x40, 262144, 25, 24⟩
def MAP_CTX_CFG_terminated : Fld := ⟨0x100000020, 0x40, 262144, 18, 18⟩
def MAP_CTX_CFG_server : Fld := ⟨0x100000020, 0x40, 262144, 17, 0⟩

def MAP_CTX_SLOTS_first : Fld := ⟨0x100000024, 0x40, 262144, 31, 20⟩
def MAP_CTX_SLOTS_count : Fld := ⟨0x100000024, 0x40, 262144, 19, 11⟩
def MAP_CTX_SLOTS_host : Fld := ⟨0x100000024, 0x40, 262144, 8, 0⟩

def MAP_GMP_cm : Fld := ⟨0x100000028, 0x40, 262144, 31, 16⟩
def MAP_GMP_jc_err : Fld := ⟨0x100000028, 0x40, 262144, 7, 0⟩

def MAP_ADAPT_idle_ins : Fld := ⟨0x10000002C, 0x40, 262144, 31, 16⟩
def MAP_ADAPT_idle_del : Fld := ⟨0x10000002C, 0x40, 262144, 15, 2⟩
def MAP_ADAPT_ovf : Fld := ⟨0x10000002C, 0x40, 262144, 0, 0⟩

def MAP_HOST_slips : Fld := ⟨0x100000030, 0x40, 262144, 31, 16⟩
def MAP_HOST_hcrc_err : Fld := ⟨0x100000030, 0x40, 262144, 15, 8⟩
def MAP_HOST_fnum : Fld := ⟨0x100000030, 0x40, 262144, 7, 0⟩

def MAP_HOST_TERM_term_valid : Fld := ⟨0x100000034, 0x40, 262144, 14, 14⟩
def MAP_HOST_TERM_term : Fld := ⟨0x100000034, 0x40, 262144, 13, 0⟩

def MAP_ECC_corr : Fld := ⟨0x100000038, 0x40, 262144, 31, 16⟩
def MAP_ECC_ctx_err : Fld := ⟨0x100000038, 0x40, 262144, 0, 0⟩

def MAP_STATE_cal_rx : Fld := ⟨0x10000003C, 0x40, 262144, 2, 2⟩
def MAP_STATE_cal_tx : Fld := ⟨0x10000003C, 0x40, 262144, 1, 1⟩
def MAP_STATE_cr_pend : Fld := ⟨0x10000003C, 0x40, 262144, 0, 0⟩

/-! ### Table 16-11 -/

def DC_ST_state : Fld := ⟨0x11000400, 0x0, 1, 31, 30⟩
def DC_ST_chan : Fld := ⟨0x11000400, 0x0, 1, 29, 28⟩
def DC_ST_width : Fld := ⟨0x11000400, 0x0, 1, 27, 27⟩
def DC_ST_density : Fld := ⟨0x11000400, 0x0, 1, 26, 25⟩
def DC_ST_rate : Fld := ⟨0x11000400, 0x0, 1, 24, 22⟩
def DC_ST_ch_up : Fld := ⟨0x11000400, 0x0, 1, 15, 8⟩
def DC_ST_cap_gib : Fld := ⟨0x11000400, 0x0, 1, 7, 0⟩

def DC_CH_ST_state : Fld := ⟨0x11000410, 0x10, 8, 31, 30⟩
def DC_CH_ST_retrains : Fld := ⟨0x11000410, 0x10, 8, 23, 16⟩
def DC_CH_ST_train_ms : Fld := ⟨0x11000410, 0x10, 8, 15, 0⟩

def DC_ECC_corr : Fld := ⟨0x11000414, 0x10, 8, 31, 16⟩
def DC_ECC_uncorr : Fld := ⟨0x11000414, 0x10, 8, 15, 0⟩

def DC_UE_ADDR_LO_addr_lo : Fld := ⟨0x11000418, 0x10, 8, 31, 0⟩

def DC_UE_ADDR_HI_addr_hi : Fld := ⟨0x1100041C, 0x10, 8, 7, 0⟩

def PWR_DOM_state : Fld := ⟨0x11000500, 0x4, 24, 31, 29⟩
def PWR_DOM_want : Fld := ⟨0x11000500, 0x4, 24, 28, 28⟩
def PWR_DOM_pending : Fld := ⟨0x11000500, 0x4, 24, 27, 27⟩
def PWR_DOM_fault : Fld := ⟨0x11000500, 0x4, 24, 26, 26⟩
def PWR_DOM_cycles : Fld := ⟨0x11000500, 0x4, 24, 23, 16⟩
def PWR_DOM_last_us : Fld := ⟨0x11000500, 0x4, 24, 15, 0⟩

def PWR_RST_cause : Fld := ⟨0x11000580, 0x0, 1, 31, 28⟩
def PWR_RST_sys : Fld := ⟨0x11000580, 0x0, 1, 15, 8⟩
def PWR_RST_ctl : Fld := ⟨0x11000580, 0x0, 1, 7, 0⟩

/-- The registers of Table 12-12 with their fields. -/
def regsT12_12 : List RegDef := [
  ⟨0x000000, 0x0, 1, [(31, 16, .ro), (15, 12, .ro), (11, 8, .ro), (0, 0, .ro)]⟩, -- CP_ID
  ⟨0x000004, 0x0, 1, [(31, 0, .ro)]⟩, -- CP_SERIAL_LO
  ⟨0x000008, 0x0, 1, [(31, 0, .ro)]⟩, -- CP_SERIAL_HI
  ⟨0x00000C, 0x0, 1, [(31, 29, .ro), (28, 27, .ro), (26, 26, .ro), (25, 24, .ro), (23, 23, .ro), (22, 22, .ro), (21, 18, .ro), (7, 0, .ro)]⟩, -- CP_BOOT_ST
  ⟨0x000010, 0x0, 1, [(31, 0, .ro)]⟩, -- CP_BOOT_EPOCH
  ⟨0x000014, 0x0, 1, [(15, 0, .ro)]⟩, -- CP_BOOT_TIME
  ⟨0x000018, 0x0, 1, [(31, 0, .ro)]⟩, -- CP_IMG_VER
  ⟨0x00001C, 0x0, 1, [(15, 8, .ro), (7, 0, .ro)]⟩, -- CP_IMG_SVN
  ⟨0x000020, 0x0, 1, [(31, 16, .ro), (15, 0, .ro)]⟩, -- CP_CLAMP
  ⟨0x000024, 0x0, 1, [(16, 1, .ro)]⟩, -- CP_SEC_REJ
  ⟨0x000040, 0x4, 16, [(31, 0, .ro)]⟩, -- CP_IMG_DIGEST
  ⟨0x000080, 0x0, 1, [(31, 30, .ro), (29, 28, .ro), (27, 24, .ro), (23, 20, .ro), (19, 18, .ro), (17, 17, .ro), (16, 16, .ro)]⟩, -- CP_LC
  ⟨0x000084, 0x0, 1, [(4, 4, .ro), (3, 2, .ro), (1, 0, .ro)]⟩ -- CP_TAMPER
  ]

/-- The registers of Table 5-9 with their fields. -/
def regsT5_9 : List RegDef := [
  ⟨0x004000, 0x0, 1, [(31, 16, .ro), (3, 2, .ro), (0, 0, .ro)]⟩, -- FAB_PAGE
  ⟨0x004004, 0x0, 1, [(31, 0, .ro)]⟩, -- FAB_PAGE_ID
  ⟨0x004008, 0x0, 1, [(31, 16, .ro), (3, 2, .ro), (0, 0, .ro)]⟩, -- TWG_PAGE
  ⟨0x00400C, 0x0, 1, [(31, 0, .ro)]⟩, -- TWG_PAGE_ID
  ⟨0x004010, 0x0, 1, [(31, 0, .ro)]⟩, -- FAB_GMF_LO
  ⟨0x004014, 0x0, 1, [(31, 0, .ro)]⟩, -- FAB_GMF_HI
  ⟨0x004020, 0x4, 5, [(28, 24, .ro), (20, 16, .ro), (12, 8, .ro), (4, 0, .ro)]⟩, -- FAB_STEER
  ⟨0x004040, 0x0, 1, [(31, 30, .ro), (29, 29, .ro), (25, 21, .ro), (20, 16, .ro), (10, 0, .ro)]⟩, -- FAB_COPPICE
  ⟨0x004044, 0x0, 1, [(31, 0, .ro)]⟩, -- FAB_COPPICE_CNT
  ⟨0x004048, 0x0, 1, [(31, 16, .ro), (15, 0, .rc)]⟩, -- FAB_COPPICE_MIS
  ⟨0x00404C, 0x0, 1, [(31, 16, .rc), (15, 0, .rc)]⟩, -- FAB_ERR
  ⟨0x004100, 0x10, 21, [(31, 30, .ro), (29, 29, .w1c), (28, 27, .ro), (20, 16, .ro), (15, 0, .ro)]⟩, -- FAB_SLICE_ST
  ⟨0x004104, 0x10, 21, [(31, 0, .rc)]⟩, -- FAB_SLICE_CORR
  ⟨0x004108, 0x10, 21, [(31, 16, .rc), (15, 0, .rc)]⟩, -- FAB_SLICE_ERR
  ⟨0x00410C, 0x10, 21, [(31, 0, .ro)]⟩ -- FAB_SLICE_TEST
  ]

/-- The registers of Table 6-7 with their fields. -/
def regsT6_7 : List RegDef := [
  ⟨0x005000, 0x0, 1, [(27, 24, .ro), (21, 20, .ro), (19, 17, .ro), (15, 8, .ro), (5, 0, .ro)]⟩, -- PLN_STATE
  ⟨0x005004, 0x0, 1, [(31, 0, .ro)]⟩, -- PLN_ID
  ⟨0x005008, 0x0, 1, [(31, 0, .ro)]⟩, -- PLN_DUE_LO
  ⟨0x00500C, 0x0, 1, [(31, 0, .ro)]⟩, -- PLN_DUE_HI
  ⟨0x005010, 0x0, 1, [(31, 24, .ro), (23, 0, .ro)]⟩, -- PLN_DETAIL
  ⟨0x005014, 0x0, 1, [(31, 16, .rc), (15, 0, .ro)]⟩, -- PLN_HIT
  ⟨0x005018, 0x0, 1, [(31, 16, .ro), (15, 0, .ro)]⟩ -- PLN_CNT
  ]

/-- The registers of Table 7-8 with their fields. -/
def regsT7_8 : List RegDef := [
  ⟨0x006000, 0x10, 1024, [(31, 28, .ro), (27, 24, .ro), (23, 23, .ro), (22, 22, .ro), (21, 21, .ro), (20, 20, .ro), (19, 19, .ro), (18, 18, .ro), (17, 17, .ro), (16, 16, .ro), (9, 0, .ro)]⟩, -- QS_GRP_ST
  ⟨0x006004, 0x10, 1024, [(11, 11, .ro), (10, 8, .ro), (7, 7, .ro), (6, 6, .ro), (5, 5, .ro), (4, 4, .ro), (3, 3, .ro), (2, 2, .ro), (1, 1, .ro), (0, 0, .ro)]⟩, -- QS_GRP_TRIG
  ⟨0x006008, 0x10, 1024, [(31, 24, .ro), (23, 16, .ro), (15, 8, .ro), (7, 0, .ro)]⟩, -- QS_GRP_APS
  ⟨0x00600C, 0x10, 1024, [(31, 16, .ro), (15, 8, .rc), (7, 0, .rc)]⟩, -- QS_GRP_CNT
  ⟨0x00A000, 0x0, 1, [(19, 16, .ro), (11, 8, .ro), (3, 0, .w1c)]⟩, -- QS_FORCE
  ⟨0x00A004, 0x0, 1, [(31, 0, .rc)]⟩, -- QS_FORCE_EXC
  ⟨0x00A008, 0x0, 1, [(26, 16, .ro), (10, 0, .ro)]⟩ -- QS_SUMMARY
  ]

/-- The registers of Table 7-9 with their fields. -/
def regsT7_9 : List RegDef := [
  ⟨0x00A100, 0x0, 1, [(31, 30, .ro), (29, 28, .ro), (27, 27, .ro), (26, 26, .ro), (25, 25, .ro), (24, 24, .ro), (23, 23, .ro), (22, 22, .ro), (21, 21, .ro), (20, 20, .ro), (19, 16, .ro), (4, 0, .ro)]⟩, -- MATE_ST
  ⟨0x00A104, 0x0, 1, [(31, 16, .ro), (7, 0, .ro)]⟩, -- MATE_GEN
  ⟨0x00A108, 0x0, 1, [(31, 16, .ro), (15, 0, .rc)]⟩, -- MATE_CNT
  ⟨0x00A10C, 0x0, 1, [(31, 16, .rc), (15, 0, .rc)]⟩, -- MATE_MISS
  ⟨0x00A110, 0x0, 1, [(31, 0, .ro)]⟩ -- MATE_PEER
  ]

/-- The registers of Table 8-7 with their fields. -/
def regsT8_7 : List RegDef := [
  ⟨0x00B000, 0x0, 1, [(28, 16, .ro), (12, 0, .ro)]⟩, -- EVG_SUM
  ⟨0x00B004, 0x0, 1, [(20, 0, .ro)]⟩, -- EVG_CAP
  ⟨0x00B008, 0x0, 1, [(31, 16, .rc), (15, 0, .rc)]⟩, -- EVG_DDR
  ⟨0x00B00C, 0x0, 1, [(11, 0, .rw)]⟩, -- EVG_SEL
  ⟨0x200000000, 0x40, 4096, [(31, 31, .ro), (30, 30, .ro), (29, 28, .ro), (27, 26, .ro), (25, 24, .ro), (23, 23, .ro), (22, 22, .ro)]⟩, -- EVG_M_ST
  ⟨0x200000004, 0x40, 4096, [(31, 31, .ro), (25, 0, .ro)]⟩, -- EVG_M_OFF_A
  ⟨0x200000008, 0x40, 4096, [(31, 31, .ro), (25, 0, .ro)]⟩, -- EVG_M_OFF_B
  ⟨0x20000000C, 0x40, 4096, [(31, 0, .ro)]⟩, -- EVG_M_SEQ
  ⟨0x200000010, 0x40, 4096, [(31, 28, .ro), (27, 24, .ro), (20, 0, .ro)]⟩, -- EVG_M_QFILL
  ⟨0x200000014, 0x40, 4096, [(31, 0, .ro)]⟩, -- EVG_M_QW
  ⟨0x200000018, 0x40, 4096, [(31, 0, .ro)]⟩, -- EVG_M_QR
  ⟨0x20000001C, 0x40, 4096, [(31, 16, .rc), (15, 0, .rc)]⟩, -- EVG_M_ERR
  ⟨0x200000020, 0x40, 4096, [(31, 16, .rc), (15, 0, .rc)]⟩, -- EVG_M_LOSS
  ⟨0x200000024, 0x40, 4096, [(31, 16, .rc), (15, 8, .rc), (7, 0, .rc)]⟩, -- EVG_M_DUP
  ⟨0x200000028, 0x40, 4096, [(31, 16, .rc), (15, 0, .rc)]⟩ -- EVG_M_DROP
  ]

/-- The registers of Table 9-7 with their fields. -/
def regsT9_7 : List RegDef := [
  ⟨0x00C000, 0x0, 1, [(21, 9, .ro), (8, 0, .ro)]⟩, -- PIT_SUM
  ⟨0x00C004, 0x0, 1, [(31, 31, .ro), (17, 0, .ro)]⟩, -- PIT_LAST
  ⟨0x00C008, 0x0, 1, [(31, 16, .rc), (15, 0, .rc)]⟩, -- PIT_CNT
  ⟨0x00C00C, 0x0, 1, [(17, 0, .rw)]⟩, -- PIT_SEL
  ⟨0x300000000, 0x40, 262144, [(31, 31, .ro), (30, 30, .ro), (29, 27, .ro), (26, 26, .ro), (25, 22, .ro), (21, 18, .ro), (17, 0, .ro)]⟩, -- PIT_CTX_ST
  ⟨0x300000004, 0x40, 262144, [(31, 16, .rc), (15, 8, .rc), (7, 0, .rc)]⟩, -- PIT_CTX_ERR
  ⟨0x300000008, 0x40, 262144, [(31, 16, .rc), (15, 0, .rc)]⟩, -- PIT_CTX_MISS
  ⟨0x30000000C, 0x40, 262144, [(31, 0, .ro)]⟩, -- PIT_CTX_TAG_LO
  ⟨0x300000010, 0x40, 262144, [(31, 0, .ro)]⟩ -- PIT_CTX_TAG_HI
  ]

/-- The registers of Table 13-7 with their fields. -/
def regsT13_7 : List RegDef := [
  ⟨0x00D000, 0x0, 1, [(31, 28, .ro), (23, 16, .ro), (15, 8, .ro), (6, 0, .ro)]⟩, -- CP_RUN
  ⟨0x00D004, 0x0, 1, [(1, 1, .ro), (0, 0, .ro)]⟩, -- BM_HOST_WORLD
  ⟨0x00D010, 0x4, 8, [(31, 0, .rc)]⟩, -- BM_CONF
  ⟨0x00D030, 0x0, 1, [(31, 16, .rc), (15, 12, .ro), (11, 11, .ro)]⟩, -- BM_WV
  ⟨0x00D034, 0x0, 1, [(31, 0, .ro)]⟩, -- BM_WV_ADDR_LO
  ⟨0x00D038, 0x0, 1, [(7, 0, .ro)]⟩, -- BM_WV_ADDR_HI
  ⟨0x00D03C, 0x0, 1, [(31, 24, .rc), (23, 16, .rc), (15, 8, .rc)]⟩, -- BM_EVT
  ⟨0x00D040, 0x0, 1, [(7, 0, .w1c)]⟩, -- BM_MWD
  ⟨0x00D100, 0x10, 8, [(31, 30, .ro), (29, 29, .ro), (28, 25, .ro), (24, 17, .ro), (16, 16, .ro), (15, 12, .ro)]⟩, -- MB_ST
  ⟨0x00D104, 0x10, 8, [(31, 16, .rc), (15, 0, .rc)]⟩, -- MB_ECC
  ⟨0x00D108, 0x10, 8, [(31, 16, .rc), (15, 0, .rc)]⟩, -- MB_ACC
  ⟨0x00D10C, 0x10, 8, [(11, 4, .srw), (3, 0, .srw)]⟩ -- MB_OWNER
  ]

/-- The registers of Table 13-8 with their fields. -/
def regsT13_8 : List RegDef := [
  ⟨0x11000000, 0x0, 1, [(31, 0, .wo)]⟩, -- CP_WDOG
  ⟨0x11001000, 0x4, 64, [(7, 4, .ro), (0, 0, .ro)]⟩ -- BM_SEM
  ]

/-- The registers of Table 14-4 with their fields. -/
def regsT14_4 : List RegDef := [
  ⟨0x010000, 0x100, 16, [(31, 0, .rw)]⟩, -- MBX_MSG_0
  ⟨0x010004, 0x100, 16, [(31, 0, .rw)]⟩, -- MBX_MSG_1
  ⟨0x010008, 0x100, 16, [(31, 0, .rw)]⟩, -- MBX_MSG_2
  ⟨0x01000C, 0x100, 16, [(31, 0, .rw)]⟩, -- MBX_MSG_3
  ⟨0x010010, 0x100, 16, [(31, 0, .rw)]⟩, -- MBX_MSG_4
  ⟨0x010014, 0x100, 16, [(31, 0, .rw)]⟩, -- MBX_MSG_5
  ⟨0x010018, 0x100, 16, [(31, 0, .rw)]⟩, -- MBX_MSG_6
  ⟨0x01001C, 0x100, 16, [(31, 0, .rw)]⟩, -- MBX_MSG_7
  ⟨0x010020, 0x100, 16, [(31, 0, .rw)]⟩, -- MBX_MSG_8
  ⟨0x010024, 0x100, 16, [(31, 0, .rw)]⟩, -- MBX_MSG_9
  ⟨0x010028, 0x100, 16, [(31, 0, .rw)]⟩, -- MBX_MSG_10
  ⟨0x01002C, 0x100, 16, [(31, 0, .rw)]⟩, -- MBX_MSG_11
  ⟨0x010030, 0x100, 16, [(31, 0, .rw)]⟩, -- MBX_MSG_12
  ⟨0x010034, 0x100, 16, [(31, 0, .rw)]⟩, -- MBX_MSG_13
  ⟨0x010038, 0x100, 16, [(31, 0, .rw)]⟩, -- MBX_MSG_14
  ⟨0x01003C, 0x100, 16, [(31, 0, .rw)]⟩, -- MBX_MSG_15
  ⟨0x010040, 0x100, 16, [(1, 1, .wo), (0, 0, .w1s)]⟩, -- MBX_CTL
  ⟨0x010044, 0x100, 16, [(31, 24, .ro), (15, 14, .ro), (13, 13, .ro), (6, 6, .w1c), (5, 5, .w1c), (4, 4, .w1c), (3, 3, .w1c), (2, 2, .w1c), (1, 1, .ro)]⟩ -- MBX_ST
  ]

/-- The registers of Table 14-5 with their fields. -/
def regsT14_5 : List RegDef := [
  ⟨0x011000, 0x0, 1, [(31, 16, .ro), (15, 0, .ro)]⟩, -- MBX_SUM
  ⟨0x011004, 0x0, 1, [(31, 16, .rc), (9, 9, .ro), (8, 8, .ro), (7, 7, .ro), (6, 4, .ro), (3, 1, .ro), (0, 0, .ro)]⟩, -- MBX_LINK
  ⟨0x011008, 0x0, 1, [(31, 16, .rc), (15, 0, .rc)]⟩, -- MBX_CMD
  ⟨0x01100C, 0x0, 1, [(31, 16, .rc), (15, 8, .rc), (7, 0, .rc)]⟩ -- MBX_HOSTERR
  ]

/-- The registers of Table 15-11 with their fields. -/
def regsT15_11 : List RegDef := [
  ⟨0x020000, 0x10, 16, [(31, 0, .ro)]⟩, -- IRQ_RAW
  ⟨0x020004, 0x10, 16, [(31, 0, .w1c)]⟩, -- IRQ_STK
  ⟨0x020008, 0x10, 16, [(31, 0, .rw)]⟩, -- IRQ_EN
  ⟨0x02000C, 0x10, 16, [(31, 0, .ro)]⟩, -- IRQ_PEND
  ⟨0x020100, 0x0, 1, [(15, 0, .ro)]⟩, -- IRQ_SUM
  ⟨0x020104, 0x0, 1, [(8, 8, .ro), (7, 0, .ro)]⟩ -- IRQ_PIN
  ]

/-- The registers of Table 15-9 with their fields. -/
def regsT15_9 : List RegDef := [
  ⟨0x030000, 0x0, 1, [(31, 31, .ro), (30, 30, .ro), (29, 29, .ro), (28, 28, .ro), (27, 27, .ro), (12, 0, .ro)]⟩, -- EVR_ST
  ⟨0x030004, 0x0, 1, [(31, 0, .ro)]⟩, -- EVR_NEWEST_LO
  ⟨0x030008, 0x0, 1, [(31, 0, .ro)]⟩, -- EVR_NEWEST_HI
  ⟨0x03000C, 0x0, 1, [(31, 0, .ro)]⟩, -- EVR_OLDEST_LO
  ⟨0x030010, 0x0, 1, [(31, 0, .ro)]⟩, -- EVR_OLDEST_HI
  ⟨0x030014, 0x0, 1, [(31, 16, .rc), (6, 0, .ro)]⟩, -- EVR_HOLD
  ⟨0x030018, 0x0, 1, [(31, 16, .rc), (6, 0, .ro)]⟩, -- EVR_FLASH
  ⟨0x03001C, 0x0, 1, [(31, 0, .ro)]⟩, -- EVR_FAULT_0
  ⟨0x030020, 0x0, 1, [(31, 0, .ro)]⟩, -- EVR_FAULT_1
  ⟨0x030040, 0x4, 8, [(31, 16, .rc), (15, 0, .rc)]⟩, -- EVR_LOSS
  ⟨0x030080, 0x0, 1, [(5, 0, .wo)]⟩, -- EVR_CUR_CTL
  ⟨0x030084, 0x0, 1, [(31, 30, .ro)]⟩, -- EVR_CUR_ST
  ⟨0x030088, 0x0, 1, [(31, 0, .rw)]⟩, -- EVR_CUR_LO
  ⟨0x03008C, 0x0, 1, [(31, 0, .rw)]⟩, -- EVR_CUR_HI
  ⟨0x030090, 0x0, 1, [(31, 0, .ro)]⟩, -- EVR_MARK_LO
  ⟨0x030094, 0x0, 1, [(31, 0, .ro)]⟩, -- EVR_MARK_HI
  ⟨0x030098, 0x0, 1, [(31, 0, .rc)]⟩, -- EVR_CUR_LOST
  ⟨0x03009C, 0x0, 1, [(31, 16, .rw), (2, 0, .rw)]⟩, -- EVR_FILT
  ⟨0x030100, 0x4, 68, [(31, 0, .ro)]⟩, -- EVR_WIN
  ⟨0x030400, 0x10, 5, [(31, 31, .ro), (30, 30, .ro), (20, 0, .ro)]⟩, -- HQ_ST
  ⟨0x030404, 0x10, 5, [(0, 0, .w1s)]⟩, -- HQ_CTL
  ⟨0x030408, 0x10, 5, [(31, 0, .rc)]⟩ -- HQ_LOST
  ]

/-- The registers of Table 15-10 with their fields. -/
def regsT15_10 : List RegDef := [
  ⟨0x040000, 0x20, 64, [(31, 31, .rw), (30, 30, .ro), (29, 27, .rw), (26, 16, .rw), (15, 0, .rw)]⟩, -- PC_SEL
  ⟨0x040004, 0x20, 64, [(31, 0, .ro)]⟩, -- PC_VAL_LO
  ⟨0x040008, 0x20, 64, [(31, 0, .ro)]⟩, -- PC_VAL_HI
  ⟨0x04000C, 0x20, 64, [(31, 0, .ro)]⟩, -- PC_SNAP_LO
  ⟨0x040010, 0x20, 64, [(31, 0, .ro)]⟩, -- PC_SNAP_HI
  ⟨0x040800, 0x0, 1, [(1, 1, .w1s), (0, 0, .w1s)]⟩ -- PC_CTL
  ]

/-- The registers of Table 9-8 with their fields. -/
def regsT9_8 : List RegDef := [
  ⟨0x050000, 0x40, 64, [(31, 31, .rw), (30, 30, .rw), (29, 28, .rw), (27, 25, .rw), (24, 23, .rw), (22, 22, .rw), (21, 20, .ro), (19, 16, .rw)]⟩, -- CVU_CTL
  ⟨0x050004, 0x40, 64, [(31, 20, .rw), (19, 11, .rw)]⟩, -- CVU_SEL
  ⟨0x050008, 0x40, 64, [(31, 0, .rw)]⟩, -- CVU_BASE_LO
  ⟨0x05000C, 0x40, 64, [(7, 0, .rw)]⟩, -- CVU_BASE_HI
  ⟨0x050010, 0x40, 64, [(31, 0, .rw)]⟩, -- CVU_SIZE
  ⟨0x050014, 0x40, 64, [(31, 0, .rw)]⟩, -- CVU_LEN
  ⟨0x050018, 0x40, 64, [(31, 0, .rw)]⟩, -- CVU_VAL_LO
  ⟨0x05001C, 0x40, 64, [(31, 0, .rw)]⟩, -- CVU_VAL_HI
  ⟨0x050020, 0x40, 64, [(31, 0, .rw)]⟩, -- CVU_EXP_LO
  ⟨0x050024, 0x40, 64, [(31, 0, .rw)]⟩, -- CVU_EXP_HI
  ⟨0x050028, 0x40, 64, [(31, 0, .ro)]⟩, -- CVU_RES_LO
  ⟨0x05002C, 0x40, 64, [(31, 0, .ro)]⟩, -- CVU_RES_HI
  ⟨0x050030, 0x40, 64, [(31, 0, .rw)]⟩, -- CVU_CNT
  ⟨0x050034, 0x40, 64, [(31, 16, .ro), (3, 3, .w1c), (2, 2, .w1c), (1, 1, .w1c), (0, 0, .w1c)]⟩, -- CVU_ST
  ⟨0x050038, 0x40, 64, [(31, 0, .rc)]⟩ -- CVU_MIS_CNT
  ]

/-- The registers of Table 10-8 with their fields. -/
def regsT10_8 : List RegDef := [
  ⟨0x060000, 0x0, 1, [(31, 29, .ro), (28, 26, .ro), (25, 25, .ro), (24, 24, .ro), (23, 23, .ro), (22, 20, .ro), (19, 19, .ro), (18, 18, .ro), (17, 17, .ro), (16, 16, .ro), (15, 15, .ro), (6, 6, .w1c), (5, 5, .w1c), (4, 4, .w1c), (3, 3, .w1c), (2, 2, .w1c), (1, 1, .w1c)]⟩, -- TMC_ST
  ⟨0x060004, 0x0, 1, [(29, 24, .ro), (21, 16, .ro), (13, 8, .ro), (5, 0, .ro)]⟩, -- TMC_SEL
  ⟨0x060008, 0x0, 1, [(31, 0, .ro)]⟩, -- TMC_SEC_LO
  ⟨0x06000C, 0x0, 1, [(15, 0, .ro)]⟩, -- TMC_SEC_HI
  ⟨0x060010, 0x0, 1, [(29, 0, .ro)]⟩, -- TMC_NS
  ⟨0x060014, 0x0, 1, [(31, 0, .ro)]⟩, -- TMC_FRAC
  ⟨0x060018, 0x0, 1, [(31, 0, .ro)]⟩, -- TMC_FREQ
  ⟨0x06001C, 0x0, 1, [(31, 0, .ro)]⟩, -- TMC_HIST
  ⟨0x060020, 0x0, 1, [(31, 0, .ro)]⟩, -- TMC_PHASE
  ⟨0x060024, 0x0, 1, [(17, 0, .ro)]⟩, -- TMC_HOLD
  ⟨0x060028, 0x0, 1, [(17, 0, .ro)]⟩, -- TMC_THOLD
  ⟨0x06002C, 0x0, 1, [(31, 0, .ro)]⟩, -- TMC_STEP
  ⟨0x060030, 0x0, 1, [(31, 0, .ro)]⟩, -- TMC_STEP_SEC
  ⟨0x060034, 0x0, 1, [(31, 0, .ro)]⟩, -- TMC_OSC
  ⟨0x060038, 0x0, 1, [(31, 24, .rc), (23, 16, .rc), (15, 8, .rc), (7, 4, .rc), (3, 0, .rc)]⟩, -- TMC_CNT
  ⟨0x06003C, 0x0, 1, [(31, 0, .ro)]⟩, -- TMC_INC
  ⟨0x060100, 0x10, 56, [(31, 31, .ro), (30, 30, .ro), (29, 29, .ro), (28, 28, .ro), (27, 27, .ro), (26, 26, .ro), (25, 25, .ro), (24, 24, .ro), (23, 23, .ro), (22, 22, .ro), (21, 21, .ro), (19, 16, .ro), (15, 12, .ro), (11, 0, .ro)]⟩, -- TMC_CAND_ST
  ⟨0x060104, 0x10, 56, [(31, 0, .ro)]⟩, -- TMC_CAND_FREQ
  ⟨0x060108, 0x10, 56, [(31, 0, .ro)]⟩, -- TMC_CAND_PHASE
  ⟨0x06010C, 0x10, 56, [(31, 24, .rc), (23, 16, .rc), (15, 8, .rc), (7, 0, .rc)]⟩ -- TMC_CAND_CNT
  ]

/-- The registers of Table 11-5 with their fields. -/
def regsT11_5 : List RegDef := [
  ⟨0x060800, 0x40, 32, [(31, 31, .ro), (30, 30, .ro), (29, 29, .ro), (28, 28, .ro), (27, 27, .ro), (26, 26, .ro), (25, 22, .ro), (21, 19, .ro), (15, 8, .ro), (7, 0, .ro)]⟩, -- TMC_TCH_ST
  ⟨0x060804, 0x40, 32, [(31, 0, .ro)]⟩, -- TMC_TCH_OFF
  ⟨0x060808, 0x40, 32, [(31, 0, .ro)]⟩, -- TMC_TCH_PD
  ⟨0x06080C, 0x40, 32, [(31, 16, .rc), (15, 8, .rc), (7, 0, .rc)]⟩, -- TMC_TCH_CNT
  ⟨0x060810, 0x40, 32, [(31, 0, .ro)]⟩, -- TMC_TCH_RXSEQ
  ⟨0x060814, 0x40, 32, [(31, 0, .ro)]⟩, -- TMC_TCH_TXSEQ
  ⟨0x061000, 0x0, 1, [(0, 0, .ro)]⟩, -- TMC_TCOR_ST
  ⟨0x061004, 0x0, 1, [(31, 0, .rc)]⟩, -- TMC_TCOR_CNT
  ⟨0x061008, 0x0, 1, [(31, 0, .rc)]⟩, -- TMC_TCOR_MACSEC
  ⟨0x06100C, 0x0, 1, [(31, 16, .rc), (15, 0, .rc)]⟩, -- TMC_TCOR_UNSUP
  ⟨0x061010, 0x0, 1, [(31, 0, .rc)]⟩, -- TMC_TCOR_OVF
  ⟨0x061100, 0x10, 8, [(31, 30, .ro), (29, 29, .ro)]⟩, -- TMC_OUT_ST
  ⟨0x061104, 0x10, 8, [(15, 0, .rc)]⟩, -- TMC_OUT_CNT
  ⟨0x061200, 0x10, 4, [(31, 31, .ro), (27, 24, .ro), (23, 16, .ro), (15, 8, .ro), (7, 0, .rc)]⟩, -- TMC_TOD_RX_ST
  ⟨0x061204, 0x10, 4, [(31, 0, .ro)]⟩, -- TMC_TOD_RX_SEC
  ⟨0x061240, 0x0, 1, [(3, 0, .ro)]⟩, -- TMC_TOD_TX
  ⟨0x061244, 0x0, 1, [(15, 8, .ro), (2, 2, .ro), (1, 0, .ro)]⟩, -- TMC_UTC
  ⟨0x061300, 0x0, 1, [(31, 31, .ro), (30, 30, .w1c), (29, 29, .ro), (28, 28, .w1c), (27, 27, .ro), (26, 26, .ro), (15, 0, .ro)]⟩, -- RTC_ST
  ⟨0x061304, 0x0, 1, [(31, 0, .ro)]⟩, -- RTC_SEC_LO
  ⟨0x061308, 0x0, 1, [(15, 0, .ro)]⟩, -- RTC_SEC_HI
  ⟨0x06130C, 0x0, 1, [(14, 0, .ro)]⟩, -- RTC_TICK
  ⟨0x061310, 0x0, 1, [(15, 0, .ro)]⟩, -- RTC_TRIM
  ⟨0x061314, 0x0, 1, [(31, 16, .ro), (15, 0, .ro)]⟩ -- RTC_CNT
  ]

/-- The registers of Table 2-12 with their fields. -/
def regsT2_12 : List RegDef := [
  ⟨0x080000, 0x100, 144, [(28, 26, .ro), (25, 22, .ro), (21, 19, .ro), (18, 16, .ro), (14, 14, .ro), (13, 8, .ro), (7, 0, .ro)]⟩, -- LN_ID
  ⟨0x080004, 0x100, 144, [(18, 16, .ro), (15, 15, .ro), (14, 14, .ro), (13, 13, .ro), (12, 12, .ro), (9, 9, .ro), (8, 8, .ro), (7, 7, .ro), (6, 6, .ro), (5, 5, .ro), (4, 4, .ro), (3, 3, .ro), (2, 0, .ro)]⟩, -- LN_STATE
  ⟨0x080008, 0x100, 144, [(13, 13, .w1c), (12, 12, .w1c), (11, 11, .w1c), (10, 10, .w1c), (9, 9, .w1c), (8, 8, .w1c), (7, 7, .w1c), (6, 6, .w1c), (5, 5, .w1c), (4, 4, .w1c), (3, 3, .w1c), (2, 2, .w1c), (1, 1, .w1c), (0, 0, .w1c)]⟩, -- LN_STICKY
  ⟨0x080010, 0x100, 144, [(31, 0, .ro)]⟩, -- LN_FEC_CW_LO
  ⟨0x080014, 0x100, 144, [(31, 0, .ro)]⟩, -- LN_FEC_CW_HI
  ⟨0x080018, 0x100, 144, [(31, 0, .rc)]⟩, -- LN_FEC_CORR_LO
  ⟨0x08001C, 0x100, 144, [(31, 0, .ro)]⟩, -- LN_FEC_CORR_HI
  ⟨0x080020, 0x100, 144, [(31, 0, .rc)]⟩, -- LN_FEC_UNCORR
  ⟨0x080024, 0x100, 144, [(31, 0, .rc)]⟩, -- LN_FEC_SYM
  ⟨0x080028, 0x100, 144, [(31, 0, .ro)]⟩, -- LN_SER
  ⟨0x08002C, 0x100, 144, [(31, 16, .rc), (6, 0, .ro)]⟩, -- LN_EB
  ⟨0x080030, 0x100, 144, [(19, 0, .ro)]⟩, -- LN_RX_TERM
  ⟨0x080034, 0x100, 144, [(19, 0, .ro)]⟩, -- LN_TX_TERM
  ⟨0x080038, 0x100, 144, [(27, 16, .ro), (11, 0, .ro)]⟩, -- LN_CAL
  ⟨0x08003C, 0x100, 144, [(15, 0, .ro)]⟩, -- LN_SKEW
  ⟨0x080040, 0x100, 144, [(31, 0, .ro)]⟩, -- LN_TS_SEC
  ⟨0x080044, 0x100, 144, [(29, 0, .ro)]⟩, -- LN_TS_NS
  ⟨0x080048, 0x100, 144, [(5, 0, .ro)]⟩, -- LN_TS_SUB
  ⟨0x08004C, 0x100, 144, [(15, 0, .ro)]⟩, -- LN_SNR
  ⟨0x080050, 0x100, 144, [(31, 0, .rc)]⟩, -- LN_PRBS_ERR
  ⟨0x080054, 0x100, 144, [(23, 0, .ro)]⟩, -- LN_LINKUP
  ⟨0x080058, 0x100, 144, [(15, 0, .rc)]⟩ -- LN_DOWN_CNT
  ]

/-- The registers of Table 4-6 with their fields. -/
def regsT4_6 : List RegDef := [
  ⟨0x100000, 0x0, 1, [(2, 0, .rw)]⟩ -- MAP_CTX_PAGE
  ]

/-- The registers of Table 3-10 with their fields. -/
def regsT3_10 : List RegDef := [
  ⟨0x100000000, 0x40, 262144, [(19, 19, .ro), (18, 18, .ro), (17, 17, .ro), (16, 16, .ro), (15, 15, .ro), (14, 14, .ro), (13, 13, .ro), (12, 12, .ro), (11, 11, .ro), (10, 10, .ro), (9, 9, .ro), (8, 8, .ro), (7, 7, .ro), (6, 6, .ro), (5, 5, .ro), (4, 4, .ro), (3, 3, .ro), (2, 2, .ro), (1, 1, .ro), (0, 0, .ro)]⟩, -- FRM_DEF
  ⟨0x100000004, 0x40, 262144, [(17, 0, .w1c)]⟩, -- FRM_DEF_STK
  ⟨0x100000008, 0x40, 262144, [(31, 16, .rc), (15, 8, .ro), (6, 4, .ro), (1, 1, .ro), (0, 0, .ro)]⟩, -- FRM_ALIGN
  ⟨0x10000000C, 0x40, 262144, [(31, 31, .ro), (30, 24, .ro), (23, 16, .ro), (15, 8, .ro), (7, 0, .ro)]⟩, -- FRM_LABEL
  ⟨0x100000010, 0x40, 262144, [(31, 0, .ro)]⟩, -- FRM_TTI
  ⟨0x100000014, 0x40, 262144, [(1, 1, .w1c), (0, 0, .ro)]⟩, -- FRM_TTI_ST
  ⟨0x100000018, 0x40, 262144, [(25, 25, .ro), (24, 24, .ro), (23, 20, .ro), (19, 16, .ro), (15, 12, .ro), (11, 8, .ro)]⟩, -- FRM_PM
  ⟨0x10000001C, 0x40, 262144, [(23, 0, .ro)]⟩ -- FRM_EB_CUR
  ]

/-- The registers of Table 4-7 with their fields. -/
def regsT4_7 : List RegDef := [
  ⟨0x100000020, 0x40, 262144, [(31, 31, .ro), (30, 30, .ro), (29, 26, .ro), (25, 24, .ro), (18, 18, .ro), (17, 0, .ro)]⟩, -- MAP_CTX_CFG
  ⟨0x100000024, 0x40, 262144, [(31, 20, .ro), (19, 11, .ro), (8, 0, .ro)]⟩, -- MAP_CTX_SLOTS
  ⟨0x100000028, 0x40, 262144, [(31, 16, .ro), (7, 0, .rc)]⟩, -- MAP_GMP
  ⟨0x10000002C, 0x40, 262144, [(31, 16, .rc), (15, 2, .rc), (0, 0, .w1c)]⟩, -- MAP_ADAPT
  ⟨0x100000030, 0x40, 262144, [(31, 16, .rc), (15, 8, .rc), (7, 0, .ro)]⟩, -- MAP_HOST
  ⟨0x100000034, 0x40, 262144, [(14, 14, .ro), (13, 0, .ro)]⟩, -- MAP_HOST_TERM
  ⟨0x100000038, 0x40, 262144, [(31, 16, .rc), (0, 0, .w1c)]⟩, -- MAP_ECC
  ⟨0x10000003C, 0x40, 262144, [(2, 2, .ro), (1, 1, .ro), (0, 0, .ro)]⟩ -- MAP_STATE
  ]

/-- The registers of Table 16-11 with their fields. -/
def regsT16_11 : List RegDef := [
  ⟨0x11000400, 0x0, 1, [(31, 30, .ro), (29, 28, .ro), (27, 27, .ro), (26, 25, .ro), (24, 22, .ro), (15, 8, .ro), (7, 0, .ro)]⟩, -- DC_ST
  ⟨0x11000410, 0x10, 8, [(31, 30, .ro), (23, 16, .rc), (15, 0, .ro)]⟩, -- DC_CH_ST
  ⟨0x11000414, 0x10, 8, [(31, 16, .rc), (15, 0, .rc)]⟩, -- DC_ECC
  ⟨0x11000418, 0x10, 8, [(31, 0, .ro)]⟩, -- DC_UE_ADDR_LO
  ⟨0x1100041C, 0x10, 8, [(7, 0, .ro)]⟩, -- DC_UE_ADDR_HI
  ⟨0x11000500, 0x4, 24, [(31, 29, .ro), (28, 28, .ro), (27, 27, .ro), (26, 26, .w1c), (23, 16, .ro), (15, 0, .ro)]⟩, -- PWR_DOM
  ⟨0x11000580, 0x0, 1, [(31, 28, .ro), (15, 8, .ro), (7, 0, .ro)]⟩ -- PWR_RST
  ]

/-- Every register of the field maps. -/
def regMap : List RegDef :=
  regsT12_12 ++ regsT5_9 ++ regsT6_7 ++ regsT7_8 ++ regsT7_9 ++ regsT8_7 ++ regsT9_7 ++ regsT13_7 ++ regsT13_8 ++ regsT14_4 ++ regsT14_5 ++ regsT15_11 ++ regsT15_9 ++ regsT15_10 ++ regsT9_8 ++ regsT10_8 ++ regsT11_5 ++ regsT2_12 ++ regsT4_6 ++ regsT3_10 ++ regsT4_7 ++ regsT16_11

/-- The instance of register `r` that lies at a key. -/
def RegDef.instanceAt (r : RegDef) (key : Nat) : Option Nat :=
  if key < r.base then none
  else if r.stride = 0 then (if key = r.base then some 0 else none)
  else if (key - r.base) % r.stride = 0 && decide ((key - r.base) / r.stride < r.count) then
    some ((key - r.base) / r.stride)
  else none

/-- The register at a key, with the instance number. -/
def regAt (key : Nat) : Option (RegDef × Nat) :=
  regMap.findSome? fun r => (r.instanceAt key).map fun n => (r, n)

/-- The registers whose reset value is not 0 and is the same in every instance: base, stride, count, value. -/
def resetRows : List (Nat × Nat × Nat × Nat) := [
  (0x000000, 0x0, 1, 0x4128B100), -- CP_ID
  (0x004040, 0x0, 1, 0x03F4003C), -- FAB_COPPICE
  (0x00A104, 0x0, 1, 0x000000FF), -- MATE_GEN
  (0x00D004, 0x0, 1, 0x00000002), -- BM_HOST_WORLD
  (0x030084, 0x0, 1, 0x40000000), -- EVR_CUR_ST
  (0x03009C, 0x0, 1, 0xFFFF0007), -- EVR_FILT
  (0x060004, 0x0, 1, 0x3F3F3F3F), -- TMC_SEL
  (0x060100, 0x10, 56, 0x000FF000), -- TMC_CAND_ST
  (0x060800, 0x40, 32, 0x03C0FF00), -- TMC_TCH_ST
  (0x061200, 0x10, 4, 0x0F000000), -- TMC_TOD_RX_ST
  (0x061300, 0x0, 1, 0x40000000), -- RTC_ST
  (0x080004, 0x100, 144, 0x00060200), -- LN_STATE
  (0x10000000C, 0x40, 262144, 0x00FF0000), -- FRM_LABEL
  (0x100000024, 0x40, 262144, 0x000001FF), -- MAP_CTX_SLOTS
  (0x11000580, 0x0, 1, 0x10000000), -- PWR_RST
  (0x061244, 0, 1, 0x00002500) -- TMC_UTC: TIMEXFER.utc_off, default 37
  ]

/-- Table 13-3: default owner, share mask and world of bank `n`, as (owner code, share, secure). -/
def bankDefault : Nat → Nat × Nat × Bool
  | 0 => (1, 0x01, true)  | 1 => (3, 0x05, true) | 2 => (5, 0x31, false) | 3 => (4, 0x29, true)
  | 4 => (1, 0x41, false) | 5 => (1, 0x01, true) | 6 => (2, 0x23, false) | 7 => (7, 0x41, true)
  | _ => (0, 0, false)

/-- The reset values of Tables 5-9 (FAB_STEER, FAB_SLICE_ST), 13-7 (MB_ST, MB_OWNER) and 16-11 (PWR_DOM)
that differ by instance. -/
def resetByInstance (key : Nat) : Option Nat :=
  if 0x4020 ≤ key && decide (key < 0x4034) && key % 4 == 0 then
    let r := (key - 0x4020) / 4
    some ((4 * r) + (4 * r + 1) * 2 ^ 8 + (4 * r + 2) * 2 ^ 16 + (4 * r + 3) * 2 ^ 24)
  else if 0x4100 ≤ key && decide (key < 0x4250) && (key - 0x4100) % 0x10 == 0 then
    let n := (key - 0x4100) / 0x10
    some (if n < 20 then n * 2 ^ 16 else 2 ^ 30 + 0x1F * 2 ^ 16)
  else if 0xD100 ≤ key && decide (key < 0xD180) && (key - 0xD100) % 0x10 == 0 then
    let d := bankDefault ((key - 0xD100) / 0x10)
    some (b2n d.2.2 * 2 ^ 29 + d.1 * 2 ^ 25 + d.2.1 * 2 ^ 17)
  else if 0xD10C ≤ key && decide (key < 0xD18C) && (key - 0xD10C) % 0x10 == 0 then
    let d := bankDefault ((key - 0xD10C) / 0x10)
    some (d.2.1 * 2 ^ 4 + d.1)
  else if 0x11000500 ≤ key && decide (key < 0x11000560) && key % 4 == 0 then
    some (if (key - 0x11000500) / 4 < 2 then 2 * 2 ^ 29 + 2 ^ 28 else 0)
  else none

/-- The value of the register at a key after the reset that scopes it (the Reset column of the field maps).
A value that a fuse, a strap or a pin fixes, or that a register computes from other state, is not stored
here: the read computes it. -/
def resetWord (key : Nat) : Word :=
  match resetByInstance key with
  | some v => BitVec.ofNat 32 v
  | none =>
    match resetRows.find? (fun r => decide (r.1 ≤ key) && (if r.2.1 = 0 then key == r.1
        else (key - r.1) % r.2.1 == 0 && decide ((key - r.1) / r.2.1 < r.2.2.1))) with
    | some r => BitVec.ofNat 32 r.2.2.2
    | none => 0

end Sys2Proof.Machine
end

