-- ==== Sys2Proof/Machine/State.lean ====
section
/-!
DEFINITION. Sys2Proof/Machine/State.lean: the state of the Heset 128 as plain data, its reset, and the reasons to stop.
State that the host can read in a register has its only home in `regs`; the structures here hold what no register shows.
-/
namespace Sys2Proof.Machine

/-- Why a command of the model could stop the machine. No command raises it: every command of the opcode table has an
effect in every state (safe: nothing is left out by a stop). -/
inductive Fault where
  | noCommandFaults
  deriving DecidableEq, Repr

/-- Why the model gives a command no meaning. -/
inductive Refusal where
  /-- Raised by an arm of exec that has no meaning yet; the string is the command's mnemonic. Safe: nothing is claimed. -/
  | notModelled (mnemonic : String)
  deriving DecidableEq, Repr

/-- The reply to a mailbox command (R369, R376): status code, MSG words, and reply bulk. -/
structure Reply where
  status : Nat := 0
  words  : List (Nat × Nat) := []
  bulk   : List Byte := []
  deriving DecidableEq, Repr

/-! ### Records (R382) -/

/-- A record offered to the event engine and waiting in its port: the CLK_CTL cycle of the offer, type, severity,
whether it is secure, and payload (R384). -/
structure Offer where
  stamp   : Nat
  typ     : Nat
  sev     : Nat
  sec     : Bool
  payload : List Byte
  deriving DecidableEq, Repr

/-- An accepted record (Table 15-1). -/
structure Rec where
  typ      : Nat
  sev      : Nat
  sec      : Bool
  degraded : Bool
  tinv     : Bool
  held     : Bool
  epoch    : Nat
  seq      : Nat
  secs     : Nat
  frac     : Nat
  payload  : List Byte
  deriving DecidableEq, Repr

/-! ### Lanes (chapter 2) -/

/-- A lane's state that no register shows. -/
structure LaneSt where
  losOn  : Bool := false   -- LOS declared and not ended (Table 2-11)
  serOn  : Bool := false   -- high SER declared and not ended (Table 2-11)
  preset : Bool := false   -- the next ADAPT starts from the rx_eq preset (R53)
  acq    : Bool := false   -- has re-entered CDR_ACQ or POWERED since its last UP (LN_LINKUP)
  rxUse  : Nat := 0        -- lane terms in use: the latest at the start of the grid multiframe (R58)
  txUse  : Nat := 0
  measured : Bool := false -- measured at least once in this stay in UP (R59)
  egress : Bool := false   -- its egress buffer runs: it has left POWERED since it was DISABLED (R55)
  secCw  : Nat := 0        -- codewords and corrected symbols in the current PM second (LN_SER)
  secSym : Nat := 0
  deriving DecidableEq, Repr

/-- Per-quad and per-reference state of the lanes. -/
structure LaneBlock where
  lanes   : List (Nat × LaneSt) := []
  synthOk : List Nat := []            -- quads whose synthesizer is locked
  unlocked : List Nat := []           -- quads whose synthesizer has lost its lock and not relocked (R55)
  refLost : List Nat := []            -- lane reference clocks declared lost (R37)
  modEdges  : List (Nat × Nat) := []  -- accepted MOD_INT_N edges of a quad in the PM second (R64)
  modMasked : List Nat := []          -- quads whose MOD_INT_N pin is masked
  deriving DecidableEq, Repr

/-! ### Framers (chapter 3) -/

/-- Alignment and multiframe state of a layer (R70 to R75). -/
structure AlignSt where
  n      : Nat := 0                   -- the N of the search in progress; 0 before the first search
  cands  : List (Nat × Nat) := []     -- open candidates: position, consecutive matches
  amb    : Nat := 0                   -- ambiguous attempts of this search
  pos    : Nat := 0                   -- the position held in frame
  errs   : Nat := 0                   -- consecutive errored words
  held   : Bool := true               -- held in SEARCH under R74 (or not yet started)
  mfExp  : Option Nat := none         -- the MFAS or OMF value expected next
  mfMiss : Nat := 0
  mfHit  : Nat := 0
  deriving DecidableEq, Repr

/-- Acceptance of one label (R78): the candidate and its run, the accepted value and its validity (R81). -/
structure Label where
  cand  : Nat := 0
  run   : Nat := 0
  acc   : Nat := 0
  valid : Bool := false
  ever  : Bool := false
  deriving DecidableEq, Repr

/-- The labels of a context (Table 3-6); MSI per tributary slot. -/
structure LabelSt where
  tti    : Label := {}
  pt     : Label := {}
  gid    : Label := {}
  phymap : Label := {}
  hlm    : Label := {}
  msi    : List (Nat × Label) := []
  ttiBuf : List (Nat × Byte) := []    -- TTI bytes of the multiframe in progress
  mis    : Nat := 0                   -- labels that disagreed in the latest frame, by FRM_DEF bit of their defect (R82)
  msim   : List Nat := []             -- tributary slots whose MSI disagreed in the latest frame
  deriving DecidableEq, Repr

/-- Entry and exit integration of the defects (Table 3-7). -/
structure DefSt where
  lat     : Nat := 0                  -- defects latched by their entry condition, by FRM_DEF bit number
  run     : List (Nat × (Nat × Nat)) := []  -- defect: consecutive frames with and without its condition
  blk     : Nat := 0                  -- 66B blocks counted (LF, RF)
  osRun   : List Nat := []            -- positions of the ordered sets of one kind seen without another between
  osKind  : Nat := 0                  -- 1 local fault, 2 remote fault, 3 other
  lastOs  : Nat := 0                  -- position of the last fault ordered set
  rssf    : Bool := false             -- receives aSSF from its server, or its lane group is down
  stat    : Nat := 0                  -- STAT of the latest frame
  deriving DecidableEq, Repr

/-- A classified second that waits for its commit (R93). -/
structure PmSec where
  sec   : Nat
  neEs  : Bool
  neSes : Bool
  neBbe : Nat
  neUn  : Bool
  feEs  : Bool
  feSes : Bool
  feBbe : Nat
  feUn  : Bool
  fe    : Bool
  deriving DecidableEq, Repr

/-- A PM bin (R94, Table 15-6); `tca` names the counters that raised their TCA (R96). -/
structure PmBin where
  day     : Bool
  start   : Nat
  suspect : Bool := false
  fe      : Bool := false
  ne      : Nat × Nat × Nat × Nat := (0, 0, 0, 0)   -- ES, SES, BBE, UAS
  far     : Nat × Nat × Nat × Nat := (0, 0, 0, 0)
  tca     : List Nat := []
  deriving DecidableEq, Repr

/-- Performance monitoring of a context (R91 to R96). -/
structure PmSt where
  blocks : Nat := 0
  eb     : Nat := 0
  fe     : Nat := 0
  defSec : Bool := false
  bdiSec : Bool := false
  held   : List PmSec := []           -- oldest first
  open15 : List PmBin := []           -- bins not yet closed, oldest first
  open24 : List PmBin := []
  hist   : List PmBin := []           -- closed bins, newest first
  deriving DecidableEq, Repr

/-- An egress context: what its next frame boundary replaces and sends (R88 to R90). -/
structure EgressSt where
  fail  : Bool := false               -- fail-marked blocks received since the last frame boundary
  ueq   : Bool := false
  good  : Bool := false               -- a block without marker received since the last frame boundary
  last  : Nat := 0                    -- the last block: 0 good, 1 fail-marked, 2 ueq
  repl  : Nat := 0                    -- 0 signal, 1 replacement of R88, 2 signal without a source (R89)
  bdi   : Bool := false               -- BDI sent (R90)
  bei   : Nat := 0                    -- BEI sent
  mfas  : Nat := 0                    -- MFAS, or the place in the overhead multiframe, of the next frame sent
  omfi  : Nat := 0                    -- OMFI of the next frame sent, 0 to 19
  deriving DecidableEq, Repr

/-- FlexE calendar state of a kind 5 context (R110, R111). -/
structure CalSt where
  rxC    : Nat := 0                   -- calendar in use (receive)
  ansCa  : Option Nat := none         -- CR received, CA to be sent in the next overhead frame
  txC    : Nat := 0                   -- calendar sent (transmit)
  crNew  : Option Nat := none         -- calendar named by the CR sent
  caGot  : Bool := false              -- CA received, switch waits for the overhead multiframe boundary
  deriving DecidableEq, Repr

/-- A queue of bits: how many, and the bits, the first in bit 0. -/
structure BitQ where
  n : Nat := 0
  v : Nat := 0
  deriving DecidableEq, Repr

/-- A STREAM rate adaptation (R104): the blocks of its buffer, oldest first, whether blocks are discarded up to the next
start of a packet, and whether the blocks that leave and those that arrive stand inside a packet. -/
structure AdaptSt where
  fifo  : List W66 := []
  skip  : Bool := false
  inOut : Bool := false
  inIn  : Bool := false
  deriving DecidableEq, Repr

/-- Mapper state of a context (chapter 4). -/
structure MapSt where
  phase  : Nat := 0                   -- phase accumulator, 24 fractional bits (R105)
  cm     : Nat := 0                   -- previous valid justification control (R107)
  sigma  : Nat := 0
  q      : BitQ := {}                 -- bits demapped from the server, or waiting to be mapped into it
  skip   : Nat := 0                   -- host bytes before the next frame of an aligned twig host
  ad     : AdaptSt := {}
  deriving DecidableEq, Repr

/-- The framers and mappers, by context ID. -/
structure FrameBlock where
  align  : List (Nat × AlignSt) := []
  label  : List (Nat × LabelSt) := []
  defs   : List (Nat × DefSt) := []
  pm     : List (Nat × PmSt) := []
  egress : List (Nat × EgressSt) := []
  cal    : List (Nat × CalSt) := []
  map    : List (Nat × MapSt) := []
  bei    : List (Nat × Nat) := []     -- BIP-8 violations in the latest frame of a sink (R90)
  quadFault : List Nat := []          -- mapper quadrants with a FRAMER_FAULT (R253)
  deriving DecidableEq, Repr

/-! ### Quickset and mate pairs (chapter 7) -/

/-- A faulty-connection declaration (R242, R245): context, twig circuit, and the input slot that its output read in the
cycle of the declaration. -/
structure FaultDecl where
  ctx  : Nat
  twig : Bool
  src  : Option Nat
  deriving DecidableEq, Repr

/-- The quickset engine. -/
structure QsBlock where
  grps   : List (Nat × QsGrp) := []
  edges  : List (Nat × Nat) := []     -- accepted FORCE_N edges of a pin in the PM second (R187)
  raw    : Nat := 0                   -- stable asserted levels of FORCE_N[3:0]
  faults : List FaultDecl := []       -- declarations in force (Table 7-2)
  deriving DecidableEq, Repr

/-- A mate lane's receiver and overhead stream (R198). -/
structure MateLane where
  align : AlignSt := {}
  inFrame : Bool := false
  late  : Nat := 0                    -- blocks sent as late in this second
  ovh   : Nat := 0                    -- the overhead stream of the frame in progress, byte 0 in bits 7:0
  scr   : Nat := 0                    -- the last 58 bits sent outside frame words, the newest in bit 0
  deriving DecidableEq, Repr

/-- The mate block. -/
structure MateBlock where
  beatLink : Bool := false            -- a heartbeat arrived on a mate lane since the last boundary
  beatPin  : Bool := false            -- MATE_ALIVE_IN changed level since the last boundary
  runOne   : Nat := 0                 -- consecutive boundaries with beats on one path only (R199)
  beats    : Nat := 0                 -- consecutive boundaries with a beat (R201)
  gasp     : Bool := false            -- a gasp was detected, lost at the next boundary (R200)
  byGasp   : Bool := false            -- the loss in force was declared on a gasp
  lostDue  : Bool := false            -- 8 missed beats counted; MATE_LOST declares
  seen     : Bool := false            -- the mate's heartbeat has been read since NEGOTIATING began
  mRole    : Nat := 0
  mMode    : Nat := 0
  mEpoch   : Nat := 0
  mGen     : Nat := 0
  cfgRec   : Bool := false            -- MATE_CONFIG written in this NEGOTIATING
  imgRec   : Bool := false            -- MATE_IMAGE_MISMATCH written for this mismatch
  sqIso    : Bool := false            -- line transmitters squelched as isolated standby (R207)
  aliveOut : Bool := false            -- level of MATE_ALIVE_OUT
  gaspOut  : Bool := false            -- the gasp is driven on MATE_ALIVE_OUT (R200)
  genOpen  : Nat := 0                 -- boundaries since the open generation opened (R203)
  full     : Bool := false            -- the next generation is a full one (R204)
  cyc64    : Nat := 0                 -- boundaries since the last full time and evergreen item (Table 7-6)
  last     : Option Mirror := none    -- the last generation committed (active) or applied (standby)
  did      : Option (Nat × Nat) := none   -- plan and step that a standby last put in force (R176)
  beat     : Option BeatIn := none    -- the heartbeat sent in this grid multiframe (R199)
  rx       : Option Mirror := none    -- a received generation held in MB7
  lanes    : List (Nat × MateLane) := []
  flashReq : Bool := false            -- level of FLASH_REQ
  flashGnt : Bool := false            -- level of FLASH_GNT
  flashUse : Bool := false            -- a FLASH_WRITE of this device is accessing the flash
  flashHeld : Bool := false           -- this device held the flash when it declared the mate lost (R209)
  deriving DecidableEq, Repr

/-! ### Event recorder, interrupts, counters (chapter 15) -/

/-- A record, or a PAD, in the DDR5 ring (R388). -/
structure RingEnt where
  off : Nat
  len : Nat
  pad : Bool
  body : Rec
  deriving DecidableEq, Repr

/-- A harvest queue (R395, R396). -/
structure Hq where
  recs    : List Rec := []            -- HQ_0 to HQ_3, oldest first
  pm      : List (List Byte) := []    -- HQ_PM, oldest first
  disc    : Nat := 0                  -- items discarded since the last harvest
  lostRec : Bool := false             -- an HQ_LOST record was written in this second
  mark    : Nat := 0                  -- items still held of those held when the flush was requested
  deriving DecidableEq, Repr

/-- The event engine. -/
structure Recorder where
  offers  : List Offer := []          -- records waiting in the ports, in the order offered
  nextSeq : Nat := 0
  epochOk : Bool := false             -- the boot epoch is fixed (R313, R383)
  mb3     : List Rec := []            -- unarchived slots, oldest first
  ring    : List RingEnt := []        -- oldest first
  ringW   : Nat := 0                  -- next byte to be written
  staging : List Rec := []            -- degraded operation (R390)
  hold    : List Rec := []            -- the holding queue (R391)
  ovf     : Nat := 0                  -- holding queue overflows of the freeze in force
  flashBuf : List Rec := []           -- copies waiting for the flash (R389)
  copies  : List (Nat × Rec) := []    -- the record copy region: sector and copy, oldest first
  wrSec   : Nat := 0                  -- sector at the write position
  flCur   : Nat := 0                  -- copies before the flash cursor (R396)
  flLost  : Nat := 0                  -- undelivered copies that erases took from the flash cursor
  hq      : List (Nat × Hq) := []
  limitS  : Nat := 0                  -- limit of the freeze in force, seconds
  deriving DecidableEq, Repr

/-- Interrupt aggregation (R398 to R400). -/
structure IrqBlock where
  stk    : List (Nat × Nat) := []     -- sticky bits of a group
  en     : List (Nat × Nat) := []     -- enable mask of a group
  space  : List Nat := []             -- vectors in their irq_mod spacing (R399)
  due    : List Nat := []             -- vectors with a message due during the spacing
  pba    : List Nat := []             -- vectors whose PBA bit is set
  deriving DecidableEq, Repr

/-- Performance counters (R397). -/
structure PerfBlock where
  val  : List (Nat × Nat) := []
  snap : List (Nat × Nat) := []
  deriving DecidableEq, Repr

/-! ### Fabric, twig sub-switch and path tags (chapters 4, 5, 9) -/

/-- One slice buffer location that has been written (R128, R129): body, sideband, epoch bit and page bit. A location
that is not listed has not been written since its slice left reset or last became spare. -/
structure Loc where
  body  : Nat := 0
  side  : Nat := 0
  epoch : Nat := 0
  page  : Nat := 0
  nosrc : Bool := false               -- written by the port for want of a block of the ingress mapper
  deriving DecidableEq, Repr

/-- A slot block: 64 body bytes, byte 0 in bits 7:0, and 128 bits of sideband (Table 5-1). -/
structure Blk where
  body : Nat := 0
  side : Nat := 0
  deriving DecidableEq, Repr

/-- The slot fabric (R126 to R151). -/
structure FabBlock where
  on      : Bool := true              -- the fabric is enabled (R148)
  gp      : Nat := 0                  -- grid period count (R20)
  locs    : List (Nat × Loc) := []    -- by (physical slice × 128 + write cycle) × 32 + grid period mod 32
  swapAt  : Option Nat := none        -- first grid period of the page in force, after a swap
  oldWr   : List (Nat × Nat) := []    -- write entries of the other page at the swap: write pair, input slot
  gmfErr  : List (Nat × Nat) := []    -- block-check failures of a physical slice in this grid multiframe (R146)
  misQ    : Nat := 0                  -- mismatching reads of the overlap whose block check failed on q alone
  misP    : Nat := 0                  -- on p alone
  misN    : Nat := 0                  -- on neither
  due     : Bool := false             -- a rotation is due (R149)
  blameP  : Option Nat := none        -- slice blamed in the third row of Table 5-7 in its last rotation as p
  degr    : List Nat := []            -- slices with a FABRIC_DEGRADED record since PD_FAB left reset
  testBad : List Nat := []            -- spare slices whose last self-test pass failed (R145)
  thr     : Option Nat := none        -- slice_thr of the grid multiframe just ended, where a swap changed it (R153)
  minTick : Nat := 0                  -- grid multiframes elapsed of the coppice interval
  outs    : List (Nat × Blk) := []    -- the blocks delivered in the last grid period, by output slot
  lost    : List Nat := []            -- outputs whose read in it delivered a block under R129 or R130 (R170)
  resLog  : List (Nat × Nat × Int) := []  -- residence of the source that an output read: output, first grid period, cycles; newest first (R158)
  mateIn  : List (Nat × Blk) := []    -- received mate blocks, by 512 × grid period of their ingress + 32 × mate lane + index
  mateOut : List (Nat × List Byte) := []  -- the section sent in the last grid period, by mate lane
  deriving DecidableEq, Repr

/-- A receive twig host (R116 to R122, R244). Frames are numbers of 8,000 bytes, byte 0 in bits 7:0. -/
structure TwigHost where
  wait   : List Nat := []             -- frames received that wait for the local twig frame boundary, oldest first (R30)
  frames : List Nat := []             -- the unit store: the frames of the last two local boundaries, newest first
  fnum   : Option Nat := none
  grace  : Nat := 4                   -- frames whose tags are not checked yet (R118)
  hist   : List Nat := []             -- the last four frames, newest first
  alive  : List (Nat × Nat) := []     -- last alive code of a twig
  rErr   : List Nat := []             -- twigs with an erring tag in the round in progress
  rOut   : Bool := true               -- the round in progress cannot be judged (R244)
  slow   : Nat := 0                   -- 2: the next output frame sends fail units for a slow host, 1: this one (R122)
  deriving DecidableEq, Repr

/-- An output twig host (R121): its frame in progress and the four frames sent before it, newest first. -/
structure TwigOut where
  fnum   : Nat := 0
  head   : Nat := 0                   -- overhead bytes 0 to 319 of the frame in progress
  blocks : List (Nat × Nat) := []     -- blocks 5 to 124 assembled so far
  codes  : List (Nat × Nat) := []     -- twigs whose unit was sent under code 0xE or 0xF in this frame
  last   : List (Nat × Nat) := []     -- the codes of the frame before
  hist   : List Nat := []
  alive  : List (Nat × Nat) := []     -- next alive counter of a twig
  deriving DecidableEq, Repr

/-- The twig sub-switch. -/
structure TwigBlock where
  recv : List (Nat × TwigHost) := []
  out  : List (Nat × TwigOut) := []
  tch  : List (Nat × Nat) := []       -- time channel messages in the round in progress, by 480 × output host + twig (R287)
  tchNext : List (Nat × Nat) := []    -- messages that wait for the next round
  deriving DecidableEq, Repr

/-- The tag inserter of a source of slot blocks, by source key (R236, R237). -/
structure TagSrc where
  crc     : Nat := 0xFFFFFFFF         -- running CRC-32C of the interval in progress
  blocks  : Bool := false             -- accumulation ran from the start of the interval
  alive   : Nat := 0
  fresh   : Bool := true              -- the next tag is a first tag
  tag     : Option Nat := none        -- the tag to insert in member 0's next block
  deriving DecidableEq, Repr

/-- The tag checker of an egress context (R240 to R243). -/
structure TagChk where
  wait   : List (Nat × Nat × Blk) := []   -- blocks delivered and not yet absorbed: write grid period, member, block
  crc    : Nat := 0xFFFFFFFF
  due    : Option (Nat × Nat) := none     -- a tag block that arrived: its sideband, and the recomputed CRC
  alive  : Nat := 0
  take   : Bool := true                   -- the next alive value is a starting value
  noCrc  : Nat := 0                       -- tags whose crc is not checked (R241)
  src    : List Nat := []                 -- the read of its members in the last grid period, to see a change of it
  phase  : Option Nat := none             -- grid period of the interval in which a mate source's tags arrive
  relapse : Option Bool := none           -- the side whose declaration a switch cleared (R243)
  deriving DecidableEq, Repr

/-- The integrity units (chapter 9). -/
structure TagBlock where
  srcs : List (Nat × TagSrc) := []
  chks : List (Nat × TagChk) := []
  failed : List Nat := []             -- receive contexts that had aSSF or aTSF in the interval in progress (R235)
  deriving DecidableEq, Repr

/-! ### Evergreen (chapter 8) -/

/-- A wrap entry (R216 to R218): its sequence counter, frames begun in this evergreen block, evergreen blocks that still
carry the jump flag, payload bytes waiting for a frame, stream bytes waiting to be dealt, the phase of the dealing in
units of 2^-30 byte, and for the twig grain the bytes of the output twig frame in progress. -/
structure EvgWrap where
  seq   : Nat := 0
  idx   : Nat := 0
  jump  : Nat := 0
  buf   : List Byte := []
  out   : List Byte := []
  phase : Nat := 0
  units : Nat := 0
  deriving DecidableEq, Repr

/-- A copy of a merge (R219, R221, R223). -/
structure EvgCopy where
  align   : AlignSt := {}
  inFrame : Bool := false
  foreign : Nat := 0                  -- consecutive good tag blocks with another trib
  match_  : Nat := 0                  -- consecutive good tag blocks with the merge's trib
  wrong   : Bool := false
  off     : Option Int := none        -- playout offset, CLK_FAB cycles
  outRun  : Nat := 0                  -- consecutive good frames out of window (R224)
  dmax    : Bool := false             -- EVG_DMAX written for this stay in LATE
  deriving DecidableEq, Repr

/-- The end mark of a middle frame slot (R226). -/
structure EvgMark where
  seq   : Nat
  idx   : Nat
  copyB : Bool
  good  : Bool
  crc   : Nat
  deriving DecidableEq, Repr

/-- A frame held in a deskew queue. `inst` is its playout instant where it is known (`placed`), and `mark` the end mark of a
frame that went through the middle. -/
structure EvgHeld where
  seq     : Nat
  idx     : Nat
  copyB   : Bool
  good    : Bool
  srcFail : Bool
  arr     : Nat
  inst    : Int
  data    : Nat                       -- the 4,096 payload bytes, byte 0 in bits 7:0
  tag     : Nat := 0                  -- the tag block, byte 0 in bits 7:0
  placed  : Bool := true
  part    : Nat := 0                  -- 0 tail, 1 middle, 2 head (R225)
  mark    : Option EvgMark := none
  deriving DecidableEq, Repr

/-- Bytes played and not yet dealt: how many, the bytes, and whether they are fail-marked. -/
structure EvgSeg where
  left : Nat
  data : Nat
  fail : Bool
  deriving DecidableEq, Repr

/-- A merge (R219 to R230). -/
structure EvgMerge where
  a        : EvgCopy := {}
  b        : EvgCopy := {}
  anchored : Bool := false
  held     : List EvgHeld := []       -- in the order of arrival
  last     : Option (Nat × Nat) := none   -- key of the last frame played
  lastP    : Int := 0                 -- its playout instant
  arrs     : List Nat := []           -- arrivals, newest first, at most 1,025
  played   : List (Nat × Nat × Int) := []   -- keys and instants played since anchoring, newest first
  flush    : Bool := false            -- a flush is requested
  hold     : Int := 0                 -- P(F) − A_x(F) of the last played frame (R214)
  out      : List EvgSeg := []
  phase    : Nat := 0
  units    : Nat := 0                 -- twig grain: bytes of the output twig frame in progress
  unitFail : Bool := false
  deriving DecidableEq, Repr

/-- The evergreen engine. -/
structure EvgBlock where
  wraps  : List (Nat × EvgWrap) := []
  merges : List (Nat × EvgMerge) := []
  mids   : List (Nat × Nat × Nat) := []   -- middles: merge, first frame slot, frame slots (R228)
  deriving DecidableEq, Repr

/-! ### Power, supplies and temperature (chapters 16, 17) -/

/-- Power and reset state that no register shows. -/
structure PwrBlock where
  warm    : Bool := false             -- junction above RECORDS.temp_warn
  crit    : Bool := false             -- junction above RECORDS.temp_crit
  trip    : Bool := false             -- a thermal trip holds the device in reset
  under   : Bool := false             -- a core supply is below its threshold
  main    : Bool := true              -- the main supply is present
  up      : Nat := 0                  -- grid periods of 102.4 ns counted since reset
  retrain : Bool := false             -- the fitted channels are being retrained (R408)
  failed  : List Nat := []            -- domains with a sequencer fault since their wanted state last rose (R418)
  corrSec : List (Nat × Nat) := []    -- corrected words of a DDR5 channel in this second (R411)
  deriving DecidableEq, Repr

/-! ### Boot, lifecycle and tamper (chapter 12) -/

/-- The fuses (R320, R321, R327, R331): blown fuses of the PROVISIONED, DEPLOYED and RETURNED groups, key-hash slots, the
security version counter, the identity seed, and what test fixed. -/
structure Fuses where
  prov    : Nat := 0
  depl    : Nat := 0
  ret     : Nat := 0
  keys    : List (Nat × List Byte) := []   -- hash of a present key slot
  revoked : List Nat := []
  svn     : Nat := 0
  seed    : List Byte := []
  serial  : Nat := 0
  grade   : Nat := 0
  repaired : List (Nat × Nat) := []        -- spare columns in use of a bank (R355)
  deriving DecidableEq, Repr

/-- A command that runs in the background (R370), or an ATTEST that waits for its signing: channel, opcode, its words, how
it ends (0 as it runs, 1 cut by a tamper, 2 without a reply), the bulk read when it was taken, and its reply so far. -/
structure BgCmd where
  chan : Nat
  op   : Nat
  msg  : List Nat
  mark : Nat := 0
  data : List Byte := []
  out  : Reply := {}
  deriving DecidableEq, Repr

/-- Start-up state that no register shows. -/
structure BootBlock where
  squelch  : Bool := false            -- line transmitters squelched by a tamper (R333)
  tampered : Bool := false            -- the commands of R333 are refused until the next power-on reset
  fuse     : Fuses := {}
  base     : Option (Nat × Nat) := none   -- flash and offset of the container in force
  straps   : Nat := 0                 -- BOOT_SRC as sampled at reset release
  noTrial  : Bool := false            -- a processor restart has cost the image its confirmation (R312)
  batEpoch : Nat := 0                 -- the boot epoch copy in PD_BAT (R313)
  waitGnt  : Bool := false            -- the boot waits in step 4 for FLASH_GNT (R310)
  clamps   : List (Nat × Nat) := []   -- CLAMP records of a section's last load
  rejected : List Nat := []           -- sections whose last load rejected them
  sfdpOk   : Bool := true             -- the flash answers in the mode its SFDP table offers
  oscBad   : Bool := false            -- OSCI lies outside every frequency of Table 10-9 (R260)
  deriving DecidableEq, Repr

/-! ### Changes (chapter 6) -/

/-- A measured output of a step (R170, R171). -/
structure HitSt where
  kind  : Nat
  key   : Nat
  cls   : Nat
  bound : Nat
  count : Nat := 0
  qs    : Bool := false
  steer : Bool := false
  deriving DecidableEq, Repr

/-- The APPLY or plan in progress. PLN_STATE and PLN_DUE are its registers. -/
structure ChgBlock where
  names  : List (Nat × Nat) := []     -- section instances being loaded, or loaded
  cs     : Nat := 0                   -- flash and offset of the source container, its size, and its QUERY source code
  base   : Nat := 0
  size   : Nat := 0
  src    : Nat := 0
  ready  : Option (List Section) := none   -- the sections named, loaded and waiting for their boundary
  plan   : List Entry := []
  step   : Nat := 0                   -- the step being loaded or armed
  start  : Option Nat := none         -- a start time that has not come yet, seconds (R165)
  haltAt : Bool := false              -- HALT_PLAN accepted in the grid multiframe of the step's boundary (R174)
  swap   : Option (List Nat) := none  -- the groups that the pages named before a swap of this boundary
  win    : List HitSt := []           -- the outputs that the open measuring window measures
  winOpen : Bool := false
  winGp  : Nat := 0                   -- grid period of its boundary
  winTw  : Nat := 0                   -- twig frames that began since
  winStep : Nat := 0
  winGmf : Nat := 0
  winNamed : Nat := 0
  deriving DecidableEq, Repr

/-! ### Control (chapter 13) -/

/-- A locked sequence (R347): its target (bank 0 to 7, 8 the register windows), accesses made, and whether it was broken. -/
structure LockSt where
  target : Nat := 0
  count  : Nat := 0
  broken : Bool := false
  deriving DecidableEq, Repr

/-- The bus matrix. -/
structure BusBlock where
  locks   : List (Nat × LockSt) := [] -- by master
  wvAt    : List (Nat × Nat) := []    -- grid period of a master's last WORLD_VIOLATION record (R357)
  ueMs    : List (Nat × Nat) := []    -- the latest uncorrectable DDR5 reads: channel and grid period (R410)
  newOwn  : List (Nat × Nat) := []    -- owners requested by a pending hand-over (R351)
  patch   : List Entry := []          -- patch points and extension blocks in force (R340)
  cpHalt  : Bool := false             -- the processor restarts and has not resumed (R339)
  kickAt  : Nat := 0                  -- PwrBlock.up at the last kick of the processor watchdog
  deriving DecidableEq, Repr

/-! ### Host interface (chapter 14) -/

/-- Mailboxes, SMBus and the endpoint. -/
structure HostBlock where
  nonces  : List (Nat × Nat × List Byte) := []  -- channel, PwrBlock.up at its issue, and nonce (R377)
  lastSec : Nat := 10                 -- channels last taken of the three groups (R370)
  lastNon : Nat := 6
  bg      : List BgCmd := []          -- background commands, and ATTESTs waiting for their signing
  smbAddr : Nat := 0
  smbMask : Nat := 1                  -- ALERT_MASK
  hold    : Nat := 0                  -- TAMPER_N inputs that hold the wipe (R332)
  taken   : List (Nat × List Nat) := []   -- the words of a command taken and not answered, by channel (R369)
  deriving DecidableEq, Repr

/-! ### Time core, time transfer and calendar clock (chapters 10, 11) -/

/-- A reference candidate (R265 to R271). -/
structure CandSt where
  edges  : List Int := []             -- system times of the last rising edges, newest first, 25 ps units (R267)
  wtr    : Bool := false              -- an epoch has passed since the wait-to-restore started (R269)
  phase  : Option Int := none         -- phase offset measured since the last epoch, ps
  todBad : Nat := 0                   -- consecutive epochs without a valid sentence (R268)
  todOk  : Nat := 0                   -- consecutive epochs with one
  ql     : Nat := 15                  -- QL received from a ToD sentence or a channel message (R266)
  utc    : Option (Int × Nat) := none -- TAI − UTC and leap code received (R300)
  lab    : Int := 0                   -- second that the paired sentence names, minus the second of the counter (R299)
  deriving DecidableEq, Repr

/-- A time channel (R285 to R291). Times are in 25 ps units from second 0. -/
structure TchSt where
  next   : Nat := 0                   -- number of the next message
  tx     : List (Nat × Nat) := []     -- departures of this device's anchors: message number, time, newest first
  rx     : List (Nat × Nat) := []     -- arrivals of the peer's anchors
  sample : List (Int × Int) := []     -- offset and path delay of the messages accepted in this second, ps
  slopes : List (Nat × Int) := []     -- second and offset of the last 16 s (R290)
  none_  : Nat := 0                   -- consecutive epochs that yielded no offset
  yields : Bool := false              -- the channel delivers a valid offset
  selThis : Bool := false             -- sel_this of the peer's last message
  deriving DecidableEq, Repr

/-- The time core. -/
structure TimeBlock where
  rem5   : Nat := 0                   -- fifths of 2^-32 ns below the system time counter (R280)
  cand   : List (Nat × CandSt) := []
  tch    : List (Nat × TchSt) := []
  tod    : List Nat := []             -- ToD inputs with a sentence accepted for the epoch in progress (R299)
  fGood  : Nat := 0                   -- consecutive measurements within, and far outside, the lock window (Table 10-5)
  fBad   : Nat := 0
  tGood  : Nat := 0
  tBad   : Nat := 0
  hist   : Option Int := none         -- the history, in 2^-16 of 0.1 ppb (R275)
  histQ  : List Int := []             -- control words of the last hist_guard seconds, newest first
  stepErr : List Int := []            -- errors of a step that awaits confirmation, newest first, ps (R281)
  step   : Option Int := none         -- Δ of a confirmed step that waits for the next epoch, ps (R281)
  aligned : Bool := false             -- the first alignment since the reset of PD_TIME is done
  stepNow : Bool := false             -- a step was applied at the last epoch
  everLocked : Bool := false          -- the time servo has been LOCKED since the reset of PD_TIME (R278)
  runaways : List Nat := []           -- PwrBlock.up at the runaways of the last hour (R264)
  lastDis : Option Nat := none        -- PwrBlock.up at the last disagreement (R271)
  rtcTrim : Int := 0                  -- accumulated trim, 10^-8 tick
  leapNow : Bool := false             -- the second in progress is an inserted leap second (R300)
  runHold : Bool := false             -- a runaway holds the servo until the next evaluation point (R264)
  deriving DecidableEq, Repr

/-! ### The state -/

/-- The overhead and payload that an egress mapper sends in one frame (Table 3-5). A field that the layer lacks is 0; every
field of Table 3-5 that is not here is sent as zeros. `src` says that the whole overhead is sourced; where it is false
the frame passes through, and only its APS bytes are replaced. -/
structure OhOut where
  ctx    : Nat := 0
  src    : Bool := true
  mfas   : Nat := 0                   -- MFAS, or the place in the FlexE overhead multiframe, whose first half has OMF 0
  omfi   : Nat := 0
  tti    : Nat := 0                   -- the TTI byte of this frame
  bip    : Nat := 0                   -- the BIP-8 computed over the frame before, whose line bytes no state holds: a free value
  bei    : Nat := 0
  bdi    : Bool := false
  stat   : Nat := 0
  psi    : Nat := 0                   -- the PSI byte of this frame
  aps    : Option (List Nat) := none  -- the four APS bytes
  gnum   : Nat := 0
  phymap : List Nat := []             -- PHY numbers of the FlexE group
  rpf    : Bool := false
  c      : Nat := 0
  cr     : Option Nat := none
  ca     : Option Nat := none
  jc     : List (Nat × Nat × Nat × List Nat) := []  -- client, Cm, ΣCnD, and the payload words that they govern
  deriving DecidableEq, Repr

/-- What a command shows outside the device: words a read returns, MSI-X vectors sent, ... -/
structure Out where
  rdata : List Word := []
  msix  : List Nat := []
  reply : List (Nat × Reply) := []
  bytes : List Byte := []             -- a frame, a sentence, a message or a report that leaves the device
  frames : List OhOut := []           -- frames of egress contexts
  streams : List (Nat × List W66) := []   -- 66B blocks that egress contexts send
  flagged : Bool := false             -- the bytes returned carry the error flag of an uncorrectable word (R355, R410)
  edges : List (Nat × Int) := []      -- rising edges of TIMEOUT outputs at this command, each with its advance in ps (R296)
  deriving DecidableEq, Repr

/-- The state of the Heset 128. -/
structure State where
  regs    : List (Nat × Word) := []   -- every register not at its reset value, by key (RegMap)
  latch   : List (Nat × Word) := []   -- words latched by a read of a low word, by key (R11)
  stage   : List (Nat × Word) := []   -- low words written and not yet committed, by key (R11)
  img     : List Section := []        -- the sections in force
  ln      : LaneBlock := {}
  fr      : FrameBlock := {}
  qs      : QsBlock := {}
  mate    : MateBlock := {}
  rcd     : Recorder := {}
  irq     : IrqBlock := {}
  perf    : PerfBlock := {}
  cyc     : Nat := 0
  free    : Nat := 0
  fab     : FabBlock := {}
  tw      : TwigBlock := {}
  tag     : TagBlock := {}
  evg     : EvgBlock := {}
  pwr     : PwrBlock := {}
  boot    : BootBlock := {}
  chg     : ChgBlock := {}
  bus     : BusBlock := {}
  host    : HostBlock := {}
  tim     : TimeBlock := {}
  flash   : List (Nat × Byte) := []   -- flash bytes other than 0xFF, by 2^32 × chip select + offset
  mem     : List (Nat × Byte) := []   -- bytes other than 0 of the banks, the patch store and DDR5, by internal address
  out     : Out := {}
  pending : List Instr := []
  deriving DecidableEq, Repr

/-- The Heset 128 right after its power-on reset, with PORST_N released and nothing booted: every register at its reset
value (RegMap), no section in force, an erased flash, blank fuses, and an empty queue of commands. -/
def State.reset : State := {}

end Sys2Proof.Machine
end

