-- ==== Sys2Proof/Machine/Ops.lean ====
section
/-!
DEFINITION. Sys2Proof/Machine/Ops.lean: the named operations over registers, image sections, records and interrupts
that every command uses.
-/
namespace Sys2Proof.Machine

/-! ### Registers -/

/-- The register at a key. -/
def State.reg (s : State) (k : Nat) : Word := tget resetWord s.regs k

/-- Write the register at a key. -/
def State.setReg (s : State) (k : Nat) (w : Word) : State := { s with regs := tset resetWord s.regs k w }

/-- A register field of instance `n`; an instance that does not exist reads 0. -/
def State.get (s : State) (f : Fld) (n : Nat := 0) : Nat :=
  if n < f.count then bitsOf (s.reg (f.base + f.stride * n)) f.hi f.lo else 0

/-- Set a register field of instance `n`; an instance that does not exist is left out. -/
def State.set (s : State) (f : Fld) (v : Nat) (n : Nat := 0) : State :=
  if n < f.count then
    s.setReg (f.base + f.stride * n) (withBits (s.reg (f.base + f.stride * n)) f.hi f.lo v)
  else s

/-- Write the whole register that holds a field of instance `n`. -/
def State.setWord (s : State) (f : Fld) (n : Nat) (w : Word) : State :=
  if n < f.count then s.setReg (f.base + f.stride * n) w else s

/-- Set a one-bit field. -/
def State.setB (s : State) (f : Fld) (b : Bool) (n : Nat := 0) : State := s.set f (b2n b) n

/-- A one-bit field as a truth value. -/
def State.on (s : State) (f : Fld) (n : Nat := 0) : Bool := s.get f n != 0

/-- Add to a counter field, which saturates at its all-ones value (R10). -/
def State.inc (s : State) (f : Fld) (n : Nat := 0) (by_ : Nat := 1) : State :=
  s.set f (satN (f.hi + 1 - f.lo) (s.get f n + by_)) n

/-- Add to a counter field that its field map names as wrapping (R10). -/
def State.incW (s : State) (f : Fld) (n : Nat := 0) (by_ : Nat := 1) : State :=
  s.set f (s.get f n + by_) n

/-- Add to a 64-bit wrapping count in two registers. -/
def State.inc64 (s : State) (lo hi : Fld) (n : Nat := 0) (by_ : Nat := 1) : State :=
  let v := s.get lo n + 2 ^ 32 * s.get hi n + by_
  (s.set lo v n).set hi (v / 2 ^ 32) n

/-- The 64-bit quantity in two registers. -/
def State.get64 (s : State) (lo hi : Fld) (n : Nat := 0) : Nat := s.get lo n + 2 ^ 32 * s.get hi n

/-- Set the 64-bit quantity in two registers. -/
def State.set64 (s : State) (lo hi : Fld) (v : Nat) (n : Nat := 0) : State := (s.set lo v n).set hi (v / 2 ^ 32) n

/-- Every register with a key from `a` up to below `b` takes its reset value. -/
def State.resetRange (s : State) (a b : Nat) : State :=
  { s with regs := s.regs.filter fun p => !(decide (a ≤ p.1) && decide (p.1 < b)) }

/-- The registers of instance `n` of a window of `count` instances take their reset values. -/
def State.resetInst (s : State) (base stride count n : Nat) : State :=
  if n < count then s.resetRange (base + stride * n) (base + stride * n + stride) else s

/-- The 16 message words of a mailbox channel (Table 14-4). -/
def State.setMsg (s : State) (n : Nat) (l : List Nat) : State :=
  if n < 16 then forEach (List.range 16) s fun s i => s.setReg (0x10000 + 0x100 * n + 4 * i) (BitVec.ofNat 32 (l.getD i 0))
  else s

/-- The message words of a channel take their reset value. -/
def State.wipeMsg (s : State) (n : Nat) : State :=
  if n < 16 then s.resetRange (0x10000 + 0x100 * n) (0x10040 + 0x100 * n) else s

/-- A message is posted on a mailbox channel: go is set, and posted counts it (R369). -/
def State.post (s : State) (n : Nat) : State :=
  if s.on MBX_CTL_go n then s else (s.setB MBX_CTL_go true n).incW MBX_ST_posted n

/-! ### Image sections -/

/-- The value an entry gives a field, if it has one. -/
def Entry.given (e : Entry) (fid sub : Nat) : Option Int :=
  (e.fields.find? fun p => p.1 == fid && p.2.1 == sub).map fun p => p.2.2

/-- The default of Table 4-9 for pt_tx: 0x22 for kind 1, 0x07 for kinds 2 and 3; other kinds send no PSI. -/
def ptDefault (kind : Nat) : Int := if kind = 1 then 0x22 else if kind = 2 ∨ kind = 3 then 0x07 else 0

/-- The default of a field that does not take another field's value. -/
def plainDefault (e : Entry) (f : ImgFld) (sub : Nat) : Int :=
  match f.dflt with
  | .val v => v
  | .indexPlus v => sub + v
  | .firstOnly => if sub = 0 then 1 else 0
  | .ptTx => ptDefault ((e.given 0x02 0).getD 0).toNat
  | .bankWorld => b2n (bankDefault ((e.given SECURITY_bank.fid 0).getD 0).toNat).2.2
  | .bankShare => (bankDefault ((e.given SECURITY_bank.fid 0).getD 0).toNat).2.1
  | .absent | .sameAs _ => 0

/-- The default of a field in an entry (R324). -/
def defaultOf (e : Entry) (f : ImgFld) (sub : Nat) : Int :=
  match f.dflt with
  | .sameAs fid =>
    match e.given fid 0 with
    | some v => v
    | none => match (fieldsOf f.sec).find? fun g => g.fid == fid with
      | some g => plainDefault e g 0
      | none => 0
  | _ => plainDefault e f sub

/-- The value of a field in an entry, signed. -/
def Entry.i (e : Entry) (f : ImgFld) (sub : Nat := 0) : Int := (e.given f.fid sub).getD (defaultOf e f sub)

/-- The value of an unsigned field in an entry. -/
def Entry.n (e : Entry) (f : ImgFld) (sub : Nat := 0) : Nat := (e.i f sub).toNat

/-- A one-bit field of an entry. -/
def Entry.b (e : Entry) (f : ImgFld) (sub : Nat := 0) : Bool := e.n f sub != 0

/-- The section of an ID in a list of sections. -/
def sectionOf (l : List Section) (sec : Nat) : Option Section := l.find? fun x => x.sec == sec

/-- The entries of a section in a list of sections; a section that is not there is at its defaults: no entries. -/
def entriesOf (l : List Section) (sec : Nat) : List Entry :=
  match sectionOf l sec with | some x => x.entries | none => []

/-- The entries of one kind. -/
def kindOf (l : List Section) (sec kind : Nat) : List Entry := (entriesOf l sec).filter fun e => e.kind == kind

/-- The entry of the kind of a field whose field has a value: a lookup by key. -/
def entryBy (l : List Section) (f : ImgFld) (v : Nat) : Option Entry :=
  (entriesOf l f.sec).find? fun e => e.kind == f.kind && e.n f == v

/-- The entries of a section in force. -/
def State.entries (s : State) (f : ImgFld) : List Entry := kindOf s.img f.sec f.kind

/-- The entry in force whose key field has a value. -/
def State.entry (s : State) (f : ImgFld) (v : Nat) : Option Entry := entryBy s.img f v

/-- A field of a global entry in a list of sections (its default without the entry). -/
def globalOf (l : List Section) (f : ImgFld) (sub : Nat := 0) : Nat :=
  match (kindOf l f.sec 0).head? with
  | some e => e.n f sub
  | none => Entry.n {} f sub

/-- A field of a global entry in force. -/
def State.gl (s : State) (f : ImgFld) (sub : Nat := 0) : Nat := globalOf s.img f sub

/-- A signed field of a global entry in force. -/
def State.glI (s : State) (f : ImgFld) (sub : Nat := 0) : Int :=
  match (kindOf s.img f.sec 0).head? with
  | some e => e.i f sub
  | none => Entry.i {} f sub

/-- The LANES entry of lane index `n` in a list of sections (R66: the index is the key). -/
def laneEntryOf (l : List Section) (n : Nat) : Entry :=
  ((entriesOf l 2).find? fun e => e.idx == n).getD {}

/-- The LANES entry in force of a lane. -/
def State.lane (s : State) (n : Nat) : Entry := laneEntryOf s.img n

/-- Put a section in a list of sections, in place of the one with its ID. -/
def putSection (l : List Section) (x : Section) : List Section := x :: l.filter fun y => y.sec != x.sec

/-- Whether two entries of a kind of a section have equal values in every field. -/
def sameEntry (sec kind : Nat) (a b : Option Entry) : Bool :=
  match a, b with
  | none, none => true
  | some a, some b => (fieldsOf sec).all fun f => f.kind != kind ||
      (match f.arr with
        | none => a.i f == b.i f
        | some (lo, hi) => (List.range (hi + 1 - lo)).all fun i => a.i f (lo + i) == b.i f (lo + i))
  | _, _ => false

/-! ### Free values -/

/-- The next free value of `w` bits: a value that the spec leaves open, drawn by the counter of State. -/
def State.draw (s : State) : Nat × State := (Config.freeValue s.free, { s with free := s.free + 1 })

/-! ### Interrupts (R398 to R400) -/

/-- The sticky bits of a group. -/
def State.stk (s : State) (g : Nat) : Nat := tget (fun _ => 0) s.irq.stk g

/-- The enable mask of a group. -/
def State.irqEn (s : State) (g : Nat) : Nat := tget (fun _ => 0) s.irq.en g

/-- The pending bits of a group: stk AND en. -/
def State.irqPend (s : State) (g : Nat) : Nat := s.stk g &&& s.irqEn g

/-- The MSI-X vector of a source (R399): its own by a RECORDS vector entry, else that of its group. -/
def State.vectorOf (s : State) (src : Nat) : Nat :=
  match s.entry RECORDS_dv_src src with
  | some e => e.n RECORDS_dv_vec
  | none => s.gl RECORDS_irq_vec (src / 32)

/-- Whether a message can be sent now: the PCIe link is up and the host has enabled MSI-X (R399). -/
def State.msixReady (s : State) : Bool := s.on MBX_LINK_up && s.on MBX_LINK_msix_en

/-- The vector control word of a vector in the MSI-X table (Table 14-1). -/
def State.msixMasked (s : State) (v : Nat) : Bool := bit (s.reg (0x02F000 + 16 * v + 12)).toNat 0

/-- A message of vector `v` falls due: it is sent, merged into one due after the spacing, or marked in the PBA (R399). -/
def State.sendMsix (s : State) (v : Nat) : State :=
  if !s.msixReady then s
  else if s.msixMasked v then
    { s with irq := { s.irq with pba := if s.irq.pba.contains v then s.irq.pba else s.irq.pba ++ [v] } }
  else if s.irq.space.contains v then
    { s with irq := { s.irq with due := if s.irq.due.contains v then s.irq.due else s.irq.due ++ [v] } }
  else
    { s with
      out := { s.out with msix := s.out.msix ++ [v] }
      irq := { s.irq with space := if s.gl RECORDS_irq_mod = 0 then s.irq.space else s.irq.space ++ [v] } }

/-- Count one event on every enabled performance counter that `sel` takes (R397). -/
def State.count (s : State) (sel : Nat → Bool) (by_ : Nat := 1) : State :=
  let hit := (List.range 64).filter fun n => s.on PC_SEL_enable n && !s.on PC_SEL_denied n && sel n
  { s with perf := { s.perf with
      val := hit.foldl (fun t n => tmod (fun _ => 0) t n fun v => (v + by_) % 2 ^ 64) s.perf.val } }

/-- Hardware sets the sticky bit of a source (R398); a pending bit that rises sends its message (R399). -/
def State.irqSet (s : State) (src : Nat) : State :=
  let g := src / 32
  let old := s.stk g
  let s := s.count fun n => s.get PC_SEL_kind n == 1 && s.get PC_SEL_arg n == src
  let s := { s with irq := { s.irq with stk := tset (fun _ => 0) s.irq.stk g (old ||| 2 ^ (src % 32)) } }
  if !bit old (src % 32) && bit (s.irqEn g) (src % 32) then s.sendMsix (s.vectorOf src) else s

/-! ### Records (R382 to R385) -/

/-- A payload from its fields, each a number of bytes and a value, little-endian in the order given (R384). -/
def payloadOf (l : List (Nat × Nat)) : List Byte := l.flatMap fun p => leBytes p.1 p.2

/-- A block hands a record to its record port (R384). The port buffers 32 records; a record that finds it full is
dropped and counted. A severity above RECORDS.keep_sev is not accepted and not counted. -/
def State.offerRec (s : State) (k : RecKind) (payload : List Byte) : State :=
  if s.gl RECORDS_keep_sev < k.sev then s
  else if 32 ≤ (s.rcd.offers.filter fun o => o.typ / 256 == k.group).length then
    (s.inc EVR_LOSS_drop k.sev).irqSet 449
  else
    { s with rcd := { s.rcd with offers := s.rcd.offers ++ [⟨s.cyc, k.typ, k.sev, k.sec, payload⟩] } }

/-- An occurrence that a record reports: its event source is raised whether or not the record is accepted (R398),
then the record is offered. -/
def State.report (s : State) (k : RecKind) (fields : List (Nat × Nat)) : State :=
  let s := match k.src with | some src => s.irqSet src | none => s
  s.offerRec k (payloadOf fields)

/-- As `report`, for a payload given as bytes. -/
def State.reportBytes (s : State) (k : RecKind) (payload : List Byte) : State :=
  let s := match k.src with | some src => s.irqSet src | none => s
  s.offerRec k payload

end Sys2Proof.Machine
end

