-- ==== Sys2Proof/Machine/Flags.lean ====
section
/-!
DEFINITION. Sys2Proof/Machine/Flags.lean: the interrupt flags: the raw state of the level sources of Table 15-8 (R398),
the secure and fault sources, the pins of R399 and R400, and the start of a command's cycle.
-/
namespace Sys2Proof.Machine

/-- Bit masks of the level sources of each group (Table 15-8, kind L). -/
def levelMask : Nat → Nat
  | 0 => 0x3F | 1 => 0xFFFFFFFF | 2 => 0x12F | 3 => 0xF00 | 5 => 0x110 | 10 => 0xFFFFFFFF | 11 => 0xFFFFFFFF
  | 12 => 0x540 | 14 => 0x41F1 | 15 => 0x71 | _ => 0

/-- Bit masks of the secure sources (Table 15-8, S). -/
def secureMask : Nat → Nat
  | 0 => 0x30 | 12 => 0x1000 | 15 => 0x7 | _ => 0

/-- Bit masks of the fault sources (Table 15-8, F). -/
def faultMask : Nat → Nat
  | 3 => 0xF00 | 4 => 0x2 | 5 => 0x218 | 9 => 0x5 | 12 => 0x140 | 13 => 0x40 | 14 => 0xE801 | 15 => 0x61 | _ => 0

/-- The quads, LQ then MQ, on a lane of which a bit of LN_STICKY is set. -/
def State.stickyQuads (s : State) : List Nat :=
  s.regs.filterMap fun p =>
    if 0x080008 ≤ p.1 && decide (p.1 < 0x089000) && (p.1 - 0x080008) % 0x100 == 0 && p.2.toNat != 0 then
      let n := (p.1 - 0x080008) / 0x100
      some (if n < 128 then n / 4 else 32 + (n - 128) / 4)
    else none

/-- The CVUs with ready, overrun, or mismatch while irq_en is 1. -/
def State.cvuRaw (s : State) : List Nat :=
  s.regs.filterMap fun p =>
    if 0x050034 ≤ p.1 && decide (p.1 < 0x051034) && (p.1 - 0x050034) % 0x40 == 0 then
      let u := (p.1 - 0x050034) / 0x40
      let w := p.2.toNat
      if bit w 0 || bit w 2 || (bit w 1 && s.on CVU_CTL_irq_en u) then some u else none
    else none

/-- The number with the bits of a list set. -/
def bitsSet (l : List Nat) : Nat := l.foldl (fun a b => if bit a b then a else a + 2 ^ b) 0

/-- Tamper input `k` is active and asserted (R332). -/
def State.tamperOn (s : State) (k : Nat) : Bool := bit (s.get CP_TAMPER_level) k && s.gl SECURITY_tamper_en k == 1

/-- MB5 and the secure channels are held wiped (R332). -/
def State.tamperHeld (s : State) : Bool := s.tamperOn 0 || s.tamperOn 1

/-- The level sources of a group whose condition holds. -/
def State.rawLevel (s : State) (g : Nat) : Nat :=
  match g with
  | 0 => ofBits ((List.range 6).map fun i => s.on MBX_CTL_go (2 * i + 1))
  | 1 => bitsSet (s.stickyQuads.filter fun q => decide (q < 32))
  | 2 => bitsSet ((s.stickyQuads.filter fun q => decide (32 ≤ q)).map fun q => q - 32)
      + 32 * b2n (s.on MATE_ST_lost) + 256 * b2n (s.get MATE_ST_role == 2 && !s.on MATE_ST_sync)
  | 3 => bitsSet (s.fr.quadFault.map fun q => q + 8)
  | 5 => 16 * b2n (!s.fab.on) + 256 * b2n (s.get FAB_COPPICE_state == 2)
  | 10 => bitsSet (s.cvuRaw.filter fun u => decide (u < 32))
  | 11 => bitsSet ((s.cvuRaw.filter fun u => decide (32 ≤ u)).map fun u => u - 32)
  | 12 => 64 * b2n (s.on TMC_ST_osc_loss) + 256 * b2n (s.on TMC_ST_servo_fault) + 1024 * b2n (s.on RTC_ST_xtal_fail)
  | 14 => b2n (s.get EVR_FAULT_0_word != 0)
      + 16 * ofBits ((List.range 4).map fun q => !(tget (fun _ => {}) s.rcd.hq q).recs.isEmpty)
      + 256 * b2n (!(tget (fun _ => {}) s.rcd.hq 4).pm.isEmpty) + 2 ^ 14 * b2n (s.get DC_ST_state == 3)
  | 15 => b2n s.tamperHeld + 16 * b2n (s.pwr.warm) + 32 * b2n (s.pwr.crit)
      + 64 * b2n (s.get CP_BOOT_ST_state == 5)
  | _ => 0

/-- FAULT_N is asserted while a sticky bit of a fault source is set, or a recorder fault stands (R400), while the core PLL
does not start (R260), in NO_IMAGE, and in RESCUE unless the strap selects it (R314). -/
def State.faultN (s : State) : Bool :=
  s.get EVR_FAULT_0_word != 0 || s.boot.oscBad || s.get CP_BOOT_ST_state == 5 ||
    (s.get CP_BOOT_ST_state == 6 && s.get CP_BOOT_ST_src != 3) || s.irq.stk.any fun p => p.2 &&& faultMask p.1 != 0

/-- INT_N[k] is asserted while a pending bit of a group routed to it is set (R399). -/
def State.intN (s : State) (k : Nat) : Bool :=
  (List.range 16).any fun g => s.gl RECORDS_irq_pin g == k && s.irqPend g != 0

/-- The level sources set their sticky bits in every cycle in which they are raw (R398). -/
def State.latchLevels (s : State) : State :=
  forEach (List.range 16) s fun s g =>
    let rise := s.rawLevel g &&& (0xFFFFFFFF ^^^ s.stk g)
    if rise = 0 then s else
      forEach ((List.range 32).filter fun b => bit rise b) s fun s b => s.irqSet (32 * g + b)

/-- A command's cycle begins: the cycle count advances, what the last command showed is gone, and the level sources
latch. -/
def State.newCycle (s : State) : State := ({ s with cyc := s.cyc + 1, out := {} } : State).latchLevels

end Sys2Proof.Machine
end

