-- ==== Sys2Proof/Machine/Layout.lean ====
section
/-!
DEFINITION. Sys2Proof/Machine/Layout.lean: which lane, quad, domain, group, slot and context is which (R4, R17, R34, R35,
R45, R49, R65, R100 to R102, R121, R123). Every function takes the sections it reads, so that the checks of a load
(R324) can ask it about the sections that would be in force.
-/
namespace Sys2Proof.Machine

/-- The quad of a lane index: 0 to 31 for LQ, 32 to 35 for MQ (R34, R65). -/
def quadOf (n : Nat) : Nat := if n < 128 then n / 4 else 32 + (n - 128) / 4

/-- The lanes of a quad. -/
def lanesOfQuad (q : Nat) : List Nat :=
  if q < 32 then (List.range 4).map fun i => 4 * q + i else (List.range 4).map fun i => 128 + 4 * (q - 32) + i

/-- The power domain code of a lane (R34, Table 16-4). -/
def domainOfLane (n : Nat) : Nat := if n < 128 then 11 + n / 16 else 19

/-- The mapper quadrant of a line lane (R17). -/
def quadrantOf (n : Nat) : Nat := n / 32

/-- The lane reference clock of a lane (Table 2-1). -/
def refOf (n : Nat) : Nat := if n < 128 then n / 16 else if n < 136 then 3 else 4

/-- A lane whose entry is enabled and not of format OFF. -/
def laneOn (l : List Section) (n : Nat) : Bool :=
  let e := laneEntryOf l n
  e.b LANES_enable && e.n LANES_format != 0

/-- The width of the bond a lane is in. -/
def widthOf (l : List Section) (n : Nat) : Nat := (laneEntryOf l n).n LANES_width

/-- The lead of the bond a lane is in: its lowest-numbered lane (R49, Table 2-7). -/
def leadOf (l : List Section) (n : Nat) : Nat :=
  let w := widthOf l n
  if w ≤ 1 then n else if w = 2 then n - n % 2 else n - n % 4

/-- The lanes of the bond a lane is in. -/
def bondOf (l : List Section) (n : Nat) : List Nat :=
  (List.range (widthOf l n)).map fun i => leadOf l n + i

/-- Whether a lane is the lead of an enabled group of a format. -/
def isGroupLead (l : List Section) (n fmt : Nat) : Bool :=
  laneOn l n && leadOf l n == n && (laneEntryOf l n).n LANES_format == fmt

/-- Insertion of a number in a rising list. -/
def insertN (x : Nat) : List Nat → List Nat
  | [] => [x]
  | y :: t => if x ≤ y then x :: y :: t else y :: insertN x t

/-- A list of numbers in rising order. -/
def sortN (l : List Nat) : List Nat := l.foldr insertN []

/-- Insertion of a pair by its first component. -/
def insertP (x : Nat × Nat) : List (Nat × Nat) → List (Nat × Nat)
  | [] => [x]
  | y :: t => if x.1 ≤ y.1 then x :: y :: t else y :: insertP x t

/-- The leads of the PHYs of the FlexE group that a lane is in, by rising PHY number (R45, R101). -/
def flexePhys (l : List Section) (n : Nat) : List Nat :=
  let q := quadrantOf n
  let g := (laneEntryOf l n).n LANES_flexe_group
  let leads := (List.range 32).map (fun i => 32 * q + i) |>.filter fun m =>
    isGroupLead l m 3 && (laneEntryOf l m).n LANES_flexe_group == g
  ((leads.map fun m => ((laneEntryOf l m).n LANES_flexe_phy, m)).foldr insertP []).map (·.2)

/-- The slots of one bond in slot index order (R101); a 50G FlexE PHY has ten (R46). -/
def bondSlots (l : List Section) (lead : Nat) : List Nat :=
  let e := laneEntryOf l lead
  if e.n LANES_format = 3 ∧ e.n LANES_rate = 4 then (List.range 10).map fun i => 20 * lead + i
  else (List.range (20 * e.n LANES_width)).map fun i => 20 * (lead + i / 20) + i % 20

/-- The slots of a lane group in slot index order (R101). -/
def groupSlots (l : List Section) (lead : Nat) : List Nat :=
  if (laneEntryOf l lead).n LANES_format = 3 then (flexePhys l lead).flatMap (bondSlots l) else bondSlots l lead

/-- The MAPPING entry of a context. -/
def mapOf (l : List Section) (c : Nat) : Option Entry := entryBy l MAPPING_ctx c

/-- Whether a context's server is a lane group (Table 4-1). -/
def onGroup (l : List Section) (e : Entry) : Bool :=
  let k := e.n MAPPING_kind
  k == 0 || k == 5 || (k == 4 && e.n MAPPING_server == e.n MAPPING_ctx && isGroupLead l (e.n MAPPING_lead) 2)

/-- The server entry of a context whose server is a context. -/
def serverOf (l : List Section) (e : Entry) : Option Entry :=
  if onGroup l e then none
  else if e.n MAPPING_server = e.n MAPPING_ctx then none else mapOf l (e.n MAPPING_server)

/-- The slots of a context in slot index order (R102); `fuel` bounds the chain of servers. -/
def ctxSlotsF (l : List Section) : Nat → Entry → List Nat
  | 0, _ => []
  | f + 1, e =>
    let k := e.n MAPPING_kind
    if onGroup l e then groupSlots l (e.n MAPPING_lead)
    else match serverOf l e with
      | none => []
      | some sv =>
        if k = 1 ∨ k = 4 then ctxSlotsF l f sv
        else if k = 7 then ((ctxSlotsF l f sv).drop (e.n MAPPING_first)).take 1
        else if k = 8 then []
        else ((ctxSlotsF l f sv).drop (e.n MAPPING_first)).take (e.n MAPPING_count)

/-- The slots of a context in slot index order. -/
def ctxSlots (l : List Section) (e : Entry) : List Nat := ctxSlotsF l 5 e

/-- The slot group of a context: its slots in rising flat number; member j is the jth (R102). -/
def slotGroup (l : List Section) (e : Entry) : List Nat := sortN (ctxSlots l e)

/-- The chain of servers of a context up to its lane group, the context first. -/
def serverChain (l : List Section) : Nat → Entry → List Entry
  | 0, _ => []
  | f + 1, e => e :: match serverOf l e with | some sv => serverChain l f sv | none => []

/-- The lead lane of the lane group that carries a context. -/
def leadOfCtx (l : List Section) (e : Entry) : Nat :=
  match (serverChain l 5 e).getLast? with
  | some r => r.n MAPPING_lead
  | none => 0

/-- Whether a context is a client, direct or indirect, of context `c`. -/
def isUnder (l : List Section) (e : Entry) (c : Nat) : Bool :=
  ((serverChain l 5 e).drop 1).any fun x => x.n MAPPING_ctx == c

/-- The context of a kind and direction that owns a flat slot among those that exchange slot blocks with the fabric:
kinds 2 and 3 switched, 4, 6 and 7 (Table 4-1, carriage). -/
def carries (e : Entry) : Bool :=
  match e.n MAPPING_kind with
  | 2 | 3 => !e.b MAPPING_odu_mode
  | 4 | 6 | 7 => true
  | _ => false

/-- Carriage code of MAP_CTX_CFG: 0 none or twig units, 1 STREAM, 2 ODU, 3 HOST. -/
def carriageOf (e : Entry) : Nat :=
  if !carries e then 0 else match e.n MAPPING_kind with
  | 2 | 3 => 2
  | 4 | 6 => 1
  | 7 => 3
  | _ => 0

/-- The context that owns a slot in a direction (0 receive, 1 transmit), with the member number of the slot. -/
def ownerOf (l : List Section) (dir slot : Nat) : Option (Entry × Nat) :=
  (kindOf l 4 0).findSome? fun e =>
    if e.n MAPPING_dir = dir ∧ carries e then
      let g := slotGroup l e
      if g.contains slot then some (e, (g.takeWhile (· != slot)).length) else none
    else none

/-- The kind 7 receive context of a host index (R121). -/
def hostCtx (l : List Section) (h : Nat) : Option Entry :=
  (kindOf l 4 0).find? fun e => e.n MAPPING_kind == 7 && e.n MAPPING_dir == 0 && e.n MAPPING_host == h

/-- The kind 8 context of a direction that holds a twig of a host (R123). -/
def circuitOf (l : List Section) (dir h t : Nat) : Option Entry :=
  (kindOf l 4 0).find? fun e => e.n MAPPING_kind == 8 && e.n MAPPING_dir == dir && e.n MAPPING_host == h
    && decide (e.n MAPPING_twig_first ≤ t) && decide (t < e.n MAPPING_twig_first + e.n MAPPING_twig_n)

/-- The lane of status window index and the slot index of a flat slot: its mate entry's where it has one (R131, R136). -/
def slotPlace (l : List Section) (slot : Nat) : Nat × Nat :=
  match entryBy l FABRIC_PAGE_mate_slot slot with
  | some m => (128 + m.n FABRIC_PAGE_mate_lane, m.n FABRIC_PAGE_mate_idx)
  | none => (slot / 20, slot % 20)

/-- The ready cycle of a slot (R131). -/
def readyCycle (l : List Section) (slot : Nat) : Nat :=
  let (n, i) := slotPlace l slot
  (32 * i / 5 + 4 * (n % 4)) % 128

/-- The write cycle of a slot under a fabric page. -/
def writeCycle (l : List Section) (slot : Nat) : Nat :=
  (((kindOf l 5 2).find? fun w => w.n FABRIC_PAGE_wr_slot == slot).map fun w => w.n FABRIC_PAGE_wr_cycle).getD 0

/-- The slot of the receive twig host of an index. -/
def hostSlot (l : List Section) (h : Nat) : Nat :=
  match hostCtx l h with
  | some e => (ctxSlots l e).head?.getD 0
  | none => 0

/-- The twig term t_sub of R138 for an input unit in block `bi` of receive host `src` and an output unit in block `bo`
of output host `out`. -/
def tSub (l : List Section) (src out bi bo : Nat) : Int :=
  let x : Int := 128 * ((bo : Int) - bi) + writeCycle l (hostSlot l out) - readyCycle l (hostSlot l src)
  if 14 ≤ x then x else if 14 ≤ x + 16000 then x + 16000 else x + 32000

end Sys2Proof.Machine
end

