-- ==== Sys2Proof/Machine/Settle.lean ====
section
/-!
DEFINITION. Sys2Proof/Machine/Settle.lean: what follows in the same cycle from a change of a lane, a frame or a section:
the defects of every monitored context with their suppression and consequent actions (R83 to R88), and the triggers and
requests of every protection group (R183 to R186).
-/
namespace Sys2Proof.Machine

/-! ### Accessors of the per-context tables -/

def State.alignSt (s : State) (c : Nat) : AlignSt := tget (fun _ => {}) s.fr.align c
def State.setAlignSt (s : State) (c : Nat) (v : AlignSt) : State :=
  { s with fr := { s.fr with align := tset (fun _ => {}) s.fr.align c v } }
def State.labelSt (s : State) (c : Nat) : LabelSt := tget (fun _ => {}) s.fr.label c
def State.setLabelSt (s : State) (c : Nat) (v : LabelSt) : State :=
  { s with fr := { s.fr with label := tset (fun _ => {}) s.fr.label c v } }
def State.defSt (s : State) (c : Nat) : DefSt := tget (fun _ => {}) s.fr.defs c
def State.setDefSt (s : State) (c : Nat) (v : DefSt) : State :=
  { s with fr := { s.fr with defs := tset (fun _ => {}) s.fr.defs c v } }
def State.pmSt (s : State) (c : Nat) : PmSt := tget (fun _ => {}) s.fr.pm c
def State.setPmSt (s : State) (c : Nat) (v : PmSt) : State :=
  { s with fr := { s.fr with pm := tset (fun _ => {}) s.fr.pm c v } }
def State.egSt (s : State) (c : Nat) : EgressSt := tget (fun _ => {}) s.fr.egress c
def State.setEgSt (s : State) (c : Nat) (v : EgressSt) : State :=
  { s with fr := { s.fr with egress := tset (fun _ => {}) s.fr.egress c v } }
def State.calSt (s : State) (c : Nat) : CalSt := tget (fun _ => {}) s.fr.cal c
def State.setCalSt (s : State) (c : Nat) (v : CalSt) : State :=
  { s with fr := { s.fr with cal := tset (fun _ => {}) s.fr.cal c v } }
def State.mapSt (s : State) (c : Nat) : MapSt := tget (fun _ => {}) s.fr.map c
def State.setMapSt (s : State) (c : Nat) (v : MapSt) : State :=
  { s with fr := { s.fr with map := tset (fun _ => {}) s.fr.map c v } }
def State.grp (s : State) (g : Nat) : QsGrp := tget (fun _ => {}) s.qs.grps g
def State.setGrp (s : State) (g : Nat) (v : QsGrp) : State :=
  { s with qs := { s.qs with grps := tset (fun _ => {}) s.qs.grps g v } }

/-- Mark the open bins of a context suspect (R94). -/
def PmSt.suspect (p : PmSt) : PmSt :=
  { p with open15 := p.open15.map fun b => { b with suspect := true }
           open24 := p.open24.map fun b => { b with suspect := true } }

/-- The bins of a list with the one that holds second `sec`, which is opened if it is not there. -/
def openBin (l : List PmBin) (day suspect : Bool) (sec : Nat) (fe : Bool) : List PmBin :=
  let start := sec - sec % (if day then 86400 else 900)
  if l.any fun b => b.start == start then l else l ++ [{ day := day, start := start, fe := fe, suspect := suspect }]

/-- Both bins that hold second `sec` are open. A bin that opens at a second that is not its first, or while the system time
is untraceable, is suspect (R94). -/
def PmSt.openAt (p : PmSt) (trace : Bool) (sec : Nat) (fe : Bool) : PmSt :=
  { p with open15 := openBin p.open15 false (!trace || sec % 900 != 0) sec fe
           open24 := openBin p.open24 true (!trace || sec % 86400 != 0) sec fe }

def State.hostSt (s : State) (h : Nat) : TwigHost := tget (fun _ => {}) s.tw.recv h
def State.setHost (s : State) (h : Nat) (v : TwigHost) : State :=
  { s with tw := { s.tw with recv := tset (fun _ => {}) s.tw.recv h v } }

/-- The FRAMING path entry of a context. -/
def State.path (s : State) (c : Nat) : Option Entry := s.entry FRAMING_ctx c

/-- The MAPPING entry of a context. -/
def State.mapE (s : State) (c : Nat) : Option Entry := mapOf s.img c

/-- The FRAMING group entry of a lane group, or its defaults. -/
def State.frGroup (s : State) (lead : Nat) : Entry := (s.entry FRAMING_lead lead).getD { kind := 1 }

/-- Whether a lane group is in UP; a FlexE group is while every PHY of it is (R68, R83). -/
def State.groupUp (s : State) (lead : Nat) : Bool :=
  if (s.lane lead).n LANES_format = 3 then
    let phys := flexePhys s.img lead
    !phys.isEmpty && phys.all fun m => s.on LN_STATE_bond_up m
  else s.on LN_STATE_bond_up lead

/-- Whether high SER is asserted on a lane of a group (R85). -/
def State.groupHiSer (s : State) (lead : Nat) : Bool :=
  let leads := if (s.lane lead).n LANES_format = 3 then flexePhys s.img lead else [lead]
  leads.any fun m => (bondOf s.img m).any fun n => (tget (fun _ => {}) s.ln.lanes n).serOn

/-! ### Table 3-7 -/

/-- The layers of a defect, one bit per layer code. -/
def defectLayers : Nat → Nat
  | 0 => 0b111111111 | 1 => 0b010101101 | 2 => 0b010101101 | 3 => 0b000101101
  | 4 => 0b000001110 | 5 => 0b000001110 | 6 => 0b000001110 | 7 => 0b000001111
  | 8 => 0b000001111 | 9 => 0b000001110 | 10 => 0b000000010 | 11 => 0b111111111
  | 12 => 0b001010000 | 13 => 0b001010000 | 14 => 0b000100000 | 15 => 0b000100000
  | 16 => 0b000100000 | 17 => 0b010000000 | _ => 0

/-- The defects that put a context in aTSF, TIM apart (R85). -/
def tsfMask : Nat := 0b10_1101_0000_0111_1101

/-- The defects that a present defect suppresses, seen from the suppressed one, by FRM_DEF bits (R83). -/
def suppressedBy (tim : Bool) : Nat → Nat
  | 0 => 0 | 1 => 0b1 | 2 => 0b1 | 3 => 0b111
  | 4 => 0b1101 | 5 => 0b1101 | 6 => 0b1101
  | 7 => 0b1111101 | 8 => 0b1111101 | 9 => 0b1111101 | 10 => 0b1001111101
  | 11 => tsfMask ||| (if tim then 0b100000000 else 0)
  | 12 => 0b1 | 13 => 0b1000000000001
  | 14 => 0b1101 | 15 => 0b1101 | 16 => 0b1101 | 17 => 0b101
  | _ => 0

/-- The near-end defect-second defects, TIM apart (R91). -/
def defectSecondMask : Nat := 0b10_1101_0110_0111_1111

/-- The order in which the defects are decided: a defect after those that suppress it. -/
def defectOrder : List Nat := [0, 1, 2, 3, 4, 5, 6, 7, 8, 9, 10, 12, 13, 14, 15, 16, 17, 11]

/-! ### Labels -/

/-- Whether the accepted TTI disagrees with the expectation (R79). -/
def timMismatch (p : Entry) (acc : Nat) : Bool :=
  let m := p.n FRAMING_tim_mode
  let sapi := acc % 2 ^ 128 != p.n FRAMING_exp_sapi
  let dapi := acc / 2 ^ 128 % 2 ^ 128 != p.n FRAMING_exp_dapi
  match m with
  | 1 => sapi
  | 2 => dapi
  | 3 => sapi || dapi
  | _ => false

/-- The slot indices of an ODUC context whose accepted MSI disagrees with the MAPPING entry that holds the slot, as the
entries in force have it. -/
def State.msimSlots (s : State) (c : Nat) : List Nat :=
  let lab := s.labelSt c
  ((kindOf s.img 4 0).filter fun e => e.n MAPPING_server == c && e.n MAPPING_ctx != c &&
      (e.n MAPPING_kind == 2 || e.n MAPPING_kind == 3 || e.n MAPPING_kind == 7)).flatMap (fun e =>
    ((List.range (if e.n MAPPING_kind = 7 then 1 else e.n MAPPING_count)).map fun i => e.n MAPPING_first + i).filter
      fun t =>
        let l := tget (fun _ => {}) lab.msi t
        l.valid && l.acc != e.n MAPPING_msi_exp)
  |> sortN

/-- The PHY map that LANES gives a FlexE group: bit p for PHY number p. -/
def State.expPhymap (s : State) (lead : Nat) : Nat :=
  ((flexePhys s.img lead).map fun m => 2 ^ (s.lane m).n LANES_flexe_phy).sum

/-- Restart the acceptance of a label and mark its value invalid (R81). -/
def Label.hold (l : Label) : Label := { l with cand := 0, run := 0, valid := false }

/-- The labels of a context are compared with the expectations in force, as its frames do (R78, R82). -/
def State.compareLabels (s : State) (c : Nat) (p e : Entry) : State :=
  let lab := s.labelSt c
  let lead := leadOfCtx s.img e
  let mis := (if timMismatch p lab.tti.acc then 2 ^ 8 else 0) + (if lab.pt.acc ≠ e.n MAPPING_pt_exp then 2 ^ 9 else 0)
    + (if lab.gid.acc ≠ (s.frGroup lead).n FRAMING_flexe_gnum then 2 ^ 14 else 0)
    + (if lab.phymap.acc ≠ s.expPhymap lead then 2 ^ 15 else 0)
    + (if lab.hlm.acc ≠ e.n MAPPING_host_label_exp then 2 ^ 17 else 0)
  s.setLabelSt c { lab with mis := mis, msim := s.msimSlots c }

/-! ### One context -/

/-- The condition of a defect before suppression: live ones from the state, label mismatches from the comparison of the
latest frame (R82), latched ones from their entry conditions. -/
def State.defectCond (s : State) (c d : Nat) : Bool :=
  let st := s.defSt c
  let lab := s.labelSt c
  match d with
  | 0 => st.rssf
  | 1 => !s.on FRM_ALIGN_state c
  | 8 => lab.tti.valid && bit lab.mis 8
  | 9 => lab.pt.valid && bit lab.mis 9
  | 10 => !lab.msim.isEmpty
  | 14 => lab.gid.valid && bit lab.mis 14
  | 15 => lab.phymap.valid && bit lab.mis 15
  | 17 => lab.hlm.valid && bit lab.mis 17
  | d => bit st.lat d

/-- The defects of a monitored context as FRM_DEF bits 17:0 (R83). -/
def State.defectsOf (s : State) (c : Nat) (p : Entry) : Nat :=
  defectOrder.foldl (fun cur d =>
    if bit (defectLayers d) (p.n FRAMING_layer) && cur &&& suppressedBy (p.b FRAMING_tim_act) d == 0
        && s.defectCond c d then cur ||| 2 ^ d else cur) 0

/-- Defects that suppression holds clear lose their latch and their counters (R83), and their labels their validity and
the label period in progress (R81). -/
def State.holdSuppressed (s : State) (c : Nat) (p : Entry) (defs : Nat) : State :=
  let sup := (List.range 18).filter fun d => defs &&& suppressedBy (p.b FRAMING_tim_act) d != 0
  let st := s.defSt c
  let s := s.setDefSt c { st with
    lat := (List.range 18).foldl (fun a d => if sup.contains d || !bit st.lat d then a else a + 2 ^ d) 0
    run := st.run.filter fun r => !sup.contains r.1
    osRun := if sup.contains 12 || (sup.contains 13 && st.osKind == 2) then [] else st.osRun }
  let lab := s.labelSt c
  s.setLabelSt c { lab with
    tti := if sup.contains 8 then lab.tti.hold else lab.tti
    ttiBuf := if sup.contains 8 then [] else lab.ttiBuf
    msim := if sup.contains 10 then [] else lab.msim
    pt := if sup.contains 9 then lab.pt.hold else lab.pt
    msi := if sup.contains 10 then lab.msi.map (fun m => (m.1, m.2.hold)) |>.filter (fun m => m.2 != {}) else lab.msi
    gid := if sup.contains 14 then lab.gid.hold else lab.gid
    phymap := if sup.contains 15 then lab.phymap.hold else lab.phymap
    hlm := if sup.contains 17 then lab.hlm.hold else lab.hlm }

/-- The quadrant source of DEFECT_SET in Table 15-8: MAP_A to MAP_D, or layers 7 and 8. -/
def defectSource (layer quadrant : Nat) : Nat := if layer ≥ 7 then 100 else 96 + quadrant % 4

/-- Report the defects that entered and those that exited, in the row order of Table 3-7 (R84). -/
def State.reportDefects (s : State) (c layer quadrant old new : Nat) : State :=
  forEach (List.range 18) s fun s d =>
    if bit new d && !bit old d then
      ((s.set FRM_DEF_STK_stk (s.get FRM_DEF_STK_stk c ||| 2 ^ d) c).irqSet (defectSource layer quadrant)).report
        kDEFECT_SET [(3, c), (1, d)]
    else if bit old d && !bit new d then s.report kDEFECT_CLEAR [(3, c), (1, d)]
    else s

/-- Write the defect word, the label words and the alignment word that follow from a context's state. -/
def State.showFramer (s : State) (c : Nat) (p e : Entry) (defs : Nat) (forced : Bool) : State :=
  let tsf := defs &&& (tsfMask ||| (if p.b FRAMING_tim_act then 256 else 0)) != 0 || forced
  let layer := p.n FRAMING_layer
  let hi := (layer == 0 || layer == 4 || layer == 5) && s.groupHiSer (leadOfCtx s.img e)
  let lab := s.labelSt c
  let mism := lab.msim
  let s := s.setWord FRM_DEF_ssf c
    (BitVec.ofNat 32 (defs + 2 ^ 18 * b2n tsf + 2 ^ 19 * b2n (!tsf && (bit defs 11 || hi))))
  let s := (s.setB FRM_LABEL_acc_valid lab.pt.valid c).set FRM_LABEL_acc_pt lab.pt.acc c
  let s := s.set FRM_LABEL_exp_pt (e.n MAPPING_pt_exp) c
  let s := (s.set FRM_LABEL_msim_cnt mism.length c).set FRM_LABEL_msim_ts (mism.head?.getD 0xFF) c
  s.setB FRM_TTI_ST_tti_valid lab.tti.valid c

/-- The configured N of a layer's alignment (Table 3-2). -/
def State.alignN (s : State) (e : Entry) : Nat :=
  if e.n MAPPING_kind = 7 then s.gl FRAMING_twig_n else (s.frGroup (leadOfCtx s.img e)).n FRAMING_oof_n

/-- The configured M of a layer's alignment (Table 3-2). -/
def State.alignM (s : State) (e : Entry) : Nat :=
  if e.n MAPPING_kind = 7 then s.gl FRAMING_twig_m else (s.frGroup (leadOfCtx s.img e)).n FRAMING_oof_m

/-- The layers that have an alignment of their own (R70). -/
def ownAlign (layer : Nat) : Bool := layer == 0 || layer == 2 || layer == 3 || layer == 5 || layer == 7

/-- Start a search with N (R71): no candidate open, SEARCH, not in multiframe. -/
def State.startSearch (s : State) (c n : Nat) : State :=
  let s := s.setAlignSt c { n := n, held := false }
  let s := ((s.setB FRM_ALIGN_state false c).setB FRM_ALIGN_im false c).set FRM_ALIGN_cands 0 c
  let s := s.set FRM_ALIGN_n_cur n c
  if ((s.mapE c).map fun e => e.n MAPPING_kind) == some 7 then s.setB MAP_HOST_TERM_term_valid false c else s

/-- Hold a layer in SEARCH while its server has aTSF or its group is not in UP, and start its search afresh when the
condition clears (R74). -/
def State.holdAlign (s : State) (c : Nat) (e : Entry) : State :=
  if !ownAlign (e.n MAPPING_kind) then s
  else
    let bad := !s.groupUp (leadOfCtx s.img e) || (match serverOf s.img e with
      | some sv => s.on FRM_DEF_tsf (sv.n MAPPING_ctx)
      | none => false)
    if bad then
      let s := s.startSearch c (s.alignN e)
      s.setAlignSt c { s.alignSt c with held := true }
    else if (s.alignSt c).held then s.startSearch c (s.alignN e)
    else s

/-- Whether a client receives aSSF from its server (R87), or its lane group is not in UP. -/
def State.receivesSsf (s : State) (e : Entry) : Bool :=
  match serverOf s.img e with
  | none => !s.groupUp (e.n MAPPING_lead)
  | some sv =>
    let c := sv.n MAPPING_ctx
    match s.path c with
    | none => (s.defSt c).rssf
    | some _ =>
      s.on FRM_DEF_tsf c || s.on FRM_DEF_plm c ||
        (s.on FRM_DEF_msim c && (s.labelSt c).msim.any fun t =>
          decide (e.n MAPPING_first ≤ t) && decide (t < e.n MAPPING_first +
            (if e.n MAPPING_kind = 7 then 1 else e.n MAPPING_count)))

/-- Settle one receive context: whether it receives aSSF, its defects, their records, its labels and its alignment. A
quadrant with a FRAMER_FAULT has every context that it frames in aTSF (R253): one without a path entry, which shows no
defect, then passes aSSF as if it received it. -/
def State.settleCtx (s : State) (e : Entry) : State :=
  let c := e.n MAPPING_ctx
  let quadrant := quadrantOf (leadOfCtx s.img e)
  let forced := s.fr.quadFault.contains quadrant && e.n MAPPING_kind < 7
  let s := s.setDefSt c { s.defSt c with rssf := s.receivesSsf e || (forced && (s.path c).isNone) }
  let s := s.holdAlign c e
  match s.path c with
  | none => s
  | some p =>
    let old := (s.reg (0x100000000 + 0x40 * c)).toNat % 2 ^ 18
    let new := s.defectsOf c p
    let s := s.holdSuppressed c p new
    let s := s.showFramer c p e new forced
    let s := s.reportDefects c (p.n FRAMING_layer) quadrant old new
    let mask := defectSecondMask ||| (if p.b FRAMING_tim_act then 256 else 0)
    let pm := s.pmSt c
    if p.n FRAMING_pm = 0 then s
    else s.setPmSt c { pm with
      defSec := pm.defSec || new &&& mask != 0
      bdiSec := pm.bdiSec || bit new 7 }

/-- Note that a receive context has aSSF or aTSF: in the tag interval in progress (Table 9-1, src_fail), and for a twig
host in its round in progress (R244). -/
def State.markFailed (s : State) (e : Entry) : State :=
  let c := e.n MAPPING_ctx
  if !((s.defSt c).rssf || s.on FRM_DEF_tsf c) then s
  else
    let s := if s.tag.failed.contains c then s else { s with tag := { s.tag with failed := c :: s.tag.failed } }
    if e.n MAPPING_kind = 7 then
      s.setHost (e.n MAPPING_host) { s.hostSt (e.n MAPPING_host) with rOut := true }
    else s

/-- The kinds in an order in which a server comes before its clients (Table 4-1). -/
def kindOrder : List Nat := [0, 5, 1, 2, 3, 6, 7, 4, 8]

/-- Settle the defects of every receive context, servers before clients (R87: in the same cycle). -/
def State.settleDefects (s : State) : State :=
  forEach kindOrder s fun s k =>
    forEach ((kindOf s.img 4 0).filter fun e => e.n MAPPING_kind == k && e.n MAPPING_dir == 0) s fun s e =>
      (s.settleCtx e).markFailed e

/-! ### The copies of a merge (R219) -/

/-- Whether a mate source of a group is in signal fail (R182): the mate is lost, or a mate lane that carries one of its
mate slots is not in UP. `slots` are the mate slots that the group's entries read through that side. -/
def State.mateFail (s : State) (lanes : List Nat) : Bool :=
  s.on MATE_ST_lost || lanes.any fun j => s.get LN_STATE_state (128 + j) != 6

def State.evgMerge (s : State) (m : Nat) : EvgMerge := tget (fun _ => {}) s.evg.merges m
def State.setEvgMerge (s : State) (m : Nat) (v : EvgMerge) : State :=
  { s with evg := { s.evg with merges := tset (fun _ => {}) s.evg.merges m v } }

/-- A copy of a merge. -/
def EvgMerge.copy (m : EvgMerge) (b : Bool) : EvgCopy := if b then m.b else m.a
def EvgMerge.setCopy (m : EvgMerge) (b : Bool) (c : EvgCopy) : EvgMerge := if b then { m with b := c } else { m with a := c }

/-- The mate entry of a flat slot. -/
def State.mateEntry (s : State) (slot : Nat) : Option Entry := s.entry FABRIC_PAGE_mate_slot slot

/-- The slots or twigs of the carrier of a tributary of `n` (Table 8-1). -/
def carrierSize (n : Nat) : Nat := ceilDiv (65 * n) 64

/-- Whether a copy's signal is absent: its context has aTSF (Table 8-4), or for a copy on mate slots the mate or a lane that
carries one of its slots is down (R231). -/
def State.copyDown (s : State) (e : Entry) (b : Bool) : Bool :=
  let c := e.n (if b then EVERGREEN_m_copy_b else EVERGREEN_m_copy_a)
  if e.b (if b then EVERGREEN_m_mate_b else EVERGREEN_m_mate_a) then
    let slots := (List.range (carrierSize (e.n EVERGREEN_m_size))).map (c + ·)
    s.mateFail (dedup (slots.filterMap fun x => (s.mateEntry x).map fun m => m.n FABRIC_PAGE_mate_lane))
  else s.on FRM_DEF_tsf c

/-- The state of a copy (Table 8-4). Once the merge is anchored, a copy without an offset has not yet shown a frame in
time, and counts as LATE. -/
def State.copyState (s : State) (e : Entry) (m : EvgMerge) (b : Bool) : Nat :=
  let c := m.copy b
  if s.copyDown e b || !c.inFrame then 0
  else if c.wrong then 1
  else match c.off with
    | some o => if o < 0 then 2 else 3
    | none => if m.anchored then 2 else 3

/-- How many of the frames held lie in a part of the queue: 0 tail, 1 middle, 2 head (R225). -/
def inPart (p : Nat) (l : List EvgHeld) : Nat := (l.filter fun h => h.part == p).length

/-- Show a merge in its registers; a change of mstate raises its event source. -/
def State.showMerge (s : State) (e : Entry) : State :=
  let i := e.n EVERGREEN_merge
  let m := s.evgMerge i
  let a := s.copyState e m false
  let b := s.copyState e m true
  let st := if !m.anchored then 0 else if a = 3 ∧ b = 3 then 1 else if a = 3 ∨ b = 3 then 2 else 3
  let old := s.get EVG_M_ST_mstate i
  let s := ((s.set EVG_M_ST_mstate st i).set EVG_M_ST_state_a a i).set EVG_M_ST_state_b b i
  let s := (s.setB EVG_M_OFF_A_valid m.a.off.isSome i).set EVG_M_OFF_A_off (unsignedOf 26 (m.a.off.getD 0)) i
  let s := (s.setB EVG_M_OFF_B_valid m.b.off.isSome i).set EVG_M_OFF_B_off (unsignedOf 26 (m.b.off.getD 0)) i
  let s := ((s.set EVG_M_QFILL_head (inPart 2 m.held) i).set EVG_M_QFILL_tail (inPart 0 m.held) i).set
    EVG_M_QFILL_middle (inPart 1 m.held) i
  if st = old then s else s.irqSet 256

/-- A copy as the state of its signal leaves it: the alignment of an absent one starts again, and a stay in LATE that has
ended forgets its EVG_DMAX record (R223). -/
def State.settleCopy (s : State) (e : Entry) (b : Bool) (m : EvgMerge) : EvgMerge :=
  let c := m.copy b
  let c := if s.copyDown e b then { c with align := {}, inFrame := false, outRun := 0 } else c
  let c := if s.copyState e m b == 2 then c else { c with dmax := false }
  m.setCopy b c

/-- Settle a merge: its copies, and its registers. -/
def State.settleMerge (s : State) (e : Entry) : State :=
  let i := e.n EVERGREEN_merge
  (s.setEvgMerge i (s.settleCopy e true (s.settleCopy e false (s.evgMerge i)))).showMerge e

/-- Settle every merge in force. -/
def State.showMerges (s : State) : State := forEach (s.entries EVERGREEN_merge) s State.settleMerge

/-! ### Triggers and requests (R183 to R186) -/

/-- The command code that the FORCE_N pins hold on a group: 11 LO, 9 FS, 0 none (R187). -/
def State.pinCode (s : State) (g : Nat) : Nat :=
  (List.range 4).foldl (fun a k =>
    if bit (s.get QS_FORCE_level) k && decide (s.gl PROTECTION_force_first k ≤ g)
        && decide (g ≤ s.gl PROTECTION_force_last k) then
      max a (match s.gl PROTECTION_force_cmd k with | 1 => 11 | 2 => 9 | _ => 0)
    else a) 0

/-- The request code of a held mailbox command (QS_GRP_TRIG.mbx_cmd). -/
def mbxCode : Nat → Nat
  | 1 => 11 | 2 => 9 | 3 => 4 | 4 => 5 | _ => 0

/-- The selector position that a request calls for: true for P (Table 7-3). RR follows the far-end request. -/
def selOf (req fe : Nat) : Bool :=
  let p := fun c => c == 9 || c == 8 || c == 6 || c == 5 || c == 3 || c == 1
  if req = 2 then p fe else p req

/-- The Table 7-3 code of an APS request/state code with its requested signal (Table 7-5); none if not listed. -/
def apsCode (req sig : Nat) : Option Nat :=
  match req with
  | 0b1111 => some 11 | 0b1110 => some 10 | 0b1101 => some 9 | 0b1011 => some 8
  | 0b1001 => some (if sig = 0 then 7 else 6)
  | 0b0111 => some (if sig = 0 then 4 else 5)
  | 0b0101 => some 3 | 0b0010 => some 2 | 0b0001 => some 1 | 0b0000 => some 0
  | 0b0100 => some 0
  | _ => none

/-- The APS request/state code of a request (Table 7-5). -/
def apsOf : Nat → Nat
  | 11 => 0b1111 | 10 => 0b1110 | 9 => 0b1101 | 8 => 0b1011 | 7 => 0b1001 | 6 => 0b1001
  | 5 => 0b0111 | 4 => 0b0111 | 3 => 0b0101 | 2 => 0b0010 | 1 => 0b0001 | _ => 0

/-- The far-end request a group acts on (R194 to R196): of a bidirectional group with APS, unless FOP_PM is present or
the protecting trigger context has aTSF. -/
def State.farEnd (s : State) (e : Entry) : Nat :=
  let g := e.n PROTECTION_grp
  if !e.b PROTECTION_aps || s.on QS_GRP_ST_fop_pm g || s.on FRM_DEF_tsf (e.n PROTECTION_p_ctx) then 0
  else s.get QS_GRP_ST_fe_req g

/-- The priority of a request code: MS-W and MS-P have equal priority (R185). -/
def prio (c : Nat) : Nat := if c = 4 then 5 else c

/-- The request code of a group's WTR or DNR state. -/
def holdCode : Nat → Nat
  | 1 => 3 | 2 => 1 | _ => 0

/-- The local request of highest priority of a group, apart from its WTR or DNR state: its declared triggers, the command
of the FORCE_N pins and that of the mailbox (R185). -/
def State.localRequest (s : State) (e : Entry) : Nat :=
  let g := e.n PROTECTION_grp
  let d := (s.grp g).decl
  let trig := (if bit d 1 then [10] else []) ++ (if bit d 0 then [8] else []) ++
    (if bit d 3 then [7] else []) ++ (if bit d 2 then [6] else [])
  (trig ++ [s.pinCode g, mbxCode (s.get QS_GRP_TRIG_mbx_cmd g)]).foldl max 0

/-- The far-end request that a group takes as its own: a bidirectional group alone does (R195). -/
def State.farRequest (s : State) (e : Entry) : Nat := if e.b PROTECTION_bidir then s.farEnd e else 0

/-- Whether a far-end request prevails over the request held: where it has the higher priority, and of two manual switches
where it is the newer (R185). A far-end RR answers a request of this end and is none of its own (log entry 204). -/
def farWins (held fe : Nat) (newer : Bool) : Bool :=
  fe != 2 && (decide (prio held < prio fe) || (newer && prio held == 5 && prio fe == 5))

/-- The request in force of a group with a WTR or DNR state `hold`, and whether it is the far end's. -/
def State.topRequest (s : State) (e : Entry) (hold : Nat) : Nat × Bool :=
  let held := max (s.localRequest e) (holdCode hold)
  let fe := s.farRequest e
  if farWins held fe (s.grp (e.n PROTECTION_grp)).msFar then (fe, true) else (held, false)

/-- The APS bytes that a group sends (R193, Table 7-5). -/
def State.apsSent (s : State) (e : Entry) : List Nat :=
  let g := e.n PROTECTION_grp
  let req := s.get QS_GRP_ST_req g
  let sig := if req = 2 then ((s.grp g).apsAcc.map fun a => a.2.1).getD 0 else b2n (selOf req 0)
  let b1 := apsOf req * 16 + 8 + 4 * b2n (e.b PROTECTION_type) + 2 * b2n (e.b PROTECTION_bidir)
    + b2n (e.b PROTECTION_revert)
  [b1, sig, if e.b PROTECTION_type then b2n (s.on QS_GRP_ST_bridge g) else sig, 0]

/-- Show whether a group has a failure of protocol, with an APS_FAIL record at each entry and exit. -/
def State.setFop (s : State) (g : Nat) (pm on : Bool) : State :=
  let f := if pm then QS_GRP_ST_fop_pm else QS_GRP_ST_fop_nr
  if s.on f g == on then s
  else (s.setB f on g).report kAPS_FAIL [(2, g), (1, b2n pm), (1, b2n on)]

/-- Whether the accepted bridged signal differs from the requested signal that the group sends (R196). -/
def State.bridgeDiffers (s : State) (e : Entry) : Bool :=
  (match (s.grp (e.n PROTECTION_grp)).apsAcc with | some a => a.2.2 | none => 0) != (s.apsSent e).getD 1 0

/-- FOP_NR ends once the accepted bridged signal agrees with the requested signal sent (R196). -/
def State.endFopNr (s : State) (e : Entry) : State :=
  if s.bridgeDiffers e then s else s.setFop (e.n PROTECTION_grp) false false

/-- Evaluate the request of a group after a change (R185, R186, R195). A request of code 6 or above that has cleared with
the selector on P leaves WTR or DNR, while no other of code 4 or above is held; such a request stops the WTR timer, and a
DNR state ends where a request moves the selector. -/
def State.evalGroup (s : State) (e : Entry) : State :=
  let g := e.n PROTECTION_grp
  let q := s.grp g
  let req0 := s.get QS_GRP_ST_req g
  let busy := decide (4 ≤ s.localRequest e) || decide (4 ≤ s.farRequest e)
  let cleared := !busy && q.hold == 0 && decide (6 ≤ req0) && s.on QS_GRP_ST_sel g
  let hold := if cleared then (if e.b PROTECTION_revert then 1 else 2) else q.hold
  let (top, far) := s.topRequest e hold
  let req := if far then 2 else top
  let hold := if busy && hold == 2 && !selOf req top then 0 else hold
  let s := s.setGrp g { q with hold := hold, dropped := q.dropped && req0 == req }
  let s :=
    if busy then (s.setB QS_GRP_ST_wtr false g).set QS_GRP_ST_wtr_left 0 g
    else if hold = 1 ∧ !s.on QS_GRP_ST_wtr g then
      (s.setB QS_GRP_ST_wtr true g).set QS_GRP_ST_wtr_left (e.n PROTECTION_wtr) g
    else s
  (s.set QS_GRP_ST_req req g).endFopNr e

/-- The input slots that a group's protected read entries take through one side: its working or its protecting source. -/
def sideSlots (l : List Section) (g : Nat) (alt : Bool) : List Nat :=
  let wr := kindOf l 5 2
  ((kindOf l 5 3).filter fun r => r.b FABRIC_PAGE_prot && r.n FABRIC_PAGE_qs_group == g).filterMap fun r =>
    (wr.find? fun w => w.n FABRIC_PAGE_wr_slice == r.n FABRIC_PAGE_rd_slice &&
      w.n FABRIC_PAGE_wr_cycle == (if alt then r.n FABRIC_PAGE_alt_wc else r.n FABRIC_PAGE_src_wc)).map
        fun w => w.n FABRIC_PAGE_wr_slot

/-- The mate lanes that carry the mate slots a group's read entries take through one side (R182). -/
def mateLanesOf (l : List Section) (g : Nat) (alt : Bool) : List Nat :=
  dedup ((sideSlots l g alt).filterMap fun x =>
    (entryBy l FABRIC_PAGE_mate_slot x).map fun m => m.n FABRIC_PAGE_mate_lane)

/-- The triggers of a group that are present: SF-W, SF-P, SD-W, SD-P in bits 0 to 3, and their QS_GRP_TRIG bits 7:0. A
declaration counts toward the side whose source its output read when it was made (R242), a twig circuit's toward the side
that names the circuit (R245); QS_GRP_TRIG.sd_w and sd_p show aTSD itself, whether or not FRAMING.sd_trig makes it a
trigger (log entry 205). -/
def State.triggersOf (s : State) (e : Entry) : Nat × Nat :=
  let g := e.n PROTECTION_grp
  let it := e.b PROTECTION_int_trig
  let side := fun (cf mf : ImgFld) (alt : Bool) =>
    let c := e.n cf
    let mate := e.b mf
    let ctx := !mate && c < 262144
    let sf := ctx && s.on FRM_DEF_tsf c
    let sd := ctx && s.on FRM_DEF_tsd c
    let sdT := sd && (match s.path c with | some p => p.b FRAMING_sd_trig | none => false)
    let int := it && s.qs.faults.any fun d =>
      if d.twig then ctx && d.ctx == c
      else match d.src with | some x => (sideSlots s.img g alt).contains x | none => false
    let mf := mate && s.mateFail (mateLanesOf s.img g alt)
    (sf, sd, sdT, int, mf)
  let w := side PROTECTION_w_ctx PROTECTION_w_mate false
  let p := side PROTECTION_p_ctx PROTECTION_p_mate true
  (ofBits [w.1 || w.2.2.2.1 || w.2.2.2.2, p.1 || p.2.2.2.1 || p.2.2.2.2, w.2.2.1, p.2.2.1],
   ofBits [w.1, w.2.1, p.1, p.2.1, w.2.2.2.1, p.2.2.2.1, w.2.2.2.2, p.2.2.2.2])

/-- Take the triggers of a group as they now are (R184): a trigger with hold-off 0 is declared at once, another enters
hold-off, a trigger that clears before its declaration is discarded. -/
def State.settleGroup (s : State) (e : Entry) : State :=
  let g := e.n PROTECTION_grp
  let (t, shown) := s.triggersOf e
  let q := s.grp g
  let s := s.setWord QS_GRP_TRIG_sf_w g
    (withBits (withBits (s.reg (0x6004 + 0x10 * g)) 7 0 shown) 11 11 (b2n (s.pinCode g != 0)))
  let aborted := (List.range 4).filter fun i => bit q.hoRun i && !bit t i
  let s := s.inc QS_GRP_CNT_holdoff_abort g aborted.length
  let fresh := (List.range 4).filter fun i => bit t i && !bit q.decl i && !bit q.hoRun i
  let now := e.n PROTECTION_holdoff = 0
  let m := fun (f : Nat → Bool) => ofBits ((List.range 4).map f)
  let q := { q with
    decl := m fun i => bit t i && (bit q.decl i || (now && fresh.contains i))
    hoRun := m fun i => bit t i && (bit q.hoRun i || (!now && fresh.contains i))
    due := m fun i => bit t i && bit q.due i }
  let s := s.setGrp g q
  let s := s.setB QS_GRP_ST_holdoff (q.hoRun != 0) g
  s.evalGroup e

/-- Settle the triggers and requests of every group, in rising group number. -/
def State.settleGroups (s : State) : State :=
  forEach (s.entries PROTECTION_grp) s State.settleGroup

/-- What follows in the same CLK_MAP cycle from a change (R84 to R87, R184). -/
def State.settle (s : State) : State := s.settleDefects.showMerges.settleGroups

end Sys2Proof.Machine
end

