-- ==== Sys2Proof/Machine/Fabric.lean ====
section
/-!
DEFINITION. Sys2Proof/Machine/Fabric.lean: the slot fabric (R126 to R137), steering and slice faults (R144 to R148) and
coppice rotation (R149, R150).
-/
namespace Sys2Proof.Machine

/-! ### Slot blocks (Table 5-1) -/

def Blk.fail (b : Blk) : Bool := bit b.side 79
def Blk.tvalid (b : Blk) : Bool := bit b.side 78
def Blk.ueq (b : Blk) : Bool := bit b.side 77
def Blk.mapper (b : Blk) : Nat := b.side / 2 ^ 80 % 2 ^ 48
def Blk.tag (b : Blk) : Nat := b.side % 2 ^ 64

/-- A block from its parts; the tag is 0 without tvalid. -/
def mkBlk (body mapper : Nat) (fail ueq : Bool) (tag : Option Nat) : Blk :=
  ⟨body % 2 ^ 512, mapper % 2 ^ 48 * 2 ^ 80 + 2 ^ 79 * b2n fail + 2 ^ 78 * b2n tag.isSome + 2 ^ 77 * b2n ueq
    + (tag.getD 0) % 2 ^ 64⟩

/-- The all-zero block with the fail marker (R129). -/
def failBlk : Blk := mkBlk 0 0 true false none

/-- The all-zero block with ueq (R130). -/
def ueqBlk : Blk := mkBlk 0 0 false true none

/-- A block with its fail marker set. -/
def Blk.failed (b : Blk) : Blk := if b.fail then b else ⟨b.body, b.side + 2 ^ 79⟩

/-- The bytes that the tag CRC covers: body bytes 0 to 63, then the mapper field, high byte first (R237). -/
def Blk.crcBytes (b : Blk) : List Byte := leBytes 64 b.body ++ beBytes 6 b.mapper

/-! ### Schedules -/

/-- The number of the active fabric page. -/
def State.page (s : State) : Nat := s.get FAB_PAGE_active

/-- The write pair of an entry as one number: 128 × logical slice + cycle. -/
def pairOf (slice cycle : Nat) : Nat := 128 * slice + cycle

/-- The write entries of the page in force: write pair and input slot. -/
def writesOf (l : List Section) : List (Nat × Nat) :=
  (kindOf l 5 2).map fun e => (pairOf (e.n FABRIC_PAGE_wr_slice) (e.n FABRIC_PAGE_wr_cycle), e.n FABRIC_PAGE_wr_slot)

/-- The input slot written in a pair. -/
def slotAt (w : List (Nat × Nat)) (pair : Nat) : Option Nat := (w.find? fun x => x.1 == pair).map (·.2)

/-- Whether PROTECTION defines a group. -/
def State.groupDefined (s : State) (g : Nat) : Bool := (s.entry PROTECTION_grp g).isSome

/-- Whether an entry with prot = 1 reads its alternative source (R135). -/
def State.onAlt (s : State) (prot : Bool) (g : Nat) : Bool := prot && s.groupDefined g && s.on QS_GRP_ST_sel g

/-- The source of a read entry as (write cycle, lag) under the selector in force (R135). -/
def State.sourceOf (s : State) (r : Entry) : Nat × Nat :=
  if s.onAlt (r.b FABRIC_PAGE_prot) (r.n FABRIC_PAGE_qs_group) then (r.n FABRIC_PAGE_alt_wc, r.n FABRIC_PAGE_alt_lag)
  else (r.n FABRIC_PAGE_src_wc, r.n FABRIC_PAGE_lag)

/-- The read entry that names an output slot. -/
def State.readOf (s : State) (out : Nat) : Option Entry :=
  (s.entries FABRIC_PAGE_out).find? fun r => r.n FABRIC_PAGE_out == out

/-- Whether an output is a bridge output whose bridge is on W (R181). -/
def State.bridgeOff (s : State) (r : Entry) : Bool :=
  !r.b FABRIC_PAGE_prot &&
    ((s.entries PROTECTION_br_out).any fun b => b.n PROTECTION_br_out == r.n FABRIC_PAGE_out &&
      b.n PROTECTION_br_grp == r.n FABRIC_PAGE_qs_group) &&
    s.groupDefined (r.n FABRIC_PAGE_qs_group) && !s.on QS_GRP_ST_bridge (r.n FABRIC_PAGE_qs_group)

/-- The size of the tributary of an ODU wrap. -/
def wrapSize (l : List Section) (w : Entry) : Nat :=
  match mapOf l (w.n EVERGREEN_w_src) with
  | some e => if w.n EVERGREEN_w_grain = 1 then e.n MAPPING_twig_n else e.n MAPPING_count
  | none => 0

/-- The ODU wrap or merge that writes an engine slot, with its source context of R238 and the member number. -/
def engineOf (l : List Section) (slot : Nat) : Option (Entry × Nat × Nat) :=
  match (kindOf l 8 1).find? fun w => w.n EVERGREEN_w_grain == 0 && decide (w.n EVERGREEN_w_first ≤ slot) &&
      decide (slot < w.n EVERGREEN_w_first + carrierSize (wrapSize l w)) with
  | some w => some (w, w.n EVERGREEN_w_src, slot - w.n EVERGREEN_w_first)
  | none => ((kindOf l 8 2).find? fun m => m.n EVERGREEN_m_grain == 0 && decide (m.n EVERGREEN_m_out_first ≤ slot) &&
      decide (slot < m.n EVERGREEN_m_out_first + m.n EVERGREEN_m_size)).map fun m =>
        (m, m.n EVERGREEN_m_copy_a, slot - m.n EVERGREEN_m_out_first)

/-- The twig-grain wrap or merge that sends an output twig (R212), with the number of the twig among those it sends there. -/
def evgTwigOf (l : List Section) (h t : Nat) : Option (Entry × Nat) :=
  let at_ := fun (e : Entry) (fh ft : ImgFld) (n : Nat) =>
    if e.n fh = h ∧ e.n ft ≤ t ∧ t < e.n ft + n then some (e, t - e.n ft) else none
  ((kindOf l 8 1).findSome? fun e =>
    if e.n EVERGREEN_w_grain = 1 then
      let n := carrierSize (wrapSize l e)
      (at_ e EVERGREEN_w_host_a EVERGREEN_w_twig_a n).or (at_ e EVERGREEN_w_host_b EVERGREEN_w_twig_b n)
    else none).or
  ((kindOf l 8 2).findSome? fun e =>
    if e.n EVERGREEN_m_grain = 1 then at_ e EVERGREEN_m_out_host EVERGREEN_m_out_twig (e.n EVERGREEN_m_size) else none)

/-- The contexts that an EVERGREEN entry names: the source of a wrap, the copies of a merge that are not mate slots. -/
def evgContexts (e : Entry) : List Nat :=
  if e.kind = 1 then [e.n EVERGREEN_w_src]
  else (if e.b EVERGREEN_m_mate_a then [] else [e.n EVERGREEN_m_copy_a]) ++
    (if e.b EVERGREEN_m_mate_b then [] else [e.n EVERGREEN_m_copy_b])

/-- The expected context ID of the tags of an input slot (R238); none where the ID is not checked. -/
def State.tagCtxOf (s : State) (slot : Nat) : Option Nat :=
  match ownerOf s.img 0 slot with
  | some (e, _) => some (e.n MAPPING_ctx)
  | none => match engineOf s.img slot with
    | some x => some x.2.1
    | none => (s.entry INTEGRITY_mx_slot slot).map fun e => e.n INTEGRITY_mx_ctx

/-! ### Steering (R144 to R148) -/

/-- The field of FAB_STEER that shows the physical slice of a logical slice. -/
def steerFld (ls : Nat) : Fld :=
  match ls % 4 with
  | 0 => FAB_STEER_phys0 | 1 => FAB_STEER_phys1 | 2 => FAB_STEER_phys2 | _ => FAB_STEER_phys3

/-- The physical slice that serves a logical slice. -/
def State.physOf (s : State) (ls : Nat) : Nat := s.get (steerFld ls) (ls / 4)

/-- Steer a logical slice onto a physical slice. -/
def State.steer (s : State) (ls ph : Nat) : State := (s.set (steerFld ls) ph (ls / 4)).set FAB_SLICE_ST_logical ls ph

/-- The location of a write cycle and grid period in a physical slice. -/
def locKey (ph wc g : Nat) : Nat := (ph * 128 + wc) * 32 + g % 32

/-- Mark every location of a physical slice unwritten. -/
def State.wipeSlice (s : State) (ph : Nat) : State :=
  { s with fab := { s.fab with locs := s.fab.locs.filter fun p => p.1 / 4096 != ph } }

/-- The physical slice that is SPARE or SHADOW; 31 none. -/
def State.spare (s : State) : Nat := s.get FAB_COPPICE_spare

/-- Rotation stops while no physical slice is SPARE (R148). -/
def State.haltCoppice (s : State) : State :=
  (((s.set FAB_COPPICE_state 2).set FAB_COPPICE_spare 31).set FAB_COPPICE_shadow 31).setB FAB_COPPICE_deferred false

/-- A slice becomes FAILED, with its SLICE_FAIL record: the slice, cause, logical slice it served and the count. -/
def State.sliceFail (s : State) (ph cause count : Nat) : State :=
  let ls := s.get FAB_SLICE_ST_logical ph
  let s := ((s.set FAB_SLICE_ST_state 3 ph).set FAB_SLICE_ST_cause cause ph).set FAB_SLICE_ST_logical 31 ph
  s.report kSLICE_FAIL [(1, ph), (1, cause), (1, ls), (2, count)]

/-- A FABRIC_DEGRADED record, once for a slice between two resets of PD_FAB (R147). -/
def State.degraded (s : State) (ph : Nat) : State :=
  if s.fab.degr.contains ph then s
  else ({ s with fab := { s.fab with degr := s.fab.degr ++ [ph] } } : State).report kFABRIC_DEGRADED [(1, ph)]

/-- The overlap in progress is abandoned; the SHADOW becomes SPARE with every location unwritten. -/
def State.abandonOverlap (s : State) : State :=
  let p := s.spare
  let s := ((s.set FAB_COPPICE_state 0).set FAB_COPPICE_shadow 31)
  ((s.set FAB_SLICE_ST_state 1 p).set FAB_SLICE_ST_logical 31 p).wipeSlice p

/-- A failed working slice's logical slice moves onto the spare (R146). -/
def State.steerToSpare (s : State) (ph cause count : Nat) : State :=
  let p := s.spare
  let ls := s.get FAB_SLICE_ST_logical ph
  let s := s.sliceFail ph cause count
  let s := (s.wipeSlice p).steer ls p
  (s.set FAB_SLICE_ST_state 0 p).haltCoppice

/-- One faulty slice at a boundary, by Table 5-6. -/
def State.sliceFault (s : State) (ph cause count : Nat) : State :=
  let overlap := s.get FAB_COPPICE_state == 1
  let st := s.get FAB_SLICE_ST_state ph
  if st = 3 then s
  else if st = 2 then
    (s.abandonOverlap.sliceFail ph cause count).haltCoppice
  else if st = 1 then (s.sliceFail ph cause count).haltCoppice
  else if s.spare = 31 then s.degraded ph
  else if overlap && s.get FAB_SLICE_ST_logical ph == s.get FAB_COPPICE_shadow then
    let p := s.spare
    let ls := s.get FAB_SLICE_ST_logical ph
    let s := s.sliceFail ph cause count
    ((s.steer ls p).set FAB_SLICE_ST_state 0 p).haltCoppice
  else if overlap then s.abandonOverlap.steerToSpare ph cause count
  else s.steerToSpare ph cause count

/-- The slice with the highest count, the lowest number among equals. -/
def worstSlice : List (Nat × Nat) → Option (Nat × Nat)
  | [] => none
  | x :: t => match worstSlice t with
    | some y => if x.2 < y.2 then some y else some x
    | none => some x

/-- The slices whose block-check failures of the grid multiframe just ended reached slice_thr (R146, R147). One is
replaced; the others stay WORKING. A threshold swapped in at this boundary applies from the next grid multiframe (R153). -/
def State.sliceFaults (s : State) : State :=
  let thr := s.fab.thr.getD (s.gl FABRIC_PAGE_slice_thr)
  let bad := s.fab.gmfErr.filter fun p => decide (thr ≤ p.2) && s.get FAB_SLICE_ST_state p.1 != 3
  let s := { s with fab := { s.fab with gmfErr := [], thr := none } }
  match worstSlice bad with
  | none => s
  | some w =>
    let s := s.sliceFault w.1 1 w.2
    forEach (bad.filter fun p => p.1 != w.1) s fun s p => s.degraded p.1

/-! ### Coppice rotation (R149, R150) -/

/-- The next spare: the first physical slice after `p` that is not FAILED. -/
def State.nextSpare (s : State) (p : Nat) : Nat :=
  (((List.range 20).map fun i => (p + 1 + i) % 21).find? fun q => s.get FAB_SLICE_ST_state q != 3).getD p

/-- The wait to the next rotation starts. -/
def State.restartCoppice (s : State) : State :=
  let s := { s with fab := { s.fab with due := false, minTick := 0 } }
  s.set FAB_COPPICE_next_min (s.gl FABRIC_PAGE_coppice_min)

/-- Clean rotation of a slice: count and time of the test. -/
def State.cleanSlice (s : State) (ph : Nat) : State :=
  (s.incW FAB_SLICE_ST_rot_ok ph).set FAB_SLICE_TEST_last_pass (s.get TMC_SEC_LO_sec_lo) ph

/-- The mismatches of an overlap that ends: `last` shows them, and each blamed slice's mis counts the overlap once, as R150
says (DESIGN CHOICE for more than one mismatch, log entry 196), with one COPPICE_MISMATCH record. -/
def State.noteMismatch (s : State) : State :=
  let p := s.spare
  let ls := s.get FAB_COPPICE_shadow
  let q := s.physOf ls
  let f := s.fab
  let n := f.misQ + f.misP + f.misN
  let s := s.set FAB_COPPICE_MIS_last (satN 16 n)
  if n = 0 then s
  else
    let s := if f.misQ ≠ 0 then s.inc FAB_SLICE_ERR_mis q else s
    let s := if f.misP ≠ 0 ∨ f.misN ≠ 0 then s.inc FAB_SLICE_ERR_mis p else s
    s.report kCOPPICE_MISMATCH [(1, p), (1, q), (1, ls), (2, satN 16 n)]

/-- The overlap ends and no fault of this boundary has ended it (R149 step 3, Table 5-7). -/
def State.endOverlap (s : State) : State :=
  let p := s.spare
  let ls := s.get FAB_COPPICE_shadow
  let q := s.physOf ls
  let f := s.fab
  let n := f.misQ + f.misP + f.misN
  let s := (s.set FAB_COPPICE_state 0).set FAB_COPPICE_shadow 31
  let s := s.restartCoppice
  if n = 0 then
    let s := (s.steer ls p).set FAB_SLICE_ST_state 0 p
    let s := ((s.set FAB_SLICE_ST_state 1 q).set FAB_SLICE_ST_logical 31 q).wipeSlice q
    let s := (s.set FAB_COPPICE_spare q).incW FAB_COPPICE_CNT_done
    let s := (s.cleanSlice p).cleanSlice q
    let s := { s with fab := { s.fab with blameP := none } }
    s.report kCOPPICE_DONE [(1, p), (1, q), (1, ls)]
  else
    let s := ((s.set FAB_SLICE_ST_state 1 p).set FAB_SLICE_ST_logical 31 p).wipeSlice p
    if f.misP ≠ 0 then (s.sliceFail p 3 n).haltCoppice
    else if f.misN ≠ 0 then
      if f.blameP = some p then (s.sliceFail p 3 n).haltCoppice
      else ({ s with fab := { s.fab with blameP := some p } } : State).setB FAB_SLICE_ST_suspect true p
    else { s with fab := { s.fab with blameP := none } }

/-- A rotation that is due starts, unless a page swap defers it by one grid multiframe (R26, R149 step 1). A rotation that
was deferred starts at the next boundary even where another swap falls on it, since R26 defers by one grid multiframe
(DEDUCED, log entry 198). -/
def State.startRotation (s : State) (swapped : Bool) : State :=
  if !s.fab.due || s.get FAB_COPPICE_state != 0 then s
  else if swapped && !s.on FAB_COPPICE_deferred then s.setB FAB_COPPICE_deferred true
  else
    let p := s.spare
    let q := s.nextSpare p
    let ls := s.get FAB_SLICE_ST_logical q
    let s := ((s.setB FAB_COPPICE_deferred false).set FAB_COPPICE_state 1).set FAB_COPPICE_shadow ls
    let s := ((s.wipeSlice p).set FAB_SLICE_ST_state 2 p).set FAB_SLICE_ST_logical ls p
    { s with fab := { s.fab with due := false, misQ := 0, misP := 0, misN := 0 } }

/-- Row 3 of Table 1-4: the mismatches of an overlap that ends are blamed (R150) and the slice faults handled (R146, R147);
then the cut-over that closes the overlap, and the start of a due rotation. -/
def State.coppiceRow (s : State) (swapped : Bool) : State :=
  if !s.fab.on then s
  else
    let overlap := s.get FAB_COPPICE_state == 1
    let s := if overlap then s.noteMismatch else s
    let s := s.sliceFaults
    let s := if overlap && s.get FAB_COPPICE_state == 1 then s.endOverlap else s
    s.startRotation swapped

/-- COPPICE_DUE: FABRIC_PAGE.coppice_min minutes have passed since the last cut-over. The rotation starts at the next
grid multiframe boundary. -/
def effCoppiceDue (s : State) : State :=
  if s.get FAB_COPPICE_state = 0 ∧ s.fab.on then
    ({ s with fab := { s.fab with due := true } } : State).set FAB_COPPICE_next_min 0
  else s
def execCoppiceDue (s : State) : Host.Outcome State Fault Refusal := .next (effCoppiceDue s.newCycle)

/-- SPARE_SELF_TEST_PASS (R145): a background pass of the SPARE slice ends, clean or failed. -/
def effSpareSelfTestPass (clean : Bool) (s : State) : State :=
  let p := s.spare
  if s.get FAB_COPPICE_state ≠ 0 ∨ 21 ≤ p then s
  else if clean then
    ({ s with fab := { s.fab with testBad := s.fab.testBad.filter (· != p) } } : State).set
      FAB_SLICE_TEST_last_pass (s.get TMC_SEC_LO_sec_lo) p
  else
    let again := s.fab.testBad.contains p
    let s := s.setB FAB_SLICE_ST_suspect true p
    if again then
      (({ s with fab := { s.fab with testBad := s.fab.testBad.filter (· != p) } } : State).sliceFail p 2 2).haltCoppice
    else { s with fab := { s.fab with testBad := s.fab.testBad ++ [p] } }
def execSpareSelfTestPass (clean : Bool) (s : State) : Host.Outcome State Fault Refusal :=
  .next (effSpareSelfTestPass clean s.newCycle)

/-- The fabric leaves reset (R148): slices in `bad` fail the self-test; the steering is built, or the fabric stays
disabled. Where it stays disabled, the other slices keep their state, FAB_STEER stays as it is and logical reads 0x1F
everywhere (DESIGN CHOICE, log entry 197). -/
def State.fabricTest (s : State) (bad : List Nat) : State :=
  let fails := (dedup bad).filter fun ph => decide (ph < 21) && s.get FAB_SLICE_ST_state ph != 3
  let s := forEach fails s fun s ph => s.sliceFail ph 2 1
  let good := (List.range 21).filter fun ph => s.get FAB_SLICE_ST_state ph != 3
  let s := forEach (List.range 21) s fun s ph => s.set FAB_SLICE_ST_logical 31 ph
  if good.length < 20 then
    let s := s.haltCoppice
    ({ s with fab := { s.fab with on := false, locs := [] } } : State).report kFABRIC_FAIL [(1, 21 - good.length)]
  else
    let s := forEach ((good.take 20).zip (List.range 20)) s fun s x => (s.steer x.2 x.1).set FAB_SLICE_ST_state 0 x.1
    let s := match good[20]? with
      | some q => (((s.set FAB_SLICE_ST_state 1 q).set FAB_COPPICE_spare q).set FAB_COPPICE_state 0).set FAB_COPPICE_shadow 31
      | none => s.haltCoppice
    ({ s with fab := { s.fab with on := true, locs := [], testBad := [], degr := [], blameP := none } } : State).restartCoppice

/-- FABRIC_RESET_SELF_TEST: PD_FAB leaves reset. -/
def effFabricResetSelfTest (bad : List Nat) (s : State) : State := s.fabricTest bad
def execFabricResetSelfTest (bad : List Nat) (s : State) : Host.Outcome State Fault Refusal :=
  .next (effFabricResetSelfTest bad s.newCycle)

/-! ### Writes and reads (R126 to R130, R133) -/

/-- The physical slices that take the writes of a logical slice: the one that serves it, and a SHADOW of it. -/
def State.writers (s : State) (ls : Nat) : List Nat :=
  s.physOf ls :: (if s.get FAB_COPPICE_state = 1 ∧ s.get FAB_COPPICE_shadow = ls then [s.spare] else [])

/-- The ingress port writes a block in its write pair; `nosrc` says that the ingress mapper had none for it. -/
def State.writeBlk (s : State) (pair : Nat) (b : Blk) (nosrc : Bool) : State :=
  let g := s.fab.gp
  let loc : Loc := { body := b.body, side := b.side, epoch := g / 32 % 2, page := s.page, nosrc := nosrc }
  forEach (s.writers (pair / 128)) s fun s ph =>
    { s with fab := { s.fab with locs := tput s.fab.locs (locKey ph (pair % 128) g) loc } }

/-- The stored block of a location, where it counts as written for grid period `g` under the active page (R129). -/
def State.stored (s : State) (ph pair g : Nat) : Option Blk :=
  match s.fab.locs.find? fun p => p.1 == locKey ph (pair % 128) g with
  | none => none
  | some (_, l) =>
    let recent := match s.fab.swapAt with | some a => decide (s.fab.gp < a + 31) | none => false
    if l.epoch ≠ g / 32 % 2 then none
    else if l.page = s.page then some ⟨l.body, l.side⟩
    else if recent && slotAt (writesOf s.img) pair == slotAt s.fab.oldWr pair then some ⟨l.body, l.side⟩
    else none

/-- Whether the stored block of a location is the fail-marked one that a port wrote for want of a source. -/
def State.storedNosrc (s : State) (ph pair g : Nat) : Bool :=
  (s.fab.locs.find? fun p => p.1 == locKey ph (pair % 128) g).any fun p => p.2.nosrc

/-- Note that the read for an output delivered a block under R129 or R130. -/
def State.noteLost (s : State) (out : Nat) : State := { s with fab := { s.fab with lost := out :: s.fab.lost } }

/-- Count block-check failures of a physical slice. -/
def State.chkErr (s : State) (ph : Nat) : State :=
  let s := s.inc FAB_SLICE_ERR_chk_err ph
  { s with fab := { s.fab with gmfErr := tmod (fun _ => 0) s.fab.gmfErr ph (· + 1) } }

/-- Compare a read of the shadowed logical slice (R149 step 2). `qBad` and `pBad` say that the block check failed on
one read, `diff` that the blocks differ. A mismatching read whose checks both failed, which Table 5-7 does not name, counts
with those whose checks both passed (DESIGN CHOICE, log entry 196). -/
def State.compare (s : State) (qBad pBad diff : Bool) : State :=
  if !(qBad || pBad || diff) then s
  else
    let f := s.fab
    let s := { s with fab := { f with
      misQ := f.misQ + b2n (qBad && !pBad), misP := f.misP + b2n (pBad && !qBad)
      misN := f.misN + b2n (qBad == pBad) } }
    s.inc FAB_COPPICE_MIS_total

/-- One read entry of the active page in a grid period: the block that its egress port delivers. -/
def State.readBlk (s : State) (x : GridIn) (r : Entry) : State × Blk :=
  let out := r.n FABRIC_PAGE_out
  let ls := r.n FABRIC_PAGE_rd_slice
  if s.bridgeOff r then (s.noteLost out, ueqBlk)
  else
    let (wc, lag) := s.sourceOf r
    let pair := pairOf ls wc
    let q := s.physOf ls
    let found := if lag ≤ s.fab.gp then s.stored q pair (s.fab.gp - lag) else none
    let shadow := if s.get FAB_COPPICE_state = 1 ∧ s.get FAB_COPPICE_shadow = ls ∧ lag ≤ s.fab.gp then
      s.stored s.spare pair (s.fab.gp - lag) else none
    let bad := x.chk.contains out || x.uncorr.contains out
    let words := fun (l : List (Nat × Nat)) => ((l.filter fun p => p.1 == out).map (·.2)).sum
    let s := s.inc FAB_SLICE_CORR_corr q (words x.corr)
    let s := if x.uncorr.contains out then s.irqSet 169 else s
    let s := if bad then s.chkErr q else s
    let s := match shadow with
      | some b =>
        let s := s.inc FAB_SLICE_CORR_corr s.spare (words x.corrP)
        let s := if x.uncorrP.contains out then s.irqSet 169 else s
        s.compare bad (x.chkP.contains out || x.uncorrP.contains out) (x.diff.contains out || decide (found ≠ some b))
      | none => s
    match found with
    | some b =>
      (if s.storedNosrc q pair (s.fab.gp - lag) then s.noteLost out else s, if bad then b.failed else b)
    | none => (((s.inc FAB_ERR_stale).irqSet 167).noteLost out, failBlk)

/-- Every read of a grid period. -/
def State.readAll (s : State) (x : GridIn) : State :=
  if !s.fab.on then { s with fab := { s.fab with outs := [], lost := [] } }
  else
    let s : State := { s with fab := { s.fab with lost := [] } }
    let (s, outs) := (s.entries FABRIC_PAGE_out).foldl (fun (a : State × List (Nat × Blk)) r =>
      let (s, b) := a.1.readBlk x r
      (s, tput a.2 (r.n FABRIC_PAGE_out) b)) (s, [])
    { s with fab := { s.fab with outs := outs } }

/-- The block that an output slot received in the last grid period: ueq where no read entry names it (R130). -/
def State.outBlk (s : State) (out : Nat) : Blk := tget (fun _ => ueqBlk) s.fab.outs out

end Sys2Proof.Machine
end

