-- ==== Sys2Proof/Machine/Mapper.lean ====
section
/-!
DEFINITION. Sys2Proof/Machine/Mapper.lean: the mappers of chapter 4: 66B blocks and STREAM carriage (R103, R104, R106), ODU
carriage (R105), GMP and IMP (R107, R108), FlexE demultiplexing (R109, R110), and the twig host in a calendar slot (R120).
The block types other than idle are those of IEEE 802.3, and the data decision of GMP that of G.709, which the spec names and
does not write out (PRESUMED, log entry 199).
-/
namespace Sys2Proof.Machine

/-! ### Queues of bits -/

/-- Put the low `n` bits of `v` at the end of a queue. -/
def BitQ.push (q : BitQ) (n v : Nat) : BitQ := ⟨q.n + n, q.v + v % 2 ^ n * 2 ^ q.n⟩

/-- Drop the first `n` bits. -/
def BitQ.drop (q : BitQ) (n : Nat) : BitQ := ⟨q.n - n, q.v / 2 ^ n⟩

/-- The first `n` bits of a context's queue, which they leave. Bits that the queue does not hold are a free value: no rule
says what stands in them. -/
def State.pull (s : State) (c n : Nat) : Nat × State :=
  let m := s.mapSt c
  let s := s.setMapSt c { m with q := m.q.drop n }
  if n ≤ m.q.n then (m.q.v % 2 ^ n, s)
  else
    let (f, s) := s.draw
    (m.q.v % 2 ^ m.q.n + f * 2 ^ m.q.n % 2 ^ n, s)

/-- Put bits in a context's queue. -/
def State.feed (s : State) (c n v : Nat) : State :=
  let m := s.mapSt c
  s.setMapSt c { m with q := m.q.push n v }

/-! ### 66B blocks -/

/-- The idle control block: block type 0x1E with all idle characters (R104). -/
def idleW : W66 := ⟨2, 0x1E⟩

/-- The local fault ordered set. -/
def faultW : W66 := ⟨2, 0x0100004B⟩

/-- The error control block, which egress sends for a word with an invalid sync header (R106). -/
def errorW : W66 := ⟨2, 0x1E + ((List.range 8).map fun i => 0x1E * 2 ^ (8 + 7 * i)).sum⟩

/-- A start-of-packet block. -/
def W66.start (b : W66) : Bool := b.sync == 2 && [0x33, 0x66, 0x78].contains (b.data % 256)

/-- A block that ends a packet. -/
def W66.term (b : W66) : Bool := b.sync == 2 && [0x87, 0x99, 0xAA, 0xB4, 0xCC, 0xD2, 0xE1, 0xFF].contains (b.data % 256)

/-- Whether a packet is in progress after a block. -/
def W66.packet (b : W66) (inside : Bool) : Bool := b.start || (inside && !b.term)

/-! ### Rate adaptation (R104) -/

/-- The middle of an adaptation buffer of 256 blocks. -/
def adaptMid : Nat := Config.adaptMid % 256

/-- A mapper's adaptation overflows (R104, R105). -/
def State.adaptOvf (s : State) (c : Nat) : State := (s.setB MAP_ADAPT_ovf true c).report kADAPT_OVF [(3, c)]

/-- A 66B block arrives at the adaptation buffer of a context: after an overflow blocks go up to the next start of a packet;
an idle block outside a packet is deleted where the buffer is past its middle; the buffer holds 256 blocks. -/
def State.adaptIn (s : State) (c : Nat) (b : W66) : State :=
  let m := s.mapSt c
  let a := m.ad
  if a.skip && !b.start then s
  else
    let inside := a.inIn && !a.skip
    if b = idleW ∧ !inside ∧ adaptMid < a.fifo.length then s.inc MAP_ADAPT_idle_del c
    else if 256 ≤ a.fifo.length then
      (s.setMapSt c { m with ad := { a with skip := true, inIn := false } }).adaptOvf c
    else s.setMapSt c { m with ad := { a with fifo := a.fifo ++ [b], skip := false, inIn := b.packet inside } }

/-- The next block that leaves the adaptation buffer. Outside a packet, a buffer below its middle gives an inserted idle
block. An empty buffer inside a packet, where none may be inserted, gives a free value, which no rule states. -/
def State.adaptOut (s : State) (c : Nat) : W66 × State :=
  let m := s.mapSt c
  let a := m.ad
  match a.fifo with
  | b :: rest =>
    if !a.inOut && decide (a.fifo.length ≤ adaptMid) then (idleW, s.inc MAP_ADAPT_idle_ins c)
    else (b, s.setMapSt c { m with ad := { a with fifo := rest, inOut := b.packet a.inOut } })
  | [] =>
    if !a.inOut then (idleW, s.inc MAP_ADAPT_idle_ins c)
    else
      let (x, s) := s.draw
      (⟨x % 4, x / 4 % 2 ^ 64⟩, s)

/-- `n` blocks that leave the adaptation buffer. -/
def State.adaptTake (s : State) (c : Nat) : Nat → List W66 × State
  | 0 => ([], s)
  | n + 1 =>
    let (l, s) := s.adaptTake c n
    let (b, s) := s.adaptOut c
    (l ++ [b], s)

/-- Every whole 66B block of a context's queue of bits goes to its adaptation buffer; `fuel` bounds their number. -/
def State.drainBlocks (s : State) (c : Nat) : Nat → State
  | 0 => s
  | n + 1 =>
    let q := (s.mapSt c).q
    if q.n < 66 then s
    else ((s.setMapSt c { s.mapSt c with q := q.drop 66 }).adaptIn c ⟨q.v % 4, q.v / 4 % 2 ^ 64⟩).drainBlocks c n

/-! ### GMP and IMP (R107, R108) -/

/-- The kind of the server of a context; 15 for a lane group. -/
def serverKind (l : List Section) (e : Entry) : Nat :=
  match serverOf l e with | some v => v.n MAPPING_kind | none => 15

/-- The payload words that a justification control of a client governs: their width in bits and their number. A client of an
OPUCn has 952 words of 16 bytes per tributary slot, a 100GBASE-R client of a terminated ODU4 has 190 words of 80 bytes, and
the payload of a terminated ODUflex is one word of 15,232 bytes, all data (IMP). -/
def jcShape (l : List Section) (e : Entry) : Nat × Nat :=
  match e.n MAPPING_kind with
  | 4 => if serverKind l e = 2 then (640, 190) else (121856, 1)
  | 7 => (128, 952)
  | _ => (128 * e.n MAPPING_count, 952)

/-- Whether payload word `j`, from 1, of `p` words carries data under Cm. -/
def gmpData (cm p j : Nat) : Bool := decide (j * cm % p < cm)

/-- A client that is mapped into the payload of a server by justification controls. -/
def usesJc (l : List Section) (e : Entry) : Bool :=
  match e.n MAPPING_kind with
  | 2 | 3 | 7 => serverKind l e == 1
  | 4 => serverKind l e == 2 || serverKind l e == 3
  | _ => false

/-- The client's Cm: an ODUflex by IMP has none, and carries data in every word. -/
def cmOf (l : List Section) (e : Entry) (cm : Nat) : Nat := if (jcShape l e).2 = 1 then 1 else cm

/-- Show a client's Cm: in MAP_GMP of kinds 2, 3 and 7, unless it shows the C of ODU carriage (Table 4-7). -/
def State.showCm (s : State) (e : Entry) (cm : Nat) : State :=
  if carriageOf e = 2 ∨ e.n MAPPING_kind = 4 then s else s.set MAP_GMP_cm cm (e.n MAPPING_ctx)

/-- One justification control of a client that server context `c` receives, and the payload that it governs (R107, R108): a
control whose CRC fails is replaced by the previous valid one; the words that carry data are demapped. A switched ODU or a
twig host keeps its bytes, a 66B client passes its blocks on to its rate adaptation, and the bytes of a terminated ODU
reach its framer, whose frames are commands of their own. -/
def State.takeJc (s : State) (c : Nat) (x : Nat × JcIn) : State :=
  match s.mapE x.1 with
  | none => s
  | some e =>
    let k := x.1
    let j := x.2
    if e.n MAPPING_dir ≠ 0 || !usesJc s.img e || (serverOf s.img e).map (fun v => v.n MAPPING_ctx) != some c then s
    else
      let s := if j.crcOk then (s.setMapSt k { s.mapSt k with cm := j.cm, sigma := j.sigma }).showCm e j.cm
        else s.inc MAP_GMP_jc_err k
      if (e.n MAPPING_kind = 2 ∨ e.n MAPPING_kind = 3) ∧ e.b MAPPING_odu_mode then s
      else
        let (w, p) := jcShape s.img e
        let cm := cmOf s.img e (s.mapSt k).cm
        let data := (j.words.zip (List.range p)).filter fun y => gmpData cm p (y.2 + 1)
        let s := forEach data s fun s y => s.feed k w y.1
        if e.n MAPPING_kind = 4 then s.drainBlocks k ((s.mapSt k).q.n / 66) else s

/-- The payload words that a transmit client fills in one frame of its server, with the Cm and the remainder that it sends:
the whole words of its waiting bits, no more than the server has (R107, R108). The words without data are 0. -/
def State.mapClient (s : State) (e : Entry) : (Nat × Nat × Nat × List Nat) × State :=
  let c := e.n MAPPING_ctx
  let (w, p) := jcShape s.img e
  let q := (s.mapSt c).q
  let cm := cmOf s.img e (min p (q.n / w))
  let sigma := (q.n - w * cm) / 8
  let r := (List.range p).foldl (fun (a : List Nat × State) j =>
    if gmpData cm p (j + 1) then let (v, s) := a.2.pull c w; (a.1 ++ [v], s) else (a.1 ++ [0], a.2)) ([], s)
  ((c, cm, sigma, r.1), (r.2.setMapSt c { r.2.mapSt c with cm := cm, sigma := sigma }).showCm e cm)

/-! ### FlexE (R109 to R111, R120) -/

/-- The calendar slots that a client holds in a calendar of its group: 0 A, 1 B. -/
def heldSlots (g : Entry) (cal c : Nat) : List Nat :=
  (List.range 640).filter fun i => g.n (if cal = 0 then MAPPING_cal_a else MAPPING_cal_b) i == c

/-- A client of a FlexE group: kind 6, or a twig host on a kind 5 server. -/
def onFlexe (l : List Section) (e : Entry) : Bool :=
  e.n MAPPING_kind == 6 || (e.n MAPPING_kind == 7 && serverKind l e == 5)

/-- The calendar in use of a receive group, and the calendar sent of a transmit group. -/
def State.calInUse (s : State) (g : Entry) : Nat :=
  let k := s.calSt (g.n MAPPING_ctx)
  if g.n MAPPING_dir = 0 then k.rxC else k.txC

/-- Whether a client holds a slot in its group's calendar in use. -/
def State.holdsSlot (s : State) (e : Entry) : Bool :=
  match serverOf s.img e with
  | some g => !(heldSlots g (s.calInUse g) (e.n MAPPING_ctx)).isEmpty
  | none => false

/-- The alignment word of Table 4-8. -/
def twigWord : List Byte := [0xC3, 0xA5, 0x5A, 0x3C, 0x96, 0xE1, 0x1E, 0x69]

/-- A 66B block of a twig host in a calendar slot (R120): an idle block goes; a block with sync header 0b10 has the alignment
word written ahead of it. A block with an invalid header brings its eight bytes (DESIGN CHOICE, log entry 199). -/
def State.hostW (s : State) (c : Nat) (b : W66) : State :=
  if b = idleW then s
  else if b.sync = 2 then (s.feed c 64 (leNat twigWord)).feed c 64 b.data
  else s.feed c 64 b.data

/-- The 66B blocks that twig host bytes become (R120): `first` says that the block of 64 bytes holds host byte 0. An idle
block stands in the place of the alignment word, which is not sent. -/
def hostBlocks (body : Nat) (first : Bool) : List W66 :=
  (List.range 8).map fun i =>
    if first && i == 0 then idleW else ⟨if first && i == 1 then 2 else 1, body / 2 ^ (64 * i) % 2 ^ 64⟩

/-- A 66B block arrives in a calendar slot of a receive FlexE group: it goes to the client that the calendar in use names
(R109, R110). -/
def State.takeSlot (s : State) (x : Nat × Nat × W66) : State :=
  match s.mapE x.1 with
  | none => s
  | some g =>
    if g.n MAPPING_kind ≠ 5 ∨ g.n MAPPING_dir ≠ 0 then s
    else
      let c := g.n (if s.calInUse g = 0 then MAPPING_cal_a else MAPPING_cal_b) x.2.1
      match s.mapE c with
      | none => s
      | some e =>
        if e.n MAPPING_dir ≠ 0 ∨ e.n MAPPING_server ≠ x.1 then s
        else if e.n MAPPING_kind = 6 then s.adaptIn c x.2.2
        else if e.n MAPPING_kind = 7 then s.hostW c x.2.2 else s

/-! ### STREAM carriage (R103, R106) -/

/-- The words of a receive context in STREAM carriage in one grid period: 8 for each slot, word w being word w mod 8 of
member w div 8. A FlexE client that holds no slot in the calendar in use has idle blocks (R109). -/
def State.streamPeriod (s : State) (e : Entry) : List W66 × State :=
  let c := e.n MAPPING_ctx
  let n := 8 * (slotGroup s.img e).length
  if e.n MAPPING_kind = 6 ∧ !s.holdsSlot e then
    (List.replicate n idleW, s.setMapSt c { s.mapSt c with ad := {} })
  else s.adaptTake c n

/-- What the lane pipes and the calendar slots bring the mappers in a grid period, and the words of every receive context in
STREAM carriage. A twig host that holds no slot in the calendar in use has all-zero blocks (R109). -/
def State.streamPeriods (s : State) (x : GridIn) : List (Nat × List W66) × State :=
  let s := forEach x.streams s fun s p =>
    match s.mapE p.1 with
    | some e => if e.n MAPPING_kind = 4 ∧ e.n MAPPING_dir = 0 ∧ onGroup s.img e then forEach p.2 s fun s b => s.adaptIn p.1 b else s
    | none => s
  let s := forEach x.flexe s State.takeSlot
  let s := forEach ((kindOf s.img 4 0).filter fun e =>
      e.n MAPPING_dir == 0 && e.n MAPPING_kind == 7 && onFlexe s.img e && !s.holdsSlot e) s fun s e =>
    s.feed (e.n MAPPING_ctx) 512 0
  ((kindOf s.img 4 0).filter fun e => e.n MAPPING_dir == 0 && carriageOf e == 1).foldl
    (fun (a : List (Nat × List W66) × State) e =>
      let (l, s) := a.2.streamPeriod e
      (a.1 ++ [(e.n MAPPING_ctx, l)], s)) ([], s)

/-- Eight words as the body and the mapper field of a slot block (Table 4-2). -/
def wordsBlk (l : List W66) : Nat × Nat :=
  (l.foldr (fun b a => b.data % 2 ^ 64 + a * 2 ^ 64) 0, 64 * 2 ^ 41 + l.foldr (fun b a => b.sync % 4 + a * 4) 0 * 2)

/-- The eight words of a slot block as the egress mapper reads them back: a word with an invalid sync header becomes an
errored block (R106). -/
def blkWords (body mapper : Nat) : List W66 :=
  (List.range 8).map fun i =>
    let h := mapper / 2 / 2 ^ (2 * i) % 4
    if h = 1 ∨ h = 2 then ⟨h, body / 2 ^ (64 * i) % 2 ^ 64⟩ else errorW

/-! ### ODU carriage (R105) -/

/-- `c` bytes of `data` dealt across `n` members in contiguous runs of at most 69 bytes: body and mapper field. -/
def dealBytes (n c data : Nat) : List (Nat × Nat) :=
  (List.range n).map fun j =>
    let size := fun i => min 69 (c / n + b2n (decide (i < c % n)))
    let at_ := ((List.range j).map size).sum
    let d := (data / 2 ^ (8 * at_)) % 2 ^ (8 * size j)
    let ext := beNat (leBytes 5 (d / 2 ^ 512))
    (d % 2 ^ 512, size j * 2 ^ 41 + ext * 2)

/-- The bytes of a slot block in ODU carriage: how many, and the bytes. -/
def oduBytes (body mapper : Nat) : Nat × Nat :=
  let n := mapper / 2 ^ 41
  (n, (body + leNat (beBytes 5 (mapper / 2)) * 2 ^ 512) % 2 ^ (8 * n))

/-- Bytes of a tributary of `n` tributary slots in a grid period, in units of 2^-24 byte: n × 5.2409 Gbit/s (R213). -/
def nominalDue (n : Nat) : Nat := n * 6708352 * 2 ^ 24 / 100000

end Sys2Proof.Machine
end

