-- ==== Sys2Proof/Machine/Framing.lean ====
section
/-!
DEFINITION. Sys2Proof/Machine/Framing.lean: the framer commands of chapters 3 and 4: alignment (R70 to R75), overhead,
labels and defects (R76 to R87), FlexE calendars (R110, R111), and the egress mappers (R88 to R90).
-/
namespace Sys2Proof.Machine

/-! ### Alignment (R70 to R75) -/

/-- The candidates after a window: each matching position with its run of consecutive matches (R71). -/
def nextCands (old : List (Nat × Nat)) (found : List Nat) : List (Nat × Nat) :=
  found.map fun p => (p, match old.find? (fun c => c.1 == p) with | some c => c.2 + 1 | none => 1)

/-- The host of a twig host context gains alignment at position `pos` of a window: its alignment term is measured, its next
frame starts that many bytes on, and the tags of its first four frames are not checked (R30, R118). -/
def State.hostAligned (s : State) (c pos term : Nat) (e : Entry) : State :=
  if e.n MAPPING_kind = 7 then
    let s := (s.setB MAP_HOST_TERM_term_valid true c).set MAP_HOST_TERM_term (term % 16000) c
    let s := s.setMapSt c { s.mapSt c with skip := pos }
    let h := e.n MAPPING_host
    s.setHost h { s.hostSt h with fnum := none, grace := 4, rOut := true }
  else s

/-- The 8 bytes of the alignment word as a number. -/
def twigNum : Nat := leNat twigWord

/-- The positions of a window of 8,000 host bytes at which the alignment word stands (R119); `fuel` bounds them. -/
def wordsAt : Nat → Nat → Nat → List Nat
  | 0, _, _ => []
  | f + 1, i, v => if v % 2 ^ 64 = twigNum then i :: wordsAt f (i + 1) (v / 256) else wordsAt f (i + 1) (v / 256)

/-- What a search window shows a context: the positions where the pattern stands, none before the window is complete. A twig
host hunts in the bytes that its mapper has demapped, at all 8,000 positions (R119); other layers hunt in the line
(`found`). -/
def State.window (s : State) (c : Nat) (e : Entry) (found : List Nat) : Option (List Nat) × State :=
  if e.n MAPPING_kind ≠ 7 then (some (dedup found), s)
  else
    let q := (s.mapSt c).q
    if q.n < 64056 then (none, s)
    else (some (wordsAt 8000 0 q.v), s.setMapSt c { s.mapSt c with q := q.drop 64000 })

/-- ALIGN_WINDOW_END (R71, R72, R119): `found` are the positions at which the pattern matched in the window of a line; `term`
is the host alignment term that is measured where a twig host gains alignment. -/
def effAlignWindowEnd (c : Nat) (found : List Nat) (term : Nat) (s : State) : State :=
  match s.mapE c with
  | none => s
  | some e =>
    let seen := (s.path c).isSome
    if !ownAlign (e.n MAPPING_kind) || e.n MAPPING_dir != 0 || (s.alignSt c).held || s.on FRM_ALIGN_state c then s
    else
    let (seen?, s) := s.window c e found
    match seen? with
    | none => s
    | some found =>
      let a := s.alignSt c
      let cands := nextCands a.cands found
      match cands.filter fun x => decide (a.n ≤ x.2) with
      | [] => (s.setAlignSt c { a with cands := cands }).set FRM_ALIGN_cands (min cands.length 255) c
      | [x] =>
        let s := s.setAlignSt c { n := a.n, pos := x.1, held := false }
        let s := ((s.setB FRM_ALIGN_state true c).setB FRM_ALIGN_im false c).set FRM_ALIGN_cands 0 c
        let s := if a.amb = 0 || !seen then s else s.report kALIGN_AMBIGUOUS [(3, c), (2, a.amb)]
        (s.hostAligned c x.1 term e).settle
      | _ =>
        let n := min (a.n + 2) 7
        let s := s.setAlignSt c { n := n, amb := a.amb + 1, held := false }
        ((s.inc FRM_ALIGN_amb_cnt c).set FRM_ALIGN_cands 0 c).set FRM_ALIGN_n_cur n c

def execAlignWindowEnd (c : Nat) (found : List Nat) (term : Nat) (s : State) : Host.Outcome State Fault Refusal :=
  .next (effAlignWindowEnd c found term s.newCycle)

/-- The checked word of a frame (R73). -/
def State.checkWord (s : State) (c : Nat) (e : Entry) (ok : Bool) : State :=
  let a := s.alignSt c
  if ok then s.setAlignSt c { a with errs := 0 }
  else if a.errs + 1 < s.alignM e then s.setAlignSt c { a with errs := a.errs + 1 }
  else s.startSearch c (s.alignN e)

/-- Multiframe tracking of a frame whose MFAS, or place in the overhead multiframe, is `m` (R75). `period` is 256 or
32. The expectation runs on through mismatches (DEDUCED, log entry 59). -/
def State.trackMf (s : State) (c period m : Nat) : State :=
  let a := s.alignSt c
  let next := fun x => (x + 1) % period
  match a.mfExp with
  | none => s.setAlignSt c { a with mfExp := some (next m), mfHit := 1, mfMiss := 0 }
  | some x =>
    if s.on FRM_ALIGN_im c then
      if m = x then s.setAlignSt c { a with mfExp := some (next x), mfMiss := 0 }
      else if a.mfMiss + 1 < 5 then s.setAlignSt c { a with mfExp := some (next x), mfMiss := a.mfMiss + 1 }
      else (s.setAlignSt c { a with mfExp := some (next x), mfMiss := 0, mfHit := 0 }).setB FRM_ALIGN_im false c
    else if m = x ∧ 1 ≤ a.mfHit then
      (s.setAlignSt c { a with mfExp := some (next x), mfHit := 2, mfMiss := 0 }).setB FRM_ALIGN_im true c
    else s.setAlignSt c { a with mfExp := some (next m), mfHit := 1, mfMiss := 0 }

/-! ### Labels (R78 to R81) -/

/-- One label period: a label identical in 3 consecutive periods is accepted. -/
def Label.push (l : Label) (v : Nat) : Label :=
  let run := if l.run ≠ 0 ∧ l.cand = v then min (l.run + 1) 3 else 1
  if run = 3 then { cand := v, run := 3, acc := v, valid := true, ever := true }
  else { l with cand := v, run := run }

/-- Take a TTI byte; at the end of the TTI multiframe, the 64 bytes are one label period (R78, R80). A TTI is new, and noted,
where its value differs from the one accepted last, also where that one was invalid meanwhile (DESIGN CHOICE, log entry
200). -/
def State.takeTti (s : State) (c mfas : Nat) (b : Byte) : State :=
  let lab := s.labelSt c
  let i := mfas % 64
  let buf := if i = 0 then [(0, b)] else lab.ttiBuf ++ [(i, b)]
  if i ≠ 63 then s.setLabelSt c { lab with ttiBuf := buf }
  else if buf.map (·.1) ≠ List.range 64 then s.setLabelSt c { lab with ttiBuf := [] }
  else
    let bytes := buf.map (·.2)
    let old := lab.tti
    let new := old.push (leNat bytes)
    let s := s.setLabelSt c { lab with tti := new, ttiBuf := [] }
    if new.valid && new.run == 3 && (!old.ever || old.acc != new.acc) then
      let s := (s.setB FRM_TTI_ST_tti_changed true c).set FRM_TTI_crc (crc32c bytes) c
      (s.irqSet 102).offerRec kTTI_CHANGE (leBytes 3 c ++ bytes.take 32)
    else s

/-- One PSI multiframe: PT, and the MSI of each tributary slot. -/
def State.takePsi (s : State) (c : Nat) (pt : Nat) (msi : List Nat) (ptHeld msiHeld : Bool) : State :=
  let lab := s.labelSt c
  let ms := if msiHeld then lab.msi else
    (msi.zip (List.range msi.length)).foldl (fun t x => tmod (fun _ => {}) t x.2 fun l => l.push x.1) lab.msi
  s.setLabelSt c { lab with pt := if ptHeld then lab.pt else lab.pt.push pt, msi := ms }

/-! ### Defects (Table 3-7) -/

/-- Integrate a defect whose entry and exit each take `n` consecutive frames. -/
def DefSt.integrate (d : DefSt) (k : Nat) (cond : Bool) (n : Nat) : DefSt :=
  let r := tget (fun _ => (0, 0)) d.run k
  let r := if cond then (min (r.1 + 1) n, 0) else (0, min (r.2 + 1) n)
  let d := { d with run := tset (fun _ => (0, 0)) d.run k r }
  if r.1 = n ∧ !bit d.lat k then { d with lat := d.lat + 2 ^ k }
  else if r.2 = n ∧ bit d.lat k then { d with lat := d.lat - 2 ^ k } else d

/-- Integrate a defect, unless a suppressing defect holds its counters at 0 (R83). -/
def State.integrate (s : State) (c : Nat) (p : Entry) (k : Nat) (cond : Bool) (n : Nat) : State :=
  if bit (defectLayers k) (p.n FRAMING_layer) && s.get ⟨0x100000000, 0x40, 262144, 17, 0⟩ c &&& suppressedBy (p.b FRAMING_tim_act) k == 0 then
    s.setDefSt c ((s.defSt c).integrate k cond n)
  else s

/-- No fault ordered set in the 128 blocks before position `at_`: LF and RF exit. -/
def DefSt.osExit (d : DefSt) (at_ : Nat) : DefSt :=
  if d.lastOs + 128 < at_ then
    { d with lat := (if bit d.lat 12 then d.lat - 2 ^ 12 else d.lat) |> fun l => if bit l 13 then l - 2 ^ 13 else l }
  else d

/-- One ordered set at block position `at_` (Table 3-7, LF and RF): 4 of one kind within 128 blocks, with no other
ordered set between them, make the defect enter. LF holds the entry counter of RF at 0 (R83). -/
def DefSt.osTake (d : DefSt) (at_ kind : Nat) : DefSt :=
  let d := d.osExit at_
  let run := (if d.osKind = kind then d.osRun ++ [at_] else [at_])
  let run := if kind = 2 ∧ bit d.lat 12 then [] else run.drop (run.length - 4)
  let d := { d with osRun := run, osKind := kind, lastOs := if kind = 1 ∨ kind = 2 then at_ else d.lastOs }
  let k := if kind = 1 then 12 else 13
  if (kind = 1 ∨ kind = 2) ∧ run.length = 4 ∧ at_ < run.head?.getD 0 + 128 ∧ !bit d.lat k then
    { d with lat := d.lat + 2 ^ k }
  else d

/-- The 8,192 blocks of a PM block of layer 4 or 6; a defect that enters or exits at an ordered set settles there. SSF holds
the entry counters at 0 (R83). -/
def State.takeOs (s : State) (c : Nat) (os : List OsIn) : State :=
  let base := (s.defSt c).blk
  let s := forEach os s fun s o =>
    let d := s.defSt c
    let d' := if s.on FRM_DEF_ssf c then { d with osRun := [] } else d.osTake (base + o.at_) o.kind
    let s := s.setDefSt c d'
    if d.lat = d'.lat then s else s.settle
  let d := s.defSt c
  s.setDefSt c { d.osExit (base + 8192) with blk := base + 8192 }

/-! ### One frame -/

/-- Whether a frame of a layer is errored (Table 3-1). -/
def frameErrored (layer : Nat) (f : FrameIn) : Bool :=
  if layer ≤ 3 then f.bip != 0 else if layer = 7 then !f.wordOk else f.errored

/-- Count a PM block of the current second (R91). -/
def State.countBlock (s : State) (c layer : Nat) (p : Entry) (f : FrameIn) : State :=
  if p.n FRAMING_pm = 0 then s
  else
    let pm := s.pmSt c
    let bad := frameErrored layer f
    let fe := p.n FRAMING_pm == 2 && decide (layer ≤ 3) && decide (1 ≤ f.fe) && decide (f.fe ≤ 8)
    let s := s.setPmSt c { pm with blocks := pm.blocks + 1, eb := pm.eb + b2n bad, fe := pm.fe + b2n fe }
    if bad then s.inc FRM_EB_CUR_eb c else s

/-- The alignment on which a layer's frames rest: its own, that of the layer below, or for a client of an ETH group the
group's being in UP (R68, Table 3-1). -/
def State.aligned (s : State) (c layer : Nat) (e : Entry) : Bool :=
  if ownAlign layer then s.on FRM_ALIGN_state c
  else match serverOf s.img e with
    | none => s.groupUp (leadOfCtx s.img e)
    | some sv => !ownAlign (sv.n MAPPING_kind) || s.on FRM_ALIGN_state (sv.n MAPPING_ctx)

/-- The FlexE overhead of a received frame (R110, R111): the calendar in use, the answer to a CR, and a CA for the
transmit group of the same lead. -/
def State.takeFlexe (s : State) (c : Nat) (e : Entry) (f : FrameIn) : State :=
  let cal := s.calSt c
  let s := (s.setCalSt c { cal with rxC := f.c % 2, ansCa := f.cr }).set MAP_STATE_cal_rx f.c c
  match f.ca, (kindOf s.img 4 0).find? fun x =>
      x.n MAPPING_kind == 5 && x.n MAPPING_dir == 1 && x.n MAPPING_lead == e.n MAPPING_lead with
  | some k, some t =>
    let tc := t.n MAPPING_ctx
    let ct := s.calSt tc
    if s.on MAP_STATE_cr_pend tc && ct.crNew == some k then s.setCalSt tc { ct with caGot := true } else s
  | _, _ => s

/-- What the overhead of a frame brings the mappers and the APS of no monitored layer: the justification controls of the
clients and the FlexE calendars (R107, R108, R110, R111). -/
def State.takeMapOh (s : State) (c : Nat) (e : Entry) (f : FrameIn) : State :=
  match e.n MAPPING_kind with
  | 1 | 2 | 3 => forEach f.jc s fun s x => s.takeJc c x
  | 5 => s.takeFlexe c e f
  | _ => s

/-- Multiframe tracking of a layer's frame (R75). -/
def State.takeMf (s : State) (c layer : Nat) (f : FrameIn) : State :=
  if layer = 0 ∨ layer = 2 ∨ layer = 3 then s.trackMf c 256 (f.mfas % 256)
  else if layer = 5 then s.trackMf c 32 (f.mfas % 32) else s

/-- The overhead that the framer monitors in one frame of a path entry's context (Table 3-5). -/
def State.takeOverhead (s : State) (c : Nat) (p : Entry) (f : FrameIn) : State :=
  let layer := p.n FRAMING_layer
  let held := fun (s : State) k => (s.reg (0x100000000 + 0x40 * c)).toNat % 2 ^ 18 &&& suppressedBy (p.b FRAMING_tim_act) k != 0
  if layer ≤ 3 then
    let s := { s with fr := { s.fr with bei := tset (fun _ => 0) s.fr.bei c (min f.bip 8) } }
    let s := s.integrate c p 7 f.bdi 5
    let s := if held s 8 then s else s.takeTti c f.mfas f.tti
    if layer = 0 then s
    else
      let s := s.setDefSt c { s.defSt c with stat := f.stat }
      let s := s.integrate c p 4 (f.stat == 7) 3
      let s := s.integrate c p 5 (f.stat == 6) 3
      let s := s.integrate c p 6 (f.stat == 5) 3
      if f.mfas % 256 = 255 then s.takePsi c f.pt (if layer = 1 then f.msi else []) (held s 9) (held s 10) else s
  else if layer = 5 then
    let s := if held s 14 then s else
      s.setLabelSt c { s.labelSt c with gid := (s.labelSt c).gid.push f.gnum }
    let s := if f.mfas % 32 = 31 ∧ !held s 15 then
        s.setLabelSt c { s.labelSt c with phymap := (s.labelSt c).phymap.push (ofBits ((List.range 256).map fun i => f.phymap.contains i)) }
      else s
    s.integrate c p 16 f.rpf 3
  else if layer = 4 ∨ layer = 6 then s.takeOs c f.os
  else if layer = 7 then
    match f.label with
    | some v => if held s 17 then s else s.setLabelSt c { s.labelSt c with hlm := (s.labelSt c).hlm.push v }
    | none => s
  else s

/-- Process one frame of a monitored receive context that is aligned; the accepted labels are compared in it with the
expectations in force (R82). -/
def State.takeFrame (s : State) (c : Nat) (e p : Entry) (f : FrameIn) : State :=
  let layer := p.n FRAMING_layer
  let s := if ownAlign layer then s.checkWord c e f.wordOk else s
  if ownAlign layer && !s.on FRM_ALIGN_state c then (s.countBlock c layer p f).settle
  else
    let s := ((s.takeMf c layer f).countBlock c layer p f).takeOverhead c p f
    ((s.takeMapOh c e f).compareLabels c p e).settle

/-- One frame, or PM block, of a receive context; of a context without a path entry the alignment, the multiframe and what the
mappers take are kept, and nothing is monitored (R69). -/
def State.frameIn (s : State) (c : Nat) (f : FrameIn) : State :=
  match s.mapE c with
  | none => s
  | some e =>
    let layer := e.n MAPPING_kind
    if e.n MAPPING_dir != 0 || !s.aligned c layer e then s
    else match s.path c with
      | some p => s.takeFrame c e p f
      | none =>
        let s := if ownAlign layer then s.checkWord c e f.wordOk else s
        if ownAlign layer && !s.on FRM_ALIGN_state c then s.settle
        else ((s.takeMf c layer f).takeMapOh c e f).settle

/-- FRAME_RECEIVED (R69, R73, R75, R78 to R87): one frame, or PM block, of a receive context. -/
def effFrameReceived (c : Nat) (f : FrameIn) (s : State) : State := s.frameIn c f

def execFrameReceived (c : Nat) (f : FrameIn) (s : State) : Host.Outcome State Fault Refusal :=
  .next (effFrameReceived c f s.newCycle)

/-! ### Timed defects -/

/-- Latch or unlatch a defect of a monitored receive context, and settle. -/
def State.latchDefect (s : State) (c k : Nat) (on : Bool) : State :=
  let d := s.defSt c
  let lat := if on then (if bit d.lat k then d.lat else d.lat + 2 ^ k) else (if bit d.lat k then d.lat - 2 ^ k else d.lat)
  (s.setDefSt c { d with lat := lat }).settle

/-- The layer code of a monitored receive context; 15 for any other context. -/
def State.layerOf (s : State) (c : Nat) : Nat :=
  match s.mapE c, s.path c with
  | some e, some p => if e.n MAPPING_dir = 0 then p.n FRAMING_layer else 15
  | _, _ => 15

/-- LOF_DECLARE: OOF has been present continuously for 3 ms. -/
def effLofDeclare (c : Nat) (s : State) : State :=
  if ownAlign (s.layerOf c) && s.on FRM_DEF_oof c && !s.on FRM_DEF_ssf c then s.latchDefect c 2 true else s
def execLofDeclare (c : Nat) (s : State) : Host.Outcome State Fault Refusal := .next (effLofDeclare c s.newCycle)

/-- LOF_CLEAR: IN_FRAME has held continuously for 3 ms. -/
def effLofClear (c : Nat) (s : State) : State :=
  if ownAlign (s.layerOf c) && s.on FRM_ALIGN_state c then s.latchDefect c 2 false else s
def execLofClear (c : Nat) (s : State) : Host.Outcome State Fault Refusal := .next (effLofClear c s.newCycle)

/-- LOM_DECLARE: OOM has held continuously for 3 ms, with none of SSF, OOF and LOF present. -/
def effLomDeclare (c : Nat) (s : State) : State :=
  if bit (defectLayers 3) (s.layerOf c) && s.on FRM_ALIGN_state c && !s.on FRM_ALIGN_im c
      && !s.on FRM_DEF_ssf c && !s.on FRM_DEF_oof c && !s.on FRM_DEF_lof c then
    s.latchDefect c 3 true
  else s
def execLomDeclare (c : Nat) (s : State) : Host.Outcome State Fault Refusal := .next (effLomDeclare c s.newCycle)

/-- LOM_CLEAR: IM has held continuously for 3 ms. -/
def effLomClear (c : Nat) (s : State) : State :=
  if bit (defectLayers 3) (s.layerOf c) && s.on FRM_ALIGN_im c then s.latchDefect c 3 false else s
def execLomClear (c : Nat) (s : State) : Host.Outcome State Fault Refusal := .next (effLomClear c s.newCycle)

/-! ### FlexE calendars (R111) -/

/-- FLEXE_CAL_SWITCH: at the first overhead multiframe boundary after CA, a transmit group switches C. -/
def effFlexeCalSwitch (c : Nat) (s : State) : State :=
  let k := s.calSt c
  match k.caGot, k.crNew with
  | true, some n =>
    let s := s.setCalSt c { k with txC := n, crNew := none, caGot := false }
    (s.set MAP_STATE_cal_tx n c).setB MAP_STATE_cr_pend false c
  | _, _ => s
def execFlexeCalSwitch (c : Nat) (s : State) : Host.Outcome State Fault Refusal := .next (effFlexeCalSwitch c s.newCycle)

/-- FLEXE_CA_TIMEOUT: no CA arrived within MAPPING.ca_timeout; the old calendar is kept. -/
def effFlexeCaTimeout (c : Nat) (s : State) : State :=
  if s.on MAP_STATE_cr_pend c && !(s.calSt c).caGot then
    let s := s.setCalSt c { s.calSt c with crNew := none }
    (s.setB MAP_STATE_cr_pend false c).report kFLEXE_CAL_TIMEOUT [(3, c)]
  else s
def execFlexeCaTimeout (c : Nat) (s : State) : Host.Outcome State Fault Refusal := .next (effFlexeCaTimeout c s.newCycle)

/-! ### Egress (R77, R88 to R90, R192, R193) -/

/-- The sink whose peer context a transmit context is (R90). Layers 0, 1 and 5 are always sinks, layers 2 and 3 in modes 1
and 3; other layers ignore FRAMING.mode (R76). -/
def State.sinkOf (s : State) (c : Nat) : Option Entry :=
  (s.entries FRAMING_ctx).find? fun p =>
    p.n FRAMING_peer_ctx == c && p.n FRAMING_ctx != c &&
      (match p.n FRAMING_layer with
       | 0 | 1 | 5 => true
       | 2 | 3 => p.n FRAMING_mode == 1 || p.n FRAMING_mode == 3
       | _ => false)

/-- Whether the Heset sources the overhead of a transmit context (R76): always that of layers 0, 1 and 5, of layers 2 and 3
where a path entry of mode 2 or 3 says so, where the ODU is terminated here, or where its signal is replaced. -/
def State.sources (s : State) (c : Nat) (e : Entry) : Bool :=
  match e.n MAPPING_kind with
  | 0 | 1 | 5 => true
  | 2 | 3 => (match s.path c with | some p => decide (2 ≤ p.n FRAMING_mode) | none => false) || e.b MAPPING_odu_mode
      || (s.egSt c).repl != 0
  | _ => false

/-- The groups that send APS in a transmit context: those whose aps_ctx it is, or is the peer of (R192). -/
def State.apsGroups (s : State) (c : Nat) : List Entry :=
  (s.entries PROTECTION_grp).filter fun q => q.b PROTECTION_aps && (q.n PROTECTION_aps_ctx == c ||
    (match s.path (q.n PROTECTION_aps_ctx) with | some p => p.n FRAMING_peer_ctx == c | none => false))

/-- The transmit clients of a server context. -/
def State.clientsOf (s : State) (c : Nat) : List Entry :=
  (kindOf s.img 4 0).filter fun e => e.n MAPPING_dir == 1 && e.n MAPPING_server == c && e.n MAPPING_ctx != c

/-- The PSI byte `i` that a transmit context sends (Table 3-5): PT, and from byte 2 the MSI of each tributary slot. -/
def State.psiByte (s : State) (c : Nat) (e : Entry) (i : Nat) : Nat :=
  if i = 0 then e.n MAPPING_pt_tx
  else if e.n MAPPING_kind ≠ 1 ∨ i < 2 then 0
  else
    let t := i - 2
    match (s.clientsOf c).find? fun x => decide (x.n MAPPING_first ≤ t) &&
        decide (t < x.n MAPPING_first + (if x.n MAPPING_kind = 7 then 1 else x.n MAPPING_count)) with
    | some x => x.n MAPPING_msi_tx
    | none => 0

/-- The clients whose justification control a frame of a transmit context carries: those of an OPUCn in the frame of its
OMFI that their first tributary slot has; the one of a terminated ODU in every frame. -/
def State.jcClients (s : State) (c : Nat) (e : Entry) : List Entry :=
  (s.clientsOf c).filter fun x => usesJc s.img x && (e.n MAPPING_kind != 1 || x.n MAPPING_first % 20 == (s.egSt c).omfi)

/-- A client of an ODUflex by IMP has the blocks of one payload ready (R108): its rate adaptation gives what its queue
lacks; `fuel` bounds the blocks. -/
def State.fillImp (s : State) (c : Nat) : Nat → State
  | 0 => s
  | n + 1 =>
    if 121856 ≤ (s.mapSt c).q.n then s
    else
      let (b, s) := s.adaptOut c
      (s.feed c 66 (b.sync % 4 + 4 * b.data)).fillImp c n

/-- The payload that a frame of a transmit context carries: its clients' words under their Cm (R107, R108). The frame of a
terminated ODU itself becomes bytes that wait to be mapped into the OPUCn; its 64 overhead bytes are a free value there,
since the spec leaves their places to G.709. -/
def State.mapPayload (s : State) (c : Nat) (e : Entry) : List (Nat × Nat × Nat × List Nat) × State :=
  (s.jcClients c e).foldl (fun (a : List (Nat × Nat × Nat × List Nat) × State) x =>
    let s := if serverKind a.2.img x = 3 then a.2.fillImp (x.n MAPPING_ctx) 1847 else a.2
    let (j, s) := s.mapClient x
    let s := if e.n MAPPING_kind = 1 then s
      else
        let (w, p) := jcShape s.img x
        let (oh, s) := s.draw
        s.feed c (512 + w * p) (oh % 2 ^ 512 + j.2.2.2.foldr (fun v a => v + a * 2 ^ w) 0 * 2 ^ 512)
    (a.1 ++ [j], s)) ([], s)

/-- The receive group of a transmit FlexE group's lead. -/
def State.flexeRx (s : State) (e : Entry) : Option Entry :=
  (kindOf s.img 4 0).find? fun x => x.n MAPPING_kind == 5 && x.n MAPPING_dir == 0 && x.n MAPPING_lead == e.n MAPPING_lead

/-- The frame that a transmit context sends (Table 3-5, transmitted), where the Heset sources its overhead or its APS bytes. -/
def State.sendFrame (s : State) (c : Nat) (e : Entry) (aps : Option (List Nat)) : State :=
  let k := e.n MAPPING_kind
  let src := s.sources c e
  if 5 < k ∨ k = 4 ∨ (!src && aps.isNone) then s
  else
    let g := s.egSt c
    let tti := match s.path c with
      | some p => if k ≤ 1 ∨ 2 ≤ p.n FRAMING_mode then p.n FRAMING_tx_tti / 2 ^ (8 * (g.mfas % 64)) % 256 else 0
      | none => 0
    let (jc, s) := if src then s.mapPayload c e else ([], s)
    let (bip, s) := if k = 5 then (0, s) else s.draw
    let cal := s.calSt c
    let o : OhOut :=
      if k = 5 then
        let rx := s.flexeRx e
        { ctx := c, src := src, mfas := g.mfas % 32, gnum := (s.frGroup (e.n MAPPING_lead)).n FRAMING_flexe_gnum
          phymap := (flexePhys s.img (e.n MAPPING_lead)).map fun m => (s.lane m).n LANES_flexe_phy
          rpf := match rx with | some x => s.on FRM_DEF_tsf (x.n MAPPING_ctx) | none => false
          c := cal.txC, cr := cal.crNew, ca := (rx.map fun x => (s.calSt (x.n MAPPING_ctx)).ansCa).getD none }
      else
        { ctx := c, src := src, mfas := g.mfas, omfi := if k = 1 then g.omfi else 0, tti := if src then tti else 0
          bip := if src then bip % 256 else 0, bei := g.bei, bdi := g.bdi
          stat := if k = 0 ∨ !src then 0 else match g.repl with | 0 => 1 | 1 => 7 | _ => 6
          psi := if k = 0 ∨ !src then 0 else s.psiByte c e g.mfas, aps := aps, jc := jc }
    { s with out := { s.out with frames := s.out.frames ++ [o] } }

/-- EGRESS_FRAME_BOUNDARY (R77, R88 to R90, R192, R193): the blocks received since the last frame boundary decide whether
the signal is replaced; the peer of a sink sends its BDI and BEI; a group's APS context, or its peer, sends the group's
APS bytes in the frames whose MFAS bits 2:0 are 0. -/
def effEgressFrameBoundary (c : Nat) (s : State) : State :=
  match s.mapE c with
  | none => s
  | some e =>
    if e.n MAPPING_dir != 1 then s
    else
      let g := s.egSt c
      let clean := g.good && g.last == 0
      let repl := if g.fail && !clean then 1 else if g.ueq && !clean then 2 else if g.good then 0 else g.repl
      let (bdi, bei) := match s.sinkOf c with
        | some p => (s.on FRM_DEF_tsf (p.n FRAMING_ctx), tget (fun _ => 0) s.fr.bei (p.n FRAMING_ctx))
        | none => (false, 0)
      let s := s.setEgSt c { g with fail := false, ueq := false, good := false, repl := repl, bdi := bdi, bei := bei }
      let groups := if e.n MAPPING_kind = 1 ∨ e.n MAPPING_kind = 2 ∨ e.n MAPPING_kind = 3 then s.apsGroups c else []
      let due := groups != [] && g.mfas % 8 == 0
      let s := if due then forEach groups s fun s q =>
          let b := s.apsSent q
          let n := q.n PROTECTION_grp
          (s.set QS_GRP_APS_tx_req (b.getD 0 0) n).set QS_GRP_APS_tx_br (b.getD 2 0) n
        else s
      let aps := if due then groups.head?.map s.apsSent else none
      let s := s.sendFrame c e aps
      s.setEgSt c { s.egSt c with mfas := (g.mfas + 1) % 256, omfi := (g.omfi + 1) % 20 }
def execEgressFrameBoundary (c : Nat) (s : State) : Host.Outcome State Fault Refusal :=
  .next (effEgressFrameBoundary c s.newCycle)

end Sys2Proof.Machine
end

