-- ==== Sys2Proof/Machine/Regions.lean ====
section
/-!
DEFINITION. Sys2Proof/Machine/Regions.lean: the DDR5 regions (R359, R412, Table 16-2) and whether a use of DDR5 is
available (R409).
-/
namespace Sys2Proof.Machine

/-- A DDR5 region: base and size in units of 64 MiB, and whether it is secure. -/
structure Region where
  base : Nat
  size : Nat
  sec  : Bool
  deriving DecidableEq, Repr

/-- Table 16-2: the default region of an index, and the units its use needs. -/
def regionDefault : Nat → Option Region
  | 0 => some ⟨0, 4, true⟩ | 1 => some ⟨4, 2, false⟩ | 2 => some ⟨6, 10, false⟩ | 3 => some ⟨16, 124, false⟩ | _ => none

/-- Whether two regions overlap. -/
def Region.meets (a b : Region) : Bool := decide (a.base < b.base + b.size) && decide (b.base < a.base + a.size)

/-- The regions that SECURITY defines, by index. -/
def securityRegions (l : List Section) : List (Nat × Region) :=
  (kindOf l SECURITY_rgn.sec SECURITY_rgn.kind).map fun e =>
    (e.n SECURITY_rgn, ⟨e.n SECURITY_ddr_base, e.n SECURITY_ddr_size, e.b SECURITY_ddr_world⟩)

/-- The region of an index: that of SECURITY, else the default unless it overlaps a region of SECURITY (R412). -/
def regionIn (l : List Section) (i : Nat) : Option Region :=
  match (securityRegions l).find? fun p => p.1 == i with
  | some p => some p.2
  | none => match regionDefault i with
    | some r => if (securityRegions l).any fun p => p.2.meets r then none else some r
    | none => none
def State.region (s : State) (i : Nat) : Option Region := regionIn s.img i

/-- Units of 64 MiB in use (R405). -/
def State.ddrUnits (s : State) : Nat := 16 * s.get DC_ST_cap_gib

/-- The fitted DDR5 channels of a DEVICE.ddr_chan code (R404). -/
def fittedChannels (chan : Nat) : List Nat :=
  match chan with
  | 1 => [0, 4] | 2 => [0, 1, 4, 5] | 3 => [0, 1, 2, 3, 4, 5, 6, 7] | _ => []

/-- Capacity in use in GiB (R404, R405). -/
def capGib (chan width density : Nat) : Nat :=
  min 128 (2 * (fittedChannels chan).length * ((if width = 1 then 4 else 8) + density * (if width = 1 then 2 else 4)))

/-- The capacity that the DEVICE section of a list gives, in units of 64 MiB. -/
def ddrUnitsOf (l : List Section) : Nat :=
  16 * capGib (globalOf l DEVICE_ddr_chan) (globalOf l DEVICE_ddr_width) (globalOf l DEVICE_ddr_density)

/-- Units of a region that lie within a capacity: none where the region is absent or lies beyond it. -/
def unitsHeld (r : Option Region) (units : Nat) : Nat :=
  match r with
  | some r => min r.size (units - r.base)
  | none => 0

/-- Units held for a use. -/
def State.regionHeld (s : State) (i : Nat) : Nat := unitsHeld (s.region i) s.ddrUnits

/-- DDR5 is UP (R407). -/
def State.ddrUp (s : State) : Bool := s.get DC_ST_state == 2

/-- The record ring is available (R388, R409). -/
def State.ringOk (s : State) : Bool := s.ddrUp && decide (4 ≤ s.regionHeld 0)

/-- The harvest middles are available (R396, R409). -/
def State.middleOk (s : State) : Bool := s.ddrUp && decide (2 ≤ s.regionHeld 1)

/-- The PM history slot of a context lies within region 2 (R412). -/
def State.historyOk (s : State) (c : Nat) : Bool :=
  s.ddrUp && decide (2560 * (c + 1) ≤ 2 ^ 26 * s.regionHeld 2)

/-- The index of the region that holds a DDR5 address; 255 none. -/
def State.regionOf (s : State) (a : Nat) : Nat :=
  let u := (a - 0x8000000000) / 2 ^ 26
  ((List.range 16).find? fun i => match s.region i with
    | some r => decide (r.base ≤ u) && decide (u < r.base + r.size)
    | none => false).getD 255

end Sys2Proof.Machine
end

