-- ==== Sys2Proof/Machine/Evergreen.lean ====
section
/-!
DEFINITION. Sys2Proof/Machine/Evergreen.lean: the evergreen engine (R212 to R233): wraps, copies, deskew queues and playout.
-/
namespace Sys2Proof.Machine

def State.evgWrap (s : State) (w : Nat) : EvgWrap := tget (fun _ => {}) s.evg.wraps w
def State.setEvgWrap (s : State) (w : Nat) (v : EvgWrap) : State :=
  { s with evg := { s.evg with wraps := tset (fun _ => {}) s.evg.wraps w v } }

/-! ### ODU carriage (R105) -/

/-- `c` bytes of `data` dealt across the `n` slots of a source: its slot blocks in member order. -/
def dealBlocks (n c data : Nat) (fail : Bool) : List Blk :=
  (dealBytes n c data).map fun p => mkBlk p.1 p.2 fail false none

/-! ### Wraps (R215 to R218) -/

/-- The alignment word of Table 8-3. -/
def evgWord : List Byte := [0xE7, 0x18, 0x7E, 0x81, 0xDB, 0x24, 0xBD, 0x42]

/-- An evergreen frame: tag block and payload. -/
def evgFrame (seq idx : Nat) (jump srcFail : Bool) (trib : Nat) (payload : List Byte) : List Byte :=
  let tag := evgWord ++ beBytes 4 seq ++ beBytes 1 idx ++ beBytes 1 (128 * b2n jump + 64 * b2n srcFail) ++ beBytes 2 0
    ++ beBytes 4 trib ++ List.replicate 36 0 ++ beBytes 4 (crc32c payload)
  tag ++ beBytes 4 (crc32c tag) ++ payload

/-- The next frame of a wrap enters its stream, once 4,096 payload bytes wait; while the source fails, a frame of 0xFF
bytes with src_fail (R218). -/
def EvgWrap.begin (w : EvgWrap) (trib : Nat) (failing : Bool) : Option EvgWrap :=
  let f := fun (p : List Byte) (rest : List Byte) =>
    some { w with idx := w.idx + 1, buf := rest, out := evgFrame w.seq w.idx (0 < w.jump) failing trib p }
  if failing then f (List.replicate 4096 0xFF) []
  else if 4096 ≤ w.buf.length then f (w.buf.take 4096) (w.buf.drop 4096) else none

/-- Take up to `n` stream bytes; `fill` says that fill blocks are sent where no frame can begin (twig grain). -/
def EvgWrap.take (trib : Nat) (failing fill : Bool) : Nat → Nat → EvgWrap → List Byte × EvgWrap
  | 0, _, w => ([], w)
  | _, 0, w => ([], w)
  | fuel + 1, n, w =>
    if w.out.isEmpty then
      match w.begin trib failing with
      | some w => EvgWrap.take trib failing fill fuel n w
      | none => if fill then EvgWrap.take trib failing fill fuel n { w with out := List.replicate 64 0 } else ([], w)
    else
      let l := w.out.take n
      let (r, w) := EvgWrap.take trib failing fill fuel (n - l.length) { w with out := w.out.drop n }
      (l ++ r, w)

/-- Whether a source context fails (R218). -/
def State.ctxFails (s : State) (c : Nat) : Bool := s.on FRM_DEF_tsf c || (s.defSt c).rssf

/-- One grid period of an ODU wrap whose source brings `due` (units of 2^-24 byte) and `data`: the blocks of its engine
slots, in member order. -/
def State.wrapPeriod (s : State) (e : Entry) (due bytes data : Nat) : List Blk × State :=
  let i := e.n EVERGREEN_wrap
  let w := s.evgWrap i
  let failing := s.ctxFails (e.n EVERGREEN_w_src)
  let size := wrapSize s.img e
  let due := if failing then nominalDue size else due
  let w := if failing then w else { w with buf := w.buf ++ leBytes bytes data }
  let acc := w.phase + due * 65
  let n := acc / 2 ^ 30
  let (l, w) := EvgWrap.take (e.n EVERGREEN_w_trib) failing false 16 n { w with phase := acc % 2 ^ 30 }
  (dealBlocks (carrierSize size) l.length (leNat l) false, s.setEvgWrap i w)

/-- The units of a receive host frame that twig wraps take as payload. -/
def State.wrapUnits (s : State) (h frame : Nat) : State :=
  forEach ((s.entries EVERGREEN_wrap).filter fun e => e.n EVERGREEN_w_grain == 1) s fun s e =>
    match s.mapE (e.n EVERGREEN_w_src) with
    | some c =>
      if c.n MAPPING_host = h ∧ !s.ctxFails (e.n EVERGREEN_w_src) then
        let n := 16 * c.n MAPPING_twig_n
        let d := frame / 2 ^ (8 * (320 + 16 * c.n MAPPING_twig_first)) % 2 ^ (8 * n)
        let w := s.evgWrap (e.n EVERGREEN_wrap)
        s.setEvgWrap (e.n EVERGREEN_wrap) { w with buf := w.buf ++ leBytes n d }
      else s
    | none => s

/-- The carrier bytes of every twig wrap for the output twig frame that begins. -/
def State.wrapFrame (s : State) : State :=
  forEach ((s.entries EVERGREEN_wrap).filter fun e => e.n EVERGREEN_w_grain == 1) s fun s e =>
    let w := s.evgWrap (e.n EVERGREEN_wrap)
    let n := 16 * carrierSize (wrapSize s.img e)
    let (l, w) := EvgWrap.take (e.n EVERGREEN_w_trib) (s.ctxFails (e.n EVERGREEN_w_src)) true (n + 8) n w
    s.setEvgWrap (e.n EVERGREEN_wrap) { w with units := leNat l }

/-- EVERGREEN_BLOCK_BOUNDARY (R216): each wrap's counter increments, modulo 2^32. -/
def effEvergreenBlockBoundary (s : State) : State :=
  forEach (s.entries EVERGREEN_wrap) s fun s e =>
    let w := s.evgWrap (e.n EVERGREEN_wrap)
    s.setEvgWrap (e.n EVERGREEN_wrap) { w with seq := (w.seq + 1) % 2 ^ 32, idx := 0, jump := w.jump - 1 }
def execEvergreenBlockBoundary (s : State) : Host.Outcome State Fault Refusal :=
  .next (effEvergreenBlockBoundary s.newCycle)

/-- On a takeover each counter jumps by 2^16, and the frames of the next 64 evergreen blocks carry the jump flag
(R231). -/
def State.jumpWraps (s : State) : State :=
  forEach (s.entries EVERGREEN_wrap) s fun s e =>
    let w := s.evgWrap (e.n EVERGREEN_wrap)
    s.setEvgWrap (e.n EVERGREEN_wrap) { w with seq := (w.seq + 2 ^ 16) % 2 ^ 32, jump := 64 }

/-! ### Merges -/

/-- Frame slots of the middle of a merge (R228). -/
def middleNeed (e : Entry) : Nat :=
  let mbps10 := if e.n EVERGREEN_m_grain = 1 then e.n EVERGREEN_m_size * 100000 else e.n EVERGREEN_m_size * 52409000
  -- R in units of 100 bit/s, time in units of 0.1 ns
  ceilDiv (mbps10 * 100 * (e.n EVERGREEN_m_dmax * 10000 + e.n EVERGREEN_m_margin * 1024)) (32768 * 10 ^ 10)

/-- Frame slots that a merge has in the middle: those of its extent, none while DDR5 is not UP (R228, R409). -/
def State.middleSlots (s : State) (e : Entry) : Nat :=
  if s.ddrUp then ((s.evg.mids.find? fun k => k.1 == e.n EVERGREEN_merge).map fun k => k.2.2).getD 0 else 0

/-- The margin of a merge in CLK_FAB cycles. -/
def marginOf (e : Entry) : Int := (e.n EVERGREEN_m_margin * 128 : Nat)

/-! ### Keys (R216, R222, R224) -/

/-- The distance of a key past the last played key's seq, with its idx; keys compare by it. -/
def keyRank (base seq idx : Nat) : Nat := (seq + 2 ^ 32 - base) % 2 ^ 32 * 256 + idx

/-- Whether a key is equal to or behind the last played key. -/
def EvgMerge.behind (m : EvgMerge) (seq idx : Nat) : Bool :=
  match m.last with
  | none => false
  | some (q, i) =>
    let d := (seq + 2 ^ 32 - q) % 2 ^ 32
    decide (2 ^ 32 - 32768 ≤ d) || (d == 0 && decide (idx ≤ i))

/-- Whether a key lies in the window of R224. -/
def EvgMerge.inWindow (m : EvgMerge) (seq : Nat) : Bool :=
  match m.last with
  | none => true
  | some (q, _) => decide ((seq + 2 ^ 32 - q) % 2 ^ 32 ≤ 32768)

/-- The playout instant of a key as the other copy or the past gives it. -/
def EvgMerge.instOf (m : EvgMerge) (b : Bool) (seq idx : Nat) : Option Int :=
  match m.held.find? fun h => h.seq == seq && h.idx == idx && h.copyB != b && h.good && h.placed with
  | some h => some h.inst
  | none => (m.played.find? fun p => p.1 == seq && p.2.1 == idx).map fun p => p.2.2

/-- Mean spacing of the last 1,024 arrivals, in cycles; the nominal one before two frames have arrived. -/
def EvgMerge.spacing (m : EvgMerge) (e : Entry) : Nat :=
  match m.arrs with
  | a :: t =>
    match t.getLast? with
    | some z => (a - z) / t.length
    | none => if e.n EVERGREEN_m_grain = 1 then 4096000 / e.n EVERGREEN_m_size else 4096 * 128 * 100000 / (e.n EVERGREEN_m_size * 6708352)
  | [] => if e.n EVERGREEN_m_grain = 1 then 4096000 / e.n EVERGREEN_m_size else 4096 * 128 * 100000 / (e.n EVERGREEN_m_size * 6708352)

/-! ### The parts of the queue (R225, R226) -/

/-- Byte `i` of a frame. -/
def byteAt (frame i : Nat) : Byte := BitVec.ofNat 8 (frame / 2 ^ (8 * i))

/-- Bytes `i` to `i + n − 1` of a frame. -/
def bytesAt (frame i n : Nat) : List Byte := leBytes n (frame / 2 ^ (8 * i))

/-- The end mark that the engine writes after a frame of the middle: key, copy, good bit, and a CRC-32C over its 4,160
bytes. -/
def EvgHeld.endMark (h : EvgHeld) : EvgMark :=
  ⟨h.seq, h.idx, h.copyB, h.good, crc32c (leBytes 64 h.tag ++ leBytes 4096 h.data)⟩

/-- A frame written to the middle. -/
def EvgHeld.inMiddle (h : EvgHeld) : EvgHeld := { h with part := 1, mark := some h.endMark }

/-- Whether the engine takes a held frame at its playout: one that went through the middle only where its end mark is there
and its CRC matches. `err` says that DDR5 returned other bytes than were written. -/
def EvgHeld.taken (h : EvgHeld) (err : Bool) : Bool :=
  match h.mark with
  | some k => !err && k == h.endMark
  | none => true

/-- Frames whose instants are due by `lim` move to the head while it has room for `n` more. -/
def fillHead (lim : Int) : Nat → List EvgHeld → List EvgHeld
  | _, [] => []
  | 0, l => l
  | n + 1, h :: t =>
    if h.part != 2 && h.placed && decide (h.inst ≤ lim) then { h with part := 2 } :: fillHead lim n t
    else h :: fillHead lim (n + 1) t

/-- The end of the head's span: eight frame periods after the last playout (DEDUCED, log entry 88). -/
def EvgMerge.span (m : EvgMerge) (e : Entry) : Int := m.lastP + (8 * m.spacing e : Nat)

/-- The head takes the frames that fall within its span. -/
def EvgMerge.refill (m : EvgMerge) (e : Entry) : EvgMerge :=
  { m with held := fillHead (m.span e) (8 - inPart 2 m.held) m.held }

/-- The first frame of a part is dropped. -/
def dropOldest (p : Nat) : List EvgHeld → List EvgHeld
  | [] => []
  | h :: t => if h.part == p then t else h :: dropOldest p t

/-! ### Anchoring (R223) -/

/-- Anchor a merge: the key (seq, idx) plays at `p`; `offA` and `offB` are the offsets this gives. -/
def State.anchor (s : State) (e : Entry) (seq idx : Nat) (p : Int) (offA offB : Option Int) : State :=
  let i := e.n EVERGREEN_merge
  let m := s.evgMerge i
  let off := fun (h : EvgHeld) => if h.copyB then offB else offA
  let keep := m.held.filter fun h => (off h).isSome && decide (keyRank seq h.seq h.idx < 2 ^ 31 * 256)
    && decide (idx ≤ h.idx ∨ h.seq ≠ seq)
  let s := s.setEvgMerge i { m with
    anchored := true, a := { m.a with off := offA }, b := { m.b with off := offB }
    held := fillHead (p + (7 * m.spacing e : Nat)) 8
      (keep.map fun h => { h with inst := (h.arr : Int) + (off h).getD 0, placed := true })
    last := none, lastP := p - m.spacing e, played := [] }
  s.report kEVG_ANCHOR [(2, i)]

/-- Try to anchor at a key that both copies have delivered with good frames. -/
def State.tryAnchor (s : State) (e : Entry) : State :=
  let m := s.evgMerge (e.n EVERGREEN_merge)
  match m.held.filterMap fun h => if h.copyB then none else
      (m.held.find? fun k => k.copyB && k.seq == h.seq && k.idx == h.idx).map fun k => (h, k) with
  | (h, k) :: _ =>
    let p : Int := (max h.arr k.arr : Nat) + marginOf e
    s.anchor e h.seq h.idx p (some (p - h.arr)) (some (p - k.arr))
  | [] => s

/-- A flush of the whole queue is requested; what is held is discarded at the next frame boundary of the tail (R230). -/
def State.evgFlushReq (s : State) (i : Nat) : State := s.setEvgMerge i { s.evgMerge i with flush := true }

/-! ### Arrivals (R219 to R228) -/

/-- Whether a frame goes from the tail directly to the head: its playout instant falls within the head's span, or it is a
good frame that arrives while a bad frame of its key is held (R225). -/
def EvgMerge.near (m : EvgMerge) (e : Entry) (h : EvgHeld) : Bool :=
  (h.placed && decide (h.inst ≤ m.span e)) ||
    (h.good && m.held.any fun x => !x.good && x.seq == h.seq && x.idx == h.idx)

/-- Where an arriving frame goes (R225, R227, R228): the queue with it, or none where it is not stored, the tail being full
(false) or the middle (true). While the merge is not anchored nothing plays, and the oldest frame makes room for a new one
(DESIGN CHOICE, log entry 210). -/
def EvgMerge.place (m : EvgMerge) (e : Entry) (cap : Nat) (h : EvgHeld) : Except Bool (List EvgHeld) :=
  if !m.anchored then
    if cap = 0 then .ok ((if inPart 0 m.held < 8 then m.held else dropOldest 0 m.held) ++ [h])
    else .ok ((if inPart 1 m.held < cap then m.held else dropOldest 1 m.held) ++ [h.inMiddle])
  else if 8 ≤ inPart 0 m.held then .error false
  else if m.near e h then .ok (m.held ++ [if inPart 2 m.held < 8 then { h with part := 2 } else h])
  else if cap ≤ inPart 1 m.held then .error true
  else .ok (m.held ++ [h.inMiddle])

/-- A frame is stored in the queue. -/
def State.evgStore (s : State) (e : Entry) (h : EvgHeld) (tailFull : Bool) : State :=
  let i := e.n EVERGREEN_merge
  let m := s.evgMerge i
  match (if tailFull then .error false else m.place e (s.middleSlots e) h) with
  | .error false => ((s.inc EVG_M_DROP_bp_drop i).inc EVG_DDR_bp_drop).irqSet 261
  | .error true => (s.inc EVG_M_DROP_ovf i).irqSet 261
  | .ok held =>
    let first := h.good && !(m.held.any fun x => x.good && x.seq == h.seq && x.idx == h.idx)
    let s := s.setEvgMerge i { m with
      held := held, arrs := if first then (h.arr :: m.arrs).take 1025 else m.arrs }
    (s.incW EVG_M_QW_written i).setB EVG_M_ST_stored h.copyB i

/-- The frames of a copy that was without an offset have their instants once another copy's frame gives one of them its
playout instant `p` (R221). -/
def EvgMerge.measure (m : EvgMerge) (b : Bool) (seq idx : Nat) (p : Int) : EvgMerge :=
  match m.held.find? fun h => h.seq == seq && h.idx == idx && h.copyB == b && h.good && !h.placed with
  | some h =>
    let off := p - h.arr
    let held := m.held.map fun x => if x.copyB == b && !x.placed then { x with inst := (x.arr : Int) + off, placed := true } else x
    { m.setCopy b { m.copy b with off := some off } with held := held }
  | none => m

/-- The offsets of an anchored merge after an arrival on copy `b`: measured where it has none, re-measured where it strays by
more than 128 cycles, and that of the other copy measured where the frame of this key came first on it (R221). -/
def State.evgOffset (s : State) (e : Entry) (b : Bool) (seq idx cyc : Nat) : State :=
  let i := e.n EVERGREEN_merge
  let m := s.evgMerge i
  let c := m.copy b
  match m.instOf b seq idx, c.off with
  | some p, none => s.setEvgMerge i (m.setCopy b { c with off := some (p - cyc) })
  | some p, some o =>
    if 128 < ((cyc : Int) + o - p).natAbs then
      (s.setEvgMerge i (m.setCopy b { c with off := some (p - cyc) })).report kEVG_OFFSET
        [(2, i), (1, b2n b), (4, unsignedOf 26 o), (4, unsignedOf 26 (p - cyc))]
    else s
  | none, some o => s.setEvgMerge i (m.measure (!b) seq idx (cyc + o))
  | none, none => s

/-- A frame of a copy that is in frame, with its trib accepted. -/
def State.evgTake (s : State) (e : Entry) (b : Bool) (cyc frame : Nat) (good tailFull : Bool) : State :=
  let i := e.n EVERGREEN_merge
  let seq := beNat (bytesAt frame 8 4)
  let idx := (byteAt frame 12).toNat
  let m := s.evgMerge i
  let h : EvgHeld := { seq := seq, idx := idx, copyB := b, good := good, srcFail := bit (byteAt frame 13).toNat 6, arr := cyc, inst := 0,
                       data := frame / 2 ^ 512 % 2 ^ 32768, tag := frame % 2 ^ 512, placed := false }
  if !m.anchored then
    if good && !(m.held.any fun x => x.copyB == b && x.seq == seq && x.idx == idx) then
      (s.evgStore e h tailFull).tryAnchor e
    else s
  else if !m.behind seq idx && !m.inWindow seq then
    let c := m.copy b
    if !good || s.copyState e m b != 3 then s
    else if c.outRun + 1 < 3 then s.setEvgMerge i (m.setCopy b { c with outRun := c.outRun + 1 })
    else
      let s := s.setEvgMerge i ((m.setCopy false { m.a with outRun := 0 }).setCopy true { m.b with outRun := 0 })
      ((s.evgFlushReq i).inc EVG_M_DUP_resyncs i).report kEVG_RESYNC [(2, i)]
  else
    let s := if good then s.setEvgMerge i (m.setCopy b { m.copy b with outRun := 0 }) else s
    let s := if good then s.evgOffset e b seq idx cyc else s
    let m := s.evgMerge i
    if m.behind seq idx || m.held.any (fun x => x.good && x.seq == seq && x.idx == idx) then s.inc EVG_M_DUP_dup i
    else match (m.copy b).off with
      | some o => s.evgStore e { h with inst := (cyc : Int) + o, placed := true } tailFull
      | none => s.evgStore e h tailFull

/-- EVG_FRAME_ARRIVAL (R219 to R228): a frame of 4,160 bytes completes on copy A or B of merge `i` in CLK_FAB cycle
`cyc`; `found` are the positions at which the alignment word matched in the window, read while the copy hunts. -/
def effEvgFrameArrival (i : Nat) (b : Bool) (cyc frame : Nat) (found : List Nat) (tailFull : Bool) (s : State) : State :=
  match s.entry EVERGREEN_merge i with
  | none => s
  | some e =>
    let m := s.evgMerge i
    let c := m.copy b
    let s :=
      if s.copyDown e b then s.setEvgMerge i (m.setCopy b { c with align := {}, inFrame := false, outRun := 0 })
      else if !c.inFrame then
        let a := if c.align.n = 0 then { c.align with n := s.gl EVERGREEN_al_n } else c.align
        let cands := nextCands a.cands (dedup found)
        match cands.filter fun x => decide (a.n ≤ x.2) with
        | [] => s.setEvgMerge i (m.setCopy b { c with align := { a with cands := cands } })
        | [x] =>
          let s := s.setEvgMerge i (m.setCopy b
            { c with align := { pos := x.1 }, inFrame := true, foreign := 0, match_ := 0, off := none })
          if a.amb = 0 then s
          else s.report kALIGN_AMBIGUOUS [(3, e.n (if b then EVERGREEN_m_copy_b else EVERGREEN_m_copy_a)), (2, a.amb)]
        | _ => s.setEvgMerge i (m.setCopy b { c with align := { n := min (a.n + 2) 7, amb := a.amb + 1 } })
      else
        let tagOk := bytesAt frame 0 8 == evgWord && crc32c (bytesAt frame 0 60) == beNat (bytesAt frame 60 4)
        let good := tagOk && crc32c (bytesAt frame 64 4096) == beNat (bytesAt frame 56 4)
        let errs := if tagOk then 0 else c.align.errs + 1
        if s.gl EVERGREEN_al_m ≤ errs then s.setEvgMerge i (m.setCopy b { c with align := {}, inFrame := false })
        else
          let same := beNat (bytesAt frame 16 4) == e.n EVERGREEN_m_trib
          let c := { c with align := { c.align with errs := errs } }
          let c := if !tagOk then c else if same then { c with foreign := 0, match_ := min 3 (c.match_ + 1) }
            else { c with foreign := min 3 (c.foreign + 1), match_ := 0 }
          let turn := !c.wrong && c.foreign == 3
          let c := { c with wrong := if c.wrong then decide (c.match_ < 3) else turn }
          let s := s.setEvgMerge i (m.setCopy b c)
          let s := if turn then s.report kTRIB_MISMATCH [(2, i), (1, b2n b), (4, beNat (bytesAt frame 16 4))] else s
          if c.wrong || (tagOk && !same) then s else s.evgTake e b cyc frame good tailFull
    s.settleMerge e
def execEvgFrameArrival (i : Nat) (b : Bool) (cyc frame : Nat) (found : List Nat) (tailFull : Bool) (s : State) :
    Host.Outcome State Fault Refusal := .next (effEvgFrameArrival i b cyc frame found tailFull s.newCycle)

/-! ### Playout (R221, R222, R227) -/

/-- Append 4,096 bytes to what a merge has played. -/
def EvgMerge.push (m : EvgMerge) (data : Nat) (fail : Bool) : EvgMerge :=
  { m with out := m.out ++ [EvgSeg.mk 4096 (if fail then 0 else data) fail] }

/-- The held frame of lowest key among those due. -/
def lowestKey (base : Nat) : List EvgHeld → Option EvgHeld
  | [] => none
  | h :: t => match lowestKey base t with
    | some k => if keyRank base k.seq k.idx < keyRank base h.seq h.idx then some k else some h
    | none => some h

/-- EVG_PLAYOUT (Table 8-5): `late` says that the DDR5 read of a frame of the middle is still outstanding, so that the frame
is not yet in the head, and `markBad` that DDR5 returns other bytes than were written for the frame to be played. -/
def effEvgPlayout (i cyc : Nat) (late markBad : Bool) (s : State) : State :=
  match s.entry EVERGREEN_merge i with
  | none => s
  | some e =>
    let m := s.evgMerge i
    let s :=
      if !m.anchored then s.setEvgMerge i (m.push 0 true)
      else match lowestKey ((m.last.map (·.1)).getD ((m.held.head?.map (·.seq)).getD 0))
          (m.held.filter fun h => h.placed && decide (h.inst ≤ cyc)) with
        | some h =>
          let all := m.held.filter fun x => x.seq == h.seq && x.idx == h.idx
          let m' := EvgMerge.refill (e := e) { m with
            held := m.held.filter fun x => !(x.seq == h.seq && x.idx == h.idx)
            last := some (h.seq, h.idx), lastP := h.inst, played := ((h.seq, h.idx, h.inst) :: m.played).take 131072 }
          let s := s.set EVG_M_SEQ_seq h.seq i
          let all := all.filter fun x => !(late && x.mark.isSome)
          let best := (all.find? (·.good)).or all.head?
          let fails := match best with | some x => !x.taken markBad | none => false
          let s := if fails then (s.inc EVG_DDR_mark_err).irqSet 262 else s
          let all := if fails then all.filter fun x => some x != best else all
          let good := all.find? (·.good)
          let pick := if good.isSome then good else all.head?
          let s := match pick with
            | some x => ((s.incW EVG_M_QR_played i).setB EVG_M_ST_last x.copyB i)
            | none => s
          (match good, all.head? with
          | some g, some f =>
            let s := if f.good then s else if f.copyB then s.inc EVG_M_ERR_bad_b i else s.inc EVG_M_ERR_bad_a i
            s.setEvgMerge i ({ m' with hold := g.inst - g.arr }.push g.data g.srcFail)
          | none, some f => (s.inc EVG_M_LOSS_both_bad i).setEvgMerge i ({ m' with hold := f.inst - f.arr }.push f.data false)
          | _, none => (s.inc EVG_M_LOSS_missing i).setEvgMerge i (m'.push 0 true))
        | none =>
          let next := m.lastP + m.spacing e
          if next + 128 ≤ (cyc : Int) then
            (s.inc EVG_M_LOSS_missing i).setEvgMerge i ((({ m with lastP := next } : EvgMerge).refill e).push 0 true)
          else s
    s.settleMerge e
def execEvgPlayout (i cyc : Nat) (late markBad : Bool) (s : State) : Host.Outcome State Fault Refusal :=
  .next (effEvgPlayout i cyc late markBad s.newCycle)

/-- EVG_ACQ_TIMEOUT (R223): m_acq has expired without both copies aligned, so the merge anchors on the single copy, at
its latest frame. With both aligned it goes on to the first key that both deliver. -/
def effEvgAcqTimeout (i : Nat) (s : State) : State :=
  match s.entry EVERGREEN_merge i with
  | none => s
  | some e =>
    let m := s.evgMerge i
    if m.anchored || (s.copyState e m false == 3 && s.copyState e m true == 3) then s
    else
      let b := s.copyState e m false != 3
      match (m.held.filter fun h => h.copyB == b && h.good).getLast? with
      | none => s
      | some h =>
        let p := (h.arr : Int) + marginOf e
        (s.anchor e h.seq h.idx p (if b then none else some (marginOf e)) (if b then some (marginOf e) else none)).settleMerge e
def execEvgAcqTimeout (i : Nat) (s : State) : Host.Outcome State Fault Refusal := .next (effEvgAcqTimeout i s.newCycle)

/-- A re-anchoring by `d` cycles moves every offset and every playout instant. -/
def EvgMerge.shift (m : EvgMerge) (d : Int) : EvgMerge :=
  let held : List EvgHeld := m.held.map fun h => { h with inst := h.inst + d }
  let played : List (Nat × Nat × Int) := m.played.map fun p => (p.1, p.2.1, p.2.2 + d)
  { m with
    a := { m.a with off := m.a.off.map (· + d), dmax := false }
    b := { m.b with off := m.b.off.map (· + d), dmax := false }
    held := held, lastP := m.lastP + d, played := played }

/-- EVG_REANCHOR (R223): playout pauses so that a LATE copy has its margin. With the other copy present it takes place
only where m_reanchor is 1. -/
def effEvgReanchor (i : Nat) (b : Bool) (s : State) : State :=
  match s.entry EVERGREEN_merge i with
  | none => s
  | some e =>
    let m := s.evgMerge i
    match (m.copy b).off with
    | none => s
    | some o =>
      let other := s.copyState e m (!b)
      if !m.anchored || s.copyState e m b != 2 || (!e.b EVERGREEN_m_reanchor && decide (2 ≤ other)) then s
      else
        let d := marginOf e - o
        let offs := ([false, true].filterMap fun x => if 2 ≤ s.copyState e m x then (m.copy x).off else none).map (· + d)
        if offs.any fun x => decide (((e.n EVERGREEN_m_dmax * 1250 : Nat) : Int) < x) then
          if (m.copy b).dmax then s
          else (s.setEvgMerge i (m.setCopy b { m.copy b with dmax := true })).report kEVG_DMAX [(2, i), (1, b2n b)]
        else
          (((s.setEvgMerge i ((m.shift d).push 0 true)).inc EVG_M_DUP_reanchors i).report kEVG_REANCHOR
            [(2, i), (4, d.toNat)]).settleMerge e
def execEvgReanchor (i : Nat) (b : Bool) (s : State) : Host.Outcome State Fault Refusal :=
  .next (effEvgReanchor i b s.newCycle)

/-- EVG_NO_USABLE_TIMEOUT (R223): 1,024 frame periods without a USABLE copy request a flush. -/
def effEvgNoUsableTimeout (i : Nat) (s : State) : State :=
  match s.entry EVERGREEN_merge i with
  | none => s
  | some e =>
    let m := s.evgMerge i
    if !m.anchored || s.copyState e m false == 3 || s.copyState e m true == 3 then s else s.evgFlushReq i
def execEvgNoUsableTimeout (i : Nat) (s : State) : Host.Outcome State Fault Refusal :=
  .next (effEvgNoUsableTimeout i s.newCycle)

/-- EVG_FLUSH (R230): a requested flush takes effect. The frames held are discarded, the frame that was in progress at
the request among them, and the merge anchors afresh. -/
def effEvgFlush (i : Nat) (s : State) : State :=
  match s.entry EVERGREEN_merge i with
  | none => s
  | some e =>
    let m := s.evgMerge i
    if !m.flush then s
    else
      (s.setEvgMerge i { m with
        anchored := false, held := [], last := none, played := [], flush := false
        a := { m.a with off := none }, b := { m.b with off := none } }).settleMerge e
def execEvgFlush (i : Nat) (s : State) : Host.Outcome State Fault Refusal := .next (effEvgFlush i s.newCycle)

/-! ### What a merge delivers -/

/-- Take up to `n` played bytes: the bytes, how many, and whether any of them is fail-marked. -/
def takeSegs : Nat → List EvgSeg → Nat × Nat × Bool × List EvgSeg
  | 0, l => (0, 0, false, l)
  | _, [] => (0, 0, false, [])
  | n + 1, x :: t =>
    if n + 1 < x.left then
      (x.data % 2 ^ (8 * (n + 1)), n + 1, x.fail, ⟨x.left - (n + 1), x.data / 2 ^ (8 * (n + 1)), x.fail⟩ :: t)
    else
      let (d, k, f, r) := takeSegs (n + 1 - x.left - b2n (x.left == 0)) t
      (x.data + d * 2 ^ (8 * x.left), x.left + k, x.fail || f, r)

/-- One grid period of an ODU merge: the blocks of its engine slots, at the rate at which frames arrive. -/
def State.mergePeriod (s : State) (e : Entry) : List Blk × State :=
  let i := e.n EVERGREEN_merge
  let m := s.evgMerge i
  let acc := m.phase + 4096 * 128 * 2 ^ 24 / max 1 (m.spacing e)
  let (d, k, f, r) := takeSegs (acc / 2 ^ 24) m.out
  (dealBlocks (e.n EVERGREEN_m_size) k d (f || k == 0), s.setEvgMerge i { m with out := r, phase := acc % 2 ^ 24 })

/-- The units of every twig merge for the output twig frame that begins. -/
def State.mergeFrame (s : State) : State :=
  forEach ((s.entries EVERGREEN_merge).filter fun e => e.n EVERGREEN_m_grain == 1) s fun s e =>
    let i := e.n EVERGREEN_merge
    let m := s.evgMerge i
    let n := 16 * e.n EVERGREEN_m_size
    let (d, k, f, r) := takeSegs n m.out
    s.setEvgMerge i { m with out := r, units := d, unitFail := f || decide (k < n) }

end Sys2Proof.Machine
end

