-- ==== Sys2Proof/Machine/Load.lean ====
section
/-!
DEFINITION. Sys2Proof/Machine/Load.lean: the single pass of the loader over a section body (R12, R14, R317, R322 to R326):
body and entry structure, TLVs, ranges, clamp rules, absent fields, and CLAMP records.
-/
namespace Sys2Proof.Machine

/-- A clamp (Table 12-7). `rule` 0 SAT, 1 DEF, 2 DROP, 3 REJ; `cause` by Table 12-8. -/
structure Clamped where
  sec   : Nat
  inst  : Nat
  field : Nat := 0
  sub   : Nat := 0
  rule  : Nat
  cause : Nat
  entry : Nat := 0xFFFFFFFF
  orig  : List Byte := []
  appl  : List Byte := []
  deriving DecidableEq, Repr

/-- A section instance as loaded so far: its kept entries, its clamps in the order written, and if it is rejected the
entry index of the cause (0xFF_FFFF for a section-level cause). -/
structure Loaded where
  sec     : Nat := 0
  inst    : Nat := 0
  entries : List Entry := []
  clamps  : List Clamped := []
  rej     : Option Nat := none
  deriving DecidableEq, Repr

/-- Reject a section for a cause, with its REJ record. -/
def Loaded.reject (x : Loaded) (entry cause : Nat) (field : Nat := 0) (orig : List Byte := []) (sub : Nat := 0) : Loaded :=
  if x.rej.isSome then x
  else { x with
    rej := some (min entry 0xFFFFFF)
    clamps := x.clamps ++ [{ sec := x.sec, inst := x.inst, field := field, sub := sub, rule := 3, cause := cause
                             entry := entry, orig := orig }] }

/-- A section-level structural fault. -/
def Loaded.structural (x : Loaded) : Loaded := x.reject 0xFFFFFFFF 5

/-- Drop the entries of the given indices for a cause, one record each, which carries field `field` with its value in the
entry as the original value, or no field. -/
def Loaded.drop (x : Loaded) (idxs : List Nat) (cause : Nat) (field : Nat := 0) (orig : Entry → List Byte := fun _ => []) :
    Loaded :=
  { x with
    entries := x.entries.filter fun e => !idxs.contains e.idx
    clamps := x.clamps ++ ((x.entries.filter fun e => idxs.contains e.idx).map fun e =>
      { sec := x.sec, inst := x.inst, field := field, rule := 2, cause := cause, entry := e.idx, orig := orig e }) }

/-! ### Structure (R317) -/

/-- A TLV. -/
structure Tlv where
  fid : Nat
  sub : Nat
  val : List Byte
  deriving DecidableEq, Repr

/-- The TLVs of an entry up to one that runs past it, and whether none does. -/
def tlvsOf : Nat → List Byte → List Tlv × Bool
  | _, [] => ([], true)
  | 0, _ => ([], false)
  | f + 1, l =>
    match l with
    | fid :: len :: s0 :: s1 :: t =>
      let n := len.toNat
      let padded := 4 * ceilDiv n 4
      if t.length < padded then ([], false)
      else
        let r := tlvsOf f (t.drop padded)
        (⟨fid.toNat, s0.toNat + 256 * s1.toNat, t.take n⟩ :: r.1, r.2)
    | _ => ([], false)

/-! ### Fields -/

/-- Bytes of a value of a field. -/
def ImgFld.bytes (f : ImgFld) : Nat := ceilDiv f.bits 8

/-- The value of a TLV in its field, where it fits (R323). -/
def fieldValue (f : ImgFld) (v : List Byte) : Option Int :=
  if v.length ≠ f.bytes then none
  else
    let n := leNat v
    if f.signed then
      let s := signedOf f.bits n
      if unsignedOf (8 * f.bytes) s = n then some s else none
    else if 2 ^ f.bits ≤ n then none else some n

/-- Whether a value lies in the range of its field; `kind` is the hit kind of a PLAN hit entry. -/
def inRange (f : ImgFld) (kind : Nat) (v : Int) : Bool :=
  match f.range with
  | .any => true
  | .span lo hi => decide (lo ≤ v) && decide (v ≤ hi)
  | .zeroBytes l => l.all fun b => v.toNat / 2 ^ (8 * b) % 256 == 0
  | .planSec => (decide (2 ≤ v) && decide (v ≤ 0x0C)) || v == 0x0E
  | .hitKey => decide (0 ≤ v) && decide (v ≤ (if kind = 1 then 153599 else 2559))
  | .pcSel => !bit v.toNat 30
  | .cvuSel => decide (v.toNat / 512 ≤ 2559) && decide (v.toNat % 512 ≤ 479)

/-- The nearer bound of a field's range; the default where the range has no bounds. -/
def nearBound (e : Entry) (f : ImgFld) (sub : Nat) (v : Int) : Int :=
  match f.range with
  | .span lo hi => clampI lo hi v
  | _ => defaultOf e f sub

/-- A value of a field as bytes. -/
def valueBytes (f : ImgFld) (v : Int) : List Byte := leBytes f.bytes (unsignedOf (8 * f.bytes) v)

/-- The clamp rule of the key of an entry kind (R323): LANES has the body index as key, of rule DROP. -/
def keyClamp (sec kind : Nat) : Clamp :=
  if sec = 2 then .drop
  else match (fieldsOf sec).find? fun f => f.kind == kind with
    | some f => match f.clamp with | .rej => .rej | _ => .drop
    | none => .drop

/-- An entry while its TLVs are checked: what is kept, the entry that supplies defaults, the TLVs seen, its clamps, and 1
once dropped, 2 once rejected. -/
structure EntryIn where
  e      : Entry
  whole  : Entry := e
  seen   : List (Nat × Nat) := []
  clamps : List Clamped := []
  stop   : Nat := 0
  deriving DecidableEq, Repr

/-- Take a clamp of a field. `value` is the applied value of a SAT or DEF clamp, and `ignored` says that the TLV names
no element of its array. -/
def EntryIn.clamp (x : EntryIn) (sec inst : Nat) (f : ImgFld) (t : Tlv) (cause : Nat) (value : Int) (ignored : Bool) :
    EntryIn :=
  let c : Clamped := { sec := sec, inst := inst, field := f.fid, sub := t.sub, rule := 0, cause := cause
                       entry := x.e.idx, orig := t.val }
  let a := if ignored then [] else valueBytes f value
  match f.clamp with
  | .sat => { x with clamps := x.clamps ++ [{ c with rule := 0, appl := a }] }
  | .dflt => { x with clamps := x.clamps ++ [{ c with rule := 1, appl := a }] }
  | .drop => { x with clamps := x.clamps ++ [{ c with rule := 2 }], stop := 1 }
  | .rej => { x with clamps := x.clamps ++ [{ c with rule := 3 }], stop := 2 }

/-- Give a field a value in the entry. -/
def Entry.put (e : Entry) (fid sub : Nat) (v : Int) : Entry :=
  { e with fields := (e.fields.filter fun p => !(p.1 == fid && p.2.1 == sub)) ++ [(fid, sub, v)] }

/-- A field takes its default: it is not listed. -/
def Entry.unput (e : Entry) (fid sub : Nat) : Entry :=
  { e with fields := e.fields.filter fun p => !(p.1 == fid && p.2.1 == sub) }

/-- The sub-indices of a field. -/
def subOk (f : ImgFld) (sub : Nat) : Bool :=
  match f.arr with
  | some (a, b) => decide (a ≤ sub) && decide (sub ≤ b)
  | none => sub == 0

/-- One TLV of an entry (R12, R323). `hit` is the hit kind that the entry gives. -/
def EntryIn.take (sec inst hit : Nat) (x : EntryIn) (t : Tlv) : EntryIn :=
  if x.stop ≠ 0 then x
  else match (fieldsOf sec).find? fun f => f.kind == x.e.kind && f.fid == t.fid with
    | none =>
      let c : Clamped := { sec := sec, inst := inst, field := t.fid, sub := t.sub, rule := 1, cause := 3
                           entry := x.e.idx, orig := t.val }
      if hasGlobal sec && x.e.kind == 0 then { x with clamps := x.clamps ++ [c] }
      else match keyClamp sec x.e.kind with
        | .rej => { x with clamps := x.clamps ++ [{ c with rule := 3 }], stop := 2 }
        | _ => { x with clamps := x.clamps ++ [{ c with rule := 2 }], stop := 1 }
    | some f =>
      let again := x.seen.contains (t.fid, t.sub)
      let x := { x with seen := (t.fid, t.sub) :: x.seen }
      let d := defaultOf x.whole f t.sub
      if !subOk f t.sub then x.clamp sec inst f t 1 0 true
      else match (if again then none else fieldValue f t.val) with
        | none => ({ x with e := x.e.unput t.fid t.sub } : EntryIn).clamp sec inst f t 1 d false
        | some v =>
          if inRange f hit v then { x with e := x.e.put t.fid t.sub v }
          else match f.clamp with
            | .sat =>
              let b := nearBound x.e f t.sub v
              ({ x with e := x.e.put t.fid t.sub b } : EntryIn).clamp sec inst f t 0 b false
            | _ => x.clamp sec inst f t 0 d false

/-- Whether a field without default applies to an entry (R324). FRAMING.flexe_gnum is checked with the lane groups. -/
def applies (e : Entry) (f : ImgFld) : Bool :=
  if f = MAPPING_lead then
    let k := e.n MAPPING_kind
    k == 0 || k == 5 || (k == 4 && e.n MAPPING_server == e.n MAPPING_ctx)
  else if f = MAPPING_host then e.n MAPPING_kind == 8 || (e.n MAPPING_kind == 7 && e.n MAPPING_dir == 0)
  else if f = MAPPING_twig_first then e.n MAPPING_kind == 8
  else if f = FRAMING_flexe_gnum then false
  else if f = EVERGREEN_w_first then e.n EVERGREEN_w_grain == 0
  else if f = EVERGREEN_w_host_a ∨ f = EVERGREEN_w_twig_a ∨ f = EVERGREEN_w_host_b ∨ f = EVERGREEN_w_twig_b then
    e.n EVERGREEN_w_grain == 1
  else if f = EVERGREEN_m_out_first then e.n EVERGREEN_m_grain == 0
  else if f = EVERGREEN_m_out_host ∨ f = EVERGREEN_m_out_twig then e.n EVERGREEN_m_grain == 1
  else if f = TIMING_c_lane then decide (16 ≤ e.n TIMING_cand) && decide (e.n TIMING_cand < 24)
  else true

/-- The first field without default that applies to an entry and is absent, with its sub-index (R324). A PLAN step
names at least one section, and an instance for each section that it names. -/
def absentField (sec : Nat) (e : Entry) : Option (ImgFld × Nat) :=
  (fieldsOf sec).findSome? fun f =>
    if f.kind ≠ e.kind ∨ f.dflt ≠ .absent then none
    else if f = PLAN_sec_id then
      if e.fields.any fun p => p.1 == f.fid then none else some (f, 0)
    else if f = PLAN_sec_inst then
      ((List.range 12).find? fun i => (e.given PLAN_sec_id.fid i).isSome && (e.given f.fid i).isNone).map fun i => (f, i)
    else if applies e f && (e.given f.fid 0).isNone then some (f, 0) else none

/-- The ranges of LANES that depend on the rate (Table 2-13): a PAM4-only profile at an NRZ rate, and a PAM4 pattern at an
NRZ rate or the reverse, take the default. -/
def EntryIn.laneRanges (x : EntryIn) (inst : Nat) : EntryIn :=
  let rate := x.e.n LANES_rate
  let nrz := decide (1 ≤ rate) && decide (rate ≤ 3)
  let take := fun (x : EntryIn) (f : ImgFld) (bad : Bool) (d : Int) =>
    if bad then ({ x with e := x.e.unput f.fid 0 } : EntryIn).clamp 2 inst f ⟨f.fid, 0, valueBytes f (x.e.i f)⟩ 0 d false
    else x
  let p := x.e.n LANES_profile
  let k := x.e.n LANES_test
  let x := take x LANES_profile (nrz && (p == 0 || decide (3 ≤ p))) 1
  take x LANES_test ((nrz && decide (1 ≤ k) && decide (k ≤ 3)) || (decide (4 ≤ rate) && k == 4)) 0

/-- One entry of a body: its TLVs, then its absent fields, then the ranges that depend on other fields. A field whose default
depends on other fields of the entry takes it from the whole entry. `ok` says that no TLV runs past the entry. -/
def loadEntry (x : Loaded) (idx kind : Nat) (tl : List Tlv) (ok : Bool) : Loaded :=
  let hit := match tl.find? fun t => x.sec == 16 && t.fid == PLAN_h_kind.fid with
    | some t => leNat t.val
    | none => 0
  let e : Entry := { kind := kind, idx := idx }
  let whole := (tl.foldl (EntryIn.take x.sec x.inst hit) { e := e }).e
  let r := tl.foldl (EntryIn.take x.sec x.inst hit) { e := e, whole := whole }
  let r := if r.stop ≠ 0 || !ok then r else match absentField x.sec r.e with
    | none => r
    | some (f, i) => r.clamp x.sec x.inst f ⟨f.fid, i, []⟩ 2 0 true
  let r := if r.stop = 0 && ok && x.sec == 2 then r.laneRanges x.inst else r
  let y := { x with
    entries := if r.stop = 0 then x.entries ++ [r.e] else x.entries
    clamps := x.clamps ++ r.clamps
    rej := if r.stop = 2 then some (min idx 0xFFFFFF) else none }
  if ok then y else y.reject idx 5

/-- The entries of a body in order, and how many they are. A structural fault or a rejection ends the pass; `fuel` bounds the
number of entries. -/
def loadEntries : Nat → Loaded → Nat → Bool → List Byte → Loaded × Nat
  | _, x, idx, _, [] => (x, idx)
  | 0, x, idx, _, _ => (x.reject idx 5, idx)
  | fuel + 1, x, idx, glob, l =>
    match l with
    | k :: _ :: l0 :: l1 :: t =>
      let n := l0.toNat + 256 * l1.toNat
      let kind := k.toNat
      if n < 4 ∨ n % 4 ≠ 0 ∨ (t.take (n - 4)).length < n - 4 ∨ kindsOf x.sec ≤ kind ∨ (glob ∧ kind = 0 ∧ hasGlobal x.sec) then
        (x.reject idx 5, idx)
      else
        let tl := tlvsOf n (t.take (n - 4))
        let x := loadEntry x idx kind tl.1 tl.2
        if x.rej.isSome then (x, idx)
        else loadEntries fuel x (idx + 1) (glob || decide (kind = 0)) (t.drop (n - 4))
    | _ => (x.reject idx 5, idx)

/-- The pass over a section body (R317, R322): a fault in an entry is recorded with its index, one of the body header at the
level of the section (log entry 195). -/
def loadBody (sec inst : Nat) (b : List Byte) : Loaded :=
  let x : Loaded := { sec := sec, inst := inst }
  match b with
  | id :: fmt :: _ :: _ :: c0 :: c1 :: c2 :: c3 :: t =>
    if id.toNat ≠ sec ∨ fmt.toNat ≠ 1 then x.structural
    else
      let r := loadEntries t.length x 0 false t
      if r.1.rej.isNone ∧ leNat [c0, c1, c2, c3] ≠ r.2 then r.1.structural else r.1
  | _ => x.structural

/-! ### CLAMP records (R14, R326) -/

/-- The payload of a CLAMP record. A REJ is always in force (R162 names SAT, DEF and DROP). -/
def Clamped.payload (c : Clamped) (apply notInForce : Bool) : List Byte :=
  let pad := fun (l : List Byte) => (l ++ List.replicate 64 (0 : Byte)).take 64
  leBytes 1 c.sec ++ leBytes 1 c.inst ++ leBytes 1 c.field ++ leBytes 1 0 ++ leBytes 2 c.sub ++ leBytes 1 c.rule
    ++ leBytes 1 c.cause ++ leBytes 1 (b2n apply + 2 * b2n (notInForce && c.rule != 3) + 4 * b2n (decide (64 < c.orig.length)))
    ++ leBytes 1 (min c.orig.length 64) ++ leBytes 1 (min c.appl.length 64) ++ leBytes 1 0 ++ leBytes 4 c.entry
    ++ pad c.orig ++ pad c.appl

end Sys2Proof.Machine
end

