-- ==== Sys2Proof/Machine/Check.lean ====
section
/-!
DEFINITION. Sys2Proof/Machine/Check.lean: the reference and uniqueness checks of the sections (R324): R66, R98, R124, R152
and R155, R211, R234, R258 and R252, R283, R307, R336, R362 and R341, R403, R178. Every check takes the sections of the
post-step state, the section under check among them as its range checks left it.
-/
namespace Sys2Proof.Machine

/-- The kept entries of a kind. -/
def Loaded.kind (x : Loaded) (k : Nat) : List Entry := x.entries.filter fun e => e.kind == k

/-- The first index of each repeated key: the indices of the entries whose key an earlier entry holds. -/
def repeats {κ : Type} [BEq κ] (key : Entry → κ) : List Entry → List κ → List Nat
  | [], _ => []
  | e :: t, seen => if seen.contains (key e) then e.idx :: repeats key t seen else repeats key t (key e :: seen)

/-- Drop the entries of a kind whose key repeats (cause 4). -/
def Loaded.dropRepeats {κ : Type} [BEq κ] (x : Loaded) (k : Nat) (key : Entry → κ) : Loaded :=
  x.drop (repeats key (x.kind k) []) 4

/-- Drop the entries of a kind that fail a test (cause 4). -/
def Loaded.dropBad (x : Loaded) (k : Nat) (bad : Entry → Bool) : Loaded :=
  x.drop (((x.kind k).filter bad).map (·.idx)) 4

/-- Reject the section at the first entry of a kind that fails a test (cause 4). -/
def Loaded.rejectBad (x : Loaded) (k : Nat) (bad : Entry → Bool) : Loaded :=
  match (x.kind k).find? bad with
  | some e => x.reject e.idx 4
  | none => x

/-- Reject the section at the first entry of a kind whose key repeats. -/
def Loaded.rejectRepeats {κ : Type} [BEq κ] (x : Loaded) (k : Nat) (key : Entry → κ) (cause : Nat := 4) : Loaded :=
  match (repeats key (x.kind k) []).head? with
  | some i => x.reject i cause
  | none => x

/-- A field of an entry takes a value by rule DEF (cause `c`), with its record. -/
def Loaded.forceDef (x : Loaded) (i : Nat) (f : ImgFld) (sub : Nat) (old new : Int) (c : Nat) : Loaded :=
  { x with
    entries := x.entries.map fun e => if e.idx = i then e.put f.fid sub new else e
    clamps := x.clamps ++ [{ sec := x.sec, inst := x.inst, field := f.fid, sub := sub, rule := 1, cause := c, entry := i
                             orig := valueBytes f old, appl := valueBytes f new }] }

/-- The section of a load. -/
def Loaded.section_ (x : Loaded) : Section := { sec := x.sec, inst := x.inst, entries := x.entries }

/-- The post-step sections with the section under check as it now stands. -/
def Loaded.within (x : Loaded) (post : List Section) : List Section := putSection post x.section_

/-! ### LANES (R39 to R49, R66) -/

/-- Whether a rate allows a format (Table 2-2). -/
def rateAllows (rate fmt : Nat) : Bool :=
  match rate with
  | 1 | 2 | 3 => fmt == 5
  | 4 => fmt == 3 || fmt == 5
  | 5 => fmt == 2 || fmt == 3 || fmt == 4 || fmt == 5
  | 6 => fmt == 1 || fmt == 4 || fmt == 5
  | _ => false

/-- An entry that takes part in bonds: enabled, and not of format OFF. -/
def bonds (e : Entry) : Bool := e.b LANES_enable && e.n LANES_format != 0

/-- Whether two entries of a bond are equal in the fields of R49. -/
def sameBond (a b : Entry) : Bool :=
  [LANES_rate, LANES_format, LANES_width, LANES_profile, LANES_test, LANES_skew_max, LANES_term_step, LANES_ser_thresh,
    LANES_flexe_group, LANES_flexe_phy].all fun f => a.i f == b.i f

/-- Whether Table 2-7, R41 and R45 allow a bond with this lead entry. -/
def bondAllowed (e : Entry) : Bool :=
  let n := e.idx
  let f := e.n LANES_format
  let w := e.n LANES_width
  let place := if f = 4 then decide (128 ≤ n) else if f = 5 then true else decide (n < 128)
  let q := (if n < 128 then n else n - 128) % 4
  let lead := if w = 1 then true else if w = 2 then q == 0 || q == 2 else q == 0
  let shape :=
    if w = 1 then true
    else if w = 2 then f == 1 || f == 2 || (f == 3 && e.n LANES_rate == 5)
    else if w = 3 then f == 1
    else f == 1 || f == 2 || (f == 3 && e.n LANES_rate == 5)
  place && lead && shape

/-- The bonds of the entries that take part in bonds, by ascending index: lead entry and the entries, of `all`, of the lanes
that it claims. -/
def bondsOf (all : List Entry) : List Entry → List Nat → List (Entry × List Entry)
  | [], _ => []
  | e :: t, claimed =>
    if claimed.contains e.idx then bondsOf all t claimed
    else
      let ids := (List.range (e.n LANES_width)).map (e.idx + ·)
      (e, all.filter fun m => ids.contains m.idx) :: bondsOf all t (claimed ++ ids)

/-- The bonds that break R41, R45, R47 or Table 2-7 taken alone. -/
def brokenBond (b : Entry × List Entry) : Bool :=
  !bondAllowed b.1 || b.2.length != b.1.n LANES_width || b.2.any fun m => !bonds m || !sameBond b.1 m

/-- The FlexE PHYs that their group cannot take (R45): another type than its first PHY, a repeated PHY number, or a
ninth PHY. -/
def badPhys : List Entry → List Entry → List Entry
  | [], _ => []
  | e :: t, kept =>
    let g := kept.filter fun p => quadrantOf p.idx == quadrantOf e.idx && p.n LANES_flexe_group == e.n LANES_flexe_group
    let bad := decide (8 ≤ g.length) || g.any fun p =>
      p.n LANES_flexe_phy == e.n LANES_flexe_phy || p.n LANES_rate != e.n LANES_rate || p.n LANES_width != e.n LANES_width
    if bad then e :: badPhys t kept else badPhys t (kept ++ [e])

/-- Drop every member of broken bonds, malformed in its width field. -/
def Loaded.dropBonds (x : Loaded) (l : List (Entry × List Entry)) : Loaded :=
  x.drop (l.flatMap fun b => b.2.map (·.idx)) 1 LANES_width.fid fun e => valueBytes LANES_width (e.i LANES_width)

/-- The checks of LANES. -/
def checkLanes (x : Loaded) : Loaded :=
  let x := x.dropBad 0 fun e => decide (144 ≤ e.idx)
  let x := x.drop ((x.entries.filter fun e => bonds e && !rateAllows (e.n LANES_rate) (e.n LANES_format)).map (·.idx)) 0
    LANES_rate.fid fun e => valueBytes LANES_rate (e.i LANES_rate)
  let x := x.dropBonds ((bondsOf x.entries (x.entries.filter bonds) []).filter brokenBond)
  let flexe := bondsOf x.entries (x.entries.filter fun e => bonds e && e.n LANES_format == 3) []
  let bad := badPhys (flexe.map (·.1)) []
  let x := x.dropBonds (flexe.filter fun b => bad.any fun e => e.idx == b.1.idx)
  let mates := x.entries.filter fun e => bonds e && e.n LANES_format == 4
  match mates with
  | [] => x
  | m :: t => x.drop ((t.filter fun e => e.n LANES_rate != m.n LANES_rate).map (·.idx)) 4

/-! ### MAPPING (R124) -/

/-- Whether Table 4-1 allows the server of an entry. -/
def serverOk (l : List Section) (e : Entry) : Bool :=
  let k := e.n MAPPING_kind
  let own := e.n MAPPING_server == e.n MAPPING_ctx
  if k = 0 then own && isGroupLead l (e.n MAPPING_lead) 1
  else if k = 5 then own && isGroupLead l (e.n MAPPING_lead) 3
  else if k = 4 ∧ own then isGroupLead l (e.n MAPPING_lead) 2
  else if own then false
  else match mapOf l (e.n MAPPING_server) with
    | none => false
    | some sv =>
      let sk := sv.n MAPPING_kind
      sv.n MAPPING_dir == e.n MAPPING_dir &&
      (match k with
        | 1 => sk == 0
        | 2 | 3 => sk == 1
        | 4 => (sk == 2 || sk == 3) && sv.b MAPPING_odu_mode
        | 6 => sk == 5
        | 7 => sk == 1 || sk == 5
        | 8 => sk == 7
        | _ => false)

/-- The slots that an entry wants: from which index of its server group, and how many (R102). A kind 7 entry takes one slot
whatever MAPPING.count says: Tables 4-1 and 4-9 give it 1 and a range check alone bounds the field (DESIGN CHOICE, log entry
219). -/
def wantOf (e : Entry) : Nat × Nat :=
  match e.n MAPPING_kind with
  | 2 | 3 | 6 => (e.n MAPPING_first, e.n MAPPING_count)
  | 7 => (e.n MAPPING_first, 1)
  | _ => (0, 0)

/-- Whether the slots of an entry lie inside its server group, and its size is allowed (R109, R123, R124). -/
def sizeOk (l : List Section) (e : Entry) : Bool :=
  let k := e.n MAPPING_kind
  let (a, n) := wantOf e
  let inGroup := n == 0 || (match serverOf l e with
    | some sv => decide (a + n ≤ (ctxSlots l sv).length)
    | none => false)
  let cal := if k = 6 ∨ k = 7 then (match serverOf l e with
      | some sv => if sv.n MAPPING_kind = 5 then
          [MAPPING_cal_a, MAPPING_cal_b].all fun f =>
            decide ((sv.fields.filter fun p => p.1 == f.fid && p.2.2 == (e.n MAPPING_ctx : Int)).length ≤ n)
        else true
      | none => true) else true
  inGroup && cal && (k != 2 || e.n MAPPING_count == 20) &&
    (k != 8 || decide (e.n MAPPING_twig_first + e.n MAPPING_twig_n ≤ 480))

/-- What an entry claims among the entries of its direction, as numbers: slots by level, or twigs. -/
def claimsOf (l : List Section) (e : Entry) : List Nat :=
  let k := e.n MAPPING_kind
  if k = 8 then (List.range (e.n MAPPING_twig_n)).map fun t =>
    1000000 + 480 * e.n MAPPING_host + e.n MAPPING_twig_first + t
  else
    let level := if k = 0 ∨ k = 5 then 0 else if k = 1 then 1 else if k = 4 then 3 else 2
    (ctxSlots l e).map fun s => 10000 * level + s

/-- Sections without one entry of MAPPING. -/
def withoutMap (l : List Section) (idx : Nat) : List Section :=
  l.map fun s => if s.sec = 4 then { s with entries := s.entries.filter fun e => e.idx != idx } else s

/-- One pass in section order: the indices dropped. `l` holds the entries not dropped, against which servers are resolved,
`again` the entries whose key repeats, `claimed` the claims of the kept entries, `hosts` their receive host indices. -/
def mapPass (again : List Nat) : List Section → List Entry → List (Nat × Nat) → List Nat → List Nat
  | _, [], _, _ => []
  | l, e :: t, claimed, hosts =>
    if again.contains e.idx then e.idx :: mapPass again l t claimed hosts
    else
    let mine := (claimsOf l e).map fun c => (e.n MAPPING_dir, c)
    let host7 := e.n MAPPING_kind == 7 && e.n MAPPING_dir == 0
    let bad := !serverOk l e || !sizeOk l e || mine.any (fun c => claimed.contains c) ||
      (host7 && (hosts.contains (e.n MAPPING_host) || decide (320 ≤ hosts.length)))
    if bad then e.idx :: mapPass again (withoutMap l e.idx) t claimed hosts
    else mapPass again l t (claimed ++ mine) (if host7 then e.n MAPPING_host :: hosts else hosts)

/-- Passes until none drops an entry; `fuel` bounds their number. -/
def mapPasses (post : List Section) : Nat → Loaded → Loaded
  | 0, x => x
  | f + 1, x =>
    let again := repeats (fun e => e.n MAPPING_ctx) (x.kind 0) []
    let bad := mapPass again (again.foldl withoutMap (x.within post)) (x.kind 0) [] []
    if bad.isEmpty then x else mapPasses post f (x.drop bad 4)

/-- The calendar entries of a FlexE group that name a context which is not a kind 6 or kind 7 client of the group: field,
calendar slot, and the context. -/
def strayCal (l : List Section) (g : Entry) : List (ImgFld × Nat × Int) :=
  [MAPPING_cal_a, MAPPING_cal_b].flatMap fun f => (g.fields.filter fun p => p.1 == f.fid && p.2.2 != (262144 : Int) &&
    (match mapOf l p.2.2.toNat with
      | some e => !(e.n MAPPING_kind == 6 || e.n MAPPING_kind == 7) || e.n MAPPING_server != g.n MAPPING_ctx
      | none => true)).map fun p => (f, p.2.1, p.2.2)

/-- Stray calendar entries take the default, with a record each (Table 4-9). -/
def Loaded.clearStray (x : Loaded) (post : List Section) : Loaded :=
  let l := x.within post
  ((x.kind 0).filter fun e => e.n MAPPING_kind == 5).foldl (fun x g =>
    (strayCal l g).foldl (fun x p => x.forceDef g.idx p.1 p.2.1 p.2.2 262144 4) x) x

/-- The checks of MAPPING. -/
def checkMapping (post : List Section) (x : Loaded) : Loaded :=
  (mapPasses post ((x.kind 0).length + 1) x).clearStray post

/-! ### FRAMING (R98) -/

/-- The checks of FRAMING. -/
def checkFraming (post : List Section) (x : Loaded) : Loaded :=
  let x := (x.dropRepeats 1 fun e => e.n FRAMING_lead).dropRepeats 2 fun e => e.n FRAMING_ctx
  let lead := fun (e : Entry) (f : Nat) => isGroupLead post (e.n FRAMING_lead) f
  let x := x.dropBad 1 fun e => !(lead e 1 || lead e 2 || lead e 3)
  let x := x.drop (((x.kind 1).filter fun e => lead e 3 && (e.given FRAMING_flexe_gnum.fid 0).isNone).map (·.idx)) 2
    FRAMING_flexe_gnum.fid
  x.dropBad 2 fun e => match mapOf post (e.n FRAMING_ctx) with
    | some m => m.n MAPPING_kind != e.n FRAMING_layer
    | none => true

/-! ### FABRIC_PAGE (R128, R136, R137, R152, R155) -/

/-- The hold of a read of location `wc` with a lag, in CLK_FAB cycles (R128). -/
def holdOf (rc wc lag : Nat) : Int := (128 * lag + rc : Nat) - (wc : Int)

/-- The sources of a read entry: write cycle, lag, and whether it is the protecting one. -/
def sourcesOf (e : Entry) : List (Nat × Nat × Bool) :=
  (e.n FABRIC_PAGE_src_wc, e.n FABRIC_PAGE_lag, false) ::
    (if e.b FABRIC_PAGE_prot then [(e.n FABRIC_PAGE_alt_wc, e.n FABRIC_PAGE_alt_lag, true)] else [])

/-- The write pairs that a read entry reads. -/
def pairsOf (e : Entry) : List Nat := (sourcesOf e).map fun x => pairOf (e.n FABRIC_PAGE_rd_slice) x.1

/-- The source of an input slot: a key of the source, member number, carriage, and slot count. -/
def sourceInfo (l : List Section) (slot : Nat) : Option (Nat × Nat × Nat × Nat) :=
  match ownerOf l 0 slot with
  | some (e, j) => some (e.n MAPPING_ctx, j, carriageOf e, (ctxSlots l e).length)
  | none => (engineOf l slot).map fun (e, _, j) =>
      if e.kind = 1 then (300000 + e.n EVERGREEN_wrap, j, 2, carrierSize (wrapSize l e))
      else (310000 + e.n EVERGREEN_merge, j, 2, e.n EVERGREEN_m_size)

/-- Whether an enabled lane group carries a flat slot (R101, R46). -/
def lineSlot (l : List Section) (slot : Nat) : Bool :=
  let n := slot / 20
  let e := laneEntryOf l n
  let f := e.n LANES_format
  laneOn l n && (f == 1 || f == 2 || f == 3) && !(f == 3 && e.n LANES_rate == 4 && decide (10 ≤ slot % 20))

/-- Whether a flat slot is a mate slot of a page. -/
def mateSlot (l : List Section) (slot : Nat) : Bool := (entryBy l FABRIC_PAGE_mate_slot slot).isSome

/-- Whether one source of a read entry passes R155. -/
def joinOk (l : List Section) (out pair : Nat) : Bool :=
  match slotAt (writesOf l) pair with
  | none => false
  | some slot =>
    if mateSlot l slot || mateSlot l out then true
    else match sourceInfo l slot, ownerOf l 1 out with
      | some (_, j, c, n), some (o, k) =>
        j == k && c == carriageOf o && (c == 3 || n == (ctxSlots l o).length)
      | _, _ => false

/-- The leaf indices that read a write pair. -/
def leavesAt (reads : List Entry) (pair : Nat) : List Nat :=
  reads.flatMap fun r => (pairsOf r).filterMap fun p => if p = pair then some (r.n FABRIC_PAGE_leaf) else none

/-- Whether the members of a source that a write entry begins have one number of leaves (R137). -/
def leavesOk (l : List Section) (reads : List Entry) (slot : Nat) : Bool :=
  let members := match ownerOf l 0 slot with
    | some (e, _) => slotGroup l e
    | none => match engineOf l slot with
      | none => []
      | some (e, _, j) =>
        let n := if e.kind = 1 then carrierSize (wrapSize l e) else e.n EVERGREEN_m_size
        (List.range n).map fun i => slot - j + i
  let w := writesOf l
  let counts := members.map fun s =>
    match w.find? fun x => x.2 == s with
    | some x => (leavesAt reads x.1).length
    | none => 0
  match counts with
  | [] => true
  | a :: t => t.all (· == a)

/-- The checks of FABRIC_PAGE. -/
def checkFabric (post : List Section) (x : Loaded) : Loaded :=
  let l := x.within post
  let reads := x.kind 3
  let x := x.rejectRepeats 1 fun e => e.n FABRIC_PAGE_mate_slot
  let x := x.rejectRepeats 2 fun e => e.n FABRIC_PAGE_wr_slot
  let x := x.rejectRepeats 2 fun e => (e.n FABRIC_PAGE_wr_slice, e.n FABRIC_PAGE_wr_cycle)
  let x := x.rejectRepeats 3 fun e => (e.n FABRIC_PAGE_rd_slice, e.n FABRIC_PAGE_rd_cycle)
  let x := x.rejectRepeats 3 (fun e => e.n FABRIC_PAGE_out) 5
  let x := x.rejectBad 3 fun e => (sourcesOf e).any fun y =>
    let h := holdOf (e.n FABRIC_PAGE_rd_cycle) y.1 y.2.1
    decide (h < 1) || decide (4095 < h)
  let x := x.rejectBad 3 fun e => (pairsOf e).any fun p => (slotAt (writesOf l) p).isNone
  let x := x.rejectBad 3 fun e => (pairsOf e).any fun p => decide (8 < (leavesAt reads p).length)
  let x := x.rejectBad 3 fun e => (pairsOf e).any fun p =>
    decide ((dedup (leavesAt reads p)).length < (leavesAt reads p).length)
  let x := x.rejectBad 2 fun e => !leavesOk l reads (e.n FABRIC_PAGE_wr_slot)
  let x := x.rejectBad 1 fun e => lineSlot l (e.n FABRIC_PAGE_mate_slot)
  let x := x.rejectBad 1 fun e =>
    (laneEntryOf l (128 + e.n FABRIC_PAGE_mate_lane)).n LANES_rate == 5 && decide (18 ≤ e.n FABRIC_PAGE_mate_idx)
  x.rejectBad 3 fun e => (pairsOf e).any fun p => !joinOk l (e.n FABRIC_PAGE_out) p

/-! ### TWIG_PAGE (R152) -/

/-- The source twigs that a twig entry names, as 480 × host + twig. -/
def twigSources (e : Entry) : List Nat :=
  (480 * e.n TWIG_PAGE_src_host + e.n TWIG_PAGE_src_twig) ::
    (if e.b TWIG_PAGE_prot then [480 * e.n TWIG_PAGE_alt_host + e.n TWIG_PAGE_alt_twig] else [])

/-- The checks of TWIG_PAGE. -/
def checkTwig (post : List Section) (x : Loaded) : Loaded :=
  let all := (x.kind 1).flatMap twigSources
  let x := x.rejectRepeats 1 fun e => 480 * e.n TWIG_PAGE_out_host + e.n TWIG_PAGE_out_twig
  let x := x.rejectBad 1 fun e => (twigSources e).any fun t => decide (8 < (all.filter (· == t)).length)
  x.rejectBad 1 fun e => (twigSources e).any fun t => (hostCtx post (t / 480)).isNone

/-! ### PROTECTION (R211) -/

/-- Whether a context is defined at a level of Table 7-1. -/
def levelOk (l : List Section) (level c : Nat) : Bool :=
  match mapOf l c with
  | none => false
  | some e =>
    let k := e.n MAPPING_kind
    match level with
    | 0 => k == 0 || k == 1 || k == 5
    | 1 => k == 2 || k == 3 || k == 4 || k == 6
    | _ => k == 7 || k == 8

/-- Whether a context can carry the APS of a level (R192). -/
def apsOk (l : List Section) (level c : Nat) : Bool :=
  match mapOf l c with
  | none => false
  | some e =>
    let k := e.n MAPPING_kind
    match level with
    | 0 => k == 1
    | 1 => k == 2 || k == 3
    | _ => false

/-- Whether the two trigger contexts of a line group lie in one lane group, against Table 7-1 (log entry 179). -/
def oneLaneGroup (l : List Section) (e : Entry) : Bool :=
  e.n PROTECTION_level == 0 && !e.b PROTECTION_w_mate && !e.b PROTECTION_p_mate &&
    match mapOf l (e.n PROTECTION_w_ctx), mapOf l (e.n PROTECTION_p_ctx) with
    | some w, some p => leadOfCtx l w == leadOfCtx l p
    | _, _ => false

/-- Whether a group entry keeps Table 7-1 and R211. -/
def groupOk (l : List Section) (e : Entry) : Bool :=
  let level := e.n PROTECTION_level
  let two := e.b PROTECTION_type || e.b PROTECTION_bidir
  let aps := e.b PROTECTION_aps
  let side := fun (c m : ImgFld) => e.b m || e.n c == 262144 || levelOk l level (e.n c)
  !(level == 2 && (two || aps)) && (!two || aps) && !oneLaneGroup l e && side PROTECTION_w_ctx PROTECTION_w_mate
    && side PROTECTION_p_ctx PROTECTION_p_mate
    && (if aps then apsOk l level (e.n PROTECTION_aps_ctx)
        else e.n PROTECTION_aps_ctx == 262144 || apsOk l level (e.n PROTECTION_aps_ctx))

/-- The checks of PROTECTION. -/
def checkProtection (post : List Section) (x : Loaded) : Loaded :=
  let x := match (x.kind 0).head? with
    | none => x
    | some g => (List.range 4).foldl (fun x k =>
        if g.n PROTECTION_force_last k < g.n PROTECTION_force_first k then
          x.forceDef g.idx PROTECTION_force_cmd k (g.i PROTECTION_force_cmd k) 0 4 else x) x
  let x := (x.dropRepeats 1 fun e => e.n PROTECTION_grp).dropRepeats 2 fun e => e.n PROTECTION_br_out
  let x := x.dropBad 1 fun e => !groupOk post e
  let grps := x.kind 1
  x.dropBad 2 fun e => !grps.any fun g => g.n PROTECTION_grp == e.n PROTECTION_br_grp && g.b PROTECTION_type

/-! ### EVERGREEN (R213, R214, R228, R234) -/

/-- Whether `n` consecutive flat slots from `a` are engine slots (R214). -/
def engineSlots (l : List Section) (a n : Nat) : Bool :=
  (List.range n).all fun i => decide (a + i < 2560) && !lineSlot l (a + i) && !mateSlot l (a + i)

/-- Whether `n` output twigs of a host from `a` hold no TWIG_PAGE entry. -/
def freeTwigs (l : List Section) (h a n : Nat) : Bool :=
  decide (a + n ≤ 480) && !(kindOf l 6 1).any fun e => e.n TWIG_PAGE_out_host == h &&
    decide (a ≤ e.n TWIG_PAGE_out_twig) && decide (e.n TWIG_PAGE_out_twig < a + n)

/-- Whether a wrap entry keeps Table 8-1 and R214. -/
def wrapOk (l : List Section) (e : Entry) : Bool :=
  match mapOf l (e.n EVERGREEN_w_src) with
  | none => false
  | some c =>
    let k := c.n MAPPING_kind
    let n := wrapSize l e
    if e.n EVERGREEN_w_grain = 0 then
      (k == 2 || k == 3) && c.n MAPPING_dir == 0 && !c.b MAPPING_odu_mode && decide (n ≤ 78)
        && engineSlots l (e.n EVERGREEN_w_first) (carrierSize n)
    else
      k == 8 && c.n MAPPING_dir == 0 && decide (n ≤ 472)
        && freeTwigs l (e.n EVERGREEN_w_host_a) (e.n EVERGREEN_w_twig_a) (carrierSize n)
        && freeTwigs l (e.n EVERGREEN_w_host_b) (e.n EVERGREEN_w_twig_b) (carrierSize n)

/-- Whether a copy of a merge is defined with the kind, direction and size of Table 8-1. -/
def copyOk (l : List Section) (e : Entry) (cf mf : ImgFld) : Bool :=
  if e.b mf then true
  else match mapOf l (e.n cf) with
    | none => false
    | some c =>
      let n := carrierSize (e.n EVERGREEN_m_size)
      c.n MAPPING_dir == 0 &&
      (if e.n EVERGREEN_m_grain = 0 then
        c.n MAPPING_kind == 3 && !c.b MAPPING_odu_mode && c.n MAPPING_count == n
      else c.n MAPPING_kind == 8 && c.n MAPPING_twig_n == n)

/-- Whether a merge entry keeps Table 8-1 and R214. -/
def mergeOk (l : List Section) (e : Entry) : Bool :=
  let n := e.n EVERGREEN_m_size
  copyOk l e EVERGREEN_m_copy_a EVERGREEN_m_mate_a && copyOk l e EVERGREEN_m_copy_b EVERGREEN_m_mate_b &&
  (if e.n EVERGREEN_m_grain = 0 then decide (n ≤ 78) && engineSlots l (e.n EVERGREEN_m_out_first) n
   else freeTwigs l (e.n EVERGREEN_m_out_host) (e.n EVERGREEN_m_out_twig) n)

/-- The capacity that a merge counts (R213), in units of 100 kbit/s. -/
def mergeLoad (e : Entry) : Nat :=
  if e.n EVERGREEN_m_grain = 0 then e.n EVERGREEN_m_size * 52409 else e.n EVERGREEN_m_size * 100

/-- Entries by ascending value of a field. -/
def insertBy (f : ImgFld) (x : Entry) : List Entry → List Entry
  | [] => [x]
  | y :: t => if x.n f ≤ y.n f then x :: y :: t else y :: insertBy f x t

/-- The DDR5 data rate of a rate code, MT/s (R404). -/
def rateMts (code : Nat) : Nat := 4800 + 800 * code

/-- What a number of channels at a rate offers of the full configuration (R414): channels × MT/s; 8 channels at 8,800 MT/s
are 70,400. -/
def ddrShare (chan code : Nat) : Nat := (if chan = 0 then 0 else 2 ^ chan) * rateMts code

/-- The merges beyond the capacity of 1,600 Gbit/s, scaled to the share of DDR5 that is fitted (R213, R414), taken in
ascending index. -/
def overLoad (share : Nat) : Nat → List Entry → List Nat
  | _, [] => []
  | used, e :: t =>
    if (used + mergeLoad e) * 70400 ≤ 16000000 * share then overLoad share (used + mergeLoad e) t
    else e.idx :: overLoad share used t

/-- The lowest free extent of `n` frame slots among extents in use, in a region of `cap` slots. -/
def lowestFree (cap n : Nat) (used : List (Nat × Nat)) : Option Nat :=
  ((0 :: used.map fun u => u.1 + u.2).foldl (fun best a =>
    if cap < a + n ∨ used.any (fun u => decide (u.1 < a + n) && decide (a < u.1 + u.2)) then best
    else match best with | some b => some (min a b) | none => some a) none)

/-- Middles of merges in ascending index (R228): the extents given, and the merges that find none. -/
def placeMiddles (cap : Nat) (keep : List (Nat × Nat × Nat)) :
    List Entry → List (Nat × Nat × Nat) × List Nat
  | [] => (keep, [])
  | e :: t =>
    let i := e.n EVERGREEN_merge
    if keep.any fun k => k.1 == i then placeMiddles cap keep t
    else
      let n := middleNeed e
      match lowestFree cap n (keep.map (·.2)) with
      | some a => placeMiddles cap ((i, a, n) :: keep) t
      | none => let r := placeMiddles cap keep t; (r.1, e.idx :: r.2)

/-- Frame slots of the evergreen region. -/
def middleCap (l : List Section) : Nat := 2 ^ 26 * unitsHeld (regionIn l 3) (ddrUnitsOf l) / 4224

/-- The extents that the merges of a section keep: those of merges whose entry is unchanged (R228). -/
def State.keptMiddles (s : State) (l : List Entry) : List (Nat × Nat × Nat) :=
  s.evg.mids.filter fun k => l.any fun e => e.n EVERGREEN_merge == k.1 &&
    sameEntry 8 2 (s.entry EVERGREEN_merge k.1) (some e)

/-- The checks of EVERGREEN. -/
def checkEvergreen (s : State) (post : List Section) (x : Loaded) : Loaded :=
  let x := (x.dropRepeats 1 fun e => e.n EVERGREEN_wrap).dropRepeats 2 fun e => e.n EVERGREEN_merge
  let x := (x.dropBad 1 fun e => !wrapOk post e).dropBad 2 fun e => !mergeOk post e
  let x := x.drop (overLoad (ddrShare (globalOf post DEVICE_ddr_chan) (globalOf post DEVICE_ddr_rate)) 0 ((x.kind 2).foldr (insertBy EVERGREEN_merge) [])) 4
  let ms := (x.kind 2).foldr (insertBy EVERGREEN_merge) []
  x.drop (placeMiddles (middleCap post) (s.keptMiddles ms) ms).2 4

/-! ### TIMING, TIMEXFER, INTEGRITY, RECORDS -/

/-- Candidate entries whose ToD input an earlier entry pairs (R283). -/
def todRepeats : List Entry → List Nat → List Entry
  | [], _ => []
  | e :: t, seen =>
    let k := e.n TIMING_c_tod
    if e.n TIMING_cand < 16 ∧ e.n TIMING_c_kind = 0 ∧ k < 4 then
      if seen.contains k then e :: todRepeats t seen else todRepeats t (k :: seen)
    else todRepeats t seen

/-- The checks of TIMING. -/
def checkTiming (x : Loaded) : Loaded :=
  let x := x.dropRepeats 1 fun e => e.n TIMING_cand
  (todRepeats (x.kind 1) []).foldl (fun x e => x.forceDef e.idx TIMING_c_tod 0 (e.i TIMING_c_tod) 4 4) x

/-- Whether a time channel entry keeps R307 alone. -/
def tchOk (l : List Section) (e : Entry) : Bool :=
  let lead := e.n TIMEXFER_tch_lead
  let h := e.n TIMEXFER_tch_host
  let t := e.n TIMEXFER_tch_twig
  (isGroupLead l lead 1 || isGroupLead l lead 3) &&
  (match hostCtx l h with
    | some c => groupSlots l (leadOfCtx l c) == groupSlots l lead
    | none => false) &&
  (circuitOf l 0 h t).isNone && freeTwigs l h t 1 &&
  !(kindOf l 8 1).any fun w => w.n EVERGREEN_w_grain == 1 &&
    (let n := carrierSize (wrapSize l w)
     (w.n EVERGREEN_w_host_a == h && decide (w.n EVERGREEN_w_twig_a ≤ t) && decide (t < w.n EVERGREEN_w_twig_a + n)) ||
     (w.n EVERGREEN_w_host_b == h && decide (w.n EVERGREEN_w_twig_b ≤ t) && decide (t < w.n EVERGREEN_w_twig_b + n)))

/-- The checks of TIMEXFER. -/
def checkTimexfer (post : List Section) (x : Loaded) : Loaded :=
  let x := (x.dropRepeats 1 fun e => e.n TIMEXFER_tch).dropRepeats 2 fun e => e.n TIMEXFER_out
  let x := x.dropBad 1 fun e => !tchOk post e
  x.dropRepeats 1 fun e => groupSlots post (e.n TIMEXFER_tch_lead)

/-- The checks of INTEGRITY, with what a DEPLOYED device forces (R252). -/
def checkIntegrity (s : State) (post : List Section) (x : Loaded) : Loaded :=
  let x := (x.dropRepeats 1 fun e => e.n INTEGRITY_cvu).dropRepeats 2 fun e => e.n INTEGRITY_mx_slot
  let x := x.dropBad 2 fun e => !mateSlot post (e.n INTEGRITY_mx_slot)
  if s.get CP_LC_boot_state ≠ 2 then x
  else match (x.kind 0).head? with
    | none => x
    | some g => [INTEGRITY_pit_en, INTEGRITY_twig_en].foldl (fun x f =>
        if g.i f = 0 then x.forceDef g.idx f 0 0 1 6 else x) x

/-! ### DEVICE, SECURITY, PATCH, RESIDENCE, PLAN -/

/-- The fused serial number (CP_SERIAL). -/
def State.serial (s : State) : Nat := s.get64 CP_SERIAL_LO_serial_lo CP_SERIAL_HI_serial_hi

/-- The checks of DEVICE (R336): whether it excludes this device. -/
def checkDevice (s : State) (x : Loaded) : Loaded :=
  let g := ((x.kind 0).head?).getD {}
  let lc := s.get CP_LC_state
  let serial := s.serial
  let x := if bit (g.n DEVICE_lc_mask) lc then x else x.reject g.idx 7 DEVICE_lc_mask.fid (valueBytes DEVICE_lc_mask (g.i DEVICE_lc_mask))
  let bound := g.n DEVICE_bind_serial
  let x := if bound = serial ∨ (bound = 0 ∧ lc ≠ 3) then x else x.reject g.idx 7 DEVICE_bind_serial.fid (valueBytes DEVICE_bind_serial (g.i DEVICE_bind_serial))
  let rev := s.get CP_ID_major * 16 + s.get CP_ID_minor
  if rev < g.n DEVICE_min_rev then x.reject g.idx 7 DEVICE_min_rev.fid (valueBytes DEVICE_min_rev (g.i DEVICE_min_rev)) else x

/-- Regions that overlap an earlier region, or end above 2,048 (R362). -/
def badRegions : List Entry → List Region → List Nat
  | [], _ => []
  | e :: t, seen =>
    let r : Region := ⟨e.n SECURITY_ddr_base, e.n SECURITY_ddr_size, e.b SECURITY_ddr_world⟩
    if 2048 < r.base + r.size ∨ seen.any r.meets then e.idx :: badRegions t seen else badRegions t (r :: seen)

/-- The checks of SECURITY (R362). -/
def checkSecurity (post : List Section) (x : Loaded) : Loaded :=
  let x := (x.dropRepeats 1 fun e => e.n SECURITY_bank).dropRepeats 2 fun e => e.n SECURITY_rgn
  let mate := globalOf post PROTECTION_mate_mode != 0
  let x := (x.kind 1).foldl (fun x e =>
    let n := e.n SECURITY_bank
    let x := if n = 5 ∧ e.i SECURITY_bank_world = 0 then x.forceDef e.idx SECURITY_bank_world 0 0 1 4 else x
    if e.i SECURITY_bank_idle ≠ 0 ∧ (n = 0 ∨ (2 ≤ n ∧ n ≤ 5) ∨ (n = 7 ∧ mate)) then
      x.forceDef e.idx SECURITY_bank_idle 0 (e.i SECURITY_bank_idle) 0 4 else x) x
  x.drop (badRegions (x.kind 2) []) 4

/-- The checks of PATCH (R341, R362). -/
def checkPatch (x : Loaded) : Loaded :=
  let x := x.rejectRepeats 1 fun e => e.n PATCH_pp
  let x := x.rejectRepeats 1 fun e => e.n PATCH_pp_line
  x.rejectRepeats 2 fun e => e.n PATCH_ext_off

/-- The sections that a PLAN step names, as (ID, instance). -/
def stepNames (e : Entry) : List (Nat × Nat) :=
  (List.range 12).filterMap fun i =>
    (e.given PLAN_sec_id.fid i).map fun v => (v.toNat, e.n PLAN_sec_inst i)

/-- The checks of PLAN (R159, R178). -/
def checkPlan (x : Loaded) : Loaded :=
  let x := x.rejectRepeats 1 fun e => e.n PLAN_step
  let x := x.rejectRepeats 2 fun e => (e.n PLAN_h_step, e.n PLAN_h_kind, e.n PLAN_h_key)
  x.rejectBad 1 fun e =>
    let ids := (stepNames e).map (·.1)
    decide ((dedup ids).length < ids.length)

/-- The reference and uniqueness checks of a section. -/
def checkSection (s : State) (post : List Section) (x : Loaded) : Loaded :=
  if x.rej.isSome then x
  else match x.sec with
    | 1 => checkDevice s x
    | 2 => checkLanes x
    | 3 => checkFraming post x
    | 4 => checkMapping post x
    | 5 => checkFabric post x
    | 6 => checkTwig post x
    | 7 => checkProtection post x
    | 8 => checkEvergreen s post x
    | 9 => checkTiming x
    | 10 => checkTimexfer post x
    | 11 => checkIntegrity s post x
    | 12 => x.dropRepeats 1 fun e => e.n RECORDS_dv_src
    | 13 => checkSecurity post x
    | 15 => checkPatch x
    | 16 => checkPlan x
    | _ => x

/-- The order of the checks (R324): ascending section ID, FRAMING directly after MAPPING. -/
def checkOrder : List Nat := [1, 2, 4, 3, 5, 6, 7, 8, 9, 10, 11, 12, 13, 14, 15, 16]

/-- Check every section of a load in order against the post-step state, which each check leaves to the next. A rejected
section leaves the one in force (`post`) for the checks after it. -/
def checkAll (s : State) (stop : Bool) : List Nat → List Section → List Loaded → List Loaded
  | [], _, l => l
  | i :: t, post, l =>
    match l.find? fun x => x.sec == i with
    | none => checkAll s stop t post l
    | some x =>
      let y := checkSection s post x
      let l := l.map fun z => if z.sec = i then y else z
      if y.rej.isSome then (if stop then l else checkAll s stop t
          (match sectionOf s.img i with | some o => putSection post o | none => post.filter fun z => z.sec != i) l)
      else checkAll s stop t (putSection post y.section_) l

end Sys2Proof.Machine
end

