-- ==== Sys2Proof/Machine/Records.lean ====
section
/-!
DEFINITION. Sys2Proof/Machine/Records.lean: the event engine, the cursor, the harvest queues, the performance counters
and the interrupt commands (R382 to R400).
-/
namespace Sys2Proof.Machine

/-! ### A record as bytes (R382, R386) -/

/-- The length L of a record. -/
def Rec.len (r : Rec) : Nat := 8 * ceilDiv (25 + r.payload.length) 8

/-- Byte 2 of the header (Table 15-1). -/
def Rec.sevByte (r : Rec) : Nat :=
  r.sev % 8 + 8 * b2n r.sec + 16 * b2n r.degraded + 32 * b2n r.tinv + 64 * b2n r.held

/-- The bytes of a record as a reader of a world sees it; a secure payload reads as zeros to a non-secure reader. -/
def Rec.bytes (r : Rec) (secure : Bool) : List Byte :=
  let body := if r.sec && !secure then List.replicate r.payload.length 0 else r.payload
  let l := leBytes 2 r.typ ++ leBytes 1 r.sevByte ++ leBytes 1 r.payload.length ++ leBytes 4 r.epoch ++ leBytes 8 r.seq
    ++ leBytes 6 r.secs ++ leBytes 2 r.frac ++ body ++ [BitVec.ofNat 8 0xA5 ^^^ BitVec.ofNat 8 r.seq]
  l ++ List.replicate (r.len - l.length) 0

/-! ### What is held (R393, R394) -/

/-- The records that are held in MB3 or the ring. -/
def State.heldRecs (s : State) : List Rec := ((s.rcd.ring.filter fun e => !e.pad).map (·.body)) ++ s.rcd.mb3

/-- The held record with a number. -/
def State.recAt (s : State) (n : Nat) : Option Rec := s.heldRecs.find? fun r => r.seq == n

/-- The record of lowest number in a list. -/
def minRec : List Rec → Option Rec
  | [] => none
  | r :: t => match minRec t with | some x => if x.seq < r.seq then some x else some r | none => some r

/-- The record of highest number in a list. -/
def maxRec : List Rec → Option Rec
  | [] => none
  | r :: t => match maxRec t with | some x => if r.seq < x.seq then some x else some r | none => some r

/-- The cursor and the mark. -/
def State.cur (s : State) : Nat := s.get64 EVR_CUR_LO_seq_lo EVR_CUR_HI_seq_hi
def State.mark (s : State) : Nat := s.get64 EVR_MARK_LO_seq_lo EVR_MARK_HI_seq_hi
def State.setCur (s : State) (n st : Nat) : State :=
  (s.set64 EVR_CUR_LO_seq_lo EVR_CUR_HI_seq_hi n).set EVR_CUR_ST_state st
def State.setMark (s : State) (n : Nat) : State := s.set64 EVR_MARK_LO_seq_lo EVR_MARK_HI_seq_hi n

/-- Records with these numbers stop being held: the cursor becomes invalid if it or the mark stood on one (R394). -/
def State.unheld (s : State) (seqs : List Nat) : State :=
  if (seqs.contains s.cur && s.get EVR_CUR_ST_state == 0) || (seqs.contains s.mark && s.get EVR_CUR_ST_state != 2) then
    (s.set EVR_CUR_ST_state 2).irqSet 458
  else s

/-! ### Harvest queues (R395, R396) -/

def State.hqSt (s : State) (q : Nat) : Hq := tget (fun _ => {}) s.rcd.hq q
def State.setHq (s : State) (q : Nat) (v : Hq) : State :=
  { s with rcd := { s.rcd with hq := tset (fun _ => {}) s.rcd.hq q v } }

/-- Items that queue `q` can hold. -/
def State.hqCap (s : State) (q : Nat) : Nat := if !s.middleOk then 32 else if q = 4 then 1048608 else 61712

/-- A discard of queue `q` is counted, and reported once in a second. -/
def State.hqDiscard (s : State) (q n : Nat) : State :=
  if n = 0 then s
  else
    let h := s.hqSt q
    let s := (s.inc HQ_LOST_lost q n).setHq q { h with disc := h.disc + n, mark := h.mark - n, lostRec := true }
    if h.lostRec then s else s.report kHQ_LOST [(1, q)]

/-- A record enters queue `q`; a full queue discards its oldest item. -/
def State.pushHq (s : State) (q : Nat) (r : Rec) : State :=
  let h := s.hqSt q
  let l := h.recs ++ [r]
  let n := l.length - s.hqCap q
  (s.setHq q { h with recs := l.drop n }).hqDiscard q n

/-- A PM item enters HQ_PM. -/
def State.pushPm (s : State) (b : List Byte) : State :=
  let h := s.hqSt 4
  let l := h.pm ++ [b]
  let n := l.length - s.hqCap 4
  (s.setHq 4 { h with pm := l.drop n }).hqDiscard 4 n

/-- An accepted record enters the queues whose filter it passes. -/
def State.enqueue (s : State) (r : Rec) : State :=
  forEach (List.range 4) s fun s q =>
    if s.gl RECORDS_hq_en q = 1 ∧ r.sev ≤ s.gl RECORDS_hq_sev q ∧ bit (s.gl RECORDS_hq_grp q) (r.typ / 256) then
      s.pushHq q r
    else s

/-! ### Acceptance (R383 to R391) -/

/-- The next offer to be accepted: the earliest, then the lowest group, then the order of the port. -/
def firstOffer : List Offer → Option Offer
  | [] => none
  | o :: t => match firstOffer t with
    | some x => if x.stamp < o.stamp ∨ (x.stamp = o.stamp ∧ x.typ / 256 < o.typ / 256) then some x else some o
    | none => some o

/-- Remove the first occurrence of an offer. -/
def dropOffer (o : Offer) : List Offer → List Offer
  | [] => []
  | x :: t => if x = o then t else x :: dropOffer o t

/-- Remove the first record with a severity number of at least `sev`; it is the oldest. -/
def dropLowest (sev : Nat) : List Rec → Option (Rec × List Rec)
  | [] => none
  | r :: t => if sev ≤ r.sev then some (r, t) else (dropLowest sev t).map fun p => (p.1, r :: p.2)

/-- The number of slots of MB3 (R387). -/
def mb3Slots : Nat := 7710

/-- A record is dropped after it was numbered. -/
def State.dropRec (s : State) (sev : Nat) : State := (s.inc EVR_LOSS_drop sev).irqSet 449

/-- Write a record to MB3, or to the staging buffer in degraded operation, and into the harvest queues. -/
def State.storeRec (s : State) (r : Rec) : State :=
  if s.on EVR_ST_degraded then
    if s.rcd.staging.length < 16 then
      let r := { r with degraded := true }
      ({ s with rcd := { s.rcd with staging := s.rcd.staging ++ [r] } } : State).enqueue r
    else s.dropRec r.sev
  else if s.rcd.mb3.length < mb3Slots then
    ({ s with rcd := { s.rcd with mb3 := s.rcd.mb3 ++ [r] } } : State).enqueue r
  else match dropLowest r.sev s.rcd.mb3 with
    | none => s.dropRec r.sev
    | some (x, l) =>
      let s := { s with rcd := { s.rcd with mb3 := l ++ [r] } }
      let s := ((s.inc EVR_LOSS_ovwr x.sev).irqSet 449).unheld [x.seq]
      s.enqueue r

/-- Queue the flash copy of a record of severity 0 or 1 (R389). -/
def State.copyRec (s : State) (r : Rec) : State :=
  if 1 < r.sev then s
  else if s.rcd.flashBuf.length < 64 then { s with rcd := { s.rcd with flashBuf := s.rcd.flashBuf ++ [r] } }
  else s.inc EVR_FLASH_lost

/-- The record that an offer becomes in this cycle (Table 15-1, R383). -/
def State.stamped (s : State) (o : Offer) : Rec :=
  { typ := o.typ, sev := o.sev, sec := o.sec, degraded := s.on EVR_ST_degraded, tinv := !s.on RTC_ST_valid,
    held := s.on EVR_ST_frozen, epoch := s.get CP_BOOT_EPOCH_epoch, seq := s.rcd.nextSeq,
    secs := s.get64 RTC_SEC_LO_sec_lo RTC_SEC_HI_sec_hi, frac := 2 * s.get RTC_TICK_tick, payload := o.payload }

/-- Accept an offer: number it, copy it, and hold or store it. -/
def State.acceptOffer (s : State) (o : Offer) : State :=
  let r := s.stamped o
  let s := { s with rcd := { s.rcd with nextSeq := s.rcd.nextSeq + 1 } }
  let s := s.count fun n => s.get PC_SEL_kind n == 2 && s.get PC_SEL_arg n % 16 == r.typ / 256 &&
    bit (s.get PC_SEL_filter n) (8 + r.sev) &&
    (s.get PC_SEL_filter n % 256 == 0 || s.get PC_SEL_filter n % 256 == r.typ % 256)
  let s := s.copyRec r
  if s.on EVR_ST_frozen then
    if s.rcd.hold.length < 64 then { s with rcd := { s.rcd with hold := s.rcd.hold ++ [r] } }
    else
      let s := { s with rcd := { s.rcd with ovf := s.rcd.ovf + 1 } }
      ((s.inc EVR_HOLD_ovf).irqSet 450).dropRec r.sev
  else s.storeRec r

/-- A recorder fault (R390). -/
def State.recorderFault (s : State) : State :=
  let s := (s.set EVR_FAULT_0_word 0x52454346).set EVR_FAULT_1_word 0x52454346
  s.setB EVR_ST_degraded true

/-- RECORD_ACCEPT (R383): the first waiting record is accepted. `bad` says that its MB3 read-back mismatches. -/
def effRecordAccept (bad : Bool) (s : State) : State :=
  match firstOffer s.rcd.offers with
  | none => s
  | some o =>
    let s := { s with rcd := { s.rcd with offers := dropOffer o s.rcd.offers } }
    let mb3 := !s.on EVR_ST_degraded && !s.on EVR_ST_frozen
    let s := s.acceptOffer o
    if bad && mb3 then s.recorderFault else s
def execRecordAccept (bad : Bool) (s : State) : Host.Outcome State Fault Refusal := .next (effRecordAccept bad s.newCycle)

/-- Every record that waits is accepted. -/
def State.acceptAll (s : State) : State :=
  forEach s.rcd.offers s fun s _ => match firstOffer s.rcd.offers with
    | none => s
    | some o => ({ s with rcd := { s.rcd with offers := dropOffer o s.rcd.offers } } : State).acceptOffer o

/-- A block that writes many records one after another keeps room in its port: the engine accepts what waits meanwhile, as
in Example 15-1 (DEDUCED, log entry 194). -/
def State.waitPort (s : State) (k : RecKind) : State :=
  if 16 ≤ (s.rcd.offers.filter fun o => o.typ / 256 == k.group).length then s.acceptAll else s

/-- Write CLAMP records, counting them in CP_CLAMP (R14, R326). -/
def State.writeClamps (s : State) (apply notInForce : Bool) (l : List Clamped) : State :=
  forEach l s fun s c =>
    let s := if apply then s.inc CP_CLAMP_apply else s.inc CP_CLAMP_boot
    (s.waitPort kCLAMP).reportBytes kCLAMP (c.payload apply notInForce)

/-- The CLAMP records of a load, in section order (Example 12-2). The clamps of a rejected section are not in force, nor
those of a load that fails (`failed`, R162). -/
def State.loadClamps (s : State) (apply failed : Bool) (l : List Loaded) : State :=
  (forEach ((List.range 17).flatMap fun i => l.filter fun x => x.sec == i) s fun s x =>
    s.writeClamps apply (failed || x.rej.isSome) x.clamps).waitPort kCLAMP

/-! ### Archiving (R387, R388) -/

/-- The bytes of the ring. -/
def ringBytes : Nat := 2 ^ 28

/-- Write an entry of `n` bytes at the write position: the oldest entries that it overwrites stop being held. -/
def State.ringWrite (s : State) (n : Nat) (pad : Bool) (r : Rec) : State :=
  let a := s.rcd.ringW
  let hit := fun (e : RingEnt) => decide (e.off < a + n) && decide (a < e.off + e.len)
  let gone : List RingEnt := s.rcd.ring.filter hit
  let keep := s.rcd.ring.filter fun e => !hit e
  let s := { s with rcd := { s.rcd with ring := keep ++ [RingEnt.mk a n pad r], ringW := (a + n) % ringBytes } }
  s.unheld ((gone.filter fun e => !e.pad).map fun e => e.body.seq)

/-- Write a record to the ring, after a PAD where it would cross the end. -/
def State.toRing (s : State) (r : Rec) : State :=
  let room := ringBytes - s.rcd.ringW
  let s := if room < r.len then s.ringWrite room true r else s
  s.ringWrite r.len false r

/-- RECORD_ARCHIVE: the oldest unarchived slot is written to the ring and becomes free; in degraded operation, the
oldest record of the staging buffer. Nothing is archived while the ring is unavailable, in a freeze, or before the boot
epoch is fixed. -/
def effRecordArchive (s : State) : State :=
  if !s.ringOk || s.on EVR_ST_frozen || !s.rcd.epochOk then s
  else match s.rcd.mb3, s.rcd.staging with
    | r :: t, _ => ({ s with rcd := { s.rcd with mb3 := t } } : State).toRing r
    | [], r :: t => ({ s with rcd := { s.rcd with staging := t } } : State).toRing r
    | [], [] => s
def execRecordArchive (s : State) : Host.Outcome State Fault Refusal := .next (effRecordArchive s.newCycle)

/-! ### Flash copies (R389) -/

/-- The sectors of the record copy region this device uses: first, and how many. A pair that shares one flash uses half
each (MATE_RANK high the first half). -/
def State.copySectors (s : State) : Nat × Nat :=
  if s.gl PROTECTION_mate_mode = 0 then (0, 64) else if s.on MATE_ST_rank then (0, 32) else (32, 32)

/-- The sector after a sector. -/
def State.nextSector (s : State) (n : Nat) : Nat :=
  let (a, k) := s.copySectors
  a + (n + 1 - a) % k

/-- Erase a sector: copies of it that the flash cursor has not delivered are lost to it. -/
def State.eraseSector (s : State) (n : Nat) : State :=
  let before := s.rcd.copies.take s.rcd.flCur
  let after := s.rcd.copies.drop s.rcd.flCur
  let b := before.filter fun p => p.1 != n
  let a := after.filter fun p => p.1 != n
  { s with rcd := { s.rcd with copies := b ++ a, flCur := b.length, flLost := s.rcd.flLost + (after.length - a.length) } }

/-- Writing enters a sector, and the erase of the sector after it starts. -/
def State.enterSector (s : State) (n : Nat) : State :=
  ({ s with rcd := { s.rcd with wrSec := n } } : State).eraseSector (s.nextSector n)

/-- Whether this device may drive the flash now (R209, R429): the arbiter while it grants nothing, the rank-low device while
FLASH_GNT is high. -/
def State.flashFree (s : State) : Bool :=
  if s.on MATE_ST_flash_seized then true
  else if s.on MATE_ST_lost then s.mate.flashHeld
  else if s.on MATE_ST_rank then !s.mate.flashGnt else s.mate.flashGnt

/-- FLASH_COPY_PROGRAM: the oldest waiting copy is programmed; a program failure is reported and the copy is retried in
the next sector. -/
def effFlashCopyProgram (bad : Bool) (s : State) : State :=
  match s.rcd.flashBuf with
  | [] => s.setB EVR_ST_flash_erasing false
  | r :: t =>
    if !s.rcd.epochOk || !s.flashFree then s
    else
      let full := decide (240 ≤ (s.rcd.copies.filter fun p => p.1 == s.rcd.wrSec).length)
      let s := if full then s.enterSector (s.nextSector s.rcd.wrSec) else s
      let s := if bad then (s.report kFLASH_COPY_FAIL [(1, s.rcd.wrSec)]).enterSector (s.nextSector s.rcd.wrSec) else s
      let s := s.setB EVR_ST_flash_erasing false
      { s with rcd := { s.rcd with flashBuf := t, copies := s.rcd.copies ++ [(s.rcd.wrSec, r)] } }
def execFlashCopyProgram (bad : Bool) (s : State) : Host.Outcome State Fault Refusal :=
  .next (effFlashCopyProgram bad s.newCycle)

/-! ### Freeze (R391) -/

/-- The number of the newest record accepted; the spec gives none before the first (a free value). -/
def State.newestSeq (s : State) : Nat × State :=
  if s.rcd.nextSeq = 0 then let (v, s) := s.draw; (v % 2 ^ 64, s) else (s.rcd.nextSeq - 1, s)

/-- FREEZE with a limit in seconds; 0 means 10. -/
def State.cmdFreeze (s : State) (limit : Nat) : Reply × State :=
  if 60 < limit then ({ status := 2 }, s)
  else
    let s := { s with rcd := { s.rcd with
      limitS := if limit = 0 then 10 else limit
      ovf := if s.on EVR_ST_frozen then s.rcd.ovf else 0 } }
    let s := s.setB EVR_ST_frozen true
    let (n, s) := s.newestSeq
    ({ words := [(1, n % 2 ^ 32), (2, n / 2 ^ 32)] }, s)

/-- The freeze ends: the holding queue drains into MB3 in order. -/
def State.endFreeze (s : State) : State :=
  let l := s.rcd.hold
  let s := { s with rcd := { s.rcd with hold := [], limitS := 0 } }
  forEach l (s.setB EVR_ST_frozen false) State.storeRec

/-- THAW: reports the overflows of the freeze, 0 when none was in force. -/
def State.cmdThaw (s : State) : Reply × State :=
  if s.on EVR_ST_frozen then ({ words := [(1, s.rcd.ovf)] }, s.endFreeze) else ({ words := [(1, 0)] }, s)

/-- FREEZE_EXPIRY: the limit of the freeze expires. -/
def effFreezeExpiry (s : State) : State :=
  if s.on EVR_ST_frozen then s.endFreeze.report kFREEZE_EXPIRED [] else s
def execFreezeExpiry (s : State) : Host.Outcome State Fault Refusal := .next (effFreezeExpiry s.newCycle)

/-! ### Flushes and clear (R392, R396) -/

/-- A flush of queue `q` is requested. -/
def State.flushReq (s : State) (q : Nat) : State :=
  if 5 ≤ q then s
  else
    let h := s.hqSt q
    (s.setB HQ_CTL_flush true q).setHq q { h with mark := if q = 4 then h.pm.length else h.recs.length }

def execHqFlushRequest (q : Nat) (s : State) : Host.Outcome State Fault Refusal := .next (s.newCycle.flushReq q)

/-- HQ_FLUSH: at the item boundary, the items that were held at the request are discarded. -/
def effHqFlush (q : Nat) (s : State) : State :=
  if s.on HQ_CTL_flush q then
    let h := s.hqSt q
    (s.setB HQ_CTL_flush false q).setHq q { h with recs := h.recs.drop h.mark, pm := h.pm.drop h.mark, mark := 0 }
  else s
def execHqFlush (q : Nat) (s : State) : Host.Outcome State Fault Refusal := .next (effHqFlush q s.newCycle)

/-- CLEAR_EVT with a verified token of key slot `slot`. Records offered before it are accepted before its own (R384). -/
def State.cmdClearEvt (s : State) (slot : Nat) : Reply × State :=
  if s.on EVR_ST_frozen then ({ status := 5 }, s)
  else
    let s := s.acceptAll
    let n := s.heldRecs.length
    let (last, s) := s.newestSeq
    let o : Offer := ⟨s.cyc, kEVT_CLEAR.typ, kEVT_CLEAR.sev, true, payloadOf [(8, last), (3, n), (1, slot)]⟩
    let r := s.stamped o
    let undelivered := s.rcd.copies.length - s.rcd.flCur
    let s := { s with rcd := { s.rcd with
      mb3 := [], ring := [], ringW := 0, staging := [], copies := [], flCur := 0
      flLost := s.rcd.flLost + undelivered } }
    let s := s.acceptOffer o
    let s := forEach (List.range 4) s State.flushReq
    let s := (s.setCur r.seq 0).setMark r.seq
    let s := (s.enterSector (s.nextSector s.rcd.wrSec)).setB EVR_ST_flash_erasing true
    ({ words := [(1, r.seq % 2 ^ 32), (2, r.seq / 2 ^ 32)] }, s)

/-! ### Harvest (R396) -/

/-- The items that fit: as many as `max` and `room` bytes allow, from the head. -/
def takeFit : Nat → Nat → List (List Byte) → List (List Byte)
  | 0, _, _ => []
  | _, _, [] => []
  | k + 1, room, b :: t => if b.length ≤ room then b :: takeFit k (room - b.length) t else []

/-- The reply of a harvest: items, more waiting, items lost; LENGTH where not even the first item fits. -/
def harvestReply (items all : List (List Byte)) (max lost : Nat) (evt : Bool) : Reply :=
  match all with
  | b :: _ =>
    if items.isEmpty && max != 0 then { status := 0x10, words := [(1, b.length)] }
    else { status := if lost ≠ 0 then 0x11 else 0
           words := [(1, items.length), (2, b2n (decide (items.length < all.length)))] ++
             (if evt || lost != 0 then [(3, lost)] else [])
           bulk := items.flatten }
  | [] => { status := if lost ≠ 0 then 0x11 else 0, words := [(1, 0), (2, 0), (3, lost)] }

/-- HARVEST_EVT of a queue: 0 to 3, or 8 for the flash copies, which stay. -/
def State.cmdHarvestEvt (s : State) (secure : Bool) (q max room : Nat) : Reply × State :=
  if q = 8 then
    let all := (s.rcd.copies.drop s.rcd.flCur).map fun p => p.2.bytes secure
    let items := takeFit max room all
    let r := harvestReply items all max s.rcd.flLost true
    if r.status = 0x10 then (r, s)
    else (r, { s with rcd := { s.rcd with flCur := s.rcd.flCur + items.length, flLost := 0 } })
  else if 4 ≤ q then ({ status := 2 }, s)
  else
    let h := s.hqSt q
    let all := h.recs.map fun r => r.bytes secure
    let items := takeFit max room all
    let r := harvestReply items all max h.disc true
    if r.status = 0x10 then (r, s)
    else (r, s.setHq q { h with recs := h.recs.drop items.length, disc := 0, mark := h.mark - items.length })

/-- HARVEST_PM. -/
def State.cmdHarvestPm (s : State) (max room : Nat) : Reply × State :=
  let h := s.hqSt 4
  let items := takeFit max room h.pm
  let r := harvestReply items h.pm max h.disc false
  if r.status = 0x10 then (r, s)
  else (r, s.setHq 4 { h with pm := h.pm.drop items.length, disc := 0, mark := h.mark - items.length })

/-! ### The cursor (R393, R394) -/

/-- Whether a record passes the filter. -/
def State.passes (s : State) (r : Rec) : Bool :=
  decide (r.sev ≤ s.get EVR_FILT_sev_max) && bit (s.get EVR_FILT_grp) (r.typ / 256)

/-- The cursor is AT_END: EVR_CUR reads the newest held number plus 1. With no record held the spec gives no number: a
free value. -/
def State.curEnd (s : State) : State :=
  match maxRec s.heldRecs with
  | some r => s.setCur (r.seq + 1) 1
  | none => let (v, s) := s.draw; s.setCur (v % 2 ^ 64) 1

def State.curNext (s : State) : State :=
  let c := s.cur
  let l := s.heldRecs.filter fun r => s.passes r && (decide (c < r.seq) || (r.seq == c && s.get EVR_CUR_ST_state == 1))
  match minRec l with | some r => s.setCur r.seq 0 | none => s.curEnd

def State.curPrev (s : State) : State :=
  match maxRec (s.heldRecs.filter fun r => s.passes r && decide (r.seq < s.cur)) with
  | some r => s.setCur r.seq 0
  | none => s

def State.curOldest (s : State) : State := match minRec s.heldRecs with | some r => s.setCur r.seq 0 | none => s.curEnd
def State.curNewest (s : State) : State := match maxRec s.heldRecs with | some r => s.setCur r.seq 0 | none => s.curEnd

/-- A seek: a write of EVR_CUR. -/
def State.curSeek (s : State) (n : Nat) : State :=
  match s.recAt n with
  | some r => s.setCur r.seq 0
  | none => match minRec (s.heldRecs.filter fun r => decide (n < r.seq)) with
    | some r => s.setCur r.seq 0
    | none => s.curEnd

def State.curMark (s : State) : State := s.setMark s.cur

/-- A command of EVR_CUR_CTL while the cursor is LOST waits for the state read of R394: it acts on the cursor as it
stands. -/
def State.curCommand (s : State) (k : Nat) : State :=
  match k with
  | 0 => s.curNext | 1 => s.curPrev | 2 => s.curMark | 3 => s.curSeek s.mark | 4 => s.curOldest | 5 => s.curNewest
  | _ => s

def execCursorNext (s : State) : Host.Outcome State Fault Refusal := .next s.newCycle.curNext
def execCursorPrev (s : State) : Host.Outcome State Fault Refusal := .next s.newCycle.curPrev
def execCursorMark (s : State) : Host.Outcome State Fault Refusal := .next s.newCycle.curMark
def execCursorRewind (s : State) : Host.Outcome State Fault Refusal := .next (s.newCycle.curCommand 3)
def execCursorOldest (s : State) : Host.Outcome State Fault Refusal := .next s.newCycle.curOldest
def execCursorNewest (s : State) : Host.Outcome State Fault Refusal := .next s.newCycle.curNewest
def execCursorSeek (n : Nat) (s : State) : Host.Outcome State Fault Refusal := .next (s.newCycle.curSeek (n % 2 ^ 64))

/-- The effect of a read of EVR_CUR_ST: a read that returns LOST recovers the cursor (R394). -/
def State.curStateRead (s : State) : State :=
  if s.get EVR_CUR_ST_state = 2 then
    match minRec s.heldRecs with
    | some r =>
      let s := s.set EVR_CUR_LOST_lost (satN 32 (r.seq - min s.cur s.mark))
      (s.setCur r.seq 0).setMark r.seq
    | none => s.curEnd
  else s

/-- CURSOR_STATE_READ: a read of EVR_CUR_ST shows the state, then acts. -/
def effCursorStateRead (s : State) : State :=
  let w := s.reg 0x030084
  let s := s.curStateRead
  { s with out := { s.out with rdata := [w] } }
def execCursorStateRead (s : State) : Host.Outcome State Fault Refusal := .next (effCursorStateRead s.newCycle)

/-! ### Performance counters (R397) -/

/-- A write of PC_CTL: a snapshot takes the counts before a clear. -/
def State.pcCtl (s : State) (snap clear : Bool) : State :=
  let s := if snap then { s with perf := { s.perf with snap := s.perf.val } } else s
  if clear then { s with perf := { s.perf with val := [] } } else s
def execPcSnap (clear : Bool) (s : State) : Host.Outcome State Fault Refusal := .next (s.newCycle.pcCtl true clear)
def execPcClear (s : State) : Host.Outcome State Fault Refusal := .next (s.newCycle.pcCtl false true)

/-! ### Interrupts (R398, R399) -/

/-- A W1C write of an IRQ_STK register: a level source still raw keeps its bit, and sends a message if it is pending. -/
def State.stkClear (s : State) (g mask : Nat) (secure : Bool) : State :=
  if 16 ≤ g then s
  else
    let m := mask % 2 ^ 32 &&& (if secure then 0xFFFFFFFF else 0xFFFFFFFF ^^^ secureMask g)
    let old := s.stk g
    let hold := old &&& m &&& s.rawLevel g
    let s := { s with irq := { s.irq with stk := tset (fun _ => 0) s.irq.stk g ((old &&& (0xFFFFFFFF ^^^ m)) ||| hold) } }
    forEach ((List.range 32).filter fun b => bit hold b && bit (s.irqEn g) b) s fun s b =>
      s.sendMsix (s.vectorOf (32 * g + b))
def execIrqStkClear (g mask : Nat) (secure : Bool) (s : State) : Host.Outcome State Fault Refusal :=
  .next (s.newCycle.stkClear g mask secure)

/-- MSIX_SPACING_EXPIRY: the spacing of a vector ends, and a message merged during it is sent. -/
def effMsixSpacingExpiry (v : Nat) (s : State) : State :=
  let due := s.irq.due.contains v
  let s := { s with irq := { s.irq with space := s.irq.space.filter (· != v), due := s.irq.due.filter (· != v) } }
  if due then s.sendMsix v else s
def execMsixSpacingExpiry (v : Nat) (s : State) : Host.Outcome State Fault Refusal :=
  .next (effMsixSpacingExpiry v s.newCycle)

/-- The link is up and MSI-X is enabled: one message for each vector that has a pending bit routed to it (R399). -/
def State.sendPending (s : State) : State :=
  let vs := (List.range 512).filterMap fun k => if bit (s.irqPend (k / 32)) (k % 32) then some (s.vectorOf k) else none
  forEach (dedup vs) s State.sendMsix

end Sys2Proof.Machine
end

