-- ==== Sys2Proof/Machine/Loader.lean ====
section
/-!
DEFINITION. Sys2Proof/Machine/Loader.lean: the flash, the boot directory (R311), Ackar containers (R315, R316, R318) and
their verification (R319), and the use of a flash that a pair shares (R209).
-/
namespace Sys2Proof.Machine

/-! ### Flash bytes -/

/-- The byte of flash `cs` at an offset; an erased byte is 0xFF. -/
def State.flashByte (s : State) (cs off : Nat) : Byte := tget (fun _ => 0xFF) s.flash (2 ^ 32 * cs + off)

/-- `n` bytes of flash. -/
def State.flashBytes (s : State) (cs off n : Nat) : List Byte := (List.range n).map fun i => s.flashByte cs (off + i)

/-- A little-endian number in flash. -/
def State.flashNat (s : State) (cs off n : Nat) : Nat := leNat (s.flashBytes cs off n)

/-- Store bytes in flash. -/
def State.putFlash (s : State) (cs off : Nat) (l : List Byte) : State :=
  { s with flash := (l.foldl (fun (a : Nat × List (Nat × Byte)) b => (a.1 + 1, tset (fun _ => 0xFF) a.2 a.1 b))
      (2 ^ 32 * cs + off, s.flash)).2 }

/-- Erase flash from an offset up to below another. -/
def State.eraseFlash (s : State) (cs a b : Nat) : State :=
  { s with flash := s.flash.filter fun p => !(decide (2 ^ 32 * cs + a ≤ p.1) && decide (p.1 < 2 ^ 32 * cs + b)) }

/-! ### The boot directory (R311, Table 12-4) -/

/-- An image slot of the directory. -/
structure DirSlot where
  base  : Nat := 0
  size  : Nat := 0
  seq   : Nat := 0
  state : Nat := 0
  deriving DecidableEq, Repr

/-- A directory copy: which copy it is, its count and its fields. -/
structure Dir where
  copy  : Nat := 1
  count : Nat := 0
  epoch : Nat := 0
  a     : DirSlot := {}
  b     : DirSlot := {}
  recBase : Nat := 0
  recSize : Nat := 0
  deriving DecidableEq, Repr

/-- The 13 bytes of a directory slot at an offset. -/
def State.dirSlot (s : State) (cs off : Nat) : DirSlot :=
  ⟨s.flashNat cs off 4, s.flashNat cs (off + 4) 4, s.flashNat cs (off + 8) 4, s.flashNat cs (off + 12) 1⟩

/-- One copy of the directory, if its magic and CRC are good. -/
def State.dirCopy (s : State) (cs copy : Nat) : Option Dir :=
  let o := 0x10000 * copy
  if s.flashNat cs o 4 = 0x44524B41 ∧ crc32c (s.flashBytes cs o 60) = s.flashNat cs (o + 60) 4 then
    some { copy := copy, count := s.flashNat cs (o + 4) 4, epoch := s.flashNat cs (o + 8) 4
           a := s.dirSlot cs (o + 12), b := s.dirSlot cs (o + 28)
           recBase := s.flashNat cs (o + 44) 4, recSize := s.flashNat cs (o + 48) 4 }
  else none

/-- The copy in force: good, and of the higher count. -/
def State.dir (s : State) (cs : Nat) : Option Dir :=
  match s.dirCopy cs 0, s.dirCopy cs 1 with
  | some x, some y => if x.count < y.count then some y else some x
  | some x, none => some x
  | none, y => y

/-- The bytes of a directory slot. -/
def DirSlot.bytes (x : DirSlot) : List Byte :=
  leBytes 4 x.base ++ leBytes 4 x.size ++ leBytes 4 x.seq ++ leBytes 1 x.state ++ [0, 0, 0]

/-- The 64 bytes of a directory. -/
def Dir.bytes (d : Dir) : List Byte :=
  let body := leBytes 4 0x44524B41 ++ leBytes 4 d.count ++ leBytes 4 d.epoch ++ d.a.bytes ++ d.b.bytes
    ++ leBytes 4 d.recBase ++ leBytes 4 d.recSize ++ List.replicate 8 0
  body ++ leBytes 4 (crc32c body)

/-- Update the directory: the copy not in use is written, with the count plus 1. -/
def State.putDir (s : State) (cs : Nat) (d : Dir) : State :=
  let d := { d with copy := 1 - d.copy, count := (d.count + 1) % 2 ^ 32 }
  let o := 0x10000 * d.copy
  (s.eraseFlash cs o (o + 0x10000)).putFlash cs o d.bytes

/-- A slot of a directory: 0 A, 1 B. -/
def Dir.slot (d : Dir) (k : Nat) : DirSlot := if k = 0 then d.a else d.b

/-- A directory with the state of one slot replaced. -/
def Dir.mark (d : Dir) (k st : Nat) : Dir :=
  if k = 0 then { d with a := { d.a with state := st } } else { d with b := { d.b with state := st } }

/-- Mark a slot of the directory of a flash, if it has one. -/
def State.markSlot (s : State) (cs k st : Nat) : State :=
  match s.dir cs with
  | some d => s.putDir cs (d.mark k st)
  | none => s

/-! ### Containers (Tables 12-5 and 12-6) -/

/-- A container header. -/
structure Header where
  cs      : Nat := 0
  base    : Nat := 0
  magic   : Nat := 0
  format  : Nat := 0
  hdrSize : Nat := 0
  size    : Nat := 0
  nSec    : Nat := 0
  keySlot : Nat := 0
  svn     : Nat := 0
  pkOff   : Nat := 0
  sigOff  : Nat := 0
  deriving DecidableEq, Repr

/-- The header at a flash offset. -/
def State.header (s : State) (cs base : Nat) : Header :=
  let f := fun o n => s.flashNat cs (base + o) n
  { cs := cs, base := base, magic := f 0 4, format := f 4 2, hdrSize := f 6 2, size := f 8 4, nSec := f 12 2
    keySlot := f 14 1, svn := f 16 4, pkOff := f 28 4, sigOff := f 32 4 }

/-- An entry of the section table. -/
structure SecEnt where
  id     : Nat := 0
  inst   : Nat := 0
  boot   : Bool := false
  off    : Nat := 0
  len    : Nat := 0
  digest : List Byte := []
  deriving DecidableEq, Repr

/-- The section table of a container. -/
def State.secTable (s : State) (h : Header) : List SecEnt :=
  (List.range h.nSec).map fun i =>
    let o := h.base + 0x100 + 80 * i
    { id := s.flashNat h.cs o 1, inst := s.flashNat h.cs (o + 1) 1, boot := s.flashNat h.cs (o + 2) 1 == 1
      off := s.flashNat h.cs (o + 4) 4, len := s.flashNat h.cs (o + 8) 4, digest := s.flashBytes h.cs (o + 16) 64 }

/-- SHA3-512 of a byte string, as 64 bytes. -/
def sha512 (l : List Byte) : List Byte := leBytes 64 (Config.sha3 l)

/-- The image digest (R316). -/
def State.imageDigest (s : State) (h : Header) : List Byte := sha512 (s.flashBytes h.cs h.base h.sigOff)

/-- A text as bytes. -/
def ascii (t : String) : List Byte := t.toList.map fun c => BitVec.ofNat 8 c.toNat

/-- The hash that a key slot holds, where the slot is present and not revoked. -/
def State.keyHash (s : State) (k : Nat) : Option (List Byte) :=
  if s.boot.fuse.revoked.contains k then none
  else (s.boot.fuse.keys.find? fun p => p.1 == k).map (·.2)

/-- Whether two bodies overlap. -/
def SecEnt.meets (a b : SecEnt) : Bool := decide (a.off < b.off + b.len) && decide (b.off < a.off + a.len)

/-- Whether no element of a list meets a later one. -/
def apart (meets : SecEnt → SecEnt → Bool) : List SecEnt → Bool
  | [] => true
  | x :: t => !(t.any (meets x)) && apart meets t

/-- Whether the section table keeps R318. -/
def tableOk (h : Header) (t : List SecEnt) : Bool :=
  (t.all fun e => decide (1 ≤ e.id) && decide (e.id ≤ 16) && e.off % 256 == 0 && decide (h.sigOff + 4632 ≤ e.off)
    && decide (e.off + e.len ≤ h.size)) &&
  apart SecEnt.meets t &&
  apart (fun a b => a.boot && b.boot && a.id == b.id) t &&
  (t.any fun e => e.boot && e.id == 1) && (t.any fun e => e.boot && e.id == 13)

/-- Verify a container in a slot of a size (R319): the cause of the first failure, 0 where it passes. -/
def State.verify (s : State) (h : Header) (slotSize : Nat) : Nat :=
  let pk := s.flashBytes h.cs (h.base + h.pkOff) 2592
  let sg := s.flashBytes h.cs (h.base + h.sigOff) 4627
  if !(h.magic == 0x31524B41 && h.format == 1 && h.hdrSize == 256 && decide (h.size ≤ slotSize) && decide (1 ≤ h.nSec) &&
      decide (h.nSec ≤ 1024) && h.pkOff == 0x100 + 80 * h.nSec && h.sigOff == h.pkOff + 2592 &&
      decide (h.sigOff + 4632 ≤ h.size) && decide (h.svn ≤ 64)) then 1
  else match s.keyHash h.keySlot with
    | none => 2
    | some k =>
      if sha512 pk ≠ k then 3
      else if !Config.verify pk (s.imageDigest h) (ascii "ACKAR") sg then 4
      else if h.svn < s.boot.fuse.svn then 5
      else if !tableOk h (s.secTable h) then 6
      else 0

/-- The body of a section table entry. -/
def State.body (s : State) (h : Header) (e : SecEnt) : List Byte := s.flashBytes h.cs (h.base + e.off) e.len

/-- The header of the container in force. -/
def State.inForce (s : State) : Option Header := s.boot.base.map fun p => s.header p.1 p.2

/-- The container that a source code names (R378): 0 in force, 1 slot A, 2 slot B; with the slot size. -/
def State.sourceHeader (s : State) (src : Nat) : Option (Header × Nat) :=
  let cs := s.get CP_BOOT_ST_cs
  match src with
  | 0 => s.inForce.map fun h => (h, h.size)
  | 1 => (s.dir cs).map fun d => (s.header cs d.a.base, d.a.size)
  | 2 => (s.dir cs).map fun d => (s.header cs d.b.base, d.b.size)
  | _ => none

/-- The digest of a boot instance of a container. -/
def bootDigest (t : List SecEnt) (id : Nat) : List Byte :=
  ((t.find? fun e => e.boot && e.id == id).map fun e => e.digest).getD []

/-- The container of a source code, where a command may use it (R378). -/
def State.usable (s : State) (src : Nat) : Option Header :=
  match s.sourceHeader src with
  | none => none
  | some (h, n) =>
    if src = 0 then (if s.verify h n = 0 then some h else none)
    else if s.verify h n ≠ 0 then none
    else
      let own := fun id => ((sectionOf s.img id).map fun x => x.digest).getD []
      if bootDigest (s.secTable h) 1 = own 1 ∧ bootDigest (s.secTable h) 13 = own 13 then some h else none

/-! ### A shared flash (R209) -/

/-- Show whether this device may drive the xSPI pins. -/
def State.showFlashOwn (s : State) : State := s.setB MATE_ST_flash_own s.flashFree

/-- An APPLY or a step of a plan is loading. -/
def State.loading (s : State) : Bool := s.get PLN_STATE_state == 1

/-- The level that a rank-low device drives on FLASH_REQ: it requests the flash while it has a use for it (R209, R310). -/
def State.flashReqOut (s : State) : Bool :=
  !s.on MATE_ST_rank && (s.boot.waitGnt || s.loading || (s.host.bg.any fun b => b.op == 0x0501) || !s.rcd.flashBuf.isEmpty)

/-- The arbiter drives FLASH_GNT: it raises it for a request while it does not use the flash itself, and lowers it with the
request. While the mate is lost it changes nothing: the survivor takes the flash (R209; log entry 206). -/
def State.arbitrate (s : State) : State :=
  if s.on MATE_ST_rank && !s.on MATE_ST_lost then
    let g := s.mate.flashReq && (s.mate.flashGnt || !(s.mate.flashUse || s.loading))
    ({ s with mate := { s.mate with flashGnt := g } } : State).showFlashOwn
  else s

end Sys2Proof.Machine
end

