-- ==== Sys2Proof/Machine/Device.lean ====
section
/-!
DEFINITION. Sys2Proof/Machine/Device.lean: what the device's fuses and tamper state say to the other blocks.
-/
namespace Sys2Proof.Machine

/-- Line transmitters are squelched by a tamper (R333). -/
def State.tamperSquelch (s : State) : Bool := s.boot.squelch

/-- The fused ball offset of a lane's receiver or transmitter in 25 ps units (LN_CAL, R56): fixed for one device. -/
def State.ballOf (_ : State) (n : Nat) (tx : Bool) : Int := (Config.ball n tx % 2 ^ 12 : Nat)

end Sys2Proof.Machine
end

