-- ==== Sys2Proof/Machine/Lanes.lean ====
section
/-!
DEFINITION. Sys2Proof/Machine/Lanes.lean: the lane commands (chapter 2): reference clocks, synthesizers, acquisition,
faults, bonds, elastic buffers, lane terms and module interrupts.
-/
namespace Sys2Proof.Machine

def State.laneSt (s : State) (n : Nat) : LaneSt := tget (fun _ => {}) s.ln.lanes n
def State.setLaneSt (s : State) (n : Nat) (v : LaneSt) : State :=
  { s with ln := { s.ln with lanes := tset (fun _ => {}) s.ln.lanes n v } }

/-- Every lane index (R65). -/
def allLanes : List Nat := List.range 144

/-- Whether the power domain of a lane is ON (Table 16-11 code 2). -/
def State.laneDomainOn (s : State) (n : Nat) : Bool := s.get PWR_DOM_state (domainOfLane n) == 2

/-- Which case of R63 squelches a lane, in the order of that rule: 1 tamper, 2 isolation, 3 refclk loss, 5 domain
shut-down, 6 not started, 4 synthesizer unlock; 0 none. Tamper and isolation squelch the line transmitters
(R206, R333). -/
def State.squelchCase (s : State) (n : Nat) : Nat :=
  let st := s.get LN_STATE_state n
  let synth := s.ln.synthOk.contains (quadOf n)
  if n < 128 && s.tamperSquelch then 1
  else if n < 128 && s.mate.sqIso then 2
  else if s.ln.refLost.contains (refOf n) && laneOn s.img n then 3
  else if s.get PWR_DOM_state (domainOfLane n) = 3 then 5
  else if st = 0 || (st == 1 && !synth) then 6
  else if !synth then 4
  else 0

/-- Show the squelch of a lane (R63), and whether its transmitter drives the line. A test pattern or loopback is taken to
run only while the transmitter drives the line (DESIGN CHOICE, log entry 216). -/
def State.showSquelch (s : State) (n : Nat) : State :=
  let c := s.squelchCase n
  let s := ((s.set LN_STATE_squelch_src c n).setB LN_STATE_squelch (c != 0) n).setB LN_STATE_tx_on (c == 0) n
  let e := s.lane n
  s.setB LN_STATE_test (c == 0 && e.n LANES_format == 5 && e.n LANES_test != 0) n

/-- Show the squelch of every lane. -/
def State.showSquelchAll (s : State) : State := forEach allLanes s State.showSquelch

/-- Set a bit of LN_STICKY. -/
def State.lnStick (s : State) (f : Fld) (n : Nat) : State := s.setB f true n

/-- Recount MATE_ST.lanes_up (Table 7-9). -/
def State.countMateLanes (s : State) : State :=
  s.set MATE_ST_lanes_up ((List.range 16).filter fun j => s.get LN_STATE_state (128 + j) == 6).length

/-- One exit of a lane from UP (R53, R62): count, sticky bit and LANE_DOWN record with its cause. -/
def State.laneDown (s : State) (n cause : Nat) : State :=
  let s := ((s.inc LN_DOWN_CNT_count n).lnStick LN_STICKY_link_down n)
  let s := (s.setB LN_STATE_bond_up false n).setB LN_STATE_term_valid false n
  let s := s.setLaneSt n { s.laneSt n with measured := false }
  (s.report kLANE_DOWN [(1, n), (1, cause)]).countMateLanes

/-- Put a lane in a state that is not UP, with its lock bits. -/
def State.laneTo (s : State) (n st : Nat) (sig cdr fec al : Bool) : State :=
  let s := s.set LN_STATE_state st n
  let s := (s.setB LN_STATE_sig_det sig n).setB LN_STATE_cdr_lock cdr n
  (s.setB LN_STATE_fec_lock fec n).setB LN_STATE_align al n

/-- A lane leaves UP, or loses a lock while it acquires, and enters state `st`. A member that leaves UP takes its whole
bond out of UP in the same cycle; the other members keep their locks and wait in DESKEW (R51), but those in `own`, which
have a fault of their own in this cycle and leave UP by it (R62). -/
def State.laneLeave (s : State) (own : List Nat) (n st cause : Nat) (sig cdr fec al : Bool) : State :=
  let wasUp := s.get LN_STATE_state n == 6
  let bond := bondOf s.img n
  let s := s.laneTo n st sig cdr fec al
  let s := if st = 2 ∨ st = 1 then s.setLaneSt n { s.laneSt n with acq := true } else s
  if !wasUp then s
  else
    forEach bond s fun s m =>
      if m = n then s.laneDown n cause
      else if s.get LN_STATE_state m = 6 ∧ m ∉ own then (s.set LN_STATE_state 5 m).laneDown m 0
      else s

/-- The ingress elastic buffer is recentred to 64 words (R55). -/
def State.ebSlip (s : State) (n : Nat) : State := ((s.lnStick LN_STICKY_eb_slip n).inc LN_EB_slips n).set LN_EB_fill 64 n

/-- The first state of Table 2-8 in which a lane has the lock, or past which it has gained it, that faults of Table 2-11
take away, by row: CDR_ACQ for LOS, CDR unlock and the loss of a clock, FEC_ALIGN for FEC loss and alignment loss. -/
def faultState (rows : List Nat) : Nat :=
  if rows.any (fun r => r == 1 || r == 2 || r == 7 || r == 8) then 2 else 4

/-- Faults of Table 2-11 enter on one lane in one cycle (R61, R62): rows 1 LOS, 2 CDR unlock, 3 FEC loss, 4 high SER,
5 alignment loss, 6 elastic slip, 7 synthesizer unlock, 8 refclk loss. Rows 1, 2, 3, 5, 7 and 8 take the lane out of
UP; one LANE_DOWN record carries the topmost row that entered. A lane that loses a lock re-enters CDR_ACQ (R53, Table 2-8).
A disabled lane has no faults. `own` are the lanes on which such a fault enters in this cycle. -/
def State.laneFaults (s : State) (own : List Nat) (n : Nat) (rows : List Nat) : State :=
  let st := s.get LN_STATE_state n
  if st = 0 ∨ rows = [] then s
  else
    let stick := fun (s : State) (r : Nat) => match r with
      | 1 => s.lnStick LN_STICKY_los n | 2 => s.lnStick LN_STICKY_cdr_unlock n
      | 3 => s.lnStick LN_STICKY_fec_loss n | 4 => s.lnStick LN_STICKY_hi_ser n
      | 5 => s.lnStick LN_STICKY_align_loss n | 6 => s.ebSlip n
      | 7 => s.lnStick LN_STICKY_synth_unlock n | 8 => s.lnStick LN_STICKY_refclk_loss n
      | _ => s
    let s := forEach rows s stick
    let s := if rows.contains 1 then s.setLaneSt n { s.laneSt n with losOn := true } else s
    let out := rows.filter fun r => r != 4 && r != 6 && decide (r ≤ 8) && decide (1 ≤ r)
    if out = [] ∨ st = 1 then s
    else
      let cause := (rows.filter fun r => decide (r ≤ 8) && decide (1 ≤ r)).foldl min 8
      if st < faultState out then s
      else
        let sig := s.on LN_STATE_sig_det n && !out.contains 1
        s.laneLeave own n 2 cause sig false false false

/-- The same faults enter on several lanes in one cycle. -/
def State.laneFaultsAll (s : State) (ns rows : List Nat) : State :=
  forEach ns s fun s n => (s.laneFaults ns n rows).showSquelch n

/-- The lane faults that enter on a lane, and what follows from them in the same cycle. -/
def State.laneFault (s : State) (n row : Nat) (also : List Nat) : State :=
  if n < 144 then ((s.laneFaults [n] n (dedup (row :: also))).showSquelch n).settle else s

/-- A lane in POWERED enters CDR_ACQ once its quad synthesizer is locked (Table 2-8); its egress buffer then runs. -/
def State.laneStart (s : State) (n : Nat) : State :=
  if s.get LN_STATE_state n = 1 ∧ s.ln.synthOk.contains (quadOf n) ∧ !s.ln.refLost.contains (refOf n) then
    (s.laneTo n 2 false false false false).setLaneSt n { s.laneSt n with acq := true, egress := true }
  else s

/-- A lane enters POWERED when its entry is enabled and its domain is on, and leaves it at once where the synthesizer of its
quad is locked (Table 2-8). -/
def State.lanePower (s : State) (n : Nat) : State :=
  if laneOn s.img n && s.laneDomainOn n && s.get LN_STATE_state n == 0 then
    let s := (s.laneTo n 1 false false false false).setLaneSt n { acq := true }
    ((s.setB LN_STATE_refclk_ok (!s.ln.refLost.contains (refOf n)) n).laneStart n).showSquelch n
  else s

/-- A lane enters DISABLED: a changed LANES entry takes effect (R67), or its domain shuts down. An exit from UP has
cause 0. -/
def State.laneDisable (s : State) (n : Nat) : State :=
  let s := s.laneLeave [] n 0 0 false false false false
  (s.setLaneSt n {}).showSquelch n

/-! ### Reference clocks and synthesizers -/

/-- REFCLK_LOSS (R37): the lanes served leave UP, squelched, with refclk_loss set on every enabled lane. -/
def effRefclkLoss (r : Nat) (s : State) : State :=
  if 8 ≤ r then s
  else
    let s := { s with ln := { s.ln with refLost := if s.ln.refLost.contains r then s.ln.refLost else s.ln.refLost ++ [r] } }
    let ns := allLanes.filter fun n => refOf n == r
    let s := forEach ns s fun s n => s.setB LN_STATE_refclk_ok false n
    (s.laneFaultsAll (ns.filter fun n => laneOn s.img n) [8]).settle

def execRefclkLoss (r : Nat) (s : State) : Host.Outcome State Fault Refusal := .next (effRefclkLoss r s.newCycle)

/-- The synthesizer of a quad loses its lock. -/
def State.synthLost (s : State) (q : Nat) : State :=
  if s.ln.synthOk.contains q then
    { s with ln := { s.ln with synthOk := s.ln.synthOk.filter (· != q), unlocked := s.ln.unlocked ++ [q] } }
  else s

/-- REFCLK_VALID (R37): valid for 100 ms, so the lanes relink as from POWERED. -/
def effRefclkValid (r : Nat) (s : State) : State :=
  if !s.ln.refLost.contains r then s
  else
    let s := { s with ln := { s.ln with refLost := s.ln.refLost.filter (· != r) } }
    forEach (allLanes.filter fun n => refOf n == r) s fun s n =>
      if s.get LN_STATE_state n = 0 then (if s.laneDomainOn n then s.setB LN_STATE_refclk_ok true n else s)
      else
        let s := s.synthLost (quadOf n)
        let s := s.laneTo n 1 false false false false
        let s := s.setLaneSt n { s.laneSt n with acq := true }
        (s.setB LN_STATE_refclk_ok true n).showSquelch n

def execRefclkValid (r : Nat) (s : State) : Host.Outcome State Fault Refusal := .next (effRefclkValid r s.newCycle)

/-- SYNTH_LOCK (Table 2-8): lanes of the quad in POWERED enter CDR_ACQ. After a relock the egress buffers that ran recentre,
with eb_slip and the count of R55. -/
def effSynthLock (q : Nat) (s : State) : State :=
  if 36 ≤ q then s
  else
    let relock := s.ln.unlocked.contains q
    let s := { s with ln := { s.ln with
      synthOk := if s.ln.synthOk.contains q then s.ln.synthOk else s.ln.synthOk ++ [q]
      unlocked := s.ln.unlocked.filter (· != q) } }
    forEach (lanesOfQuad q) s fun s n =>
      let s := if relock && (s.laneSt n).egress then (s.lnStick LN_STICKY_eb_slip n).inc LN_EB_slips n else s
      (s.laneStart n).showSquelch n

def execSynthLock (q : Nat) (s : State) : Host.Outcome State Fault Refusal := .next (effSynthLock q s.newCycle)

/-- SYNTH_UNLOCK (Table 2-11): all lanes of the quad leave UP and squelch. -/
def effSynthUnlock (q : Nat) (s : State) : State :=
  if 36 ≤ q then s
  else
    ((s.synthLost q).laneFaultsAll (lanesOfQuad q) [7]).settle

def execSynthUnlock (q : Nat) (s : State) : Host.Outcome State Fault Refusal := .next (effSynthUnlock q s.newCycle)

/-! ### Acquisition (R52 to R54) -/

/-- CDR_LOCK: signal detect and CDR lock move a lane from CDR_ACQ to ADAPT; not while LOS persists (R53). A squelched lane
keeps its receiver running (R63). -/
def effCdrLock (n : Nat) (s : State) : State :=
  if s.get LN_STATE_state n = 2 ∧ !(s.laneSt n).losOn then
    s.laneTo n 3 true true false false
  else s

def execCdrLock (n : Nat) (s : State) : Host.Outcome State Fault Refusal := .next (effCdrLock n s.newCycle)

/-- ADAPT_CONVERGED: receiver adaptation converged. -/
def effAdaptConverged (n : Nat) (s : State) : State :=
  if s.get LN_STATE_state n = 3 then
    (s.laneTo n 4 true true false false).setLaneSt n { s.laneSt n with preset := false }
  else s

def execAdaptConverged (n : Nat) (s : State) : Host.Outcome State Fault Refusal := .next (effAdaptConverged n s.newCycle)

/-- FEC_ALIGN_LOCK: codeword lock and an alignment event move the lane to DESKEW. -/
def effFecAlignLock (n : Nat) (s : State) : State :=
  if s.get LN_STATE_state n = 4 then s.laneTo n 5 true true true true else s

def execFecAlignLock (n : Nat) (s : State) : Host.Outcome State Fault Refusal := .next (effFecAlignLock n s.newCycle)

/-- One lane enters UP (R53): sticky bit, LANE_UP record, the acquisition time of a lane that re-acquired. -/
def State.laneUp (s : State) (n us : Nat) : State :=
  let s := (s.set LN_STATE_state 6 n).setB LN_STATE_bond_up true n
  let s := if (s.laneSt n).acq then s.set LN_LINKUP_time us n else s
  let s := s.setLaneSt n { s.laneSt n with acq := false, measured := false }
  let s := s.setB LN_STATE_term_valid ((s.lane n).n LANES_format != 5) n
  ((s.lnStick LN_STICKY_link_up n).report kLANE_UP [(1, n)]).countMateLanes

/-- The member whose skew is farthest from the lead's. -/
def worstOf : List (Nat × Int) → Nat × Int → Nat × Int
  | [], w => w
  | x :: t, w => worstOf t (if w.2.natAbs < x.2.natAbs then x else w)

/-- DESKEW_COMPLETE (R43, R50, R52): every member of the bond of lane `n` is in DESKEW; the skews shown are measured, and
`us` is the time since the earliest entry of a member to POWERED or CDR_ACQ. A FlexO group whose instance numbers do not
match sets align_loss on each member and stays in DESKEW; so does one whose group ID does not match, of which R43 says only
that it is sent (DESIGN CHOICE, log entry 217). A skew above LANES.skew_max sets skew_exceeded on the worst member;
otherwise the bond enters UP as a whole. -/
def effDeskewComplete (n : Nat) (members : List DeskewIn) (gid us : Nat) (s : State) : State :=
  let bond := bondOf s.img n
  let lead := leadOf s.img n
  if !(decide (n < 144) && laneOn s.img n && bond.all fun m => s.get LN_STATE_state m == 5) then s
  else
    let e := s.lane lead
    let pairs := bond.zip (members ++ List.replicate bond.length ⟨0, 0, 0⟩)
    let s := forEach pairs s fun s p => s.set LN_SKEW_skew (unsignedOf 16 (if p.1 = lead then 0 else p.2.skew)) p.1
    let grp := s.frGroup lead
    let mismatch := e.n LANES_format == 1 && (gid != grp.n FRAMING_flexo_gid ||
      (pairs.zip (List.range bond.length)).any fun p => p.1.2.iid != grp.n FRAMING_flexo_iid p.2)
    let worst := worstOf (pairs.map fun p => (p.1, if p.1 = lead then 0 else p.2.skew)) (lead, 0)
    if mismatch then forEach bond s fun s m => s.lnStick LN_STICKY_align_loss m
    else if e.n LANES_skew_max * 40 < worst.2.natAbs then s.lnStick LN_STICKY_skew_exceeded worst.1
    else (forEach pairs s fun s p => s.laneUp p.1 (us - p.2.later)).settle

def execDeskewComplete (n : Nat) (members : List DeskewIn) (gid us : Nat) (s : State) : Host.Outcome State Fault Refusal :=
  .next (effDeskewComplete n members gid us s.newCycle)

/-- ACQ_ATTEMPT_TIMEOUT (R53): 500 ms since a lane entered CDR_ACQ without UP; adaptation restarts from the preset. A member
that waits in DESKEW for its bond and has not left its locks (R51) has no attempt running. -/
def effAcqAttemptTimeout (n : Nat) (s : State) : State :=
  if !(s.laneSt n).acq then s else
  match s.get LN_STATE_state n with
  | 2 => s.setLaneSt n { s.laneSt n with preset := true }
  | 3 => s.setLaneSt n { s.laneSt n with preset := true }
  | 4 | 5 => (s.laneTo n 3 true true false false).setLaneSt n { s.laneSt n with preset := true }
  | _ => s

def execAcqAttemptTimeout (n : Nat) (s : State) : Host.Outcome State Fault Refusal :=
  .next (effAcqAttemptTimeout n s.newCycle)

/-! ### Faults (R61, R62) -/

def execLosEntry (n : Nat) (also : List Nat) (s : State) : Host.Outcome State Fault Refusal :=
  .next (s.newCycle.laneFault n 1 also)

/-- LOS_EXIT: signal detect for 1 ms ends LOS. -/
def effLosExit (n : Nat) (s : State) : State :=
  if (s.laneSt n).losOn then (s.setLaneSt n { s.laneSt n with losOn := false }).setB LN_STATE_sig_det true n else s

def execLosExit (n : Nat) (s : State) : Host.Outcome State Fault Refusal := .next (effLosExit n s.newCycle)

def execCdrUnlock (n : Nat) (also : List Nat) (s : State) : Host.Outcome State Fault Refusal :=
  .next (s.newCycle.laneFault n 2 also)

def execFecLoss (n : Nat) (also : List Nat) (s : State) : Host.Outcome State Fault Refusal :=
  .next (s.newCycle.laneFault n 3 also)

def execAlignLoss (n : Nat) (also : List Nat) (s : State) : Host.Outcome State Fault Refusal :=
  .next (s.newCycle.laneFault n 5 also)

/-- EB_SLIP (R55): the ingress buffer is recentred to 64, eb_slip is set and the slip counted; the next alignment event
is a new lane-term measurement, a LANE_TERM_MEASURE like any other. -/
def effEbSlip (n : Nat) (s : State) : State :=
  if s.get LN_STATE_state n < 2 then s
  else s.ebSlip n

def execEbSlip (n : Nat) (s : State) : Host.Outcome State Fault Refusal := .next (effEbSlip n s.newCycle)

/-! ### Lane terms (R56 to R60) -/

/-- LANE_TERM_MEASURE (R57 to R59): the ingress term is the core-side instant minus the CDR timestamp plus the receive
ball offset, the egress term the serializer timestamp minus the core-side instant plus the transmit ball offset, all in
25 ps units (Example 2-2). The terms are measured at every alignment event from the first, which takes the lane to DESKEW
(Table 2-9). In UP, a step from the measurement before it in the same stay beyond LANES.term_step writes one record with both terms and a flag for each. -/
def effLaneTermMeasure (n : Nat) (rx tx : TermIn) (s : State) : State :=
  if !s.on LN_STATE_align n ∨ (s.lane n).n LANES_format = 5 then s
  else
    let rxT := ((rx.core : Int) - rx.unit + s.ballOf n false).toNat
    let txT := ((tx.unit : Int) - tx.core + s.ballOf n true).toNat
    let rx0 := s.get LN_RX_TERM_rx_term n
    let tx0 := s.get LN_TX_TERM_tx_term n
    let thr := (s.lane n).n LANES_term_step
    let step := fun (a b : Nat) => (s.laneSt n).measured && decide (thr < 25 * ((a : Int) - b).natAbs)
    let s := (s.set LN_RX_TERM_rx_term rxT n).set LN_TX_TERM_tx_term txT n
    let s := ((s.set LN_TS_SEC_sec rx.sec n).set LN_TS_NS_ns (rx.unit / 40) n).set LN_TS_SUB_sub (rx.unit % 40) n
    let rs := step rxT rx0
    let ts := step txT tx0
    let s := s.setLaneSt n { s.laneSt n with measured := s.get LN_STATE_state n == 6 }
    if rs || ts then
      (s.lnStick LN_STICKY_term_step n).report kLANE_TERM_STEP
        [(1, n), (3, rx0), (3, rxT), (3, tx0), (3, txT), (1, b2n rs + 2 * b2n ts)]
    else s

def execLaneTermMeasure (n : Nat) (rx tx : TermIn) (s : State) : Host.Outcome State Fault Refusal :=
  .next (effLaneTermMeasure n rx tx s.newCycle)

/-- At the start of a grid multiframe the latest terms come into use (R58). -/
def State.takeTerms (s : State) : State :=
  forEach (allLanes.filter fun n => s.get LN_STATE_state n == 6) s fun s n =>
    s.setLaneSt n { s.laneSt n with
      rxUse := s.get LN_RX_TERM_rx_term n, txUse := s.get LN_TX_TERM_tx_term n }

/-! ### Module interrupts (R64) -/

/-- MOD_INT_EDGE: an accepted edge sets mod_int on the enabled lanes of the line quad. From the 1,001st of a PM second on, an
edge is a further one of R64: it sets mod_int_masked on the quad's lanes and not mod_int (of the 1,001st itself the rule does
not say: DESIGN CHOICE, log entry 218). The first of them masks the pin and writes one record. -/
def effModIntEdge (q : Nat) (s : State) : State :=
  if 32 ≤ q then s
  else
    let c := tget (fun _ => 0) s.ln.modEdges q + 1
    let s := { s with ln := { s.ln with modEdges := tset (fun _ => 0) s.ln.modEdges q c } }
    if c ≤ 1000 then
      forEach ((lanesOfQuad q).filter fun n => laneOn s.img n) s fun s n => s.lnStick LN_STICKY_mod_int n
    else
      let s := forEach (lanesOfQuad q) s fun s n => s.lnStick LN_STICKY_mod_int_masked n
      if s.ln.modMasked.contains q then s else
      let s := { s with ln := { s.ln with modMasked := s.ln.modMasked ++ [q] } }
      s.report kMOD_INT_RATE [(1, q)]

def execModIntEdge (q : Nat) (s : State) : Host.Outcome State Fault Refusal := .next (effModIntEdge q s.newCycle)

end Sys2Proof.Machine
end

