-- ==== Sys2Proof/Machine/Residence.lean ====
section
/-!
DEFINITION. Sys2Proof/Machine/Residence.lean: residence (R138, R214), the RESIDENCE section (R139, R156, R157), hit
declarations (R168) and non-disturbance (R169).
-/
namespace Sys2Proof.Machine

/-! ### Pipeline constants (Tables 5-3 and 8-2) -/

/-- The ingress or egress constant of a context. -/
def ctxConst (l : List Section) (e : Entry) (out : Bool) : Nat :=
  let pick := fun (i o : Nat) => if out then o else i
  match e.n MAPPING_kind with
  | 2 | 3 => pick 90 112
  | 4 => if (serverOf l e).isSome then pick 142 129 else pick 48 60
  | 6 => pick 56 66
  | 7 => match serverOf l e with
    | some sv => if sv.n MAPPING_kind = 5 then pick 166 118 else pick 194 130
    | none => pick 194 130
  | _ => 0

/-- The ingress constant of an input slot. -/
def slotIn (l : List Section) (slot : Nat) : Nat :=
  if mateSlot l slot then 40
  else match ownerOf l 0 slot with
    | some (e, _) => ctxConst l e false
    | none => match engineOf l slot with
      | some (e, _) => if e.kind = 1 then 154 else 40
      | none => 0

/-- The egress constant of an output slot. -/
def slotOut (l : List Section) (out : Nat) : Nat :=
  if mateSlot l out then 40
  else match ownerOf l 1 out with
    | some (e, _) => ctxConst l e true
    | none => 0

/-! ### Residence (R138) -/

/-- The write cycle and lag of one source of a read entry. -/
def readSource (r : Entry) (alt : Bool) : Nat × Nat :=
  if alt then (r.n FABRIC_PAGE_alt_wc, r.n FABRIC_PAGE_alt_lag) else (r.n FABRIC_PAGE_src_wc, r.n FABRIC_PAGE_lag)

/-- The residence of a slot connection, in CLK_FAB cycles. -/
def slotResidence (l : List Section) (r : Entry) (alt : Bool) : Int :=
  let (wc, lag) := readSource r alt
  let slot := (slotAt (writesOf l) (pairOf (r.n FABRIC_PAGE_rd_slice) wc)).getD 0
  let wait := (wc + 128 - readyCycle l slot) % 128
  (slotIn l slot : Int) + wait + holdOf (r.n FABRIC_PAGE_rd_cycle) wc lag + 6 + slotOut l (r.n FABRIC_PAGE_out)

/-- The write pair of output host `h`: that of the slot of receive host `h` (R121). -/
def hostPair (l : List Section) (h : Nat) : Option Nat :=
  ((writesOf l).find? fun w => w.2 == hostSlot l h).map (·.1)

/-- The read entry of lowest output slot that delivers output host `h`, with the source it reads it through. -/
def hostRead (l : List Section) (h : Nat) : Option (Entry × Bool) :=
  match hostPair l h with
  | none => none
  | some p =>
    let reads := (kindOf l 5 3).foldr (insertBy FABRIC_PAGE_out) []
    reads.findSome? fun r => ((sourcesOf r).find? fun x => pairOf (r.n FABRIC_PAGE_rd_slice) x.1 == p).map fun x =>
      (r, x.2.2)

/-- The block of the unit of twig `t` in a host frame. -/
def unitBlock (t : Nat) : Nat := 5 + t / 4

/-- The ingress constant of receive host `h`. -/
def hostIn (l : List Section) (h : Nat) : Nat := match hostCtx l h with | some e => ctxConst l e false | none => 0

/-- The residence of output host `h` from its write to its egress port. -/
def hostTail (l : List Section) (h : Nat) : Int :=
  match hostRead l h with
  | some (r, alt) =>
    let (wc, lag) := readSource r alt
    holdOf (r.n FABRIC_PAGE_rd_cycle) wc lag + 6 + slotOut l (r.n FABRIC_PAGE_out)
  | none => 6

/-- The residence of a twig unit from twig `u` of host `src` to twig `t` of output host `h`. -/
def twigResidence (l : List Section) (h t src u : Nat) : Int :=
  (hostIn l src : Int) + tSub l src h (unitBlock u) (unitBlock t) + hostTail l h

/-- The residence of an output twig of a twig wrap (Table 8-2): t_sub of the receive host of the source circuit, from the
block of its first twig (DEDUCED, log entry 211), plus 256. -/
def wrapTwigResidence (l : List Section) (e : Entry) (h t : Nat) : Int :=
  match mapOf l (e.n EVERGREEN_w_src) with
  | some c => tSub l (c.n MAPPING_host) h (unitBlock (c.n MAPPING_twig_first)) (unitBlock t) + 256 + hostTail l h
  | none => 256 + hostTail l h

/-- The residence of an output twig of a twig merge (Table 8-2) from the playout instant `p`: t_sub with that instant in place
of the ready cycle, its grid period giving the block (DEDUCED, log entry 211), plus 256. -/
def mergeTwigResidence (l : List Section) (h t : Nat) (p : Int) : Int :=
  let x : Int := (128 * (unitBlock t : Int) + writeCycle l (hostSlot l h) - p - 14) % 16000 + 14
  x + 256 + hostTail l h

/-- The source of a twig entry. -/
def twigRead (e : Entry) (alt : Bool) : Nat × Nat :=
  if alt then (e.n TWIG_PAGE_alt_host, e.n TWIG_PAGE_alt_twig) else (e.n TWIG_PAGE_src_host, e.n TWIG_PAGE_src_twig)

/-- The residence of a twig entry through one of its sources. -/
def entryResidence (l : List Section) (e : Entry) (alt : Bool) : Int :=
  let (src, u) := twigRead e alt
  twigResidence l (e.n TWIG_PAGE_out_host) (e.n TWIG_PAGE_out_twig) src u

/-! ### The RESIDENCE section (R156) -/

/-- A residence by the key of R156: key, cycles, and the group of connections that must agree with it (R29). -/
structure ResKey where
  key : Nat
  val : Int
  grp : Nat
  deriving DecidableEq, Repr

/-- The group of a slot connection: its source, leaf and source selection. Where the source is a mate slot, whose context is
another device's, the members of one output context are one connection (R29). -/
def leafGroup (l : List Section) (r : Entry) (alt : Bool) : Nat :=
  let (wc, _) := readSource r alt
  match (slotAt (writesOf l) (pairOf (r.n FABRIC_PAGE_rd_slice) wc)).bind (sourceInfo l) with
  | some x => (x.1 * 8 + r.n FABRIC_PAGE_leaf) * 2 + b2n alt
  | none => match ownerOf l 1 (r.n FABRIC_PAGE_out) with
    | some x => 10 ^ 7 + (4096 + x.1.n MAPPING_ctx) * 2 + b2n alt
    | none => 10 ^ 7 + r.n FABRIC_PAGE_out * 2 + b2n alt

/-- The group of a twig connection: its transmit circuit and source selection. Output twigs that no transmit circuit claims
and that one receive circuit feeds at one distance of twig numbers are a circuit too (R29; DEDUCED, log entry 209). -/
def circuitGroup (l : List Section) (e : Entry) (alt : Bool) : Nat :=
  let h := e.n TWIG_PAGE_out_host
  let t := e.n TWIG_PAGE_out_twig
  match circuitOf l 1 h t with
  | some c => 10 ^ 8 + c.n MAPPING_ctx * 2 + b2n alt
  | none =>
    let (sh, st) := if alt then (e.n TWIG_PAGE_alt_host, e.n TWIG_PAGE_alt_twig) else (e.n TWIG_PAGE_src_host, e.n TWIG_PAGE_src_twig)
    match circuitOf l 0 sh st with
    | some c => 10 ^ 10 + ((c.n MAPPING_ctx * 320 + h) * 960 + (480 + t - st)) * 2 + b2n alt
    | none => 10 ^ 9 + (480 * h + t) * 2 + b2n alt

/-- Every residence of the pages of a list of sections, in ascending key order. -/
def allResidences (l : List Section) : List ResKey :=
  let reads := (kindOf l 5 3).foldr (insertBy FABRIC_PAGE_out) []
  let slots := reads.flatMap fun r =>
    let k := 2 * r.n FABRIC_PAGE_out
    ⟨k, slotResidence l r false, leafGroup l r false⟩ ::
      (if r.b FABRIC_PAGE_prot then [⟨k + 1, slotResidence l r true, leafGroup l r true⟩] else [])
  let key := fun (e : Entry) => 480 * e.n TWIG_PAGE_out_host + e.n TWIG_PAGE_out_twig
  let twigs := ((kindOf l 6 1).map fun e => (key e, e.idx)).foldr insertP []
  slots ++ twigs.flatMap fun p => match (kindOf l 6 1).find? fun e => e.idx == p.2 with
    | none => []
    | some e =>
      let k := 0x2000 + 2 * p.1
      ⟨k, entryResidence l e false, circuitGroup l e false⟩ ::
        (if e.b TWIG_PAGE_prot then [⟨k + 1, entryResidence l e true, circuitGroup l e true⟩] else [])

/-- The residences that a RESIDENCE section declares: key and cycles, in ascending key order. -/
def declaredResidences (l : List Section) : List (Nat × Nat) :=
  (((kindOf l 14 1).map fun (e : Entry) => (2 * e.n RESIDENCE_out + e.n RESIDENCE_sel, e.n RESIDENCE_cycles)) ++
    ((kindOf l 14 2).map fun (e : Entry) => (0x2000 + 2 * e.n RESIDENCE_t_key + e.n RESIDENCE_t_sel, e.n RESIDENCE_t_cycles))).foldr
      insertP []

/-- A residence mismatch: key, declared value, computed value. -/
abbrev Mismatch := Nat × Nat × Int

/-- The first disagreement of two lists in ascending key order. -/
def firstMismatch : List (Nat × Nat) → List ResKey → Option Mismatch
  | [], [] => none
  | [], c :: _ => some (c.key, 0, c.val)
  | d :: _, [] => some (d.1, d.2, 0)
  | d :: ds, c :: cs =>
    if d.1 < c.key then some (d.1, d.2, 0)
    else if c.key < d.1 then some (c.key, 0, c.val)
    else if (d.2 : Int) ≠ c.val then some (d.1, d.2, c.val)
    else match ds with
      | x :: _ => if x.1 = d.1 then some (x.1, x.2, 0) else firstMismatch ds cs
      | [] => firstMismatch ds cs

/-- The first connection whose residence differs from an earlier one of its group (R29). -/
def unevenLeaf : List ResKey → List ResKey → Option Mismatch
  | [], _ => none
  | c :: t, seen =>
    match seen.find? fun x => x.grp == c.grp with
    | some x => if x.val = c.val then unevenLeaf t seen else some (c.key, c.val.toNat, c.val)
    | none => unevenLeaf t (c :: seen)

/-- The check of a RESIDENCE section against the pages of the post-step state. A section without its global entry lacks it
(R156): a missing entry has declared value 0. -/
def residenceMismatch (l : List Section) : Option Mismatch :=
  let fab := globalOf l FABRIC_PAGE_page_id
  let twg := globalOf l TWIG_PAGE_page_id
  let df := globalOf l RESIDENCE_fab_page_id
  let dt := globalOf l RESIDENCE_twg_page_id
  if (kindOf l 14 0).isEmpty then some (0xFFFFFF, 0, fab)
  else if df ≠ fab then some (0xFFFFFF, df, fab)
  else if dt ≠ twg then some (0xFFFFFF, dt, twg)
  else
    let all := allResidences l
    match firstMismatch (declaredResidences l) all with
    | some m => some m
    | none => unevenLeaf all []

/-! ### When RESIDENCE must be named (R157) -/

/-- What fixes the pipeline constant of a context. -/
def constKey (l : List Section) (c : Nat) : Option (Nat × Nat × Nat × Option Nat) :=
  (mapOf l c).map fun e =>
    (e.n MAPPING_kind, carriageOf e, e.n MAPPING_odu_mode, (serverOf l e).map fun v => v.n MAPPING_kind)

/-- The contexts that the pages of a list of sections connect. -/
def connected (l : List Section) : List Nat :=
  let slots := (kindOf l 5 3).flatMap fun r =>
    ((pairsOf r).filterMap fun p => (slotAt (writesOf l) p).bind fun s => (ownerOf l 0 s).map fun x => x.1.n MAPPING_ctx)
      ++ (match ownerOf l 1 (r.n FABRIC_PAGE_out) with | some x => [x.1.n MAPPING_ctx] | none => [])
  let twigs := (kindOf l 6 1).flatMap fun e =>
    ((twigSources e).filterMap fun t => (hostCtx l (t / 480)).map fun x => x.n MAPPING_ctx) ++
      (match circuitOf l 1 (e.n TWIG_PAGE_out_host) (e.n TWIG_PAGE_out_twig) with
        | some x => [x.n MAPPING_ctx] | none => [])
  dedup (slots ++ twigs)

/-- Whether a change from `old` to `new` must name RESIDENCE; `named` are the section IDs that it names. -/
def needsResidence (old new : List Section) (named : List Nat) : Bool :=
  named.contains 5 || named.contains 6 ||
    (named.contains 4 && (connected new).any fun c => decide (constKey old c ≠ constKey new c))

/-! ### Comparing the state in force with the post-step state -/

/-- Whether a context, its servers, and the lane group that carries it are the same in two lists of sections. -/
def sameCtx (old new : List Section) (c : Nat) : Bool :=
  let e := (mapOf old c).getD {}
  let chain := (serverChain old 5 e).map fun x => x.n MAPPING_ctx
  let lead := leadOfCtx old e
  (c :: chain).all (fun x => sameEntry 4 0 (mapOf old x) (mapOf new x)) &&
    (groupSlots old lead == groupSlots new lead) &&
    ((dedup ((groupSlots old lead).map (· / 20))).all fun n =>
      sameEntry 2 0 (some (laneEntryOf old n)) (some (laneEntryOf new n))) &&
    (let a := (entryBy old FRAMING_lead lead).getD { kind := 1 }
     let b := (entryBy new FRAMING_lead lead).getD { kind := 1 }
     a.i FRAMING_flexo_gid == b.i FRAMING_flexo_gid &&
       (List.range 4).all fun i => a.i FRAMING_flexo_iid i == b.i FRAMING_flexo_iid i)

/-- Whether the EVERGREEN entries that name a context are the same. -/
def sameEvg (old new : List Section) (c : Nat) : Bool :=
  let names := fun (l : List Section) =>
    ((kindOf l 8 1).filter fun w => w.n EVERGREEN_w_src == c).map (fun w => { w with idx := 0 }) ++
    ((kindOf l 8 2).filter fun m => (!m.b EVERGREEN_m_mate_a && m.n EVERGREEN_m_copy_a == c) ||
      (!m.b EVERGREEN_m_mate_b && m.n EVERGREEN_m_copy_b == c)).map fun m => { m with idx := 0 }
  decide (names old = names new)

/-- Whether two EVERGREEN entries, each with the place of an output among those it feeds, are the same. -/
def sameEngine (a b : Option (Entry × Nat)) : Bool :=
  match a, b with
  | some x, some y => x.2 == y.2 && x.1.kind == y.1.kind && sameEntry 8 x.1.kind (some x.1) (some y.1)
  | none, none => true
  | _, _ => false

/-- The contexts of an output slot: of each of its sources, and of the output. -/
def slotContexts (l : List Section) (r : Entry) : List Nat :=
  ((pairsOf r).filterMap fun p => (slotAt (writesOf l) p).bind fun s =>
    match ownerOf l 0 s with
    | some x => some [x.1.n MAPPING_ctx]
    | none => (engineOf l s).map fun x => evgContexts x.1).flatten ++
  (match ownerOf l 1 (r.n FABRIC_PAGE_out) with | some x => [x.1.n MAPPING_ctx] | none => [])

/-- Whether an output slot passes R169. -/
def slotUndisturbed (old new : List Section) (out : Nat) : Bool :=
  match entryBy old FABRIC_PAGE_out out, entryBy new FABRIC_PAGE_out out with
  | none, none => true
  | some a, some b =>
    let ctxs := slotContexts old a
    sameEntry 5 3 (some a) (some b) &&
    ((pairsOf a).all fun p => slotAt (writesOf old) p == slotAt (writesOf new) p) &&
    ((sourcesOf a).all fun x => slotResidence old a x.2.2 == slotResidence new b x.2.2) &&
    ctxs.all (fun c => sameCtx old new c && sameEvg old new c) &&
    ((pairsOf a).all fun p =>
      let src := fun (l : List Section) => ((slotAt (writesOf l) p).bind (engineOf l)).map fun x => (x.1, x.2.2)
      sameEngine (src old) (src new)) &&
    (!a.b FABRIC_PAGE_prot || sameEntry 7 1 (entryBy old PROTECTION_grp (a.n FABRIC_PAGE_qs_group))
      (entryBy new PROTECTION_grp (a.n FABRIC_PAGE_qs_group)))
  | _, _ => false

/-- The twig entry of an output twig in a list of sections. -/
def twigEntryOf (l : List Section) (h t : Nat) : Option Entry :=
  (kindOf l 6 1).find? fun e => e.n TWIG_PAGE_out_host == h && e.n TWIG_PAGE_out_twig == t

/-- The contexts of an output twig: receive hosts and circuits of its sources, and its transmit circuit. -/
def twigContexts (l : List Section) (e : Entry) : List Nat :=
  let ctx := fun (o : Option Entry) => match o with | some x => [x.n MAPPING_ctx] | none => []
  (twigSources e).flatMap (fun t => ctx (hostCtx l (t / 480)) ++ ctx (circuitOf l 0 (t / 480) (t % 480))) ++
    ctx (circuitOf l 1 (e.n TWIG_PAGE_out_host) (e.n TWIG_PAGE_out_twig)) ++
    (match hostRead l (e.n TWIG_PAGE_out_host) with
      | some (r, _) => (match ownerOf l 1 (r.n FABRIC_PAGE_out) with | some x => [x.1.n MAPPING_ctx] | none => [])
      | none => [])

/-- Whether an output twig without a twig entry passes R169 (R232): the EVERGREEN entry that sends it, its contexts and its
residence are the same. -/
def evgTwigUndisturbed (old new : List Section) (h t : Nat) : Bool :=
  let a := evgTwigOf old h t
  sameEngine a (evgTwigOf new h t) &&
  (match a with
    | none => true
    | some (e, _) =>
      (evgContexts e).all (fun c => sameCtx old new c && sameEvg old new c) && (hostPair old h == hostPair new h) &&
        (if e.kind = 1 then wrapTwigResidence old e h t == wrapTwigResidence new e h t
         else hostTail old h == hostTail new h && writeCycle old (hostSlot old h) == writeCycle new (hostSlot new h)))

/-- Whether an output twig passes R169. -/
def twigUndisturbed (old new : List Section) (k : Nat) : Bool :=
  match twigEntryOf old (k / 480) (k % 480), twigEntryOf new (k / 480) (k % 480) with
  | none, none => evgTwigUndisturbed old new (k / 480) (k % 480)
  | some a, some b =>
    sameEntry 6 1 (some a) (some b) &&
    (hostPair old (k / 480) == hostPair new (k / 480)) &&
    ((false :: (if a.b TWIG_PAGE_prot then [true] else [])).all fun alt =>
      entryResidence old a alt == entryResidence new b alt) &&
    (twigContexts old a).all (fun c => sameCtx old new c && sameEvg old new c) &&
    (!a.b TWIG_PAGE_prot || sameEntry 7 1 (entryBy old PROTECTION_grp (a.n TWIG_PAGE_qs_group))
      (entryBy new PROTECTION_grp (a.n TWIG_PAGE_qs_group)))
  | _, _ => false

/-- The first output that a step does not name and that fails R169: section and key. -/
def firstDisturbed (old new : List Section) (hits : List Entry) : Option (Nat × Nat) :=
  let named := fun (kind k : Nat) => hits.any fun h => h.n PLAN_h_kind == kind && h.n PLAN_h_key == k
  match (List.range 2560).find? fun o => !named 0 o && !slotUndisturbed old new o with
  | some o => some (5, o)
  | none => ((List.range 153600).find? fun k => !named 1 k && !twigUndisturbed old new k).map fun k => (6, k)

/-! ### Hit declarations (Table 6-2, R168) -/

/-- The residence of an output through its working source, and through its protecting source. -/
def outResidences (l : List Section) (kind k : Nat) : List Int :=
  if kind = 0 then
    match entryBy l FABRIC_PAGE_out k with
    | some r => (sourcesOf r).map fun x => slotResidence l r x.2.2
    | none => []
  else match twigEntryOf l (k / 480) (k % 480) with
    | some e => (false :: (if e.b TWIG_PAGE_prot then [true] else [])).map fun alt => entryResidence l e alt
    | none => []

/-- Whether an output has an entry in a page. -/
def hasEntry (l : List Section) (kind k : Nat) : Bool :=
  if kind = 0 then (entryBy l FABRIC_PAGE_out k).isSome else (twigEntryOf l (k / 480) (k % 480)).isSome

/-- Whether a hit entry passes its load check. The change of residence is taken source by source, the working source
standing for a source that one of the pages lacks. -/
def hitOk (old new : List Section) (h : Entry) : Bool :=
  let kind := h.n PLAN_h_kind
  let k := h.n PLAN_h_key
  let a := outResidences old kind k
  let b := outResidences new kind k
  let unit : Nat := if kind = 0 then 128 else 16000
  let deltas := (List.range (max a.length b.length)).map fun i =>
    (((b[i]?).getD ((b[0]?).getD 0)) - ((a[i]?).getD ((a[0]?).getD 0))).natAbs
  (hasEntry old kind k || hasEntry new kind k) &&
  (match h.n PLAN_h_class with
    | 0 => deltas.all (· == 0)
    | 1 => deltas.all fun d => decide (ceilDiv d unit ≤ h.n PLAN_h_max)
    | 2 => !hasEntry old kind k
    | 3 => !hasEntry new kind k
    | 4 => true
    | _ => false)

end Sys2Proof.Machine
end

