-- ==== Sys2Proof/Machine/Pm.lean ====
section
/-!
DEFINITION. Sys2Proof/Machine/Pm.lean: performance monitoring (R91 to R96), and what else the device does once per PM
second: symbol error ratios (R61), pin unmasking (R64, R187) and the framer self-test (R253).
-/
namespace Sys2Proof.Machine

/-- The seconds field of the system time counter. -/
def State.sysSec (s : State) : Nat := s.get64 TMC_SEC_LO_sec_lo TMC_SEC_HI_sec_hi

/-! ### Bins (R94) -/

/-- Mark every open bin suspect (R94: the system time counter was stepped). -/
def State.suspectAll (s : State) : State :=
  { s with fr := { s.fr with pm := tmap (fun _ => {}) s.fr.pm PmSt.suspect } }

/-! ### Classification (R92, R93, R95) -/

/-- The run and period of one end after a second (R93): run, unavailable, and whether a period began or ended. -/
def availStep (run : Nat) (un ses : Bool) : Nat × Bool × Bool :=
  if ses != un then (if run + 1 = 10 then (0, !un, true) else (run + 1, un, false)) else (0, un, false)

/-- Give the last 10 held seconds an availability. -/
def markLast10 (l : List PmSec) (f : PmSec → PmSec) : List PmSec :=
  l.take (l.length - 10) ++ (l.drop (l.length - 10)).map f

/-- Classify the second that ended for one context (R92, R93, R95), and open the bins of the second that begins (R94). While DDR5 is not UP, the seconds that wait are
discarded and the open bins are suspect (R409). -/
def State.classify (s : State) (sec : Nat) (p : Entry) : State :=
  let c := p.n FRAMING_ctx
  let pm := s.pmSt c
  let layer := p.n FRAMING_layer
  let ses := pm.defSec || decide (15 * pm.blocks ≤ pm.eb * 100)
  let es := ses || decide (1 ≤ pm.eb)
  let feOn := p.n FRAMING_pm == 2 && decide (layer ≤ 3)
  let fses := feOn && !pm.defSec && (pm.bdiSec || decide (15 * pm.blocks ≤ pm.fe * 100))
  let fes := feOn && !pm.defSec && (fses || decide (1 ≤ pm.fe))
  let fbbe := if feOn && !pm.defSec && !fses then pm.fe else 0
  let (nr, nu, nch) := availStep (s.get FRM_PM_ne_run c) (s.on FRM_PM_ne_unavail c) ses
  let (fr, fu, fch) := if feOn then availStep (s.get FRM_PM_fe_run c) (s.on FRM_PM_fe_unavail c) fses else (0, false, false)
  let x : PmSec := ⟨sec, es, ses, if ses then 0 else pm.eb, nu, fes, fses, fbbe, fu, feOn⟩
  let held := pm.held ++ [x]
  let held := if nch then markLast10 held fun y => { y with neUn := nu } else held
  let held := if fch then markLast10 held fun y => { y with feUn := fu } else held
  let trace := s.on TMC_ST_traceable
  let bad := !pm.defSec && decide (p.n FRAMING_deg_thr * pm.blocks ≤ pm.eb * 10000)
  let good := !pm.defSec && !bad
  let m := p.n FRAMING_deg_m
  let db := if bad then min (s.get FRM_PM_deg_bad c + 1) 10 else if good then 0 else s.get FRM_PM_deg_bad c
  let dg := if good then min (s.get FRM_PM_deg_good c + 1) 10 else if bad then 0 else s.get FRM_PM_deg_good c
  let d := s.defSt c
  let lat := if bad && decide (m ≤ db) && !bit d.lat 11 then d.lat + 2 ^ 11
    else if good && decide (m ≤ dg) && bit d.lat 11 then d.lat - 2 ^ 11 else d.lat
  let s := s.setDefSt c { d with lat := lat }
  let bins := ((pm.openAt false sec feOn).openAt trace (sec + 1) feOn)
  let s := s.setPmSt c { bins with
    blocks := 0, eb := 0, fe := 0, held := if s.ddrUp then held else []
    defSec := s.get ⟨0x100000000, 0x40, 262144, 17, 0⟩ c &&&
      (defectSecondMask ||| (if p.b FRAMING_tim_act then 256 else 0)) != 0
    bdiSec := s.on FRM_DEF_bdi c }
  let s := if s.ddrUp then s else s.setPmSt c (s.pmSt c).suspect
  let s := (s.set FRM_PM_ne_run nr c).setB FRM_PM_ne_unavail nu c
  let s := (s.set FRM_PM_fe_run fr c).setB FRM_PM_fe_unavail fu c
  let s := (s.set FRM_PM_deg_bad db c).set FRM_PM_deg_good dg c
  s.set FRM_EB_CUR_eb 0 c

/-- The path entries of monitored receive contexts with PM (R69, R91). -/
def State.pmPaths (s : State) : List Entry :=
  (s.entries FRAMING_ctx).filter fun p => p.n FRAMING_pm != 0 &&
    (match s.mapE (p.n FRAMING_ctx) with | some e => e.n MAPPING_dir == 0 | none => false)

/-- LN_SER and high SER of a lane at the end of a PM second (R61; the ratio is of corrected symbols to 544 symbols a
codeword). -/
def State.laneSecond (s : State) (n : Nat) : State :=
  let l := s.laneSt n
  let ser := if l.secCw = 0 then 0 else satN 32 (l.secSym * 10 ^ 12 / (544 * l.secCw))
  let hi := s.get LN_STATE_state n != 0 && decide ((s.lane n).n LANES_ser_thresh < ser)
  let s := (s.set LN_SER_ser ser n).setLaneSt n { l with secCw := 0, secSym := 0, serOn := hi }
  if hi && !l.serOn then s.lnStick LN_STICKY_hi_ser n else s

/-- Each mapper quadrant's framer self-test (R253): a quadrant in `bad` declares a FRAMER_FAULT with its record, and forces
aTSF on the contexts it frames until a self-test passes. -/
def State.framerTest (s : State) (bad : List Nat) : State :=
  let bad := (dedup bad).filter fun q => decide (q < 4)
  let s := { s with fr := { s.fr with quadFault := bad } }
  forEach bad s fun s q => s.report kFRAMER_FAULT [(1, q)]

/-- PM_SECOND_END: the seconds field of the system time counter has just incremented. -/
def effPmSecondEnd (bad : List Nat) (s : State) : State :=
  let sec := s.sysSec - 1
  let s := s.count fun n => s.get PC_SEL_kind n == 5 && s.get PC_SEL_arg n == 3
  let s := forEach allLanes s State.laneSecond
  let s := forEach s.pmPaths s fun s p => s.classify sec p
  let s := s.framerTest bad
  let s := { s with ln := { s.ln with modEdges := [], modMasked := [] } }
  let s := (s.set QS_FORCE_masked 0).set QS_FORCE_level s.qs.raw
  let s := forEach (s.mate.lanes.filter fun p => p.2.late != 0) s fun s p => s.report kMATE_LATE [(1, p.1), (4, p.2.late)]
  let s := { s with
    qs := { s.qs with edges := [] }
    mate := { s.mate with lanes := tmap (fun _ => {}) s.mate.lanes fun m => { m with late := 0 } }
    rcd := { s.rcd with hq := tmap (fun _ => {}) s.rcd.hq fun h => { h with lostRec := false } } }
  let s := forEach (s.entries PROTECTION_grp) s fun s e =>
    let g := e.n PROTECTION_grp
    if s.on QS_GRP_ST_wtr g then s.set QS_GRP_ST_wtr_left (s.get QS_GRP_ST_wtr_left g - 1) g else s
  s.settle
def execPmSecondEnd (bad : List Nat) (s : State) : Host.Outcome State Fault Refusal := .next (effPmSecondEnd bad s.newCycle)

/-! ### Commit (R93, R96) -/

/-- Add a committed second to one end's counts (ES, SES, BBE, UAS). -/
def addEnd (t : Nat × Nat × Nat × Nat) (es ses un : Bool) (bbe : Nat) : Nat × Nat × Nat × Nat :=
  if un then (t.1, t.2.1, t.2.2.1, t.2.2.2 + 1) else (t.1 + b2n es, t.2.1 + b2n ses, t.2.2.1 + bbe, t.2.2.2)

/-- Add a committed second to a bin. -/
def PmBin.add (b : PmBin) (x : PmSec) : PmBin :=
  { b with ne := addEnd b.ne x.neEs x.neSes x.neUn x.neBbe
           far := if x.fe then addEnd b.far x.feEs x.feSes x.feUn x.feBbe else b.far
           fe := b.fe || x.fe }

/-- The counts of a bin in the order of the TCA counter codes: near end ES, SES, BBE, UAS, then far end. -/
def PmBin.counts (b : PmBin) : List Nat :=
  [b.ne.1, b.ne.2.1, b.ne.2.2.1, b.ne.2.2.2, b.far.1, b.far.2.1, b.far.2.2.1, b.far.2.2.2]

/-- The thresholds of a TCA profile for a bin kind (Table 3-11). -/
def State.tcaThr (s : State) (day : Bool) (prof : Nat) : List Nat :=
  let f := if day then [FRAMING_prof_es24, FRAMING_prof_ses24, FRAMING_prof_bbe24, FRAMING_prof_uas24]
    else [FRAMING_prof_es15, FRAMING_prof_ses15, FRAMING_prof_bbe15, FRAMING_prof_uas15]
  f.map fun x => s.gl x prof

/-- The TCA records of a bin after a commit (R96); each counter raises one at most. -/
def State.tcaCheck (s : State) (c prof : Nat) (b : PmBin) : State × PmBin :=
  if prof = 0 then (s, b)
  else
    let thr := s.tcaThr b.day prof
    (List.range 8).foldl (fun (r : State × PmBin) k =>
      let t := (thr[k % 4]?).getD 0
      let v := (b.counts[k]?).getD 0
      if t = 0 ∨ v < t ∨ r.2.tca.contains k then r
      else (r.1.report kTCA [(3, c), (1, k), (1, b2n b.day), (6, b.start), (6, v), (4, t)],
            { r.2 with tca := r.2.tca ++ [k] })) (s, b)

/-- Commit a second to the bin that holds it, with its TCAs. -/
def State.commitBin (s : State) (c prof : Nat) (x : PmSec) (l : List PmBin) (len : Nat) : State × List PmBin :=
  l.foldl (fun (r : State × List PmBin) b =>
    if b.start = x.sec - x.sec % len then
      let (s, b) := r.1.tcaCheck c prof (b.add x)
      (s, r.2 ++ [b])
    else (r.1, r.2 ++ [b])) (s, [])

/-- PM_SECOND_COMMIT: a second that has been held for 9 further seconds is committed, for every context. -/
def effPmSecondCommit (s : State) : State :=
  forEach s.pmPaths s fun s p =>
    let c := p.n FRAMING_ctx
    let pm := s.pmSt c
    match pm.held with
    | [] => s
    | x :: rest =>
      if rest.length < 9 then s
      else
        let prof := p.n FRAMING_tca_prof
        let (s, a) := s.commitBin c prof x pm.open15 900
        let (s, d) := s.commitBin c prof x pm.open24 86400
        s.setPmSt c { s.pmSt c with held := rest, open15 := a, open24 := d }
def execPmSecondCommit (s : State) : Host.Outcome State Fault Refusal := .next (effPmSecondCommit s.newCycle)

/-! ### Closing (R94, R395) -/

/-- The 64-byte PM item of a bin (Table 15-6). -/
def pmItem (c layer : Nat) (b : PmBin) : List Byte :=
  leBytes 4 (c + 2 ^ 18 * layer + 2 ^ 22 * b2n b.day + 2 ^ 23 * b2n b.suspect + 2 ^ 24 * b2n b.fe)
    ++ leBytes 6 b.start ++ leBytes 2 0
    ++ leBytes 4 b.ne.1 ++ leBytes 4 b.ne.2.1 ++ leBytes 8 b.ne.2.2.1 ++ leBytes 4 b.ne.2.2.2
    ++ leBytes 4 b.far.1 ++ leBytes 4 b.far.2.1 ++ leBytes 8 b.far.2.2.1 ++ leBytes 4 b.far.2.2.2
    ++ leBytes 12 0

/-- The history of a context: the latest 32 bins of 15 minutes and 2 of 24 hours, newest first. -/
def trimHist (l : List PmBin) : List PmBin :=
  (l.filter fun b => !b.day).take 32 ++ (l.filter fun b => b.day).take 2

/-- PM_BIN_CLOSE: the bins whose nominal end lies 10 s back close; they move to history and enter HQ_PM. -/
def effPmBinClose (day : Bool) (s : State) : State :=
  let now := s.sysSec
  let len := if day then 86400 else 900
  forEach s.pmPaths s fun s p =>
    let c := p.n FRAMING_ctx
    let pm := s.pmSt c
    let l := if day then pm.open24 else pm.open15
    let keep := s.historyOk c
    let done := (l.filter fun b => decide (b.start + len + 10 ≤ now)).map fun b => { b with suspect := b.suspect || !keep }
    let rest := l.filter fun b => !decide (b.start + len + 10 ≤ now)
    let s := s.setPmSt c { pm with
      hist := if keep then trimHist (done.reverse ++ pm.hist) else []
      open15 := if day then pm.open15 else rest
      open24 := if day then rest else pm.open24 }
    if s.gl RECORDS_hq_pm = 0 then s
    else forEach done s fun s b => s.pushPm (pmItem c (p.n FRAMING_layer) b)
def execPmBinClose (day : Bool) (s : State) : Host.Outcome State Fault Refusal := .next (effPmBinClose day s.newCycle)

end Sys2Proof.Machine
end

