-- ==== Sys2Proof/Machine/Timing.lean ====
section
/-!
DEFINITION. Sys2Proof/Machine/Timing.lean: the time core: system time, oscillator supervision, reference candidates and
their selection, the two servos, holdover and phase steps (chapter 10), with what each 1PPS epoch does (R273).
-/
namespace Sys2Proof.Machine

/-! ### The system time counter and the calendar clock -/

/-- Nanoseconds of a second in units of 2^-32 ns. -/
def secUnits : Nat := 1000000000 * 2 ^ 32

/-- The system time in units of 2^-32 ns (R280). -/
def State.sysTime (s : State) : Nat := s.sysSec * secUnits + s.get TMC_NS_ns * 2 ^ 32 + s.get TMC_FRAC_frac

/-- Load the system time counter; the seconds wrap at 48 bits. -/
def State.setSysTime (s : State) (v : Nat) : State :=
  let s := s.set64 TMC_SEC_LO_sec_lo TMC_SEC_HI_sec_hi (v / secUnits)
  (s.set TMC_NS_ns (v % secUnits / 2 ^ 32)).set TMC_FRAC_frac (v % 2 ^ 32)

/-- A register field read as a signed number of its width. -/
def State.getI (s : State) (f : Fld) (n : Nat := 0) : Int := signedOf (f.hi + 1 - f.lo) (s.get f n)

/-- Set a signed field; a value outside its range takes the nearer bound. -/
def State.setI (s : State) (f : Fld) (v : Int) (n : Nat := 0) : State :=
  let w := f.hi + 1 - f.lo
  s.set f (unsignedOf w (clampI (-(2 ^ (w - 1) : Nat)) ((2 ^ (w - 1) : Nat) - 1) v)) n

/-- The counter advances by its increment at each of `n` CLK_FAB cycles (R280): 0.8 ns is 2^34 / 5 units of 2^-32 ns, so
the fifths are carried. -/
def State.tickTime (s : State) (n : Nat) : State :=
  let t := 5 * (s.sysTime : Int) + s.tim.rem5 + n * ((2 ^ 34 : Nat) + 5 * s.getI TMC_INC_inc_adj)
  let t := t.toNat
  let s := s.setSysTime (t / 5)
  { s with tim := { s.tim with rem5 := t % 5 } }

/-- The calendar clock in ticks from second 0 (R302). -/
def State.rtc (s : State) : Nat := s.get64 RTC_SEC_LO_sec_lo RTC_SEC_HI_sec_hi * 32768 + s.get RTC_TICK_tick
def State.setRtc (s : State) (t : Nat) : State :=
  (s.set64 RTC_SEC_LO_sec_lo RTC_SEC_HI_sec_hi (t / 32768)).set RTC_TICK_tick (t % 32768)

/-- `n` crystal ticks pass: the calendar clock counts them unless it is held, and its trim adds or skips a tick each time
the accumulated correction reaches one (R304). -/
def State.tickRtc (s : State) (n : Nat) : State :=
  if s.on RTC_ST_holding || n == 0 then s
  else
    let a := s.tim.rtcTrim + n * s.getI RTC_TRIM_trim
    let extra := a.tdiv 100000000
    let s := s.setRtc ((s.rtc : Int) + n + extra).toNat
    { s with tim := { s.tim with rtcTrim := a - extra * 100000000 } }

/-- PD_TIME leaves reset: the system time is seeded from the calendar clock, or starts at 0 s (R303). -/
def State.seedTime (s : State) : State :=
  if !s.on RTC_ST_valid then s.setSysTime 0
  else
    let t := s.get RTC_TICK_tick
    s.setSysTime (s.get64 RTC_SEC_LO_sec_lo RTC_SEC_HI_sec_hi * secUnits + t * 1000000000 * 2 ^ 17)

/-! ### Candidates -/

def State.candSt (s : State) (c : Nat) : CandSt := tget (fun _ => {}) s.tim.cand c
def State.setCand (s : State) (c : Nat) (v : CandSt) : State :=
  { s with tim := { s.tim with cand := tset (fun _ => {}) s.tim.cand c v } }
def State.tchSt (s : State) (k : Nat) : TchSt := tget (fun _ => {}) s.tim.tch k
def State.setTch (s : State) (k : Nat) (v : TchSt) : State :=
  { s with tim := { s.tim with tch := tset (fun _ => {}) s.tim.tch k v } }

/-- The TIMING entry of a candidate; every field at its default without one. -/
def candOf (l : List Section) (c : Nat) : Entry := (entryBy l TIMING_cand c).getD { kind := 1 }
def State.candE (s : State) (c : Nat) : Entry := candOf s.img c

/-- Every candidate index (Table 10-3). -/
def allCands : List Nat := List.range 56

/-- Time class (Table 10-3). -/
def timeClass (c : Nat) (e : Entry) : Bool := 24 ≤ c || (decide (c < 16) && e.n TIMING_c_kind == 0)

/-- A 1PPS input. -/
def isPps (c : Nat) (e : Entry) : Bool := decide (c < 16) && e.n TIMING_c_kind == 0

/-- The ToD input paired with a 1PPS candidate (TIMING.c_tod). -/
def todOf (c : Nat) (e : Entry) : Option Nat := if isPps c e && e.n TIMING_c_tod != 4 then some (e.n TIMING_c_tod) else none

/-- A tap follows its lane, a channel its valid offset; the state of an input comes with its edges (R267). -/
def State.srcOk (s : State) (c : Nat) : Bool :=
  if c < 16 then true
  else if c < 24 then
    laneOn s.img ((s.candE c).n TIMING_c_lane) && s.get LN_STATE_state ((s.candE c).n TIMING_c_lane) == 6
  else (s.entry TIMEXFER_tch (c - 24)).isSome && (s.tchSt (c - 24)).yields

/-- The QL in use (R266). -/
def State.qlOf (s : State) (c : Nat) : Nat :=
  let e := s.candE c
  if e.n TIMING_c_ql_src = 1 then (s.candSt c).ql else e.n TIMING_c_ql

/-- The candidate registers follow TIMING and the QL in use (R282). -/
def State.showCand (s : State) (c : Nat) : State :=
  let e := s.candE c
  let en := e.b TIMING_c_enable
  let s := ((s.setB TMC_CAND_ST_enabled en c).setB TMC_CAND_ST_time (en && timeClass c e) c)
  let s := (s.setB TMC_CAND_ST_lockout (e.b TIMING_c_lockout) c).set TMC_CAND_ST_rank (e.n TIMING_c_rank) c
  let s := s.set TMC_CAND_ST_ql (s.qlOf c) c
  (s.setB TMC_CAND_ST_fsel (s.get TMC_SEL_fsel == c) c).setB TMC_CAND_ST_tsel (s.get TMC_SEL_tsel == c) c

/-- Free of LOS, CHATTER, frequency fault and OSCI loss (R269). -/
def State.faultFree (s : State) (c : Nat) : Bool :=
  s.on TMC_CAND_ST_enabled c && !s.on TMC_CAND_ST_los c && !s.on TMC_CAND_ST_chatter c &&
  !s.on TMC_CAND_ST_freq_fault c && !s.on TMC_ST_osc_loss && s.srcOk c

/-! ### Servo states (R274 to R278) -/

/-- TMC_ST.traceable (R278). -/
def State.showTrace (s : State) : State :=
  let t := s.get TMC_ST_tstate
  s.setB TMC_ST_traceable (t == 2 || (t == 3 && s.tim.everLocked))

/-- The frequency servo takes a state of Table 10-4: FREERUN puts the control word at 0, HOLDOVER at the history. -/
def State.toF (s : State) (st : Nat) : State :=
  let old := s.get TMC_ST_fstate
  let s := { s.set TMC_ST_fstate st with tim := { s.tim with
    fGood := 0, fBad := 0, histQ := if old = 2 ∧ st ≠ 2 then [] else s.tim.histQ } }
  let pull : Int := 1000 * s.gl TIMING_pull_ppm
  let s := if st = 0 then s.setI TMC_FREQ_freq 0
    else if st = 3 then s.setI TMC_FREQ_freq (clampI (-pull) pull (s.getI TMC_HIST_hist)) else s
  let s := s.set TMC_HOLD_hold_s 0
  if old = st then s else (s.report kSERVO_STATE [(1, 0), (1, old), (1, st)]).irqSet 384

/-- The time servo takes a state: it slews only in ACQUIRE and LOCKED. -/
def State.toT (s : State) (st : Nat) : State :=
  let old := s.get TMC_ST_tstate
  let s := { s.set TMC_ST_tstate st with tim := { s.tim with
    tGood := 0, tBad := 0, everLocked := s.tim.everLocked || st == 2 } }
  let s := if st = 1 ∨ st = 2 then s
    else
      let s := ((s.set TMC_INC_inc_adj 0).setB TMC_ST_slewing false).setB TMC_ST_step_pend s.tim.step.isSome
      { s with tim := { s.tim with stepErr := [] } }
  let s := (s.set TMC_THOLD_hold_s 0).showTrace
  if old = st then s else (s.report kSERVO_STATE [(1, 1), (1, old), (1, st)]).irqSet 385

/-- Whether the time servo may enter ACQUIRE: it leaves FREERUN and HOLDOVER only while the frequency servo is in ACQUIRE or
LOCKED (R274). -/
def State.timeFree (s : State) : Bool :=
  let t := s.get TMC_ST_tstate
  let f := s.get TMC_ST_fstate
  !(t == 0 || t == 3) || f == 1 || f == 2

/-- A servo in LOCKED or ACQUIRE loses its reference (R277). -/
def State.loseF (s : State) : State :=
  let st := s.get TMC_ST_fstate
  if st = 1 ∨ st = 2 then s.toF (if s.on TMC_ST_hist_valid then 3 else 0) else s
def State.loseT (s : State) : State :=
  let st := s.get TMC_ST_tstate
  if st = 1 ∨ st = 2 then s.toT (if s.on TMC_ST_hist_valid then 3 else 0) else s

/-- A candidate is disqualified: the wait-to-restore restarts, and a servo that follows it leaves LOCKED or ACQUIRE
in this cycle (R269, R273). -/
def State.disqualify (s : State) (c : Nat) : State :=
  let s := (s.setB TMC_CAND_ST_qualified false c).set TMC_CAND_ST_wtr_left (s.gl TIMING_ref_wtr) c
  let s := s.setCand c { s.candSt c with wtr := false }
  let s := if s.get TMC_SEL_fsel = c then s.loseF else s
  if s.get TMC_SEL_tsel = c then s.loseT else s

/-- A fault clears: the wait-to-restore runs from this cycle (R269). -/
def State.restartWtr (s : State) (c : Nat) : State :=
  (s.set TMC_CAND_ST_wtr_left (s.gl TIMING_ref_wtr) c).setCand c { s.candSt c with wtr := false }

/-! ### Oscillator supervision (R263, R264) -/

/-- Grid periods of 102.4 ns in a second: times that no step of the system time moves are counted in them. -/
def gridPerSec : Nat := 9765625

/-- OSCI_LOSS (R263). -/
def effOsciLoss (s : State) : State :=
  if s.on TMC_ST_osc_loss then s
  else
    let s := ((s.setB TMC_ST_osc_loss true).setB TMC_ST_osc_loss_stk true).inc TMC_CNT_osc_losses
    let s := s.report kOSC_LOSS []
    let s := s.loseF.loseT
    forEach (allCands.filter fun c => s.on TMC_CAND_ST_enabled c) s State.disqualify
def execOsciLoss (s : State) : Host.Outcome State Fault Refusal := .next (effOsciLoss s.newCycle)

/-- OSCI_RESTORE (R263): the wait-to-restore of every candidate starts. -/
def effOsciRestore (s : State) : State :=
  if !s.on TMC_ST_osc_loss then s
  else
    let s := s.setB TMC_ST_osc_loss false
    forEach (allCands.filter fun c => s.on TMC_CAND_ST_enabled c) s State.restartWtr
def execOsciRestore (s : State) : Host.Outcome State Fault Refusal := .next (effOsciRestore s.newCycle)

/-- The frequencies of codes 1 to 6 of Table 10-9, in Hz. -/
def oscFreqs : List (Nat × Nat) :=
  [(1, 10000000), (2, 12800000), (3, 20000000), (4, 25000000), (5, 40000000), (6, 50000000)]

/-- The code of the frequency of Table 10-9 nearest to one that PD_AON counted, in Hz; none where it lies outside ±1 % of
every one (R260). -/
def oscCode (hz : Nat) : Option Nat :=
  let off := fun (p : Nat × Nat) => ((hz : Int) - p.2).natAbs
  let near := oscFreqs.foldl (fun best p => if off p < off best then p else best) (1, 10000000)
  if 100 * off near ≤ near.2 then some near.1 else none

/-- SERVO_CROSS_CHECK (R264): `off` is the offset of the root measured against OSCI, in 0.1 ppb. -/
def effServoCrossCheck (off : Int) (s : State) : State :=
  if s.on TMC_ST_osc_loss then s
  else
    let dev := off - s.getI TMC_FREQ_freq
    let s := s.setI TMC_OSC_dev dev
    if dev.natAbs ≤ 5000 then s
    else
      let now := s.pwr.up
      let runs := now :: s.tim.runaways.filter fun t => decide (now < t + 3600 * gridPerSec)
      let s := (s.inc TMC_CNT_runaways).setB TMC_ST_runaway_stk true
      let s := s.report kSERVO_RUNAWAY [(4, unsignedOf 32 dev)]
      let s := { s.loseF with tim := { s.loseF.tim with runaways := runs, runHold := true } }
      if runs.length < 3 || s.on TMC_ST_servo_fault then s
      else (s.setB TMC_ST_servo_fault true).report kSERVO_FAULT []
def execServoCrossCheck (off : Int) (s : State) : Host.Outcome State Fault Refusal := .next (effServoCrossCheck off s.newCycle)

/-! ### Qualification (R267 to R269) -/

/-- A candidate enters LOS. -/
def State.candLos (s : State) (c : Nat) : State :=
  let s := (s.setB TMC_CAND_ST_los true c).inc TMC_CAND_CNT_los c
  (s.report kREF_LOS [(1, c)]).disqualify c

/-- LOS clears. -/
def State.candLosClear (s : State) (c : Nat) : State := (s.setB TMC_CAND_ST_los false c).restartWtr c

/-- CAND_LOS (R267): an input without edges for its timeout, a tap whose lane is not in UP, a channel without a valid
offset. -/
def effCandLos (c : Nat) (s : State) : State :=
  if s.on TMC_CAND_ST_enabled c && !s.on TMC_CAND_ST_los c && (decide (c < 16) || !s.srcOk c) then s.candLos c else s
def execCandLos (c : Nat) (s : State) : Host.Outcome State Fault Refusal := .next (effCandLos c s.newCycle)

/-- CAND_LOS_CLEAR (R267). -/
def effCandLosClear (c : Nat) (s : State) : State :=
  if s.on TMC_CAND_ST_los c && s.srcOk c then s.candLosClear c else s
def execCandLosClear (c : Nat) (s : State) : Host.Outcome State Fault Refusal := .next (effCandLosClear c s.newCycle)

/-- TIMEREF_EDGE (R266, R267): a pulse of input `c` with its rising edge at `t`, in 25 ps units of the system time from
second 0, and its width in ns. Only a 1PPS input is edge-class. -/
def effTimerefEdge (c t width : Nat) (s : State) : State :=
  let e := s.candE c
  if !(s.on TMC_CAND_ST_enabled c && isPps c e) then s
  else if width < 100 then s.inc TMC_CAND_CNT_runts c
  else
    let ps : Int := 25 * (t : Int)
    let near := (ps + 500000000000) / 1000000000000 * 1000000000000
    let x := s.candSt c
    let edges := ((t : Int) :: x.edges).take 5
    let s := s.setCand c { x with edges := edges, phase := some (ps - near + e.i TIMING_c_delay) }
    let s := if s.on TMC_CAND_ST_los c then s.candLosClear c else s
    match edges[4]? with
    | some old =>
      if (t : Int) - old ≤ 40000000 && !s.on TMC_CAND_ST_chatter c then
        ((s.setB TMC_CAND_ST_chatter true c).inc TMC_CAND_CNT_chatter c).disqualify c
      else s
    | none => s
def execTimerefEdge (c t width : Nat) (s : State) : Host.Outcome State Fault Refusal :=
  .next (effTimerefEdge c t width s.newCycle)

/-- CHATTER_CLEAR (R267). -/
def effChatterClear (c : Nat) (s : State) : State :=
  if s.on TMC_CAND_ST_chatter c && !s.on TMC_CAND_ST_los c then
    ((s.setB TMC_CAND_ST_chatter false c).setCand c { s.candSt c with edges := [] }).restartWtr c
  else s
def execChatterClear (c : Nat) (s : State) : Host.Outcome State Fault Refusal := .next (effChatterClear c s.newCycle)

/-- The measured frequency offset of a candidate, in 0.1 ppb, enters or leaves its frequency fault (R266, R268). -/
def State.setFreq (s : State) (c : Nat) (freq : Int) : State :=
  if !s.on TMC_CAND_ST_enabled c then s
  else
    let s := s.setI TMC_CAND_FREQ_freq freq c
    let bad := 1000 * s.gl TIMING_ref_ppm < freq.natAbs
    if bad && !s.on TMC_CAND_ST_freq_fault c then (s.setB TMC_CAND_ST_freq_fault true c).disqualify c
    else if !bad && s.on TMC_CAND_ST_freq_fault c then (s.setB TMC_CAND_ST_freq_fault false c).restartWtr c
    else s

/-- FREQUENCY_FAULT (R268): the 16 s average of a candidate's frequency offset passes a bound. -/
def effFrequencyFault (c : Nat) (freq : Int) (s : State) : State := s.setFreq c freq
def execFrequencyFault (c : Nat) (freq : Int) (s : State) : Host.Outcome State Fault Refusal :=
  .next (effFrequencyFault c freq s.newCycle)

/-- CAND_QUALIFIED (R269). -/
def effCandQualified (c : Nat) (s : State) : State :=
  if s.faultFree c then (s.setB TMC_CAND_ST_qualified true c).set TMC_CAND_ST_wtr_left 0 c else s
def execCandQualified (c : Nat) (s : State) : Host.Outcome State Fault Refusal := .next (effCandQualified c s.newCycle)

/-! ### Selection (R270 to R272) -/

/-- Eligible for the frequency (`time` false) or the time selection (R270). -/
def State.eligible (s : State) (time : Bool) (c : Nat) : Bool :=
  s.on TMC_CAND_ST_qualified c && !(s.candE c).b TIMING_c_lockout &&
  (!time || (timeClass c (s.candE c) && !s.on TMC_CAND_ST_tod_fault c)) &&
  (s.gl TIMING_sel_mode != 0 || decide (s.qlOf c ≤ s.gl TIMING_ql_min))

/-- The order of candidates: QL then rank, or rank alone (R270). -/
def State.candKey (s : State) (c : Nat) : Nat :=
  let r := (s.candE c).n TIMING_c_rank
  if s.gl TIMING_sel_mode = 0 then 16 * s.qlOf c + r else r

/-- The element with the smallest measure; a tie goes to the one in force, then to the earlier one. -/
def closest (inForce : Nat) (m : Nat → Nat) : List Nat → Option Nat
  | [] => none
  | c :: t => match closest inForce m t with
    | none => some c
    | some d => if m d < m c then some d else if m c < m d then some c else if d = inForce then some d else some c

/-- Twice the median of a list of numbers. -/
def median2 (l : List Int) : Int :=
  let l := l.mergeSort fun a b => decide (a ≤ b)
  let n := l.length
  (l[(n - 1) / 2]?).getD 0 + (l[n / 2]?).getD 0

/-- Some pair of a list of numbers lies more than `d` apart. -/
def spreadOver (d : Nat) (l : List Int) : Bool := l.any fun a => l.any fun b => decide ((d : Int) < a - b)

/-- The choice of one evaluation (R270, R271) and the candidates that disagree. -/
def State.choose (s : State) (time : Bool) : Option Nat × List Nat :=
  let inForce := s.get (if time then TMC_SEL_tsel else TMC_SEL_fsel)
  let el := allCands.filter (s.eligible time)
  match (el.map s.candKey).min? with
  | none => (none, [])
  | some best =>
    let tied := el.filter fun c => s.candKey c == best
    let fr := fun c => s.getI TMC_CAND_FREQ_freq c
    let ph := fun c => s.getI TMC_CAND_PHASE_phase c
    let byPh := time && spreadOver (1000 * s.gl TIMING_dis_ns) (tied.map ph)
    let dis := byPh || spreadOver (10 * s.gl TIMING_dis_ppb) (tied.map fr)
    let m := if byPh then ph else fr
    let pick :=
      if !dis then closest inForce (fun _ => 0) tied
      else if tied.length = 2 then
        let others := allCands.filter fun c => s.on TMC_CAND_ST_qualified c && !tied.contains c &&
          (!byPh || timeClass c (s.candE c))
        match closest 64 s.candKey others with
        | some x => closest inForce (fun c => (m c - m x).natAbs) tied
        | none => closest inForce (fun _ => 0) tied
      else
        let med := median2 (tied.map m)
        closest inForce (fun c => (2 * m c - med).natAbs) tied
    (if s.gl TIMING_revert = 0 && el.contains inForce then some inForce else pick, if dis then tied else [])

/-- SELECTOR_EVALUATION (R264, R270 to R272). A selection that is pending is not evaluated; with no eligible candidate
the selection in force stays. -/
def effSelectorEvaluation (s : State) : State :=
  let s := { s with tim := { s.tim with runHold := s.on TMC_ST_servo_fault } }
  let (fc, fd) := s.choose false
  let (tc, td) := s.choose true
  let dis := fd ++ td
  let s := forEach allCands s fun s c => s.setB TMC_CAND_ST_disagree (dis.contains c) c
  let s := if s.on TMC_ST_fpend then s else match fc with
    | some c => if c = s.get TMC_SEL_fsel then s else (s.set TMC_SEL_fnext c).setB TMC_ST_fpend true
    | none => s
  let s := if s.on TMC_ST_tpend then s else match tc with
    | some c => if c = s.get TMC_SEL_tsel then s else (s.set TMC_SEL_tnext c).setB TMC_ST_tpend true
    | none => s
  if dis.isEmpty then s
  else
    let now := s.pwr.up
    let first := match s.tim.lastDis with | some t => decide (t + 60 * gridPerSec ≤ now) | none => true
    let s := { s.setB TMC_ST_disagree_stk true with tim := { s.tim with lastDis := some now } }
    if first then s.report kREF_DISAGREE ((dedup dis).map fun c => (1, c)) else s
def execSelectorEvaluation (s : State) : Host.Outcome State Fault Refusal := .next (effSelectorEvaluation s.newCycle)

/-! ### The 1PPS epoch (R273) -/

/-- A pending switch of the frequency selection completes (R272, Table 10-5). -/
def State.switchF (s : State) : State :=
  if !s.on TMC_ST_fpend then s
  else
    let old := s.get TMC_SEL_fsel
    let c := s.get TMC_SEL_fnext
    let s := (((s.set TMC_SEL_fsel c).set TMC_SEL_fnext 0x3F).setB TMC_ST_fpend false).setB TMC_ST_fswitch_stk true
    let s := (s.inc TMC_CNT_fswitch).report kREF_SWITCH [(1, 0), (1, old), (1, c)]
    if s.on TMC_ST_servo_fault || s.tim.runHold then s
    else if s.on TMC_CAND_ST_qualified c then s.toF 1
    else
      let st : Nat := if s.on TMC_ST_hist_valid then 3 else 0
      if s.get TMC_ST_fstate = st then s else s.toF st

/-- UTC values that a candidate received become those in force (R300). -/
def State.takeUtc (s : State) (u : Option (Int × Nat)) : State :=
  match u with
  | some (utc, leap) => ((s.setI TMC_UTC_utc utc).set TMC_UTC_leap leap).setB TMC_UTC_from_ref true
  | none => s

/-- A pending switch of the time selection completes; a step that awaits confirmation is discarded, one that is confirmed is
still applied (R272, R281). -/
def State.switchT (s : State) : State :=
  if !s.on TMC_ST_tpend then s
  else
    let old := s.get TMC_SEL_tsel
    let c := s.get TMC_SEL_tnext
    let s := (((s.set TMC_SEL_tsel c).set TMC_SEL_tnext 0x3F).setB TMC_ST_tpend false).setB TMC_ST_tswitch_stk true
    let s := { s.setB TMC_ST_step_pend s.tim.step.isSome with tim := { s.tim with stepErr := [] } }
    let s := ((s.inc TMC_CNT_tswitch).report kREF_SWITCH [(1, 1), (1, old), (1, c)]).takeUtc (s.candSt c).utc
    let st : Nat := if s.on TMC_ST_hist_valid then 3 else 0
    if s.on TMC_CAND_ST_qualified c then (if s.timeFree then s.toT 1 else s)
    else if s.get TMC_ST_tstate == st then s
    else s.toT st

/-- The Δ of a step that three errors confirm: their mean, in ps, where they lie within a window of `ns` of it (R281). -/
def stepOf (ns : Nat) : List Int → Option Int
  | [a, b, c] =>
    let sum := a + b + c
    if [a, b, c].all fun e => decide ((3 * e - sum).natAbs ≤ 3 * 1000 * ns) then some (sum / 3) else none
  | _ => none

/-- A confirmed step is applied (R281): the counter is loaded with S − Δ where it would reach S, and what has been
measured against it moves with it. -/
def State.applyStep (s : State) : State :=
  match s.tim.step with
  | none => { s with tim := { s.tim with stepNow := false } }
  | some d =>
    let v : Int := s.sysTime
    let sec := ((v + (secUnits / 2 : Nat)) / (secUnits : Nat)).toNat
    let s := s.setSysTime (((sec * secUnits : Nat) : Int) - d * (2 ^ 32 : Nat) / 1000).toNat
    let r := (d + 500000000000) / 1000000000000
    let s := { s with tim := { s.tim with
      step := none, stepErr := [], stepNow := true, aligned := true,
      cand := tmap (fun _ => {}) s.tim.cand fun x =>
        { x with phase := x.phase.map fun p => p - (d - r * 1000000000000), lab := x.lab + r, edges := x.edges.map (· - d / 25) } } }
    let s := (s.setI TMC_STEP_step (d / 1000)).set TMC_STEP_SEC_sec sec
    let s := ((s.inc TMC_CNT_steps).setB TMC_ST_step_stk true).setB TMC_ST_step_pend false
    (s.report kTIME_STEP [(4, unsignedOf 32 (d / 1000)), (6, sec)]).suspectAll

/-- The median of a list of numbers. -/
def medianOf (l : List Int) : Int := median2 l / 2

/-- One time channel at an epoch (R290). -/
def State.tchEpoch (s : State) (e : Entry) : State :=
  let k := e.n TIMEXFER_tch
  let x := s.tchSt k
  let h := s.hostSt (e.n TIMEXFER_tch_host)
  let ok := match hostCtx s.img (e.n TIMEXFER_tch_host) with
    | some m => s.on FRM_ALIGN_state (m.n MAPPING_ctx) && !s.on FRM_DEF_tsf (m.n MAPPING_ctx)
    | none => false
  let code := tget (fun _ => 14) h.alive (e.n TIMEXFER_tch_twig)
  let med := medianOf (x.sample.map Prod.snd)
  let keep := x.sample.filter fun m => decide ((m.2 - med).natAbs ≤ 1000 * e.n TIMEXFER_tch_pd_win)
  let n := keep.length
  let s := (s.inc TMC_TCH_CNT_pd_reject k (x.sample.length - n)).set TMC_TCH_ST_accepted n k
  let need := min (e.n TIMEXFER_tch_min) (e.n TIMEXFER_tch_rate)
  let good := ok && code != 14 && code != 15 && !s.on TMC_TCH_ST_route_err k && !s.on TMC_TCH_ST_id_err k &&
    s.on TMC_TCH_ST_peer_trace k && !x.selThis && decide (need ≤ n) && n != 0
  let was := x.yields
  let now := s.sysSec
  let (s, x) :=
    if good then
      let th := (keep.map Prod.fst).sum / n
      let pd := (keep.map Prod.snd).sum / n
      let slopes := ((now, th) :: x.slopes).filter fun p => decide (now < p.1 + 16)
      let s := (s.setI TMC_TCH_OFF_off th k).set TMC_TCH_PD_pd pd.toNat k
      let s := s.setCand (24 + k) { s.candSt (24 + k) with phase := some th }
      let s := match slopes.getLast? with
        | some (t0, th0) => if t0 < now then s.setFreq (24 + k) ((th - th0) / (100 * ((now : Int) - t0))) else s
        | none => s
      (s, ({ x with sample := [], none_ := 0, yields := true, slopes := slopes } : TchSt))
    else
      (s, ({ x with sample := [], none_ := x.none_ + 1, yields := was && decide (x.none_ + 1 < 3) } : TchSt))
  let s := (s.setTch k x).setB TMC_TCH_ST_valid x.yields k
  if was != x.yields then s.irqSet 393 else s

/-- The ToD pair of a candidate at an epoch (R268): runs with and without a valid sentence. -/
def State.todEpoch (s : State) (c : Nat) : State :=
  match todOf c (s.candE c) with
  | none => s.setB TMC_CAND_ST_tod_fault false c
  | some t =>
    let x := s.candSt c
    if s.tim.tod.contains t then
      let s := s.setCand c { x with todBad := 0, todOk := x.todOk + 1 }
      if 2 ≤ x.todOk then s.setB TMC_CAND_ST_tod_fault false c else s
    else
      let s := (s.inc TMC_CAND_CNT_tod_err c).setCand c { x with todBad := x.todBad + 1, todOk := 0 }
      if 2 ≤ x.todBad then s.setB TMC_CAND_ST_tod_fault true c else s

/-- The measurements of a candidate at an epoch (R266): its phase, and the seconds of wait-to-restore left (R269). -/
def State.candEpoch (s : State) (c : Nat) : State :=
  if !s.on TMC_CAND_ST_enabled c then s
  else
    let s := s.todEpoch c
    let s := match (s.candSt c).phase with
      | some p => s.setI TMC_CAND_PHASE_phase p c
      | none => s
    if s.on TMC_CAND_ST_qualified c || !s.faultFree c then s
    else if (s.candSt c).wtr then s.set TMC_CAND_ST_wtr_left (s.get TMC_CAND_ST_wtr_left c - 1) c
    else s.setCand c { s.candSt c with wtr := true }

/-- The time servo's error: the phase offset of the selected reference, on the second that labels its epoch (R268). -/
def State.timeError (s : State) : Option Int :=
  let c := s.get TMC_SEL_tsel
  (s.candSt c).phase.map fun p =>
    if (todOf c (s.candE c)).isSome then p - (s.candSt c).lab * 1000000000000 else p

/-- The control word within the pull range in force (R261). -/
def State.limitF (s : State) : State :=
  let pull : Int := 1000 * s.gl TIMING_pull_ppm
  s.setI TMC_FREQ_freq (clampI (-pull) pull (s.getI TMC_FREQ_freq))

/-- The measurement of the frequency servo, and its new control word (R261, R274, R275). -/
def State.measureF (s : State) : State :=
  let s := s.limitF
  let st := s.get TMC_ST_fstate
  let c := s.get TMC_SEL_fsel
  if st = 1 ∨ st = 2 then
    let err := (s.getI TMC_CAND_FREQ_freq c - s.getI TMC_FREQ_freq).natAbs
    let w := s.gl TIMING_lock_ppb
    let s := { s with tim := { s.tim with
      fGood := if err ≤ w then s.tim.fGood + 1 else 0, fBad := if 4 * w < err then s.tim.fBad + 1 else 0 } }
    let pull : Int := 1000 * s.gl TIMING_pull_ppm
    let (v, s) := s.draw
    let s := s.setI TMC_FREQ_freq (clampI (-pull) pull (signedOf 32 v))
    if st = 1 then s
    else
      let q := s.getI TMC_FREQ_freq :: s.tim.histQ
      let guard_ := s.gl TIMING_hist_guard
      match q[guard_]? with
      | none => { s with tim := { s.tim with histQ := q } }
      | some w =>
        let w16 := w * 65536
        let h := match s.tim.hist with
          | some h => h + (w16 - h) / (s.gl TIMING_hist_tau : Nat)
          | none => w16
        { s.setI TMC_HIST_hist (h / 65536) with tim := { s.tim with hist := some h, histQ := q.take guard_ } }
  else if st = 4 then
    let (v, s) := s.draw
    let step : Int := 1 + v % (10 * s.gl TIMING_ramp)
    let f := s.getI TMC_FREQ_freq
    s.setI TMC_FREQ_freq (if f.natAbs ≤ step.natAbs then 0 else if 0 < f then f - step else f + step)
  else if st = 3 then s.inc TMC_HOLD_hold_s else s

/-- The largest slew, in 2^-32 ns a cycle (R280). -/
def State.slewMax (s : State) : Nat := 8 * s.gl TIMING_slew_ppb * 2 ^ 32 / 10000000000

/-- The time servo slews against an error: the amount is open up to its bound (R280), which step_mode 1 slews at (R281). -/
def State.slew (s : State) (err : Int) : State :=
  let (v, s) := s.draw
  let m : Int := if s.gl TIMING_step_mode = 1 then s.slewMax else 1 + v % s.slewMax
  (s.setI TMC_INC_inc_adj (if 0 < err then -m else m)).setB TMC_ST_slewing true

def State.noSlew (s : State) : State := (s.set TMC_INC_inc_adj 0).setB TMC_ST_slewing false

/-- The measurement of the time servo (R274, R280, R281). -/
def State.measureT (s : State) : State :=
  let st := s.get TMC_ST_tstate
  if st = 3 then s.inc TMC_THOLD_hold_s
  else if st ≠ 1 ∧ st ≠ 2 then s
  else match s.timeError with
  | none => s
  | some e =>
    let s := s.setI TMC_PHASE_phase e
    let w := 1000 * s.gl TIMING_lock_ns
    let a := e.natAbs
    let big := 1000 * s.gl TIMING_step_thr < a && (s.gl TIMING_step_mode == 0 || !s.tim.aligned)
    if big then
      let same := s.tim.stepErr.all fun x => decide (0 < x) == decide (0 < e)
      let l := if same then (e :: s.tim.stepErr).take 3 else [e]
      let s := { s.noSlew.setB TMC_ST_step_pend true with tim := { s.tim with
        stepErr := l, step := stepOf (s.gl TIMING_lock_ns) l } }
      if st = 1 then { s with tim := { s.tim with tGood := 0 } } else s
    else
      let s := { s.setB TMC_ST_step_pend false with tim := { s.tim with
        stepErr := [], aligned := true,
        tGood := if a ≤ w then s.tim.tGood + 1 else 0, tBad := if 4 * w < a then s.tim.tBad + 1 else 0 } }
      if a ≤ w then s.noSlew else s.slew e

/-- The transitions of the frequency servo due at an epoch (Table 10-5). -/
def State.transitF (s : State) : State :=
  let st := s.get TMC_ST_fstate
  let c := s.get TMC_SEL_fsel
  if st = 1 then if 16 ≤ s.tim.fGood then s.toF 2 else s
  else if st = 2 then if 4 ≤ s.tim.fBad then s.toF 1 else s
  else if s.on TMC_CAND_ST_qualified c && !s.on TMC_ST_servo_fault && !s.tim.runHold then s.toF 1 else s

/-- The transitions of the time servo due at an epoch (Table 10-5, R274). -/
def State.transitT (s : State) : State :=
  let st := s.get TMC_ST_tstate
  let f := s.get TMC_ST_fstate
  let c := s.get TMC_SEL_tsel
  if st = 1 then if 16 ≤ s.tim.tGood && f == 2 then s.toT 2 else s
  else if st = 2 then if 4 ≤ s.tim.tBad then s.toT 1 else s
  else if s.on TMC_CAND_ST_qualified c && s.timeFree then s.toT 1 else s

/-- The calendar clock is disciplined (R304); `sec` is the system second of the epoch. -/
def State.discipline (s : State) (sec : Nat) : State :=
  let e : Int := (s.rtc : Int) - sec * 32768
  let s :=
    if e < 0 then
      let s := if e < -32768 then
          s.report kTIME_SET [(1, 1), (6, s.rtc / 32768), (2, s.rtc % 32768), (6, sec), (2, 0)] else s
      ((s.setRtc (sec * 32768)).setB RTC_ST_holding false).setB RTC_ST_ahead false
    else if e = 0 then s.setB RTC_ST_ahead false
    else if e * 1000 ≤ s.gl TIMEXFER_rtc_ahead * 32768 then
      (s.setB RTC_ST_holding true).setB RTC_ST_ahead false
    else if s.on RTC_ST_ahead then s
    else (s.setB RTC_ST_ahead true).report kRTC_AHEAD [(4, satN 32 e.toNat)]
  let s := (s.setB RTC_ST_valid true).setI RTC_ST_last_err e
  let (v, s) := s.draw
  (s.incW RTC_CNT_disc).setI RTC_TRIM_trim ((v % 40001 : Nat) - 20000)

/-- Whether R297 holds an output low. -/
def State.outSquelch (s : State) (e : Entry) : Bool :=
  let f := s.get TMC_ST_fstate
  let t := s.get TMC_ST_tstate
  let free := fun st => st == 0 || st == 4
  match e.n TIMEXFER_o_squelch with
  | 1 => if e.n TIMEXFER_o_kind = 1 then !s.on TMC_ST_traceable else free f
  | 2 => if e.n TIMEXFER_o_kind = 1 then free t else free f
  | _ => false

/-- A whole second at a TIMEOUT output (R296, R297): its kind takes effect, its squelch starts or ends, and an output that
is not held low has a rising edge. -/
def State.outEpoch (s : State) (k : Nat) : State :=
  let e := (s.entry TIMEXFER_out k).getD { kind := 2 }
  let kind := e.n TIMEXFER_o_kind
  let sq := kind != 0 && s.outSquelch e
  let was := s.on TMC_OUT_ST_squelch k
  let s := (s.set TMC_OUT_ST_kind kind k).setB TMC_OUT_ST_squelch sq k
  let s := if sq && !was then (s.inc TMC_OUT_CNT_squelches k).irqSet 398 else s
  if kind = 0 || sq then s
  else { s with out := { s.out with edges := s.out.edges ++ [(k, e.i TIMEXFER_o_delay)] } }

/-- The offset to UTC at an epoch (R300): without a reference utc_off; after a day that carried a leap code the offset
changes, from the first second after midnight UTC. -/
def State.utcEpoch (s : State) (sec : Nat) : State :=
  let s := if s.get TMC_SEL_tsel = 0x3F then
      ((s.setI TMC_UTC_utc (s.glI TIMEXFER_utc_off)).set TMC_UTC_leap 0).setB TMC_UTC_from_ref false else s
  let u := s.getI TMC_UTC_utc
  let leap := s.get TMC_UTC_leap
  let day := fun (x : Int) => (sec - x) % 86400 == 0
  if s.tim.leapNow then
    let s := (s.setI TMC_UTC_utc (u + 1)).set TMC_UTC_leap 0
    { s with tim := { s.tim with leapNow := false } }
  else if leap = 1 && day u then { s with tim := { s.tim with leapNow := true } }
  else if leap = 2 && day (u - 1) then (s.setI TMC_UTC_utc (u - 1)).set TMC_UTC_leap 0
  else s

/-- PPS_EPOCH (R273): pending switches, a confirmed step, the measurements, the transitions, then the calendar clock and
the outputs. A servo that enters a state through a switch measures from the next epoch (Table 10-6). `freq` lists the frequency offsets of inputs and taps measured against OSCI, 16 s averages in 0.1 ppb. -/
def effPpsEpoch (freq : List (Nat × Int)) (s : State) : State :=
  let fst := s.get TMC_ST_fstate
  let tst := s.get TMC_ST_tstate
  let fsw := s.on TMC_ST_fpend
  let tsw := s.on TMC_ST_tpend
  let sec := (s.sysTime + secUnits / 2) / secUnits
  let s := s.switchF.switchT.applyStep
  let s := forEach (freq.filter fun p => decide (p.1 < 24)) s fun s p => s.setFreq p.1 p.2
  let s := forEach (s.entries TIMEXFER_tch) s State.tchEpoch
  let s := forEach allCands s State.candEpoch
  let s := if fsw && !(decide (3 ≤ fst) && s.get TMC_ST_fstate == fst) then s else s.measureF
  let s := if tsw && !(decide (3 ≤ tst) && s.get TMC_ST_tstate == tst) then s else s.measureT
  let s := s.transitF.transitT
  let s := forEach (List.range 4) s fun s t => s.setB TMC_TOD_RX_ST_valid (s.tim.tod.contains t) t
  let cand := tmap (fun _ => ({} : CandSt)) s.tim.cand fun x => { x with phase := none }
  let s := { s with tim := { s.tim with tod := [], cand := cand } }
  let s := forEach allCands s State.showCand
  let s := s.utcEpoch sec
  let s := if s.get TMC_ST_tstate = 2 then s.discipline sec else s
  forEach (List.range 8) s State.outEpoch
def execPpsEpoch (freq : List (Nat × Int)) (s : State) : Host.Outcome State Fault Refusal := .next (effPpsEpoch freq s.newCycle)

/-- HISTORY_VALID (R275): the frequency servo has been LOCKED for hist_min seconds. -/
def effHistoryValid (s : State) : State :=
  if s.get TMC_ST_fstate ≠ 2 || s.on TMC_ST_hist_valid then s
  else
    let s := s.setB TMC_ST_hist_valid true
    match s.tim.hist with
    | some _ => s
    | none =>
      let w := (s.tim.histQ.getLast?).getD (s.getI TMC_FREQ_freq)
      { s.setI TMC_HIST_hist w with tim := { s.tim with hist := some (w * 65536) } }
def execHistoryValid (s : State) : Host.Outcome State Fault Refusal := .next (effHistoryValid s.newCycle)

/-- HOLDOVER_EXPIRY (R276): the HOLDOVER of the frequency servo, or of the time servo, has lasted hold_limit. -/
def effHoldoverExpiry (time : Bool) (s : State) : State :=
  if time then if s.get TMC_ST_tstate = 3 then s.toT 4 else s
  else if s.get TMC_ST_fstate = 3 then s.toF 4 else s
def execHoldoverExpiry (time : Bool) (s : State) : Host.Outcome State Fault Refusal :=
  .next (effHoldoverExpiry time s.newCycle)

/-! ### Changes of TIMING (R283, R284) and resets -/

/-- What a candidate is measured on: whether it takes part, its kind, frequency, ToD input and lane, as far as they apply to
its index (R283, R284). -/
def candSource (c : Nat) (e : Entry) : Bool × Nat × Nat × Option Nat × Nat :=
  let kind := if c < 16 then e.n TIMING_c_kind else 0
  (e.b TIMING_c_enable, kind, if kind = 2 then e.n TIMING_c_freq else 0, todOf c e, if 16 ≤ c ∧ c < 24 then e.n TIMING_c_lane else 0)

/-- What is held of a candidate whose entry changes from `a` to `b`: a new kind has no edges yet, a new ToD pair no sentence. -/
def CandSt.changed (x : CandSt) (c : Nat) (a b : Entry) : CandSt :=
  let x := if isPps c a == isPps c b then x else { x with edges := [], phase := none }
  if todOf c a = todOf c b then x else { x with todBad := 0, todOk := 0, ql := 15, lab := 0 }

/-- LN_STATE.tap: whether TIMING nominates the lane as a lane tap (Table 2-12). -/
def State.showTap (s : State) (n : Nat) : State :=
  s.setB LN_STATE_tap ((s.entries TIMING_cand).any fun e =>
    decide (16 ≤ e.n TIMING_cand) && decide (e.n TIMING_cand < 24) && e.b TIMING_c_enable && e.n TIMING_c_lane == n) n

/-- An APPLY of TIMING has taken effect (R284): `old` is the image before. -/
def State.timingApplied (s : State) (old : List Section) : State :=
  let osc := s.gl TIMING_osc_freq
  let s := if osc ≠ 0 ∧ osc ≠ s.get TMC_ST_osc_code then
      s.report kOSC_MISMATCH [(1, osc), (1, s.get TMC_ST_osc_code)] else s
  let s := forEach allCands s fun s c =>
    let a := candOf old c
    let b := s.candE c
    let s := if timeClass c b then s else s.set TMC_CAND_PHASE_phase 0 c
    if candSource c a = candSource c b then s.showCand c
    else
      let s := s.disqualify c
      let x := s.candSt c
      let s := if a.b TIMING_c_enable == b.b TIMING_c_enable then s.setCand c (x.changed c a b)
        else
          let s := ((s.setB TMC_CAND_ST_los false c).setB TMC_CAND_ST_chatter false c).setB TMC_CAND_ST_freq_fault false c
          (s.setB TMC_CAND_ST_tod_fault false c).setCand c { utc := x.utc, ql := if todOf c a = todOf c b then x.ql else 15 }
      let s := s.showCand c
      let s := if b.b TIMING_c_enable then s else s.set TMC_CAND_ST_wtr_left 0 c
      if b.b TIMING_c_enable && !s.srcOk c then s.candLos c else s
  let s := forEach (List.range 144) s State.showTap
  let lim := 60 * s.gl TIMING_hold_limit
  let s := if s.get TMC_ST_fstate = 3 ∧ lim < s.get TMC_HOLD_hold_s then s.toF 4 else s
  if s.get TMC_ST_tstate = 3 ∧ lim < s.get TMC_THOLD_hold_s then s.toT 4 else s

/-- A reset of PD_TIME (R274, R282, R303, R306): its registers take their reset values and the counter its seed. -/
def State.resetTime (s : State) : State :=
  let code := s.get TMC_ST_osc_code
  let s := s.resetRange 0x060000 0x061300
  let s := { s with tim := { rtcTrim := s.tim.rtcTrim } }
  let s := (s.set TMC_ST_osc_code code).seedTime
  let s := s.setI TMC_UTC_utc (s.glI TIMEXFER_utc_off)
  forEach allCands s State.showCand

end Sys2Proof.Machine
end

