-- ==== Sys2Proof/Machine/Integrity.lean ====
section
/-!
DEFINITION. Sys2Proof/Machine/Integrity.lean: path integrity tags (R235 to R243), faulty-connection declarations, check-value
units (R246 to R250) and the re-initialisation of a context (R113, R125).
-/
namespace Sys2Proof.Machine

def State.tagSrc (s : State) (k : Nat) : TagSrc := tget (fun _ => {}) s.tag.srcs k
def State.setTagSrc (s : State) (k : Nat) (v : TagSrc) : State :=
  { s with tag := { s.tag with srcs := tset (fun _ => {}) s.tag.srcs k v } }
def State.tagChk (s : State) (c : Nat) : TagChk := tget (fun _ => {}) s.tag.chks c
def State.setTagChk (s : State) (c : Nat) (v : TagChk) : State :=
  { s with tag := { s.tag with chks := tset (fun _ => {}) s.tag.chks c v } }

/-! ### Sources of slot blocks (R236, R238) -/

/-- A source of slot blocks: its key (a receive context, 2^20 + wrap index, or 2^21 + merge index), the context that its
tags name, and the number of the member that an input slot carries. -/
structure TagPlace where
  key    : Nat
  ctx    : Nat
  member : Nat
  deriving DecidableEq, Repr

/-- The source that writes an input slot, other than the mate block, which inserts no tag of its own. -/
def State.tagPlace (s : State) (slot : Nat) : Option TagPlace :=
  match ownerOf s.img 0 slot with
  | some (e, j) => some ⟨e.n MAPPING_ctx, e.n MAPPING_ctx, j⟩
  | none => (engineOf s.img slot).map fun (e, c, j) =>
      ⟨if e.kind = 1 then 2 ^ 20 + e.n EVERGREEN_wrap else 2 ^ 21 + e.n EVERGREEN_merge, c, j⟩

/-- The sources that the write entries of the page in force name, once each. -/
def State.tagPlaces (s : State) : List TagPlace :=
  ((writesOf s.img).filterMap fun w => s.tagPlace w.2).foldl
    (fun a p => if a.any fun q => q.key == p.key then a else a ++ [p]) []

/-- The tag of Table 9-1. -/
def tagOf (crc ctx alive : Nat) (first srcFail restart : Bool) : Nat :=
  crc % 2 ^ 32 * 2 ^ 32 + ctx % 2 ^ 18 * 2 ^ 14 + alive % 256 * 2 ^ 6 + 2 ^ 5 * b2n first + 2 ^ 4 * b2n srcFail
    + 2 ^ 3 * b2n restart

/-- Row 4 of Table 1-4: every source forms the tag of the interval just ended and starts the next (R236, R237). While
pit_en is 0 nothing is accumulated, so that the next tag of every connection is a first tag (R258). -/
def State.tagRow (s : State) : State :=
  if s.gl INTEGRITY_pit_en = 0 then { s with tag := { s.tag with srcs := [], failed := [] } }
  else
    let places := s.tagPlaces
    let keep := s.tag.srcs.filter fun p => places.any fun q => q.key == p.1
    let s := { s with tag := { s.tag with srcs := keep } }
    let s := forEach places s fun s p =>
      let t := s.tagSrc p.key
      let v := tagOf (t.crc ^^^ 0xFFFFFFFF) p.ctx t.alive t.fresh (s.tag.failed.contains p.ctx) (!t.blocks)
      s.setTagSrc p.key { crc := 0xFFFFFFFF, blocks := true, alive := (t.alive + 1) % 256, fresh := false, tag := some v }
    let bad := (kindOf s.img 4 0).filterMap fun e =>
      let c := e.n MAPPING_ctx
      if e.n MAPPING_dir == 0 && ((s.defSt c).rssf || s.on FRM_DEF_tsf c) then some c else none
    { s with tag := { s.tag with failed := bad } }

/-- A block that a source writes in a grid period takes its part in the CRC, and member 0's first block of an interval
takes the tag. Blocks come in ascending member order. -/
def State.tagBlock (s : State) (p : TagPlace) (b : Blk) : State × Blk :=
  if s.gl INTEGRITY_pit_en = 0 then (s, b)
  else
    let t := s.tagSrc p.key
    let out := match t.tag with
      | some v => if p.member = 0 then mkBlk b.body b.mapper b.fail b.ueq (some v) else b
      | none => b
    (s.setTagSrc p.key { t with crc := crcFeed 0 t.crc b.crcBytes, tag := if p.member = 0 then none else t.tag }, out)

/-! ### Faulty-connection declarations (R242, R243, R245) -/

/-- The input slot that an output slot reads under the page and selector in force. -/
def State.sourceSlot (s : State) (out : Nat) : Option Nat :=
  match s.readOf out with
  | some r => slotAt (writesOf s.img) (pairOf (r.n FABRIC_PAGE_rd_slice) (s.sourceOf r).1)
  | none => none

/-- Whether the read of an output slot goes through a quickset group, and which side it takes. -/
def State.readSide (s : State) (out : Nat) : Option Nat × Bool :=
  match s.readOf out with
  | some r =>
    let g := r.n FABRIC_PAGE_qs_group
    if r.b FABRIC_PAGE_prot && s.groupDefined g then (some g, s.on QS_GRP_ST_sel g) else (none, false)
  | none => (none, false)

/-- Count a declaration, and show it in the path tag registers; `src` is the input slot that its output reads. -/
def State.declare (s : State) (c : Nat) (twig : Bool) (src : Option Nat) : State :=
  let s := s.setB PIT_CTX_ST_faulty true c
  let s := if twig then s.inc PIT_SUM_twig_faulty else s.inc PIT_SUM_faulty
  let s := ((s.setB PIT_LAST_twig twig).set PIT_LAST_ctx c).inc PIT_CNT_decl
  { s with qs := { s.qs with faults := s.qs.faults ++ [⟨c, twig, src⟩] } }

/-- Declarations leave the list of those in force, and PIT_SUM shows how many remain, saturating (Table 9-7). -/
def State.forgetFaults (s : State) (gone : FaultDecl → Bool) : State :=
  let l := s.qs.faults.filter fun d => !gone d
  let num := fun (twig : Bool) => (l.filter fun d => d.twig == twig).length
  let s : State := { s with qs := { s.qs with faults := l } }
  (s.set PIT_SUM_faulty (min (num false) 8191)).set PIT_SUM_twig_faulty (min (num true) 511)

/-- A declaration ends. -/
def State.undeclare (s : State) (c : Nat) (twig : Bool) : State :=
  let s := (s.setB PIT_CTX_ST_faulty false c).forgetFaults fun d => d.ctx == c && d.twig == twig
  (s.inc PIT_CNT_clr).report (if twig then kTWIG_CLEAR else kPATH_CLEAR) [(3, c)]

/-- Declarations held against the source that a group has switched away from clear at the switch, where the declaring
output reads through the group (R243): its checker can no longer observe that source. -/
def State.clearSide (s : State) (g : Nat) (alt : Bool) : State :=
  let own := fun (c : Nat) => match s.mapE c with
    | some e => (match (slotGroup s.img e).head? with | some o => (s.readSide o).1 == some g | none => false)
    | none => false
  let side := sideSlots s.img g alt
  forEach (s.qs.faults.filter fun d => !d.twig && own d.ctx && (match d.src with | some x => side.contains x | none => false)) s
    fun s d => (s.setTagChk d.ctx { s.tagChk d.ctx with relapse := some alt }).undeclare d.ctx false

/-! ### Checkers (R237 to R242) -/

/-- Whether a context is a checker context: an egress context that exchanges slot blocks and that a valid read entry
feeds (R240). -/
def State.isChecker (s : State) (e : Entry) : Bool :=
  e.n MAPPING_dir == 1 && carries e && (match (slotGroup s.img e).head? with
    | some o => (s.readOf o).isSome
    | none => false)

/-- Absorb one delivered block, in the order in which the blocks were written. -/
def State.absorb (s : State) (c : Nat) (mate : Bool) (x : Nat × Nat × Blk) : State :=
  let t := s.tagChk c
  let (w, j, b) := x
  let p := w % 1024
  let tagged := j == 0 && (if mate then b.tvalid || t.phase == some p else p == 0)
  let t := if tagged then { t with
      due := some (b.side, t.crc ^^^ 0xFFFFFFFF), crc := 0xFFFFFFFF, phase := if mate then some p else t.phase } else t
  s.setTagChk c { t with crc := crcFeed 0 t.crc b.crcBytes }

/-- Insert a delivered block by the grid period of its write and its member. -/
def insertBlk (x : Nat × Nat × Blk) : List (Nat × Nat × Blk) → List (Nat × Nat × Blk)
  | [] => [x]
  | y :: t => if x.1 < y.1 ∨ (x.1 = y.1 ∧ x.2.1 < y.2.1) then x :: y :: t else y :: insertBlk x t

/-- The blocks that the egress ports delivered to a checker context in grid period `g` (R237). A change of the read of
a member, by a page swap that changes its read entry or the slot written where it reads, or by a selector, leaves the next
two tags partly checked (R241); so does a read that was not there in the grid period before (R27). -/
def State.checkerTake (s : State) (g : Nat) (e : Entry) : State :=
  if s.gl INTEGRITY_pit_en = 0 then s
  else if !s.isChecker e then
    (if (s.tagChk (e.n MAPPING_ctx)).src = [] then s
     else s.setTagChk (e.n MAPPING_ctx) { s.tagChk (e.n MAPPING_ctx) with src := [] })
  else
    let c := e.n MAPPING_ctx
    let outs := slotGroup s.img e
    let reads := outs.filterMap s.readOf
    let src := reads.flatMap fun r =>
      [r.n FABRIC_PAGE_rd_cycle, r.n FABRIC_PAGE_rd_slice, r.n FABRIC_PAGE_src_wc, r.n FABRIC_PAGE_lag,
       r.n FABRIC_PAGE_prot, r.n FABRIC_PAGE_qs_group, r.n FABRIC_PAGE_alt_wc, r.n FABRIC_PAGE_alt_lag,
       b2n (s.onAlt (r.b FABRIC_PAGE_prot) (r.n FABRIC_PAGE_qs_group)),
       match s.sourceSlot (r.n FABRIC_PAGE_out) with | some x => x | none => 2560]
    let t := s.tagChk c
    let t := if t.src = src then t else { t with src := src, take := true, noCrc := 2, phase := none }
    let lags := reads.map fun r => (s.sourceOf r).2
    let new := ((outs.zip lags).zip (List.range outs.length)).map fun x => (g - x.1.2, x.2, s.outBlk x.1.1)
    let wait := new.foldl (fun l x => insertBlk x l) t.wait
    let upTo := lags.foldl (fun a l => min a (g - l)) g
    let s := s.setTagChk c { t with wait := wait.filter fun x => decide (upTo < x.1) }
    let mate := match outs.head?.bind s.sourceSlot with | some q => (s.mateEntry q).isSome | none => false
    forEach (wait.filter fun x => decide (x.1 ≤ upTo)) s fun s x => s.absorb c mate x

/-- The expected context ID of a checker context (R238); none where it is not checked. -/
def State.expectedCtx (s : State) (e : Entry) : Option Nat :=
  ((slotGroup s.img e).head?.bind s.sourceSlot).bind s.tagCtxOf

/-- The result of a tag check (Table 9-2). `tvalid` and `tag` are the block's, `crc` the recomputed CRC, `exp` the
expected ID. -/
def tagResult (t : TagChk) (tvalid : Bool) (tag crc : Nat) (exp : Option Nat) : Nat :=
  if !tvalid then 4
  else if (match exp with | some x => x != slice tag 31 14 | none => false) then 3
  else if !t.take && !bit tag 5 && slice tag 13 6 != (t.alive + 1) % 256 then 2
  else if !bit tag 3 && t.noCrc == 0 && tag / 2 ^ 32 % 2 ^ 32 != crc then 1
  else 0

/-- PATH_TAG_CHECK (R240 to R242): the checker of context `c` finds the result of the tag block that has arrived. -/
def effPathTagCheck (c : Nat) (s : State) : State :=
  match s.mapE c, (s.tagChk c).due with
  | some e, some (side, crc) =>
    if s.gl INTEGRITY_pit_en = 0 || !s.isChecker e then s
    else
      let t := s.tagChk c
      let tvalid := bit side 78
      let tag := side % 2 ^ 64
      let exp := s.expectedCtx e
      let r := tagResult t tvalid tag crc exp
      let aliveOk := tvalid && slice tag 13 6 == (t.alive + 1) % 256
      let s := s.setTagChk c (if tvalid then
          { t with due := none, alive := slice tag 13 6, take := false, noCrc := t.noCrc - 1 } else { t with due := none })
      let s := if tvalid then s.set64 PIT_CTX_TAG_LO_tag_lo PIT_CTX_TAG_HI_tag_hi tag c else s
      let s := (s.set PIT_CTX_ST_result r c).setB PIT_CTX_ST_alive_ok aliveOk c
      let s := match r with
        | 4 => s.inc PIT_CTX_MISS_missing c | 3 => s.inc PIT_CTX_ERR_id_err c
        | 2 => s.inc PIT_CTX_ERR_alive_err c | 1 => s.inc PIT_CTX_ERR_crc_err c | _ => s
      let out := ((slotGroup s.img e).head?).getD 0
      let (grp, alt) := s.readSide out
      if r = 0 then
        let s := (s.set PIT_CTX_ST_err_run 0 c).inc PIT_CTX_ST_ok_run c
        if s.get PIT_CTX_ST_ok_run c < s.gl INTEGRITY_tag_clr then s
        else
          let t := s.tagChk c
          let s := if t.relapse = some alt then s.setTagChk c { t with relapse := none } else s
          if s.on PIT_CTX_ST_faulty c then (s.undeclare c false).settleGroups else s
      else
        let s := (s.set PIT_CTX_ST_ok_run 0 c).inc PIT_CTX_ST_err_run c
        if s.on PIT_CTX_ST_faulty c || decide (s.get PIT_CTX_ST_err_run c < s.gl INTEGRITY_tag_errs) then s
        else
          let n := s.get PIT_CTX_ST_err_run c
          let s := s.declare c false (s.sourceSlot out)
          let t := s.tagChk c
          let s := if t.relapse = some alt ∧ grp.isSome then
              ((s.inc PIT_CTX_MISS_relapse c).setTagChk c { t with relapse := none }).irqSet 292 else s
          (s.report kPATH_FAULT [(3, c), (3, exp.getD 0), (3, slice tag 31 14), (1, r), (1, n)]).settleGroups
  | _, _ => s
def execPathTagCheck (c : Nat) (s : State) : Host.Outcome State Fault Refusal := .next (effPathTagCheck c s.newCycle)

/-! ### Check-value units (R246 to R250) -/

/-- The working register of a unit. -/
def State.cvuVal (s : State) (u : Nat) : Nat := s.get64 CVU_VAL_LO_val_lo CVU_VAL_HI_val_hi u

/-- A window of unit `u` closes (R249). -/
def State.cvuClose (s : State) (u : Nat) : State :=
  let a := s.get CVU_CTL_poly u
  let r := s.cvuVal u ^^^ crcFinal a
  let s := s.set64 CVU_RES_LO_res_lo CVU_RES_HI_res_hi r u
  let s := (s.set64 CVU_VAL_LO_val_lo CVU_VAL_HI_val_hi (crcInit a) u).set CVU_CNT_cnt 0 u
  let s := s.incW CVU_ST_windows u
  if s.on CVU_CTL_mode u then
    let s := if s.on CVU_ST_ready u then s.setB CVU_ST_overrun true u else s
    s.setB CVU_ST_ready true u
  else if r = s.get64 CVU_EXP_LO_exp_lo CVU_EXP_HI_exp_hi u then s
  else ((s.setB CVU_ST_mismatch true u).inc CVU_MIS_CNT_mis u).report kCVU_MISMATCH [(1, u)]

/-- A unit absorbs bytes while it is enabled. A window of code 3 closes after CVU_LEN bytes; length 0 never closes. -/
def State.cvuFeed (s : State) (u : Nat) (l : List Byte) : State :=
  forEach l s fun s b =>
    let s := s.set64 CVU_VAL_LO_val_lo CVU_VAL_HI_val_hi (crcByte (s.get CVU_CTL_poly u) (s.cvuVal u) b) u
    let s := s.inc CVU_CNT_cnt u
    if s.get CVU_CTL_win u = 3 ∧ s.get CVU_LEN_len u ≠ 0 ∧ s.get CVU_LEN_len u ≤ s.get CVU_CNT_cnt u then s.cvuClose u
    else s

/-- The enabled units of a source code. -/
def State.cvusOf (s : State) (src : Nat) : List Nat :=
  (List.range 64).filter fun u => s.on CVU_CTL_enable u && s.get CVU_CTL_src u == src

/-- CVU_WINDOW_CLOSE: a window closes at its boundary or length. A window of code 0 never closes, and one of code 3 only
when it has absorbed CVU_LEN bytes, which is not 0. -/
def effCvuWindowClose (u : Nat) (s : State) : State :=
  if 64 ≤ u ∨ s.get CVU_CTL_win u = 0 ∨
      (s.get CVU_CTL_win u = 3 ∧ (s.get CVU_LEN_len u = 0 ∨ s.get CVU_CNT_cnt u < s.get CVU_LEN_len u)) then s
  else s.cvuClose u
def execCvuWindowClose (u : Nat) (s : State) : Host.Outcome State Fault Refusal := .next (effCvuWindowClose u s.newCycle)

/-! ### A context re-initialised (R113, R125) -/

/-- The sources of slot blocks whose ingress context is `c`: the context itself, and the engine slots of a wrap of which it
is the source, or of a merge of which it is copy A (R235, R238). -/
def State.tagKeys (s : State) (c : Nat) : List Nat :=
  c :: ((s.entries EVERGREEN_wrap).filter fun e => e.n EVERGREEN_w_src == c).map (fun e => 2 ^ 20 + e.n EVERGREEN_wrap) ++
    ((s.entries EVERGREEN_merge).filter fun e => e.n EVERGREEN_m_copy_a == c).map fun e => 2 ^ 21 + e.n EVERGREEN_merge

/-- Words 1 to 7 of a context take their initial values; its counters stay. Its tags restart: the next that each source of
its inserts is a first tag, and its checker takes a new starting value (R235, R241). -/
def State.initCtx (s : State) (c : Nat) : State :=
  let s := s.setWord FRM_DEF_ssf c 0
  let s := ((s.setB FRM_ALIGN_state false c).setB FRM_ALIGN_im false c).set FRM_ALIGN_cands 0 c
  let s := (s.set FRM_ALIGN_n_cur 0 c).setWord FRM_LABEL_acc_pt c (resetWord (0x10000000C + 0x40 * c))
  let s := ((s.setWord FRM_TTI_crc c 0).setB FRM_TTI_ST_tti_valid false c).setWord FRM_PM_fe_run c 0
  let s := ((s.setWord FRM_EB_CUR_eb c 0).set MAP_GMP_cm 0 c).set MAP_HOST_fnum 0 c
  let s := (s.setWord MAP_HOST_TERM_term c 0).setWord MAP_STATE_cr_pend c 0
  let pm := s.pmSt c
  let s := s.setPmSt c { pm.suspect with blocks := 0, eb := 0, fe := 0, defSec := false, bdiSec := false }
  let s := { s with fr := { s.fr with
    align := tdel s.fr.align c, label := tdel s.fr.label c, defs := tdel s.fr.defs c, egress := tdel s.fr.egress c
    cal := tdel s.fr.cal c, map := tdel s.fr.map c, bei := tdel s.fr.bei c } }
  let s := forEach (s.tagKeys c) s fun s k =>
    s.setTagSrc k { s.tagSrc k with crc := 0xFFFFFFFF, blocks := false, alive := 0, fresh := true }
  let s := s.setTagChk c { s.tagChk c with crc := 0xFFFFFFFF, take := true, alive := 0 }
  s.set PIT_CTX_ST_err_run 0 c

/-- A context starts afresh (R113, R125): its state, a twig host's frames, and the calendar that a transmit FlexE group
sends. -/
def State.startCtx (s : State) (e : Entry) : State :=
  let c := e.n MAPPING_ctx
  let s := s.initCtx c
  let s := if e.n MAPPING_kind = 7 ∧ e.n MAPPING_dir = 0 then s.setHost (e.n MAPPING_host) {} else s
  if e.n MAPPING_kind = 5 ∧ e.n MAPPING_dir = 1 then
    (s.setCalSt c { txC := e.n MAPPING_cal_tx }).set MAP_STATE_cal_tx (e.n MAPPING_cal_tx) c
  else s

/-- An uncorrectable word in the fast part of a context re-initialises it, as an APPLY that changes its entry does (R113). -/
def State.ctxEcc (s : State) (c : Nat) : State :=
  match s.mapE c with
  | none => s
  | some e => (((s.startCtx e).setB MAP_ECC_ctx_err true c).report kCTX_ECC [(3, c)]).settle

/-- A single-bit error in the fast part of a context is corrected and counted (R113). -/
def State.ctxCorr (s : State) (c : Nat) : State := if (s.mapE c).isNone then s else s.inc MAP_ECC_corr c

end Sys2Proof.Machine
end

