-- ==== Sys2Proof/Machine/Twig.lean ====
section
/-!
DEFINITION. Sys2Proof/Machine/Twig.lean: the twig sub-switch (R116 to R122, R143, R144) and the twig tags (R244, R245).
-/
namespace Sys2Proof.Machine

/-- The unit of twig `t` in a frame. -/
def unitOf (frame t : Nat) : Nat := frame / 2 ^ (8 * (320 + 16 * t)) % 2 ^ 128

/-- The all-ones unit of R118. -/
def onesUnit : Nat := 2 ^ 128 - 1

/-- The CRC-16 of twig `t` over frames, newest first (R117). -/
def twigCrc (hist : List Nat) (t : Nat) : Nat := crc16 (hist.reverse.flatMap fun f => leBytes 16 (unitOf f t))

/-- The CRC-16 and alive code that a frame carries for a twig of its quarter (R117). -/
def twigTag (frame t : Nat) : Nat × Nat :=
  let i := t % 120
  let p := i / 2
  let at_ := if i % 2 = 0 then 20 + 5 * p else 23 + 5 * p
  let codes := (byteAt frame (22 + 5 * p)).toNat
  (beNat (bytesAt frame at_ 2), if i % 2 = 0 then codes / 16 else codes % 16)

/-- The kind 8 receive circuits of a host. -/
def State.circuits (s : State) (h : Nat) : List Entry :=
  (kindOf s.img 4 0).filter fun e => e.n MAPPING_kind == 8 && e.n MAPPING_dir == 0 && e.n MAPPING_host == h

/-- The twigs of a circuit. -/
def twigsOf (e : Entry) : List Nat := (List.range (e.n MAPPING_twig_n)).map (e.n MAPPING_twig_first + ·)

/-! ### Receive (R116 to R118, R244) -/

/-- One tag of a received frame: whether its CRC-16 differs, and whether its alive code errs. -/
def tagErrs (th : TwigHost) (frame t : Nat) : Bool × Bool :=
  let (crc, code) := twigTag frame t
  let prev := tget (fun _ => 14) th.alive t
  (crc != twigCrc th.hist t, decide (code < 14) && decide (prev < 14) && code != (prev + 1) % 14)

/-- The tags of a circuit in a frame, with their counts. -/
def State.checkTags (s : State) (h frame fnum : Nat) (e : Entry) : State :=
  let c := e.n MAPPING_ctx
  let th := s.hostSt h
  forEach ((twigsOf e).filter fun t => t / 120 == fnum % 4) s fun s t =>
    let (bad, jump) := tagErrs th frame t
    let s := if bad then s.inc PIT_CTX_ERR_crc_err c else s
    let s := if jump then s.inc PIT_CTX_ERR_alive_err c else s
    if (bad || jump) && !(s.hostSt h).rErr.contains t then
      s.setHost h { s.hostSt h with rErr := (s.hostSt h).rErr ++ [t] }
    else s

/-- A frame waits for the local twig frame boundary (R30). At most two wait: the oldest goes where a third arrives, which
HOST_SLIP keeps from happening. -/
def TwigHost.enter (th : TwigHost) (frame : Nat) : TwigHost :=
  { th with wait := (th.wait ++ [frame]).drop ((th.wait.length + 1) - 2) }

/-- A local twig frame boundary (R30, R122): the oldest waiting frame enters the unit store. A slow host's slip holds it for
one frame, in which the host's units fail; where none waits, the store stays as it is. -/
def TwigHost.boundary (th : TwigHost) : TwigHost :=
  if th.slow = 2 then { th with slow := 1 }
  else match th.wait with
    | f :: rest => { th with wait := rest, frames := f :: th.frames.take 1, slow := 0 }
    | [] => { th with slow := 0 }

/-- A frame of a host that is in frame: fnum, tags, units and the frames of its circuits. -/
def State.hostFrame (s : State) (h c frame : Nat) (hcrcOk : Bool) : State :=
  let th := s.hostSt h
  let prev := match th.fnum with | some n => n | none => s.get MAP_HOST_fnum c
  let fnum := if hcrcOk then (byteAt frame 16).toNat else (prev + 1) % 256
  let s := if hcrcOk then s else s.inc MAP_HOST_hcrc_err c
  let s := s.set MAP_HOST_fnum fnum c
  let jump := match th.fnum with | some n => fnum != (n + 1) % 256 | none => false
  let grace := if jump then 4 else th.grace
  let th := { th with
    fnum := some fnum, grace := grace
    rErr := if fnum % 4 = 0 then [] else th.rErr
    rOut := if fnum % 4 = 0 then decide (0 < grace) else th.rOut || decide (0 < grace) }
  let s := s.setHost h th
  let checked := grace == 0 && th.hist.length == 4
  let s := if checked && s.gl INTEGRITY_twig_en = 1 then
      forEach (s.circuits h) s fun s e => s.checkTags h frame fnum e
    else s
  let s := forEach (s.circuits h) s fun s e =>
    let bad := checked && ((twigsOf e).filter fun t => t / 120 == fnum % 4).any fun t => (tagErrs th frame t).1
    s.frameIn (e.n MAPPING_ctx) { errored := bad }
  let th := s.hostSt h
  let quarter := (List.range 120).map fun i => 120 * (fnum % 4) + i
  let alive := quarter.foldl (fun a t => tset (fun _ => 14) a t (twigTag frame t).2) th.alive
  let s := s.setHost h (({ th with hist := frame :: th.hist.take 3, alive := alive, grace := grace - 1 } : TwigHost).enter frame)
  let s := forEach (s.cvusOf 3) s fun s u =>
    if s.get CVU_SEL_slot u = h then s.cvuFeed u (leBytes 16 (unitOf frame (s.get CVU_SEL_twig u))) else s
  s.wrapUnits h frame

/-- The next frame of an aligned host: 8,000 of the bytes that its mapper has demapped, from the position held on (R119);
none before they have all arrived. -/
def State.nextFrame (s : State) (c : Nat) : Option Nat × State :=
  let m := s.mapSt c
  if m.q.n < 8 * (m.skip + 8000) then (none, s)
  else
    let q := m.q.drop (8 * m.skip)
    (some (q.v % 2 ^ 64000), s.setMapSt c { m with q := q.drop 64000, skip := 0 })

/-- TWIG_FRAME_RECEIVED (R116 to R120): the bytes demapped for receive host `h`, with those that come with the command, make
a frame of 8,000 bytes, byte 0 in bits 7:0. It is taken in while the host is in frame; an alignment word in error counts
under R73. -/
def effTwigFrameReceived (h : Nat) (bytes : List Byte) (s : State) : State :=
  match hostCtx s.img h with
  | none => s
  | some e =>
    let c := e.n MAPPING_ctx
    let s := s.feed c (8 * bytes.length) (leNat bytes)
    if !s.on FRM_ALIGN_state c then s
    else
      let (next, s) := s.nextFrame c
      match next with
      | none => s
      | some frame =>
        let ok := bytesAt frame 0 8 == twigWord
        let hcrcOk := crc16 (bytesAt frame 8 10) == beNat (bytesAt frame 18 2)
        let s := s.frameIn c { wordOk := ok, label := if hcrcOk then some (beNat (bytesAt frame 8 8)) else none }
        if s.on FRM_ALIGN_state c then s.hostFrame h c frame hcrcOk
        else s.setHost h { s.hostSt h with wait := [], frames := [], hist := [], fnum := none, rOut := true }
def execTwigFrameReceived (h : Nat) (bytes : List Byte) (s : State) : Host.Outcome State Fault Refusal :=
  .next (effTwigFrameReceived h bytes s.newCycle)

/-- HOST_SLIP (R122): the term would pass 15,999 by `past` cycles, or 0, and moves by 16,000 cycles back into range: to
past − 1, or to 16,000 − past. A host whose delay would pass 15,999 is fast, and one frame that waits is discarded: the oldest (DESIGN CHOICE, log entry 78); for
a slow host one output frame carries fail units. The tags of the next four frames are not checked (R118). -/
def effHostSlip (h : Nat) (fast : Bool) (past : Nat) (s : State) : State :=
  match hostCtx s.img h with
  | none => s
  | some e =>
    let c := e.n MAPPING_ctx
    if !s.on MAP_HOST_TERM_term_valid c || past == 0 then s
    else
      let th := s.hostSt h
      let s := s.setHost h { th with
        grace := 4, rOut := true, slow := if fast then th.slow else 2, wait := if fast then th.wait.drop 1 else th.wait }
      ((s.set MAP_HOST_TERM_term ((if fast then past - 1 else 32000 - past) % 16000) c).inc MAP_HOST_slips c).report kHOST_SLIP [(3, c)]
def execHostSlip (h : Nat) (fast : Bool) (past : Nat) (s : State) : Host.Outcome State Fault Refusal :=
  .next (effHostSlip h fast past s.newCycle)

/-- TWIG_ROUND_END (R244, R245): the round that frame fnum mod 4 = 3 closes is judged for each circuit of the host. -/
def effTwigRoundEnd (h : Nat) (s : State) : State :=
  let th := s.hostSt h
  if th.rOut || (th.fnum.map (· % 4)) != some 3 || s.gl INTEGRITY_twig_en == 0 then s
  else
    let s := forEach (s.circuits h) s fun s e =>
      let c := e.n MAPPING_ctx
      if (twigsOf e).any fun t => th.rErr.contains t then
        let s := (s.set PIT_CTX_ST_ok_run 0 c).inc PIT_CTX_ST_err_run c
        if s.on PIT_CTX_ST_faulty c || decide (s.get PIT_CTX_ST_err_run c < s.gl INTEGRITY_twig_errs) then s
        else (s.declare c true none).report kTWIG_FAULT [(3, c)]
      else
        let s := (s.set PIT_CTX_ST_err_run 0 c).inc PIT_CTX_ST_ok_run c
        if s.on PIT_CTX_ST_faulty c && decide (s.gl INTEGRITY_twig_clr ≤ s.get PIT_CTX_ST_ok_run c) then s.undeclare c true
        else s
    (s.setHost h { s.hostSt h with rOut := true, rErr := [] }).settleGroups
def execTwigRoundEnd (h : Nat) (s : State) : Host.Outcome State Fault Refusal := .next (effTwigRoundEnd h s.newCycle)

/-! ### Output hosts (R121, R143, R144) -/

def State.twigOut (s : State) (h : Nat) : TwigOut := tget (fun _ => {}) s.tw.out h
def State.setTwigOut (s : State) (h : Nat) (v : TwigOut) : State :=
  { s with tw := { s.tw with out := tset (fun _ => {}) s.tw.out h v } }

/-- The indices of the hosts in use. -/
def State.hosts (s : State) : List Nat :=
  (kindOf s.img 4 0).filterMap fun e =>
    if e.n MAPPING_kind = 7 ∧ e.n MAPPING_dir = 0 then some (e.n MAPPING_host) else none

/-- The TWIG_PAGE entry of an output twig. -/
def State.twigEntry (s : State) (h t : Nat) : Option Entry :=
  (s.entries TWIG_PAGE_out_host).find? fun e => e.n TWIG_PAGE_out_host == h && e.n TWIG_PAGE_out_twig == t

/-- The source twig of an entry under the selector in force (R144). -/
def State.twigSource (s : State) (e : Entry) : Nat × Nat :=
  if s.onAlt (e.b TWIG_PAGE_prot) (e.n TWIG_PAGE_qs_group) then (e.n TWIG_PAGE_alt_host, e.n TWIG_PAGE_alt_twig)
  else (e.n TWIG_PAGE_src_host, e.n TWIG_PAGE_src_twig)

/-- The unit that a source twig gives an output unit, with code 0xF where it fails and 0 otherwise. A source host that holds no
frame for the unit, as after its alignment is gained, fails too (DESIGN CHOICE, log entry 77). -/
def State.sourceUnit (s : State) (sh st h t : Nat) : Nat × Nat :=
  let th := s.hostSt sh
  let ok := match hostCtx s.img sh with
    | some e => s.on FRM_ALIGN_state (e.n MAPPING_ctx) && !s.ctxFails (e.n MAPPING_ctx)
    | none => false
  let age := (tSub s.img sh h (5 + st / 4) (5 + t / 4) - (128 * ((t / 4 : Nat) - (st / 4 : Nat) : Int)
    + writeCycle s.img (hostSlot s.img h) - readyCycle s.img (hostSlot s.img sh))) / 16000
  match th.frames[age.toNat]? with
  | some f => if ok && th.slow != 1 && tget (fun _ => 14) th.alive st != 15 then (unitOf f st, 0) else (onesUnit, 15)
  | none => (onesUnit, 15)

/-- The unit of an output twig, and 0xE or 0xF where its tag carries that code (R118, R121). Twigs of time channels
come from the time core, in place of any espalier source (R285), carrier twigs of wraps and merged twigs from the evergreen engine. -/
def State.outUnit (s : State) (h t : Nat) : Nat × Nat :=
  let q := (s.twigOut h).fnum % 4
  if (s.entries TIMEXFER_tch).any fun e => e.n TIMEXFER_tch_host == h && e.n TIMEXFER_tch_twig == t then
    ((tget (fun _ => 0) s.tw.tch (480 * h + t)) / 2 ^ (128 * q) % 2 ^ 128, 0)
  else match s.twigEntry h t with
    | some e => let (sh, st) := s.twigSource e; s.sourceUnit sh st h t
    | none => match evgTwigOf s.img h t with
      | some (e, k) =>
        if e.kind = 1 then ((s.evgWrap (e.n EVERGREEN_wrap)).units / 2 ^ (128 * k) % 2 ^ 128, 0)
        else
          let x := s.evgMerge (e.n EVERGREEN_merge)
          if x.unitFail then (onesUnit, 15) else (x.units / 2 ^ (128 * k) % 2 ^ 128, 0)
      | none => (0, 14)

/-- Assemble block `b` of the output frame in progress, from the page in force (R24). -/
def State.assemble (s : State) (h b : Nat) : State :=
  let o := s.twigOut h
  if b < 5 ∨ o.blocks.any fun p => p.1 == b then s
  else
    let units := (List.range 4).map fun k => (4 * (b - 5) + k, s.outUnit h (4 * (b - 5) + k))
    let body := units.foldr (fun x a => x.2.1 + a * 2 ^ 128) 0
    let codes := (units.filter fun x => x.2.2 != 0).map fun x => (x.1, x.2.2)
    s.setTwigOut h { o with blocks := tput o.blocks b body, codes := o.codes ++ codes }

/-- The block of an output host that the ingress port takes in a grid period; it holds host byte 0 when `b` is 0. -/
def State.hostBlock (s : State) (h b : Nat) : Blk :=
  let o := s.twigOut h
  let body := if b < 5 then o.head / 2 ^ (512 * b) % 2 ^ 512 else tget (fun _ => 0) o.blocks b
  mkBlk body (64 * 2 ^ 41 + b2n (b == 0)) false false none

/-- The overhead of a new output frame: alignment word, label, fnum, hcrc and the tags of its quarter over the four
frames sent before it (R116, R117, R121). -/
def frameHead (label fnum : Nat) (hist : List Nat) (codes alive : List (Nat × Nat)) : Nat × List (Nat × Nat) :=
  let front := beBytes 8 label ++ [BitVec.ofNat 8 fnum, 0]
  let tag := fun (alive : List (Nat × Nat)) (t : Nat) =>
    match codes.find? fun p => p.1 == t with
    | some p => (p.2, alive)
    | none => let a := tget (fun _ => 0) alive t; (a, tset (fun _ => 0) alive t ((a + 1) % 14))
  let (area, alive) := (List.range 60).foldl (fun (r : List Byte × List (Nat × Nat)) p =>
    let a := 120 * (fnum % 4) + 2 * p
    let (ca, al) := tag r.2 a
    let (cb, al) := tag al (a + 1)
    (r.1 ++ beBytes 2 (twigCrc hist a) ++ [BitVec.ofNat 8 (16 * ca + cb)] ++ beBytes 2 (twigCrc hist (a + 1)), al)) ([], alive)
  (leNat (twigWord ++ front ++ beBytes 2 (crc16 front) ++ area), alive)

/-- The output frame of one host ends and the next begins. -/
def State.rollHost (s : State) (h : Nat) : State :=
  let s := forEach (List.range 125) s fun s b => s.assemble h b
  let o := s.twigOut h
  let frame := o.blocks.foldr (fun p a => a + p.2 * 2 ^ (512 * p.1)) o.head
  let s := forEach (s.cvusOf 4) s fun s u =>
    if s.get CVU_SEL_slot u = h then s.cvuFeed u (leBytes 16 (unitOf frame (s.get CVU_SEL_twig u))) else s
  let hist := frame :: o.hist.take 3
  let fnum := (o.fnum + 1) % 256
  let label := match hostCtx s.img h with | some e => e.n MAPPING_host_label_tx | none => 0
  let (head, alive) := frameHead label fnum hist o.codes o.alive
  let s := s.setTwigOut h { fnum := fnum, head := head, hist := hist, alive := alive, last := o.codes }
  if fnum % 4 ≠ 0 then s
  else
    let mine := fun (p : Nat × Nat) => p.1 / 480 == h
    let next := s.tw.tchNext.filter mine
    { s with tw := { s.tw with
        tch := (s.tw.tch.filter fun p => !mine p) |> fun l => next.foldl (fun a p => tput a p.1 p.2) l
        tchNext := s.tw.tchNext.filter fun p => !mine p } }

/-- The twig outputs of the open measuring window of a step are measured at the end of a twig frame: those sent under alive
code 0xE or 0xF, unless their source host is out of frame or has aTSF (R170). -/
def State.measureTwigs (s : State) : State :=
  if !s.chg.winOpen || decide (5 ≤ s.chg.winTw) then s
  else
    let lost := fun (h : HitSt) =>
      let o := h.key / 480
      let t := h.key % 480
      let sent := (s.twigOut o).last.any fun c => c.1 == t && decide (14 ≤ c.2)
      let away := match s.twigEntry o t with
        | some e => match hostCtx s.img (s.twigSource e).1 with
          | some x => !s.on FRM_ALIGN_state (x.n MAPPING_ctx) || s.on FRM_DEF_tsf (x.n MAPPING_ctx)
          | none => false
        | none => false
      sent && !away
    let win := if s.chg.winTw = 0 then s.chg.win else s.chg.win.map fun h =>
      if h.kind = 1 ∧ lost h then { h with count := h.count + 1 } else h
    { s with chg := { s.chg with win := win, winTw := s.chg.winTw + 1 } }

/-- TWIG_FRAME_BOUNDARY (R121): every output host completes its frame and starts the next. -/
def effTwigFrameBoundary (s : State) : State :=
  let s := (forEach s.hosts s State.rollHost).measureTwigs
  let s := s.wrapFrame.mergeFrame
  { s with tw := { s.tw with recv := tmap (fun _ => {}) s.tw.recv TwigHost.boundary } }
def execTwigFrameBoundary (s : State) : Host.Outcome State Fault Refusal := .next (effTwigFrameBoundary s.newCycle)

end Sys2Proof.Machine
end

