-- ==== Sys2Proof/Machine/Transfer.lean ====
section
/-!
DEFINITION. Sys2Proof/Machine/Transfer.lean: time channels, ToD sentences, PTP transit correction and the events of the
calendar clock (chapter 11).
-/
namespace Sys2Proof.Machine

/-! ### Time channel messages (Table 11-1) -/

/-- The bytes of a timestamp given in 25 ps units from second 0. -/
def stampBytes (t : Nat) : List Byte :=
  let r := t % 40000000000
  beBytes 6 (t / 40000000000) ++ beBytes 4 (r / 40) ++ [BitVec.ofNat 8 (r % 40), 0]

/-- Bytes `a` to `b` of a message as a number, high byte first. -/
def field (m : List Byte) (a b : Nat) : Nat := beNat ((m.drop a).take (b + 1 - a))

/-- The timestamp at byte `a` of a message, in 25 ps units from second 0. -/
def stampAt (m : List Byte) (a : Nat) : Nat :=
  field m a (a + 5) * 40000000000 + field m (a + 6) (a + 9) * 40 + field m (a + 10) (a + 10)

/-- The time of a message number in a list of stamps; 0 where it is not known. -/
def stampOf (l : List (Nat × Nat)) (n : Nat) : Nat := ((l.find? fun p => p.1 == n).map (·.2)).getD 0

/-- The hops field (Table 11-1). -/
def State.hopsSent (s : State) : Nat :=
  let c := s.get TMC_SEL_tsel
  if c = 0x3F then 255 else if c < 24 then 0 else min 255 (s.get TMC_TCH_ST_hops (c - 24) + 1)

/-- The message that channel `k` sends next. -/
def State.tchMessage (s : State) (e : Entry) : List Byte :=
  let k := e.n TIMEXFER_tch
  let x := s.tchSt k
  let c := s.get TMC_SEL_tsel
  let trace := s.on TMC_ST_traceable
  let ql := if trace && c != 0x3F then s.qlOf c else 15
  let prev := (x.next + 2 ^ 32 - 1) % 2 ^ 32
  let rx := (x.rx.head?).getD (0, 0)
  let m := [0x11, BitVec.ofNat 8 (128 * b2n trace + 64 * b2n (c == 24 + k) + 32 * b2n s.tim.stepNow),
      BitVec.ofNat 8 (16 * ql + 2 * s.get TMC_ST_tstate), BitVec.ofNat 8 s.hopsSent] ++
    beBytes 4 (e.n TIMEXFER_tch_id) ++ beBytes 4 x.next ++ beBytes 4 rx.1 ++
    stampBytes (stampOf x.tx prev) ++ stampBytes rx.2 ++
    beBytes 2 (unsignedOf 16 (s.getI TMC_UTC_utc)) ++ [BitVec.ofNat 8 (s.get TMC_UTC_leap)] ++
    List.replicate 17 0
  m ++ beBytes 4 (crc32c m)

/-- TCH_MESSAGE_SEND (R287, R288): channel `k` sends its next message in the next round; its anchor departs at `dep`, in
25 ps units of the system time from second 0. -/
def effTchMessageSend (k dep : Nat) (s : State) : State :=
  match s.entry TIMEXFER_tch k with
  | none => s
  | some e =>
    let m := s.tchMessage e
    let x := s.tchSt k
    let key := 480 * e.n TIMEXFER_tch_host + e.n TIMEXFER_tch_twig
    let s := { s with tw := { s.tw with tchNext := tput s.tw.tchNext key (leNat m) }, out := { s.out with bytes := m } }
    let s := s.set TMC_TCH_TXSEQ_seq x.next k
    s.setTch k { x with next := (x.next + 1) % 2 ^ 32, tx := ((x.next, dep) :: x.tx).take 65 }
def execTchMessageSend (k dep : Nat) (s : State) : Host.Outcome State Fault Refusal := .next (effTchMessageSend k dep s.newCycle)

/-- The round that ends with the latest frame of a receive host, as the 64 bytes of one twig. -/
def State.roundOf (s : State) (h t : Nat) : Option (List Byte) :=
  let th := s.hostSt h
  match th.fnum, th.hist with
  | some f, [d, c, b, a] => if f % 4 = 3 then some ([a, b, c, d].flatMap fun x => leBytes 16 (unitOf x t)) else none
  | _, _ => none

/-- A message with a good CRC and its own ID (R287, R289). -/
def State.tchTake (s : State) (e : Entry) (m : List Byte) (arr : Nat) : State :=
  let k := e.n TIMEXFER_tch
  let x := s.tchSt k
  let fl := field m 1 1
  let seq := field m 8 11
  let prev := (seq + 2 ^ 32 - 1) % 2 ^ 32
  let rxSeq := field m 12 15
  let ql := field m 2 2 / 16
  let s := ((s.inc TMC_TCH_CNT_rx k).setB TMC_TCH_ST_id_err false k).setB TMC_TCH_ST_loop (bit fl 6) k
  let s := (s.setB TMC_TCH_ST_peer_trace (bit fl 7) k).set TMC_TCH_ST_peer_ql ql k
  let s := (s.set TMC_TCH_ST_peer_state (field m 2 2 / 2 % 8) k).set TMC_TCH_ST_hops (field m 3 3) k
  let s := s.set TMC_TCH_RXSEQ_seq seq k
  let utc := some (signedOf 16 (field m 40 41), field m 42 42 % 4)
  let s := s.setCand (24 + k) { s.candSt (24 + k) with ql := ql, utc := utc }
  let s := if s.get TMC_SEL_tsel = 24 + k then s.takeUtc utc else s
  let t3 := stampAt m 16
  let sample := match x.tx.find? fun p => p.1 == rxSeq, x.rx.find? fun p => p.1 == prev with
    | some (_, t1), some (_, t4) =>
      let fwd : Int := 25 * ((stampAt m 28 : Int) - t1)
      let back : Int := 25 * ((t4 : Int) - t3)
      if ((t1 : Int) - t3).natAbs ≤ 40000000000 then [((fwd - back - e.i TIMEXFER_tch_asym) / 2, (fwd + back) / 2)] else []
    | _, _ => []
  (s.setTch k { x with selThis := bit fl 6, rx := ((seq, arr) :: x.rx).take 65, sample := x.sample ++ sample }).showCand (24 + k)

/-- TCH_MESSAGE_RECEIVED (R287 to R289): a round of channel `k` has ended; its anchor arrived at `arr`. -/
def effTchMessageReceived (k arr : Nat) (s : State) : State :=
  match s.entry TIMEXFER_tch k with
  | none => s
  | some e => match s.roundOf (e.n TIMEXFER_tch_host) (e.n TIMEXFER_tch_twig) with
    | none => s
    | some m =>
      if m.head? ≠ some 0x11 then s
      else if crc32c (m.take 60) ≠ field m 60 63 then s.inc TMC_TCH_CNT_crc_err k
      else if field m 4 7 ≠ e.n TIMEXFER_tch_id then s.setB TMC_TCH_ST_id_err true k
      else s.tchTake e m arr
def execTchMessageReceived (k arr : Nat) (s : State) : Host.Outcome State Fault Refusal :=
  .next (effTchMessageReceived k arr s.newCycle)

/-- The channel of TIMEXFER reaches a kind 7 transmit context on its own lane group (R286). -/
def State.routed (s : State) (e : Entry) : Bool :=
  match hostPair s.img (e.n TIMEXFER_tch_host) with
  | none => false
  | some p => (kindOf s.img 5 3).any fun r =>
      ((sourcesOf r).any fun x => pairOf (r.n FABRIC_PAGE_rd_slice) x.1 == p) &&
      match ownerOf s.img 1 (r.n FABRIC_PAGE_out) with
      | some (m, _) => m.n MAPPING_kind == 7 &&
          (groupSlots s.img (leadOfCtx s.img m)).contains ((groupSlots s.img (e.n TIMEXFER_tch_lead)).head?.getD 0)
      | none => false

/-- The check of R286 at an APPLY that takes effect, and the registers of the TIMEXFER entries. -/
def State.routeCheck (s : State) : State :=
  forEach (List.range 32) s fun s k =>
    match s.entry TIMEXFER_tch k with
    | some e => (s.setB TMC_TCH_ST_defined true k).setB TMC_TCH_ST_route_err (!s.routed e) k
    | none => (s.setB TMC_TCH_ST_defined false k).setB TMC_TCH_ST_route_err false k

/-- An APPLY of TIMEXFER has taken effect (R307): a changed channel entry restarts its numbering and its count of epochs
without an offset, and goes on delivering one until that count ends it (DEDUCED, log entry 214); a channel that is new or
gone delivers none. -/
def State.timexferApplied (s : State) (old : List Section) : State :=
  let s := forEach (List.range 32) s fun s k =>
    let a := entryBy old TIMEXFER_tch k
    let b := s.entry TIMEXFER_tch k
    if sameEntry 10 1 a b then s
    else if a.isSome && b.isSome then s.setTch k { yields := (s.tchSt k).yields }
    else
      let s := s.setTch k {}
      let s := s.setB TMC_TCH_ST_valid false k
      if s.on TMC_CAND_ST_enabled (24 + k) && !s.on TMC_CAND_ST_los (24 + k) then s.candLos (24 + k) else s
  let s := s.setB TMC_TCOR_ST_en (s.gl TIMEXFER_tcor_en == 1)
  s.set TMC_TOD_TX_en (ofBits ((List.range 4).map fun k => s.gl TIMEXFER_todo_en k == 1))

/-! ### ToD sentences (R298 to R300) -/

/-- A character. -/
def chr (c : Char) : Byte := BitVec.ofNat 8 c.toNat

/-- The characters of a decimal number without leading zeros; `fuel` bounds its digits. -/
def decimal : Nat → Nat → List Byte
  | 0, _ => []
  | f + 1, n => if n < 10 then [BitVec.ofNat 8 (48 + n)] else decimal f (n / 10) ++ [BitVec.ofNat 8 (48 + n % 10)]

/-- A hexadecimal digit, upper case. -/
def hexDigit (n : Nat) : Byte := BitVec.ofNat 8 (if n < 10 then 48 + n else 55 + n)

/-- The XOR of characters. -/
def xorAll (l : List Byte) : Byte := l.foldl (· ^^^ ·) 0

/-- "TSTOD,". -/
def todHead : List Byte := "TSTOD,".toList.map chr

/-- The sentence of R298. -/
def todSentence (sec : Nat) (utc : Int) (leap ql st : Nat) : List Byte :=
  let sign := if utc < 0 then [chr '-'] else []
  let body := todHead ++ decimal 16 sec ++ [chr ','] ++ sign ++ decimal 4 utc.natAbs ++ [chr ','] ++
    decimal 2 leap ++ [chr ',', hexDigit (ql % 16), chr ',', hexDigit (st / 16 % 16), hexDigit (st % 16)]
  let cs := (xorAll body).toNat
  [chr '$'] ++ body ++ [chr '*', hexDigit (cs / 16), hexDigit (cs % 16), 13, 10]

/-- TOD_SENTENCE_SEND (R299): TOD_TXD[k] names the second that began at the latest epoch. -/
def effTodSentenceSend (k : Nat) (s : State) : State :=
  if !(decide (k < 4) && s.gl TIMEXFER_todo_en k == 1) then s
  else
    let c := s.get TMC_SEL_tsel
    let t := s.get TMC_ST_tstate
    let ql := if s.on TMC_ST_traceable && c != 0x3F then s.qlOf c else 15
    let st := b2n (s.on TMC_ST_traceable) + 2 * b2n (t == 3) + 4 * b2n (t == 0 || t == 4) + 8 * b2n s.tim.stepNow
    { s with out := { s.out with bytes := todSentence s.sysSec (s.getI TMC_UTC_utc) (s.get TMC_UTC_leap) ql st } }
def execTodSentenceSend (k : Nat) (s : State) : Host.Outcome State Fault Refusal := .next (effTodSentenceSend k s.newCycle)

/-- A decimal number of at most 16 digits without leading zeros. -/
def readDecimal (l : List Byte) : Option Nat :=
  if l.isEmpty || decide (16 < l.length) || (l.head? == some (chr '0') && l.length != 1) then none
  else if l.all fun b => decide (48 ≤ b.toNat) && decide (b.toNat ≤ 57) then
    some (l.foldl (fun a b => 10 * a + (b.toNat - 48)) 0)
  else none

/-- A signed decimal number. -/
def readSigned (l : List Byte) : Option Int :=
  match l with
  | b :: t => if b = chr '-' then (readDecimal t).map fun n => -(n : Int) else (readDecimal (b :: t)).map fun n => (n : Int)
  | [] => none

/-- The value of hexadecimal digits, upper case, and lower case where `low`. -/
def readHex (low : Bool) (l : List Byte) : Option Nat :=
  l.foldl (fun a b => match a with
    | none => none
    | some v =>
      let c := b.toNat
      if 48 ≤ c ∧ c ≤ 57 then some (16 * v + (c - 48)) else if 65 ≤ c ∧ c ≤ 70 then some (16 * v + (c - 55))
      else if low ∧ 97 ≤ c ∧ c ≤ 102 then some (16 * v + (c - 87)) else none) (some 0)

/-- The pieces of a string between commas. -/
def splitComma (l : List Byte) : List (List Byte) :=
  l.foldr (fun b a => if b = chr ',' then [] :: a else match a with | x :: t => (b :: x) :: t | [] => [[b]]) [[]]

/-- A sentence with good checksum and syntax: second, UTC offset, leap code, QL, and st. -/
def readTod (l : List Byte) : Option (Nat × Int × Nat × Nat × Nat) :=
  let n := l.length
  let body := (l.drop 1).take (n - 6)
  let tail := l.drop (n - 5)
  if n < 12 ∨ 40 < n ∨ l.head? ≠ some (chr '$') ∨ (tail.drop 3) ≠ [13, 10] ∨ tail.head? ≠ some (chr '*') then none
  else if readHex false ((tail.drop 1).take 2) ≠ some (xorAll body).toNat then none
  else if body.take 6 ≠ todHead then none
  else match splitComma (body.drop 6) with
    | [a, b, c, d, e] =>
      match readDecimal a, readSigned b, readDecimal c, readHex true d, readHex true e with
      | some sec, some utc, some leap, some ql, some st =>
        if leap ≤ 2 ∧ d.length = 1 ∧ e.length = 2 ∧ sec < 2 ^ 48 then some (sec, utc, leap, ql, st) else none
      | _, _, _, _, _ => none
    | _ => none

/-- TOD_SENTENCE_RECEIVED (R299): a string on TOD_RXD[k]; its first character came `first` ns after the latest epoch, at
the rate of a baud code. -/
def effTodSentenceReceived (k first baud : Nat) (l : List Byte) (s : State) : State :=
  if 4 ≤ k then s
  else match readTod l with
  | some (sec, utc, leap, ql, st) =>
    if s.gl TIMEXFER_todi_win * 1000000 < first ∨ baud ≠ s.gl TIMEXFER_todi_baud k then s.inc TMC_TOD_RX_ST_bad k
    else
      let s := ((s.setB TMC_TOD_RX_ST_valid true k).set TMC_TOD_RX_ST_ql ql k).set TMC_TOD_RX_ST_st st k
      let s := (s.setI TMC_TOD_RX_ST_utc utc k).set TMC_TOD_RX_SEC_sec sec k
      let s := { s with tim := { s.tim with tod := if s.tim.tod.contains k then s.tim.tod else k :: s.tim.tod } }
      forEach (allCands.filter fun c => todOf c (s.candE c) == some k) s fun s c =>
        let s := s.setCand c { s.candSt c with ql := ql, utc := some (utc, leap), lab := (sec : Int) - s.sysSec }
        let s := if s.get TMC_SEL_tsel = c then s.takeUtc (some (utc, leap)) else s
        s.showCand c
  | none => s.inc TMC_TOD_RX_ST_bad k
def execTodSentenceReceived (k first baud : Nat) (l : List Byte) (s : State) : Host.Outcome State Fault Refusal :=
  .next (effTodSentenceReceived k first baud l s.newCycle)

/-! ### PTP transit correction (R292 to R295) -/

/-- What Table 11-2 says of a frame: offset of a PTP event header with the offset of the UDP checksum to patch. -/
inductive PtpClass where
  | other                                       -- passed untouched, not counted
  | macsec
  | deep                                        -- more than two VLAN tags
  | unsupported
  | event (hdr : Nat) (udp : Option Nat)
  deriving DecidableEq, Repr

/-- A PTP header at an offset of a frame whose FCS takes the last four bytes. -/
def ptpAt (m : List Byte) (hdr : Nat) (udp : Option Nat) : PtpClass :=
  if m.length < hdr + 16 + 4 then .unsupported
  else if field m (hdr + 1) (hdr + 1) % 16 = 2 ∧ field m hdr hdr % 16 ≤ 3 then .event hdr udp else .other

/-- Next-header values of IPv6 extension headers. -/
def ipv6Extension (n : Nat) : Bool := [0, 43, 44, 50, 51, 60, 135, 139, 140].contains n

/-- What follows an Ethertype at offset `o`, after the tags. -/
def classAt (m : List Byte) (o : Nat) : PtpClass :=
  let ip := o + 2
  let udp := fun (u : Nat) (must : Bool) =>
    if field m (u + 2) (u + 3) ≠ 319 then PtpClass.other
    else ptpAt m (u + 8) (if must || field m (u + 6) (u + 7) != 0 then some (u + 6) else none)
  match field m o (o + 1) with
  | 0x88E5 => .macsec
  | 0x88F7 => ptpAt m (o + 2) none
  | 0x0800 =>
    if field m (ip + 6) (ip + 7) % 2 ^ 14 ≠ 0 then .unsupported
    else if field m (ip + 9) (ip + 9) ≠ 17 then .other
    else udp (ip + 4 * (field m ip ip % 16)) false
  | 0x86DD =>
    let nh := field m (ip + 6) (ip + 6)
    if nh = 17 then udp (ip + 40) true else if ipv6Extension nh then .unsupported else .other
  | _ => .other

/-- The class of a frame; `tpid` tells a VLAN tag. -/
def ptpClass (tpid : Nat → Bool) (m : List Byte) : PtpClass :=
  let tag := fun o => tpid (field m o (o + 1))
  if tag 12 then if tag 16 then if tag 20 then .deep else classAt m 20 else classAt m 16 else classAt m 12

/-- Replace bytes of a frame from an offset on. -/
def patch (m : List Byte) (o : Nat) (b : List Byte) : List Byte := m.take o ++ b ++ m.drop (o + b.length)

/-- The one's-complement sum of 16-bit words. -/
def ocSum (l : List Nat) : Nat := l.foldl (fun a w => (a + w) % 65536 + (a + w) / 65536) 0

/-- The 16-bit words of a 64-bit number, high word first. -/
def words16 (v : Nat) : List Nat := [v / 2 ^ 48, v / 2 ^ 32 % 65536, v / 65536 % 65536, v % 65536]

/-- Add `ps` picoseconds to the correctionField of an event message (R293, R294): the corrected frame and whether the field
saturated. -/
def correct (m : List Byte) (hdr : Nat) (udp : Option Nat) (ps : Int) : List Byte × Bool :=
  let old := field m (hdr + 8) (hdr + 15)
  let v := signedOf 64 old + (ps * 65536 + 500) / 1000
  let ovf := decide ((2 ^ 63 : Nat) ≤ v)
  let new := if ovf then 2 ^ 63 - 1 else unsignedOf 64 v
  let m1 := patch m (hdr + 8) (beBytes 8 new)
  let m2 := match udp with
    | none => m1
    | some u =>
      let c := ocSum ((65535 - field m u (u + 1)) :: ((words16 old).map (65535 - ·)) ++ words16 new)
      let c := 65535 - c
      patch m1 u (beBytes 2 (if c = 0 then 65535 else c))
  let n := m.length - 4
  let fcs := leNat (m.drop n) ^^^ crcOf 1 (m.take n) ^^^ crcOf 1 (m2.take n)
  (m2.take n ++ leBytes 4 fcs, ovf)

/-- The lane term in use of the lead lane of a context, in ps (R58). -/
def State.termOf (s : State) (lead : Nat) (tx : Bool) : Int :=
  let x := s.laneSt lead
  25 * ((if tx then x.txUse else x.rxUse : Nat) : Int)

/-- A context whose frames the mapper inspects (R292). -/
def inspected (l : List Section) (c dir : Nat) : Option Entry :=
  match mapOf l c with
  | some e => if (e.n MAPPING_kind = 4 ∨ e.n MAPPING_kind = 6) ∧ e.n MAPPING_dir = dir then some e else none
  | none => none

def State.tpids (s : State) (v : Nat) : Bool := v == 0x8100 || v == 0x88A8 || v == s.gl TIMEXFER_tpid_x

/-- PTP_INGRESS_CORRECT (R293, R295): a frame enters through context `c`, or through lane index `mate` of a mate lane, and
its start block waits `wait` cycles beyond the empty wait. -/
def effPtpIngressCorrect (c : Nat) (mate : Option Nat) (wait : Nat) (m : List Byte) (s : State) : State :=
  let term : Option Int := match mate with
    | some n => if 128 ≤ n ∧ n < 144 then some (s.termOf n false + s.gl TIMEXFER_mate_delay) else none
    | none => (inspected s.img c 0).map fun e => s.termOf (leadOfCtx s.img e) false
  match term, ptpClass s.tpids m with
  | some t, .event h u =>
    if s.gl TIMEXFER_tcor_en = 0 then { s with out := { s.out with bytes := m } }
    else
      let (m, ovf) := correct m h u (t + 800 * wait)
      let s := if ovf then s.inc TMC_TCOR_OVF_ovf else s
      { s with out := { s.out with bytes := m } }
  | _, _ => { s with out := { s.out with bytes := m } }
def execPtpIngressCorrect (c : Nat) (mate : Option Nat) (wait : Nat) (m : List Byte) (s : State) :
    Host.Outcome State Fault Refusal := .next (effPtpIngressCorrect c mate wait m s.newCycle)

/-- The residence with which a message that leaves through an output slot is corrected: that of the source in force when the
slot block of its first byte was read, `ago` grid periods before the latest one (R158, R293). -/
def State.startResidence (s : State) (slot ago : Nat) (r : Entry) : Int :=
  match s.fab.resLog.find? fun p => p.1 == slot && decide (p.2.1 + ago + 1 ≤ s.fab.gp) with
  | some p => p.2.2
  | none => slotResidence s.img r (s.onAlt (r.b FABRIC_PAGE_prot) (r.n FABRIC_PAGE_qs_group))

/-- Whether a read entry's source in force is a STREAM connection, as far as this device knows: a mate slot's is not known. -/
def State.streamSource (s : State) (r : Entry) : Bool :=
  match (slotAt (writesOf s.img) (pairOf (r.n FABRIC_PAGE_rd_slice) (s.sourceOf r).1)).bind (ownerOf s.img 0) with
  | some (e, _) => (inspected s.img (e.n MAPPING_ctx) 0).isSome
  | none => true

/-- PTP_EGRESS_CORRECT (R293 to R295): a frame leaves through output slot `slot`, whose start block waits `x.wait` cycles. -/
def effPtpEgressCorrect (slot : Nat) (x : EgressIn) (m : List Byte) (s : State) : State :=
  let s := { s with out := { s.out with bytes := m } }
  let term : Option Int := match s.entry FABRIC_PAGE_mate_slot slot with
    | some e =>
      if (s.readOf slot).any s.streamSource then some (s.termOf (128 + e.n FABRIC_PAGE_mate_lane) true) else none
    | none => match ownerOf s.img 1 slot with
      | some (e, _) => (inspected s.img (e.n MAPPING_ctx) 1).map fun e => s.termOf (leadOfCtx s.img e) true
      | none => none
  match term, s.readOf slot with
  | some t, some r =>
    if s.gl TIMEXFER_tcor_en = 0 then s
    else match ptpClass s.tpids m with
    | .event h u =>
      let (m, ovf) := correct m h u (800 * (s.startResidence slot x.ago r + x.wait) + t)
      let s := s.inc TMC_TCOR_CNT_corrected
      let s := if ovf then s.inc TMC_TCOR_OVF_ovf else s
      { s with out := { s.out with bytes := m } }
    | .macsec => s.inc TMC_TCOR_MACSEC_macsec
    | .deep => s.inc TMC_TCOR_UNSUP_deep
    | .unsupported => s.inc TMC_TCOR_UNSUP_other
    | .other => s
  | _, _ => s
def execPtpEgressCorrect (slot : Nat) (x : EgressIn) (m : List Byte) (s : State) : Host.Outcome State Fault Refusal :=
  .next (effPtpEgressCorrect slot x m s.newCycle)

/-! ### The calendar clock -/

/-- RTC_HOLD_END (R304): the count has held for e ticks and runs on. -/
def effRtcHoldEnd (s : State) : State := s.setB RTC_ST_holding false
def execRtcHoldEnd (s : State) : Host.Outcome State Fault Refusal := .next (effRtcHoldEnd s.newCycle)

/-- RTC_XTAL_FAIL (R302): the crystal has stopped for 2 ms. -/
def effRtcXtalFail (s : State) : State :=
  if s.on RTC_ST_xtal_fail then s
  else
    let s := (s.setB RTC_ST_xtal_fail true).setB RTC_ST_xtal_fail_stk true
    let s := if s.pwr.main then s else s.setB RTC_ST_valid false
    s.report kRTC_XTAL []
def execRtcXtalFail (s : State) : Host.Outcome State Fault Refusal := .next (effRtcXtalFail s.newCycle)

end Sys2Proof.Machine
end

