-- ==== Sys2Proof/Machine/Power.lean ====
section
/-!
DEFINITION. Sys2Proof/Machine/Power.lean: power domains and their sequencer (R415 to R418), the DDR5 controller (R404 to
R411), and what the reset of a domain takes (R416, R420, R421).
-/
namespace Sys2Proof.Machine

/-! ### The reset of a master (R348, R349) -/

/-- A write of a semaphore: 0 by its holder frees it. -/
def State.semFree (s : State) (m n : Nat) : State :=
  if s.get BM_SEM_holder n = m then (s.set BM_SEM_holder 0 n).setB BM_SEM_lock false n else s

/-- Every semaphore that a master holds is freed. -/
def State.semFreeAll (s : State) (m : Nat) : State := forEach (List.range 64) s fun s n => s.semFree m n

/-- The locked sequence of a master, if it has one. -/
def State.lockOf (s : State) (m : Nat) : Option LockSt := (s.bus.locks.find? fun p => p.1 == m).map (·.2)
def State.setLock (s : State) (m : Nat) (v : Option LockSt) : State :=
  let l := s.bus.locks.filter fun p => p.1 != m
  { s with bus := { s.bus with locks := match v with | some x => l ++ [(m, x)] | none => l } }

/-- A master is reset: its locked sequence and its semaphores are released (R348). -/
def State.masterReset (s : State) (m : Nat) : State := (s.setLock m none).semFreeAll m

/-! ### The reset of a domain -/

/-- The power domain that holds a context: PD_TWIG for kinds 7 and 8, else its mapper quadrant's (R97, R115). -/
def domainOfCtx (l : List Section) (c : Nat) : Nat :=
  match mapOf l c with
  | some e => if e.n MAPPING_kind = 7 ∨ e.n MAPPING_kind = 8 then 23 else 7 + quadrantOf (leadOfCtx l e) % 4
  | none => 7

/-- The domain whose reset gives a register its reset value, by the rule that owns the register. -/
def domainOfKey (l : List Section) (k : Nat) : Nat :=
  let within := fun a b => decide (a ≤ k) && decide (k < b)
  if within 0x4000 0x5000 then
    if within 0x4100 0x4250 then 0 else if k = 0x4008 ∨ k = 0x400C then 23 else 5
  else if within 0x6000 0xA100 then 5
  else if within 0xB000 0xC000 then if k = 0xB00C then 0 else 5
  else if within 0xC000 0xD000 then if k = 0xC00C then 0 else 5
  else if within 0xD008 0xE000 then 3
  else if within 0x2F000 0x30000 then 22
  else if within 0x30000 0x60000 then if k = 0x3001C ∨ k = 0x30020 then 0 else 3
  else if within 0x60000 0x61300 then 4
  else if within 0x61300 0x62000 then 1
  else if within 0x80000 0x89000 then domainOfLane ((k - 0x80000) / 0x100)
  else if within 0x11000410 0x11000490 then if (k - 0x11000410) / 16 < 4 then 20 else 21
  else if within 0x11001000 0x11002000 then 3
  else if within 0x100000000 0x200000000 then domainOfCtx l ((k - 0x100000000) / 0x40)
  else if within 0x200000000 0x300000000 then 5
  else if within 0x300000000 0x400000000 then domainOfCtx l ((k - 0x300000000) / 0x40)
  else 0

/-- Every register of some domains takes its reset value, and what is latched or staged of it is gone. -/
def State.resetRegs (s : State) (ds : List Nat) : State :=
  let keep := fun (p : Nat × Word) => !ds.contains (domainOfKey s.img p.1)
  { s with regs := s.regs.filter keep, latch := s.latch.filter keep, stage := s.stage.filter keep }

/-- Drop from a table the keys of contexts that lie in a domain. -/
def dropCtx {α : Type} (l : List Section) (d : Nat) (t : List (Nat × α)) : List (Nat × α) :=
  t.filter fun p => domainOfCtx l p.1 != d

/-- The state of the contexts of a domain is lost with it: framers, mappers, tags and faulty-connection declarations. -/
def State.resetCtx (s : State) (d : Nat) : State :=
  let l := s.img
  let s := s.forgetFaults fun x => domainOfCtx l x.ctx == d
  let lost := fun (k : Nat) => decide (k < 2 ^ 20) && domainOfCtx l k == d
  let s : State := { s with tag := { s.tag with
    srcs := s.tag.srcs.filter fun p => !lost p.1, chks := s.tag.chks.filter fun p => !lost p.1 } }
  { s with fr := { s.fr with
    align := dropCtx l d s.fr.align, label := dropCtx l d s.fr.label, defs := dropCtx l d s.fr.defs,
    pm := dropCtx l d s.fr.pm, egress := dropCtx l d s.fr.egress, cal := dropCtx l d s.fr.cal,
    map := dropCtx l d s.fr.map, bei := dropCtx l d s.fr.bei } }

/-- The items of queue `q` in its middle are lost with DDR5: those between the 16 of its head and the 16 of its tail (R395,
R409). They count as discards (DEDUCED, log entry 215). -/
def State.loseHqMiddle (s : State) (q : Nat) : State :=
  let h := s.hqSt q
  let n := (if q = 4 then h.pm.length else h.recs.length) - 32
  let mark := (if h.mark ≤ 16 then h.mark else max 16 (h.mark - n)) + n
  (s.setHq q { h with
    recs := h.recs.take 16 ++ h.recs.drop (h.recs.length - min 16 (h.recs.length - 16))
    pm := h.pm.take 16 ++ h.pm.drop (h.pm.length - min 16 (h.pm.length - 16)), mark := mark }).hqDiscard q n

/-- DDR5 leaves UP, or its contents are lost (R408, R409): the ring, the frames in the middles, the items in the harvest
middles and PM history are gone, PM seconds in progress are discarded and open bins are suspect. A cursor on a record of the
ring is lost (R394). -/
def State.ddrLost (s : State) : State :=
  let pm := tmap (fun _ => ({} : PmSt)) s.fr.pm fun p => { p.suspect with held := [], hist := [] }
  let merges := tmap (fun _ => ({} : EvgMerge)) s.evg.merges fun m =>
    { m with held := m.held.filter fun h => h.part != 1 }
  let gone := (s.rcd.ring.filter fun e => !e.pad).map fun e => e.body.seq
  let s := forEach (List.range 5) s State.loseHqMiddle
  State.unheld (State.showMerges { s with
    mem := s.mem.filter fun p => decide (p.1 < 0x8000000000)
    fr := { s.fr with pm := pm }
    evg := { s.evg with merges := merges }
    rcd := { s.rcd with ring := [], ringW := 0 } }) gone

/-- The heads and tails of twig-grain merges lie in PD_TWIG and are lost with it (R225). -/
def State.loseTwigQueues (s : State) : State :=
  forEach ((s.entries EVERGREEN_merge).filter fun e => e.n EVERGREEN_m_grain == 1) s fun s e =>
    let i := e.n EVERGREEN_merge
    let m := s.evgMerge i
    (s.setEvgMerge i { m with held := m.held.filter fun h => h.part == 1, out := [], units := 0, unitFail := true }).settleMerge e

/-- The reset of a switched domain (Table 16-8, last rows): its registers, and what it held. -/
def State.resetDomain (s : State) (d : Nat) : State :=
  let s := if 7 ≤ d ∧ d ≤ 10 then s.resetCtx d else s
  let s := if d = 23 then State.loseTwigQueues { s.resetCtx 23 with tw := {} } else s
  let s := if 11 ≤ d ∧ d ≤ 19 then
      let ns := allLanes.filter fun n => domainOfLane n == d
      let s := forEach ns s State.laneDisable
      { s with ln := { s.ln with
        synthOk := s.ln.synthOk.filter fun q => !(lanesOfQuad q).any ns.contains
        unlocked := s.ln.unlocked.filter fun q => !(lanesOfQuad q).any ns.contains } }
    else s
  let s := if d = 19 then State.masterReset { s with mate := { s.mate with lanes := [], rx := none } } 7 else s
  let s := if d = 20 ∨ d = 21 then s.ddrLost else s
  let s := s.resetRegs [d]
  if 11 ≤ d ∧ d ≤ 19 then forEach (allLanes.filter fun n => domainOfLane n == d) s (fun s n => (s.showTap n).showSquelch n) else s

/-! ### The sequencer (R415 to R418) -/

/-- The domains that the sequencer switches (Table 16-4). -/
def switchedDomains : List Nat := (List.range 24).drop 7

/-- Whether a domain is wanted on by the sections in force (Table 16-4). -/
def State.domainWanted (s : State) (d : Nat) : Bool :=
  let laneIn := fun (f : Nat → Bool) => allLanes.any fun n => f n && (s.lane n).b LANES_enable
  if d < 7 then true
  else if d < 11 then laneIn fun n => decide (n < 128) && quadrantOf n == d - 7
  else if d < 20 then laneIn fun n => domainOfLane n == d
  else if d = 20 then (fittedChannels (s.get DC_ST_chan)).any fun c => decide (c < 4)
  else if d = 21 then (fittedChannels (s.get DC_ST_chan)).any fun c => decide (4 ≤ c)
  else if d = 22 then s.gl DEVICE_host_en == 1
  else (kindOf s.img 4 0).any fun e => e.n MAPPING_kind == 7 || e.n MAPPING_kind == 8

/-- A line domain powers up while its mapper domain is ON; a mapper domain shuts down once its line domains are OFF
(R416). -/
def State.mayUp (s : State) (d : Nat) : Bool := !(decide (11 ≤ d) && decide (d < 19)) || s.get PWR_DOM_state (7 + (d - 11) / 2) == 2
def State.mayDown (s : State) (d : Nat) : Bool :=
  !(decide (7 ≤ d) && decide (d < 11)) ||
    (s.get PWR_DOM_state (11 + 2 * (d - 7)) == 0 && s.get PWR_DOM_state (12 + 2 * (d - 7)) == 0)

/-- Start what the wanted states call for, and show what waits (R417, R418). -/
def State.powerStep (s : State) : State :=
  let s := forEach switchedDomains s fun s d =>
    let st := s.get PWR_DOM_state d
    let w := s.on PWR_DOM_want d
    let st := if st = 0 && w && s.mayUp d && !s.pwr.failed.contains d then 1
      else if st = 2 && !w && s.mayDown d then 3 else st
    (s.set PWR_DOM_state st d).setB PWR_DOM_pending ((st == 3 && w) || (st == 1 && !w)) d
  s.showSquelchAll

/-- The wanted states follow the sections in force (R415). -/
def State.setWants (s : State) : State :=
  let s := forEach switchedDomains s fun s d =>
    let w := s.domainWanted d
    let rise := w && !s.on PWR_DOM_want d
    let s := s.setB PWR_DOM_want w d
    if rise then { s with pwr := { s.pwr with failed := s.pwr.failed.filter (· != d) } } else s
  s.powerStep

/-- What happens when a domain becomes ON: its lanes show whether their reference is valid and its enabled lanes enter POWERED, its DDR5 channels start to train. -/
def State.domainOn (s : State) (d : Nat) : State :=
  if 11 ≤ d ∧ d ≤ 19 then (forEach (allLanes.filter fun n => domainOfLane n == d) s fun s n =>
    (s.setB LN_STATE_refclk_ok (!s.ln.refLost.contains (refOf n)) n).lanePower n).settle
  else if d = 20 ∨ d = 21 then
    let s := forEach ((fittedChannels (s.get DC_ST_chan)).filter fun c => (decide (c < 4)) == (d == 20)) s fun s c =>
      s.set DC_CH_ST_state 1 c
    if s.get DC_ST_state = 0 then s.set DC_ST_state 1 else s
  else s.settle

/-- PWR_DOMAIN_TRANSITION_DONE (R417): the transition of domain `d` ends after `us` microseconds. -/
def effPwrDomainTransitionDone (d us : Nat) (s : State) : State :=
  let st := if d < 24 then s.get PWR_DOM_state d else 0
  if st = 1 then
    let s := ((s.set PWR_DOM_state 2 d).incW PWR_DOM_cycles d).set PWR_DOM_last_us (satN 16 us) d
    let s := s.report kPWR_DOMAIN [(1, d), (1, 2), (1, b2n (!s.on PWR_DOM_want d))]
    (s.domainOn d).powerStep
  else if st = 3 then
    let s := (s.set PWR_DOM_state 0 d).set PWR_DOM_last_us (satN 16 us) d
    let s := s.report kPWR_DOMAIN [(1, d), (1, 0), (1, b2n (s.on PWR_DOM_want d))]
    (s.resetDomain d).settle.powerStep
  else s
def execPwrDomainTransitionDone (d us : Nat) (s : State) : Host.Outcome State Fault Refusal :=
  .next (effPwrDomainTransitionDone d us s.newCycle)

/-- PWR_SEQ_FAULT (R418): the rails of domain `d` do not follow its switch. -/
def effPwrSeqFault (d : Nat) (s : State) : State :=
  let st := if d < 24 then s.get PWR_DOM_state d else 0
  if st = 1 ∨ st = 3 then
    let s := (s.set PWR_DOM_state 0 d).setB PWR_DOM_fault true d
    let s := s.report kPWR_SEQ_FAULT [(1, d), (1, b2n (st == 3))]
    let s := { s with pwr := { s.pwr with failed := if s.pwr.failed.contains d then s.pwr.failed else d :: s.pwr.failed } }
    (s.resetDomain d).settle.powerStep
  else s
def execPwrSeqFault (d : Nat) (s : State) : Host.Outcome State Fault Refusal := .next (effPwrSeqFault d s.newCycle)

/-! ### DDR5 (R404 to R411) -/

/-- DC_ST takes the combination of DEVICE at boot (R404, R425). -/
def State.ddrConfig (s : State) : State :=
  let c := s.gl DEVICE_ddr_chan
  let s := ((s.set DC_ST_chan c).set DC_ST_width (s.gl DEVICE_ddr_width)).set DC_ST_density (s.gl DEVICE_ddr_density)
  (s.set DC_ST_rate (s.gl DEVICE_ddr_rate)).set DC_ST_cap_gib (capGib c (s.gl DEVICE_ddr_width) (s.gl DEVICE_ddr_density))

/-- DDR_TRAINING_COMPLETE (R407, R408): the fitted channels end training and fill after `ms` milliseconds; `bad` lists the
channels that failed, each with its subchannel and training step. -/
def effDdrTrainingComplete (ms : Nat) (bad : List (Nat × Nat × Nat)) (s : State) : State :=
  let fit := (fittedChannels (s.get DC_ST_chan)).filter fun c => s.get DC_CH_ST_state c == 1
  if fit.isEmpty || fit.length != (fittedChannels (s.get DC_ST_chan)).length then s
  else
    let s := forEach fit s fun s c =>
      let s := s.set DC_CH_ST_train_ms (satN 16 ms) c
      match bad.find? fun b => b.1 == c with
      | some b =>
        let s := s.set DC_CH_ST_state 3 c
        if s.pwr.retrain then s.report kDDR_CH_DOWN [(1, c), (1, 0)]
        else s.report kDDR_TRAIN_FAIL [(1, c), (1, b.2.1), (1, b.2.2)]
      | none => s.set DC_CH_ST_state 2 c
    let up := fit.filter fun c => s.get DC_CH_ST_state c == 2
    let s := s.set DC_ST_ch_up (bitsSet up)
    let s := { s with pwr := { s.pwr with retrain := false } }
    if up.length = fit.length then
      let s := s.ddrLost.set DC_ST_state 2
      s.report kDDR_TRAINED [(1, bitsSet up), (1, s.get DC_ST_rate), (1, s.get DC_ST_cap_gib), (2, satN 16 ms)]
    else s.set DC_ST_state 3
def execDdrTrainingComplete (ms : Nat) (bad : List (Nat × Nat × Nat)) (s : State) : Host.Outcome State Fault Refusal :=
  .next (effDdrTrainingComplete ms bad s.newCycle)

/-- DDR_RETRAIN (R408): every fitted channel trains again while one is down. -/
def effDdrRetrain (s : State) : State :=
  if s.get DC_ST_state ≠ 3 ∨ s.pwr.retrain then s
  else
    let s := forEach (fittedChannels (s.get DC_ST_chan)) s fun s c => (s.set DC_CH_ST_state 1 c).inc DC_CH_ST_retrains c
    let s := s.set DC_ST_ch_up 0
    { s with pwr := { s.pwr with retrain := true } }
def execDdrRetrain (s : State) : Host.Outcome State Fault Refusal := .next (effDdrRetrain s.newCycle)

/-- A channel goes down in service on its rate of uncorrectable reads (R408, R410). -/
def State.channelDown (s : State) (c : Nat) : State :=
  let s := (s.set DC_CH_ST_state 3 c).set DC_ST_ch_up (s.get DC_ST_ch_up &&& (255 - 2 ^ c))
  (s.ddrLost.set DC_ST_state 3).report kDDR_CH_DOWN [(1, c), (1, 1)]

/-- The channel that holds a DDR5 address (R406). -/
def State.channelOf (s : State) (a : Nat) : Nat :=
  let fit := fittedChannels (s.get DC_ST_chan)
  ((fit[(a - 0x8000000000) / 512 % (2 * fit.length) / 2]?).getD 0)

/-- An uncorrectable DDR5 word (R410), read through a port: 0 evergreen, 1 matrix. -/
def State.ddrUncorr (s : State) (a port : Nat) : State :=
  if !s.ddrUp then s
  else
    let c := s.channelOf a
    let s := (s.inc DC_ECC_uncorr c).set64 DC_UE_ADDR_LO_addr_lo DC_UE_ADDR_HI_addr_hi a c
    let s := s.report kDDR_ECC_UNCORR [(1, c), (5, a), (1, s.regionOf a), (1, port)]
    let now := s.fab.gp
    let l := (c, now) :: s.bus.ueMs.filter fun p => decide (now < p.2 + 9766)
    let s := { s with bus := { s.bus with ueMs := l } }
    if 16 ≤ (l.filter fun p => p.1 == c).length then s.channelDown c else s

/-- Corrected words of a channel (R410, R411). -/
def State.ddrCorr (s : State) (c n : Nat) : State :=
  let s := s.inc DC_ECC_corr c n
  let s := s.count (fun i => s.get PC_SEL_kind i == 4 && bit (s.get PC_SEL_filter i) 2
    && (s.get PC_SEL_arg i % 16 == 15 || s.get PC_SEL_arg i % 16 == c)) n
  { s with pwr := { s.pwr with corrSec := tmod (fun _ => 0) s.pwr.corrSec c (· + n) } }

/-- DDR_PATROL_SCRUB (R410, R411): the corrected words found on channels, and the addresses of uncorrectable ones. -/
def effDdrPatrolScrub (corr : List (Nat × Nat)) (ue : List Nat) (s : State) : State :=
  if !s.ddrUp then s
  else
    let s := forEach (corr.filter fun p => (fittedChannels (s.get DC_ST_chan)).contains p.1) s fun s p => s.ddrCorr p.1 p.2
    forEach ue s fun s a => s.ddrUncorr a 1
def execDdrPatrolScrub (corr : List (Nat × Nat)) (ue : List Nat) (s : State) : Host.Outcome State Fault Refusal :=
  .next (effDdrPatrolScrub corr ue s.newCycle)

/-- DDR_ECC_CORR (R411): the second ends; one record for each channel with corrected errors in it. -/
def effDdrEccCorr (s : State) : State :=
  let l := s.pwr.corrSec
  let s := forEach l s fun s p => s.report kDDR_ECC_CORR [(1, p.1), (4, satN 32 p.2)]
  { s with pwr := { s.pwr with corrSec := [] } }
def execDdrEccCorr (s : State) : Host.Outcome State Fault Refusal := .next (effDdrEccCorr s.newCycle)

/-- DDR_REFRESH (R411): refresh keeps what the components hold; no state of the device changes. -/
def effDdrRefresh (s : State) : State := s
def execDdrRefresh (s : State) : Host.Outcome State Fault Refusal := .next (effDdrRefresh s.newCycle)

/-- DDR_DQS_RECENTRE (R411): the DQS timing is re-centred without stopping traffic; no state of the device changes. -/
def effDdrDqsRecentre (s : State) : State := s
def execDdrDqsRecentre (s : State) : Host.Outcome State Fault Refusal := .next (effDdrDqsRecentre s.newCycle)

/-! ### Temperature (R398, R441) -/

/-- JUNCTION_TEMP_THRESHOLD (R398): the hottest sensor, in units of 0.125 °C, crosses temp_warn or temp_crit. -/
def effJunctionTempThreshold (t : Int) (s : State) : State :=
  let warm := decide ((8 * s.gl RECORDS_temp_warn : Int) < t)
  let crit := decide ((8 * s.gl RECORDS_temp_crit : Int) < t)
  let v := unsignedOf 16 t
  let s := if warm && !s.pwr.warm then s.report kTEMP_WARN [(2, v)] else s
  let s := if crit && !s.pwr.crit then s.report kTEMP_CRIT [(2, v)] else s
  { s with pwr := { s.pwr with warm := warm, crit := crit } }
def execJunctionTempThreshold (t : Int) (s : State) : Host.Outcome State Fault Refusal :=
  .next (effJunctionTempThreshold t s.newCycle)

end Sys2Proof.Machine
end

