-- ==== Sys2Proof/Machine/Quickset.lean ====
section
/-!
DEFINITION. Sys2Proof/Machine/Quickset.lean: the quickset engine (R179 to R196): timers, pins, mailbox commands, APS, an
APPLY of PROTECTION, and row 2 of Table 1-4.
-/
namespace Sys2Proof.Machine

/-- The bits below 4 of a number. -/
def low4 (v : Nat) : Nat := v % 16

/-! ### Timers (R184, R186) -/

/-- HOLDOFF_EXPIRY: a trigger of a group (0 SF-W, 1 SF-P, 2 SD-W, 3 SD-P) has been present for the hold-off time. It is
declared at the next grid multiframe boundary. -/
def effHoldoffExpiry (g t : Nat) (s : State) : State :=
  let q := s.grp g
  if bit q.hoRun t && !bit q.due t then s.setGrp g { q with due := q.due + 2 ^ t } else s
def execHoldoffExpiry (g t : Nat) (s : State) : Host.Outcome State Fault Refusal := .next (effHoldoffExpiry g t s.newCycle)

/-- The triggers of a group whose hold-off has elapsed are declared. -/
def State.declareDue (s : State) (e : Entry) : State :=
  let g := e.n PROTECTION_grp
  let q := s.grp g
  if q.due = 0 then s
  else
    let run := ofBits ((List.range 4).map fun i => bit q.hoRun i && !bit q.due i)
    let s := s.setGrp g { q with decl := low4 (q.decl ||| q.due), hoRun := run, due := 0 }
    (s.setB QS_GRP_ST_holdoff (run != 0) g).evalGroup e

/-- WTR_EXPIRY: the wait-to-restore timer of a group expires, and its request becomes NR. -/
def effWtrExpiry (g : Nat) (s : State) : State :=
  match s.entry PROTECTION_grp g with
  | none => s
  | some e =>
    if s.on QS_GRP_ST_wtr g then
      let s := s.setGrp g { s.grp g with hold := 0 }
      let s := (s.setB QS_GRP_ST_wtr false g).set QS_GRP_ST_wtr_left 0 g
      (s.set QS_GRP_ST_req 0 g).evalGroup e
    else s
def execWtrExpiry (g : Nat) (s : State) : Host.Outcome State Fault Refusal := .next (effWtrExpiry g s.newCycle)

/-! ### FORCE_N pins (R187) -/

/-- A number with bit `k` put to a level. -/
def putBit (v k : Nat) (b : Bool) : Nat := if bit v k == b then v else if b then v + 2 ^ k else v - 2 ^ k

/-- FORCE_PIN_EDGE: an edge of FORCE_N[k] has been stable for 10 µs; `on` says that the pin is now asserted. -/
def effForcePinEdge (k : Nat) (on : Bool) (s : State) : State :=
  if 4 ≤ k ∨ bit s.qs.raw k = on then s
  else
    let s := { s with qs := { s.qs with raw := putBit s.qs.raw k on } }
    let n := tget (fun _ => 0) s.qs.edges k
    if n < 1000 then
      let s := { s with qs := { s.qs with edges := tset (fun _ => 0) s.qs.edges k (n + 1) } }
      let s := s.set QS_FORCE_edge (s.get QS_FORCE_edge ||| 2 ^ k)
      let s := s.set QS_FORCE_level (putBit (s.get QS_FORCE_level) k on)
      (s.irqSet 226).settleGroups
    else
      let exc : Fld := ⟨0x00A004, 0, 1, 8 * k + 7, 8 * k⟩
      let s := s.inc exc
      if bit (s.get QS_FORCE_masked) k then s
      else (s.set QS_FORCE_masked (s.get QS_FORCE_masked ||| 2 ^ k)).report kFORCE_RATE [(1, k)]
def execForcePinEdge (k : Nat) (on : Bool) (s : State) : Host.Outcome State Fault Refusal :=
  .next (effForcePinEdge k on s.newCycle)

/-! ### Mailbox commands (R188) -/

/-- Hold a mailbox command on a group (0 none). A manual switch is then the group's newest (R185). -/
def State.holdMbx (s : State) (e : Entry) (c : Nat) : State :=
  let g := e.n PROTECTION_grp
  let s := if 3 ≤ c then s.setGrp g { s.grp g with msFar := false } else s
  ((s.set QS_GRP_TRIG_mbx_cmd c g).setB QS_GRP_ST_mbx (c != 0) g).evalGroup e

/-- FORCE_SWITCH of group `g`: 1 LO, 2 FS, 3 MS-W, 4 MS-P. A manual switch outranked by the request in force is
refused. -/
def State.cmdForceSwitch (s : State) (g c : Nat) : Reply × State :=
  match s.entry PROTECTION_grp g with
  | none => ({ status := 8 }, s)
  | some e =>
    if c = 0 ∨ 4 < c then ({ status := 2 }, s)
    else if 3 ≤ c ∧ 5 < (s.topRequest e (s.grp g).hold).1 then ({ status := 9 }, s)
    else ({}, s.holdMbx e c)

/-- CLEAR_FORCE of group `g`. -/
def State.cmdClearForce (s : State) (g : Nat) : Reply × State :=
  match s.entry PROTECTION_grp g with
  | none => ({ status := 8 }, s)
  | some e => ({}, s.holdMbx e 0)

/-! ### APS (R194 to R196) -/

/-- Take the accepted value of a group: its registers, FOP_PM and the request that follows. A manual switch that the far
end had not requested before is the group's newest. -/
def State.apsTake (s : State) (e : Entry) (b1 b2 b3 code : Nat) : State :=
  let g := e.n PROTECTION_grp
  let new := prio code == 5 && s.get QS_GRP_ST_fe_req g != code
  let s := s.setGrp g { s.grp g with apsAcc := some (b1, b2, b3), msFar := (s.grp g).msFar || new }
  let s := ((s.set QS_GRP_APS_rx_req b1 g).set QS_GRP_APS_rx_br b3 g).set QS_GRP_ST_fe_req code g
  (s.setFop g true (b1 / 2 % 8 != (s.apsSent e).getD 0 0 / 2 % 8)).evalGroup e

/-- APS_RECEIVED: bytes 1 to 3 of an APS frame of group `g`'s protecting route. -/
def effApsReceived (g b1 b2 b3 : Nat) (s : State) : State :=
  match s.entry PROTECTION_grp g with
  | none => s
  | some e =>
    if !e.b PROTECTION_aps then s
    else
      let q := s.grp g
      let v := [BitVec.ofNat 8 b1, BitVec.ofNat 8 b2, BitVec.ofNat 8 b3]
      let held := s.on FRM_DEF_tsf (e.n PROTECTION_p_ctx)
      let run := if held then 0 else if q.apsCand = v then min (q.apsRun + 1) 3 else 1
      let s := s.setGrp g { q with apsCand := v, apsRun := run }
      if run < 3 ∨ (q.apsCand = v ∧ 3 ≤ q.apsRun) then s
      else match apsCode (b1 / 16 % 16) (b2 % 256) with
        | none => s.inc QS_GRP_CNT_aps_bad g
        | some code => s.apsTake e (b1 % 256) (b2 % 256) (b3 % 256) code
def execApsReceived (g b1 b2 b3 : Nat) (s : State) : Host.Outcome State Fault Refusal :=
  .next (effApsReceived g b1 b2 b3 s.newCycle)

/-- FOP_NR_DECLARE: for 50 ms the accepted bridged signal of a bidirectional or 1:1 group has differed from the
requested signal it sends. -/
def effFopNrDeclare (g : Nat) (s : State) : State :=
  match s.entry PROTECTION_grp g with
  | none => s
  | some e =>
    if e.b PROTECTION_aps && (e.b PROTECTION_bidir || e.b PROTECTION_type) && s.bridgeDiffers e then
      s.setFop g false true
    else s
def execFopNrDeclare (g : Nat) (s : State) : Host.Outcome State Fault Refusal := .next (effFopNrDeclare g s.newCycle)

/-! ### Row 2 of Table 1-4 (R190, R195, R254, R25) -/

/-- The bridge and selector that the request in force gives at a boundary: (bridge, selector). A 1:1 group keeps its
bridge while FOP_PM is present, and moves its selector to P only when the accepted bridged signal is 1. -/
def State.wanted (s : State) (e : Entry) : Bool × Bool :=
  let g := e.n PROTECTION_grp
  let p := selOf (s.get QS_GRP_ST_req g) (s.farEnd e)
  if e.b PROTECTION_type then
    let br := if s.on QS_GRP_ST_fop_pm g then s.on QS_GRP_ST_bridge g else p
    let ok := match (s.grp g).apsAcc with | some a => a.2.2 == 1 | none => false
    (br, if p then s.on QS_GRP_ST_sel g || ok else false)
  else (false, p)

/-- Apply the selector and bridge of one group. -/
def State.moveGroup (s : State) (e : Entry) : State :=
  let g := e.n PROTECTION_grp
  let (br, sel) := s.wanted e
  let old := s.on QS_GRP_ST_sel g
  if br = s.on QS_GRP_ST_bridge g ∧ sel = old then s
  else
    let s := (s.setB QS_GRP_ST_bridge br g).setB QS_GRP_ST_sel sel g
    let s := s.incW QS_GRP_CNT_switches g
    let s := s.report kQS_SWITCH [(2, g), (1, s.get QS_GRP_ST_req g), (1, b2n sel), (1, b2n br)]
    if sel = old then s.evalGroup e else (s.clearSide g old).settleGroup e

/-- The groups that the pages, fabric or twig, of a list of sections hold: those of a protected entry, and those of a read
entry of a bridge output (R181). -/
def pageGroups (l : List Section) : List Nat :=
  let bridged := fun (r : Entry) => (kindOf l 7 2).any fun b =>
    b.n PROTECTION_br_out == r.n FABRIC_PAGE_out && b.n PROTECTION_br_grp == r.n FABRIC_PAGE_qs_group
  dedup (((kindOf l 5 3).filter fun r => r.b FABRIC_PAGE_prot || bridged r).map (·.n FABRIC_PAGE_qs_group) ++
    ((kindOf l 6 1).filter fun r => r.b TWIG_PAGE_prot).map (·.n TWIG_PAGE_qs_group))

/-- Row 2 of Table 1-4. `before` is given where a page swaps at this boundary (the groups of the pages before): a switch of
a group that the new pages lack is then dropped (R25), until the request of the group changes. `disagree` are the groups whose two computations
disagree (R254): their change is withheld. -/
def State.quicksetRow (s : State) (before : Option (List Nat)) (disagree : List Nat) : State :=
  let now := pageGroups s.img
  forEach (s.entries PROTECTION_grp) s fun s e =>
    let g := e.n PROTECTION_grp
    let (br, sel) := s.wanted e
    let change := decide (br ≠ s.on QS_GRP_ST_bridge g ∨ sel ≠ s.on QS_GRP_ST_sel g)
    let lost := before.isSome && !now.contains g
    if disagree.contains g then s.report kQS_ENGINE_FAULT [(2, g)]
    else if change && lost then
      (s.setGrp g { s.grp g with dropped := true }).report kSWITCH_DROPPED [(2, g)]
    else if (s.grp g).dropped then s
    else s.moveGroup e

/-- After row 2: triggers whose hold-off has elapsed are declared at this boundary, and act at the next. -/
def State.declareAllDue (s : State) : State := forEach (s.entries PROTECTION_grp) s State.declareDue

/-! ### An APPLY of PROTECTION (R189) -/

/-- The group starts as in R180; its mailbox command is dropped with a record. -/
def State.freshGroup (s : State) (e : Entry) : State :=
  let g := e.n PROTECTION_grp
  let held := s.on QS_GRP_ST_mbx g
  let keep := s.reg (0x600C + 0x10 * g)
  let s := (s.resetInst 0x6000 0x10 1024 g).setWord QS_GRP_CNT_switches g keep
  let s := (s.setGrp g {}).setB QS_GRP_ST_defined true g
  if held then s.report kFORCE_DROPPED [(2, g)] else s

/-- A changed entry of the same level, type and bidir: its timers restart with the new values, and the hold-off of its
triggers runs anew; with hold-off 0 they are declared when the group settles. Without APS the group has no far-end
request and no failure of protocol. -/
def State.retimeGroup (s : State) (e : Entry) : State :=
  let g := e.n PROTECTION_grp
  let q := s.grp g
  let s := s.setGrp g { q with due := 0, hoRun := if e.n PROTECTION_holdoff = 0 then 0 else q.hoRun }
  let s := if e.b PROTECTION_aps then s else
    let s := s.setGrp g { s.grp g with apsCand := [], apsRun := 0, apsAcc := none, msFar := false }
    ((s.set QS_GRP_ST_fe_req 0 g).setFop g true false).setFop g false false
  if s.on QS_GRP_ST_wtr g then s.set QS_GRP_ST_wtr_left (e.n PROTECTION_wtr) g else s

/-- A removed group. A switch of it that waits for this boundary is dropped with a record where a page swaps there too and
the new pages lack the group (R25). -/
def State.removeGroup (s : State) (o : Entry) : State :=
  let g := o.n PROTECTION_grp
  let (br, sel) := s.wanted o
  let change := decide (br ≠ s.on QS_GRP_ST_bridge g ∨ sel ≠ s.on QS_GRP_ST_sel g)
  let s := (s.resetInst 0x6000 0x10 1024 g).setGrp g {}
  if change && s.chg.swap.isSome && !(pageGroups s.img).contains g then s.report kSWITCH_DROPPED [(2, g)] else s

/-- PROTECTION has taken effect: `old` are its entries before. -/
def State.protectionTaken (s : State) (old : List Entry) : State :=
  let olds := old.filter fun e => e.kind == 1
  let s := forEach (s.entries PROTECTION_grp) s fun s e =>
    let g := e.n PROTECTION_grp
    match olds.find? fun o => o.n PROTECTION_grp == g with
    | none => s.freshGroup e
    | some o =>
      if sameEntry 7 1 (some o) (some e) then s
      else if o.n PROTECTION_level = e.n PROTECTION_level ∧ o.n PROTECTION_type = e.n PROTECTION_type ∧
          o.n PROTECTION_bidir = e.n PROTECTION_bidir then s.retimeGroup e
      else s.freshGroup e
  let gone := olds.filter fun o => (s.entry PROTECTION_grp (o.n PROTECTION_grp)).isNone
  let s := forEach gone s State.removeGroup
  let s := s.set MATE_ST_mode (s.gl PROTECTION_mate_mode)
  s.settleGroups

end Sys2Proof.Machine
end

