-- ==== Sys2Proof/Machine/Worlds.lean ====
section
/-!
DEFINITION. Sys2Proof/Machine/Worlds.lean: the internal address map (R343, Table 13-2), the BAR map (R366), and which world a
target and an access belong to (R356 to R360).
-/
namespace Sys2Proof.Machine

/-! ### Addresses -/

/-- Base and size of bank `n` (Table 13-2). -/
def bankPlace : Nat → Nat × Nat
  | 0 => (0x100000, 0x100000) | 1 => (0x1000000, 0x800000) | 2 => (0x2000000, 0x1000000) | 3 => (0x3000000, 0x200000)
  | 4 => (0x3400000, 0x80000) | 5 => (0x3480000, 0x40000) | 6 => (0x3800000, 0x400000) | _ => (0x3C00000, 0x400000)

/-- What an internal address reaches (Table 13-2). A `bar` target is a BAR offset below 0x40_0000; the offsets above reach
MB6. `regs` is the address of an internal-only register. -/
inductive Target where
  | rom (at_ : Nat)
  | ext (at_ : Nat)
  | bank (n at_ : Nat)
  | bar (off : Nat)
  | regs (at_ : Nat)
  | ddr (at_ : Nat)
  | none
  deriving DecidableEq, Repr

/-- The target of an internal address. -/
def State.targetAt (s : State) (a : Nat) : Target :=
  if a < 0x80000 then .rom a
  else if a < 0x88000 then .ext (a - 0x80000)
  else if 0x10000000 ≤ a ∧ a < 0x10400000 then .bar (a - 0x10000000)
  else if 0x10400000 ≤ a ∧ a < 0x10800000 then .bank 6 (a - 0x10400000)
  else if 0x10800000 ≤ a ∧ a < 0x11000000 then .bar (a - 0x10000000)
  else if 0x11000000 ≤ a ∧ a < 0x11002000 then .regs a
  else if 0x8000000000 ≤ a then (if a - 0x8000000000 < s.ddrUnits * 2 ^ 26 then .ddr (a - 0x8000000000) else .none)
  else match (List.range 8).find? fun n => decide ((bankPlace n).1 ≤ a) && decide (a < (bankPlace n).1 + (bankPlace n).2) with
    | some n => .bank n (a - (bankPlace n).1)
    | Option.none => .none

/-- The kind of a target: two addresses of one range have equal kinds. -/
def Target.range : Target → Nat
  | .bank n _ => n | .ddr _ => 8 | .bar _ => 9 | .regs _ => 10 | .rom _ => 11 | .ext _ => 12 | .none => 13

/-- The key of the register at a BAR offset (R366): the paged context window (R114), the selected merge (R233) and the
selected context (R256) are windows on the registers of one instance; other offsets are keys. -/
def State.barKey (s : State) (off : Nat) : Nat :=
  if 0x200000 ≤ off ∧ off < 0x400000 then
    0x100000000 + 0x40 * (32768 * s.get MAP_CTX_PAGE_page) + (off - 0x200000)
  else if 0xB010 ≤ off ∧ off < 0xB03C then 0x200000000 + 0x40 * s.get EVG_SEL_index + (off - 0xB010)
  else if 0xC010 ≤ off ∧ off < 0xC024 then 0x300000000 + 0x40 * s.get PIT_SEL_ctx + (off - 0xC010)
  else off

/-- The channel of a mailbox register. -/
def chanOf (k : Nat) : Option Nat := if 0x10000 ≤ k ∧ k < 0x11000 then some ((k - 0x10000) / 0x100) else none

/-- The check-value unit of a register. -/
def cvuAt (k : Nat) : Option Nat := if 0x50000 ≤ k ∧ k < 0x51000 then some ((k - 0x50000) / 0x40) else none

/-- The performance counter whose PC_SEL lies at a key. -/
def pcSelAt (k : Nat) : Option Nat :=
  if 0x40000 ≤ k ∧ k < 0x40800 ∧ (k - 0x40000) % 0x20 = 0 then some ((k - 0x40000) / 0x20) else none

/-- The bank whose MB_OWNER lies at a key. -/
def ownerAt (k : Nat) : Option Nat :=
  if 0xD10C ≤ k ∧ k < 0xD18C ∧ (k - 0xD10C) % 0x10 = 0 then some ((k - 0xD10C) / 0x10) else none

/-! ### Worlds (Table 13-6) -/

/-- The owner of a CVU: 1 without an entry. -/
def State.cvuOwner (s : State) (u : Nat) : Nat :=
  match s.entry INTEGRITY_cvu u with | some e => e.n INTEGRITY_cvu_owner | none => 1

/-- Whether the register at a key is secure: the secure mailbox channels, MB_OWNER, CP_WDOG, the secure semaphores, a
CVU of owner 2, and PC_SEL while pc_owner is 2. -/
def State.secureKey (s : State) (k : Nat) : Bool :=
  (match chanOf k with | some n => decide (8 ≤ n) | none => false) || (ownerAt k).isSome || k == 0x11000000
    || (decide (0x110010C0 ≤ k) && decide (k < 0x11001100))
    || (match cvuAt k with | some u => s.cvuOwner u == 2 | none => false)
    || ((pcSelAt k).isSome && s.gl RECORDS_pc_owner == 2)

/-- Whether a DDR5 address (from byte 0 of DDR5) is secure: it is, outside every region (R359). -/
def State.secureDdr (s : State) (a : Nat) : Bool :=
  match s.region (s.regionOf (0x8000000000 + a)) with | some r => r.sec | none => true

/-- Whether a target is secure. -/
def State.secureTarget (s : State) : Target → Bool
  | .rom _ | .ext _ => true
  | .bank n _ => n == 5 || s.on MB_ST_world n
  | .bar off => s.secureKey (s.barKey (off / 4 * 4))
  | .regs a => s.secureKey (a / 4 * 4)
  | .ddr a => s.secureDdr a
  | .none => false

/-- Whether a range of internal addresses holds an address of a secure target (R246). A range is looked at in the pieces
in which the world can change: 256 bytes in the BAR, and 64 MiB in DDR5. -/
def State.secureRange (s : State) (base size : Nat) : Bool :=
  let meets := fun a n => decide (a < base + size) && decide (base < a + n)
  size != 0 && (meets 0 0x88000 || (List.range 8).any (fun n => meets (bankPlace n).1 (bankPlace n).2 && (n == 5 || s.on MB_ST_world n))
    || (meets 0x10400000 0x400000 && s.on MB_ST_world 6) || meets 0x10010800 0x800 || meets 0x1000D10C 0x74
    || meets 0x11000000 4 || meets 0x110010C0 0x40
    || (List.range 64).any (fun u => meets (0x10050000 + 0x40 * u) 0x40 && s.cvuOwner u == 2)
    || (meets 0x10040000 0x7E4 && s.gl RECORDS_pc_owner == 2)
    || (List.range s.ddrUnits).any (fun u => meets (0x8000000000 + 2 ^ 26 * u) (2 ^ 26) && s.secureDdr (2 ^ 26 * u)))

/-- The bus matrix master of an access (Table 13-1). -/
def srcMaster : Src → Nat
  | .pcie | .smbus => 2
  | .master c _ => c

/-- The world of a master's accesses (Table 13-1): that of its mode or channel for CP and DMA. -/
def State.masterSecure (s : State) (c : Nat) (sec : Bool) : Bool :=
  match c with
  | 1 | 6 => sec | 3 | 4 | 7 => true | 8 => s.on CP_LC_debug | _ => false

/-- Whether an access to the register at a key is secure (R360). -/
def State.secureSrc (s : State) (src : Src) (k : Nat) : Bool :=
  match src with
  | .pcie => s.on BM_HOST_WORLD_pcie_sec && (match chanOf k with | some n => decide (8 ≤ n) && decide (n < 12) | none => false)
  | .smbus => s.on BM_HOST_WORLD_smb_sec
  | .master c sec => s.masterSecure c sec

/-- The millisecond of a record limit, counted from 1 by the grid periods of 102.4 ns. -/
def State.msNow (s : State) : Nat := s.fab.gp * 1024 / 10000000 + 1

/-- A refusal on the world (R357). -/
def State.violation (s : State) (master a : Nat) (write : Bool) : State :=
  let s := ((s.inc BM_WV_count).set BM_WV_master master).setB BM_WV_write write
  let s := s.set64 BM_WV_ADDR_LO_addr_lo BM_WV_ADDR_HI_addr_hi a
  if tget (fun _ => 0) s.bus.wvAt master = s.msNow then s
  else
    let s : State := { s with bus := { s.bus with wvAt := tset (fun _ => 0) s.bus.wvAt master s.msNow } }
    s.report kWORLD_VIOLATION [(1, master), (1, b2n write), (5, a)]

/-- A unit selects a secure bus region. -/
def State.cvuSecure (s : State) (u : Nat) : Bool :=
  s.get CVU_CTL_src u == 5 &&
    s.secureRange (s.get64 CVU_BASE_LO_base_lo CVU_BASE_HI_base_hi u) (s.get CVU_SIZE_size u)

/-- A non-secure unit that selects a secure bus region absorbs nothing (R246). -/
def State.cvuRefused (s : State) (u : Nat) : Bool := s.cvuOwner u != 2 && s.cvuSecure u

/-- An enabled non-secure unit has come to select a secure bus region: it shows denied, and a violation is recorded. -/
def State.cvuCheck (s : State) (u master : Nat) : State :=
  if s.on CVU_CTL_enable u && s.cvuRefused u then
    (s.setB CVU_ST_denied true u).violation master (s.get64 CVU_BASE_LO_base_lo CVU_BASE_HI_base_hi u) false
  else s

/-- The units of source 5 absorb the bytes written on the matrix (Table 9-4). -/
def State.cvuBus (s : State) (m a : Nat) (l : List (Option Byte)) : State :=
  forEach (s.cvusOf 5) s fun s u =>
    let base := s.get64 CVU_BASE_LO_base_lo CVU_BASE_HI_base_hi u
    let size := s.get CVU_SIZE_size u
    if (s.get CVU_CTL_master u != 0 && s.get CVU_CTL_master u != m) || s.cvuRefused u then s
    else s.cvuFeed u ((l.zip (List.range l.length)).filterMap fun p =>
      if base ≤ a + p.2 ∧ a + p.2 < base + size then p.1 else none)

end Sys2Proof.Machine
end

