-- ==== Sys2Proof/Machine/Effect.lean ====
section
/-!
DEFINITION. Sys2Proof/Machine/Effect.lean: the sections of an APPLY or step take effect (R163): what each section does to
the state it governs (R67, R99, R111, R125, R140, R141, R153, R189, R228, R232, R258, R284, R307, R403).
-/
namespace Sys2Proof.Machine

/-! ### The pages (R141, R153) -/

/-- The fabric page swaps: `old` are the sections before. The page that was active becomes STALE. -/
def State.swapFabric (s : State) (old : List Section) : State :=
  let s := (s.set FAB_PAGE_active (1 - s.get FAB_PAGE_active)).incW FAB_PAGE_swaps
  let s := (s.set FAB_PAGE_standby 3).set FAB_PAGE_ID_id (s.gl FABRIC_PAGE_page_id)
  let s : State := { s with fab := { s.fab with swapAt := some s.fab.gp, oldWr := writesOf old, thr := some (globalOf old FABRIC_PAGE_slice_thr) } }
  let s := if globalOf old FABRIC_PAGE_coppice_min = s.gl FABRIC_PAGE_coppice_min then s else s.restartCoppice
  s.irqSet 160

/-- The twig page swaps. -/
def State.swapTwig (s : State) : State :=
  let s := (s.set TWG_PAGE_active (1 - s.get TWG_PAGE_active)).incW TWG_PAGE_swaps
  ((s.set TWG_PAGE_standby 3).set TWG_PAGE_ID_id (s.gl TWIG_PAGE_page_id)).irqSet 161

/-! ### LANES (R67) -/

/-- The lanes whose entry differs between two lists of sections. -/
def changedLanes (old new : List Section) : List Nat :=
  allLanes.filter fun n => !sameEntry 2 0 (some (laneEntryOf old n)) (some (laneEntryOf new n))

/-! ### FRAMING (R99) -/

/-- Whether the FlexO group of a lead has another group ID or instance number. -/
def flexoMoved (old new : List Section) (lead : Nat) : Bool :=
  let a := (entryBy old FRAMING_lead lead).getD { kind := 1 }
  let b := (entryBy new FRAMING_lead lead).getD { kind := 1 }
  a.i FRAMING_flexo_gid != b.i FRAMING_flexo_gid ||
    (List.range (widthOf new lead)).any fun i => a.i FRAMING_flexo_iid i != b.i FRAMING_flexo_iid i

/-- A removed path entry: its defects clear without records and its uncommitted seconds go. -/
def State.dropPath (s : State) (c : Nat) : State :=
  let s := (s.setWord FRM_DEF_ssf c 0).setDefSt c {}
  s.setPmSt c { s.pmSt c with held := [], blocks := 0, eb := 0, fe := 0, defSec := false, bdiSec := false }

/-- FRAMING has taken effect. An entry that is created or changed leaves the open bins of its context suspect (R94). -/
def State.framingTaken (s : State) (old : List Section) : State :=
  let moved := allLanes.filter fun n => isGroupLead s.img n 1 && flexoMoved old s.img n
  let s := forEach moved s fun s n => s.laneFaultsAll (bondOf s.img n) [5]
  let s := forEach s.pmPaths s fun s p =>
    let c := p.n FRAMING_ctx
    if sameEntry 3 2 (entryBy old FRAMING_ctx c) (some p) then s
    else s.setPmSt c ((s.pmSt c).openAt false s.sysSec (p.n FRAMING_pm == 2 && decide (p.n FRAMING_layer ≤ 3))).suspect
  forEach (kindOf old 3 2) s fun s o =>
    if (s.path (o.n FRAMING_ctx)).isSome then s else s.dropPath (o.n FRAMING_ctx)

/-! ### MAPPING (R111, R125) -/

/-- An entry without its calendars and CA wait. -/
def withoutCal (e : Entry) : Entry :=
  { e with fields := e.fields.filter fun p => p.1 != MAPPING_cal_a.fid && p.1 != MAPPING_cal_b.fid &&
      p.1 != MAPPING_cal_tx.fid && p.1 != MAPPING_ca_timeout.fid }

/-- Whether two entries of a FlexE group differ in their calendars and CA wait at most. -/
def calOnly (a b : Entry) : Bool :=
  a.n MAPPING_kind == 5 && b.n MAPPING_kind == 5 && sameEntry 4 0 (some (withoutCal a)) (some (withoutCal b))

/-- The clients of a FlexE group whose slots in the calendar in use change: their rate adaptation and the bytes of a host
start afresh, the hit of R111. -/
def State.calHit (s : State) (o e : Entry) : State :=
  let cal := s.calInUse e
  forEach ((kindOf s.img 4 0).filter fun x => onFlexe s.img x && x.n MAPPING_server == e.n MAPPING_ctx) s fun s x =>
    let c := x.n MAPPING_ctx
    if heldSlots o cal c = heldSlots e cal c then s else s.setMapSt c {}

/-- A transmit FlexE group sends CR where its entry names another calendar than the one sent (R111). -/
def State.callCal (s : State) (o e : Entry) : State :=
  let c := e.n MAPPING_ctx
  let k := s.calSt c
  if e.n MAPPING_dir = 1 ∧ (o.n MAPPING_cal_tx ≠ e.n MAPPING_cal_tx ∨ e.n MAPPING_cal_tx ≠ k.txC) then
    (s.setCalSt c { k with crNew := some (e.n MAPPING_cal_tx), caGot := false }).setB MAP_STATE_cr_pend true c
  else s

/-- An entry of a FlexE group that changes in its calendars or its CA wait alone: the calendar state, the alignment and the
labels of the group stay, since R111 has only the clients whose slots change take a hit (DEDUCED, log entry 201); the
current second is discarded and the open bins are suspect, as R125 says of every changed entry. -/
def State.recalCtx (s : State) (o e : Entry) : State :=
  let c := e.n MAPPING_ctx
  let s := s.setPmSt c { (s.pmSt c).suspect with blocks := 0, eb := 0, fe := 0, defSec := false, bdiSec := false }
  ((s.setWord FRM_EB_CUR_eb c 0).calHit o e).callCal o e

/-- A removed context: its record reads 0 and nothing of it is kept. -/
def State.dropCtxState (s : State) (c : Nat) : State :=
  let s := s.resetInst 0x100000000 0x40 262144 c
  let s := (s.resetInst 0x300000000 0x40 262144 c).forgetFaults fun d => d.ctx == c
  { s with
    fr := { s.fr with
      align := tdel s.fr.align c, label := tdel s.fr.label c, defs := tdel s.fr.defs c, pm := tdel s.fr.pm c
      egress := tdel s.fr.egress c, cal := tdel s.fr.cal c, map := tdel s.fr.map c, bei := tdel s.fr.bei c }
    tag := { s.tag with srcs := tdel s.tag.srcs c, chks := tdel s.tag.chks c } }

/-- MAPPING has taken effect. -/
def State.mappingTaken (s : State) (old : List Section) : State :=
  let s := forEach (kindOf s.img 4 0) s fun s e =>
    match mapOf old (e.n MAPPING_ctx) with
    | none => s.startCtx e
    | some o =>
      if sameEntry 4 0 (some o) (some e) then s.callCal o e
      else if calOnly o e then s.recalCtx o e else s.startCtx e
  forEach (kindOf old 4 0) s fun s o =>
    let c := o.n MAPPING_ctx
    if (s.mapE c).isSome then s
    else
      let s := s.dropCtxState c
      let h := o.n MAPPING_host
      if o.n MAPPING_kind = 7 ∧ o.n MAPPING_dir = 0 ∧ (hostCtx s.img h).isNone then
        { s with tw := { s.tw with recv := tdel s.tw.recv h, out := tdel s.tw.out h } }
      else s

/-! ### EVERGREEN (R228, R232) -/

/-- A merge whose entry has changed: a flush of its queue is requested (R230), after which it anchors afresh (R232). A copy
that arrives on another context or mate slot hunts again. -/
def State.changeMerge (s : State) (o e : Entry) : State :=
  let i := e.n EVERGREEN_merge
  let moved := fun (cf mf : ImgFld) => o.n cf != e.n cf || o.n mf != e.n mf || o.n EVERGREEN_m_grain != e.n EVERGREEN_m_grain
  let m := s.evgMerge i
  let m := if moved EVERGREEN_m_copy_a EVERGREEN_m_mate_a then { m with a := {} } else m
  let m := if moved EVERGREEN_m_copy_b EVERGREEN_m_mate_b then { m with b := {} } else m
  ((s.setEvgMerge i m).evgFlushReq i).settleMerge e

/-- EVERGREEN has taken effect. `keep` are the middles of the merges whose entries are unchanged. -/
def State.evergreenTaken (s : State) (old : List Section) (keep : List (Nat × Nat × Nat)) : State :=
  let s := forEach (kindOf old 8 1) s fun s o =>
    let w := o.n EVERGREEN_wrap
    if (s.entry EVERGREEN_wrap w).isSome then s
    else { s with evg := { s.evg with wraps := tdel s.evg.wraps w }
                  tag := { s.tag with srcs := tdel s.tag.srcs (2 ^ 20 + w) } }
  let s := forEach (kindOf old 8 2) s fun s o =>
    let i := o.n EVERGREEN_merge
    if (s.entry EVERGREEN_merge i).isSome then s
    else
      let s := s.resetInst 0x200000000 0x40 4096 i
      { s with evg := { s.evg with merges := tdel s.evg.merges i }
               tag := { s.tag with srcs := tdel s.tag.srcs (2 ^ 21 + i) } }
  let s := forEach (s.entries EVERGREEN_merge) s fun s e =>
    match entryBy old EVERGREEN_merge (e.n EVERGREEN_merge) with
    | none => s.settleMerge e
    | some o => if sameEntry 8 2 (some o) (some e) then s else s.changeMerge o e
  let ms := (s.entries EVERGREEN_merge).foldr (insertBy EVERGREEN_merge) []
  { s with evg := { s.evg with mids := (placeMiddles (middleCap s.img) keep ms).1 } }

/-! ### INTEGRITY and RECORDS (R246, R258, R397, R403) -/

/-- A CVU whose owner is the image takes the settings of its entry. -/
def State.cvuLoad (s : State) (e : Entry) : State :=
  let u := e.n INTEGRITY_cvu
  let s := ((s.set CVU_CTL_mode (e.n INTEGRITY_cvu_mode) u).set CVU_CTL_poly (e.n INTEGRITY_cvu_poly) u).set
    CVU_CTL_src (e.n INTEGRITY_cvu_src) u
  let s := ((s.set CVU_CTL_win (e.n INTEGRITY_cvu_win) u).set CVU_CTL_irq_en (e.n INTEGRITY_cvu_irq) u).set
    CVU_CTL_master (e.n INTEGRITY_cvu_master) u
  let s := (s.set CVU_SEL_slot (slice (e.n INTEGRITY_cvu_sel) 20 9) u).set CVU_SEL_twig (slice (e.n INTEGRITY_cvu_sel) 8 0) u
  let s := (s.set CVU_LEN_len (e.n INTEGRITY_cvu_len) u).set CVU_SIZE_size (e.n INTEGRITY_cvu_size) u
  let s := s.set64 CVU_BASE_LO_base_lo CVU_BASE_HI_base_hi (e.n INTEGRITY_cvu_base) u
  let s := s.set64 CVU_EXP_LO_exp_lo CVU_EXP_HI_exp_hi (e.n INTEGRITY_cvu_exp) u
  s.set CVU_CTL_enable (e.n INTEGRITY_cvu_on) u

/-- INTEGRITY has taken effect. A non-secure unit that it makes select a secure bus region shows denied (R246). -/
def State.integrityTaken (s : State) (old : List Section) : State :=
  let s := forEach (List.range 64) s fun s u =>
    let was := s.on CVU_CTL_enable u && s.get CVU_CTL_owner u != 2 && s.cvuSecure u
    let s := s.set CVU_CTL_owner (s.cvuOwner u) u
    let s := match s.entry INTEGRITY_cvu u with
      | some e => if e.n INTEGRITY_cvu_owner = 0 then s.cvuLoad e else s
      | none => s
    if was then s else s.cvuCheck u 3
  if globalOf old INTEGRITY_pit_en = 0 ∧ s.gl INTEGRITY_pit_en = 1 then { s with tag := { s.tag with srcs := [] } } else s

/-- The secure record types (Table 15-3). -/
def secureTypes : List RecKind := [kSESSION, kTIME_SET, kEVT_CLEAR, kTAMPER, kLC_CHANGE, kATTEST, kKEY_REVOKED]

/-- Whether a selection of a performance counter names a secure target, a secure source or a group and item with a
secure record. -/
def State.pcDenied (s : State) (n : Nat) : Bool :=
  let arg := s.get PC_SEL_arg n
  s.gl RECORDS_pc_owner == 1 && match s.get PC_SEL_kind n with
    | 1 => bit (secureMask (arg / 32)) (arg % 32)
    | 2 => secureTypes.any fun k => k.group == arg % 16 &&
        (s.get PC_SEL_filter n % 256 == 0 || s.get PC_SEL_filter n % 256 == k.item)
    | 3 => let t := arg / 16 % 16
           decide (t < 8) && (match (s.entries SECURITY_bank).find? fun e => e.n SECURITY_bank == t with
             | some e => e.b SECURITY_bank_world
             | none => (bankDefault t).2.2)
    | _ => false

/-- RECORDS has taken effect. -/
def State.recordsTaken (s : State) (old : List Section) : State :=
  let s := forEach (List.range 4) s fun s q =>
    if globalOf old RECORDS_hq_en q = 1 ∧ s.gl RECORDS_hq_en q = 0 then s.flushReq q else s
  forEach (List.range 64) s fun s n =>
    let s := if s.gl RECORDS_pc_owner = 0 then
        s.setWord PC_SEL_enable n (BitVec.ofNat 32 (s.gl RECORDS_pc_sel n)) else s
    s.setB PC_SEL_denied (s.pcDenied n) n

/-! ### An APPLY or step in force (R163) -/

/-- What one section does when it takes effect, the pages apart. `keep` are the middles kept. -/
def State.sectionTaken (s : State) (old : List Section) (keep : List (Nat × Nat × Nat)) (sec : Nat) : State :=
  match sec with
  | 2 => forEach (changedLanes old s.img) s State.lanePower
  | 3 => s.framingTaken old
  | 4 => s.mappingTaken old
  | 7 =>
    let s := s.protectionTaken (entriesOf old 7)
    if s.gl PROTECTION_mate_mode = 0 then ({ s with mate := { s.mate with gasp := false } } : State).set MATE_ST_role 0 else s
  | 8 => s.evergreenTaken old keep
  | 9 => s.timingApplied old
  | 10 => s.timexferApplied old
  | 11 => s.integrityTaken old
  | 12 => s.recordsTaken old
  | _ => s

/-- The sections of an APPLY or step take effect at a boundary: the pages swap at row 1, the other sections follow in
ascending ID, before row 2. -/
def State.takeEffect (s : State) (new : List Section) : State :=
  let old := s.img
  let names := new.map (·.sec)
  let img := new.foldl putSection old
  let keep := s.keptMiddles (kindOf img 8 2)
  let s := if names.contains 2 then forEach (changedLanes old img) s State.laneDisable else s
  let s : State := { s with img := img }
  let s := if names.contains 5 then s.swapFabric old else s
  let s := if names.contains 6 then s.swapTwig else s
  let s : State := if names.contains 5 || names.contains 6 then
      { s with chg := { s.chg with swap := some (pageGroups old) } } else s
  let s := forEach ((List.range 17).filter fun i => names.contains i) s fun s i => s.sectionTaken old keep i
  let s := s.routeCheck
  (s.setWants).settle

end Sys2Proof.Machine
end

