-- ==== Sys2Proof/Machine/Change.lean ====
section
/-!
DEFINITION. Sys2Proof/Machine/Change.lean: APPLYs and change plans (R159 to R177): acceptance, load, the boundary at which
a change takes effect, hit measurement, and halts.
-/
namespace Sys2Proof.Machine

/-! ### Bank MB1 (R354) -/

/-- The state a bank takes when it is not in use: 0 ON, 1 RETAIN, 2 OFF. -/
def State.bankIdle (s : State) (b : Nat) : Nat :=
  if b = 1 ∨ b = 6 ∨ b = 7 then
    match s.entry SECURITY_bank b with | some e => e.n SECURITY_bank_idle | none => 0
  else 0

/-- The loader brings MB1 ON before it stages a section. -/
def State.wakeMb1 (s : State) : State := if s.get MB_ST_power 1 = 0 then s else s.set MB_ST_power 3 1

/-- MB1 returns to its idle state; OFF loses its contents. -/
def State.restMb1 (s : State) : State :=
  let p := s.bankIdle 1
  let s := s.set MB_ST_power p 1
  if p = 2 then { s with mem := s.mem.filter fun x => !(decide (0x1000000 ≤ x.1) && decide (x.1 < 0x1800000)) } else s

/-! ### Status (Table 6-7) -/

/-- The grid multiframe count. -/
def State.gmf (s : State) : Nat := s.get64 FAB_GMF_LO_gmf_lo FAB_GMF_HI_gmf_hi

/-- The boundary of the next step; 0 none. -/
def State.due (s : State) : Nat := s.get64 PLN_DUE_LO_due_lo PLN_DUE_HI_due_hi
def State.setDue (s : State) (n : Nat) : State := s.set64 PLN_DUE_LO_due_lo PLN_DUE_HI_due_hi n

/-- An APPLY or plan is loading, waiting for its boundary or running (R164). -/
def State.changing (s : State) : Bool := s.get PLN_STATE_state == 1 || s.get PLN_STATE_state == 2

/-- The APPLY or plan in progress ends; an open measuring window stays open. -/
def State.endChange (s : State) (st : Nat) : State :=
  let s := (s.set PLN_STATE_state st).setDue 0
  { s with chg := { s.chg with names := [], ready := none, start := none, haltAt := false } }

/-- The APPLY or plan in progress stops for a cause of Table 6-3 (R162, R172). Both standby pages return to EMPTY; a halt
that is no failure of a load (HOST, RESET, TAKEOVER) leaves a STALE page as it is. -/
def State.stopChange (s : State) (cause sec key : Nat) : State :=
  let plan := s.get PLN_STATE_kind == 2
  let step := s.chg.step
  let s := (s.endChange 4).set PLN_STATE_cause cause
  let s := (s.set PLN_DETAIL_sec sec).set PLN_DETAIL_key key
  let keep := fun (f : Fld) => decide (8 ≤ cause) && s.get f == 3
  let s := if keep FAB_PAGE_standby then s else s.set FAB_PAGE_standby 0
  let s := (if keep TWG_PAGE_standby then s else s.set TWG_PAGE_standby 0).restMb1.arbitrate
  if plan then s.report kPLAN_HALTED [(4, s.get PLN_ID_id), (1, step), (1, cause), (1, sec), (3, key)]
  else s.report kAPPLY_FAILED [(1, cause), (1, sec), (3, key)]

/-! ### Starting a load (R161, R166) -/

/-- The step entry of a number in the plan in progress. -/
def State.planStep (s : State) (k : Nat) : Entry :=
  ((s.chg.plan.filter fun e => e.kind == 1).find? fun e => e.n PLAN_step == k).getD { kind := 1 }

/-- The hit entries of a step of the plan in progress. -/
def State.planHits (s : State) (k : Nat) : List Entry :=
  s.chg.plan.filter fun e => e.kind == 2 && e.n PLAN_h_step == k

/-- The named section instances in ascending section ID. -/
def sortNames (l : List (Nat × Nat)) : List (Nat × Nat) := l.foldr insertP []

/-- A load starts: the standby pages of the sections it names are being filled. -/
def State.startLoad (s : State) (names : List (Nat × Nat)) : State :=
  let s : State := { s with chg := { s.chg with names := sortNames names, ready := none } }
  let s := s.set PLN_STATE_state 1
  let s := if names.any fun p => p.1 == 5 then s.set FAB_PAGE_standby 1 else s
  (if names.any fun p => p.1 == 6 then s.set TWG_PAGE_standby 1 else s).wakeMb1

/-- The load of step `k` of the plan starts, if its precondition holds. -/
def State.startStep (s : State) (k : Nat) : State :=
  let e := s.planStep k
  let s : State := { s with chg := { s.chg with step := k } }
  if e.b PLAN_pre_check && (s.get FAB_PAGE_ID_id != e.n PLAN_pre_fab_id || s.get TWG_PAGE_ID_id != e.n PLAN_pre_twg_id) then
    s.stopChange 6 0x10 k
  else s.startLoad (stepNames e)

/-! ### The load (R161, R162) -/

/-- How a load fails: cause and detail of Table 6-3. -/
abbrev LoadFault := Nat × Nat × Nat

/-- Read, digest-check and range-check the named instances in ascending ID. `bad` lists instances whose flash read
fails. The result: what was loaded, the bodies read with their digests, and the first fault. -/
def State.loadNames (s : State) (h : Header) (bad : List (Nat × Nat)) :
    List (Nat × Nat) → List (Loaded × List Byte) × List Byte × Option LoadFault
  | [] => ([], [], none)
  | n :: t =>
    match (s.secTable h).find? fun x => x.id == n.1 && x.inst == n.2 with
    | none => ([], [], some (7, n.1, n.2))
    | some x =>
      let b := s.body h x
      if bad.contains n then ([], [], some (7, n.1, n.2))
      else if sha512 b ≠ x.digest then ([((loadBody n.1 n.2 b).structural, x.digest)], b, some (7, n.1, n.2))
      else
        let l := loadBody n.1 n.2 b
        match l.rej with
        | some i => ([(l, x.digest)], b, some (1, n.1, i))
        | none =>
          let r := s.loadNames h bad t
          ((l, x.digest) :: r.1, b ++ r.2.1, r.2.2)

/-- The first rejected section of a load, in the order of the checks. -/
def firstRejected (l : List Loaded) : Option LoadFault :=
  (checkOrder.filterMap fun i => (l.find? fun x => x.sec == i)).findSome? fun x => x.rej.map fun e => (1, x.sec, e)

/-- The sections that a residence mismatch rejects: RESIDENCE and every page named with it (R156), or MAPPING where no
page is named (R157). -/
def mismatchRejects (l : List Loaded) : List Loaded :=
  let page := l.any fun x => x.sec == 5 || x.sec == 6 || x.sec == 14
  l.map fun x => if x.sec = 5 ∨ x.sec = 6 ∨ x.sec = 14 ∨ (x.sec = 4 ∧ !page) then x.structural else x

/-- Note the clamps and rejections of a load (QUERY item 1). -/
def State.noteLoad (s : State) (l : List Loaded) : State :=
  let ids := l.map (·.sec)
  { s with boot := { s.boot with
    clamps := l.foldl (fun t x => tset (fun _ => 0) t x.sec x.clamps.length) s.boot.clamps
    rejected := (s.boot.rejected.filter fun i => !ids.contains i) ++ (l.filter fun x => x.rej.isSome).map (·.sec) } }

/-- The checks of a load after the range checks: references, residence, hit declarations, non-disturbance. The result:
the sections as checked, and the first fault with the RESIDENCE_MISMATCH it writes, if it is one. -/
def State.checkLoad (s : State) (names : List (Nat × Nat)) (l : List Loaded) :
    List Loaded × Option LoadFault × Option Mismatch :=
  let post0 := (l.map Loaded.section_).foldl putSection s.img
  let l := checkAll s true checkOrder post0 l
  match firstRejected l with
  | some f => (l, some f, none)
  | none =>
    let post := (l.map Loaded.section_).foldl putSection s.img
    let ids := names.map (·.1)
    let res : Option Mismatch :=
      if ids.contains 14 then residenceMismatch post
      else if needsResidence s.img post ids then some (0xFFFFFF, 0, 0) else none
    match res with
    | some m => (l, some (2, 0x0E, m.1), some m)
    | none =>
      if s.get PLN_STATE_kind ≠ 2 then (l, none, none)
      else
        let hits := s.planHits s.chg.step
        match hits.find? fun e => !hitOk s.img post e with
        | some e => (l, some (5, 0x10, e.n PLAN_h_key), none)
        | none => match firstDisturbed s.img post hits with
          | some d => (l, some (4, d.1, d.2), none)
          | none => (l, none, none)

/-- Units that check the image-load stream absorb bytes that the loader reads from flash (Table 9-4, source 6). -/
def State.loaderReads (s : State) (l : List Byte) : State := forEach (s.cvusOf 6) s fun s u => s.cvuFeed u l

/-- APPLY_LOAD_COMPLETE (R161): the load in progress ends. `bad` lists the named instances whose flash read fails. The load of a device that may not drive the flash of its pair waits (R209). -/
def effApplyLoadComplete (bad : List (Nat × Nat)) (s : State) : State :=
  if s.get PLN_STATE_state ≠ 1 ∨ s.chg.ready.isSome ∨ !s.flashFree then s
  else
    let s := if s.get MB_ST_power 1 = 3 then s.set MB_ST_power 0 1 else s
    let h := s.header s.chg.cs s.chg.base
    let (read, bytes, fault) := s.loadNames h bad s.chg.names
    let s := s.loaderReads bytes
    let l0 := read.map (·.1)
    let (l, fault, mis) := match fault with
      | some f => (l0, some f, none)
      | none => s.checkLoad s.chg.names l0
    let l' := if mis.isSome then mismatchRejects l else l
    let s := (s.loadClamps true fault.isSome l').noteLoad l'
    match fault with
    | some f =>
      let s := match mis with
        | some m => s.report kRESIDENCE_MISMATCH [(3, m.1), (4, m.2.1), (4, unsignedOf 32 m.2.2)]
        | none => s
      s.stopChange f.1 f.2.1 f.2.2
    | none =>
      let secs := (l.zip (read.map (·.2))).map fun p => ({ p.1.section_ with src := s.chg.src, digest := p.2 } : Section)
      let s : State := { s with chg := { s.chg with ready := some secs } }
      let s := (s.set PLN_STATE_state 2).arbitrate
      let s := if s.get FAB_PAGE_standby = 1 then s.set FAB_PAGE_standby 2 else s
      if s.get TWG_PAGE_standby = 1 then s.set TWG_PAGE_standby 2 else s
def execApplyLoadComplete (bad : List (Nat × Nat)) (s : State) : Host.Outcome State Fault Refusal :=
  .next (effApplyLoadComplete bad s.newCycle)

/-! ### Measured hits (R170, R171) -/

/-- The measuring window of the step in force is complete: 32 grid periods, and four twig frames where a twig output is
measured. -/
def State.windowDone (s : State) : Bool :=
  s.chg.winOpen && decide (s.chg.winGp + 32 ≤ s.fab.gp || s.chg.win.all fun h => h.kind == 1) &&
    (decide (5 ≤ s.chg.winTw) || s.chg.win.all fun h => h.kind == 0)

/-- The measuring window closes: HIT_EXCEEDED records in the order of the hit entries, then PLAN_STEP, and PLAN_DONE
after the last step. -/
def State.closeWindow (s : State) : State :=
  if !s.chg.winOpen then s
  else
    let excess := s.chg.win.filter fun h => decide (h.bound < h.count)
    let s := forEach (excess.take 64) s fun s h =>
      (s.waitPort kHIT_EXCEEDED).report kHIT_EXCEEDED [(3, h.key), (1, h.cls), (2, h.bound), (2, h.count), (1, b2n h.qs + 2 * b2n h.steer)]
    let s := s.inc PLN_HIT_exceeded 0 excess.length
    let s := s.set PLN_HIT_last_max ((s.chg.win.map (·.count)).foldl max 0)
    let s := s.report kPLAN_STEP [(4, s.get PLN_ID_id), (1, s.chg.winStep), (8, s.chg.winGmf), (3, s.chg.winNamed), (3, excess.length)]
    let last := s.get PLN_STATE_kind == 2 && s.get PLN_STATE_state == 2 && s.chg.winStep == s.get PLN_STATE_steps
    let s : State := { s with chg := { s.chg with win := [], winOpen := false } }
    if last then (s.endChange 3).report kPLAN_DONE [(4, s.get PLN_ID_id)] else s

/-- HIT_WINDOW_END (R171). -/
def effHitWindowEnd (s : State) : State := if s.windowDone then s.closeWindow else s
def execHitWindowEnd (s : State) : Host.Outcome State Fault Refusal := .next (effHitWindowEnd s.newCycle)

/-- The window of step `k` opens at boundary `n`. -/
def State.openWindow (s : State) (k n : Nat) : State :=
  let hits := s.planHits k
  let win := (hits.filter fun e => decide (e.n PLAN_h_class ≤ 1)).map fun e =>
    ({ kind := e.n PLAN_h_kind, key := e.n PLAN_h_key, cls := e.n PLAN_h_class
       bound := if e.n PLAN_h_class = 1 then e.n PLAN_h_max else 0 } : HitSt)
  { s with chg := { s.chg with win := win, winOpen := true, winGp := 1024 * n, winTw := 0, winStep := k, winGmf := n
                               winNamed := hits.length } }

/-- The slot outputs of the open window are measured in a grid period: a block delivered under R129 or R130 counts, a fail
marker from ingress does not (R170). -/
def State.measureSlots (s : State) : State :=
  if s.chg.winOpen && decide (s.chg.winGp ≤ s.fab.gp) && decide (s.fab.gp < s.chg.winGp + 32) then
    { s with chg := { s.chg with win := s.chg.win.map fun h =>
        if h.kind = 0 ∧ (s.fab.lost.contains h.key ∨ !s.fab.outs.any fun p => p.1 == h.key) then { h with count := h.count + 1 } else h } }
  else s

/-! ### The boundary (R163, R165) -/

/-- The boundary that a pending start time gives the first step, as it can be told in boundary `n` or after it: the first
boundary after the start time is counted at the nominal length of a grid multiframe, 104,857.6 ns (log entry 208). -/
def State.startDue (s : State) (n t gap : Nat) : Nat :=
  let left := t * secUnits - s.sysTime
  n + gap + (left * 10 / 2 ^ 32 + (s.fab.gp - 1024 * n) * 1024) / 1048576

/-- A start time that has passed fixes the boundary of the first step: boundary `n` is the first at or after it. -/
def State.fixStart (s : State) (n : Nat) : State :=
  match s.chg.start with
  | none => s
  | some t =>
    let now := s.sysTime
    let at_ := t * secUnits
    if now < at_ then s.setDue (s.startDue n t ((s.planStep s.chg.step).n PLAN_gap))
    else
      let gap := (s.planStep s.chg.step).n PLAN_gap
      let s : State := { s with chg := { s.chg with start := none } }
      s.setDue (if now = at_ then n + gap else n + gap - 1)

/-- A shadow-mode active applies a step only once a generation that names it has been committed to the standby (R176). -/
def State.stepCommitted (s : State) : Bool :=
  !(s.get MATE_ST_mode == 1 && s.get MATE_ST_role == 1 && !s.on MATE_ST_lost && decide (s.get MATE_ST_missed < 8)) ||
    (match s.mate.last with
     | some m => (match m.step with | some x => x.1 == s.chg.step | none => false) &&
         m.page.any fun p => p.1 == 0x5004 && p.2 == s.reg 0x5004
     | none => false)

/-- The sections of the change take effect at boundary `n`. -/
def State.changeNow (s : State) (n : Nat) (secs : List Section) : State :=
  let s : State := { s with fab := { s.fab with gp := max s.fab.gp (1024 * n) } }
  if s.get PLN_STATE_kind = 1 then
    let s := ((s.takeEffect secs).incW PLN_CNT_applies).endChange 3
    s.restMb1.report kAPPLY_DONE []
  else
    let k := s.chg.step
    let halt := s.chg.haltAt
    let s := s.closeWindow
    let s := (s.takeEffect secs).incW PLN_CNT_steps
    let s := (s.set PLN_STATE_step k).restMb1
    let s := s.openWindow k n
    let s : State := { s with chg := { s.chg with names := [], ready := none } }
    if halt then
      let s : State := { s with chg := { s.chg with step := k + 1 } }
      s.stopChange 8 0 0
    else if k < s.get PLN_STATE_steps then
      (s.setDue (n + (s.planStep (k + 1)).n PLAN_gap)).startStep (k + 1)
    else s.setDue 0

/-- The first named section that is not loaded. -/
def State.firstUnloaded (s : State) : Nat := ((s.chg.names.head?).map (·.1)).getD 0

/-- Row 1 of Table 1-4 at boundary `n`: an APPLY takes effect at the first boundary after its load; a step that is due
takes effect, or the plan halts. -/
def State.changeRow (s : State) (n : Nat) : State :=
  if !s.changing then s
  else if s.get PLN_STATE_kind = 1 then (match s.chg.ready with | some secs => s.changeNow n secs | none => s)
  else
    let s := s.fixStart n
    if s.due ≠ n ∨ s.chg.start.isSome then s
    else match s.chg.ready with
      | some secs => if !s.stepCommitted then s.setDue (n + 1) else s.changeNow n secs
      | none => s.stopChange 3 s.firstUnloaded 0

/-- PLAN_STEP_DUE (R165): the next grid multiframe boundary is that of the plan's next step. -/
def effPlanStepDue (s : State) : State :=
  let n := s.gmf + 1
  if s.get PLN_STATE_kind = 2 ∧ s.due = n then s.changeRow n else s
def execPlanStepDue (s : State) : Host.Outcome State Fault Refusal := .next (effPlanStepDue s.newCycle)

/-! ### Acceptance (R159, R164, R165) and halts (R174, R175) -/

/-- The slot that a source code names, as QUERY shows it: 0 boot container, 1 slot A, 2 slot B. -/
def State.useContainer (s : State) (h : Header) (src : Nat) : State :=
  { s with chg := { s.chg with cs := h.cs, base := h.base, size := h.size, src := src } }

/-- Whether this device takes an APPLY or APPLY_PLAN in its mate role (R201, R202, R207). -/
def State.roleTakes (s : State) : Bool :=
  match s.get MATE_ST_role with
  | 0 => s.get MATE_ST_mode == 0 || decide (8 ≤ s.get MATE_ST_missed)
  | 1 => true
  | _ => false

/-- Whether the names of an APPLY keep R159. -/
def namesOk (l : List (Nat × Nat)) : Bool :=
  decide (1 ≤ l.length) && decide (l.length ≤ 12) &&
    (l.all fun p => decide (2 ≤ p.1) && decide (p.1 ≤ 14) && p.1 != 13) && decide ((dedup (l.map (·.1))).length = l.length)

/-- The loader reads the container of a source code to verify it: its header, and where that is in order its section table,
public key and signature (R319; DEDUCED, log entry 212). -/
def State.readContainer (s : State) (src : Nat) : State :=
  match s.sourceHeader src with
  | none => s
  | some (h, n) => s.loaderReads (s.flashBytes h.cs h.base (if s.verify h n = 1 then 256 else h.sigOff + 4632))

/-- APPLY: `src` is the source code, `names` the section instances. -/
def State.cmdApply (s : State) (src : Nat) (names : List (Nat × Nat)) : Reply × State :=
  if !s.roleTakes then ({ status := 5 }, s)
  else if 2 < src || !namesOk names then ({ status := 2 }, s)
  else if s.changing then ({ status := 4 }, s)
  else
    let s := s.readContainer src
    match s.usable src with
    | none => ({ status := 6 }, s)
    | some h =>
      if !(names.all fun n => (s.secTable h).any fun x => x.id == n.1 && x.inst == n.2) then ({ status := 6 }, s)
      else
        let s := s.closeWindow.useContainer h src
        let s : State := { s with chg := { s.chg with plan := [], step := 0, start := none, haltAt := false } }
        let s := ((s.set PLN_STATE_kind 1).set PLN_STATE_step 0).set PLN_STATE_steps 0
        ({ words := [(1, leNat ((s.imageDigest h).take 4))] }, s.startLoad names)

/-- The PLAN instance of a container, loaded and checked; none where it is refused (R178). -/
def State.planOf (s : State) (h : Header) (inst : Nat) : Option (List Entry) :=
  match (s.secTable h).find? fun x => x.id == 16 && x.inst == inst with
  | none => none
  | some x =>
    let b := s.body h x
    if sha512 b ≠ x.digest then none
    else
      let l := checkPlan (loadBody 16 inst b)
      let steps := globalOf [l.section_] PLAN_steps
      if l.rej.isNone && decide (sortN ((l.kind 1).map fun e => e.n PLAN_step) = (List.range steps).map (· + 1)) then
        some l.entries
      else none

/-- The clamps of a PLAN instance that is read for an APPLY_PLAN (R14), among them the rejection of one whose digest fails
(R15). -/
def State.planClamps (s : State) (h : Header) (inst : Nat) : List Clamped :=
  match (s.secTable h).find? fun x => x.id == 16 && x.inst == inst with
  | none => []
  | some x =>
    let b := s.body h x
    if sha512 b ≠ x.digest then (loadBody 16 inst b).structural.clamps else (checkPlan (loadBody 16 inst b)).clamps

/-- APPLY_PLAN: source code, instance, start step, and start time in seconds. -/
def State.cmdApplyPlan (s : State) (src inst k : Nat) (start : Option Nat) : Reply × State :=
  let k := if k = 0 then 1 else k
  if !s.roleTakes then ({ status := 5 }, s)
  else if 2 < src ∨ 32 < k then ({ status := 2 }, s)
  else if s.changing then ({ status := 4 }, s)
  else
    let s := s.readContainer src
    match s.usable src with
    | none => ({ status := 6 }, s)
    | some h =>
      if !((s.secTable h).any fun x => x.id == 16 && x.inst == inst) then ({ status := 6 }, s)
      else
        let body := ((s.secTable h).find? fun x => x.id == 16 && x.inst == inst).map (s.body h)
        let s := (s.loaderReads (body.getD [])).writeClamps true (s.planOf h inst).isNone (s.planClamps h inst)
        match s.planOf h inst with
        | none => ({ status := 7 }, s)
        | some plan =>
          let steps := globalOf [({ sec := 16, entries := plan } : Section)] PLAN_steps
          let ts := s.get TMC_ST_tstate
          if steps < k then ({ status := 2 }, s)
          else if start.isSome ∧ ts ≠ 2 ∧ ts ≠ 3 then ({ status := 5 }, s)
          else if !((plan.filter fun e => e.kind == 1).all fun e => (stepNames e).all fun n =>
              (s.secTable h).any fun x => x.id == n.1 && x.inst == n.2) then ({ status := 6 }, s)
          else
            let s := s.closeWindow.useContainer h src
            let later := match start with | some t => decide (s.sysTime < t * secUnits) | none => false
            let s : State := { s with chg := { s.chg with
              plan := plan, haltAt := false, start := if later then start else none } }
            let s := ((s.set PLN_STATE_kind 2).set PLN_STATE_step 0).set PLN_STATE_steps steps
            let s := s.set PLN_ID_id (globalOf [({ sec := 16, entries := plan } : Section)] PLAN_plan_id)
            let gap := (s.planStep k).n PLAN_gap
            let s := s.setDue (match start with
              | some t => if later then s.startDue s.gmf t gap else s.gmf + gap
              | none => s.gmf + gap)
            ({}, s.startStep k)

/-- HALT_PLAN (R174). A plan whose last step is in force is in progress until its measuring window ends, and is halted too. -/
def State.cmdHaltPlan (s : State) : Reply × State :=
  if !s.changing then ({}, s)
  else if s.get PLN_STATE_kind = 1 then (if s.get PLN_STATE_state = 1 then ({}, s.stopChange 8 0 0) else ({}, s))
  else if s.due = 0 then
    ({}, ({ s with chg := { s.chg with step := s.chg.step + 1 } } : State).stopChange 8 0 0)
  else if s.due = s.gmf + 1 ∧ s.chg.start.isNone then ({}, { s with chg := { s.chg with haltAt := true } })
  else ({}, s.stopChange 8 0 0)

/-- A reset that restarts the control processor halts what is in progress (R175). -/
def State.haltReset (s : State) : State := if s.changing then s.stopChange 9 0 0 else s

end Sys2Proof.Machine
end

