-- ==== Sys2Proof/Machine/Mate.lean ====
section
/-!
DEFINITION. Sys2Proof/Machine/Mate.lean: mate pairs (R197 to R209): the mate frame, heartbeats and loss, roles, mirrored
generations, takeover and isolation.
-/
namespace Sys2Proof.Machine

/-! ### Sections of the mate frame (R198) -/

/-- Mate slots that a mate lane carries: 20 at 112.5 Gbit/s, 18 at 106.25 Gbit/s. -/
def State.mateSlots (s : State) (j : Nat) : Nat := if (s.lane (128 + j)).n LANES_rate = 6 then 20 else 18

/-- The code of a block in its header: the count, ext and fmark of its mapper field decide how many bytes follow. -/
def mateCode (b : Blk) : Nat :=
  let count := b.mapper / 2 ^ 41
  let ext := b.mapper / 2 % 2 ^ 40
  if bit b.mapper 0 || decide (count < 64) then 6
  else if count = 64 ∧ ext ≠ 0 ∧ ext < 2 ^ 16 then 7
  else if count ≤ 69 then count - 64
  else 6

/-- The 6-bit header of a block. -/
def mateHeader (b : Blk) : Nat := 32 * b2n b.fail + 16 * b2n b.ueq + 8 * b2n b.tvalid + mateCode b

/-- Block bytes 64 to 63 + n. -/
def extBytes (b : Blk) (n : Nat) : List Byte := (beBytes 5 (b.mapper / 2 % 2 ^ 40)).take n

/-- The bytes of a block; a block with ueq has none. -/
def mateBytes (b : Blk) : List Byte :=
  if b.ueq then []
  else
    let count := b.mapper / 2 ^ 41
    let more := match mateCode b with
      | 6 => leBytes 1 (128 * b2n (bit b.mapper 0) + count) ++ extBytes b (count - 64)
      | 7 => beBytes 2 (b.mapper / 2 % 2 ^ 16)
      | n => extBytes b n
    leBytes 64 b.body ++ more ++ (if b.tvalid then beBytes 8 b.tag else [])

/-- The header field and blocks of a section, from the blocks of its slots in ascending index. -/
def mateSection (l : List Blk) : List Byte :=
  let n := l.length
  let size := ceilDiv (6 * n) 8
  let v := l.foldl (fun a b => a * 64 + mateHeader b) 0
  beBytes size (v * 2 ^ (8 * size - 6 * n)) ++ l.flatMap mateBytes

/-- The mapper field that the count, ext and fmark give. -/
def mapperOf (count ext : Nat) (fmark : Bool) : Nat := count * 2 ^ 41 + ext * 2 + b2n fmark

/-- ext from block bytes 64 onward. -/
def extOf (l : List Byte) : Nat := beNat (l ++ List.replicate (5 - l.length) 0)

/-- Take a block of a header from the bytes of a section. ueq comes from the header (R198), and so a mate block may enter the
fabric with ueq 1, where Table 5-1 gives a written block 0 (DEDUCED, log entry 220). -/
def takeMateBlk (h : Nat) (l : List Byte) : Blk × List Byte :=
  if bit h 4 then (if bit h 5 then failBlk else ueqBlk, l)
  else
    let body := leNat (l.take 64)
    let l := l.drop 64
    let (mapper, l) := match h % 8 with
      | 6 =>
        let x := ((l.head?).getD 0).toNat
        let n := x % 128 - 64
        (mapperOf (x % 128) (extOf ((l.drop 1).take n)) (bit x 7), l.drop (1 + n))
      | 7 => (mapperOf 64 (beNat (l.take 2)) false, l.drop 2)
      | n => (mapperOf (64 + n) (extOf (l.take n)) false, l.drop n)
    if bit h 3 then (mkBlk body mapper (bit h 5) false (some (beNat (l.take 8))), l.drop 8)
    else (mkBlk body mapper (bit h 5) false none, l)

/-- The blocks of a section of `n` slots, without its overhead bytes, and what follows it. -/
def takeSection (n : Nat) (l : List Byte) : List Blk × List Byte :=
  let size := ceilDiv (6 * n) 8
  let v := beNat (l.take size) / 2 ^ (8 * size - 6 * n)
  (List.range n).foldl (fun (a : List Blk × List Byte) i =>
    let r := takeMateBlk (v / 64 ^ (n - 1 - i) % 64) a.2
    (a.1 ++ [r.1], r.2)) ([], l.drop size)

/-- The sections of a frame: `fuel` bounds their number; each begins with two overhead bytes. -/
def takeSections (n : Nat) : Nat → List Byte → List (List Blk)
  | 0, _ => []
  | fuel + 1, l => if l.isEmpty then [] else
    let r := takeSection n (l.drop 2)
    r.1 :: takeSections n fuel r.2

/-- The scrambler's contribution to the next byte, from the last 58 bits sent, the newest in bit 0: 1 + x^39 + x^58 (R198). -/
def scrMask (st : Nat) : Byte := BitVec.ofNat 8 (st / 2 ^ 31) ^^^ BitVec.ofNat 8 (st / 2 ^ 50)

/-- Scramble bytes, most significant bit first, and the state that follows. -/
def scramble : Nat → List Byte → List Byte × Nat
  | st, [] => ([], st)
  | st, b :: t =>
    let o := b ^^^ scrMask st
    let r := scramble ((st * 256 + o.toNat) % 2 ^ 58) t
    (o :: r.1, r.2)

/-- Descramble bytes: the state is that of the received bits. -/
def descramble : Nat → List Byte → List Byte
  | _, [] => []
  | st, b :: t => (b ^^^ scrMask st) :: descramble ((st * 256 + b.toNat) % 2 ^ 58) t

/-- The frame word of a mate frame. -/
def mateWord : List Byte := [0x1B, 0xD4, 0x2E, 0xC7, 0x93, 0x6A, 0xF0, 0x55]

/-- The key of a received mate block: grid period in which the ingress port takes it, mate lane and slot index. -/
def mateKey (g j i : Nat) : Nat := 512 * g + 32 * j + i

/-! ### Roles (R201, R207) -/

/-- Show the role; a change raises its source and writes a record. -/
def State.setRole (s : State) (r : Nat) : State :=
  if s.get MATE_ST_role = r then s else (s.set MATE_ST_role r).report kMATE_ROLE [(1, r)]

/-- The squelch of an isolated device lifts once it is ACTIVE, or STANDBY with sync 1. -/
def State.liftIso (s : State) : State :=
  let r := s.get MATE_ST_role
  if s.mate.sqIso && (r == 1 || (r == 2 && s.on MATE_ST_sync)) then
    ({ s with mate := { s.mate with sqIso := false } } : State).showSquelchAll
  else s

/-- A standby whose mate reports another image digest has sync 0 and writes one record (R202). -/
def State.digestOk (s : State) : Bool := s.get MATE_PEER_digest == s.get CP_IMG_DIGEST_digest 0

/-- MATE_ST.sync: the last generation committed within PROTECTION.mate_gen grid multiframes (R202, R204). -/
def State.showSync (s : State) : State :=
  let paired := s.get MATE_ST_mode == 1 && (s.get MATE_ST_role == 1 || s.get MATE_ST_role == 2) && !s.on MATE_ST_lost
  let ok := paired && decide (s.get MATE_GEN_age ≤ s.gl PROTECTION_mate_gen) && (s.get MATE_ST_role == 1 || s.digestOk)
  (s.setB MATE_ST_sync ok).liftIso

/-- ROLE_RESOLVE (R201): beats for 8 consecutive boundaries, and the mate's role is known. -/
def effRoleResolve (s : State) : State :=
  if s.get MATE_ST_role ≠ 0 ∨ s.get MATE_ST_mode = 0 ∨ s.mate.beats < 8 ∨ !s.mate.seen then s
  else
    let rank := s.on MATE_ST_rank
    if rank == s.on MATE_ST_mate_rank || s.mate.mMode != s.get MATE_ST_mode then
      if s.mate.cfgRec then s
      else ({ s with mate := { s.mate with cfgRec := true } } : State).report kMATE_CONFIG []
    else
      let split := s.get MATE_ST_mode == 2
      let act := if s.mate.mRole = 1 then split else rank || split
      let s : State := { s with mate := { s.mate with cfgRec := false, full := true, genOpen := 0 } }
      (s.setRole (if act then 1 else 2)).showSync.liftIso
def execRoleResolve (s : State) : Host.Outcome State Fault Refusal := .next (effRoleResolve s.newCycle)

/-- MATE_ROLE with a role argument (R207). -/
def State.cmdMateRole (s : State) (role : Nat) : Reply × State :=
  if role ≠ 1 then ({ status := 2 }, s)
  else if s.get MATE_ST_role ≠ 3 then ({ status := 5 }, s)
  else ({}, (s.setRole 1).liftIso)

/-! ### Reception (R197 to R200) -/

def State.mateLane (s : State) (j : Nat) : MateLane := tget (fun _ => {}) s.mate.lanes j
def State.setMateLane (s : State) (j : Nat) (v : MateLane) : State :=
  { s with mate := { s.mate with lanes := tset (fun _ => {}) s.mate.lanes j v } }

/-- A heartbeat arrives on a mate lane. -/
def State.takeBeat (s : State) (b : BeatIn) : State :=
  let s := (s.set MATE_ST_mate_rank b.rank).set MATE_PEER_digest b.digest
  let bad := s.get MATE_ST_mode == 1 && s.get MATE_ST_role == 2 && !s.digestOk
  let new := bad && !s.mate.imgRec
  let s : State := { s with mate := { s.mate with
    beatLink := true, seen := true, mRole := b.role, mMode := b.mode, mEpoch := b.epoch, mGen := b.gen, imgRec := bad } }
  let s := if new then s.report kMATE_IMAGE_MISMATCH [(4, b.digest)] else s
  s.showSync

/-- The candidates after a frame: each matching position with its run of matches within two bytes of one another (R198). -/
def nearCands (old : List (Nat × Nat)) (found : List Nat) : List (Nat × Nat) :=
  found.map fun p => (p, match old.find? (fun c => decide (c.1 ≤ p + 2) && decide (p ≤ c.1 + 2)) with
    | some c => c.2 + 1 | none => 1)

/-- The hunt for the frame word, or its check (R71 to R73, with N = 2 and M = 4). -/
def MateLane.hunt (m : MateLane) (f : MateFrameIn) : MateLane :=
  if m.inFrame then
    let errs := if f.wordOk then 0 else m.align.errs + 1
    if errs < 4 then { m with align := { m.align with errs := errs } }
    else { m with inFrame := false, align := { n := 2, held := false } }
  else
    let n := if m.align.n = 0 then 2 else m.align.n
    let cands := nearCands m.align.cands (dedup f.found)
    match cands.filter fun x => decide (n ≤ x.2) with
    | [] => { m with align := { m.align with n := n, cands := cands, held := false } }
    | [x] => { m with inFrame := true, align := { n := n, pos := x.1, held := false } }
    | _ => { m with align := { n := min (n + 2) 7, amb := m.align.amb + 1, held := false } }

/-- A message that the mate sends on MBX_13 or MBX_14 (R367, R369); one that finds go set is not taken. -/
def State.mateMsg (s : State) (n : Nat) (l : List Nat) : State :=
  if (n ≠ 13 ∧ n ≠ 14) || s.on MBX_CTL_go n then s
  else (s.setMsg n l).post n

/-- MATE_FRAME_RECEIVED (R197, R198): a mate frame on mate lane `j`. In frame, its blocks wait for the ingress ports, its
heartbeat counts as a beat, and a generation that it completes waits for its commit word. A device with mate_mode 0 ignores
its mate lanes. -/
def effMateFrameReceived (j : Nat) (f : MateFrameIn) (s : State) : State :=
  if 16 ≤ j ∨ s.get LN_STATE_state (128 + j) ≠ 6 ∨ s.get MATE_ST_mode = 0 then s
  else
    let m := (s.mateLane j).hunt f
    let s := s.setMateLane j m
    if !m.inFrame then s
    else
      let g := s.fab.gp
      let secs := takeSections (s.mateSlots j) 1024 (descramble f.seed f.body)
      let blks := (secs.zip (List.range secs.length)).flatMap fun x =>
        (x.1.zip (List.range x.1.length)).map fun y => (mateKey (g + 2 + x.2) j y.2, y.1)
      let s : State := { s with fab := { s.fab with mateIn := blks.foldl (fun t p => tput t p.1 p.2) s.fab.mateIn } }
      let s : State := match f.gen with
        | some x => { s with mate := { s.mate with rx := some x } }
        | none => s
      let s := if f.recFault then s.report kMATE_RECORDER_FAULT [] else s
      let s := forEach f.msgs s fun s x => s.mateMsg x.1 x.2
      match f.beat with
      | some b => s.takeBeat b
      | none => s
def execMateFrameReceived (j : Nat) (f : MateFrameIn) (s : State) : Host.Outcome State Fault Refusal :=
  .next (effMateFrameReceived j f s.newCycle)

/-- MATE_ALIVE_IN_CHANGE (R199): the pin changes level. A device with mate_mode 0 ignores it. -/
def effMateAliveInChange (s : State) : State :=
  if s.get MATE_ST_mode = 0 then s else { s with mate := { s.mate with beatPin := true } }
def execMateAliveInChange (s : State) : Host.Outcome State Fault Refusal := .next (effMateAliveInChange s.newCycle)

/-- GASP_DETECTED (R200): the mate is declared lost at the next boundary. A device with mate_mode 0 ignores it. -/
def effGaspDetected (s : State) : State :=
  if s.get MATE_ST_mode = 0 then s else { s with mate := { s.mate with gasp := true } }
def execGaspDetected (s : State) : Host.Outcome State Fault Refusal := .next (effGaspDetected s.newCycle)

/-! ### Generations (R202 to R204, R176) -/

/-- Nanoseconds of system time. -/
def State.sysNs (s : State) : Nat := s.sysSec * 10 ^ 9 + s.get TMC_NS_ns

/-- The step that a generation names: a loaded step, the system time of its boundary in ns, and its sections. -/
def State.namedStep (s : State) : Option (Nat × Nat × List Section) :=
  match s.chg.ready with
  | some secs =>
    if s.get PLN_STATE_kind = 2 ∧ s.get PLN_STATE_state = 2 then
      some (s.chg.step, s.sysNs + (s.due - s.gmf) * 1048576 / 10, secs)
    else none
  | none => none

/-- The generation that closes now (Table 7-6). The evergreen counters go in full every 64 grid multiframes. -/
def State.mirrorNow (s : State) : Mirror :=
  let keys := fun (l : List Nat) => l.map fun k => (k, s.reg k)
  { gen := (s.get MATE_GEN_gen + 1) % 2 ^ 16
    grps := s.qs.grps
    words := s.regs.filter fun p => decide (0x6000 ≤ p.1) && decide (p.1 < 0xA000)
    sect := s.img
    page := keys [0x5000, 0x5004]
    time := keys [0x60000, 0x60004, 0x6001C]
    hist := if s.on TMC_ST_hist_valid then s.tim.hist else none
    seqs := if s.mate.full ∨ 64 ≤ s.mate.cyc64 then s.evg.wraps.map fun p => (p.1, p.2.seq) else (s.mate.last.map (·.seqs)).getD []
    step := s.namedStep }

/-- Boundaries that a generation of some bytes takes over the control channels of the mate lanes in UP (R197). -/
def State.genTakes (s : State) (bytes : Nat) : Nat := ceilDiv bytes (992 * s.get MATE_ST_lanes_up)

/-- Boundaries for which the open generation stays open: a full one as long as its 12 KiB take, another mate_gen. -/
def State.genNeeds (s : State) : Nat := if s.mate.full then s.genTakes 12288 else s.gl PROTECTION_mate_gen

/-- The active's generation at a boundary: it stays open, commits, or is abandoned for a full one where its changes, of
`bytes` bytes, do not go through within mate_gen grid multiframes (R203, R204). -/
def State.genRow (s : State) (bytes : Nat) : State :=
  if !(s.get MATE_ST_mode == 1 && s.get MATE_ST_role == 1 && !s.on MATE_ST_lost) then s
  else
    let open_ := s.mate.genOpen + 1
    let lanes := s.get MATE_ST_lanes_up
    if (lanes ≠ 0 ∨ s.mate.full) ∧ open_ < s.genNeeds then { s with mate := { s.mate with genOpen := open_ } }
    else if lanes = 0 ∨ (!s.mate.full ∧ s.gl PROTECTION_mate_gen < s.genTakes bytes) then
      let late := decide (s.gl PROTECTION_mate_gen ≤ open_)
      { s with mate := { s.mate with genOpen := if late then 0 else open_, full := s.mate.full || late } }
    else
      let m := s.mirrorNow
      let sent := decide (s.mate.full ∨ 64 ≤ s.mate.cyc64)
      let s : State := { s with mate := { s.mate with
        last := some m, genOpen := 0, full := false, cyc64 := if sent then 0 else s.mate.cyc64 } }
      (s.set MATE_GEN_gen m.gen).set MATE_GEN_age 0

/-- A standby whose own history is not valid takes the mirrored one as its own, and marks it valid (R279). -/
def State.takeHistory (s : State) (h : Option Int) : State :=
  match h with
  | some h =>
    if s.on TMC_ST_hist_valid then s
    else { (s.setI TMC_HIST_hist (h / 65536)).setB TMC_ST_hist_valid true with tim := { s.tim with hist := some h } }
  | none => s

/-- GENERATION_COMMIT_RECEIVED (R203): a commit word arrives at a standby. The generation held in MB7 is applied when it
is complete with a good CRC, else discarded. -/
def effGenerationCommitReceived (crcOk : Bool) (s : State) : State :=
  if s.get MATE_ST_mode ≠ 1 ∨ s.get MATE_ST_role ≠ 2 then s
  else
    let rx := s.mate.rx
    let s : State := { s with mate := { s.mate with rx := none } }
    match rx with
    | none => s
    | some m =>
      if !crcOk then s
      else
        let moved := decide ((s.mate.last.map (·.seqs)) ≠ some m.seqs)
        let s : State := { s with mate := { s.mate with last := some m, cyc64 := if moved then 0 else s.mate.cyc64 } }
        (((s.set MATE_GEN_gen m.gen).set MATE_GEN_age 0).takeHistory m.hist).showSync
def execGenerationCommitReceived (crcOk : Bool) (s : State) : Host.Outcome State Fault Refusal :=
  .next (effGenerationCommitReceived crcOk s.newCycle)

/-- The sections of a list that differ from those in force, by instance and digest. -/
def State.newSections (s : State) (l : List Section) : List Section :=
  l.filter fun x => match sectionOf s.img x.sec with
    | some y => y.inst != x.inst || y.digest != x.digest
    | none => true

/-- A standby puts in force what the active has committed: a named step whose boundary time has come, and sections that
the active holds in force. -/
def State.followActive (s : State) : State :=
  match s.mate.last with
  | none => s
  | some m =>
    let (m, s) := match m.step with
      | some (k, t, secs) =>
        if s.sysNs < t then (m, s)
        else
          let s := (s.takeEffect secs).set PLN_STATE_step k
          let m : Mirror := { m with step := none, sect := s.img }
          (m, { s with mate := { s.mate with last := some m, did := some (m.planId, k) } })
      | none => (m, s)
    let new := s.newSections m.sect
    if new.isEmpty then s else s.takeEffect new

/-- A standby's part of row 1. -/
def State.standbyRow (s : State) : State :=
  if s.get MATE_ST_mode = 1 ∧ s.get MATE_ST_role = 2 then s.followActive else s

/-! ### Loss, takeover, isolation (R199, R205 to R208) -/

/-- Registers with keys from `a` up to below `b` take mirrored values. -/
def State.putWords (s : State) (a b : Nat) (l : List (Nat × Word)) : State :=
  forEach l s fun s p => if a ≤ p.1 ∧ p.1 < b then s.setReg p.1 p.2 else s

/-- A plan that ran on the lost active halts with cause TAKEOVER (R176). A step of the same plan that this device has put in
force counts as having taken effect. -/
def State.takePlan (s : State) (page : List (Nat × Word)) : State :=
  match page.find? fun p => p.1 == 0x5000 with
  | none => s
  | some w =>
    let st := bitsOf w.2 19 17
    if bitsOf w.2 21 20 = 2 ∧ (st = 1 ∨ st = 2) then
      let id := (Mirror.planId { page := page })
      let own := match s.mate.did with | some x => if x.1 = id then x.2 else 0 | none => 0
      let step := max own (bitsOf w.2 15 8)
      let s := (s.putWords 0x5000 0x5008 page).set PLN_STATE_step step
      ({ s with chg := { s.chg with step := step + 1 } } : State).stopChange 10 0 0
    else s

/-- The standby becomes ACTIVE with the state of the last committed generation. Its time core goes on in its current state
(R279; DEDUCED against Table 7-6, log entry 213). -/
def State.takeOver (s : State) : State :=
  let s := match s.mate.last with
   | none => s
   | some m =>
    let s := s.followActive
    let s : State := { s with qs := { s.qs with grps := m.grps } }
    let s := (s.resetRange 0x6000 0xA000).putWords 0x6000 0xA000 m.words
    let adv := 64 * s.mate.cyc64
    let s := forEach m.seqs s fun s p => s.setEvgWrap p.1 { s.evgWrap p.1 with seq := (p.2 + adv) % 2 ^ 32 }
    s.takePlan m.page
  let s := (s.incW MATE_CNT_takeovers).jumpWraps
  let s := s.report kMATE_TAKEOVER [(2, s.get MATE_GEN_gen)]
  (s.setRole 1).liftIso

/-- The device isolates: its line transmitters are squelched. -/
def State.isolate (s : State) : State :=
  let s := s.setRole 3
  ({ s with mate := { s.mate with sqIso := true, beats := 0 } } : State).showSquelchAll

/-- MATE_LOST: the loss that the boundary found is declared. -/
def effMateLost (s : State) : State :=
  if !s.mate.lostDue then s
  else
    let gasp := s.mate.byGasp
    let s : State := { s with mate := { s.mate with lostDue := false, flashHeld := s.flashFree } }
    let s := (s.setB MATE_ST_lost true).inc MATE_CNT_losses
    let high := s.on MATE_ST_rank || gasp
    let s :=
      if s.get MATE_ST_mode = 1 ∧ s.get MATE_ST_role = 2 then (if high then s.takeOver else s.isolate)
      else if s.get MATE_ST_mode = 1 ∧ s.get MATE_ST_role = 1 then (if high then s else s.isolate)
      else s
    s.showSync.showFlashOwn.settle
def execMateLost (s : State) : Host.Outcome State Fault Refusal := .next (effMateLost s.newCycle)

/-- FLASH_SEIZE (R209): 50 ms after the declaration the survivor takes the flash. -/
def effFlashSeize (s : State) : State :=
  if !s.on MATE_ST_lost || s.on MATE_ST_flash_seized || s.get MATE_ST_role == 3 then s
  else ((s.setB MATE_ST_flash_seized true).report kFLASH_SEIZED []).showFlashOwn
def execFlashSeize (s : State) : Host.Outcome State Fault Refusal := .next (effFlashSeize s.newCycle)

/-! ### Row 5 of Table 1-4 -/

/-- The heartbeat that the device sends (R197). -/
def State.beatNow (s : State) : BeatIn :=
  { rank := s.get MATE_ST_rank, mode := s.get MATE_ST_mode, role := s.get MATE_ST_role, epoch := s.get CP_BOOT_EPOCH_epoch
    digest := s.get CP_IMG_DIGEST_digest 0, gen := s.get MATE_GEN_gen }

/-- The heartbeat goes into the overhead stream of every mate lane in UP, with a control channel whose layout the spec does
not give (a free value). -/
def State.sendBeat (s : State) : State :=
  let b := s.beatNow
  let v := (Config.beat b.rank b.mode b.role b.epoch b.digest b.gen).toNat
  let s : State := { s with mate := { s.mate with beat := some b } }
  forEach (List.range 16) s fun s j =>
    if s.get LN_STATE_state (128 + j) ≠ 6 then s
    else
      let (ctl, s) := s.draw
      s.setMateLane j { s.mateLane j with ovh := v + 2 ^ 192 * (ctl % 2 ^ 7936) }

/-- Row 5: MATE_ALIVE_OUT toggles, the heartbeat is sent, the beats since the last boundary are counted, a loss is found, and the generation of
the active advances (R199 to R204). -/
def State.mateRow (s : State) (genBytes : Nat) : State :=
  let m := s.mate
  let s : State := { s with mate := { m with aliveOut := m.aliveOut != !m.gaspOut, beatLink := false, beatPin := false } }
  let s := s.sendBeat
  if s.get MATE_ST_mode = 0 then s
  else
    let beat := m.beatLink || m.beatPin
    let s := (s.setB MATE_ST_link_ok m.beatLink).setB MATE_ST_pin_ok m.beatPin
    let s := if m.beatLink then s else s.inc MATE_MISS_link_miss
    let s := if m.beatPin then s else s.inc MATE_MISS_pin_miss
    let missed := if beat then 0 else min (s.get MATE_ST_missed + 1) 15
    let s := s.set MATE_ST_missed missed
    let one := m.beatLink != m.beatPin
    let run := if one then min (m.runOne + 1) 8 else 0
    let s := if run = 8 ∧ m.runOne = 7 then s.report kMATE_PATH_DEGRADED [(1, b2n m.beatLink)] else s
    let beats := if beat then min (m.beats + 1) 8 else 0
    let s : State := { s with mate := { s.mate with
      runOne := run, beats := beats, cyc64 := min (m.cyc64 + 1) 65535 } }
    let s := if beat && s.on MATE_ST_lost then
        ((s.setB MATE_ST_lost false).setB MATE_ST_flash_seized false).arbitrate.showFlashOwn.settle else s
    let fall := (missed = 8 ∨ m.gasp) ∧ !s.on MATE_ST_lost
    let s : State := { s with mate := { s.mate with
      gasp := false, lostDue := s.mate.lostDue || decide fall, byGasp := if m.gasp then true else if fall then false else m.byGasp } }
    let s := if s.get MATE_ST_role = 3 ∧ beats = 8 then
        let s := s.setRole 0
        { s with mate := { s.mate with beats := 0, seen := false, cfgRec := false } }
      else s
    let s := s.set MATE_GEN_age (min (s.get MATE_GEN_age + 1) 255)
    (s.genRow genBytes).showSync

end Sys2Proof.Machine
end

