-- ==== Sys2Proof/Machine/Access.lean ====
section
/-!
DEFINITION. Sys2Proof/Machine/Access.lean: reads and writes of the registers by the access codes of Table 0-3 (R5 to R11,
R364), the values that a register computes when it is read, and the commands that are a register access.
-/
namespace Sys2Proof.Machine

/-! ### Values computed on a read -/

/-- LN_ID of a lane: its place, and the LANES fields in force; width reads 0 while the lane is DISABLED. -/
def State.laneId (s : State) (n : Nat) : Nat :=
  let e := s.lane n
  let listed := (entriesOf s.img 2).any fun e => e.idx == n
  n + (n / 4) * 2 ^ 8 + b2n (128 ≤ n) * 2 ^ 14 +
    (if listed then e.n LANES_rate * 2 ^ 16 + e.n LANES_profile * 2 ^ 19 + e.n LANES_format * 2 ^ 22
        + (if s.get LN_STATE_state n = 0 then 0 else e.n LANES_width * 2 ^ 26)
     else 0)

/-- MAP_CTX_CFG and MAP_CTX_SLOTS of a defined context (Table 4-7). -/
def State.ctxCfg (s : State) (e : Entry) : Nat :=
  let k := e.n MAPPING_kind
  let server := match serverOf s.img e with | some v => v.n MAPPING_ctx | none => e.n MAPPING_ctx
  2 ^ 31 + e.n MAPPING_dir * 2 ^ 30 + k * 2 ^ 26 + carriageOf e * 2 ^ 24
    + b2n ((k == 2 || k == 3) && e.b MAPPING_odu_mode) * 2 ^ 18 + server
def State.ctxPlace (s : State) (e : Entry) : Nat :=
  let k := e.n MAPPING_kind
  let g := slotGroup s.img e
  let host := if k = 8 ∨ (k = 7 ∧ e.n MAPPING_dir = 0) then e.n MAPPING_host else 0x1FF
  if k = 8 then e.n MAPPING_twig_first * 2 ^ 20 + e.n MAPPING_twig_n * 2 ^ 11 + host
  else g.head?.getD 0 * 2 ^ 20 + g.length % 512 * 2 ^ 11 + host

/-- A word of a context record: a context that MAPPING does not define reads 0, and the framer words of one without a
FRAMING path read 0 (R97, R115). -/
def State.ctxWord (s : State) (c off : Nat) (w : Word) : Word :=
  match mapOf s.img c with
  | none => 0
  | some e =>
    if off < 0x20 then (if (s.path c).isSome then w else 0)
    else if off = 0x20 then BitVec.ofNat 32 (s.ctxCfg e)
    else if off = 0x24 then BitVec.ofNat 32 (s.ctxPlace e)
    else w

/-- A register of the selected context's tag checker (R256): a checker context, or a twig circuit; any other context
reads 0. PIT_CTX_ST shows whether it is checked, and the ID that a path checker expects (R238, R240, R244). -/
def State.tagWord (s : State) (c off : Nat) (w : Word) : Word :=
  match mapOf s.img c with
  | none => 0
  | some e =>
    let path := s.isChecker e
    let twig := e.n MAPPING_kind == 8 && e.n MAPPING_dir == 0
    if !path && !twig then 0
    else if off != 0 then w
    else
      let on := if path then s.gl INTEGRITY_pit_en == 1 else s.gl INTEGRITY_twig_en == 1
      withBits (withBits w 31 31 (b2n on)) 17 0 (if path then (s.expectedCtx e).getD 0 else 0)

/-- A word of the selected merge: 0 for a merge that EVERGREEN does not define. -/
def State.mergeWord (s : State) (m off : Nat) (w : Word) : Word :=
  match s.entry EVERGREEN_merge m with
  | none => 0
  | some e => if off = 0 then withBits w 31 30 (2 + e.n EVERGREEN_m_grain) else w

/-- Registers of the event recorder window that the recorder's state gives (Table 15-9). -/
def State.evrWord (s : State) (sec : Bool) (k : Nat) (w : Word) : Word :=
  let newest := if s.rcd.nextSeq = 0 then 0 else s.rcd.nextSeq - 1
  let oldest := match minRec s.heldRecs with | some r => r.seq | none => 0
  if k = 0x30000 then
    withBits (withBits w 29 28 (2 * b2n s.ringOk + b2n s.boot.sfdpOk)) 12 0 s.rcd.mb3.length
  else if k = 0x30004 then BitVec.ofNat 32 newest
  else if k = 0x30008 then BitVec.ofNat 32 (newest / 2 ^ 32)
  else if k = 0x3000C then BitVec.ofNat 32 oldest
  else if k = 0x30010 then BitVec.ofNat 32 (oldest / 2 ^ 32)
  else if k = 0x30014 then withBits w 6 0 s.rcd.hold.length
  else if k = 0x30018 then withBits w 6 0 s.rcd.flashBuf.length
  else if 0x30100 ≤ k ∧ k < 0x30210 then
    match (if s.get EVR_CUR_ST_state = 0 then s.recAt s.cur else none) with
    | some r => BitVec.ofNat 32 (leNat (((r.bytes sec).drop (k - 0x30100)).take 4))
    | none => 0
  else if 0x30400 ≤ k ∧ k < 0x30450 ∧ (k - 0x30400) % 0x10 = 0 then
    let q := (k - 0x30400) / 0x10
    let h := s.hqSt q
    let n := if q = 4 then h.pm.length else h.recs.length
    BitVec.ofNat 32 (b2n (s.on HQ_CTL_flush q) * 2 ^ 31 + b2n (32 < n) * 2 ^ 30 + n)
  else w

/-- Interrupt registers (Table 15-11), as a reader of a world sees them (R398). -/
def State.irqWord (s : State) (sec : Bool) (k : Nat) : Word :=
  let see := fun g v => if sec then v else v &&& (0xFFFFFFFF ^^^ secureMask g)
  if k < 0x20100 then
    let g := (k - 0x20000) / 0x10
    BitVec.ofNat 32 (see g (match (k - 0x20000) % 0x10 with
      | 0 => s.rawLevel g | 4 => s.stk g | 8 => s.irqEn g | _ => s.irqPend g))
  else if k = 0x20100 then BitVec.ofNat 32 (ofBits ((List.range 16).map fun g => see g (s.irqPend g) != 0))
  else BitVec.ofNat 32 (ofBits ((List.range 8).map s.intN) + 256 * b2n s.faultN)

/-- Direction and world of a channel (Table 14-3). -/
def chanDir (n : Nat) : Nat := if n < 12 then n % 2 else if n = 12 ∨ n = 15 then 2 else 3

/-- The value that a read of the register at a key returns, to a reader of a world. -/
def State.shown (s : State) (sec : Bool) (k : Nat) : Word :=
  let w := s.reg k
  if k = 0xA008 then
    let l := s.entries PROTECTION_grp
    BitVec.ofNat 32 (l.length + (l.filter fun e => s.on QS_GRP_ST_sel (e.n PROTECTION_grp)).length * 2 ^ 16)
  else if k = 0xB000 then
    BitVec.ofNat 32 ((s.entries EVERGREEN_wrap).length + (s.entries EVERGREEN_merge).length * 2 ^ 16)
  else if k = 0xB004 then BitVec.ofNat 32 (ceilDiv (1600000 * ddrShare (s.get DC_ST_chan) (s.get DC_ST_rate)) 70400)
  else if k = 0x11000 then
    let see := fun n => sec || decide (n < 8)
    BitVec.ofNat 32 (ofBits ((List.range 16).map fun n => see n && s.on MBX_ST_sender_rst n)
      + 2 ^ 16 * ofBits ((List.range 16).map fun n => see n && s.on MBX_CTL_go n))
  else if 0x20000 ≤ k ∧ k < 0x20108 then s.irqWord sec k
  else if 0x30000 ≤ k ∧ k < 0x40000 then s.evrWord sec k w
  else if 0x40000 ≤ k ∧ k < 0x40800 then
    let n := (k - 0x40000) / 0x20
    let v := tget (fun _ => 0) s.perf.val n
    let p := tget (fun _ => 0) s.perf.snap n
    match (k - 0x40000) % 0x20 with
    | 4 => BitVec.ofNat 32 v | 8 => BitVec.ofNat 32 (v / 2 ^ 32)
    | 0xC => BitVec.ofNat 32 p | 0x10 => BitVec.ofNat 32 (p / 2 ^ 32)
    | _ => w
  else if 0x80000 ≤ k ∧ k < 0x89000 then
    let n := (k - 0x80000) / 0x100
    match (k - 0x80000) % 0x100 with
    | 0 => BitVec.ofNat 32 (s.laneId n)
    | 0x38 => BitVec.ofInt 32 (s.ballOf n false + s.ballOf n true * 2 ^ 16)
    | 0x1C => 0
    | _ => w
  else if 0x100000000 ≤ k ∧ k < 0x200000000 then s.ctxWord ((k - 0x100000000) / 0x40) (k % 0x40) w
  else if 0x200000000 ≤ k ∧ k < 0x300000000 then s.mergeWord ((k - 0x200000000) / 0x40) (k % 0x40) w
  else if 0x300000000 ≤ k then s.tagWord ((k - 0x300000000) / 0x40) (k % 0x40) w
  else match chanOf k, cvuAt k with
    | some n, _ => if k % 0x100 = 0x44 then withBits w 15 13 (chanDir n * 2 + b2n (8 ≤ n)) else w
    | none, some u => if k % 0x40 = 0 then withBits w 21 20 (s.cvuOwner u) else w
    | none, none => w

/-! ### 64-bit quantities (R11, R60, R282, R306) -/

/-- The registers that a read of the register at a key latches. -/
def latchedBy (k : Nat) : List Nat :=
  if k = 0x60008 then [0x6000C, 0x60010, 0x60014]
  else if k = 0x61304 then [0x61308, 0x6130C]
  else if 0x80000 ≤ k ∧ k < 0x89000 then
    match k % 0x100 with | 0x40 => [k + 4, k + 8] | 0x10 | 0x18 => [k + 4] | _ => []
  else if [0x4, 0x4010, 0x5008, 0xD034, 0x30004, 0x3000C, 0x30088, 0x30090].contains k then [k + 4]
  else if 0x40000 ≤ k ∧ k < 0x40800 then (match k % 0x20 with | 4 | 0xC => [k + 4] | _ => [])
  else if (cvuAt k).isSome then (match k % 0x40 with | 0x8 | 0x18 | 0x20 | 0x28 => [k + 4] | _ => [])
  else if 0x11000410 ≤ k ∧ k < 0x11000490 ∧ k % 0x10 = 8 then [k + 4]
  else if 0x300000000 ≤ k ∧ k % 0x40 = 0xC then [k + 4]
  else []

/-- The low word of a 64-bit RW quantity whose high word lies at a key. -/
def lowOf (k : Nat) : Option Nat :=
  if k = 0x3008C then some (k - 4)
  else if (cvuAt k).isSome ∧ (k % 0x40 = 0xC ∨ k % 0x40 = 0x1C ∨ k % 0x40 = 0x24) then some (k - 4)
  else none

/-! ### Byte enables -/

/-- The mask of enabled bytes: bit `b` of `be` enables byte `b`. -/
def beMask (be : Nat) : Word :=
  (List.range 4).foldl (fun m b => if bit be b then m ||| maskOf (8 * b + 7) (8 * b) else m) 0

/-- Whether every byte that a field occupies is enabled. -/
def covers (be hi lo : Nat) : Bool := (List.range (hi / 8 + 1)).all fun b => decide (b < lo / 8) || bit be b

/-- Whether the register at a key exists. -/
def isReg (k : Nat) : Bool := (regAt k).isSome

/-- The bits of the register at a key that a field of its map holds: the others are reserved and read 0 (R6). -/
def fieldMask (r : RegDef) : Word := r.fields.foldl (fun m f => m ||| maskOf f.1 f.2.1) 0

/-! ### Reads (R364) -/

/-- What a read leaves of a register: every RC field whose bytes are all enabled is cleared. -/
def readKeeps (r : RegDef) (be : Nat) (w : Word) : Word :=
  r.fields.foldl (fun w f => if f.2.2 = .rc && covers be f.1 f.2.1 then withBits w f.1 f.2.1 0 else w) w

/-- What a read of the register at a key does besides returning its value. -/
def State.readActs (s : State) (r : RegDef) (k be : Nat) : State :=
  let s := if readKeeps r be (s.reg k) = s.reg k then s else s.setReg k (readKeeps r be (s.reg k))
  if k = 0x30084 ∧ bit be 3 = true then s.curStateRead
  else match cvuAt k with
    | some u => if k % 0x40 = 0x2C then s.setB CVU_ST_ready false u else s
    | none =>
      if 0x80000 ≤ k ∧ k < 0x89000 ∧ k % 0x100 = 0x18 ∧ be % 16 = 15 then s.setReg (k + 4) 0 else s

/-- The value of the register at a key, latched words first: a latched high word is returned once, but that of
LN_FEC_CORR stays until the low word is read again. -/
def State.takeLatch (s : State) (sec : Bool) (k : Nat) : Word × State :=
  match s.latch.find? fun p => p.1 == k with
  | some p =>
    if 0x80000 ≤ k ∧ k < 0x89000 ∧ k % 0x100 = 0x1C then (p.2, s)
    else (p.2, { s with latch := s.latch.filter fun q => q.1 != k })
  | none => (s.shown sec k, s)

/-- Latch the high words of the low word at a key. -/
def State.latchHigh (s : State) (sec : Bool) (k : Nat) : State :=
  let hs := latchedBy k
  if hs.isEmpty then s
  else
    let val := fun h => if 0x80000 ≤ h ∧ h < 0x89000 ∧ h % 0x100 = 0x1C then s.reg h else s.shown sec h
    { s with latch := (s.latch.filter fun p => !hs.contains p.1) ++ hs.map fun h => (h, val h) }

/-- A read of the register at a key: the enabled bytes of its value, and what the read does (R5, R11, R364). A key that
holds no register reads 0 (R6); the MSI-X table and PBA are read as they stand (Table 14-1). -/
def State.readKey (s : State) (sec : Bool) (k be : Nat) : Word × State :=
  match regAt k with
  | none =>
    if 0x2F000 ≤ k ∧ k < 0x2F400 then ((if k % 16 = 12 then s.reg k &&& 1 else s.reg k) &&& beMask be, s)
    else if k = 0x2F800 ∨ k = 0x2F804 then
      (BitVec.ofNat 32 (bitsSet ((s.irq.pba.filter fun v => v / 32 == (k - 0x2F800) / 4).map (· % 32))) &&& beMask be, s)
    else (0, s)
  | some (r, _) =>
    let (w, s) := s.takeLatch sec k
    let s := (s.latchHigh sec k).readActs r k be
    (w &&& fieldMask r &&& (r.fields.foldl (fun m f => if f.2.2 = .wo then m &&& ~~~ maskOf f.1 f.2.1 else m) (beMask be)), s)

/-- A read of BAR offset or internal-only register `k` by a source: a refused one returns 0 and counts (R357). `a` is its
internal address. -/
def State.readAs (s : State) (src : Src) (k a be : Nat) : Word × State :=
  let sec := s.secureSrc src k
  if s.secureKey k && !sec then (0, s.violation (srcMaster src) a false) else s.readKey sec k be

/-- A read of a BAR offset within one register. -/
def State.readBar (s : State) (src : Src) (off be : Nat) : Word × State :=
  let off := off / 4 * 4
  s.readAs src (s.barKey off) (0x10000000 + off) be

/-! ### Writes -/

/-- A field's bits after a write of `data` with byte mask `m`, by its access code. -/
def writeField (sec : Bool) (m data : Word) (w : Word) (f : Nat × Nat × Acc) : Word :=
  let fm := maskOf f.1 f.2.1
  match f.2.2 with
  | .rw => (w &&& ~~~ (fm &&& m)) ||| (data &&& (fm &&& m))
  | .srw => if sec then (w &&& ~~~ (fm &&& m)) ||| (data &&& (fm &&& m)) else w
  | .w1c => w &&& ~~~ (data &&& (fm &&& m))
  | .w1s => w ||| (data &&& (fm &&& m))
  | .ro | .rc | .wo => w

/-- A register after a write: disabled bytes count as zeros for W1C and W1S fields, and leave RW fields as they are. -/
def written (sec : Bool) (r : RegDef) (be : Nat) (data w : Word) : Word :=
  r.fields.foldl (writeField sec (beMask be) data) w

/-- Whether a channel is a command channel: its sender posts on it (Table 14-3). -/
def isCommand (n : Nat) : Bool := n % 2 == 0

/-- An abort of a command channel (R371). -/
def State.abortChan (s : State) (n : Nat) : State :=
  if s.on MBX_CTL_go n then (s.setB MBX_CTL_go false n).setB MBX_ST_aborted true n else s.setB MBX_ST_abort_late true n

/-- A write to a mailbox register (R369, R371). The host only reads the channels of the mate link (R367), and a tamper
input that stays asserted holds the secure channels wiped (R332). -/
def State.writeChan (s : State) (host : Bool) (n off be : Nat) (data : Word) : State :=
  if (host && decide (12 ≤ n)) || (decide (8 ≤ n) && decide (n < 12) && s.tamperHeld) then s
  else if off < 0x40 then
    if !isCommand n then s
    else if s.on MBX_CTL_go n then s.setB MBX_ST_wr_busy true n
    else
      let k := 0x10000 + 0x100 * n + off
      s.setReg k ((s.reg k &&& ~~~ beMask be) ||| (data &&& beMask be))
  else if off = 0x40 then
    let d := (data &&& beMask be).toNat
    if isCommand n then
      let s := if bit d 0 then s.post n else s
      if bit d 1 then s.abortChan n else s
    else if bit d 0 then s.setB MBX_CTL_go false n
    else s
  else
    let k := 0x10000 + 0x100 * n + off
    match regAt k with
    | some (r, _) => s.setReg k (written false r be data (s.reg k))
    | none => s

/-- A secure write of MB_OWNER requests a hand-over and sets the share mask at once (R351, Table 13-7). -/
def State.writeOwner (s : State) (n be : Nat) (data : Word) : State :=
  let k := 0xD10C + 0x10 * n
  let w := match regAt k with | some (r, _) => written true r be data (s.reg k) | none => s.reg k
  let s := s.setReg k w
  let s := s.set MB_ST_share (bitsOf w 11 4) n
  if !covers be 3 0 then s
  else
    let s := s.setB MB_ST_pending true n
    { s with bus := { s.bus with newOwn := tput s.bus.newOwn n (bitsOf w 3 0) } }

/-- A write of the high word of a 64-bit RW quantity puts the whole quantity in force (R11). -/
def State.commit (s : State) (lo hi : Nat) (r : RegDef) (be : Nat) (data : Word) : State :=
  let low := match s.stage.find? fun p => p.1 == lo with | some p => p.2 | none => s.reg lo
  let high := written true r be data (s.reg hi)
  let s := (({ s with stage := s.stage.filter fun p => p.1 != lo } : State).setReg lo low).setReg hi high
  if lo = 0x30088 then s.curSeek (low.toNat + 2 ^ 32 * high.toNat) else s

/-- A low word written waits for its high word. -/
def State.stageLow (s : State) (k be : Nat) (data : Word) : State :=
  let old := match s.stage.find? fun p => p.1 == k with | some p => p.2 | none => s.reg k
  { s with stage := (s.stage.filter fun p => p.1 != k) ++ [(k, (old &&& ~~~ beMask be) ||| (data &&& beMask be))] }

/-- Whether a field of a CVU register may be written: those of Table 9-8 that the image sets are RO under owner 0, and
CVU_CTL.src and CVU_SEL are held while enable is 1 (R246, R247). -/
def State.cvuWritable (s : State) (u k hi : Nat) : Bool :=
  let off := k % 0x40
  let image := s.cvuOwner u == 0 && (decide (off < 0x18) || off == 0x20 || off == 0x24)
  let held := s.on CVU_CTL_enable u && (off == 4 || (off == 0 && hi == 27))
  !image && !held

/-- A vector that is not masked sends the message that its PBA bit stands for (R399, the PCIe rules). -/
def State.unmasked (s : State) (v : Nat) : State :=
  if s.msixMasked v || !s.irq.pba.contains v || !s.msixReady then s
  else ({ s with irq := { s.irq with pba := s.irq.pba.filter (· != v) } } : State).sendMsix v

/-- A write of the register at a key by an access of a world (R5, R6, R11). -/
def State.writeKey (s : State) (host sec : Bool) (master k be : Nat) (data : Word) : State :=
  match regAt k with
  | none =>
    if 0x2F000 ≤ k ∧ k < 0x2F400 then
      let w := (s.reg k &&& ~~~ beMask be) ||| (data &&& beMask be)
      (s.setReg k (if k % 16 = 12 then w &&& 1 else w)).unmasked ((k - 0x2F000) / 16)
    else s
  | some (r, n) =>
    let d := (data &&& beMask be).toNat
    if k = 0x30080 then s.curCommand d
    else if k = 0x40800 then s.pcCtl (bit d 0) (bit d 1)
    else if 0x30400 ≤ k ∧ k < 0x30450 ∧ k % 0x10 = 4 then (if bit d 0 then s.flushReq n else s)
    else if 0x20000 ≤ k ∧ k < 0x20100 then
      let keep := if sec then 0 else secureMask n
      if k % 0x10 = 4 then s.stkClear n d sec
      else if k % 0x10 = 8 then
        let old := s.irqEn n
        let new := (((BitVec.ofNat 32 old &&& ~~~ beMask be) ||| (data &&& beMask be)).toNat &&& (0xFFFFFFFF ^^^ keep)) ||| (old &&& keep)
        let rise := s.stk n &&& new &&& (0xFFFFFFFF ^^^ old)
        let s : State := { s with irq := { s.irq with en := tset (fun _ => 0) s.irq.en n new } }
        forEach ((List.range 32).filter fun b => bit rise b) s fun s b => s.sendMsix (s.vectorOf (32 * n + b))
      else s
    else match chanOf k with
      | some c => s.writeChan host c (k % 0x100) be data
      | none => match ownerAt k with
        | some b => if sec then s.writeOwner b be data else s
        | none => match pcSelAt k with
          | some c =>
            if s.gl RECORDS_pc_owner = 0 then s
            else
              let s := s.setReg k (written sec r be data (s.reg k))
              s.setB PC_SEL_denied (s.pcDenied c) c
          | none =>
            if k = 0x30088 ∨ ((cvuAt k).isSome ∧ (k % 0x40 = 8 ∨ k % 0x40 = 0x18 ∨ k % 0x40 = 0x20)) then
              (match cvuAt k with
               | some u => if s.cvuWritable u k 31 then s.stageLow k be data else s
               | none => s.stageLow k be data)
            else match lowOf k, cvuAt k with
              | some lo, some u =>
                if s.cvuWritable u k 31 then (s.commit lo k r be data).cvuCheck u master else s
              | some lo, none => s.commit lo k r be data
              | none, some u =>
                let r' : RegDef := { r with fields := r.fields.filter fun f => s.cvuWritable u k f.1 }
                (s.setReg k (written sec r' be data (s.reg k))).cvuCheck u master
              | none, none => s.setReg k (written sec r be data (s.reg k))

/-- A register write that is carried out passes the bus matrix, where the units of source 5 absorb its enabled bytes
(R247). -/
def State.cvuWord (s : State) (m a be : Nat) (data : Word) : State :=
  s.cvuBus m a ((List.range 4).map fun i => if bit be i then some (BitVec.ofNat 8 (data.toNat / 256 ^ i)) else none)

/-- A write of the register at key `k` and internal address `a` by a source; a refused one is ignored and counts. -/
def State.writeAs (s : State) (src : Src) (k a be : Nat) (data : Word) : State :=
  let sec := s.secureSrc src k
  if s.secureKey k && !sec then s.violation (srcMaster src) a true
  else (s.writeKey (srcMaster src == 2) sec (srcMaster src) k be data).cvuWord (srcMaster src) a be data

/-- A write of a BAR offset within one register. -/
def State.writeBar (s : State) (src : Src) (off be : Nat) (data : Word) : State :=
  let off := off / 4 * 4
  s.writeAs src (s.barKey off) (0x10000000 + off) be data

/-- The words that a command's reads return. -/
def State.showWords (s : State) (l : List Word) : State := { s with out := { s.out with rdata := s.out.rdata ++ l } }

/-! ### The commands -/

/-- A read within one register, which shows its word. -/
def State.readShown (s : State) (src : Src) (off be : Nat) : State :=
  let (w, s) := s.readBar src off be
  s.showWords [w]

/-- REGISTER_WRITE (R5, R364): a write of 1 to 4 bytes within one register; a poisoned write is dropped and counted. -/
def effRegisterWrite (src : Src) (off be : Nat) (data : Word) (poisoned : Bool) (s : State) : State :=
  if poisoned then s.inc MBX_HOSTERR_poisoned else s.writeBar src off be data
def execRegisterWrite (src : Src) (off be : Nat) (data : Word) (poisoned : Bool) (s : State) : Host.Outcome State Fault Refusal :=
  .next (effRegisterWrite src off be data poisoned s.newCycle)

/-- REGISTER_READ_CLEAR (R364). -/
def execRegisterReadClear (src : Src) (off be : Nat) (s : State) : Host.Outcome State Fault Refusal :=
  .next (s.newCycle.readShown src off be)

/-- LOW_WORD_READ (R11): a read of a low word, which latches the high word. -/
def execLowWordRead (src : Src) (off : Nat) (s : State) : Host.Outcome State Fault Refusal :=
  .next (s.newCycle.readShown src off 15)

/-- HIGH_WORD_WRITE (R11). -/
def execHighWordWrite (src : Src) (off : Nat) (data : Word) (s : State) : Host.Outcome State Fault Refusal :=
  .next (s.newCycle.writeBar src off 15 data)

/-- LN_TS_SEC_READ (R60) of a lane. -/
def execLnTsSecRead (src : Src) (n : Nat) (s : State) : Host.Outcome State Fault Refusal :=
  .next (s.newCycle.readShown src (0x80040 + 0x100 * (n % 144)) 15)

/-- TMC_SEC_LO_READ (R282). -/
def execTmcSecLoRead (src : Src) (s : State) : Host.Outcome State Fault Refusal := .next (s.newCycle.readShown src 0x60008 15)

/-- RTC_SEC_LO_READ (R306). -/
def execRtcSecLoRead (src : Src) (s : State) : Host.Outcome State Fault Refusal := .next (s.newCycle.readShown src 0x61304 15)

/-- CVU_VAL_WRITE (R250): a write of CVU_VAL or CVU_CNT takes effect before the bytes of the same cycle. A window that
closes in the cycle of a write of CVU_VAL takes its result from the value before the write: one that closes at its
boundary (`closes`), and one of CVU_LEN bytes that the bytes of the cycle complete. `off` is the register: 0x18, 0x1C or
0x30; it is the high word that puts CVU_VAL in force (R11). -/
def effCvuValWrite (src : Src) (u off be : Nat) (data : Word) (closes : Bool) (bytes : List Byte) (s : State) : State :=
  let u := u % 64
  let off := if off = 0x18 ∨ off = 0x1C then off else 0x30
  let takes := fun (s : State) => s.on CVU_CTL_enable u && !s.cvuRefused u
  let len := s.get CVU_LEN_len u
  let full := off == 0x1C && takes s && s.get CVU_CTL_win u == 3 && len != 0 && decide (len ≤ s.get CVU_CNT_cnt u + bytes.length)
  let s := if full then s.cvuClose u else if closes then effCvuWindowClose u s else s
  let s := s.writeBar src (0x50000 + 0x40 * u + off) be data
  if takes s then s.cvuFeed u bytes else s
def execCvuValWrite (src : Src) (u off be : Nat) (data : Word) (closes : Bool) (bytes : List Byte) (s : State) :
    Host.Outcome State Fault Refusal :=
  .next (effCvuValWrite src u off be data closes bytes s.newCycle)

/-- CVU_RES_HI_READ (R249): the read returns the result's high word and clears ready. -/
def execCvuResHiRead (src : Src) (u : Nat) (s : State) : Host.Outcome State Fault Refusal :=
  .next (s.newCycle.readShown src (0x5002C + 0x40 * (u % 64)) 15)

end Sys2Proof.Machine
end

