-- ==== Sys2Proof/Machine/Cycle.lean ====
section
/-!
DEFINITION. Sys2Proof/Machine/Cycle.lean: how the commands of one CLK_CTL cycle are queued (R8, R9, R367).
-/
namespace Sys2Proof.Machine

/-- Whether the register at a key holds a W1S field. -/
def setsBits (k : Nat) : Bool :=
  match regAt k with
  | some (r, _) => r.fields.any fun f => f.2.2 == .w1s
  | none => false

/-- Whether a register write is one of those that follow the hardware events of its cycle: a write of a register with W1S
fields (R8), or of a message word of a command channel, whose PCIe writes come before its SMBus writes (R367). On a reply
channel MBX_CTL.go is W1C. -/
def lateWrite (k : Nat) : Bool :=
  match chanOf k with
  | some n => isCommand n && decide (k % 0x100 ≤ 0x40)
  | none => setsBits k

/-- The place of a command in its CLK_CTL cycle. Reads and the writes that clear come first, so that a hardware set in the
cycle wins (R8) and a counter that counts in it holds 1 after an RC read (R9); then what the hardware does; then the writes
that set. A path other than SMBus comes before SMBus (R367). -/
def State.cyclePlace (s : State) : Instr → Nat
  | .registerWrite src off _ _ _ | .highWordWrite src off _ =>
    (if lateWrite (s.barKey (off / 4 * 4)) then 3 else 0) + b2n (src == .smbus)
  | .registerReadClear src _ _ | .lowWordRead src _ | .lnTsSecRead src _ | .tmcSecLoRead src | .rtcSecLoRead src => b2n (src == .smbus)
  | .busAccess reqs =>
    if reqs.any fun q => q.write && decide (0x10000000 ≤ q.addr) && (List.range (q.len / 4 + 1)).any fun i =>
        lateWrite (s.barKey ((q.addr - 0x10000000) / 4 * 4 + 4 * i)) then 3 else 0
  | _ => 2

/-- The commands of one CLK_CTL cycle in the order in which they take effect. -/
def State.cycleOrder (s : State) (l : List Instr) : List Instr :=
  (List.range 5).flatMap fun p => l.filter fun c => s.cyclePlace c == p

/-- The commands of one CLK_CTL cycle join the queue. -/
def State.queueCycle (s : State) (l : List Instr) : State := { s with pending := s.pending ++ s.cycleOrder l }

end Sys2Proof.Machine
end

