-- ==== Sys2Proof/Machine/Bus.lean ====
section
/-!
DEFINITION. Sys2Proof/Machine/Bus.lean: the bus matrix (R344 to R349), bank ownership and power (R350 to R355), and the
commands of chapter 13 that act on them.
-/
namespace Sys2Proof.Machine

/-! ### Bytes behind the targets -/

/-- A byte of a bank, the extension area's backing or DDR5, by internal address. -/
def State.memByte (s : State) (a : Nat) : Byte := tget (fun _ => 0) s.mem a

/-- Write a byte by internal address. -/
def State.putByte (s : State) (a : Nat) (b : Byte) : State := { s with mem := tset (fun _ => 0) s.mem a b }

/-- A byte of the ROM: a patched line returns its replacement bytes (R340). -/
def State.romByte (s : State) (a : Nat) : Byte :=
  match s.bus.patch.find? fun e => e.kind == 1 && e.n PATCH_pp_line == a / 32 with
  | some e => BitVec.ofNat 8 (e.n PATCH_pp_data / 2 ^ (8 * (a % 32)))
  | none => Config.rom a

/-- A byte of the patch extension area: the extension blocks in force, else 0. -/
def State.extByte (s : State) (a : Nat) : Byte :=
  match s.bus.patch.find? fun e => e.kind == 2 && e.n PATCH_ext_off == a / 64 with
  | some e => BitVec.ofNat 8 (e.n PATCH_ext_data / 2 ^ (8 * (a % 64)))
  | none => 0

/-- Drop the bytes of a range of internal addresses. -/
def State.dropBytes (s : State) (a n : Nat) : State :=
  { s with mem := s.mem.filter fun p => !(decide (a ≤ p.1) && decide (p.1 < a + n)) }

/-! ### Semaphores and locks -/

/-- A read of semaphore `n` by a master (R349). -/
def State.semTake (s : State) (m n : Nat) : Word × State :=
  let w := s.reg (0x11001000 + 4 * n)
  if s.on BM_SEM_lock n then (w, s)
  else (0, (s.set BM_SEM_holder m n).setB BM_SEM_lock true n)

/-- Whether another master's locked sequence holds a target. -/
def State.lockedOut (s : State) (m target : Nat) : Bool :=
  s.bus.locks.any fun p => p.1 != m && p.2.target == target && !p.2.broken

/-! ### Register windows -/

/-- The 32-bit accesses of a run of bytes, in ascending address: word address, byte enables, data. -/
def wordsOf (a : Nat) (l : List (Option Byte)) : List (Nat × Nat × Word) :=
  let l := List.replicate (a % 4) none ++ l
  ((chunks 4 (l.length) l).zip (List.range l.length)).map fun p =>
    let be := ofBits (p.1.map fun b => b.isSome)
    (a / 4 * 4 + 4 * p.2, be, BitVec.ofNat 32 (leNat (p.1.map fun b => b.getD 0)))

/-- A read of a register of the BAR or of the internal-only windows. -/
def State.readReg (s : State) (src : Src) (a be : Nat) : Word × State :=
  if a < 0x11000000 then s.readBar src (a - 0x10000000) be
  else if 0x11001000 ≤ a ∧ a < 0x11001100 then
    let n := (a - 0x11001000) / 4
    if s.secureKey a && !s.secureSrc src a then (0, s.violation (srcMaster src) a false)
    else s.semTake (srcMaster src) n
  else s.readAs src a a be

/-- A write of CP_WDOG: the processor watchdog is kicked (R339). The time of the kick is kept. -/
def State.kick (s : State) : State := { s with bus := { s.bus with kickAt := s.pwr.up } }

/-- A write of such a register. -/
def State.writeReg (s : State) (src : Src) (a be : Nat) (data : Word) : State :=
  if a < 0x11000000 then s.writeBar src (a - 0x10000000) be data
  else if s.secureKey a && !s.secureSrc src a then s.violation (srcMaster src) a true
  else if a = 0x11000000 then s.kick.cvuWord (srcMaster src) a be data
  else if 0x11001000 ≤ a ∧ a < 0x11001100 then
    (if bit be 0 && !bit data.toNat 0 then s.semFree (srcMaster src) ((a - 0x11001000) / 4) else s).cvuWord (srcMaster src) a be data
  else s.writeAs src a a be data

/-! ### One access -/

/-- A decode error (R343). -/
def State.decodeErr (s : State) (m a : Nat) : State :=
  (s.inc BM_EVT_decode_err).report kDECODE_ERR [(1, m), (5, a)]

/-- Whether a master may use a bank: it owns it or is in its share mask (R350). -/
def State.mayUse (s : State) (m n : Nat) : Bool := s.get MB_ST_owner n == m || bit (s.get MB_ST_share n) (m - 1)

/-- A refusal by a bank: that it is not ON, or that the master neither owns nor shares it (R350, R354). -/
def State.bankRefuse (s : State) (m n a : Nat) (off : Bool) : State :=
  let s := if off then s.inc MB_ACC_off_acc n else s.inc MB_ACC_deny n
  s.report kBANK_DENY [(1, n), (1, m), (5, a)]

/-- What SECDED finds in words read from a bank (R355); an uncorrectable word of MB3 is a recorder fault (R390). -/
def State.bankEcc (s : State) (n corr : Nat) (ue : List Nat) : State :=
  let s := s.inc MB_ECC_corr n corr
  let s := forEach ue s fun s a => (s.inc MB_ECC_uncorr n).report kBANK_ECC [(1, n), (5, a)]
  if n = 3 && !ue.isEmpty then s.recorderFault else s

/-- The performance counters of kinds 3 and 4 count a grant (Table 15-7). -/
def State.countGrant (s : State) (m target : Nat) (write : Bool) (ddr : Option Nat) : State :=
  let way := fun n => bit (s.get PC_SEL_filter n) (b2n write)
  let s := s.count fun n => s.get PC_SEL_kind n == 3 && !bit (s.get PC_SEL_filter n) 2 && way n
    && (s.get PC_SEL_arg n % 16 == 0 || s.get PC_SEL_arg n % 16 == m)
    && (s.get PC_SEL_arg n / 16 % 16 == 15 || s.get PC_SEL_arg n / 16 % 16 == target)
  match ddr with
  | none => s
  | some c => s.count fun n => s.get PC_SEL_kind n == 4 && !bit (s.get PC_SEL_filter n) 2 && way n
      && (s.get PC_SEL_arg n % 16 == 15 || s.get PC_SEL_arg n % 16 == c)

/-- Stalled cycles of a master (R344). -/
def State.stall (s : State) (m target n : Nat) : State :=
  let s := s.inc BM_CONF_conf (m - 1) n
  s.count (fun i => s.get PC_SEL_kind i == 3 && bit (s.get PC_SEL_filter i) 2
    && (s.get PC_SEL_arg i % 16 == 0 || s.get PC_SEL_arg i % 16 == m)
    && (s.get PC_SEL_arg i / 16 % 16 == 15 || s.get PC_SEL_arg i / 16 % 16 == target)) n

/-- The target code of Table 15-7 of a target's range: registers for both register windows; 14 for the ROM. -/
def grantCode (range : Nat) : Nat := if range = 10 then 9 else if 11 ≤ range then 14 else range

/-- The secure entry points of the ROM, from which a non-secure fetch is taken (R338). -/
def entryPoint (a : Nat) : Bool := decide (0x7FF00 ≤ a) && decide (a ≤ 0x7FFF0) && a % 16 == 0

/-- A read of `n` bytes of MB2 at offset `o`: word 0 of the fast part of a defined context holds MAP_CTX_CFG and
MAP_CTX_SLOTS (Table 4-5). The layout of words 1 to 7, whose contents the model holds as structures, is open: they read a free
value (log entries 17 and 36). -/
def State.fastBytes (s : State) (p o n : Nat) : List Byte × State :=
  let (v, s) := s.draw
  let l := leBytes n v
  ((l.zip (List.range n)).map fun x =>
    let a := o + x.2
    match s.mapE (a / 64) with
    | none => s.memByte (p + x.2)
    | some e => if a % 64 < 8 then BitVec.ofNat 8 ((s.ctxCfg e + 2 ^ 32 * s.ctxPlace e) / 256 ^ (a % 64)) else x.1, s)

/-- One beat, already allowed: the bytes it reads and what it does. -/
def State.beat (s : State) (q : BusReq) (a n : Nat) (l : List (Option Byte)) : List Byte × State :=
  let zip := fun (f : Nat → Byte) => (List.range n).map fun i => f (a + i)
  match s.targetAt a with
  | .rom _ => (zip s.romByte, s)
  | .ext _ => (zip fun x => s.extByte (x - 0x80000), s)
  | .bank b o =>
    let p := (bankPlace b).1 + o
    if q.write then
      if b = 5 ∧ s.tamperHeld then ([], s)     -- held wiped (R332)
      else ([], forEach (l.zip (List.range n)) s fun s x => match x.1 with | some v => s.putByte (p + x.2) v | none => s)
    else if b = 2 then s.fastBytes p o n
    else ((List.range n).map fun i => s.memByte (p + i), s)
  | .ddr _ =>
    if !s.ddrUp then
      if q.write then ([], s) else let (v, s) := s.draw; (leBytes n v, s)
    else if q.write then
      ([], forEach (l.zip (List.range n)) s fun s x => match x.1 with | some v => s.putByte (a + x.2) v | none => s)
    else (zip s.memByte, s)
  | .bar _ | .regs _ =>
    if q.write then ([], forEach (wordsOf a (l.take n)) s fun s w => if w.2.1 = 0 then s else s.writeReg q.src w.1 w.2.1 w.2.2)
    else
      let ws := wordsOf a (List.replicate n (some 0))
      let r := forEach ws (([] : List Byte), s) fun x w =>
        let (v, s) := x.2.readReg q.src w.1 w.2.1
        (x.1 ++ leBytes 4 v.toNat, s)
      ((r.1.drop (a % 4)).take n, r.2)
  | .none => ([], s)

/-- A beat after the world check of its own address (R357): a refused beat reads 0 and is ignored. -/
def State.worldBeat (s : State) (q : BusReq) (refused : Bool) (a n : Nat) (l : List (Option Byte)) : List Byte × State :=
  let t := s.targetAt a
  let regs := decide (t.range = 9) || decide (t.range = 10)
  let sec := s.secureSrc q.src 0
  let zeros := if q.write then [] else List.replicate n (0 : Byte)
  if !regs && s.secureTarget t && !sec && !(q.fetch && srcMaster q.src == 1 && entryPoint a) then (zeros, s.violation (srcMaster q.src) a q.write)
  else if refused then (zeros, s)
  else
    let (r, s) := s.beat q a n l
    (r, if q.write && !regs then s.cvuBus (srcMaster q.src) a l else s)

/-- The beats of an access: 32 bytes each from its address. -/
def beatsOf (q : BusReq) : List (Nat × Nat) :=
  (List.range (ceilDiv q.len 32)).map fun i => (q.addr + 32 * i, min 32 (q.len - 32 * i))

/-- A granted access is carried out or refused (R343, R350, R354, R357). When its master is reset during it, the beats that
remain change nothing (R348). -/
def State.access (s : State) (q : BusReq) : State :=
  let m := srcMaster q.src
  let t := s.targetAt q.addr
  let n := if q.len = 0 then 1 else min q.len 512
  let q := { q with len := n, data := (q.data ++ List.replicate n none).take n }
  let outside := m == 2 && !(decide (0x10000000 ≤ q.addr) && decide (q.addr < 0x11000000))
  let romWrite := q.write && (t.range == 11 || t.range == 12) && s.secureSrc q.src 0
  if outside || t == .none || t.range != (s.targetAt (q.addr + n - 1)).range || romWrite then
    (s.decodeErr m q.addr).showWords []
  else
    let beats := beatsOf q
    let allowed := fun (s : State) => beats.any fun b => !s.secureTarget (s.targetAt b.1) || s.secureSrc q.src 0
    let (refused, s) := match t with
      | .bank b _ =>
        if !allowed s then (true, s)
        else if s.get MB_ST_power b ≠ 0 then (true, s.bankRefuse m b q.addr true)
        else if !s.mayUse m b then (true, s.bankRefuse m b q.addr false)
        else (false, s.bankEcc b q.corr q.ue)
      | .ddr _ => (false, forEach q.ue (if q.corr = 0 then s else s.ddrCorr (s.channelOf q.addr) q.corr) fun s a => s.ddrUncorr a 1)
      | _ => (false, s)
    let done := (q.cut.getD beats.length)
    let r := forEach (beats.take done) (([] : List Byte), s) fun x b =>
      let (l, s) := x.2.worldBeat q refused b.1 b.2 ((q.data.drop (b.1 - q.addr)).take b.2)
      (x.1 ++ l, s)
    let s := r.2
    let s := { s with out := { s.out with bytes := s.out.bytes ++ r.1, flagged := !refused && !q.write && !q.ue.isEmpty } }
    match q.cut with
    | none => s
    | some k => ((s.inc BM_EVT_burst_abort).report kBURST_ABORT [(1, m), (5, q.addr), (1, k)]).masterReset m

/-! ### BUS_ACCESS (R344 to R348) -/

/-- Cycles for which a granted access holds its target (R345, R346): its beats, one more through the rotator, and one for
each partly written word of a bank at either end. -/
def holdCycles (q : BusReq) (bank : Bool) : Nat :=
  let rot := if 32 < q.addr % 32 + q.len then b2n (q.addr % 32 != 0) else 0
  let head := b2n (q.addr % 8 != 0)
  let tail := b2n ((q.addr + q.len) % 8 != 0)
  let one := q.addr / 8 == (q.addr + q.len - 1) / 8
  ceilDiv q.len 32 + rot + (if q.write && bank then (if one then max head tail else head + tail) else 0)

/-- The request that wins a target: an aged HOST request, else the lowest master code (R344). -/
def winnerOf : List BusReq → Option BusReq
  | [] => none
  | q :: t => match winnerOf t with
    | none => some q
    | some w =>
      let aged := fun (x : BusReq) => srcMaster x.src == 2 && decide (512 ≤ x.waited)
      if aged q then some q else if aged w then some w
      else if srcMaster w.src < srcMaster q.src then some w else some q

/-- Whether a master issues requests: the codes of Table 13-1, DEBUG only while debug is open. -/
def State.issues (s : State) (q : BusReq) : Bool :=
  let m := srcMaster q.src
  decide (1 ≤ m) && decide (m ≤ 8) && (m != 8 || s.on CP_LC_debug) && (m != 1 || !s.bus.cpHalt)

/-- The winner's access under the locks (R347): a locked access to another target unlocks the first one; the holder of a
broken sequence has its locked accesses refused until it issues an unlocking access. A locked access to DDR5 is carried
out as an unlocked one. -/
def State.lockedAccess (s : State) (q : BusReq) (range : Nat) : State :=
  let m := srcMaster q.src
  match q.lock with
  | .plain => s.access q
  | .unlocking => (s.access q).setLock m none
  | .locked =>
    if range = 8 then s.access q
    else match s.lockOf m with
      | some l =>
        if l.broken then { s with out := { s.out with bytes := s.out.bytes ++ (if q.write then [] else List.replicate q.len 0) } }
        else if l.target = range then (s.setLock m (some { l with count := l.count + 1 })).access q
        else (s.setLock m (some { target := range, count := 1 })).access q
      | none => (s.setLock m (some { target := range, count := 1 })).access q

/-- BUS_ACCESS: the requests that wait for the target of the first of them in a CLK_CTL cycle. One is granted; the others
stall while it holds the target. What the access reads of a counter that counts in this cycle is its value before the cycle,
and an RC read clears it before it counts (R9). -/
def effBusAccess (reqs : List BusReq) (s : State) : State :=
  let reqs := reqs.filter s.issues
  match reqs with
  | [] => s
  | q0 :: _ =>
    let range := (s.targetAt q0.addr).range
    let here := reqs.filter fun q => (s.targetAt q.addr).range == range
    let free := here.filter fun q => !s.lockedOut (srcMaster q.src) range
    match winnerOf free with
    | none => forEach here s fun s q => s.stall (srcMaster q.src) (grantCode range) 1
    | some w =>
      let m := srcMaster w.src
      let n := holdCycles w (decide (range < 8))
      let s := (s.lockedAccess w range).countGrant m (grantCode range) w.write
        (if range = 8 then some (s.channelOf w.addr) else none)
      forEach (here.filter fun q => srcMaster q.src != m) s fun s q => s.stall (srcMaster q.src) (grantCode range) n
def execBusAccess (reqs : List BusReq) (s : State) : Host.Outcome State Fault Refusal := .next (effBusAccess reqs s.newCycle)

/-- LOCK_TIMEOUT (R347): the locked sequence of a master is broken. -/
def effLockTimeout (m : Nat) (s : State) : State :=
  match s.lockOf m with
  | none => s
  | some l =>
    if l.broken then s
    else ((s.setLock m (some { l with broken := true })).inc BM_EVT_lock_broken).report kLOCK_BROKEN [(1, m), (1, grantCode l.target)]
def execLockTimeout (m : Nat) (s : State) : Host.Outcome State Fault Refusal := .next (effLockTimeout m s.newCycle)

/-! ### Semaphore commands (R349) -/

/-- Masters by code, lowest first. -/
def byCode (l : List Src) : List Src :=
  (List.range 9).flatMap fun c => (l.filter fun x => srcMaster x == c).take 1

/-- SEMAPHORE_READ: the masters that read one semaphore in a cycle, lowest code first; each other one stalls a cycle. HOST
does not reach the semaphores. -/
def effSemaphoreRead (n : Nat) (srcs : List Src) (s : State) : State :=
  let l := (byCode srcs).filter fun x => s.issues { src := x, addr := 0 } && srcMaster x != 2
  let n := n % 64
  let r := forEach l (true, s) fun x src =>
    let s := if x.1 then x.2 else x.2.stall (srcMaster src) 9 1
    let (w, s) := s.readReg src (0x11001000 + 4 * n) 15
    (false, s.showWords [w])
  r.2
def execSemaphoreRead (n : Nat) (srcs : List Src) (s : State) : Host.Outcome State Fault Refusal :=
  .next (effSemaphoreRead n srcs s.newCycle)

/-- SEMAPHORE_RELEASE: a write of a semaphore by a master. -/
def effSemaphoreRelease (n : Nat) (src : Src) (data : Word) (s : State) : State :=
  if srcMaster src = 2 ∨ !s.issues { src := src, addr := 0 } then s else s.writeReg src (0x11001000 + 4 * (n % 64)) 15 data
def execSemaphoreRelease (n : Nat) (src : Src) (data : Word) (s : State) : Host.Outcome State Fault Refusal :=
  .next (effSemaphoreRelease n src data s.newCycle)

/-- WATCHDOG_KICK (R339): a write of CP_WDOG by a master. -/
def effWatchdogKick (src : Src) (s : State) : State :=
  if srcMaster src = 2 ∨ !s.issues { src := src, addr := 0 } then s else s.writeReg src 0x11000000 15 0
def execWatchdogKick (src : Src) (s : State) : Host.Outcome State Fault Refusal := .next (effWatchdogKick src s.newCycle)

/-! ### Banks (R351 to R355) -/

/-- BANK_OWNER_WRITE (R351). -/
def execBankOwnerWrite (src : Src) (n be : Nat) (data : Word) (s : State) : Host.Outcome State Fault Refusal :=
  .next (s.newCycle.writeBar src (0xD10C + 0x10 * (n % 8)) be data)

/-- A bank passes to a master. -/
def State.giveBank (s : State) (n m : Nat) : State := (s.set MB_ST_owner m n).set MB_OWNER_owner m n

/-- BANK_HANDOVER (R351): the burst of the old owner has ended. -/
def effBankHandover (n : Nat) (s : State) : State :=
  if !s.on MB_ST_pending n then s
  else
    let old := s.get MB_ST_owner n
    let m := (s.bus.newOwn.find? fun p => p.1 == n).elim old (·.2)
    let s : State := { s with bus := { s.bus with newOwn := tdel s.bus.newOwn n } }
    ((s.giveBank n m).setB MB_ST_pending false n).report kBANK_OWNER [(1, n), (1, old), (1, m)]
def execBankHandover (n : Nat) (s : State) : Host.Outcome State Fault Refusal := .next (effBankHandover n s.newCycle)

/-- The watchdog of a master expires (R352): its banks pass to CP, and its semaphores are freed. -/
def State.masterExpired (s : State) (m : Nat) : State :=
  let s := s.set BM_MWD_expired (s.get BM_MWD_expired ||| 2 ^ (m - 1))
  let s := forEach (List.range 8) s fun s n =>
    if m ≠ 1 ∧ s.get MB_ST_owner n = m then (s.giveBank n 1).report kBANK_RECLAIM [(1, n), (1, m)] else s
  s.semFreeAll m

/-- MASTER_WATCHDOG_EXPIRY (Table 13-5). The processor's own watchdog is CP_WATCHDOG_EXPIRY; HOST expires while PERST_N is
asserted or the link is down, DEBUG while debug is closed. -/
def effMasterWatchdogExpiry (m : Nat) (s : State) : State :=
  if m < 2 ∨ 8 < m ∨ (m = 2 ∧ s.on MBX_LINK_up ∧ !s.on MBX_LINK_perst) ∨ (m = 8 ∧ s.on CP_LC_debug) then s
  else s.masterExpired m
def execMasterWatchdogExpiry (m : Nat) (s : State) : Host.Outcome State Fault Refusal :=
  .next (effMasterWatchdogExpiry m s.newCycle)

/-- Bank `n` leaves RETAIN or OFF: it wakes. -/
def State.wakeBank (s : State) (n : Nat) : State := if s.get MB_ST_power n = 0 then s else s.set MB_ST_power 3 n

/-- Bank `n` is not in use: it takes its idle state, and OFF loses its contents (R354). -/
def State.restBank (s : State) (n : Nat) : State :=
  let p := s.bankIdle n
  let s := s.set MB_ST_power p n
  if p = 2 then s.dropBytes (bankPlace n).1 (bankPlace n).2 else s

/-- BANK_WAKE_DONE (R354). -/
def effBankWakeDone (n : Nat) (s : State) : State := if s.get MB_ST_power n = 3 then s.set MB_ST_power 0 n else s
def execBankWakeDone (n : Nat) (s : State) : Host.Outcome State Fault Refusal := .next (effBankWakeDone n s.newCycle)

/-- SECDED_SCRUB (R355, R113, R133). -/
def effSecdedScrub (x : ScrubIn) (s : State) : State :=
  let s := forEach x.corr s fun s p => s.bankEcc p.1 p.2 []
  let s := forEach x.ue s fun s a => match s.targetAt a with | .bank n _ => s.bankEcc n 0 [a] | _ => s
  let s := forEach x.ctxCorr s State.ctxCorr
  let s := forEach x.ctxUe s State.ctxEcc
  forEach x.sliceCorr s fun s p => s.inc FAB_SLICE_CORR_corr p.1 p.2
def execSecdedScrub (x : ScrubIn) (s : State) : Host.Outcome State Fault Refusal := .next (effSecdedScrub x s.newCycle)

end Sys2Proof.Machine
end

