-- ==== Sys2Proof/Machine/Boot.lean ====
section
/-!
DEFINITION. Sys2Proof/Machine/Boot.lean: resets (R420 to R422), the boot sequence (R308 to R326), lifecycle fuses (R327 to
R331), tamper (R332, R333), processor restarts (R337, R339), and their commands.
-/
namespace Sys2Proof.Machine

/-! ### Fuses (R320, R321, R327, R329) -/

/-- The lifecycle code of fully blown groups, as CP_LC.state shows it. -/
def Fuses.shown (f : Fuses) : Nat := if f.ret = 8 then 3 else if f.depl = 8 then 2 else if f.prov = 8 then 1 else 0

/-- The registers that fuses give. -/
def State.showFuses (s : State) : State :=
  let f := s.boot.fuse
  let s := (s.set CP_ID_grade f.grade).set64 CP_SERIAL_LO_serial_lo CP_SERIAL_HI_serial_hi f.serial
  let s := (s.set CP_IMG_SVN_fuse_svn f.svn).set CP_LC_state f.shown
  let s := (s.set CP_LC_present (bitsSet (f.keys.map (·.1)))).set CP_LC_revoked (bitsSet f.revoked)
  forEach f.repaired s fun s p => s.set MB_ST_repaired (satN 4 p.2) p.1

def State.setFuse (s : State) (f : Fuses) : State := ({ s with boot := { s.boot with fuse := f } } : State).showFuses

/-! ### Wipes (R330, R332, R374) -/

/-- The secure mailbox channels are wiped: words, go and taken are cleared, wiped is set, a pending doorbell is withdrawn,
and a command that was taken gets no reply. -/
def State.wipeSecure (s : State) : State :=
  let s := forEach [8, 9, 10, 11] s fun s n =>
    let s := s.wipeMsg n
    ((s.setB MBX_CTL_go false n).setB MBX_ST_taken false n).setB MBX_ST_wiped true n
  let s : State := { s with
    irq := { s.irq with stk := tmod (fun _ => 0) s.irq.stk 0 fun v => v &&& (0xFFFFFFFF ^^^ 0x30) }
    host := { s.host with
      taken := s.host.taken.filter fun p => decide (p.1 < 8)
      bg := s.host.bg.map fun b => if 8 ≤ b.chan ∧ b.mark = 0 then { b with mark := 2 } else b } }
  s.irqSet 6

/-- MB5 is wiped, and the identity key with it. -/
def State.wipeMb5 (s : State) : State := (s.dropBytes 0x3480000 0x40000).setB CP_LC_id_key false

/-- pcie_sec is cleared; in BLANK the ROM holds it set (R360). -/
def State.endSession (s : State) : State := if s.get CP_LC_state = 0 then s else s.setB BM_HOST_WORLD_pcie_sec false

/-- What every lifecycle transition does once its group is blown: the wipe, and the LC_CHANGE record with the old and new
state. -/
def State.lcChanged (s : State) (old : Nat) : State :=
  let s := (s.showFuses.wipeMb5).wipeSecure
  let s := s.setB BM_HOST_WORLD_pcie_sec false
  s.report kLC_CHANGE [(1, old), (1, s.get CP_LC_state)]

/-- The rest of every partly blown group is blown (R331); blowing RETURNED destroys the identity seed (R328). -/
def State.completeBurns (s : State) : State :=
  let part := fun n => decide (0 < n) && decide (n < 8)
  let f := s.boot.fuse
  let s := if part f.prov then
      (({ s with boot := { s.boot with fuse := { f with prov := 8 } } } : State).lcChanged 0) else s
  let f := s.boot.fuse
  let s := if part f.depl then
      (({ s with boot := { s.boot with fuse := { f with depl := 8 } } } : State).lcChanged 1) else s
  let f := s.boot.fuse
  if part f.ret then
    let old := ({ f with ret := 0 } : Fuses).shown
    (({ s with boot := { s.boot with fuse := { f with ret := 8, seed := List.replicate 32 0xFF } } } : State).lcChanged old)
  else s

/-! ### Tamper (R332, R333) -/

/-- The opcodes of the commands that a tamper ends with status TAMPERED (R333). -/
def tamperOps : List Nat := [0x0501, 0x0601, 0x0602, 0x0603]

/-- What the assertion of an active tamper input `k` does. -/
def State.tamperAct (s : State) (k : Nat) : State :=
  let s : State := { s with host := { s.host with
    bg := s.host.bg.map fun b => if b.mark = 0 ∧ tamperOps.contains b.op then { b with mark := 1 } else b } }
  let s := ((s.wipeMb5).wipeSecure).endSession
  let s := s.set CP_TAMPER_stk (s.get CP_TAMPER_stk ||| 2 ^ k)
  let s := (s.irqSet 480).report kTAMPER [(1, k)]
  let sq := s.gl SECURITY_tamper_act k == 2
  let s : State := { s with boot := { s.boot with tampered := true, squelch := s.boot.squelch || sq } }
  if sq then s.showSquelchAll else s

/-- Show the tamper inputs that are asserted (Table 12-12: the pins, active or not). -/
def State.showTamper (s : State) : State := s.set CP_TAMPER_level (s.host.hold % 4)

/-- TAMPER_ASSERT of TAMPER_N[k]. While the main supply is absent PD_BAT latches it. -/
def effTamperAssert (k : Nat) (s : State) : State :=
  if 2 ≤ k ∨ bit s.host.hold k then s
  else
    let s : State := { s with host := { s.host with hold := s.host.hold + 2 ^ k } }
    if !s.pwr.main then s.setB CP_TAMPER_bat true
    else if s.gl SECURITY_tamper_en k = 1 then (s.showTamper).tamperAct k
    else s.showTamper
def execTamperAssert (k : Nat) (s : State) : Host.Outcome State Fault Refusal := .next (effTamperAssert k s.newCycle)

/-- TAMPER_DEASSERT (R332): the hold ends; MB5 and the secure channels may be written again. -/
def effTamperDeassert (k : Nat) (s : State) : State :=
  if 2 ≤ k ∨ !bit s.host.hold k then s
  else ({ s with host := { s.host with hold := s.host.hold - 2 ^ k } } : State).showTamper
def execTamperDeassert (k : Nat) (s : State) : Host.Outcome State Fault Refusal := .next (effTamperDeassert k s.newCycle)

/-! ### Power-on and SYSTEM resets (R420, R421) -/

/-- The pins that a mate pair joins keep their level through a reset; the arbiter's FLASH_GNT falls. -/
def State.matePins (s : State) : MateBlock :=
  { flashReq := s.mate.flashReq, flashGnt := s.mate.flashGnt && !s.on MATE_ST_rank }

/-- The power-on reset: every domain but PD_BAT. The flash, the fuses, the pins and the supplies keep what they hold. -/
def State.porst (s : State) (gasp : Bool) : State :=
  let bat := s.regs.filter fun p => domainOfKey [] p.1 == 1
  let t : State := {
    regs := bat, ln := { refLost := s.ln.refLost }, qs := { raw := s.qs.raw }
    mate := { s.matePins with gaspOut := gasp }
    rcd := { copies := s.rcd.copies, wrSec := s.rcd.wrSec }, cyc := s.cyc, free := s.free
    pwr := { trip := s.pwr.trip, under := s.pwr.under, main := s.pwr.main }
    boot := { fuse := s.boot.fuse, batEpoch := s.boot.batEpoch }, host := { hold := s.host.hold }
    tim := { rtcTrim := s.tim.rtcTrim }, flash := s.flash, out := s.out, pending := s.pending }
  let t := (t.setB CP_TAMPER_bat (s.on CP_TAMPER_bat)).setB MBX_LINK_perst (s.on MBX_LINK_perst)
  t.showFuses.showSquelchAll

/-- The link leaves the up state: downs counts it and its source is raised. -/
def State.linkDown (s : State) : State :=
  if !s.on MBX_LINK_up then s
  else
    let s := ((s.inc MBX_LINK_downs).setB MBX_LINK_up false).set MBX_LINK_width 0
    let s := (s.set MBX_LINK_speed 0).irqSet 7
    (s.report kHOST_LINK [(1, 0)]).restBank 6

/-- The endpoint is reset: bus mastering, MSI-X and its table (Table 14-1). -/
def State.resetEndpoint (s : State) : State :=
  let s := s.resetRange 0x2F000 0x30000
  let s := (s.setB MBX_LINK_bme false).setB MBX_LINK_msix_en false
  { s with irq := { s.irq with space := [], due := [], pba := [] } }

/-- The messages of channels of a sender that is reset stay posted, and show it (R372). -/
def State.senderReset (s : State) (chans : List Nat) : State :=
  forEach chans s fun s n => if s.on MBX_CTL_go n then s.setB MBX_ST_sender_rst true n else s

/-- The channels on which the device sends. -/
def deviceSends : List Nat := [1, 3, 5, 7, 9, 11, 12, 15]

/-- A reset of SYSTEM scope: every domain but PD_AON and PD_BAT. `cause` is its code in PWR_RST. -/
def State.sysReset (s : State) (cause : Nat) : State :=
  let s := ((s.haltReset.linkDown.resetEndpoint).wipeSecure).senderReset deviceSends
  let s := s.resetRegs ((List.range 24).drop 2)
  let s := forEach ((List.range 24).drop 2) s fun s d =>
    ((s.set PWR_DOM_state 0 d).setB PWR_DOM_want false d).setB PWR_DOM_pending false d
  let s := (s.set DC_ST_state 0).set DC_ST_ch_up 0
  let s := ((s.set CP_BOOT_ST_state 0).setB CP_LC_id_key false).setB CP_LC_debug false
  let s := (s.setB BM_HOST_WORLD_pcie_sec false).set CP_RUN_patches 0
  let s := (s.set PWR_RST_cause cause).incW PWR_RST_sys
  let t : State := { s with
    latch := [], stage := [], img := [], ln := { refLost := s.ln.refLost }, fr := {}, qs := { raw := s.qs.raw }
    mate := { s.matePins with gaspOut := true }, rcd := { copies := s.rcd.copies, wrSec := s.rcd.wrSec }
    irq := { stk := s.irq.stk, en := s.irq.en }, perf := {}, fab := {}, tw := {}, tag := {}, evg := {}
    pwr := { trip := s.pwr.trip, under := s.pwr.under, main := s.pwr.main }
    boot := { squelch := s.boot.squelch, tampered := s.boot.tampered, fuse := s.boot.fuse, batEpoch := s.boot.batEpoch }
    chg := {}, bus := {}, host := { s.host with nonces := [] }, tim := { rtcTrim := s.tim.rtcTrim }, mem := [] }
  t.showFuses.showSquelchAll

/-- A restart of the control processor alone (R339): `rst` is its code in PWR_RST, `run` that in CP_RUN. -/
def State.cpRestart (s : State) (rst run : Nat) : State :=
  let s := ((s.haltReset.dropBytes 0x100000 0x100000).masterReset 1).senderReset deviceSends
  let s := ((s.inc CP_BOOT_ST_restarts).set CP_RUN_cause run).set PWR_RST_cause rst
  let s := s.incW PWR_RST_ctl
  { s with
    mate := { s.mate with gaspOut := true }
    bus := { s.bus with cpHalt := true }
    boot := { s.boot with noTrial := true } }

/-- POWER_ON_RESET: PORST_N is asserted. -/
def execPowerOnReset (s : State) : Host.Outcome State Fault Refusal := .next (s.newCycle.porst s.pwr.main)

/-- UNDERVOLTAGE (R439): a rail falls below its threshold for 2 µs. -/
def effUndervoltage (s : State) : State := { s with pwr := { s.pwr with under := true } }.porst false
def execUndervoltage (s : State) : Host.Outcome State Fault Refusal := .next (effUndervoltage s.newCycle)

/-- SUPPLY_SWITCH_VBAT (R439): VDD_IO falls below its threshold, and PD_BAT runs from VBAT. -/
def effSupplySwitchVbat (s : State) : State := { s with pwr := { s.pwr with main := false } }.porst false
def execSupplySwitchVbat (s : State) : Host.Outcome State Fault Refusal := .next (effSupplySwitchVbat s.newCycle)

/-- MAIN_SUPPLY_RESTORE (R439): every rail is above its threshold. -/
def effMainSupplyRestore (s : State) : State := { s with pwr := { s.pwr with main := true, under := false } }
def execMainSupplyRestore (s : State) : Host.Outcome State Fault Refusal := .next (effMainSupplyRestore s.newCycle)

/-- VBAT_LOSS (R302): PD_BAT is reset while the main supply is absent. -/
def effVbatLoss (s : State) : State :=
  if s.pwr.main then s
  else
    let s := { s with
      regs := s.regs.filter fun p => domainOfKey s.img p.1 != 1
      tim := { s.tim with rtcTrim := 0 }, boot := { s.boot with batEpoch := 0 } }
    s.setB CP_TAMPER_bat false
def execVbatLoss (s : State) : Host.Outcome State Fault Refusal := .next (effVbatLoss s.newCycle)

/-- RESET_N_ASSERT (R200, R420): SYSTEM scope, or a processor restart where DEVICE.rst_scope is 1. -/
def effResetNAssert (s : State) : State :=
  if !s.pwr.main then s else if s.gl DEVICE_rst_scope = 1 then s.cpRestart 4 3 else s.sysReset 2
def execResetNAssert (s : State) : Host.Outcome State Fault Refusal := .next (effResetNAssert s.newCycle)

/-- THERMAL_TRIP (R420). -/
def effThermalTrip (s : State) : State :=
  if s.pwr.trip || !s.pwr.main then s else ({ s with pwr := { s.pwr with trip := true } } : State).sysReset 3
def execThermalTrip (s : State) : Host.Outcome State Fault Refusal := .next (effThermalTrip s.newCycle)

/-- THERMAL_TRIP_END (R420): the hottest sensor reads below 115 °C. -/
def effThermalTripEnd (s : State) : State := { s with pwr := { s.pwr with trip := false } }
def execThermalTripEnd (s : State) : Host.Outcome State Fault Refusal := .next (effThermalTripEnd s.newCycle)

/-- TRST_ASSERT (R348, R420): the JTAG TAP and the DEBUG master. -/
def execTrstAssert (s : State) : Host.Outcome State Fault Refusal := .next (s.newCycle.masterReset 8)

/-- Whether the processor runs. -/
def State.cpRuns (s : State) : Bool := s.get CP_BOOT_ST_state != 0 && !s.bus.cpHalt

/-- LOCKSTEP_FAULT (R337): the program counter and the mismatching output. -/
def effLockstepFault (pc out : Nat) (s : State) : State :=
  if !s.cpRuns then s
  else ((s.report kLOCKSTEP_FAULT [(4, pc), (4, out)]).inc CP_RUN_lockstep).cpRestart 5 1
def execLockstepFault (pc out : Nat) (s : State) : Host.Outcome State Fault Refusal := .next (effLockstepFault pc out s.newCycle)

/-- CP_WATCHDOG_EXPIRY (R339): no kick for SECURITY.cp_wdog_ms. -/
def effCpWatchdogExpiry (s : State) : State :=
  let limit := ceilDiv (s.gl SECURITY_cp_wdog_ms * 10000000) 1024
  if !s.cpRuns ∨ s.pwr.up < s.bus.kickAt + limit then s
  else (((s.report kCP_WATCHDOG []).inc CP_RUN_wdog).masterExpired 1).cpRestart 6 2
def execCpWatchdogExpiry (s : State) : Host.Outcome State Fault Refusal := .next (effCpWatchdogExpiry s.newCycle)

/-! ### Loading the boot instances (R308 steps 7 and 8, R322 to R326) -/

/-- Section table entries by ascending ID. -/
def insertSec (x : SecEnt) : List SecEnt → List SecEnt
  | [] => [x]
  | y :: t => if x.id ≤ y.id then x :: y :: t else y :: insertSec x t

/-- The pass over the boot instances: each as loaded, its digest, and whether the digest matches. A rejected DEVICE or
SECURITY ends it. -/
def State.bootPass (s : State) (h : Header) : List SecEnt → List (Loaded × List Byte × Bool)
  | [] => []
  | e :: t =>
    let b := s.body h e
    let ok := decide (sha512 b = e.digest)
    let l := loadBody e.id e.inst b
    let l := if ok then l else l.structural
    let x := (l, e.digest, ok)
    if (e.id = 1 ∨ e.id = 13) ∧ l.rej.isSome then [x] else x :: s.bootPass h t

/-- The sections kept of a load. -/
def keptOf (l : List Loaded) : List Section := ((l.filter fun x => x.rej.isNone).map Loaded.section_).foldl putSection []

/-- The residence check at boot: RESIDENCE and every page loaded with it are rejected on a mismatch, or on its absence. -/
def bootResidence (l : List Loaded) : Option Mismatch :=
  let kept := keptOf l
  let has := fun i => (sectionOf kept i).isSome
  if has 14 then residenceMismatch kept else if has 5 || has 6 then some (0xFFFFFF, 0, 0) else none

/-- Load the boot instances of a container: the sections kept, or none where DEVICE or SECURITY is rejected. -/
def State.bootLoad (s : State) (h : Header) : State × Option (List Section) :=
  let pass := s.bootPass h (((s.secTable h).filter fun e => e.boot && decide (e.id < 16)).foldr insertSec [])
  let l0 := pass.map (·.1)
  if l0.any fun x => (x.sec == 1 || x.sec == 13) && x.rej.isSome then (s.loadClamps false true l0, none)
  else
    let dev := (l0.filter fun x => x.sec == 1).map (checkDevice s)
    if dev.any fun x => x.rej.isSome then
      (s.loadClamps false true (dev ++ l0.filter fun x => x.sec != 1), none)
    else
      let l1 := checkAll s false checkOrder (keptOf l0) l0
      let mis := bootResidence l1
      let l2 := if mis.isSome then
          l1.map fun x => if x.sec = 5 ∨ x.sec = 6 ∨ x.sec = 14 then x.structural else x
        else l1
      let s := s.loadClamps false false l2
      let s := match mis with
        | some m => s.report kRESIDENCE_MISMATCH [(3, m.1), (4, m.2.1), (4, unsignedOf 32 m.2.2)]
        | none => s
      let s := s.noteLoad l2
      let s := s.set CP_SEC_REJ_rej (bitsSet ((l2.filter fun x => x.rej.isSome).map fun x => x.sec - 1))
      let digest := fun i => ((pass.find? fun x => x.1.sec == i).map fun x => x.2.1).getD []
      (s, some ((keptOf l2).map fun x => { x with digest := digest x.sec }))

/-! ### The sections take effect -/

/-- The bank and world settings of SECURITY (R350, R354, R360). -/
def State.securityTaken (s : State) : State :=
  let s := s.setB BM_HOST_WORLD_smb_sec (s.gl SECURITY_smb_secure == 1)
  forEach (s.entries SECURITY_bank) s fun s e =>
    let n := e.n SECURITY_bank
    let s := s.setB MB_ST_world (e.b SECURITY_bank_world || n == 5) n
    (s.set MB_ST_share (e.n SECURITY_bank_share) n).set MB_OWNER_share (e.n SECURITY_bank_share) n

/-- The patch store is loaded (R340). -/
def State.patchTaken (s : State) : State :=
  let l := entriesOf s.img 15
  ({ s with bus := { s.bus with patch := l.filter fun e => e.kind != 0 } } : State).set CP_RUN_patches
    (l.filter fun e => e.kind == 1).length

/-- Units of 64 MiB that the use of a region needs (Table 16-2). -/
def State.regionNeed (s : State) (i : Nat) : Nat :=
  match i with
  | 0 => 4 | 1 => 2 | 2 => 10
  | _ => ceilDiv (((s.entries EVERGREEN_merge).map fun e => middleNeed e * 4224).sum) (2 ^ 26)

/-- A record for each DDR5 use whose region is absent or smaller than its need (R412). -/
def State.regionShort (s : State) : State :=
  forEach (List.range 4) s fun s i =>
    let held := s.regionHeld i
    if held < s.regionNeed i then s.report kDDR_REGION_SHORT [(1, i), (2, held), (2, s.regionNeed i)] else s

/-- The sections of a boot take effect (R308 steps 7 and 8). -/
def State.bootTaken (s : State) (img : List Section) : State :=
  let s : State := { s with img := img, fab := { s.fab with gp := 0 } }
  let s := ((s.ddrConfig.securityTaken).patchTaken).resetTime
  let s := (s.set FAB_PAGE_ID_id (s.gl FABRIC_PAGE_page_id)).set TWG_PAGE_ID_id (s.gl TWIG_PAGE_page_id)
  let s := if s.fab.on then s.restartCoppice else s
  let s := s.set QS_FORCE_level s.qs.raw
  let s := forEach [2, 3, 4, 7, 8, 9, 10, 11, 12] s fun s i => s.sectionTaken [] [] i
  let s := s.set MATE_ST_mode (s.gl PROTECTION_mate_mode)
  let s := forEach [6, 7] s fun s n => if n = 6 ∨ s.get MATE_ST_mode = 0 then s.restBank n else s
  ((s.routeCheck.setWants).settle).restMb1

/-! ### Image slots (R311, R312) -/

/-- The epoch is fixed: shown, written to the directory and to PD_BAT, and taken by the records that wait (R313, R383). -/
def State.fixEpoch (s : State) (cs : Nat) : State :=
  if s.rcd.epochOk then s
  else match s.dir cs with
    | none => s
    | some d =>
      let e := (max d.epoch s.boot.batEpoch + 1) % 2 ^ 32
      let s := (s.putDir cs { d with epoch := e }).set CP_BOOT_EPOCH_epoch e
      let dated := fun (l : List Rec) => l.map fun r => { r with epoch := e }
      { s with
        boot := { s.boot with batEpoch := e }
        rcd := { s.rcd with
          epochOk := true, mb3 := dated s.rcd.mb3, staging := dated s.rcd.staging, flashBuf := dated s.rcd.flashBuf
          hold := dated s.rcd.hold, hq := s.rcd.hq.map fun p => (p.1, { p.2 with recs := dated p.2.recs }) } }

/-- A slot fails: it is marked BAD, with its cause. -/
def State.slotFails (s : State) (cs k cause : Nat) : State :=
  let s := (s.markSlot cs k 4).set CP_BOOT_ST_cause cause
  (s.setB CP_BOOT_ST_fallback true).irqSet 487

/-- The registers that show the image in force. -/
def State.showImage (s : State) (cs k : Nat) (h : Header) : State :=
  let s := ((s.set CP_BOOT_ST_slot k).set CP_BOOT_ST_cs cs).set CP_IMG_VER_ver (s.gl DEVICE_image_ver)
  let s := (s.set CP_IMG_SVN_img_svn h.svn).set CP_LC_key_used h.keySlot
  let dg := s.imageDigest h
  let s := forEach (List.range 16) s fun s w => s.set CP_IMG_DIGEST_digest (leNat ((dg.drop (4 * w)).take 4)) w
  { s with boot := { s.boot with base := some (cs, h.base) } }

/-- A confirmed image with a security version above the fuse counter advances it where SECURITY.svn_advance is 1. -/
def State.advanceSvn (s : State) : State :=
  let v := s.get CP_IMG_SVN_img_svn
  if s.gl SECURITY_svn_advance = 1 ∧ s.boot.fuse.svn < v then s.setFuse { s.boot.fuse with svn := v } else s

/-- Try slot `k` of flash `cs`: whether it boots. -/
def State.trySlot (s : State) (cs k : Nat) : State × Bool :=
  match s.dir cs with
  | none => (s, false)
  | some d =>
    let x := d.slot k
    if x.state = 2 then (s.markSlot cs k 4, false)
    else if x.state ≠ 1 ∧ x.state ≠ 3 then (s, false)
    else
      let s := if x.state = 1 then s.markSlot cs k 2 else s
      let h := s.header cs x.base
      let c := s.verify h x.size
      if c ≠ 0 then (s.slotFails cs k c, false)
      else
        let (s, img) := (s.fixEpoch cs).bootLoad h
        match img with
        | none => (s.slotFails cs k 7, false)
        | some l =>
          let s := (s.bootTaken l).showImage cs k h
          let s := s.setB CP_BOOT_ST_confirmed (x.state == 3)
          (if x.state = 3 then s.advanceSvn else s, true)

/-- Try slots in order until one boots. -/
def trySlots : List (Nat × Nat) → State → State × Bool
  | [], s => (s, false)
  | x :: t, s =>
    let r := s.trySlot x.1 x.2
    if r.2 then r else trySlots t r.1

/-- The slots of a flash in descending sequence. -/
def State.slotOrder (s : State) (cs : Nat) : List (Nat × Nat) :=
  match s.dir cs with
  | some d => if d.a.seq < d.b.seq then [(cs, 1), (cs, 0)] else [(cs, 0), (cs, 1)]
  | none => []

/-- The flashes of a boot source (Table 12-3). -/
def bootSources (src : Nat) : List Nat := match src with | 0 => [0] | 1 => [1] | 2 => [0, 1] | _ => []

/-! ### The boot (R308) -/

/-- The state of CP_BOOT_ST.state. -/
def State.bootState (s : State) : Nat := s.get CP_BOOT_ST_state

/-- Whether the reply of a command can be posted on a channel pair: its world is not held wiped (R332). -/
def State.chanHeld (s : State) (n : Nat) : Bool := decide (8 ≤ n) && decide (n < 12) && s.tamperHeld

/-- The reply to a command goes to the reply channel paired with its channel (R368, R369): words, go, the doorbell that go
raises, and the counts. The command is no longer taken. -/
def State.reply (s : State) (n hdr : Nat) (r : Reply) : State :=
  let s := s.setB MBX_ST_taken false n
  let s : State := { s with host := { s.host with taken := s.host.taken.filter fun p => p.1 != n } }
  let s := if r.status = 0 then s else s.inc MBX_CMD_refused
  if s.chanHeld n then s
  else
    let m := n + 1
    let word := fun i =>
      if i = 0 then hdr / 2 ^ 16 % 2 ^ 16 * 2 ^ 16 + r.status % 256 * 256 + hdr % 256
      else match r.words.find? fun p => p.1 == i with | some p => p.2 | none => 0
    let s := s.setMsg m ((List.range 16).map word)
    { s.post m with out := { s.out with reply := s.out.reply ++ [(m, r)] } }

/-- Commands that were taken and not answered before a restart are answered RESTARTED (R373). -/
def State.answerRestarted (s : State) : State :=
  let l := s.host.taken ++ (s.host.bg.filter fun b => b.mark ≠ 2).map fun b => (b.chan, b.msg)
  let s : State := { s with host := { s.host with bg := [], taken := [] } }
  forEach l s fun s p => s.reply p.1 (p.2.headD 0) { status := 0x12 }

/-- The end of a boot in a state of CP_BOOT_ST: a BOOT record with the state and slot, and a RESET_CAUSE record. -/
def State.bootEnd (s : State) (st ms : Nat) : State :=
  let s := s.set CP_BOOT_ST_state st
  let s := if st = 4 then s.set CP_BOOT_TIME_ms (satN 16 ms) else (s.set CP_BOOT_ST_slot 2).setWants
  let s := s.report kBOOT [(1, st), (1, s.get CP_BOOT_ST_slot)]
  let s := s.report kRESET_CAUSE [(4, (s.reg 0x11000580).toNat)]
  let s : State := { s with
    mate := { s.mate with gaspOut := false, full := true }, bus := { s.bus with kickAt := s.pwr.up, cpHalt := false } }
  s.showFlashOwn

/-- A tamper that PD_BAT latched is acted on, and so is an input that SECURITY makes active while it is asserted; which
input the latch stands for is not kept (a free value). -/
def State.bootTamper (s : State) : State :=
  let s := if s.on CP_TAMPER_bat then
      let (v, s) := s.draw
      (s.setB CP_TAMPER_bat false).tamperAct (v % 2)
    else s
  let s := s.showTamper
  forEach ((List.range 2).filter s.tamperOn) s State.tamperAct

/-- Steps 4 to 9: the image is chosen, verified and loaded. A rank-low device waits in step 4 for FLASH_GNT. -/
def State.bootImage (s : State) (ms : Nat) : State :=
  let src := s.boot.straps
  if s.get CP_LC_boot_state = 0 ∨ src = 3 then (s.bootTamper).bootEnd 6 ms
  else if !s.on MATE_ST_rank && !s.mate.flashGnt then
    ({ s with boot := { s.boot with waitGnt := true } } : State).set CP_BOOT_ST_state 1
  else
    let s : State := { s with boot := { s.boot with waitGnt := false } }
    let (s, ok) := (bootSources src).foldl (fun r cs => if r.2 then r else trySlots (r.1.slotOrder cs) r.1) (s, false)
    let s := s.bootTamper
    if ok then (s.regionShort).bootEnd 4 ms else s.bootEnd 5 ms

/-- Steps 1 to 3: fuses, banks, always-on domains and slice self-test. -/
def State.bootStart (s : State) (x : BootIn) (osc : Nat) : State :=
  let s : State := { s with boot := { s.boot with
    straps := x.src % 4, sfdpOk := x.flashOk, oscBad := false, noTrial := false, clamps := [], rejected := []
    base := none } }
  let s := (((s.set CP_BOOT_ST_state 1).set CP_BOOT_ST_src (x.src % 4)).setB MATE_ST_rank x.rank).set TMC_ST_osc_code osc
  let s := (((s.set MATE_ST_role 0).set MATE_ST_mode 0).set MATE_ST_lanes_up 0).setB MATE_ST_sync false
  let s := (s.setB BM_HOST_WORLD_smb_sec true).ddrConfig
  let s := ((s.set CP_BOOT_ST_restarts 0).set CP_CLAMP_boot 0).set CP_CLAMP_apply 0
  let s := ((s.set CP_SEC_REJ_rej 0).setB CP_BOOT_ST_fallback false).set CP_BOOT_ST_cause 0
  let s := (s.setB CP_BOOT_ST_confirmed false).completeBurns
  let lc := s.get CP_LC_state
  let s := ((s.set CP_LC_boot_state lc).setB CP_LC_id_key (lc == 1 || lc == 2)).setB CP_LC_debug (lc == 0 || lc == 3)
  let s := if lc = 0 then s.setB BM_HOST_WORLD_pcie_sec true else s
  let s := forEach [2, 3, 4, 5, 6] s fun s d =>
    ((s.set PWR_DOM_state 2 d).setB PWR_DOM_want true d).incW PWR_DOM_cycles d
  (({ s with mem := [] } : State).fabricTest x.bad).answerRestarted

/-- RESET_RELEASE_BOOT (R308): a power-on, SYSTEM or thermal reset is released. -/
def effResetReleaseBoot (x : BootIn) (s : State) : State :=
  if s.bootState ≠ 0 ∨ s.pwr.trip ∨ s.pwr.under ∨ !s.pwr.main then s
  else match oscCode x.osc with
    | none => { s with boot := { s.boot with oscBad := true } }
    | some c => (s.bootStart x c).bootImage x.ms
def execResetReleaseBoot (x : BootIn) (s : State) : Host.Outcome State Fault Refusal :=
  .next (effResetReleaseBoot x s.newCycle)

/-- IMAGE_CONFIRM (R312): the image in force has run DEVICE.confirm_s seconds in RUNNING. -/
def effImageConfirm (s : State) : State :=
  let cs := s.get CP_BOOT_ST_cs
  let k := s.get CP_BOOT_ST_slot
  let trial := match s.dir cs with | some d => (d.slot k).state == 2 | none => false
  if s.bootState ≠ 4 ∨ s.on CP_BOOT_ST_confirmed ∨ s.boot.noTrial ∨ !trial ∨ !s.flashFree then s
  else (((s.markSlot cs k 3).setB CP_BOOT_ST_confirmed true).irqSet 488).advanceSvn
def execImageConfirm (s : State) : Host.Outcome State Fault Refusal := .next (effImageConfirm s.newCycle)

/-- PROCESSOR_RESUME (R339, R373): the ROM resumes. A lifecycle transition that the restart cut is completed first, and
every command that was taken is answered RESTARTED. -/
def effProcessorResume (s : State) : State :=
  if !s.bus.cpHalt then s
  else
    let own := s.host.bg.map fun b => if b.op = 0x0602 ∨ b.op = 0x0603 then { b with mark := if b.mark = 0 then 3 else b.mark } else b
    let s : State := { s with
      bus := { s.bus with cpHalt := false, kickAt := s.pwr.up }, mate := { s.mate with gaspOut := false }
      host := { s.host with bg := own } }
    (s.completeBurns.answerRestarted).report kRESET_CAUSE [(4, (s.reg 0x11000580).toNat)]
def execProcessorResume (s : State) : Host.Outcome State Fault Refusal := .next (effProcessorResume s.newCycle)

/-! ### The flash of a pair (R209, R310) -/

/-- FLASH_REQ_CHANGE: the level of FLASH_REQ changes; it is an input of the rank-high device. -/
def effFlashReqChange (level : Bool) (s : State) : State :=
  if s.on MATE_ST_rank then ({ s with mate := { s.mate with flashReq := level } } : State).arbitrate else s
def execFlashReqChange (level : Bool) (s : State) : Host.Outcome State Fault Refusal := .next (effFlashReqChange level s.newCycle)

/-- FLASH_GNT_CHANGE: the level of FLASH_GNT changes on a rank-low device. A boot that waits for it goes on; `ms` is its
time to RUNNING. -/
def effFlashGntChange (level : Bool) (ms : Nat) (s : State) : State :=
  if s.on MATE_ST_rank then s
  else
    let s := ({ s with mate := { s.mate with flashGnt := level } } : State).showFlashOwn
    if level && s.boot.waitGnt then s.bootImage ms else s
def execFlashGntChange (level : Bool) (ms : Nat) (s : State) : Host.Outcome State Fault Refusal :=
  .next (effFlashGntChange level ms s.newCycle)

end Sys2Proof.Machine
end

