-- ==== Sys2Proof/Machine/Host.lean ====
section
/-!
DEFINITION. Sys2Proof/Machine/Host.lean: the PCIe endpoint (R363 to R365), mailbox channels (R367 to R372) and the SMBus
target (R380, R381).
-/
namespace Sys2Proof.Machine

/-! ### PCIe (R360, R365, R372, R399) -/

/-- PERST_ASSERT: the endpoint and MBX_LINK are reset, the session ends, and HOST is reset as a bus master. -/
def effPerstAssert (s : State) : State :=
  if s.on MBX_LINK_perst then s
  else
    let s := (s.linkDown.resetEndpoint).setWord MBX_LINK_up 0 0
    let s := ((s.setB MBX_LINK_perst true).endSession).masterReset 2
    s.senderReset [0, 2, 4, 6, 8, 10]
def execPerstAssert (s : State) : Host.Outcome State Fault Refusal := .next (effPerstAssert s.newCycle)

/-- PERST_DEASSERT: the endpoint trains its link. -/
def execPerstDeassert (s : State) : Host.Outcome State Fault Refusal := .next (s.newCycle.setB MBX_LINK_perst false)

/-- The ROM hands MB6 back to HOST once its watchdog had passed it to CP (R352). -/
def State.returnMb6 (s : State) : State :=
  if s.cpRuns && bit (s.get BM_MWD_expired) 1 && s.get MB_ST_owner 6 == 1 then
    (s.giveBank 6 2).report kBANK_OWNER [(1, 6), (1, 1), (1, 2)]
  else s

/-- PCIE_LINK_UP: the link comes up at a rate code 1 to 4 and a width of 1, 2 or 4, with bus mastering as the host sets it.
-/
def effPcieLinkUp (speed width : Nat) (bme : Bool) (s : State) : State :=
  if s.on MBX_LINK_perst || s.on MBX_LINK_up || s.get PWR_DOM_state 22 != 2 || speed == 0 || decide (4 < speed) ||
      !([1, 2, 4].contains width) then s
  else
    let s := ((s.setB MBX_LINK_up true).set MBX_LINK_speed speed).set MBX_LINK_width width
    let s := (s.setB MBX_LINK_bme bme).report kHOST_LINK [(1, 1)]
    ((s.wakeBank 6).returnMb6).sendPending
def execPcieLinkUp (speed width : Nat) (bme : Bool) (s : State) : Host.Outcome State Fault Refusal :=
  .next (effPcieLinkUp speed width bme s.newCycle)

/-- PCIE_LINK_DOWN. -/
def execPcieLinkDown (s : State) : Host.Outcome State Fault Refusal := .next s.newCycle.linkDown

/-- MSIX_ENABLE (R399): the host sets or clears MSI-X Enable in configuration space. -/
def effMsixEnable (on : Bool) (s : State) : State :=
  if !s.on MBX_LINK_up then s
  else
    let was := s.on MBX_LINK_msix_en
    let s := s.setB MBX_LINK_msix_en on
    if on && !was then s.sendPending else s
def execMsixEnable (on : Bool) (s : State) : Host.Outcome State Fault Refusal := .next (effMsixEnable on s.newCycle)

/-- SESSION_IDLE_TIMEOUT (R360): host_sess_s seconds without a PCIe access to the secure channels. -/
def effSessionIdleTimeout (s : State) : State :=
  if s.on BM_HOST_WORLD_pcie_sec && s.get CP_LC_state != 0 then s.endSession.report kSESSION [(1, 0)] else s
def execSessionIdleTimeout (s : State) : Host.Outcome State Fault Refusal := .next (effSessionIdleTimeout s.newCycle)

/-! ### Mailboxes (R369 to R371) -/

/-- MAILBOX_POST: a write of 1 to go of command channel `n`. -/
def effMailboxPost (src : Src) (n : Nat) (s : State) : State :=
  if n < 16 ∧ isCommand n then s.writeBar src (0x10040 + 0x100 * n) 15 1 else s
def execMailboxPost (src : Src) (n : Nat) (s : State) : Host.Outcome State Fault Refusal :=
  .next (effMailboxPost src n s.newCycle)

/-- MAILBOX_ABORT: a write of 1 to abort of command channel `n`. -/
def effMailboxAbort (src : Src) (n : Nat) (s : State) : State :=
  if n < 16 ∧ isCommand n then s.writeBar src (0x10040 + 0x100 * n) 15 2 else s
def execMailboxAbort (src : Src) (n : Nat) (s : State) : Host.Outcome State Fault Refusal :=
  .next (effMailboxAbort src n s.newCycle)

/-- MAILBOX_REPLY_CLEAR: a write of 1 to go of reply channel `n`. -/
def effMailboxReplyClear (src : Src) (n : Nat) (s : State) : State :=
  if n < 16 ∧ !isCommand n then s.writeBar src (0x10040 + 0x100 * n) 15 1 else s
def execMailboxReplyClear (src : Src) (n : Nat) (s : State) : Host.Outcome State Fault Refusal :=
  .next (effMailboxReplyClear src n s.newCycle)

/-- The opcodes of Table 14-7. -/
def opcodes : List Nat :=
  [0x0001, 0x0002, 0x0003, 0x0004, 0x0101, 0x0102, 0x0103, 0x0201, 0x0202, 0x0301, 0x0302, 0x0303, 0x0304, 0x0305,
   0x0401, 0x0501, 0x0601, 0x0602, 0x0603, 0x0604, 0x0605, 0x0701]

/-- The words of a channel. -/
def State.msgWords (s : State) (n : Nat) : List Nat := (List.range 16).map fun i => (s.reg (0x10000 + 0x100 * n + 4 * i)).toNat

/-- Whether a command channel is eligible. -/
def State.canTake (s : State) (n : Nat) : Bool := s.on MBX_CTL_go n && !s.on MBX_ST_taken n && !s.on MBX_CTL_go (n + 1)

/-- The channels of a group in round-robin order, from the one after the last taken. -/
def fromLast (l : List Nat) (last : Nat) : List Nat := l.filter (fun n => decide (last < n)) ++ l.filter fun n => decide (n ≤ last)

/-- The channel that the processor takes next. -/
def State.nextChannel (s : State) : Option Nat :=
  (fromLast [8, 10] s.host.lastSec ++ fromLast [0, 2, 4, 6] s.host.lastNon ++ [14]).find? s.canTake

/-- MAILBOX_TAKE: the next eligible channel is taken, once no other command is being carried out in the foreground. An
unknown opcode is answered at once. -/
def effMailboxTake (s : State) : State :=
  if s.bootState < 4 ∨ !s.cpRuns ∨ !s.host.taken.isEmpty then s
  else match s.nextChannel with
    | none => s
    | some n =>
      let m := s.msgWords n
      let s := ((s.setB MBX_CTL_go false n).setB MBX_ST_taken true n).inc MBX_CMD_taken
      let s : State := { s with host := { s.host with
        taken := [(n, m)]
        lastSec := if 8 ≤ n ∧ n < 14 then n else s.host.lastSec
        lastNon := if n < 8 then n else s.host.lastNon } }
      if opcodes.contains (m.headD 0 / 2 ^ 16) then s else s.reply n (m.headD 0) { status := 1 }
def execMailboxTake (s : State) : Host.Outcome State Fault Refusal := .next (effMailboxTake s.newCycle)

/-! ### SMBus (R380, R381) -/

/-- What the target returns. -/
def State.smbReturns (s : State) (l : List Byte) : State := { s with out := { s.out with bytes := s.out.bytes ++ l } }

/-- A transaction with a bad PEC is ignored and counted. -/
def State.badPec (s : State) : State := (s.inc MBX_HOSTERR_smb_pec).irqSet 8

/-- A read of one register, or of four bytes of the MB6 window, by the SMBus path. -/
def State.smbWord (s : State) (off : Nat) : Word × State :=
  if 0x400000 ≤ off ∧ off < 0x800000 then
    let out := s.out
    let t := ({ s with out := {} } : State).access { src := .smbus, addr := 0x10000000 + off }
    (BitVec.ofNat 32 (leNat t.out.bytes), { t with out := out })
  else if off < 0x1000000 then s.readBar .smbus off 15 else (0, s)

/-- SMB_SET_ADDR. -/
def effSmbSetAddr (addr : Nat) (pec : Bool) (s : State) : State :=
  if !pec then s.badPec else { s with host := { s.host with smbAddr := addr % 2 ^ 32 / 4 * 4 } }
def execSmbSetAddr (addr : Nat) (pec : Bool) (s : State) : Host.Outcome State Fault Refusal :=
  .next (effSmbSetAddr addr pec s.newCycle)

/-- SMB_READ: eight registers; refused until the core clocks run. -/
def effSmbRead (s : State) : State :=
  if s.bootState = 0 then s
  else
    let a := s.host.smbAddr
    let s := forEach (List.range 8) s fun s i =>
      let (w, s) := s.smbWord ((a + 4 * i) % 2 ^ 32)
      s.smbReturns (leBytes 4 w.toNat)
    { s with host := { s.host with smbAddr := (a + 32) % 2 ^ 32 } }
def execSmbRead (s : State) : Host.Outcome State Fault Refusal := .next (effSmbRead s.newCycle)

/-- SMB_WRITE: one register; refused until the core clocks run. -/
def effSmbWrite (data : Word) (pec : Bool) (s : State) : State :=
  if s.bootState = 0 then s
  else if !pec then s.badPec
  else
    let a := s.host.smbAddr
    let s :=
      if 0x400000 ≤ a ∧ a < 0x800000 then
        s.access { src := .smbus, addr := 0x10000000 + a, write := true, data := (leBytes 4 data.toNat).map some }
      else if a < 0x1000000 then s.writeBar .smbus a 15 data else s
    { s with host := { s.host with smbAddr := (a + 4) % 2 ^ 32 } }
def execSmbWrite (data : Word) (pec : Bool) (s : State) : Host.Outcome State Fault Refusal :=
  .next (effSmbWrite data pec s.newCycle)

/-- SMB_TEMP: the hottest sensor, in units of 0.125 °C. -/
def execSmbTemp (t : Int) (s : State) : Host.Outcome State Fault Refusal :=
  .next (s.newCycle.smbReturns (leBytes 2 (unsignedOf 16 t)))

/-- The STATUS word of Table 14-11. -/
def State.smbStatus (s : State) : Nat :=
  s.bootState + 8 * b2n s.faultN + 16 * b2n s.boot.oscBad + 32 * b2n (s.on MBX_LINK_up) + 64 * s.get CP_LC_state

/-- SMB_STATUS. -/
def execSmbStatus (s : State) : Host.Outcome State Fault Refusal :=
  .next (s.newCycle.smbReturns (leBytes 2 s.newCycle.smbStatus))

/-- SMB_ALERT_MASK: a write of the mask, or a read of it. -/
def effSmbAlertMask (write : Option Nat) (pec : Bool) (s : State) : State :=
  match write with
  | none => s.smbReturns (leBytes 1 s.host.smbMask)
  | some v => if !pec then s.badPec else { s with host := { s.host with smbMask := v % 8 } }
def execSmbAlertMask (write : Option Nat) (pec : Bool) (s : State) : Host.Outcome State Fault Refusal :=
  .next (effSmbAlertMask write pec s.newCycle)

/-- SMB_ALERT_N is asserted while a condition enabled in ALERT_MASK holds. -/
def State.smbAlert (s : State) : Bool :=
  let m := s.host.smbMask
  (bit m 0 && s.faultN) || (bit m 1 && [9, 11].any fun n => s.on MBX_CTL_go n) ||
    (bit m 2 && [1, 3, 5, 7].any fun n => s.on MBX_CTL_go n)

/-- SMB_ALERT_RESPONSE: the device that asserts SMB_ALERT_N answers with its address. -/
def effSmbAlertResponse (s : State) : State := if s.smbAlert then s.smbReturns [0x5A] else s
def execSmbAlertResponse (s : State) : Host.Outcome State Fault Refusal := .next (effSmbAlertResponse s.newCycle)

/-- SMB_CLOCK_TIMEOUT. -/
def execSmbClockTimeout (s : State) : Host.Outcome State Fault Refusal :=
  .next ((s.newCycle.inc MBX_HOSTERR_smb_timeout).irqSet 8)

end Sys2Proof.Machine
end

