-- ==== Sys2Proof/Machine/Commands.lean ====
section
/-!
DEFINITION. Sys2Proof/Machine/Commands.lean: the mailbox commands of Table 14-7, their checks (R376), bulk data (R375), tokens
(R377), and the end of a background command (R370).
-/
namespace Sys2Proof.Machine

/-! ### Which commands may run (R376, Table 14-7) -/

/-- Commands allowed on secure channels only. -/
def secureOnly (op : Nat) : Bool := [0x0305, 0x0401, 0x0501, 0x0602, 0x0603, 0x0604, 0x0605].contains op

/-- Commands allowed in RESCUE and NO_IMAGE. -/
def inRescue (op : Nat) : Bool := [0x0001, 0x0002, 0x0003, 0x0004, 0x0501, 0x0601, 0x0602, 0x0603].contains op

/-- Commands refused after a tamper (R333). -/
def tamperRefuses (op : Nat) : Bool := [0x0305, 0x0401, 0x0501, 0x0601, 0x0602, 0x0603].contains op

/-- Commands that carry a token (R377). -/
def carriesToken (op : Nat) : Bool := [0x0003, 0x0305, 0x0603, 0x0604, 0x0605].contains op

/-- How long a nonce is good: 60 s in grid periods of 102.4 ns. -/
def nonceLife : Nat := 585937500

/-- The nonce that NONCE last returned on a channel pair, within 60 s. -/
def State.nonceOf (s : State) (n : Nat) : Option (List Byte) :=
  ((s.host.nonces.find? fun p => p.1 == n).filter fun p => decide (s.pwr.up ≤ p.2.1 + nonceLife)).map (·.2.2)

/-- What a command answers: a reply, or none where it runs on in the background. -/
abbrev Answer := Option Reply × State

/-- A status with no effect. -/
def refuse (st : Nat) (s : State) : Answer := (some { status := st }, s)

/-- Word `i` of a command. -/
def msgWord (m : List Nat) (i : Nat) : Nat := m.getD i 0

/-- The command of opcode `op` that was taken on channel `n` is carried out: the checks of R376 in their order, then `act`
on the command's words and the nonce of the pair. Without such a command, or while the processor restarts, nothing happens.
-/
def State.serve (s : State) (n op : Nat) (act : State → List Nat → Option (List Byte) → Answer) : State :=
  match s.host.taken.find? fun p => p.1 == n with
  | none => s
  | some (_, m) =>
    let hdr := msgWord m 0
    if !s.cpRuns || hdr / 2 ^ 16 != op then s
    else
      let nonce := s.nonceOf n
      let s : State := if carriesToken op then
          { s with host := { s.host with nonces := s.host.nonces.filter fun p => p.1 != n } } else s
      if secureOnly op && decide (n < 8) then s.reply n hdr { status := 3 }
      else if s.bootState != 4 && !inRescue op then s.reply n hdr { status := 5 }
      else if s.boot.tampered && tamperRefuses op then s.reply n hdr { status := 0xD }
      else match act s m nonce with
        | (some r, s) => s.reply n hdr r
        | (none, s) => s

/-- Answer with a reply and the state after it. -/
def answer (r : Reply × State) : Answer := (some r.1, r.2)

/-- The command of channel `n` runs on in the background (R370). -/
def State.toBackground (s : State) (n op : Nat) (m : List Nat) (data : List Byte := []) (out : Reply := {}) : State :=
  { s with host := { s.host with
    taken := s.host.taken.filter fun p => p.1 != n
    bg := s.host.bg ++ [{ chan := n, op := op, msg := m, data := data, out := out }] } }

/-- Whether a command of an opcode runs in the background. -/
def State.inBackground (s : State) (op : Nat) : Bool := s.host.bg.any fun b => b.op == op

/-! ### Bulk data (R375) -/

/-- What refuses a bulk descriptor for a transfer that needs `need` bytes: a range outside MB6, MB6 not ON, a length too
small, a failed transfer of host memory. -/
def State.bulkFault (s : State) (m : List Nat) (ok : Bool) (need : Nat) : Option Reply :=
  let kind := msgWord m 12 % 4
  let len := msgWord m 15
  if kind = 0 ∨ kind = 3 ∨ (kind = 1 ∧ 0x400000 < msgWord m 13 + len) then some { status := 2 }
  else if kind = 1 ∧ s.get MB_ST_power 6 ≠ 0 then some { status := 5 }
  else if len < need then some { status := 0x10, words := [(1, need)] }
  else if kind = 2 && !(s.on MBX_LINK_up && s.on MBX_LINK_bme && ok) then some { status := 0xF }
  else none

/-- The input bulk of a command. -/
def State.bulkBytes (s : State) (m : List Nat) (x : BulkIn) : List Byte :=
  let len := msgWord m 15
  if msgWord m 12 % 4 = 1 then (List.range len).map fun i => s.memByte (0x3800000 + msgWord m 13 + i)
  else x.data.take len ++ List.replicate (len - x.data.length) 0

/-- Write output bulk in MB6; that of kind 2 goes to host memory with the reply. -/
def State.putBulk (s : State) (m : List Nat) (l : List Byte) : State :=
  if msgWord m 12 % 4 = 1 then
    forEach (l.zip (List.range l.length)) s fun s p => s.putByte (0x3800000 + msgWord m 13 + p.2) p.1
  else s

/-- Deliver a reply with its bulk, or the status of what refuses the transfer; MSG_15 gives the bytes written. -/
def State.deliver (s : State) (m : List Nat) (ok : Bool) (r : Reply) : Reply × State :=
  match s.bulkFault m ok r.bulk.length with
  | some f => (f, s)
  | none => ({ r with words := r.words ++ [(15, r.bulk.length)] }, s.putBulk m r.bulk)

/-! ### Tokens (R377, Table 14-9) -/

/-- The number of bytes of a token. -/
def tokenBytes : Nat := 4696

/-- The key slot of a token. -/
def tokenSlot (t : List Byte) : Nat := leNat ((t.drop 6).take 1)

/-- Whether a token authorises a command. -/
def State.tokenOk (s : State) (t : List Byte) (op arg : Nat) (nonce : List Byte) : Bool :=
  let f := fun a n => leNat ((t.drop a).take n)
  f 0 4 == 0x4E4B4F54 && f 4 2 == op && f 8 8 == s.get64 CP_SERIAL_LO_serial_lo CP_SERIAL_HI_serial_hi && f 16 4 == arg
    && (t.drop 24).take 32 == nonce &&
    (match s.keyHash (tokenSlot t) with
      | some k => Config.tokenVerify k (sha512 (t.take 64)) (ascii "TOKEN") ((t.drop 64).take 4627)
      | none => false)

/-- Check the token that a command carries as bulk, and go on with it. -/
def State.withToken (s : State) (m : List Nat) (x : BulkIn) (op arg : Nat) (nonce : Option (List Byte))
    (go : List Byte → Answer) : Answer :=
  match s.bulkFault m x.ok tokenBytes, nonce with
  | some f, _ => (some f, s)
  | none, none => refuse 0xB s
  | none, some nc =>
    let t := (s.bulkBytes m x).take tokenBytes
    if s.tokenOk t op arg nc then go t else refuse 0xB s

/-- The nonce of tokens that carry none: zeros. -/
def zeroNonce : Option (List Byte) := some (List.replicate 32 0)

/-! ### QUERY (Table 14-8) -/

/-- A reply whose words from MSG_1 on are given. -/
def wordsFrom1 (l : List Nat) : List (Nat × Nat) := (List.range l.length).map fun i => (i + 1, l.getD i 0 % 2 ^ 32)

/-- The registers of item 0. -/
def summaryKeys : List Nat :=
  [CP_BOOT_ST_state.base, CP_LC_state.base, TMC_ST_fstate.base, TMC_SEL_fsel.base, MATE_ST_role.base, PLN_STATE_state.base,
   FAB_PAGE_active.base, TWG_PAGE_active.base, QS_SUMMARY_defined.base, PIT_SUM_faulty.base, EVG_SUM_wraps.base,
   CP_CLAMP_boot.base, CP_SEC_REJ_rej.base, MBX_LINK_up.base]

/-- Item 1: a section. -/
def State.querySection (s : State) (id : Nat) : Reply :=
  let x := (sectionOf s.img id).getD {}
  { words := wordsFrom1 [x.inst + 2 ^ 8 * x.src + 2 ^ 10 * b2n (s.boot.rejected.contains id),
      leNat (x.digest.take 4), leNat ((x.digest.drop 4).take 4), tget (fun _ => 0) s.boot.clamps id] }

/-- The lane term in use at a slot, in 25 ps units: of the lead lane of its lane group, or of its mate lane; an engine slot
has none. -/
def State.slotTerm (s : State) (slot : Nat) (tx : Bool) : Nat :=
  let use := fun n => if tx then (s.laneSt n).txUse else (s.laneSt n).rxUse
  match s.mateEntry slot with
  | some e => use (128 + e.n FABRIC_PAGE_mate_lane)
  | none => match ownerOf s.img (b2n tx) slot with
    | some (e, _) => use (leadOfCtx s.img e)
    | none => 0

/-- The six numbers of item 2: residence, ingress term, host alignment term, egress term, deskew hold, and transit. -/
def residenceWords (res : Int) (ing host egr : Nat) (hold : Int) : Reply :=
  let ps := 25 * ((ing + egr : Nat) : Int) + 800 * (res + (host : Int) + hold)
  { words := wordsFrom1 [unsignedOf 32 res, ing, host, egr, unsignedOf 32 hold, unsignedOf 32 ps] }

/-- Item 2 for a slot output. -/
def State.querySlot (s : State) (out : Nat) (alt : Bool) : Reply :=
  match s.readOf out with
  | none => { status := 8 }
  | some r =>
    if alt && !r.b FABRIC_PAGE_prot then { status := 8 }
    else
      let slot := (slotAt (writesOf s.img) (pairOf (r.n FABRIC_PAGE_rd_slice) (readSource r alt).1)).getD 0
      let hold : Int := match engineOf s.img slot with
        | some (e, _) => if e.kind = 2 then (s.evgMerge (e.n EVERGREEN_merge)).hold else 0
        | none => 0
      residenceWords (slotResidence s.img r alt) (s.slotTerm slot false) 0 (s.slotTerm out true) hold

/-- Item 2 for a twig output. An output twig of a twig wrap or merge has its residence from Table 8-2, and that of a merge its
deskew hold (DEDUCED, log entry 211). -/
def State.queryTwig (s : State) (key : Nat) (alt : Bool) : Reply :=
  let h := key / 480
  let t := key % 480
  let host := fun src => match hostCtx s.img src with | some c => s.get MAP_HOST_TERM_term (c.n MAPPING_ctx) | none => 0
  let egr := match hostRead s.img h with
    | some (r, _) => s.slotTerm (r.n FABRIC_PAGE_out) true
    | none => 0
  match twigEntryOf s.img h t with
  | some e =>
    if alt && !e.b TWIG_PAGE_prot then { status := 8 }
    else
      let src := (twigRead e alt).1
      residenceWords (entryResidence s.img e alt) (s.slotTerm (hostSlot s.img src) false) (host src) egr 0
  | none => match evgTwigOf s.img h t with
    | some (e, _) =>
      if alt then { status := 8 }
      else if e.kind = 1 then
        let src := match s.mapE (e.n EVERGREEN_w_src) with | some c => c.n MAPPING_host | none => 0
        residenceWords (wrapTwigResidence s.img e h t) (s.slotTerm (hostSlot s.img src) false) (host src) egr 0
      else
        let m := s.evgMerge (e.n EVERGREEN_merge)
        residenceWords (mergeTwigResidence s.img h t m.lastP) 0 0 egr m.hold
    | none => { status := 8 }

/-- Item 3: the registers of all slices, then the last 32 records of rotations and failed slices. -/
def State.sliceHealth (s : State) (sec : Bool) : List Byte :=
  let regs := (List.range 148).flatMap fun i => leBytes 4 (s.shown sec (0x4000 + 4 * i)).toNat
  let l := s.heldRecs.filter fun r => r.typ == kCOPPICE_DONE.typ || r.typ == kCOPPICE_MISMATCH.typ || r.typ == kSLICE_FAIL.typ
  regs ++ (l.drop (l.length - 32)).flatMap fun r => r.bytes sec

/-- The identity public key. -/
def State.publicKey (s : State) : List Byte := leBytes 2592 (Config.publicKey s.boot.fuse.seed)

/-- QUERY. -/
def State.query (s : State) (n : Nat) (m : List Nat) (x : BulkIn) : Reply × State :=
  let sec := decide (8 ≤ n)
  let idx := msgWord m 2
  let sub := msgWord m 3
  match msgWord m 1 with
  | 0 => ({ words := wordsFrom1 (summaryKeys.map fun k => (s.shown sec k).toNat) }, s)
  | 1 => (if idx = 0 ∨ 16 < idx then { status := 2 } else s.querySection idx, s)
  | 2 => (if (if bit sub 0 then 153599 else 2559) < idx then { status := 2 }
          else if bit sub 0 then s.queryTwig idx (bit sub 1) else s.querySlot idx (bit sub 1), s)
  | 3 => s.deliver m x.ok { bulk := s.sliceHealth sec }
  | 4 => if 262143 < idx then ({ status := 2 }, s)
         else if s.on FRM_TTI_ST_tti_valid idx then s.deliver m x.ok { bulk := leBytes 64 (s.labelSt idx).tti.acc }
         else ({ status := 8 }, s)
  | 5 => if s.get CP_LC_state = 1 ∨ s.get CP_LC_state = 2 then s.deliver m x.ok { bulk := s.publicKey }
         else ({ status := 5 }, s)
  | 6 => match s.dir (s.get CP_BOOT_ST_cs) with
    | some d => ({ words := wordsFrom1 [d.a.seq, d.a.state % 8, d.b.seq, d.b.state % 8, s.get CP_BOOT_ST_slot] }, s)
    | none => ({ status := 0xE }, s)
  | _ => ({ status := 2 }, s)

def effQuery (n : Nat) (x : BulkIn) (s : State) : State := s.serve n 0x0001 fun s m _ => answer (s.query n m x)
def execQuery (n : Nat) (x : BulkIn) (s : State) : Host.Outcome State Fault Refusal := .next (effQuery n x s.newCycle)

/-! ### Sessions (R360, R377) -/

/-- NONCE: a fresh 32-byte nonce for the channel pair, from the entropy source (a free value). -/
def State.nonce (s : State) (n : Nat) : Reply × State :=
  let (v, s) := s.draw
  let l := leBytes 32 v
  let s : State := { s with host := { s.host with
    nonces := (s.host.nonces.filter fun p => p.1 != n) ++ [(n, s.pwr.up, l)] } }
  ({ words := wordsFrom1 ((List.range 8).map fun i => leNat ((l.drop (4 * i)).take 4)) }, s)
def effNonce (n : Nat) (s : State) : State := s.serve n 0x0002 fun s _ _ => answer (s.nonce n)
def execNonce (n : Nat) (s : State) : Host.Outcome State Fault Refusal := .next (effNonce n s.newCycle)

/-- SESSION: an accepted token opens the session. -/
def effSession (n : Nat) (x : BulkIn) (s : State) : State :=
  s.serve n 0x0003 fun s m nonce => s.withToken m x 0x0003 0 nonce fun _ =>
    (some {}, (s.setB BM_HOST_WORLD_pcie_sec true).report kSESSION [(1, 1)])
def execSession (n : Nat) (x : BulkIn) (s : State) : Host.Outcome State Fault Refusal := .next (effSession n x s.newCycle)

/-- SESSION_END. -/
def effSessionEnd (n : Nat) (s : State) : State :=
  s.serve n 0x0004 fun s _ _ =>
    let was := s.on BM_HOST_WORLD_pcie_sec
    let s := s.endSession
    (some {}, if was && !s.on BM_HOST_WORLD_pcie_sec then s.report kSESSION [(1, 0)] else s)
def execSessionEnd (n : Nat) (s : State) : Host.Outcome State Fault Refusal := .next (effSessionEnd n s.newCycle)

/-! ### Changes (R159, R164, R165, R378) -/

/-- The section instances that APPLY packs into MSG_2 to MSG_7. -/
def applyNames (m : List Nat) : List (Nat × Nat) :=
  (List.range (slice (msgWord m 1) 11 8)).map fun i =>
    let w := msgWord m (2 + i / 2) / 2 ^ (16 * (i % 2))
    (w % 2 ^ 8, w / 2 ^ 8 % 2 ^ 8)

def effApply (n : Nat) (s : State) : State :=
  s.serve n 0x0101 fun s m _ => answer (s.cmdApply (msgWord m 1 % 4) (applyNames m))
def execApply (n : Nat) (s : State) : Host.Outcome State Fault Refusal := .next (effApply n s.newCycle)

def effApplyPlan (n : Nat) (s : State) : State :=
  s.serve n 0x0102 fun s m _ =>
    let start := if bit (msgWord m 4) 31 then some (msgWord m 3 + 2 ^ 32 * (msgWord m 4 % 2 ^ 16)) else none
    answer (s.cmdApplyPlan (msgWord m 1 % 4) (msgWord m 2 % 2 ^ 8) (slice (msgWord m 2) 15 8) start)
def execApplyPlan (n : Nat) (s : State) : Host.Outcome State Fault Refusal := .next (effApplyPlan n s.newCycle)

def effHaltPlan (n : Nat) (s : State) : State := s.serve n 0x0103 fun s _ _ => answer s.cmdHaltPlan
def execHaltPlan (n : Nat) (s : State) : Host.Outcome State Fault Refusal := .next (effHaltPlan n s.newCycle)

/-! ### Protection (R188, R207) -/

def effForceSwitch (n : Nat) (s : State) : State :=
  s.serve n 0x0201 fun s m _ => answer (s.cmdForceSwitch (msgWord m 1) (msgWord m 2))
def execForceSwitch (n : Nat) (s : State) : Host.Outcome State Fault Refusal := .next (effForceSwitch n s.newCycle)

def effClearForce (n : Nat) (s : State) : State := s.serve n 0x0202 fun s m _ => answer (s.cmdClearForce (msgWord m 1))
def execClearForce (n : Nat) (s : State) : Host.Outcome State Fault Refusal := .next (effClearForce n s.newCycle)

def effMateRole (n : Nat) (s : State) : State := s.serve n 0x0701 fun s m _ => answer (s.cmdMateRole (msgWord m 1))
def execMateRole (n : Nat) (s : State) : Host.Outcome State Fault Refusal := .next (effMateRole n s.newCycle)

/-! ### Records (R391, R392, R396) -/

def effFreeze (n : Nat) (s : State) : State := s.serve n 0x0303 fun s m _ => answer (s.cmdFreeze (msgWord m 1))
def execFreeze (n : Nat) (s : State) : Host.Outcome State Fault Refusal := .next (effFreeze n s.newCycle)

def effThaw (n : Nat) (s : State) : State := s.serve n 0x0304 fun s _ _ => answer s.cmdThaw
def execThaw (n : Nat) (s : State) : Host.Outcome State Fault Refusal := .next (effThaw n s.newCycle)

/-- CLEAR_EVT: refused in a freeze before its token is looked at. -/
def effClearEvt (n : Nat) (x : BulkIn) (s : State) : State :=
  s.serve n 0x0305 fun s m nonce =>
    if s.on EVR_ST_frozen then refuse 5 s
    else s.withToken m x 0x0305 0 nonce fun t => answer (s.cmdClearEvt (tokenSlot t))
def execClearEvt (n : Nat) (x : BulkIn) (s : State) : Host.Outcome State Fault Refusal := .next (effClearEvt n x s.newCycle)

/-- HARVEST_EVT is accepted: it runs in the background, and takes its items when it ends. -/
def effHarvestEvt (n : Nat) (s : State) : State :=
  s.serve n 0x0301 fun s m _ =>
    let q := msgWord m 1
    if 4 ≤ q ∧ q ≠ 8 then refuse 2 s
    else match s.bulkFault m true 0 with
      | some f => (some f, s)
      | none => if s.inBackground 0x0301 then refuse 4 s else (none, s.toBackground n 0x0301 m)
def execHarvestEvt (n : Nat) (s : State) : Host.Outcome State Fault Refusal := .next (effHarvestEvt n s.newCycle)

/-- HARVEST_PM is accepted. -/
def effHarvestPm (n : Nat) (s : State) : State :=
  s.serve n 0x0302 fun s m _ => match s.bulkFault m true 0 with
    | some f => (some f, s)
    | none => if s.inBackground 0x0302 then refuse 4 s else (none, s.toBackground n 0x0302 m)
def execHarvestPm (n : Nat) (s : State) : Host.Outcome State Fault Refusal := .next (effHarvestPm n s.newCycle)

/-! ### The calendar clock (R305) -/

/-- SET_RTC: refused while the time servo is LOCKED. -/
def State.cmdSetRtc (s : State) (m : List Nat) : Reply × State :=
  if s.get TMC_ST_tstate = 2 then ({ status := 0xA }, s)
  else
    let sec := msgWord m 1 + 2 ^ 32 * (msgWord m 2 % 2 ^ 16)
    let tick := msgWord m 3 % 2 ^ 15
    let old := s.rtc
    let s := s.report kTIME_SET [(1, 0), (6, old / 32768), (2, old % 32768), (6, sec), (2, tick)]
    let s := ((s.setRtc (sec * 32768 + tick)).setB RTC_ST_holding false).setB RTC_ST_ahead false
    let s := (s.setB RTC_ST_valid true).incW RTC_CNT_sets
    ({ words := wordsFrom1 [old / 32768, old / 32768 / 2 ^ 32, old % 32768] }, s)
def effSetRtc (n : Nat) (s : State) : State := s.serve n 0x0401 fun s m _ => answer (s.cmdSetRtc m)
def execSetRtc (n : Nat) (s : State) : Host.Outcome State Fault Refusal := .next (effSetRtc n s.newCycle)

/-! ### FLASH_WRITE (R160, R379) -/

/-- Where a FLASH_WRITE writes: the flash and the image slot. -/
def writeFlashOf (m : List Nat) : Nat × Nat := (msgWord m 1 % 2, slice (msgWord m 1) 2 1)

/-- Whether an APPLY or plan in progress protects a flash range (R160). -/
def State.protects (s : State) (cs a n : Nat) : Bool :=
  s.changing && s.chg.cs == cs && decide (a < s.chg.base + s.chg.size) && decide (s.chg.base < a + n)

/-- FLASH_WRITE is accepted: its data are read, and it waits for the flash. -/
def State.flashWrite (s : State) (n : Nat) (m : List Nat) (x : BulkIn) : Answer :=
  let (cs, k) := writeFlashOf m
  let off := msgWord m 2
  let len := msgWord m 15
  if 1 < k ∨ off % 256 ≠ 0 ∨ len % 256 ≠ 0 ∨ len = 0 ∨ 1048576 < len then refuse 2 s
  else match s.dir cs with
    | none => refuse 0xE s
    | some d =>
      let e := d.slot k
      if e.size < off + len then refuse 2 s
      else match s.bulkFault m x.ok 0 with
        | some f => (some f, s)
        | none =>
          if (s.bootState = 4 ∧ s.get CP_BOOT_ST_cs = cs ∧ s.get CP_BOOT_ST_slot = k) || s.protects cs (e.base + off) len ||
              s.inBackground 0x0501 then refuse 4 s
          else
            let s : State := { s with mate := { s.mate with flashUse := s.on MATE_ST_rank && s.flashFree } }
            (none, s.toBackground n 0x0501 m (s.bulkBytes m x))
def effFlashWrite (n : Nat) (x : BulkIn) (s : State) : State := s.serve n 0x0501 fun s m _ => s.flashWrite n m x
def execFlashWrite (n : Nat) (x : BulkIn) (s : State) : Host.Outcome State Fault Refusal :=
  .next (effFlashWrite n x s.newCycle)

/-- Program `l` at an offset of an image slot: the slot is marked EMPTY first, and each 64 KiB sector that the write enters
is erased. -/
def State.programSlot (s : State) (cs k off : Nat) (l : List Byte) : State :=
  match s.dir cs with
  | none => s
  | some d =>
    let e := d.slot k
    let a := e.base + off
    let s := if e.state = 0 then s else s.markSlot cs k 0
    let sectors := (List.range (l.length / 0x10000 + 2)).map fun i => 0x10000 * (ceilDiv a 0x10000 + i)
    let s := forEach (sectors.filter fun b => decide (b < a + l.length)) s fun s b => s.eraseFlash cs b (b + 0x10000)
    s.putFlash cs a l

/-- The end of a FLASH_WRITE: its reply, and whether a boot follows. -/
def State.flashDone (s : State) (b : BgCmd) (x : DoneIn) : Reply × Bool × State :=
  let (cs, k) := writeFlashOf b.msg
  if b.mark = 1 then ({ status := 0xD }, false, s.programSlot cs k (msgWord b.msg 2) (b.data.take (256 * x.pages)))
  else if x.err || !s.flashFree then ({ status := 0xE }, false, s)
  else
    let s := s.programSlot cs k (msgWord b.msg 2) b.data
    if !bit (msgWord b.msg 3) 0 then ({ words := wordsFrom1 [b.data.length, 0] }, false, s)
    else match s.dir cs with
      | none => ({ status := 0xE }, false, s)
      | some d =>
        let e := d.slot k
        let c := s.verify (s.header cs e.base) e.size
        let r : Reply := { words := wordsFrom1 [b.data.length, c] }
        if c ≠ 0 then (r, false, s) else (r, s.bootState == 5 || s.bootState == 6, s.markSlot cs k 1)

/-! ### Lifecycle (R320, R327 to R331) -/

/-- PROVISION is accepted: the hashes and the identity seed are blown, and the first fuse of the group. -/
def State.provision (s : State) (n : Nat) (m : List Nat) (x : BulkIn) : Answer :=
  let k := msgWord m 1
  if k = 0 ∨ 4 < k then refuse 2 s
  else match s.bulkFault m x.ok (max (64 * k) 2592) with
    | some f => (some f, s)
    | none =>
      if s.get CP_LC_state ≠ 0 then refuse 0xC s
      else if s.inBackground 0x0602 then refuse 4 s
      else
        let l := s.bulkBytes m x
        let keys := (List.range k).map fun i => (i, (l.drop (64 * i)).take 64)
        let (v, s) := s.draw
        let s := s.setFuse { s.boot.fuse with keys := keys, seed := leBytes 32 v, prov := max s.boot.fuse.prov 1 }
        (none, s.toBackground n 0x0602 m)
def effProvision (n : Nat) (x : BulkIn) (s : State) : State := s.serve n 0x0602 fun s m _ => s.provision n m x
def execProvision (n : Nat) (x : BulkIn) (s : State) : Host.Outcome State Fault Refusal := .next (effProvision n x s.newCycle)

/-- LC_ADVANCE is accepted: the first fuse of its group is blown. -/
def State.lcAdvance (s : State) (n : Nat) (m : List Nat) (x : BulkIn) : Answer :=
  let dest := msgWord m 1
  let st := s.get CP_LC_state
  if dest ≠ 2 ∧ dest ≠ 3 then refuse 2 s
  else if !((st == 1) || (st == 2 && dest == 3)) then refuse 0xC s
  else if s.inBackground 0x0603 then refuse 4 s
  else s.withToken m x 0x0603 dest zeroNonce fun _ =>
    let f := s.boot.fuse
    let s := s.setFuse (if dest = 2 then { f with depl := max f.depl 1 } else { f with ret := max f.ret 1 })
    (none, s.toBackground n 0x0603 m)
def effLcAdvance (n : Nat) (x : BulkIn) (s : State) : State := s.serve n 0x0603 fun s m _ => s.lcAdvance n m x
def execLcAdvance (n : Nat) (x : BulkIn) (s : State) : Host.Outcome State Fault Refusal := .next (effLcAdvance n x s.newCycle)

/-- KEY_REVOKE: the token is signed by another present, unrevoked slot. -/
def State.keyRevoke (s : State) (m : List Nat) (x : BulkIn) : Answer :=
  let k := msgWord m 1
  let good := (s.boot.fuse.keys.map (·.1)).filter fun i => !s.boot.fuse.revoked.contains i
  if 4 ≤ k then refuse 2 s
  else if s.get CP_LC_state = 0 ∨ good = [k] ∨ s.get CP_LC_key_used = k then refuse 0xC s
  else s.withToken m x 0x0604 k zeroNonce fun t =>
    if tokenSlot t = k then refuse 0xB s
    else
      let f := s.boot.fuse
      let s := s.setFuse { f with revoked := if f.revoked.contains k then f.revoked else f.revoked ++ [k] }
      (some {}, s.report kKEY_REVOKED [(1, k), (1, tokenSlot t)])
def effKeyRevoke (n : Nat) (x : BulkIn) (s : State) : State := s.serve n 0x0604 fun s m _ => s.keyRevoke m x
def execKeyRevoke (n : Nat) (x : BulkIn) (s : State) : Host.Outcome State Fault Refusal := .next (effKeyRevoke n x s.newCycle)

/-- DEBUG_UNLOCK: in PROVISIONED only (Table 12-10, which follows the state at boot). -/
def effDebugUnlock (n : Nat) (x : BulkIn) (s : State) : State :=
  s.serve n 0x0605 fun s m _ =>
    if s.get CP_LC_boot_state ≠ 1 then refuse 5 s
    else s.withToken m x 0x0605 0 zeroNonce fun _ => (some {}, s.setB CP_LC_debug true)
def execDebugUnlock (n : Nat) (x : BulkIn) (s : State) : Host.Outcome State Fault Refusal :=
  .next (effDebugUnlock n x s.newCycle)

/-! ### ATTEST (R334, Table 12-11) -/

/-- The report; `seq` is the number of the ATTEST record. -/
def State.report12 (s : State) (seq : Nat) (nonce : List Byte) : List Byte :=
  let dg := (List.range 16).flatMap fun w => leBytes 4 (s.get CP_IMG_DIGEST_digest w)
  leBytes 2 1 ++ leBytes 2 256 ++ leBytes 1 (s.get CP_LC_state) ++ leBytes 1 (s.get CP_LC_key_used)
    ++ leBytes 1 (b2n (s.get CP_BOOT_ST_slot == 1) + 2 * s.get CP_BOOT_ST_fallback + 4 * s.get CP_BOOT_ST_confirmed)
    ++ leBytes 1 ((s.reg 0x84).toNat % 32) ++ leBytes 8 (s.get64 CP_SERIAL_LO_serial_lo CP_SERIAL_HI_serial_hi)
    ++ leBytes 2 0xB1 ++ leBytes 1 (s.get CP_RUN_patches) ++ [0] ++ leBytes 4 (s.get CP_BOOT_EPOCH_epoch) ++ leBytes 8 seq
    ++ leBytes 8 s.sysSec ++ leBytes 4 (s.get TMC_NS_ns) ++ leBytes 4 (s.get TMC_ST_traceable)
    ++ leBytes 4 (s.get CP_IMG_VER_ver) ++ leBytes 1 (s.get CP_IMG_SVN_img_svn) ++ leBytes 1 (s.get CP_IMG_SVN_fuse_svn)
    ++ leBytes 2 0 ++ leBytes 4 (s.get CP_CLAMP_boot) ++ leBytes 4 (s.get CP_CLAMP_apply)
    ++ leBytes 4 (s.reg CP_SEC_REJ_rej.base).toNat ++ leBytes 4 (s.get FAB_PAGE_ID_id) ++ leBytes 4 (s.get TWG_PAGE_ID_id)
    ++ leBytes 4 0 ++ dg ++ sha512 s.publicKey ++ nonce ++ leBytes 16 0

/-- The ATTEST record is accepted at once, after those offered before it (R384), so that the report can carry its number. A record that RECORDS.keep_sev leaves
out has no number: the report then carries a free value. -/
def State.attestRecord (s : State) : Nat × State :=
  let s := s.acceptAll.irqSet 483
  if s.gl RECORDS_keep_sev < kATTEST.sev then let (v, s) := s.draw; (v % 2 ^ 64, s)
  else (s.rcd.nextSeq, s.acceptOffer ⟨s.cyc, kATTEST.typ, kATTEST.sev, true, []⟩)

/-- ATTEST is accepted: the report describes the device now; its signing is queued. -/
def State.attest (s : State) (n : Nat) (m : List Nat) (x : BulkIn) : Answer :=
  let lc := s.get CP_LC_state
  if (lc ≠ 1 ∧ lc ≠ 2) || !s.on CP_LC_id_key then refuse 5 s
  else match s.bulkFault m x.ok 4888 with
    | some f => (some f, s)
    | none =>
      let nonce := (List.range 8).flatMap fun i => leBytes 4 (msgWord m (1 + i))
      let now := s
      let (seq, s) := s.attestRecord
      let rep := now.report12 seq nonce
      let sig := leBytes 4627 (Config.sign s.boot.fuse.seed (sha512 rep) (ascii "ATTEST"))
      (none, s.toBackground n 0x0601 m [] { bulk := rep ++ sig ++ List.replicate 5 0 })
def effAttest (n : Nat) (x : BulkIn) (s : State) : State := s.serve n 0x0601 fun s m _ => s.attest n m x
def execAttest (n : Nat) (x : BulkIn) (s : State) : Host.Outcome State Fault Refusal := .next (effAttest n x s.newCycle)

/-! ### The end of a background command (R333, R370) -/

/-- The oldest background command of a channel; ATTESTs end in the order in which they came. -/
def State.bgOf (s : State) (n : Nat) : Option BgCmd :=
  (s.host.bg.find? fun b => b.chan == n).filter fun b =>
    b.op != 0x0601 || (match s.host.bg.find? fun c => c.op == 0x0601 with | some c => c.chan == n | none => false)

/-- What a background command does at its end: its reply, whether a boot follows, and the state. A lifecycle transition
completes whatever has come between. -/
def State.bgEnd (s : State) (b : BgCmd) (x : DoneIn) : Reply × Bool × State :=
  let cut := fun (r : Reply) => if b.mark = 1 then ({ status := 0xD } : Reply) else r
  if b.op = 0x0501 then s.flashDone b x
  else if b.op = 0x0602 then
    let s := s.completeBurns
    if b.mark = 1 then ({ status := 0xD }, false, s)
    else let (r, s) := s.deliver b.msg x.ok { bulk := s.publicKey }; (r, false, s)
  else if b.op = 0x0603 then (cut {}, false, s.completeBurns)
  else if b.op = 0x0601 then
    if b.mark = 1 then ({ status := 0xD }, false, s)
    else let (r, s) := s.deliver b.msg x.ok b.out; (r, false, s)
  else match s.bulkFault b.msg x.ok 0 with
    | some f => (f, false, s)
    | none =>
      let room := msgWord b.msg 15
      let (r, s) := if b.op = 0x0301 then s.cmdHarvestEvt (decide (8 ≤ b.chan)) (msgWord b.msg 1) (msgWord b.msg 2) room
        else s.cmdHarvestPm (msgWord b.msg 1) room
      if r.status = 0x10 then (r, false, s) else let (r, s) := s.deliver b.msg true r; (r, false, s)

/-- BACKGROUND_COMMAND_DONE: the background command of channel `n` ends. -/
def effBackgroundCommandDone (n : Nat) (x : DoneIn) (s : State) : State :=
  if !s.cpRuns then s
  else match s.bgOf n with
    | none => s
    | some b =>
      let s : State := { s with host := { s.host with bg := s.host.bg.filter fun c => c != b } }
      let (r, boots, s) := s.bgEnd b x
      let s := if b.op = 0x0501 then ({ s with mate := { s.mate with flashUse := false } } : State).arbitrate else s
      let s := if b.mark = 2 then s else s.reply n (msgWord b.msg 0) r
      if boots then s.bootImage x.ms else s
def execBackgroundCommandDone (n : Nat) (x : DoneIn) (s : State) : Host.Outcome State Fault Refusal :=
  .next (effBackgroundCommandDone n x s.newCycle)

end Sys2Proof.Machine
end

