-- ==== Sys2Proof/Machine/Grid.lean ====
section
/-!
DEFINITION. Sys2Proof/Machine/Grid.lean: the grid period (R126 to R133, with what the mappers, the mate block, the lanes and
the counters do in it) and the grid multiframe boundary in the order of Table 1-4.
-/
namespace Sys2Proof.Machine

/-! ### Ingress: the blocks of a grid period -/

/-- The bytes of a switched ODU that fall due: what they were due in units of 2^-24 byte, their whole number C after the
cap of R105, and the bytes. -/
structure OduPeriod where
  ctx  : Nat
  due  : Nat
  c    : Nat
  data : Nat
  deriving DecidableEq, Repr

/-- The receive contexts in ODU carriage. -/
def State.odus (s : State) : List Entry :=
  (kindOf s.img 4 0).filter fun e => e.n MAPPING_dir == 0 && carriageOf e == 2

/-- R105 for one context: the phase accumulator, the count C of the grid period, and the C bytes that leave the context's
queue. MAP_GMP.cm shows C after the cap (DESIGN CHOICE, log entry 202). -/
def State.oduPeriod (s : State) (x : GridIn) (e : Entry) : OduPeriod × State :=
  let c := e.n MAPPING_ctx
  let due := match x.odus.find? fun o => o.ctx == c with | some o => o.due | none => 0
  let m := s.mapSt c
  let acc := m.phase + due
  let cap := 69 * (slotGroup s.img e).length
  let s := s.setMapSt c { m with phase := acc % 2 ^ 24 }
  let n := acc / 2 ^ 24
  let s := (if cap < n then s.adaptOvf c else s).set MAP_GMP_cm (min n cap) c
  let (data, s) := s.pull c (8 * min n cap)
  (⟨c, due, min n cap, data⟩, s)

/-- R105 for every switched ODU. -/
def State.oduPeriods (s : State) (x : GridIn) : List OduPeriod × State :=
  s.odus.foldl (fun (a : List OduPeriod × State) e =>
    let r := a.2.oduPeriod x e
    (a.1 ++ [r.1], r.2)) ([], s)

/-- The blocks of the engine slots of every ODU wrap and merge in this grid period, by flat slot (R213 to R218, R221). -/
def State.engineBlocks (s : State) (odus : List OduPeriod) : List (Nat × Blk) × State :=
  let place := fun (first : Nat) (l : List Blk) => (l.zip (List.range l.length)).map fun p => (first + p.2, p.1)
  let r := ((s.entries EVERGREEN_wrap).filter fun e => e.n EVERGREEN_w_grain == 0).foldl
    (fun (a : List (Nat × Blk) × State) e =>
      let o := (odus.find? fun o => o.ctx == e.n EVERGREEN_w_src).getD ⟨0, 0, 0, 0⟩
      let (l, s) := a.2.wrapPeriod e o.due o.c o.data
      (a.1 ++ place (e.n EVERGREEN_w_first) l, s)) ([], s)
  ((s.entries EVERGREEN_merge).filter fun e => e.n EVERGREEN_m_grain == 0).foldl
    (fun (a : List (Nat × Blk) × State) e =>
      let (l, s) := a.2.mergePeriod e
      (a.1 ++ place (e.n EVERGREEN_m_out_first) l, s)) r

/-- The block of a receive context for one of its slots: bytes of an ODU (R105), the block of an output host (R121), or
eight words of a stream (R103). A failing context's block carries the fail marker (R88). -/
def State.ctxBlock (s : State) (streams : List (Nat × List W66)) (odus : List OduPeriod) (e : Entry) (j : Nat) : State × Blk :=
  let c := e.n MAPPING_ctx
  let fail := s.ctxFails c
  if carriageOf e = 3 then
    let h := e.n MAPPING_host
    let b := s.fab.gp % 125
    let s := s.assemble h b
    (s, s.hostBlock h b)
  else if carriageOf e = 2 then
    let o := (odus.find? fun o => o.ctx == c).getD ⟨0, 0, 0, 0⟩
    (s, (dealBlocks (slotGroup s.img e).length o.c o.data fail).getD j (mkBlk 0 0 fail false none))
  else
    let w := ((streams.find? fun p => p.1 == c).map (·.2)).getD []
    let (body, mapper) := wordsBlk ((w.drop (8 * j)).take 8)
    (s, mkBlk body mapper fail false none)

/-- The block that the ingress port has for an input slot, with its tag, or none where nothing produces one (R129). -/
def State.slotBlock (s : State) (streams : List (Nat × List W66)) (odus : List OduPeriod) (eng : List (Nat × Blk)) (slot : Nat) :
    State × Option Blk :=
  match s.mateEntry slot with
  | some m =>
    let key := mateKey s.fab.gp (m.n FABRIC_PAGE_mate_lane) (m.n FABRIC_PAGE_mate_idx)
    (s, (s.fab.mateIn.find? fun p => p.1 == key).map (·.2))
  | none =>
    let r : State × Option Blk := match ownerOf s.img 0 slot with
      | some (e, j) => let (s, b) := s.ctxBlock streams odus e j; (s, some b)
      | none => (s, (eng.find? fun p => p.1 == slot).map (·.2))
    match r.2, r.1.tagPlace slot with
    | some b, some p => let (s, b) := r.1.tagBlock p b; (s, some b)
    | b, _ => (r.1, b)

/-- Write entries in ascending member number of their sources. -/
def State.writeOrder (s : State) : List (Nat × Nat) :=
  let key := fun (w : Nat × Nat) => match s.tagPlace w.2 with | some p => p.member | none => 0
  (List.range 80).flatMap fun j => (writesOf s.img).filter fun w => key w == j

/-- Every write of a grid period. -/
def State.writeAll (s : State) (x : GridIn) : State :=
  let (streams, s) := s.streamPeriods x
  let (odus, s) := s.oduPeriods x
  let (eng, s) := s.engineBlocks odus
  if !s.fab.on then s
  else
    forEach s.writeOrder s fun s w =>
      let (s, b) := s.slotBlock streams odus eng w.2
      let s := match b with | some _ => s | none => (s.inc FAB_ERR_nosrc).irqSet 167
      let nosrc := b.isNone
      let b := b.getD failBlk
      let s := forEach (s.cvusOf 1) s fun s u => if s.get CVU_SEL_slot u = w.2 then s.cvuFeed u (leBytes 64 b.body) else s
      s.writeBlk w.1 b nosrc

/-! ### Egress -/

/-- What the egress mapper of a context in STREAM carriage sends in a grid period: the words read back in the order of R103,
or local fault ordered sets while its signal is replaced (R88, R89). Those of a client of a terminated ODU go through its
rate adaptation (R104, R108). -/
def State.sendStream (s : State) (e : Entry) (l : List Blk) : State :=
  let c := e.n MAPPING_ctx
  let w := if (s.egSt c).repl ≠ 0 then List.replicate (8 * l.length) faultW else l.flatMap fun b => blkWords b.body b.mapper
  match serverKind s.img e with
  | 2 => forEach w s fun s b => s.feed c 66 (b.sync % 4 + 4 * b.data)
  | 3 => forEach w s fun s b => s.adaptIn c b
  | _ => { s with out := { s.out with streams := s.out.streams ++ [(c, w)] } }

/-- What the egress mapper of a switched ODU takes in a grid period: C bytes that wait to be mapped into the server; while its
signal is replaced, bytes of ODU-AIS or ODU-OCI, all-ones or 0x66, at the rate of the blocks, or the nominal one where they
bring none (R88, R89; PRESUMED, log entry 199). -/
def State.sendOdu (s : State) (e : Entry) (l : List Blk) : State :=
  let c := e.n MAPPING_ctx
  let n := (l.map fun b => b.mapper / 2 ^ 41).sum
  let repl := (s.egSt c).repl
  let s := s.set MAP_GMP_cm n c
  if repl = 0 then forEach l s fun s b => s.feed c (8 * (oduBytes b.body b.mapper).1) (oduBytes b.body b.mapper).2
  else
    let n := if n = 0 then nominalDue l.length / 2 ^ 24 else n
    s.feed c (8 * n) (leNat (List.replicate n (if repl = 1 then 0xFF else 0x66)))

/-- What the egress mapper of a twig host takes in a grid period (R120, R121): on an OPUCn its bytes wait to be mapped, on a
FlexE group they leave as 66B blocks. -/
def State.sendHost (s : State) (e : Entry) (b : Blk) : State :=
  let c := e.n MAPPING_ctx
  let first := bit b.mapper 0
  let s := if first then s.set MAP_HOST_fnum (b.body / 2 ^ 128 % 256) c else s
  if serverKind s.img e = 5 then
    { s with out := { s.out with streams := s.out.streams ++ [(c, hostBlocks b.body first)] } }
  else s.feed c 512 b.body

/-- What an egress context received in a grid period (R88, R89), and what its mapper makes of it. -/
def State.egressTake (s : State) (e : Entry) : State :=
  let c := e.n MAPPING_ctx
  let l := (slotGroup s.img e).map s.outBlk
  let fail := l.any Blk.fail
  let ueq := l.any Blk.ueq
  let g := s.egSt c
  let s := s.setEgSt c { g with
    fail := g.fail || fail, ueq := g.ueq || ueq, good := g.good || (!fail && !ueq)
    last := if fail then 1 else if ueq then 2 else 0 }
  match carriageOf e with
  | 1 => s.sendStream e l
  | 2 => s.sendOdu e l
  | 3 => match l with | b :: _ => s.sendHost e b | [] => s
  | _ => s

/-- What mate lane `j` sends in a grid period: section `gp mod 1,024` of its mate frame, that is its two bytes of the overhead
stream and the blocks delivered for its mate slots, those that would start late with fail and ueq set, all scrambled; before
section 0 the frame word (R198). The fill bytes after section 1,023 are not shown, since their number follows from lane
timing: the scrambler starts a frame in a free state. -/
def State.mateSend (s : State) (late : List (Nat × Nat)) (j : Nat) : State :=
  if s.get LN_STATE_state (128 + j) ≠ 6 then s
  else
    let n := s.mateSlots j
    let out := fun i => (s.entries FABRIC_PAGE_mate_slot).find? fun m =>
      m.n FABRIC_PAGE_mate_lane == j && m.n FABRIC_PAGE_mate_idx == i
    let l := (List.range n).map fun i =>
      if late.contains (j, i) then mkBlk 0 0 true true none
      else match out i with | some m => s.outBlk (m.n FABRIC_PAGE_mate_slot) | none => ueqBlk
    let k := (late.filter fun p => p.1 == j && decide (p.2 < n)).length
    let x := s.fab.gp % 1024
    let (scr, s) := if x = 0 then (let (v, s) := s.draw; (v % 2 ^ 58, s)) else ((s.mateLane j).scr, s)
    let m := s.mateLane j
    let (out, scr) := scramble scr (leBytes 2 (m.ovh / 2 ^ (16 * x) % 2 ^ 16) ++ mateSection l)
    let s := s.setMateLane j { m with scr := scr }
    let s : State := { s with fab := { s.fab with
      mateOut := tput s.fab.mateOut j ((if x = 0 then mateWord else []) ++ out) } }
    if k = 0 then s else s.setMateLane j { s.mateLane j with late := (s.mateLane j).late + k }

/-- Note the residence `v` that an output has from grid period `g` on; three earlier ones are kept for blocks still on their
way to the egress port. -/
def logResidence (log : List (Nat × Nat × Int)) (out g : Nat) (v : Int) : List (Nat × Nat × Int) :=
  let mine := log.filter fun p => p.1 == out
  if (mine.head?.map fun p => p.2.2) = some v then log
  else (out, g, v) :: (mine.take 3 ++ log.filter fun p => p.1 != out)

/-- The residences of the sources that the page in force reads in this grid period (R158). -/
def State.noteResidence (s : State) : State :=
  { s with fab := { s.fab with resLog := (s.entries FABRIC_PAGE_out).foldl (fun log r =>
      logResidence log (r.n FABRIC_PAGE_out) s.fab.gp
        (slotResidence s.img r (s.onAlt (r.b FABRIC_PAGE_prot) (r.n FABRIC_PAGE_qs_group)))) s.fab.resLog } }

/-- The egress side of a grid period. -/
def State.deliverAll (s : State) (x : GridIn) : State :=
  let s := (s.readAll x).noteResidence.measureSlots
  let tx := (kindOf s.img 4 0).filter fun e => e.n MAPPING_dir == 1 && carries e
  let s := forEach tx s State.egressTake
  let s := forEach tx s fun s e => s.checkerTake s.fab.gp e
  let s : State := { s with fab := { s.fab with mateOut := [] } }
  let s := forEach (List.range 16) s fun s j => s.mateSend x.late j
  forEach (s.cvusOf 2) s fun s u => s.cvuFeed u (leBytes 64 (s.outBlk (s.get CVU_SEL_slot u)).body)

/-! ### The grid period -/

/-- What the pipe of a lane decodes (Table 2-12); a DISABLED lane decodes nothing. -/
def State.laneRx (s : State) (x : LaneRx) : State :=
  let n := x.lane
  if s.get LN_STATE_state n = 0 then s
  else
    let s := s.inc64 LN_FEC_CW_LO_cw_lo LN_FEC_CW_HI_cw_hi n x.cw
    let s := s.set64 LN_FEC_CORR_LO_corr_lo LN_FEC_CORR_HI_corr_hi
      (satN 64 (s.get64 LN_FEC_CORR_LO_corr_lo LN_FEC_CORR_HI_corr_hi n + x.corr)) n
    let s := (s.inc LN_FEC_UNCORR_uncorr n x.uncorr).inc LN_FEC_SYM_sym n x.sym
    let s := if s.on LN_STATE_test n then s.inc LN_PRBS_ERR_errs n x.prbs else s
    let s := (s.set LN_EB_fill x.fill n).set LN_SNR_snr x.snr n
    let l := s.laneSt n
    s.setLaneSt n { l with secCw := l.secCw + x.cw, secSym := l.secSym + x.sym }

/-- Errors that the mappers find in the context store (R113). -/
def State.mapperEvents (s : State) (x : GridIn) : State :=
  let s := forEach x.eccCorr s State.ctxCorr
  forEach x.ecc s State.ctxEcc

/-- The performance counters of the time base (Table 15-7, kind 5). -/
def State.countBase (s : State) (what n : Nat) : State :=
  s.count (fun i => s.get PC_SEL_kind i == 5 && s.get PC_SEL_arg i == what) n

/-- GRID_PERIOD: 128 CLK_FAB cycles, 32 CLK_CTL cycles. The calendar clock counts in every state; the rest runs while the
device is RUNNING. -/
def effGridPeriod (x : GridIn) (s : State) : State :=
  let s := ({ s with pwr := { s.pwr with up := s.pwr.up + 1 } } : State).tickRtc x.ticks
  if s.bootState ≠ 4 then s
  else
    let s := ((s.writeAll x).deliverAll x).mapperEvents x
    let s := ((forEach x.lanes s State.laneRx).countBase 0 32).countBase 1 1
    let s := s.tickTime 128
    let g := s.fab.gp + 1
    { s with fab := { s.fab with gp := g, mateIn := s.fab.mateIn.filter fun p => decide (g ≤ p.1 / 512) } }
def execGridPeriod (x : GridIn) (s : State) : Host.Outcome State Fault Refusal := .next (effGridPeriod x s.newCycle)

/-! ### The grid multiframe boundary (R21 to R26, Table 1-4) -/

/-- Minutes of the coppice interval pass: 60 s in units of 0.1 ns, a grid multiframe being 1,048,576 of them (R149). -/
def State.coppiceTick (s : State) : State :=
  if s.fab.due || s.get FAB_COPPICE_state != 0 then s
  else
    let t := s.fab.minTick + 1
    if t * 1048576 < 600000000000 then { s with fab := { s.fab with minTick := t } }
    else
      ({ s with fab := { s.fab with minTick := 0 } } : State).set FAB_COPPICE_next_min (s.get FAB_COPPICE_next_min - 1)

/-- The physical slices that serve the logical slices. -/
def State.steering (s : State) : List Nat := (List.range 20).map s.physOf

/-- The selectors of the groups, those on P. -/
def State.selectors (s : State) : List Nat :=
  ((s.entries PROTECTION_grp).map fun e => e.n PROTECTION_grp).filter fun g => s.on QS_GRP_ST_sel g

/-- The quickset group of a measured output. -/
def State.hitGroup (s : State) (h : HitSt) : Option Nat :=
  if h.kind = 0 then (s.readOf h.key).bind fun r => if r.b FABRIC_PAGE_prot then some (r.n FABRIC_PAGE_qs_group) else none
  else (s.twigEntry (h.key / 480) (h.key % 480)).bind fun e =>
    if e.b TWIG_PAGE_prot then some (e.n TWIG_PAGE_qs_group) else none

/-- The flags of R171 for the window that opened at boundary `n`: groups that switched, and whether a failed slice was
replaced (R146). -/
def State.flagHits (s : State) (n : Nat) (moved : Nat → Bool) (steered : Bool) : State :=
  if s.chg.winOpen && s.chg.winGmf == n then
    let flag := fun (h : HitSt) =>
      let q := match s.hitGroup h with | some g => moved g | none => false
      ({ h with qs := h.qs || q, steer := h.steer || steered } : HitSt)
    { s with chg := { s.chg with win := s.chg.win.map flag } }
  else s

/-- GRID_MULTIFRAME_BOUNDARY: the changes of a boundary in the order of Table 1-4, each against the state that the rows
above it left. Triggers whose hold-off has elapsed are declared after row 2, for the next boundary. -/
def effGridMultiframeBoundary (x : BoundaryIn) (s : State) : State :=
  if s.bootState ≠ 4 then s
  else
    let n := s.gmf + 1
    let s : State := { s with fab := { s.fab with gp := max s.fab.gp (1024 * n) } }
    let s := (s.set64 FAB_GMF_LO_gmf_lo FAB_GMF_HI_gmf_hi n).countBase 2 1
    let s := (s.takeTerms).coppiceTick
    let s := (s.changeRow n).standbyRow
    let sel := s.selectors
    let s := (s.quicksetRow s.chg.swap x.disagree).declareAllDue
    let now := s.selectors
    let steer := s.steering
    let s := s.coppiceRow s.chg.swap.isSome
    let lost := (steer.zip s.steering).any fun p => p.1 != p.2 && s.get FAB_SLICE_ST_state p.1 == 3
    let s := s.flagHits n (fun g => sel.contains g != now.contains g) lost
    let s := s.tagRow.mateRow x.genBytes
    { s with chg := { s.chg with swap := none } }
def execGridMultiframeBoundary (x : BoundaryIn) (s : State) : Host.Outcome State Fault Refusal :=
  .next (effGridMultiframeBoundary x s.newCycle)

end Sys2Proof.Machine
end

