-- ==== Sys2Proof/Machine/Dispatch.lean ====
section
/-!
DEFINITION. Sys2Proof/Machine/Dispatch.lean: the one dispatch, an arm per command.
-/
namespace Sys2Proof.Machine

def exec (i : Instr) (s : State) : Host.Outcome State Fault Refusal :=
  match i with
  -- Registers (R5 to R11, R60, R282, R306)
  | .registerWrite src off be data poisoned => Sys2Proof.Machine.execRegisterWrite src off be data poisoned s
  | .registerReadClear src off be => Sys2Proof.Machine.execRegisterReadClear src off be s
  | .lowWordRead src off => Sys2Proof.Machine.execLowWordRead src off s
  | .highWordWrite src off data => Sys2Proof.Machine.execHighWordWrite src off data s
  | .lnTsSecRead src n => Sys2Proof.Machine.execLnTsSecRead src n s
  | .tmcSecLoRead src => Sys2Proof.Machine.execTmcSecLoRead src s
  | .rtcSecLoRead src => Sys2Proof.Machine.execRtcSecLoRead src s
  -- The grid and mate pairs (R20 to R26, R126, R197 to R209)
  | .gridPeriod x => Sys2Proof.Machine.execGridPeriod x s
  | .gridMultiframeBoundary x => Sys2Proof.Machine.execGridMultiframeBoundary x s
  | .mateLost => Sys2Proof.Machine.execMateLost s
  | .flashSeize => Sys2Proof.Machine.execFlashSeize s
  | .flashReqChange level => Sys2Proof.Machine.execFlashReqChange level s
  | .mateFrameReceived j f => Sys2Proof.Machine.execMateFrameReceived j f s
  | .mateAliveInChange => Sys2Proof.Machine.execMateAliveInChange s
  | .gaspDetected => Sys2Proof.Machine.execGaspDetected s
  | .roleResolve => Sys2Proof.Machine.execRoleResolve s
  | .generationCommitReceived crcOk => Sys2Proof.Machine.execGenerationCommitReceived crcOk s
  | .mateRole n => Sys2Proof.Machine.execMateRole n s
  -- Changes (R159 to R177)
  | .planStepDue => Sys2Proof.Machine.execPlanStepDue s
  | .hitWindowEnd => Sys2Proof.Machine.execHitWindowEnd s
  | .apply n => Sys2Proof.Machine.execApply n s
  | .applyPlan n => Sys2Proof.Machine.execApplyPlan n s
  | .haltPlan n => Sys2Proof.Machine.execHaltPlan n s
  | .applyLoadComplete bad => Sys2Proof.Machine.execApplyLoadComplete bad s
  -- Twigs and evergreen (R116 to R122, R212 to R230, R244)
  | .twigFrameBoundary => Sys2Proof.Machine.execTwigFrameBoundary s
  | .twigFrameReceived h bytes => Sys2Proof.Machine.execTwigFrameReceived h bytes s
  | .hostSlip h fast past => Sys2Proof.Machine.execHostSlip h fast past s
  | .twigRoundEnd h => Sys2Proof.Machine.execTwigRoundEnd h s
  | .evergreenBlockBoundary => Sys2Proof.Machine.execEvergreenBlockBoundary s
  | .evgFrameArrival mi b cyc frame found tailFull => Sys2Proof.Machine.execEvgFrameArrival mi b cyc frame found tailFull s
  | .evgPlayout mi cyc late markBad => Sys2Proof.Machine.execEvgPlayout mi cyc late markBad s
  | .evgAcqTimeout mi => Sys2Proof.Machine.execEvgAcqTimeout mi s
  | .evgReanchor mi b => Sys2Proof.Machine.execEvgReanchor mi b s
  | .evgNoUsableTimeout mi => Sys2Proof.Machine.execEvgNoUsableTimeout mi s
  | .evgFlush mi => Sys2Proof.Machine.execEvgFlush mi s
  -- Performance monitoring (R91 to R96)
  | .pmSecondEnd bad => Sys2Proof.Machine.execPmSecondEnd bad s
  | .pmSecondCommit => Sys2Proof.Machine.execPmSecondCommit s
  | .pmBinClose day => Sys2Proof.Machine.execPmBinClose day s
  -- Lanes (R37 to R64)
  | .refclkLoss r => Sys2Proof.Machine.execRefclkLoss r s
  | .refclkValid r => Sys2Proof.Machine.execRefclkValid r s
  | .synthLock q => Sys2Proof.Machine.execSynthLock q s
  | .synthUnlock q => Sys2Proof.Machine.execSynthUnlock q s
  | .cdrLock n => Sys2Proof.Machine.execCdrLock n s
  | .adaptConverged n => Sys2Proof.Machine.execAdaptConverged n s
  | .fecAlignLock n => Sys2Proof.Machine.execFecAlignLock n s
  | .deskewComplete n members gid us => Sys2Proof.Machine.execDeskewComplete n members gid us s
  | .acqAttemptTimeout n => Sys2Proof.Machine.execAcqAttemptTimeout n s
  | .losEntry n also => Sys2Proof.Machine.execLosEntry n also s
  | .losExit n => Sys2Proof.Machine.execLosExit n s
  | .cdrUnlock n also => Sys2Proof.Machine.execCdrUnlock n also s
  | .fecLoss n also => Sys2Proof.Machine.execFecLoss n also s
  | .alignLoss n also => Sys2Proof.Machine.execAlignLoss n also s
  | .ebSlip n => Sys2Proof.Machine.execEbSlip n s
  | .laneTermMeasure n rx tx => Sys2Proof.Machine.execLaneTermMeasure n rx tx s
  | .modIntEdge q => Sys2Proof.Machine.execModIntEdge q s
  -- Framers (R70 to R111)
  | .alignWindowEnd c found term => Sys2Proof.Machine.execAlignWindowEnd c found term s
  | .frameReceived c f => Sys2Proof.Machine.execFrameReceived c f s
  | .flexeCalSwitch c => Sys2Proof.Machine.execFlexeCalSwitch c s
  | .flexeCaTimeout c => Sys2Proof.Machine.execFlexeCaTimeout c s
  | .lofDeclare c => Sys2Proof.Machine.execLofDeclare c s
  | .lofClear c => Sys2Proof.Machine.execLofClear c s
  | .lomDeclare c => Sys2Proof.Machine.execLomDeclare c s
  | .lomClear c => Sys2Proof.Machine.execLomClear c s
  | .egressFrameBoundary c => Sys2Proof.Machine.execEgressFrameBoundary c s
  -- Fabric (R144 to R150)
  | .spareSelfTestPass clean => Sys2Proof.Machine.execSpareSelfTestPass clean s
  | .coppiceDue => Sys2Proof.Machine.execCoppiceDue s
  | .fabricResetSelfTest bad => Sys2Proof.Machine.execFabricResetSelfTest bad s
  -- Quickset (R184 to R196)
  | .holdoffExpiry g t => Sys2Proof.Machine.execHoldoffExpiry g t s
  | .wtrExpiry g => Sys2Proof.Machine.execWtrExpiry g s
  | .forcePinEdge k on => Sys2Proof.Machine.execForcePinEdge k on s
  | .forceSwitch n => Sys2Proof.Machine.execForceSwitch n s
  | .clearForce n => Sys2Proof.Machine.execClearForce n s
  | .apsReceived g b1 b2 b3 => Sys2Proof.Machine.execApsReceived g b1 b2 b3 s
  | .fopNrDeclare g => Sys2Proof.Machine.execFopNrDeclare g s
  -- Integrity (R240 to R257)
  | .pathTagCheck c => Sys2Proof.Machine.execPathTagCheck c s
  | .cvuWindowClose u => Sys2Proof.Machine.execCvuWindowClose u s
  | .cvuValWrite src u off be data closes bytes => Sys2Proof.Machine.execCvuValWrite src u off be data closes bytes s
  | .cvuResHiRead src u => Sys2Proof.Machine.execCvuResHiRead src u s
  | .secdedScrub x => Sys2Proof.Machine.execSecdedScrub x s
  -- Clocks and time (R259 to R305)
  | .osciLoss => Sys2Proof.Machine.execOsciLoss s
  | .osciRestore => Sys2Proof.Machine.execOsciRestore s
  | .servoCrossCheck off => Sys2Proof.Machine.execServoCrossCheck off s
  | .timerefEdge c t width => Sys2Proof.Machine.execTimerefEdge c t width s
  | .candLos c => Sys2Proof.Machine.execCandLos c s
  | .candLosClear c => Sys2Proof.Machine.execCandLosClear c s
  | .chatterClear c => Sys2Proof.Machine.execChatterClear c s
  | .candQualified c => Sys2Proof.Machine.execCandQualified c s
  | .selectorEvaluation => Sys2Proof.Machine.execSelectorEvaluation s
  | .ppsEpoch freq => Sys2Proof.Machine.execPpsEpoch freq s
  | .historyValid => Sys2Proof.Machine.execHistoryValid s
  | .holdoverExpiry time => Sys2Proof.Machine.execHoldoverExpiry time s
  | .tchMessageSend k dep => Sys2Proof.Machine.execTchMessageSend k dep s
  | .tchMessageReceived k arr => Sys2Proof.Machine.execTchMessageReceived k arr s
  | .todSentenceSend k => Sys2Proof.Machine.execTodSentenceSend k s
  | .todSentenceReceived k first baud l => Sys2Proof.Machine.execTodSentenceReceived k first baud l s
  | .ptpIngressCorrect c mate wait m => Sys2Proof.Machine.execPtpIngressCorrect c mate wait m s
  | .ptpEgressCorrect slot wait m => Sys2Proof.Machine.execPtpEgressCorrect slot wait m s
  | .rtcHoldEnd => Sys2Proof.Machine.execRtcHoldEnd s
  | .rtcXtalFail => Sys2Proof.Machine.execRtcXtalFail s
  | .vbatLoss => Sys2Proof.Machine.execVbatLoss s
  | .setRtc n => Sys2Proof.Machine.execSetRtc n s
  -- Start-up, lifecycle and sessions (R308 to R336, R360, R376)
  | .resetReleaseBoot x => Sys2Proof.Machine.execResetReleaseBoot x s
  | .imageConfirm => Sys2Proof.Machine.execImageConfirm s
  | .flashWrite n x => Sys2Proof.Machine.execFlashWrite n x s
  | .keyRevoke n x => Sys2Proof.Machine.execKeyRevoke n x s
  | .provision n x => Sys2Proof.Machine.execProvision n x s
  | .lcAdvance n x => Sys2Proof.Machine.execLcAdvance n x s
  | .debugUnlock n x => Sys2Proof.Machine.execDebugUnlock n x s
  | .attest n x => Sys2Proof.Machine.execAttest n x s
  | .nonce n => Sys2Proof.Machine.execNonce n s
  | .session n x => Sys2Proof.Machine.execSession n x s
  | .sessionEnd n => Sys2Proof.Machine.execSessionEnd n s
  | .sessionIdleTimeout => Sys2Proof.Machine.execSessionIdleTimeout s
  | .query n x => Sys2Proof.Machine.execQuery n x s
  -- Tamper, processor and bus (R332 to R354)
  | .tamperAssert k => Sys2Proof.Machine.execTamperAssert k s
  | .lockstepFault pc out => Sys2Proof.Machine.execLockstepFault pc out s
  | .cpWatchdogExpiry => Sys2Proof.Machine.execCpWatchdogExpiry s
  | .watchdogKick src => Sys2Proof.Machine.execWatchdogKick src s
  | .processorResume => Sys2Proof.Machine.execProcessorResume s
  | .busAccess reqs => Sys2Proof.Machine.execBusAccess reqs s
  | .lockTimeout m => Sys2Proof.Machine.execLockTimeout m s
  | .semaphoreRead n srcs => Sys2Proof.Machine.execSemaphoreRead n srcs s
  | .semaphoreRelease n src data => Sys2Proof.Machine.execSemaphoreRelease n src data s
  | .bankOwnerWrite src n be data => Sys2Proof.Machine.execBankOwnerWrite src n be data s
  | .bankHandover n => Sys2Proof.Machine.execBankHandover n s
  | .masterWatchdogExpiry m => Sys2Proof.Machine.execMasterWatchdogExpiry m s
  | .bankWakeDone n => Sys2Proof.Machine.execBankWakeDone n s
  -- Host interface (R363 to R381)
  | .perstAssert => Sys2Proof.Machine.execPerstAssert s
  | .perstDeassert => Sys2Proof.Machine.execPerstDeassert s
  | .pcieLinkUp speed width bme => Sys2Proof.Machine.execPcieLinkUp speed width bme s
  | .pcieLinkDown => Sys2Proof.Machine.execPcieLinkDown s
  | .mailboxPost src n => Sys2Proof.Machine.execMailboxPost src n s
  | .mailboxTake => Sys2Proof.Machine.execMailboxTake s
  | .mailboxReplyClear src n => Sys2Proof.Machine.execMailboxReplyClear src n s
  | .mailboxAbort src n => Sys2Proof.Machine.execMailboxAbort src n s
  | .smbSetAddr addr pec => Sys2Proof.Machine.execSmbSetAddr addr pec s
  | .smbRead => Sys2Proof.Machine.execSmbRead s
  | .smbWrite data pec => Sys2Proof.Machine.execSmbWrite data pec s
  | .smbTemp t => Sys2Proof.Machine.execSmbTemp t s
  | .smbStatus => Sys2Proof.Machine.execSmbStatus s
  | .smbAlertMask write pec => Sys2Proof.Machine.execSmbAlertMask write pec s
  | .smbAlertResponse => Sys2Proof.Machine.execSmbAlertResponse s
  | .smbClockTimeout => Sys2Proof.Machine.execSmbClockTimeout s
  -- Records, counters and interrupts (R382 to R400)
  | .recordAccept bad => Sys2Proof.Machine.execRecordAccept bad s
  | .recordArchive => Sys2Proof.Machine.execRecordArchive s
  | .flashCopyProgram bad => Sys2Proof.Machine.execFlashCopyProgram bad s
  | .freeze n => Sys2Proof.Machine.execFreeze n s
  | .thaw n => Sys2Proof.Machine.execThaw n s
  | .freezeExpiry => Sys2Proof.Machine.execFreezeExpiry s
  | .clearEvt n x => Sys2Proof.Machine.execClearEvt n x s
  | .harvestEvt n => Sys2Proof.Machine.execHarvestEvt n s
  | .harvestPm n => Sys2Proof.Machine.execHarvestPm n s
  | .cursorNext => Sys2Proof.Machine.execCursorNext s
  | .cursorPrev => Sys2Proof.Machine.execCursorPrev s
  | .cursorMark => Sys2Proof.Machine.execCursorMark s
  | .cursorRewind => Sys2Proof.Machine.execCursorRewind s
  | .cursorOldest => Sys2Proof.Machine.execCursorOldest s
  | .cursorNewest => Sys2Proof.Machine.execCursorNewest s
  | .cursorSeek n => Sys2Proof.Machine.execCursorSeek n s
  | .cursorStateRead => Sys2Proof.Machine.execCursorStateRead s
  | .hqFlushRequest q => Sys2Proof.Machine.execHqFlushRequest q s
  | .hqFlush q => Sys2Proof.Machine.execHqFlush q s
  | .pcSnap clear => Sys2Proof.Machine.execPcSnap clear s
  | .pcClear => Sys2Proof.Machine.execPcClear s
  | .irqStkClear g mask secure => Sys2Proof.Machine.execIrqStkClear g mask secure s
  | .msixSpacingExpiry v => Sys2Proof.Machine.execMsixSpacingExpiry v s
  -- Memory, power and pins (R403 to R442)
  | .ddrTrainingComplete ms bad => Sys2Proof.Machine.execDdrTrainingComplete ms bad s
  | .ddrRetrain => Sys2Proof.Machine.execDdrRetrain s
  | .ddrRefresh => Sys2Proof.Machine.execDdrRefresh s
  | .ddrDqsRecentre => Sys2Proof.Machine.execDdrDqsRecentre s
  | .ddrPatrolScrub corr ue => Sys2Proof.Machine.execDdrPatrolScrub corr ue s
  | .ddrEccCorr => Sys2Proof.Machine.execDdrEccCorr s
  | .pwrDomainTransitionDone d us => Sys2Proof.Machine.execPwrDomainTransitionDone d us s
  | .pwrSeqFault d => Sys2Proof.Machine.execPwrSeqFault d s
  | .powerOnReset => Sys2Proof.Machine.execPowerOnReset s
  | .resetNAssert => Sys2Proof.Machine.execResetNAssert s
  | .thermalTrip => Sys2Proof.Machine.execThermalTrip s
  | .thermalTripEnd => Sys2Proof.Machine.execThermalTripEnd s
  | .undervoltage => Sys2Proof.Machine.execUndervoltage s
  | .supplySwitchVbat => Sys2Proof.Machine.execSupplySwitchVbat s
  | .trstAssert => Sys2Proof.Machine.execTrstAssert s
  | .mainSupplyRestore => Sys2Proof.Machine.execMainSupplyRestore s
  | .flashGntChange level ms => Sys2Proof.Machine.execFlashGntChange level ms s
  | .backgroundCommandDone n x => Sys2Proof.Machine.execBackgroundCommandDone n x s
  | .tamperDeassert k => Sys2Proof.Machine.execTamperDeassert k s
  | .msixEnable on => Sys2Proof.Machine.execMsixEnable on s
  | .junctionTempThreshold t => Sys2Proof.Machine.execJunctionTempThreshold t s
  | .frequencyFault c freq => Sys2Proof.Machine.execFrequencyFault c freq s

end Sys2Proof.Machine
end

