-- ==== Sys2Proof/Safety.lean ====
section
/-!
DEFINITION. Sys2Proof/Safety.lean: what counts as a safe step and as a sound state, in the terms the statements use.
-/
namespace Sys2Proof.Safety

open Sys2Proof.Machine

/-- The step completes: it answers a next state, neither a fault nor a refusal. -/
def Completes (o : Host.Outcome State Fault Refusal) : Prop := ∃ t, o = .next t

/-- The sparse tables of the state are in canonical form: addresses strictly rising, and no entry equal to what an
unlisted address reads as, so that equal registers, flash and memories are equal data. -/
def Canonical (s : State) : Prop :=
  twf resetWord s.regs = true ∧ twf (fun _ => (0xFF : Byte)) s.flash = true ∧ twf (fun _ => (0 : Byte)) s.mem = true

/-- A fuse that is blown stays blown (R320, R321, R327): `g` is `f` with fuses blown and none unblown. -/
def FusesHeld (f g : Fuses) : Prop :=
  f.prov ≤ g.prov ∧ f.depl ≤ g.depl ∧ f.ret ≤ g.ret ∧ f.svn ≤ g.svn ∧ ∀ k ∈ f.revoked, k ∈ g.revoked

/-! ### What a command leaves as it is -/

/-- The parts of State beside its registers and its queue; `gp` is the grid period counter of the fabric, `fuse` the fuses
and `up` the grid periods counted since reset. -/
inductive Part where
  | latch | stage | img | ln | fr | qs | mate | rcd | irq | perf | cyc | free | gp | fab | tw | tag | evg | pwr | fuse | boot
  | chg | bus | host | tim | flash | mem | out | up
  deriving DecidableEq, Repr

/-- A part is the same in two states. -/
def Part.same (s t : State) : Part → Prop
  | .latch => t.latch = s.latch
  | .stage => t.stage = s.stage
  | .img => t.img = s.img
  | .ln => t.ln = s.ln
  | .fr => t.fr = s.fr
  | .qs => t.qs = s.qs
  | .mate => t.mate = s.mate
  | .rcd => t.rcd = s.rcd
  | .irq => t.irq = s.irq
  | .perf => t.perf = s.perf
  | .cyc => t.cyc = s.cyc
  | .free => t.free = s.free
  | .fab => t.fab = s.fab
  | .tw => t.tw = s.tw
  | .tag => t.tag = s.tag
  | .evg => t.evg = s.evg
  | .pwr => t.pwr = s.pwr
  | .boot => t.boot = s.boot
  | .chg => t.chg = s.chg
  | .bus => t.bus = s.bus
  | .host => t.host = s.host
  | .tim => t.tim = s.tim
  | .flash => t.flash = s.flash
  | .mem => t.mem = s.mem
  | .out => t.out = s.out
  | .gp => t.fab.gp = s.fab.gp
  | .fuse => t.boot.fuse = s.boot.fuse
  | .up => t.pwr.up = s.pwr.up

/-- Every part outside a list is the same, and so is the queue of commands. -/
def Keep (s t : State) (parts : List Part) : Prop := (∀ p, p ∉ parts → p.same s t) ∧ t.pending = s.pending

/-- Whether a register definition has an instance at a key. -/
def Has (r : RegDef) (k : Nat) : Prop := ∃ n, n < r.count ∧ k = r.base + r.stride * n

/-- A key of the MSI-X table (Table 14-1). -/
def IsMsix (k : Nat) : Prop := 0x2F000 ≤ k ∧ k < 0x30000

/-- A key that the register map or the MSI-X table gives the device. -/
def Known (k : Nat) : Prop := (∃ r ∈ regMap, Has r k) ∨ IsMsix k

/-- The register that holds a field of instance `n`. -/
def at_ (f : Fld) (n : Nat := 0) : Nat := f.base + f.stride * n

/-- Every register of the device is the same but those at `keys` and every instance of those that hold `flds`. -/
def KeepRegs (s t : State) (keys : List Nat) (flds : List Fld) : Prop :=
  ∀ k, Known k → k ∉ keys → (∀ f ∈ flds, ∀ n < f.count, k ≠ at_ f n) → t.reg k = s.reg k

/-- Every bit of the register at a key outside the fields `fs` is the same. -/
def KeepBits (s t : State) (k : Nat) (fs : List Fld) : Prop :=
  ∀ i, (∀ f ∈ fs, ¬ (f.lo ≤ i ∧ i ≤ f.hi)) → (t.reg k).getLsbD i = (s.reg k).getLsbD i

/-- The most that a counter field holds (R10). -/
def top (f : Fld) : Nat := 2 ^ (f.hi + 1 - f.lo) - 1

/-- Registers that the settling of defects, protection groups and merges may write (R84 to R87, R184 to R192, R219). -/
def settleRegs : List Fld :=
  [QS_GRP_ST_req, QS_GRP_CNT_switches, QS_GRP_TRIG_pin, EVR_LOSS_drop, FRM_DEF_ais, FRM_DEF_STK_stk, FRM_ALIGN_state,
   FRM_LABEL_acc_pt, FRM_TTI_ST_tti_valid, MAP_HOST_TERM_term, EVG_M_ST_mstate, EVG_M_OFF_A_off, EVG_M_OFF_B_off,
   EVG_M_QFILL_tail]

/-- Registers that the acceptance of waiting records may write (R383 to R386). -/
def acceptRegs : List Fld := [EVR_ST_mb3_fill, EVR_HOLD_fill, EVR_FLASH_pending, EVR_LOSS_drop, EVR_CUR_ST_state, HQ_LOST_lost]

/-- Registers of the mailbox channels that a reply may write (R369 to R371). -/
def replyRegs : List Fld :=
  ((List.range 16).map MBX_MSG_data) ++ [MBX_CTL_go, MBX_ST_posted, MBX_CMD_refused]

/-- Registers that a refusal on the world may write (R357). -/
def violRegs : List Fld := [BM_WV_count, BM_WV_ADDR_LO_addr_lo, BM_WV_ADDR_HI_addr_hi, EVR_LOSS_drop]

/-- Registers of the check-value units that absorb bytes written on the bus matrix may write (R247, R249). -/
def absorbRegs : List Fld :=
  [CVU_VAL_LO_val_lo, CVU_VAL_HI_val_hi, CVU_CNT_cnt, CVU_RES_LO_res_lo, CVU_RES_HI_res_hi, CVU_ST_ready, CVU_MIS_CNT_mis,
   EVR_LOSS_drop]

/-- No check-value unit absorbs what is written on the bus matrix: none of source 5 is enabled (Table 9-4). -/
def NoBusUnit (s : State) : Prop := ∀ u < 64, s.on CVU_CTL_enable u = true → s.get CVU_CTL_src u ≠ 5

end Sys2Proof.Safety
end

