-- ==== Sys2Proof/Certificates/Slice0/Obligations.lean ====
section
/-!
DEFINITION. Sys2Proof/Certificates/Slice0/Obligations.lean: the statements for the provers. In each, `s` is the state in which
a command is taken, `s.newCycle` that state once the command's cycle has begun (the cycle count advances, what the last command
showed is gone, the level sources latch), and `t` the state the command answers; `Keep` and `KeepRegs` are the frame: the parts of
State, and the registers, that the command leaves as `s.newCycle` has them.
-/
open Sys2Proof Sys2Proof.Machine Sys2Proof.Safety

/-- A step runs the command at the front of the queue. With a command c at the front of the queue, a step is exec of c on
the state with the queue's rest; with no command waiting the block idles. The queue and the idling are the model's own
(log entries 3 and 4). -/
def Obligations.StepTakesFront : Prop :=
  (∀ c rest s, s.pending = c :: rest →
    Sys2Proof.Machine.step s = Sys2Proof.Machine.exec c { s with pending := rest }) ∧
  (∀ s, s.pending = [] → Sys2Proof.Machine.step s = .next s)

/-- Every command completes, and takes one cycle. Every command in every state answers a next state, with the queue as it
was and the cycle count one on. One cycle for a command is the model's choice (log entry 11), and that no command
stops is log entry 7. -/
def Obligations.EveryCommandAnswers : Prop :=
  ∀ c s, ∃ t, Sys2Proof.Machine.exec c s = .next t ∧ t.pending = s.pending ∧ t.cyc = s.cyc + 1

/-- Level sources latch at the start of a cycle. When a cycle begins, every sticky bit of groups 0 to 15 whose level
source is raw is set and the others stay; no register changes, and beside the sticky bits only the cycle count, what
the last command showed, and performance counts change. That sources latch at the start of the next command is log
entry 12. -/
def Obligations.CycleBegins : Prop :=
  ∀ s : State, s.newCycle.cyc = s.cyc + 1 ∧ s.newCycle.out.rdata = [] ∧ s.newCycle.out.reply = [] ∧ s.newCycle.out.bytes = [] ∧
    s.newCycle.out.edges = [] ∧ s.newCycle.out.frames = [] ∧ s.newCycle.out.streams = [] ∧ s.newCycle.out.flagged = false ∧
    (∀ g < 16, ∀ b < 32, bit (s.newCycle.stk g) b = (bit (s.stk g) b || bit (s.rawLevel g) b)) ∧
    (∀ g < 16, s.newCycle.irqEn g = s.irqEn g) ∧ s.newCycle.regs = s.regs ∧ Keep s s.newCycle [.cyc, .out, .irq, .perf]

/-- A pending bit that rises sends its MSI-X message. Setting a source sets its sticky bit and no other. If it is enabled
and was clear, its message falls due: with the link up and MSI-X enabled it is sent at once, unless its vector is
masked, when its PBA bit is set, or in its spacing, when it is merged into the message due at the end of the spacing.
A bit that is already set, or not enabled, sends nothing. -/
def Obligations.PendingBitSendsMessage : Prop :=
  ∀ (s : State) src, ∃ t, t = s.irqSet src ∧ Keep s t [.irq, .out, .perf] ∧ t.regs = s.regs ∧
    (∀ g b, bit (t.stk g) b = (bit (s.stk g) b || (decide (g = src / 32) && decide (b = src % 32)))) ∧
    ((bit (s.stk (src / 32)) (src % 32) = true ∨ bit (s.irqEn (src / 32)) (src % 32) = false ∨ s.msixReady = false) →
      t.out = s.out ∧ t.irq.pba = s.irq.pba ∧ t.irq.due = s.irq.due) ∧
    (bit (s.stk (src / 32)) (src % 32) = false → bit (s.irqEn (src / 32)) (src % 32) = true → s.msixReady = true →
      (s.msixMasked (s.vectorOf src) = true → s.vectorOf src ∈ t.irq.pba ∧ t.out = s.out) ∧
      (s.msixMasked (s.vectorOf src) = false → s.irq.space.contains (s.vectorOf src) = true →
        s.vectorOf src ∈ t.irq.due ∧ t.out = s.out) ∧
      (s.msixMasked (s.vectorOf src) = false → s.irq.space.contains (s.vectorOf src) = false →
        t.out.msix = s.out.msix ++ [s.vectorOf src] ∧
        (s.gl RECORDS_irq_mod ≠ 0 → s.vectorOf src ∈ t.irq.space)))

/-- Registers at their reset values. At reset: CP_ID shows part 0x4128 and revision B1; every lane is DISABLED; the
physical slices 0 to 19 serve the logical slices of their numbers; no time or frequency selection is in force and
candidates show rank 0xF and QL 0xF; the cursor is AT_END; the battery-backed clock shows bat_lost; the banks have
their default owners. That State.reset is the part before its first boot is log entry 14. -/
def Obligations.ResetValues : Prop :=
  State.reset.get CP_ID_part = 0x4128 ∧ State.reset.get CP_ID_major = 0xB ∧ State.reset.get CP_ID_minor = 1 ∧
  (∀ n < 144, State.reset.get LN_STATE_state n = 0) ∧
  (∀ i < 20, State.reset.physOf i = i) ∧
  State.reset.get TMC_SEL_fsel = 0x3F ∧ State.reset.get TMC_SEL_tsel = 0x3F ∧
  (∀ c < 56, State.reset.get TMC_CAND_ST_rank c = 0xF ∧ State.reset.get TMC_CAND_ST_ql c = 0xF) ∧
  State.reset.on RTC_ST_bat_lost = true ∧ State.reset.on RTC_ST_valid = false ∧ State.reset.get EVR_CUR_ST_state = 1 ∧
  (∀ n < 8, State.reset.get MB_ST_owner n = (bankDefault n).1) ∧ State.reset.pending = []

/-- The tables are canonical and the queue empty at reset. At reset the register table, the flash and the memory are in
the canonical form of the model, and no command waits. -/
def Obligations.CanonicalAtReset : Prop :=
  Canonical State.reset ∧ State.reset.pending = []

/-- Every step keeps the canonical form. From every state whose register table, flash and memory are in canonical form, a
step answers a state in which they are. -/
def Obligations.StepKeepsCanonicalForm : Prop :=
  ∀ s t, Canonical s → Sys2Proof.Machine.step s = .next t → Canonical t

/-- The rows that can blow a fuse. -/
def Sys2Proof.Safety.blows : Instr → Bool
  | .resetReleaseBoot _ | .imageConfirm | .keyRevoke _ _ | .provision _ _ | .lcAdvance _ _ | .processorResume
  | .flashGntChange _ _ | .backgroundCommandDone _ _ => true
  | _ => false

/-- No step unblows a fuse. Over every step the lifecycle groups and the security version only advance and no revocation
is undone, and a command other than a boot, a confirmation, KEY_REVOKE, PROVISION, LC_ADVANCE, a restart of the
processor, a change of FLASH_GNT and the end of a background command changes no fuse at all. -/
def Obligations.FusesOnlyBlow : Prop :=
  (∀ s t, Sys2Proof.Machine.step s = .next t → FusesHeld s.boot.fuse t.boot.fuse) ∧
  (∀ c s t, Sys2Proof.Machine.exec c s = .next t → blows c = false → t.boot.fuse = s.boot.fuse)

/-- The rows that can change the sections in force. -/
def Sys2Proof.Safety.loads : Instr → Bool
  | .gridMultiframeBoundary _ | .mateLost | .planStepDue | .resetReleaseBoot _ | .powerOnReset | .resetNAssert | .thermalTrip
  | .undervoltage | .supplySwitchVbat | .flashGntChange _ _ | .backgroundCommandDone _ _ => true
  | _ => false

/-- No register access changes a section. The sections in force change only by a boot, a reset of the fabric, a grid
multiframe boundary, a plan step, a takeover or isolation, or a flash command that ends a boot: no register access, no
bus access and no mailbox command of its own changes a page, a table or a field of a section. -/
def Obligations.OnlyLoadsChangeTheImage : Prop :=
  ∀ c s t, Sys2Proof.Machine.exec c s = .next t → loads c = false → t.img = s.img

/-- The rows that can change the flash. -/
def Sys2Proof.Safety.touchesFlash : Instr → Bool
  | .resetReleaseBoot _ | .imageConfirm | .flashGntChange _ _ | .backgroundCommandDone _ _ => true
  | _ => false

/-- The flash changes only by a boot, a confirmation and a flash command. No command but a boot, an image confirmation, a
change of FLASH_GNT and the end of a background command changes a byte of the flash; the copies of records are held
beside it (log entry 36). -/
def Obligations.OnlyTheseRowsTouchTheFlash : Prop :=
  ∀ c s t, Sys2Proof.Machine.exec c s = .next t → touchesFlash c = false → t.flash = s.flash

/-- The rows that can move the grid period count. -/
def Sys2Proof.Safety.movesGrid : Instr → Bool
  | .gridPeriod _ | .gridMultiframeBoundary _ | .planStepDue | .resetReleaseBoot _ | .powerOnReset | .resetNAssert | .thermalTrip
  | .undervoltage | .supplySwitchVbat | .flashGntChange _ _ | .backgroundCommandDone _ _ => true
  | _ => false

/-- Only the grid moves the grid period count. A command other than a grid period, a grid multiframe boundary, a plan
step, a reset and a boot leaves the grid period count as it is: no selection, load or fault slips the grid. -/
def Obligations.GridPeriodsCountUp : Prop :=
  ∀ c s t, Sys2Proof.Machine.exec c s = .next t → movesGrid c = false → t.fab.gp = s.fab.gp

/-- Keys of registers on which a write acts by its access codes alone. -/
def Sys2Proof.Safety.plainKey (k : Nat) : Bool :=
  (chanOf k).isNone && (ownerAt k).isNone && (pcSelAt k).isNone && (cvuAt k).isNone && (lowOf k).isNone &&
  k != 0x30080 && k != 0x30088 && k != 0x40800 && !(decide (0x20000 ≤ k) && decide (k < 0x20100)) &&
  !(decide (0x30400 ≤ k) && decide (k < 0x30450) && k % 0x10 == 4)

/-- A bit after a write, by the access code of its field (Table 0-3): whether the write is secure, whether the byte is
enabled, the written bit and the bit before. -/
def Sys2Proof.Safety.accBit (a : Acc) (sec en data old : Bool) : Bool :=
  match a with
  | .rw => if en then data else old
  | .srw => if sec && en then data else old
  | .w1c => old && !(en && data)
  | .w1s => old || (en && data)
  | .ro | .rc | .wo => old

/-- The word that a latch holds for a key. -/
def Sys2Proof.Safety.latchedAt (s : State) (k : Nat) : Option Word := (s.latch.find? fun p => p.1 == k).map (·.2)

/-- A register write acts on every bit as its access code states. A write of 1 to 4 bytes within a register that has no
row of its own: an enabled bit of an RW field takes the written bit, one of an SRW field does so from the secure
world, a 1 clears a W1C bit and sets a W1S bit, and RO, RC and WO bits and reserved bits stay. No other register and
nothing else changes, but for what the check-value units of source 5 make of the bytes written: those units alone, and
nothing at all where none is enabled. -/
def Obligations.RegisterWriteByAccessCode : Prop :=
  (∀ src off be data (s : State) k r n, k = s.barKey (off / 4 * 4) → regAt k = some (r, n) → plainKey k = true →
    (s.secureKey k = true → s.secureSrc src k = true) →
    ∃ t, Sys2Proof.Machine.exec (.registerWrite src off be data false) s =
        .next (t.cvuWord (srcMaster src) (0x10000000 + off / 4 * 4) be data) ∧
      (∀ f ∈ r.fields, ∀ i, f.2.1 ≤ i → i ≤ f.1 → (t.reg k).getLsbD i =
        accBit f.2.2 (s.secureSrc src k) (be.testBit (i / 8)) (data.getLsbD i) ((s.reg k).getLsbD i)) ∧
      (∀ i, (∀ f ∈ r.fields, ¬ (f.2.1 ≤ i ∧ i ≤ f.1)) → (t.reg k).getLsbD i = (s.reg k).getLsbD i) ∧
      Keep s.newCycle t [] ∧ KeepRegs s.newCycle t [k] []) ∧
  (∀ (t : State) m a be data, Keep t (t.cvuWord m a be data) [.rcd, .irq, .perf, .out] ∧
    KeepRegs t (t.cvuWord m a be data) [] absorbRegs ∧
    (NoBusUnit t → t.cvuWord m a be data = t))

/-- The world violation registers show a refused access, and count it (R357). -/
def Sys2Proof.Safety.wvShown (s t : State) (master : Nat) (write : Bool) (a : Nat) : Prop :=
  t.get BM_WV_count = min (s.get BM_WV_count + 1) (top BM_WV_count) ∧ t.get BM_WV_master = master % 16 ∧
  t.on BM_WV_write = write ∧ t.get64 BM_WV_ADDR_LO_addr_lo BM_WV_ADDR_HI_addr_hi = a

/-- A refused write is ignored and recorded, a poisoned one dropped and counted. A non-secure write of a secure register
leaves it as it is and counts a world violation with its master, direction and internal address. A non-secure read of
one returns 0 and counts likewise. A poisoned write is dropped and counted in MBX_HOSTERR.poisoned. -/
def Obligations.RefusedAndPoisonedWrites : Prop :=
  (∀ src off be data (s : State) k, k = s.barKey (off / 4 * 4) → s.secureKey k = true → s.secureSrc src k = false →
    (∃ t, Sys2Proof.Machine.exec (.registerWrite src off be data false) s = .next t ∧
      wvShown s t (srcMaster src) true (0x10000000 + off / 4 * 4) ∧
      Keep s.newCycle t [.rcd, .irq, .perf, .bus, .out] ∧ KeepRegs s.newCycle t [] violRegs) ∧
    (∃ t, Sys2Proof.Machine.exec (.registerReadClear src off be) s = .next t ∧
      t.out.rdata = [0] ∧ wvShown s t (srcMaster src) false (0x10000000 + off / 4 * 4) ∧
      Keep s.newCycle t [.rcd, .irq, .perf, .bus, .out] ∧ KeepRegs s.newCycle t [] violRegs)) ∧
  (∀ src off be data s,
    ∃ t, Sys2Proof.Machine.exec (.registerWrite src off be data true) s = .next t ∧
      t.get MBX_HOSTERR_poisoned = min (s.get MBX_HOSTERR_poisoned + 1) (top MBX_HOSTERR_poisoned) ∧
      KeepBits s t (at_ MBX_HOSTERR_poisoned) [MBX_HOSTERR_poisoned] ∧
      Keep s.newCycle t [] ∧ KeepRegs s.newCycle t [at_ MBX_HOSTERR_poisoned] [])

/-- A read clears an RC field only when it enables every byte of it. A read within one register, which latches nothing and
has no row of its own, returns the enabled bytes of its fields, WO fields and reserved bits reading 0; every RC field
all of whose bytes are enabled is cleared, and no other bit of the register, no other register and no part of the
state but the words returned changes. Of the commands of one CLK_CTL cycle, a read, or a write that clears, is queued
before what the hardware does, so that a hardware set stands after it and a counter that counts in the cycle returns its
value before and holds the count afterwards; a write of a register with W1S fields is queued after it. That a queue
stands for a cycle is the model's choice (log entry 221). -/
def Obligations.ReadsClearOnlyWholeFields : Prop :=
  (∀ (s : State) c h, s.cyclePlace h = 2 →
    (s.cyclePlace c < 2 → (s.queueCycle [h, c]).pending = s.pending ++ [c, h]) ∧
    (2 < s.cyclePlace c → (s.queueCycle [h, c]).pending = s.pending ++ [h, c])) ∧
  (∀ (s : State) src off be, s.cyclePlace (.registerReadClear src off be) < 2) ∧
  (∀ (s : State) src off be data p, s.cyclePlace (.registerWrite src off be data p) < 2 ∨
    2 < s.cyclePlace (.registerWrite src off be data p)) ∧
  (∀ (s : State) src off be data p r n, regAt (s.barKey (off / 4 * 4)) = some (r, n) → chanOf (s.barKey (off / 4 * 4)) = none →
    (2 < s.cyclePlace (.registerWrite src off be data p) ↔ ∃ f ∈ r.fields, f.2.2 = .w1s)) ∧
  ∀ src off be (s : State) k r n, k = s.barKey (off / 4 * 4) → regAt k = some (r, n) →
    (s.secureKey k = true → s.secureSrc src k = true) → latchedAt s k = none → latchedBy k = [] →
    k ≠ 0x30084 → cvuAt k = none →
    ∃ t, Sys2Proof.Machine.exec (.registerReadClear src off be) s = .next t ∧
      (∃ w, t.out.rdata = [w] ∧
        (∀ f ∈ r.fields, ∀ i, f.2.1 ≤ i → i ≤ f.1 → w.getLsbD i = (decide (f.2.2 ≠ .wo) && be.testBit (i / 8) &&
          (s.newCycle.shown (s.secureSrc src k) k).getLsbD i)) ∧
        ∀ i, (∀ f ∈ r.fields, ¬ (f.2.1 ≤ i ∧ i ≤ f.1)) → w.getLsbD i = false) ∧
      (∀ f ∈ r.fields, ∀ i, f.2.1 ≤ i → i ≤ f.1 → (t.reg k).getLsbD i =
        ((s.reg k).getLsbD i && !(decide (f.2.2 = .rc) && covers be f.1 f.2.1))) ∧
      (∀ i, (∀ f ∈ r.fields, ¬ (f.2.1 ≤ i ∧ i ≤ f.1)) → (t.reg k).getLsbD i = (s.reg k).getLsbD i) ∧
      Keep s.newCycle t [.out] ∧ KeepRegs s.newCycle t [k] []

/-- The read of a low word latches what belongs with it, and a quantity takes effect on the write of its high word. A read
of the low word of a 64-bit quantity returns it and latches the high word as it then stands (for LN_FEC_CORR, whose
low word clears both, the word before the clear). A later read of a register with a latched word returns the fields of
that word, whatever the register holds by then, and takes it from the latch, but for LN_FEC_CORR_HI. A read of
LN_TS_SEC latches LN_TS_NS and LN_TS_SUB; one of TMC_SEC_LO latches TMC_SEC_HI, TMC_NS and TMC_FRAC; one of RTC_SEC_LO
latches RTC_SEC_HI and RTC_TICK. A write of the low word of CVU_VAL waits and leaves both registers as they are; the
write of the high word puts the waiting low word, or the low word as it stands where none waits, and the written high
word in force at once; then the units of source 5 absorb the bytes written. -/
def Obligations.SixtyFourBitPairs : Prop :=
  (∀ src off (s : State) k r n, k = s.barKey (off / 4 * 4) → regAt k = some (r, n) → latchedBy k ≠ [] →
    (s.secureKey k = true → s.secureSrc src k = true) → latchedAt s k = none →
    ∃ t, Sys2Proof.Machine.exec (.lowWordRead src off) s = .next t ∧
      (∃ w, t.out.rdata = [w] ∧ ∀ f ∈ r.fields, f.2.2 ≠ .wo → ∀ i, f.2.1 ≤ i → i ≤ f.1 →
        w.getLsbD i = (s.newCycle.shown (s.secureSrc src k) k).getLsbD i) ∧
      (∀ h ∈ latchedBy k, latchedAt t h = some (if 0x80000 ≤ h ∧ h < 0x89000 ∧ h % 0x100 = 0x1C then s.reg h
        else s.newCycle.shown (s.secureSrc src k) h)) ∧
      (∀ h, h ∉ latchedBy k → latchedAt t h = latchedAt s h) ∧
      Keep s.newCycle t [.latch, .out] ∧ KeepRegs s.newCycle t [k, k + 4] []) ∧
  (∀ src off (s : State) k r n v, k = s.barKey (off / 4 * 4) → regAt k = some (r, n) → latchedAt s k = some v →
    (s.secureKey k = true → s.secureSrc src k = true) →
    ∃ t, Sys2Proof.Machine.exec (.registerReadClear src off 15) s = .next t ∧
      (∃ w, t.out.rdata = [w] ∧ ∀ f ∈ r.fields, f.2.2 ≠ .wo → ∀ i, f.2.1 ≤ i → i ≤ f.1 →
        w.getLsbD i = v.getLsbD i) ∧
      (latchedBy k = [] → ¬ (0x80000 ≤ k ∧ k < 0x89000 ∧ k % 0x100 = 0x1C) → latchedAt t k = none)) ∧
  (∀ src n s, n < 144 → latchedAt s (at_ LN_TS_SEC_sec n) = none →
    ∃ t, Sys2Proof.Machine.exec (.lnTsSecRead src n) s = .next t ∧
      t.out.rdata = [s.reg (at_ LN_TS_SEC_sec n)] ∧ latchedAt t (at_ LN_TS_NS_ns n) = some (s.reg (at_ LN_TS_NS_ns n)) ∧
      latchedAt t (at_ LN_TS_SUB_sub n) = some (s.reg (at_ LN_TS_SUB_sub n)) ∧
      Keep s.newCycle t [.latch, .out] ∧ t.regs = s.regs) ∧
  (∀ src s, latchedAt s (at_ TMC_SEC_LO_sec_lo) = none →
    ∃ t, Sys2Proof.Machine.exec (.tmcSecLoRead src) s = .next t ∧
      t.out.rdata = [s.reg (at_ TMC_SEC_LO_sec_lo)] ∧
      latchedAt t (at_ TMC_SEC_HI_sec_hi) = some (s.reg (at_ TMC_SEC_HI_sec_hi)) ∧
      latchedAt t (at_ TMC_NS_ns) = some (s.reg (at_ TMC_NS_ns)) ∧
      latchedAt t (at_ TMC_FRAC_frac) = some (s.reg (at_ TMC_FRAC_frac)) ∧
      Keep s.newCycle t [.latch, .out] ∧ t.regs = s.regs) ∧
  (∀ src s, latchedAt s (at_ RTC_SEC_LO_sec_lo) = none →
    ∃ t, Sys2Proof.Machine.exec (.rtcSecLoRead src) s = .next t ∧
      t.out.rdata = [s.reg (at_ RTC_SEC_LO_sec_lo)] ∧
      latchedAt t (at_ RTC_SEC_HI_sec_hi) = some (s.reg (at_ RTC_SEC_HI_sec_hi)) ∧
      latchedAt t (at_ RTC_TICK_tick) = some (s.reg (at_ RTC_TICK_tick)) ∧
      Keep s.newCycle t [.latch, .out] ∧ t.regs = s.regs) ∧
  (∀ src u data (s : State), u < 64 → (s.cvuOwner u = 2 → s.secureSrc src (at_ CVU_VAL_LO_val_lo u) = true) →
    (s.on CVU_CTL_enable u = true → s.cvuRefused u = false) →
    (∃ t, Sys2Proof.Machine.exec (.registerWrite src (at_ CVU_VAL_LO_val_lo u) 15 data false) s =
        .next (t.cvuWord (srcMaster src) (0x10000000 + at_ CVU_VAL_LO_val_lo u) 15 data) ∧
      t.regs = s.regs ∧ (t.stage.find? fun p => p.1 == at_ CVU_VAL_LO_val_lo u).map (·.2) = some data ∧
      Keep s.newCycle t [.stage]) ∧
    (∃ t, Sys2Proof.Machine.exec (.highWordWrite src (at_ CVU_VAL_HI_val_hi u) data) s =
        .next (t.cvuWord (srcMaster src) (0x10000000 + at_ CVU_VAL_HI_val_hi u) 15 data) ∧
      t.reg (at_ CVU_VAL_HI_val_hi u) = data ∧
      t.reg (at_ CVU_VAL_LO_val_lo u) = ((s.stage.find? fun p => p.1 == at_ CVU_VAL_LO_val_lo u).map (·.2)).getD
        (s.reg (at_ CVU_VAL_LO_val_lo u)) ∧
      (t.stage.find? fun p => p.1 == at_ CVU_VAL_LO_val_lo u) = none ∧ Keep s.newCycle t [.stage] ∧
      KeepRegs s.newCycle t [at_ CVU_VAL_LO_val_lo u, at_ CVU_VAL_HI_val_hi u] []))

/-- A non-secure access to an SRW field. A non-secure access to a register with an SRW field completes: a read returns 0,
a write leaves the register as it is, and the world violation registers show the access, with its master, direction
and address, and count it. -/
def Obligations.SecureFieldAccesses : Prop :=
  ∀ src off be data (s : State) k r n, k = s.barKey (off / 4 * 4) → regAt k = some (r, n) → (∃ f ∈ r.fields, f.2.2 = .srw) →
    s.secureSrc src k = false →
    (∃ t, Sys2Proof.Machine.exec (.registerReadClear src off be) s = .next t ∧
      t.out.rdata = [0] ∧ t.reg k = s.reg k ∧ wvShown s t (srcMaster src) false (0x10000000 + off / 4 * 4) ∧
      Keep s.newCycle t [.rcd, .irq, .perf, .bus, .out] ∧ KeepRegs s.newCycle t [] violRegs) ∧
    (∃ t, Sys2Proof.Machine.exec (.registerWrite src off be data false) s = .next t ∧
      t.reg k = s.reg k ∧ wvShown s t (srcMaster src) true (0x10000000 + off / 4 * 4) ∧
      Keep s.newCycle t [.rcd, .irq, .perf, .bus, .out] ∧ KeepRegs s.newCycle t [] violRegs)

/-- Check-value units close windows, absorb bytes and return results. CVU_WINDOW_CLOSE of a unit with a window, which for a
window of a length set has absorbed that many bytes, latches the working register XOR the final value as the result, reloads the initial value, clears the byte count and counts the
window; in read mode it sets ready, and overrun where ready was set; in native mode a result that differs from CVU_EXP
sets mismatch and counts it. A write of CVU_CNT takes effect before the bytes of its cycle, each of which an enabled
unit adds to the working register by the algorithm selected and counts, until a window of a set length ends; beside the
unit only those of source 5, which absorb the write itself, may change. A read of CVU_RES_HI returns it, latched word
first, and clears ready. -/
def Obligations.CheckValueUnits : Prop :=
  (∀ u s, u < 64 → s.get CVU_CTL_win u ≠ 0 →
    (s.get CVU_CTL_win u = 3 → 0 < s.get CVU_LEN_len u ∧ s.get CVU_LEN_len u ≤ s.get CVU_CNT_cnt u) →
    ∃ t, Sys2Proof.Machine.exec (.cvuWindowClose u) s = .next t ∧
      t.get64 CVU_RES_LO_res_lo CVU_RES_HI_res_hi u = s.cvuVal u ^^^ crcFinal (s.get CVU_CTL_poly u) ∧
      t.cvuVal u = crcInit (s.get CVU_CTL_poly u) ∧ t.get CVU_CNT_cnt u = 0 ∧
      t.get CVU_ST_windows u = (s.get CVU_ST_windows u + 1) % 2 ^ 16 ∧
      (s.on CVU_CTL_mode u = true → t.on CVU_ST_ready u = true ∧
        t.on CVU_ST_overrun u = (s.on CVU_ST_overrun u || s.on CVU_ST_ready u) ∧
        t.on CVU_ST_mismatch u = s.on CVU_ST_mismatch u ∧ t.get CVU_MIS_CNT_mis u = s.get CVU_MIS_CNT_mis u) ∧
      (s.on CVU_CTL_mode u = false →
        s.cvuVal u ^^^ crcFinal (s.get CVU_CTL_poly u) ≠ s.get64 CVU_EXP_LO_exp_lo CVU_EXP_HI_exp_hi u →
        t.on CVU_ST_mismatch u = true ∧
        t.get CVU_MIS_CNT_mis u = min (s.get CVU_MIS_CNT_mis u + 1) (top CVU_MIS_CNT_mis)) ∧ Keep s.newCycle t [.rcd, .irq, .perf, .out] ∧ KeepRegs s.newCycle t [] [EVR_LOSS_drop, CVU_VAL_LO_val_lo, CVU_VAL_HI_val_hi, CVU_RES_LO_res_lo, CVU_RES_HI_res_hi, CVU_CNT_cnt, CVU_ST_ready, CVU_MIS_CNT_mis]) ∧
  (∀ src u data bytes (s : State), u < 64 → s.on CVU_CTL_enable u = true → s.cvuOwner u ≠ 2 → s.get CVU_CTL_src u ≠ 5 →
    (s.get CVU_CTL_win u = 3 → s.get CVU_LEN_len u = 0) →
    ∃ t, Sys2Proof.Machine.exec (.cvuValWrite src u 0x30 15 data false bytes) s = .next t ∧
      t.cvuVal u = crcFeed (s.get CVU_CTL_poly u) (s.cvuVal u) bytes % 2 ^ 64 ∧
      t.get CVU_CNT_cnt u = min (data.toNat + bytes.length) (top CVU_CNT_cnt) ∧
      Keep s.newCycle t [.rcd, .irq, .perf, .out] ∧ KeepRegs s.newCycle t [] absorbRegs ∧
      (NoBusUnit s → Keep s.newCycle t [] ∧
        KeepRegs s.newCycle t [at_ CVU_VAL_LO_val_lo u, at_ CVU_VAL_HI_val_hi u, at_ CVU_CNT_cnt u] [])) ∧
  (∀ src u (s : State), u < 64 → (s.cvuOwner u = 2 → s.secureSrc src (at_ CVU_RES_HI_res_hi u) = true) →
    ∃ t, Sys2Proof.Machine.exec (.cvuResHiRead src u) s = .next t ∧
      t.out.rdata = [(latchedAt s (at_ CVU_RES_HI_res_hi u)).getD (s.reg (at_ CVU_RES_HI_res_hi u))] ∧
      t.on CVU_ST_ready u = false ∧ KeepBits s t (at_ CVU_ST_ready u) [CVU_ST_ready] ∧
      Keep s.newCycle t [.latch, .out] ∧ KeepRegs s.newCycle t [at_ CVU_ST_ready u] [])

/-- The security version counter holds 0 to 64 and only ever advances, under R312. From every state in which the counter,
and the security version of the image in force, are at most 64, every command that answers a next state leaves both at
most 64 and the counter no lower; where the counter advances, the image in force is confirmed, SECURITY.svn_advance is
1 in it, and the counter has taken the security version of that image. -/
def Obligations.SecurityVersionOnlyAdvances : Prop :=
  ∀ (i : Instr) (s t : State), Sys2Proof.Machine.exec i s = .next t →
    s.boot.fuse.svn ≤ 64 → s.get CP_IMG_SVN_img_svn ≤ 64 →
    t.boot.fuse.svn ≤ 64 ∧ t.get CP_IMG_SVN_img_svn ≤ 64 ∧ s.boot.fuse.svn ≤ t.boot.fuse.svn ∧
    (s.boot.fuse.svn < t.boot.fuse.svn →
      t.on CP_BOOT_ST_confirmed = true ∧ t.gl SECURITY_svn_advance = 1 ∧ t.boot.fuse.svn = t.get CP_IMG_SVN_img_svn)

/-- An abort cancels a command that is posted but not yet taken. A write of 1 to abort of a command channel by a source
that may write it: while the command is posted, it clears go and sets aborted, so that the channel is not eligible, no
command of it is taken and no reply is written; at the take or later it sets abort_late alone, and the command that
was taken stays taken, to run and be answered. The units of source 5 absorb the bytes of the write itself. -/
def Obligations.MailboxAborts : Prop :=
  ∀ src n (s : State), n < 12 → n % 2 = 0 →
    (8 ≤ n → s.secureSrc src (0x10040 + 0x100 * n) = true ∧ s.tamperHeld = false) →
    (s.on MBX_CTL_go n = true →
      ∃ t, Sys2Proof.Machine.exec (.mailboxAbort src n) s =
          .next (t.cvuWord (srcMaster src) (0x10010040 + 0x100 * n) 15 2) ∧
        t.on MBX_CTL_go n = false ∧ t.on MBX_ST_aborted n = true ∧ t.canTake n = false ∧
        t.on MBX_ST_abort_late n = s.on MBX_ST_abort_late n ∧
        KeepBits s t (at_ MBX_ST_aborted n) [MBX_ST_aborted] ∧ Keep s.newCycle t [] ∧
        KeepRegs s.newCycle t [at_ MBX_CTL_go n, at_ MBX_ST_aborted n] []) ∧
    (s.on MBX_CTL_go n = false →
      ∃ t, Sys2Proof.Machine.exec (.mailboxAbort src n) s =
          .next (t.cvuWord (srcMaster src) (0x10010040 + 0x100 * n) 15 2) ∧
        t.on MBX_ST_abort_late n = true ∧ t.host.taken = s.host.taken ∧
        KeepBits s t (at_ MBX_ST_abort_late n) [MBX_ST_abort_late] ∧ Keep s.newCycle t [] ∧
        KeepRegs s.newCycle t [at_ MBX_ST_abort_late n] [])

/-- The fields of LN_STATE that the lock steps of an acquisition write. -/
def Sys2Proof.Safety.lockBits : List Fld := [LN_STATE_state, LN_STATE_sig_det, LN_STATE_cdr_lock, LN_STATE_fec_lock, LN_STATE_align]

/-- Each step of an acquisition takes the lane one state on. CDR_LOCK takes a lane in CDR_ACQ, without LOS, squelched or
not, to ADAPT with signal detect and CDR lock; ADAPT_CONVERGED takes it from ADAPT to
FEC_LOCK; FEC_ALIGN_LOCK takes it from FEC_LOCK to DESKEW with codeword lock and alignment; ACQ_ATTEMPT_TIMEOUT of an
attempt that runs takes a lane in FEC_LOCK or DESKEW back to ADAPT, leaves one in CDR_ACQ or ADAPT there, and restarts
adaptation from the preset. Only the state and lock bits of LN_STATE of that lane change, and nothing else but what the
model holds of that lane. -/
def Obligations.LaneAcquires : Prop :=
  (∀ n s, s.get LN_STATE_state n = 2 → (s.laneSt n).losOn = false →
    ∃ t, Sys2Proof.Machine.exec (.cdrLock n) s = .next t ∧
      t.get LN_STATE_state n = 3 ∧ t.on LN_STATE_sig_det n = true ∧ t.on LN_STATE_cdr_lock n = true ∧
      t.on LN_STATE_fec_lock n = false ∧ t.on LN_STATE_align n = false ∧
      KeepBits s t (at_ LN_STATE_state n) lockBits ∧ Keep s.newCycle t [] ∧ KeepRegs s.newCycle t [at_ LN_STATE_state n] []) ∧
  (∀ n s, s.get LN_STATE_state n = 3 →
    ∃ t, Sys2Proof.Machine.exec (.adaptConverged n) s = .next t ∧
      t.get LN_STATE_state n = 4 ∧ t.on LN_STATE_sig_det n = true ∧ t.on LN_STATE_cdr_lock n = true ∧
      t.on LN_STATE_fec_lock n = false ∧ t.on LN_STATE_align n = false ∧
      t.laneSt n = { s.laneSt n with preset := false } ∧ (∀ m, m ≠ n → t.laneSt m = s.laneSt m) ∧
      KeepBits s t (at_ LN_STATE_state n) lockBits ∧ Keep s.newCycle t [.ln] ∧ KeepRegs s.newCycle t [at_ LN_STATE_state n] []) ∧
  (∀ n s, s.get LN_STATE_state n = 4 →
    ∃ t, Sys2Proof.Machine.exec (.fecAlignLock n) s = .next t ∧
      t.get LN_STATE_state n = 5 ∧ t.on LN_STATE_sig_det n = true ∧ t.on LN_STATE_cdr_lock n = true ∧
      t.on LN_STATE_fec_lock n = true ∧ t.on LN_STATE_align n = true ∧
      KeepBits s t (at_ LN_STATE_state n) lockBits ∧ Keep s.newCycle t [] ∧ KeepRegs s.newCycle t [at_ LN_STATE_state n] []) ∧
  (∀ n s, s.get LN_STATE_state n = 2 ∨ s.get LN_STATE_state n = 3 → (s.laneSt n).acq = true →
    ∃ t, Sys2Proof.Machine.exec (.acqAttemptTimeout n) s = .next t ∧ t.laneSt n = { s.laneSt n with preset := true } ∧
      (∀ m, m ≠ n → t.laneSt m = s.laneSt m) ∧ Keep s.newCycle t [.ln] ∧ t.regs = s.regs) ∧
  (∀ n s, s.get LN_STATE_state n = 4 ∨ s.get LN_STATE_state n = 5 → (s.laneSt n).acq = true →
    ∃ t, Sys2Proof.Machine.exec (.acqAttemptTimeout n) s = .next t ∧
      t.get LN_STATE_state n = 3 ∧ t.on LN_STATE_cdr_lock n = true ∧ t.on LN_STATE_fec_lock n = false ∧
      t.on LN_STATE_align n = false ∧ t.laneSt n = { s.laneSt n with preset := true } ∧
      (∀ m, m ≠ n → t.laneSt m = s.laneSt m) ∧
      KeepBits s t (at_ LN_STATE_state n) lockBits ∧ Keep s.newCycle t [.ln] ∧ KeepRegs s.newCycle t [at_ LN_STATE_state n] [])

/-- A deskewed bond enters UP as a whole. DESKEW_COMPLETE on an enabled lane of a bond every member of which is in DESKEW
and no measured skew of which exceeds LANES.skew_max, and whose FlexO group ID and instance numbers, where it is FlexO,
are those of its group, takes every member to UP with bond_up and link_up set; a member that was acquiring shows the
time since its own entry. That the group ID counts is the model's choice (log entry 217). -/
def Obligations.BondComesUp : Prop :=
  ∀ n members gid us s, n < 144 → laneOn s.img n = true →
    (∀ m ∈ bondOf s.img n, s.get LN_STATE_state m = 5) →
    ((s.lane (leadOf s.img n)).n LANES_format = 1 → gid = (s.frGroup (leadOf s.img n)).n FRAMING_flexo_gid ∧
      ∀ i < (bondOf s.img n).length,
        (members.map DeskewIn.iid).getD i 0 = (s.frGroup (leadOf s.img n)).n FRAMING_flexo_iid i) →
    (∀ p ∈ members, p.skew.natAbs ≤ (s.lane (leadOf s.img n)).n LANES_skew_max * 40) →
    ∃ t, Sys2Proof.Machine.exec (.deskewComplete n members gid us) s = .next t ∧
      (∀ m ∈ bondOf s.img n, t.get LN_STATE_state m = 6 ∧ t.on LN_STATE_bond_up m = true ∧
        t.on LN_STICKY_link_up m = true) ∧
      (∀ i m, (bondOf s.img n)[i]? = some m → (s.laneSt m).acq = true →
        t.get LN_LINKUP_time m = (us - (members.map DeskewIn.later).getD i 0) % 2 ^ 24) ∧
      (∀ m, m ∉ bondOf s.img n → t.get LN_STATE_state m = s.get LN_STATE_state m) ∧
      Keep s.newCycle t [.ln, .fr, .qs, .rcd, .irq, .perf, .tw, .tag, .evg, .out] ∧
      KeepRegs s.newCycle t [] (settleRegs ++ [MATE_ST_lanes_up, LN_STATE_state, LN_STICKY_los, LN_SKEW_skew, LN_LINKUP_time])

/-- The other members of the bond of lane `n` that were UP are in DESKEW. -/
def Sys2Proof.Safety.bondWaits (s t : State) (n : Nat) : Prop :=
  ∀ m ∈ bondOf s.img n, m ≠ n → s.get LN_STATE_state m = 6 → t.get LN_STATE_state m = 5

/-- A fault of Table 2-11 takes a lane out of UP. LOS_ENTRY, CDR_UNLOCK, FEC_LOSS and ALIGN_LOSS on a lane in UP set the
sticky bit of the fault and link_down, clear bond_up, and take the lane to CDR_ACQ. The other members of its bond that
were UP wait in DESKEW. -/
def Obligations.LaneFaultLeavesUp : Prop :=
  ∀ n also s, n < 144 → s.get LN_STATE_state n = 6 → n ∈ bondOf s.img n →
    (∃ t, Sys2Proof.Machine.exec (.losEntry n also) s = .next t ∧
      t.get LN_STATE_state n = 2 ∧ t.on LN_STICKY_los n = true ∧ t.on LN_STATE_sig_det n = false ∧
      t.on LN_STICKY_link_down n = true ∧ t.on LN_STATE_bond_up n = false ∧ bondWaits s t n ∧ Keep s.newCycle t [.ln, .fr, .qs, .rcd, .irq, .perf, .tw, .tag, .evg, .out] ∧
      KeepRegs s.newCycle t [] (settleRegs ++ [MATE_ST_lanes_up, LN_STATE_state, LN_STICKY_los, LN_DOWN_CNT_count, LN_EB_slips])) ∧
    (∃ t, Sys2Proof.Machine.exec (.cdrUnlock n also) s = .next t ∧
      t.get LN_STATE_state n = 2 ∧ t.on LN_STICKY_cdr_unlock n = true ∧
      t.on LN_STICKY_link_down n = true ∧ t.on LN_STATE_bond_up n = false ∧ bondWaits s t n ∧ Keep s.newCycle t [.ln, .fr, .qs, .rcd, .irq, .perf, .tw, .tag, .evg, .out] ∧
      KeepRegs s.newCycle t [] (settleRegs ++ [MATE_ST_lanes_up, LN_STATE_state, LN_STICKY_los, LN_DOWN_CNT_count, LN_EB_slips])) ∧
    (∃ t, Sys2Proof.Machine.exec (.fecLoss n also) s = .next t ∧
      t.get LN_STATE_state n = 2 ∧ t.on LN_STICKY_fec_loss n = true ∧
      t.on LN_STICKY_link_down n = true ∧ t.on LN_STATE_bond_up n = false ∧ bondWaits s t n ∧ Keep s.newCycle t [.ln, .fr, .qs, .rcd, .irq, .perf, .tw, .tag, .evg, .out] ∧
      KeepRegs s.newCycle t [] (settleRegs ++ [MATE_ST_lanes_up, LN_STATE_state, LN_STICKY_los, LN_DOWN_CNT_count, LN_EB_slips])) ∧
    (∃ t, Sys2Proof.Machine.exec (.alignLoss n also) s = .next t ∧
      t.get LN_STATE_state n = 2 ∧ t.on LN_STICKY_align_loss n = true ∧
      t.on LN_STICKY_link_down n = true ∧ t.on LN_STATE_bond_up n = false ∧ bondWaits s t n ∧ Keep s.newCycle t [.ln, .fr, .qs, .rcd, .irq, .perf, .tw, .tag, .evg, .out] ∧
      KeepRegs s.newCycle t [] (settleRegs ++ [MATE_ST_lanes_up, LN_STATE_state, LN_STICKY_los, LN_DOWN_CNT_count, LN_EB_slips]))

/-- Elastic slips, lane terms, the end of LOS and module interrupts. LOS_EXIT ends LOS and shows signal detect. EB_SLIP
past POWERED sets eb_slip, counts the slip and recentres the buffer to 64. LANE_TERM_MEASURE on an aligned lane that
carries no test pattern writes both terms, each the difference of its two instants plus the ball offset, cut to the
field, and the timestamp of the receive event; a term that moved by more than the threshold since a measurement of the
same stay in UP sets term_step. MOD_INT_EDGE sets mod_int on the enabled lanes of the quad up to the thousandth edge of a
second, and from the next on sets mod_int_masked on all of them, with the pin masked. Which bit the edge after the
thousandth sets is the model's choice (log entry 218). -/
def Obligations.LaneEvents : Prop :=
  (∀ n s, n < 144 → (s.laneSt n).losOn = true →
    ∃ t, Sys2Proof.Machine.exec (.losExit n) s = .next t ∧
      (t.laneSt n).losOn = false ∧ t.on LN_STATE_sig_det n = true ∧ (∀ m, m ≠ n → t.laneSt m = s.laneSt m) ∧
      KeepBits s t (at_ LN_STATE_state n) [LN_STATE_sig_det] ∧ Keep s.newCycle t [.ln] ∧ KeepRegs s.newCycle t [at_ LN_STATE_state n] []) ∧
  (∀ n s, 2 ≤ s.get LN_STATE_state n →
    ∃ t, Sys2Proof.Machine.exec (.ebSlip n) s = .next t ∧
      t.on LN_STICKY_eb_slip n = true ∧ t.get LN_EB_slips n = min (s.get LN_EB_slips n + 1) (top LN_EB_slips) ∧
      t.get LN_EB_fill n = 64 ∧
      KeepBits s t (at_ LN_STICKY_eb_slip n) [LN_STICKY_eb_slip] ∧
      Keep s.newCycle t [] ∧ KeepRegs s.newCycle t [at_ LN_STICKY_eb_slip n, at_ LN_EB_slips n] []) ∧
  (∀ n rx tx s, s.on LN_STATE_align n = true → (s.lane n).n LANES_format ≠ 5 →
    ∃ t, Sys2Proof.Machine.exec (.laneTermMeasure n rx tx) s = .next t ∧
      t.get LN_RX_TERM_rx_term n = ((rx.core : Int) - rx.unit + s.ballOf n false).toNat % 2 ^ 20 ∧
      t.get LN_TX_TERM_tx_term n = ((tx.unit : Int) - tx.core + s.ballOf n true).toNat % 2 ^ 20 ∧
      t.get LN_TS_SEC_sec n = rx.sec % 2 ^ 32 ∧ t.get LN_TS_NS_ns n = rx.unit / 40 % 2 ^ 30 ∧
      t.get LN_TS_SUB_sub n = rx.unit % 40 ∧
      (t.laneSt n).measured = decide (s.get LN_STATE_state n = 6) ∧
      t.on LN_STICKY_term_step n = (s.on LN_STICKY_term_step n || ((s.laneSt n).measured && decide
        ((s.lane n).n LANES_term_step <
          25 * max ((((rx.core : Int) - rx.unit + s.ballOf n false).toNat : Int) - s.get LN_RX_TERM_rx_term n).natAbs
            ((((tx.unit : Int) - tx.core + s.ballOf n true).toNat : Int) - s.get LN_TX_TERM_tx_term n).natAbs))) ∧ Keep s.newCycle t [.ln, .rcd, .irq, .perf, .out] ∧ KeepRegs s.newCycle t [] [EVR_LOSS_drop, LN_STICKY_los, LN_RX_TERM_rx_term, LN_TX_TERM_tx_term, LN_TS_SEC_sec, LN_TS_NS_ns, LN_TS_SUB_sub]) ∧
  (∀ q s, q < 32 →
    ∃ t, Sys2Proof.Machine.exec (.modIntEdge q) s = .next t ∧
      tget (fun _ => 0) t.ln.modEdges q = tget (fun _ => 0) s.ln.modEdges q + 1 ∧
      (tget (fun _ => 0) s.ln.modEdges q < 1000 → t.ln.modMasked = s.ln.modMasked ∧
        ∀ n ∈ lanesOfQuad q, laneOn s.img n = true → t.on LN_STICKY_mod_int n = true) ∧
      (1000 ≤ tget (fun _ => 0) s.ln.modEdges q → q ∈ t.ln.modMasked ∧
        ∀ n ∈ lanesOfQuad q, t.on LN_STICKY_mod_int_masked n = true ∧ t.on LN_STICKY_mod_int n = s.on LN_STICKY_mod_int n) ∧
      Keep s.newCycle t [.ln, .rcd, .irq, .perf, .out] ∧ KeepRegs s.newCycle t [] [EVR_LOSS_drop, LN_STICKY_los])

/-- Reference clocks and synthesizers. REFCLK_LOSS of clock r marks it lost, clears refclk_ok of every lane that it
serves, and sets refclk_loss on each of them that is enabled and not DISABLED. REFCLK_VALID ends the loss: each lane
served that is not DISABLED goes to POWERED with refclk_ok set. SYNTH_LOCK of a quad takes its lanes in POWERED, whose
reference is present, to CDR_ACQ, and after an unlock recentres the egress buffers that ran, with eb_slip set. SYNTH_UNLOCK ends the lock and sets synth_unlock on the lanes that are not DISABLED. -/
def Obligations.LaneClocks : Prop :=
  (∀ r s, r < 8 →
    ∃ t, Sys2Proof.Machine.exec (.refclkLoss r) s = .next t ∧
      r ∈ t.ln.refLost ∧ (∀ q ∈ s.ln.refLost, q ∈ t.ln.refLost) ∧
      (∀ n < 144, refOf n = r → t.on LN_STATE_refclk_ok n = false ∧
        (laneOn s.img n = true → s.get LN_STATE_state n ≠ 0 → t.on LN_STICKY_refclk_loss n = true)) ∧ Keep s.newCycle t [.ln, .fr, .qs, .rcd, .irq, .perf, .tw, .tag, .evg, .out] ∧
      KeepRegs s.newCycle t [] (settleRegs ++ [MATE_ST_lanes_up, LN_STATE_state, LN_STICKY_los, LN_DOWN_CNT_count])) ∧
  (∀ r s, r ∈ s.ln.refLost →
    ∃ t, Sys2Proof.Machine.exec (.refclkValid r) s = .next t ∧
      r ∉ t.ln.refLost ∧
      (∀ n < 144, refOf n = r → s.get LN_STATE_state n ≠ 0 →
        t.get LN_STATE_state n = 1 ∧ t.on LN_STATE_refclk_ok n = true) ∧
      (∀ n, refOf n ≠ r → t.get LN_STATE_state n = s.get LN_STATE_state n) ∧ Keep s.newCycle t [.ln] ∧ KeepRegs s.newCycle t [] [LN_STATE_state]) ∧
  (∀ q s, q < 36 →
    ∃ t, Sys2Proof.Machine.exec (.synthLock q) s = .next t ∧
      q ∈ t.ln.synthOk ∧
      (∀ n ∈ lanesOfQuad q, s.get LN_STATE_state n = 1 → refOf n ∉ s.ln.refLost → t.get LN_STATE_state n = 2) ∧
      (∀ n ∈ lanesOfQuad q, t.on LN_STICKY_eb_slip n =
        (s.on LN_STICKY_eb_slip n || (s.ln.unlocked.contains q && (s.laneSt n).egress))) ∧
      (∀ n, n ∉ lanesOfQuad q → t.get LN_STATE_state n = s.get LN_STATE_state n) ∧ Keep s.newCycle t [.ln] ∧ KeepRegs s.newCycle t [] [LN_STATE_state, LN_STICKY_los, LN_EB_fill]) ∧
  (∀ q s, q < 36 →
    ∃ t, Sys2Proof.Machine.exec (.synthUnlock q) s = .next t ∧
      q ∉ t.ln.synthOk ∧
      (∀ n ∈ lanesOfQuad q, s.get LN_STATE_state n ≠ 0 → t.on LN_STICKY_synth_unlock n = true) ∧ Keep s.newCycle t [.ln, .fr, .qs, .rcd, .irq, .perf, .tw, .tag, .evg, .out] ∧
      KeepRegs s.newCycle t [] (settleRegs ++ [MATE_ST_lanes_up, LN_STATE_state, LN_STICKY_los, LN_DOWN_CNT_count]))

/-- The positions of a window whose runs of matches have reached N. -/
def Sys2Proof.Safety.hitsOf (s : State) (c : Nat) (pos : List Nat) : List (Nat × Nat) :=
  (nextCands (s.alignSt c).cands pos).filter fun x => decide ((s.alignSt c).n ≤ x.2)

/-- A window of an alignment search. ALIGN_WINDOW_END on a receive context that searches for its own alignment takes the
positions seen, for a line those of the command, for a twig host those in the bytes demapped, of which the window is
complete with 8,007; before that nothing changes. Where no position has matched in N consecutive windows the open candidates are shown; where one has, the context is in frame at
it, and what follows in the cycle is settled; where more than one has, the search starts again with N raised by 2, at
most 7, and the ambiguity is counted. -/
def Obligations.AlignmentSearch : Prop :=
  ∀ c found term s e, c < 262144 → s.mapE c = some e → ownAlign (e.n MAPPING_kind) = true → e.n MAPPING_dir = 0 →
    (s.alignSt c).held = false → s.on FRM_ALIGN_state c = false →
    ((s.window c e found).1 = none →
      ∃ t, Sys2Proof.Machine.exec (.alignWindowEnd c found term) s = .next t ∧ Keep s.newCycle t [] ∧ t.regs = s.regs) ∧
    (∀ pos, (s.window c e found).1 = some pos → (e.n MAPPING_kind = 7 ∧ 64056 ≤ (s.mapSt c).q.n ∧
      pos = (List.range 8000).filter fun i => (s.mapSt c).q.v / 2 ^ (8 * i) % 2 ^ 64 == twigNum) ∨
        (e.n MAPPING_kind ≠ 7 ∧ pos = dedup found)) ∧
    ∀ pos, (s.window c e found).1 = some pos →
    (hitsOf s c pos = [] →
      ∃ t, Sys2Proof.Machine.exec (.alignWindowEnd c found term) s = .next t ∧
        t.get FRM_ALIGN_cands c = min (nextCands (s.alignSt c).cands pos).length 255 ∧
        t.alignSt c = { s.alignSt c with cands := nextCands (s.alignSt c).cands pos } ∧
        (∀ d, d ≠ c → t.alignSt d = s.alignSt d) ∧ KeepBits s t (at_ FRM_ALIGN_cands c) [FRM_ALIGN_cands] ∧
        Keep s.newCycle t [.fr] ∧ KeepRegs s.newCycle t [at_ FRM_ALIGN_cands c] []) ∧
    (∀ x, hitsOf s c pos = [x] →
      ∃ u, Sys2Proof.Machine.exec (.alignWindowEnd c found term) s = .next u.settle ∧
        u.on FRM_ALIGN_state c = true ∧ u.on FRM_ALIGN_im c = false ∧ u.get FRM_ALIGN_cands c = 0 ∧
        u.alignSt c = { n := (s.alignSt c).n, pos := x.1, held := false } ∧
        (∀ d, d ≠ c → u.alignSt d = s.alignSt d) ∧
        Keep s.newCycle u [.fr, .tw, .rcd, .irq, .perf, .out] ∧
        KeepRegs s.newCycle u [at_ FRM_ALIGN_state c, at_ MAP_HOST_TERM_term c] [EVR_LOSS_drop]) ∧
    (2 ≤ (hitsOf s c pos).length →
      ∃ t, Sys2Proof.Machine.exec (.alignWindowEnd c found term) s = .next t ∧
        t.get FRM_ALIGN_n_cur c = min ((s.alignSt c).n + 2) 7 ∧ t.get FRM_ALIGN_cands c = 0 ∧
        t.on FRM_ALIGN_state c = false ∧ t.get FRM_ALIGN_amb_cnt c = min (s.get FRM_ALIGN_amb_cnt c + 1) (top FRM_ALIGN_amb_cnt) ∧
        Keep s.newCycle t [.fr] ∧ KeepRegs s.newCycle t [at_ FRM_ALIGN_state c] [])

/-- A received frame is a block of its layer. FRAME_RECEIVED on a monitored receive context that is aligned, whose path
entry has performance monitoring, counts the frame in the errored blocks of the current second when Table 3-1 calls it
errored, and not otherwise. -/
def Obligations.FramesCount : Prop :=
  ∀ c f s e p, c < 262144 → s.mapE c = some e → e.n MAPPING_dir = 0 → s.aligned c (e.n MAPPING_kind) e = true →
    s.path c = some p → p.n FRAMING_pm ≠ 0 →
    ∃ t, Sys2Proof.Machine.exec (.frameReceived c f) s = .next t ∧
      t.get FRM_EB_CUR_eb c =
        min (s.get FRM_EB_CUR_eb c + b2n (frameErrored (p.n FRAMING_layer) f)) (top FRM_EB_CUR_eb) ∧
      (∀ d, d ≠ c → t.get FRM_EB_CUR_eb d = s.get FRM_EB_CUR_eb d) ∧ Keep s.newCycle t [.fr, .qs, .rcd, .irq, .perf, .tw, .tag, .evg, .out] ∧
      KeepRegs s.newCycle t [] (settleRegs ++ [FRM_TTI_crc, FRM_EB_CUR_eb, MAP_GMP_jc_err, MAP_ADAPT_ovf, MAP_STATE_cr_pend])

/-- From `s` to `u` the latch of defect `k` of context `c` takes a value, its other defects and every other context keep theirs,
and nothing else changes. -/
def Sys2Proof.Safety.latched (s u : State) (c k : Nat) (on : Bool) : Prop :=
  bit (u.defSt c).lat k = on ∧ (∀ i, i ≠ k → bit (u.defSt c).lat i = bit (s.defSt c).lat i) ∧
  (∀ d, d ≠ c → u.defSt d = s.defSt d) ∧ Keep s.newCycle u [.fr] ∧ KeepRegs s.newCycle u [] []

/-- LOF and LOM. LOF_DECLARE latches LOF on a context of a layer with its own alignment in which OOF stands without SSF;
LOF_CLEAR clears it once the context is in frame. LOM_DECLARE latches LOM on a context in frame and not in multiframe,
with none of SSF, OOF and LOF present; LOM_CLEAR clears it once it is in multiframe. What follows in the same cycle is
settled. -/
def Obligations.TimedDefects : Prop :=
  (∀ c s, ownAlign (s.layerOf c) = true → s.on FRM_DEF_oof c = true → s.on FRM_DEF_ssf c = false →
    ∃ u, Sys2Proof.Machine.exec (.lofDeclare c) s = .next u.settle ∧ latched s u c 2 true) ∧
  (∀ c s, ownAlign (s.layerOf c) = true → s.on FRM_ALIGN_state c = true →
    ∃ u, Sys2Proof.Machine.exec (.lofClear c) s = .next u.settle ∧ latched s u c 2 false) ∧
  (∀ c s, bit (defectLayers 3) (s.layerOf c) = true → s.on FRM_ALIGN_state c = true → s.on FRM_ALIGN_im c = false →
    s.on FRM_DEF_ssf c = false → s.on FRM_DEF_oof c = false → s.on FRM_DEF_lof c = false →
    ∃ u, Sys2Proof.Machine.exec (.lomDeclare c) s = .next u.settle ∧ latched s u c 3 true) ∧
  (∀ c s, bit (defectLayers 3) (s.layerOf c) = true → s.on FRM_ALIGN_im c = true →
    ∃ u, Sys2Proof.Machine.exec (.lomClear c) s = .next u.settle ∧ latched s u c 3 false) ∧
  (∀ u, Keep u u.settle [.fr, .qs, .rcd, .irq, .perf, .tw, .tag, .evg, .out] ∧ KeepRegs u u.settle [] settleRegs)

/-- FlexE calendars, and the frame boundary of an egress mapper. FLEXE_CAL_SWITCH after CA switches the transmit calendar
to the one that CR named and ends the request. FLEXE_CA_TIMEOUT without CA ends the request and keeps the calendar.
EGRESS_FRAME_BOUNDARY on a transmit context starts a new frame: the counts of the blocks of the last one are clear,
the replacement follows from them, and the BDI sent is the signal fail of the sink whose peer it is. -/
def Obligations.FlexeCalendarsAndEgress : Prop :=
  (∀ c s k, c < 262144 → (s.calSt c).caGot = true → (s.calSt c).crNew = some k →
    ∃ t, Sys2Proof.Machine.exec (.flexeCalSwitch c) s = .next t ∧
      t.calSt c = { s.calSt c with txC := k, crNew := none, caGot := false } ∧ (∀ d, d ≠ c → t.calSt d = s.calSt d) ∧
      t.get MAP_STATE_cal_tx c = k % 2 ∧ t.on MAP_STATE_cr_pend c = false ∧
      KeepBits s t (at_ MAP_STATE_cal_tx c) [MAP_STATE_cal_tx, MAP_STATE_cr_pend] ∧
      Keep s.newCycle t [.fr] ∧ KeepRegs s.newCycle t [at_ MAP_STATE_cal_tx c] []) ∧
  (∀ c s, s.on MAP_STATE_cr_pend c = true → (s.calSt c).caGot = false →
    ∃ t, Sys2Proof.Machine.exec (.flexeCaTimeout c) s = .next t ∧
      t.calSt c = { s.calSt c with crNew := none } ∧ (∀ d, d ≠ c → t.calSt d = s.calSt d) ∧
      t.on MAP_STATE_cr_pend c = false ∧ t.get MAP_STATE_cal_tx c = s.get MAP_STATE_cal_tx c ∧ Keep s.newCycle t [.fr, .rcd, .irq, .perf, .out] ∧ KeepRegs s.newCycle t [] [EVR_LOSS_drop, MAP_STATE_cr_pend]) ∧
  (∀ c s e, s.mapE c = some e → e.n MAPPING_dir = 1 →
    ∃ t, Sys2Proof.Machine.exec (.egressFrameBoundary c) s = .next t ∧
      (t.egSt c).fail = false ∧ (t.egSt c).ueq = false ∧ (t.egSt c).good = false ∧
      (t.egSt c).repl = (let g := s.egSt c
        if g.fail = true ∧ ¬ (g.good = true ∧ g.last = 0) then 1
        else if g.ueq = true ∧ ¬ (g.good = true ∧ g.last = 0) then 2 else if g.good = true then 0 else g.repl) ∧
      (t.egSt c).bdi = (match s.sinkOf c with | some p => s.on FRM_DEF_tsf (p.n FRAMING_ctx) | none => false) ∧
      (t.egSt c).mfas = ((s.egSt c).mfas + 1) % 256 ∧
      (∀ d, d ≠ c → t.egSt d = s.egSt d) ∧ Keep s.newCycle t [.fr, .free, .out] ∧
      KeepRegs s.newCycle t [] [QS_GRP_APS_tx_br, MAP_GMP_jc_err, MAP_ADAPT_ovf])

/-- A grid period moves the grid, the system time and the counts of the lanes one period on. While the device is RUNNING,
a grid period adds one to the grid period count and 128 increments, each 0.8 ns plus the adjustment, to the system
time, and counts what the pipe of a lane that is not DISABLED decodes: codewords (wrapping), corrected and
uncorrectable codewords and corrected symbols (saturating), fill and SNR as shown, and PRBS errors only in a test.
While it is not RUNNING, the grid and the system time stand still and only the calendar clock runs. -/
def Obligations.GridPeriodAdvances : Prop :=
  (∀ x s, s.bootState = 4 →
    ∃ t, Sys2Proof.Machine.exec (.gridPeriod x) s = .next t ∧
      t.fab.gp = s.fab.gp + 1 ∧ t.pwr.up = s.pwr.up + 1 ∧
      (∀ v : Int, v = 5 * (s.sysTime : Int) + s.tim.rem5 + 128 * (2 ^ 34 + 5 * s.getI TMC_INC_inc_adj) →
        0 ≤ v → v < 5 * 2 ^ 48 * (secUnits : Int) → 5 * (t.sysTime : Int) + t.tim.rem5 = v) ∧
      (∀ l, x.lanes = [l] → l.lane < 144 → s.get LN_STATE_state l.lane ≠ 0 →
        t.get64 LN_FEC_CW_LO_cw_lo LN_FEC_CW_HI_cw_hi l.lane =
          (s.get64 LN_FEC_CW_LO_cw_lo LN_FEC_CW_HI_cw_hi l.lane + l.cw) % 2 ^ 64 ∧
        t.get64 LN_FEC_CORR_LO_corr_lo LN_FEC_CORR_HI_corr_hi l.lane =
          min (s.get64 LN_FEC_CORR_LO_corr_lo LN_FEC_CORR_HI_corr_hi l.lane + l.corr) (2 ^ 64 - 1) ∧
        t.get LN_FEC_UNCORR_uncorr l.lane = min (s.get LN_FEC_UNCORR_uncorr l.lane + l.uncorr) (top LN_FEC_UNCORR_uncorr) ∧
        t.get LN_FEC_SYM_sym l.lane = min (s.get LN_FEC_SYM_sym l.lane + l.sym) (top LN_FEC_SYM_sym) ∧
        t.get LN_PRBS_ERR_errs l.lane = (if s.on LN_STATE_test l.lane then
          min (s.get LN_PRBS_ERR_errs l.lane + l.prbs) (top LN_PRBS_ERR_errs) else s.get LN_PRBS_ERR_errs l.lane)) ∧
      Keep s.newCycle t [.ln, .fr, .qs, .mate, .rcd, .irq, .perf, .free, .gp, .fab, .tw, .tag, .evg, .pwr, .chg, .tim, .out, .up] ∧
      KeepRegs s.newCycle t [] (settleRegs ++ [FAB_COPPICE_MIS_total, FAB_ERR_nosrc, FAB_SLICE_CORR_corr, FAB_SLICE_ERR_mis, PIT_CTX_ST_exp, CVU_VAL_LO_val_lo, CVU_VAL_HI_val_hi, CVU_RES_LO_res_lo, CVU_RES_HI_res_hi, CVU_CNT_cnt, CVU_ST_ready, CVU_MIS_CNT_mis, TMC_SEC_LO_sec_lo, TMC_SEC_HI_sec_hi, TMC_NS_ns, TMC_FRAC_frac, RTC_SEC_LO_sec_lo, RTC_SEC_HI_sec_hi, RTC_TICK_tick, LN_FEC_CW_LO_cw_lo, LN_FEC_CW_HI_cw_hi, LN_FEC_CORR_LO_corr_lo, LN_FEC_CORR_HI_corr_hi, LN_FEC_UNCORR_uncorr, LN_FEC_SYM_sym, LN_EB_fill, LN_SNR_snr, LN_PRBS_ERR_errs, FRM_TTI_crc, FRM_PM_deg_good, FRM_EB_CUR_eb, MAP_GMP_jc_err, MAP_ADAPT_ovf, MAP_HOST_fnum, MAP_ECC_ctx_err, MAP_STATE_cr_pend])) ∧
  (∀ x s, s.bootState ≠ 4 →
    ∃ t, Sys2Proof.Machine.exec (.gridPeriod x) s = .next t ∧
      t.pwr.up = s.pwr.up + 1 ∧ Keep s.newCycle t [.pwr, .up, .tim] ∧
      KeepRegs s.newCycle t [] [RTC_SEC_LO_sec_lo, RTC_SEC_HI_sec_hi, RTC_TICK_tick])

/-- A block that an ingress port writes is the block that a read of its pair delivers. A slot block written in a write
pair in a grid period is stored in the physical slice that serves the logical slice, and no other location changes. A
read entry with that pair and lag delivers it that many grid periods later under the same page, until the location is
written again; one whose location holds no block of that grid period delivers the all-zero block with the fail marker
and counts a stale read. A read whose block check fails, or of an uncorrectable word, delivers the block with its fail
marker set; an output whose bridge is off receives the all-zero block with ueq. -/
def Obligations.SlotBlocksPassThroughSlices : Prop :=
  (∀ (s : State) ls wc b nosrc ph wc' g', wc < 128 → wc' < 128 → ph ∈ s.writers ls →
    ∃ t, t = s.writeBlk (pairOf ls wc) b nosrc ∧
    t.stored ph (pairOf ls wc) s.fab.gp = some b ∧ t.storedNosrc ph (pairOf ls wc) s.fab.gp = nosrc ∧
    (¬ (wc' = wc ∧ g' % 32 = s.fab.gp % 32) → t.stored ph (pairOf ls wc') g' = s.stored ph (pairOf ls wc') g') ∧
    (∀ o, o ∉ s.writers ls → t.stored o (pairOf ls wc') g' = s.stored o (pairOf ls wc') g') ∧
    t.stored ph (pairOf ls wc) (s.fab.gp + 32) = none) ∧
  (∀ (s : State) x r b, s.bridgeOff r = false → (s.sourceOf r).2 ≤ s.fab.gp →
    s.stored (s.physOf (r.n FABRIC_PAGE_rd_slice)) (pairOf (r.n FABRIC_PAGE_rd_slice) (s.sourceOf r).1)
      (s.fab.gp - (s.sourceOf r).2) = some b →
    (s.readBlk x r).1.fab.locs = s.fab.locs ∧
    (r.n FABRIC_PAGE_out ∉ x.chk → r.n FABRIC_PAGE_out ∉ x.uncorr → (s.readBlk x r).2 = b ∧
      (s.get FAB_COPPICE_state ≠ 1 → (∀ p ∈ x.corr, p.1 ≠ r.n FABRIC_PAGE_out) →
        Keep s (s.readBlk x r).1 [.fab] ∧ KeepRegs s (s.readBlk x r).1 [] [])) ∧
    (r.n FABRIC_PAGE_out ∈ x.chk ∨ r.n FABRIC_PAGE_out ∈ x.uncorr → (s.readBlk x r).2 = b.failed)) ∧
  (∀ (s : State) x r, s.bridgeOff r = false → (s.sourceOf r).2 ≤ s.fab.gp →
    s.stored (s.physOf (r.n FABRIC_PAGE_rd_slice)) (pairOf (r.n FABRIC_PAGE_rd_slice) (s.sourceOf r).1)
      (s.fab.gp - (s.sourceOf r).2) = none →
    (s.readBlk x r).2 = failBlk ∧
      (s.readBlk x r).1.get FAB_ERR_stale = min (s.get FAB_ERR_stale + 1) (top FAB_ERR_stale)) ∧
  (∀ (s : State) x r, s.bridgeOff r = true → s.readBlk x r = (s.noteLost (r.n FABRIC_PAGE_out), ueqBlk))

/-- A grid multiframe boundary counts itself and changes no section by itself. While the device is RUNNING, the boundary
adds one to the grid multiframe count, brings the grid period count to the boundary, and, where no APPLY or plan is in
progress and the device follows no active mate, leaves every section as it is. That the row moves the grid period
count is log entry 71. A device that is not RUNNING has no boundary. -/
def Obligations.BoundaryCounts : Prop :=
  (∀ x s, s.bootState = 4 →
    ∃ t, Sys2Proof.Machine.exec (.gridMultiframeBoundary x) s = .next t ∧
      t.gmf = (s.gmf + 1) % 2 ^ 64 ∧ t.fab.gp = max s.fab.gp (1024 * (s.gmf + 1)) ∧ t.chg.swap = none ∧
      (s.changing = false → ¬ (s.get MATE_ST_mode = 1 ∧ s.get MATE_ST_role = 2) → t.img = s.img) ∧
      Keep s.newCycle t [.img, .ln, .fr, .qs, .mate, .rcd, .irq, .perf, .free, .gp, .fab, .tw, .tag, .evg, .pwr, .chg, .bus, .tim, .mem, .out] ∧
      KeepRegs s.newCycle t [] (settleRegs ++ acceptRegs ++ [FAB_PAGE_active, FAB_PAGE_ID_id, TWG_PAGE_active, TWG_PAGE_ID_id, FAB_GMF_LO_gmf_lo, FAB_GMF_HI_gmf_hi, FAB_STEER_phys0, FAB_COPPICE_next_min, FAB_COPPICE_CNT_done, FAB_COPPICE_MIS_total, FAB_SLICE_ST_rot_ok, FAB_SLICE_ERR_mis, FAB_SLICE_TEST_last_pass, PLN_STATE_steps, PLN_DUE_LO_due_lo, PLN_DUE_HI_due_hi, PLN_DETAIL_key, PLN_HIT_last_max, PLN_CNT_applies, QS_GRP_APS_tx_br, MATE_ST_lanes_up, MATE_GEN_age, MATE_MISS_pin_miss, EVG_M_ST_last, EVG_M_OFF_A_off, EVG_M_OFF_B_off, EVG_M_SEQ_seq, EVG_M_QFILL_middle, EVG_M_QW_written, EVG_M_QR_played, EVG_M_ERR_bad_b, EVG_M_LOSS_missing, EVG_M_DUP_resyncs, EVG_M_DROP_ovf, PIT_SUM_twig_faulty, PIT_CNT_clr, PIT_CTX_ST_exp, PIT_CTX_ERR_alive_err, PIT_CTX_MISS_relapse, PIT_CTX_TAG_LO_tag_lo, PIT_CTX_TAG_HI_tag_hi, MB_ST_repaired, HQ_CTL_flush, PC_SEL_filter, CVU_CTL_master, CVU_SEL_twig, CVU_BASE_LO_base_lo, CVU_BASE_HI_base_hi, CVU_SIZE_size, CVU_LEN_len, CVU_EXP_LO_exp_lo, CVU_EXP_HI_exp_hi, TMC_ST_tswitch_stk, TMC_FREQ_freq, TMC_HOLD_hold_s, TMC_THOLD_hold_s, TMC_INC_inc_adj, TMC_CAND_ST_wtr_left, TMC_CAND_CNT_tod_err, TMC_TCH_ST_accepted, TMC_TCOR_ST_en, TMC_TOD_TX_en, LN_STATE_state, LN_STICKY_los, LN_DOWN_CNT_count, FRM_TTI_crc, FRM_PM_deg_good, FRM_EB_CUR_eb, MAP_CTX_CFG_server, MAP_CTX_SLOTS_host, MAP_GMP_jc_err, MAP_ADAPT_ovf, MAP_HOST_fnum, MAP_ECC_ctx_err, MAP_STATE_cr_pend, PWR_DOM_last_us, TMC_CAND_PHASE_phase, LN_EB_slips, CVU_ST_ready, BM_WV_count, BM_WV_ADDR_LO_addr_lo, BM_WV_ADDR_HI_addr_hi])) ∧
  (∀ x s, s.bootState ≠ 4 → Sys2Proof.Machine.exec (.gridMultiframeBoundary x) s = .next s.newCycle)

/-- A lost mate: takeover, isolation, or neither. Declaring the mate lost: a shadow-mode standby with MATE_RANK high, or
on a gasp, becomes ACTIVE, counts a takeover, and puts the quickset groups of the last committed generation in force,
the system time going on as it stands. Otherwise the loss is shown and counted; a shadow-mode device of rank low whose loss came without a gasp becomes
ISOLATED with its line transmitters squelched, and any other keeps its role. -/
def Obligations.MateLoss : Prop :=
  ∀ s, s.mate.lostDue = true →
    (s.get MATE_ST_mode = 1 → s.get MATE_ST_role = 2 → (s.on MATE_ST_rank || s.mate.byGasp) = true →
      ∃ u t : State, Sys2Proof.Machine.exec (.mateLost) s = .next t ∧ t = u.settle ∧
        t.get MATE_ST_role = 1 ∧ t.get MATE_CNT_takeovers = (s.get MATE_CNT_takeovers + 1) % (top MATE_CNT_takeovers + 1) ∧
        (∀ m, s.mate.last = some m → u.qs.grps = m.grps) ∧ Keep s.newCycle t [.img, .ln, .fr, .qs, .mate, .rcd, .irq, .perf, .fab, .tw, .tag, .evg, .pwr, .chg, .bus, .tim, .mem, .out] ∧
      KeepRegs s.newCycle t [] (settleRegs ++ [FAB_PAGE_active, FAB_PAGE_ID_id, TWG_PAGE_active, TWG_PAGE_ID_id, FAB_COPPICE_next_min, PLN_STATE_steps, PLN_ID_id, PLN_DUE_LO_due_lo, PLN_DUE_HI_due_hi, PLN_DETAIL_key, QS_GRP_APS_tx_br, MATE_ST_lanes_up, MATE_CNT_losses, EVG_M_ST_last, EVG_M_OFF_A_off, EVG_M_OFF_B_off, EVG_M_SEQ_seq, EVG_M_QFILL_middle, EVG_M_QW_written, EVG_M_QR_played, EVG_M_ERR_bad_b, EVG_M_LOSS_missing, EVG_M_DUP_resyncs, EVG_M_DROP_ovf, PIT_CTX_ST_exp, PIT_CTX_ERR_alive_err, PIT_CTX_MISS_relapse, PIT_CTX_TAG_LO_tag_lo, PIT_CTX_TAG_HI_tag_hi, MB_ST_repaired, HQ_CTL_flush, PC_SEL_filter, CVU_CTL_master, CVU_SEL_twig, CVU_BASE_LO_base_lo, CVU_BASE_HI_base_hi, CVU_SIZE_size, CVU_LEN_len, CVU_EXP_LO_exp_lo, CVU_EXP_HI_exp_hi, TMC_ST_tswitch_stk, TMC_FREQ_freq, TMC_HOLD_hold_s, TMC_THOLD_hold_s, TMC_INC_inc_adj, TMC_CAND_ST_wtr_left, TMC_CAND_CNT_tod_err, TMC_TCH_ST_accepted, TMC_TCOR_ST_en, TMC_TOD_TX_en, LN_STATE_state, LN_STICKY_los, LN_DOWN_CNT_count, FRM_TTI_crc, FRM_PM_deg_good, FRM_EB_CUR_eb, MAP_CTX_CFG_server, MAP_CTX_SLOTS_host, MAP_GMP_jc_err, MAP_ADAPT_ovf, MAP_HOST_fnum, MAP_ECC_ctx_err, MAP_STATE_cr_pend, PWR_DOM_last_us, PIT_SUM_twig_faulty, TMC_CAND_PHASE_phase, LN_EB_slips, CVU_ST_ready, BM_WV_count, BM_WV_ADDR_LO_addr_lo, BM_WV_ADDR_HI_addr_hi])) ∧
    (¬ (s.get MATE_ST_mode = 1 ∧ s.get MATE_ST_role = 2 ∧ (s.on MATE_ST_rank || s.mate.byGasp) = true) →
      ∃ t, Sys2Proof.Machine.exec (.mateLost) s = .next t ∧
        t.on MATE_ST_lost = true ∧ t.mate.lostDue = false ∧
        t.get MATE_CNT_losses = min (s.get MATE_CNT_losses + 1) (top MATE_CNT_losses) ∧
        (s.get MATE_ST_mode = 1 → s.get MATE_ST_role = 1 ∨ s.get MATE_ST_role = 2 →
          (s.on MATE_ST_rank || s.mate.byGasp) = false → t.get MATE_ST_role = 3 ∧ t.mate.sqIso = true) ∧
        ((s.get MATE_ST_mode ≠ 1 ∨ s.get MATE_ST_role = 0 ∨ s.get MATE_ST_role = 3 ∨
          (s.on MATE_ST_rank || s.mate.byGasp) = true) → t.get MATE_ST_role = s.get MATE_ST_role) ∧
        Keep s.newCycle t [.ln, .fr, .qs, .mate, .rcd, .irq, .perf, .tw, .tag, .evg, .out] ∧
        KeepRegs s.newCycle t [] (settleRegs ++ [MATE_ST_lost, MATE_CNT_losses, LN_STATE_state]))

/-- What arrives from the mate. On a device of a pair a level change of MATE_ALIVE_IN is a beat, a gasp is declared at the
next boundary, and nothing else changes; a device with mate_mode 0 takes neither, nor a mate frame. A mate frame on a
lane in UP whose receiver is in frame, with a good frame word, keeps the frame; its heartbeat is a beat and shows the rank and digest of the mate, and the generation that it completes waits
for its commit word. The fourth errored frame word in a row loses the frame, and nothing of that frame is taken. A
commit word applies the waiting generation where its CRC is good, with its history where the standby has no valid one of
its own, and discards it otherwise. -/
def Obligations.MateBeatsAndFrames : Prop :=
  (∀ s, s.get MATE_ST_mode ≠ 0 → ∃ t, Sys2Proof.Machine.exec (.mateAliveInChange) s = .next t ∧
    t.mate = { s.mate with beatPin := true } ∧ Keep s.newCycle t [.mate] ∧ t.regs = s.regs) ∧
  (∀ s, s.get MATE_ST_mode ≠ 0 → ∃ t, Sys2Proof.Machine.exec (.gaspDetected) s = .next t ∧
    t.mate = { s.mate with gasp := true } ∧ Keep s.newCycle t [.mate] ∧ t.regs = s.regs) ∧
  (∀ s, s.get MATE_ST_mode = 0 → Sys2Proof.Machine.exec (.mateAliveInChange) s = .next s.newCycle ∧
    Sys2Proof.Machine.exec (.gaspDetected) s = .next s.newCycle ∧
    ∀ j f, Sys2Proof.Machine.exec (.mateFrameReceived j f) s = .next s.newCycle) ∧
  (∀ j f s, j < 16 → s.get LN_STATE_state (128 + j) = 6 → s.get MATE_ST_mode ≠ 0 → (s.mateLane j).inFrame = true → f.wordOk = true →
    ∃ t, Sys2Proof.Machine.exec (.mateFrameReceived j f) s = .next t ∧
      (t.mateLane j).inFrame = true ∧ (t.mateLane j).align.errs = 0 ∧
      (∀ b, f.beat = some b → t.mate.beatLink = true ∧ t.mate.seen = true ∧ t.mate.mRole = b.role ∧ t.mate.mMode = b.mode ∧
        t.mate.mEpoch = b.epoch ∧ t.mate.mGen = b.gen ∧ t.get MATE_ST_mate_rank = b.rank % 2 ∧
        t.get MATE_PEER_digest = b.digest % 2 ^ 32) ∧
      (∀ x, f.gen = some x → t.mate.rx = some x) ∧ (f.gen = none → t.mate.rx = s.mate.rx) ∧ Keep s.newCycle t [.mate, .rcd, .irq, .perf, .fab, .out] ∧ KeepRegs s.newCycle t [] [MATE_ST_lanes_up, MATE_PEER_digest, MBX_MSG_data 0, MBX_MSG_data 1, MBX_MSG_data 2, MBX_MSG_data 3, MBX_MSG_data 4, MBX_MSG_data 5, MBX_MSG_data 6, MBX_MSG_data 7, MBX_MSG_data 8, MBX_MSG_data 9, MBX_MSG_data 10, MBX_MSG_data 11, MBX_MSG_data 12, MBX_MSG_data 13, MBX_MSG_data 14, MBX_MSG_data 15, MBX_CTL_go, MBX_ST_taken, EVR_LOSS_drop, LN_STATE_state]) ∧
  (∀ j f s, j < 16 → s.get LN_STATE_state (128 + j) = 6 → s.get MATE_ST_mode ≠ 0 → (s.mateLane j).inFrame = true → f.wordOk = false →
    (s.mateLane j).align.errs = 3 →
    ∃ t, Sys2Proof.Machine.exec (.mateFrameReceived j f) s = .next t ∧
      (t.mateLane j).inFrame = false ∧ t.mate.beatLink = s.mate.beatLink ∧ t.mate.rx = s.mate.rx ∧
      t.fab = s.fab ∧ t.regs = s.regs) ∧
  (∀ m s, s.get MATE_ST_mode = 1 → s.get MATE_ST_role = 2 → s.mate.rx = some m →
    (∃ t, Sys2Proof.Machine.exec (.generationCommitReceived true) s = .next t ∧
      t.mate.rx = none ∧ t.mate.last = some m ∧ t.get MATE_GEN_gen = m.gen % 2 ^ 16 ∧ t.get MATE_GEN_age = 0 ∧
      (∀ h, m.hist = some h → s.on TMC_ST_hist_valid = false →
        t.on TMC_ST_hist_valid = true ∧ t.tim.hist = some h) ∧
      (m.hist = none ∨ s.on TMC_ST_hist_valid = true → t.tim.hist = s.tim.hist) ∧
      Keep s.newCycle t [.mate, .tim] ∧ KeepRegs s.newCycle t [] [MATE_ST_lanes_up, MATE_GEN_age, LN_STATE_state, TMC_ST_tswitch_stk, TMC_HIST_hist]) ∧
    (∃ t, Sys2Proof.Machine.exec (.generationCommitReceived false) s = .next t ∧
      t.mate = { s.mate with rx := none } ∧ Keep s.newCycle t [.mate] ∧ t.regs = s.regs))

/-- The command of an opcode that was taken on channel `n`, with its words, passes the checks that every command passes. -/
def Sys2Proof.Safety.Served (s : State) (n op : Nat) (m : List Nat) : Prop :=
  (s.host.taken.find? fun p => p.1 == n) = some (n, m) ∧ s.cpRuns = true ∧ msgWord m 0 / 2 ^ 16 = op ∧
  (secureOnly op = true → 8 ≤ n) ∧ (s.bootState = 4 ∨ inRescue op = true) ∧ (s.boot.tampered = true → tamperRefuses op = false)

/-- A command's record is offered, where its severity is kept and its port has room (R384). -/
def Sys2Proof.Safety.Recorded (s t : State) (k : RecKind) (payload : List Byte) : Prop :=
  k.sev ≤ s.gl RECORDS_keep_sev → (s.rcd.offers.filter fun o => o.typ / 256 == k.group).length < 32 →
    t.rcd.offers = s.rcd.offers ++ [⟨s.cyc + 1, k.typ, k.sev, k.sec, payload⟩]

/-- Roles are resolved by rank and mode, and MATE_ROLE activates an isolated device only. A NEGOTIATING device with beats
on 8 boundaries that has read the mate's heartbeat becomes ACTIVE in split mode, STANDBY in shadow mode where the mate
is ACTIVE or its own rank is low, and ACTIVE otherwise; equal ranks or different modes keep it NEGOTIATING, with one
MATE_CONFIG record. MATE_ROLE with ACTIVE makes an ISOLATED device ACTIVE; in every other role it is refused and
changes no role. -/
def Obligations.MateRoles : Prop :=
  (∀ s, s.get MATE_ST_role = 0 → s.get MATE_ST_mode ≠ 0 → 8 ≤ s.mate.beats → s.mate.seen = true →
    (s.on MATE_ST_rank ≠ s.on MATE_ST_mate_rank → s.mate.mMode = s.get MATE_ST_mode →
      ∃ t, Sys2Proof.Machine.exec (.roleResolve) s = .next t ∧
        t.get MATE_ST_role = (if s.get MATE_ST_mode = 2 then 1 else if s.mate.mRole = 1 then 2
          else if s.on MATE_ST_rank then 1 else 2) ∧
        Recorded s t kMATE_ROLE (leBytes 1 (t.get MATE_ST_role)) ∧ Keep s.newCycle t [.mate, .rcd, .irq, .perf, .out] ∧ KeepRegs s.newCycle t [] [MATE_ST_lanes_up, EVR_LOSS_drop, LN_STATE_state]) ∧
    (s.on MATE_ST_rank = s.on MATE_ST_mate_rank ∨ s.mate.mMode ≠ s.get MATE_ST_mode → s.mate.cfgRec = false →
      ∃ t, Sys2Proof.Machine.exec (.roleResolve) s = .next t ∧
        t.get MATE_ST_role = 0 ∧ t.mate = { s.mate with cfgRec := true } ∧ Recorded s t kMATE_CONFIG [] ∧ Keep s.newCycle t [.mate, .rcd, .irq, .perf, .out] ∧ KeepRegs s.newCycle t [] [MATE_ST_lanes_up, EVR_LOSS_drop, LN_STATE_state])) ∧
  (∀ n m s, Served s n 0x0701 m → msgWord m 1 = 1 → s.get MATE_ST_role = 3 →
    ∃ u t : State, Sys2Proof.Machine.exec (.mateRole n) s = .next t ∧ t = u.reply n (msgWord m 0) {} ∧
      t.get MATE_ST_role = 1 ∧ u.get MATE_ST_role = 1 ∧ Keep s.newCycle t [.mate, .rcd, .irq, .perf, .host, .out] ∧
      KeepRegs s.newCycle t [] (replyRegs ++ [MATE_ST_lanes_up, EVR_LOSS_drop, LN_STATE_state])) ∧
  (∀ n m s, Served s n 0x0701 m → msgWord m 1 = 1 → s.get MATE_ST_role ≠ 3 →
    ∃ u t : State, Sys2Proof.Machine.exec (.mateRole n) s = .next t ∧ t = u.reply n (msgWord m 0) ({ status := 5 } : Reply) ∧ u = s.newCycle)

/-- The rank-high device arbitrates the shared flash, and a survivor seizes it. FLASH_REQ is an input of the rank-high
device: FLASH_GNT follows it high only while the device is not itself accessing the flash, for a background command or
a load, or FLASH_GNT is high already, and falls with it, and flash_own shows a free flash; while the mate is lost
FLASH_GNT stays (log entry 206). On a rank-low device FLASH_GNT is an input: while no
boot waits for it, only its level and flash_own change. After a loss a device that is not ISOLATED sets flash_seized,
owns the flash whatever the levels are, and writes FLASH_SEIZED. -/
def Obligations.SharedFlashArbitration : Prop :=
  (∀ level s, s.on MATE_ST_rank = true → s.on MATE_ST_lost = false →
    ∃ t, Sys2Proof.Machine.exec (.flashReqChange level) s = .next t ∧
      t.mate = { s.mate with flashReq := level, flashGnt := level &&
        (s.mate.flashGnt || !(s.mate.flashUse || decide (s.get PLN_STATE_state = 1))) } ∧
      t.on MATE_ST_flash_own = (s.on MATE_ST_flash_seized || !t.mate.flashGnt) ∧
      KeepBits s t (at_ MATE_ST_flash_own) [MATE_ST_flash_own] ∧ Keep s.newCycle t [.mate] ∧ KeepRegs s.newCycle t [] [MATE_ST_lanes_up]) ∧
  (∀ level s, s.on MATE_ST_rank = true → s.on MATE_ST_lost = true →
    ∃ t, Sys2Proof.Machine.exec (.flashReqChange level) s = .next t ∧
      t.mate = { s.mate with flashReq := level } ∧ Keep s.newCycle t [.mate] ∧ t.regs = s.regs) ∧
  (∀ level ms s, s.on MATE_ST_rank = false → (level = false ∨ s.boot.waitGnt = false) →
    ∃ t, Sys2Proof.Machine.exec (.flashGntChange level ms) s = .next t ∧
      t.mate = { s.mate with flashGnt := level } ∧
      t.on MATE_ST_flash_own = (s.on MATE_ST_flash_seized || if s.on MATE_ST_lost then s.mate.flashHeld else level) ∧
      KeepBits s t (at_ MATE_ST_flash_own) [MATE_ST_flash_own] ∧ Keep s.newCycle t [.mate] ∧
      KeepRegs s.newCycle t [at_ MATE_ST_flash_own] []) ∧
  (∀ s, s.on MATE_ST_lost = true → s.on MATE_ST_flash_seized = false → s.get MATE_ST_role ≠ 3 →
    ∃ t, Sys2Proof.Machine.exec (.flashSeize) s = .next t ∧
      t.on MATE_ST_flash_seized = true ∧ t.on MATE_ST_flash_own = true ∧ Recorded s t kFLASH_SEIZED [] ∧
      KeepBits s t (at_ MATE_ST_flash_own) [MATE_ST_flash_own, MATE_ST_flash_seized] ∧ Keep s.newCycle t [.rcd, .irq, .perf, .out] ∧ KeepRegs s.newCycle t [] [MATE_ST_lanes_up, EVR_LOSS_drop])

/-- An APPLY or APPLY_PLAN starts a load only where nothing is in progress. An APPLY of 1 to 12 allowed sections from a
usable container that holds them, on a device whose role takes it, starts loading them in ascending ID and answers the
digest of the container; one that arrives while a change is in progress is answered as busy and changes nothing. An
APPLY_PLAN without a start time, whose step's precondition holds, starts loading step k, shows the plan, and sets the
boundary of the step gap grid multiframes on. -/
def Obligations.ChangesAreAccepted : Prop :=
  (∀ n m h s, Served s n 0x0101 m → s.roleTakes = true → msgWord m 1 % 4 ≤ 2 → namesOk (applyNames m) = true →
    s.changing = false → s.usable (msgWord m 1 % 4) = some h →
    (∀ p ∈ applyNames m, ∃ x ∈ s.secTable h, x.id = p.1 ∧ x.inst = p.2) →
    ∃ u t : State, Sys2Proof.Machine.exec (.apply n) s = .next t ∧ t = u.reply n (msgWord m 0) { words := [(1, leNat ((s.imageDigest h).take 4))] } ∧
      t.get PLN_STATE_state = 1 ∧ t.get PLN_STATE_kind = 1 ∧ t.chg.names = sortNames (applyNames m) ∧
      t.chg.ready = none ∧ t.chg.cs = h.cs ∧ t.chg.base = h.base ∧
      (5 ∈ (applyNames m).map (·.1) → t.get FAB_PAGE_standby = 1) ∧
      (6 ∈ (applyNames m).map (·.1) → t.get TWG_PAGE_standby = 1) ∧ Keep s.newCycle t [.rcd, .irq, .perf, .chg, .host, .out] ∧
      KeepRegs s.newCycle t [] (replyRegs ++ acceptRegs ++ [FAB_PAGE_active, TWG_PAGE_active, PLN_STATE_steps, PLN_DUE_LO_due_lo, PLN_DUE_HI_due_hi, PLN_HIT_last_max, MB_ST_repaired, CVU_VAL_LO_val_lo, CVU_VAL_HI_val_hi, CVU_RES_LO_res_lo, CVU_RES_HI_res_hi, CVU_CNT_cnt, CVU_ST_ready, CVU_MIS_CNT_mis])) ∧
  (∀ n m s, Served s n 0x0101 m → s.roleTakes = true → msgWord m 1 % 4 ≤ 2 → namesOk (applyNames m) = true →
    s.changing = true → ∃ u t : State, Sys2Proof.Machine.exec (.apply n) s = .next t ∧ t = u.reply n (msgWord m 0) ({ status := 4 } : Reply) ∧ u = s.newCycle) ∧
  (∀ n m h plan k e s, Served s n 0x0102 m → s.roleTakes = true → msgWord m 1 % 4 ≤ 2 → s.changing = false →
    s.usable (msgWord m 1 % 4) = some h → (∃ x ∈ s.secTable h, x.id = 16 ∧ x.inst = msgWord m 2 % 2 ^ 8) →
    s.planOf h (msgWord m 2 % 2 ^ 8) = some plan → bit (msgWord m 4) 31 = false →
    k = max 1 (slice (msgWord m 2) 15 8) → k ≤ 32 → k ≤ globalOf [({ sec := 16, entries := plan } : Section)] PLAN_steps →
    (∀ y ∈ plan, y.kind = 1 → ∀ p ∈ stepNames y, ∃ x ∈ s.secTable h, x.id = p.1 ∧ x.inst = p.2) →
    e = ({ s with chg := { s.chg with plan := plan } } : State).planStep k →
    (e.b PLAN_pre_check = true → s.get FAB_PAGE_ID_id = e.n PLAN_pre_fab_id ∧ s.get TWG_PAGE_ID_id = e.n PLAN_pre_twg_id) →
    ∃ u t : State, Sys2Proof.Machine.exec (.applyPlan n) s = .next t ∧ t = u.reply n (msgWord m 0) {} ∧
      t.get PLN_STATE_state = 1 ∧ t.get PLN_STATE_kind = 2 ∧ t.chg.plan = plan ∧ t.chg.step = k ∧
      t.due = (s.gmf + e.n PLAN_gap) % 2 ^ 64 ∧ t.chg.names = sortNames (stepNames e) ∧ Keep s.newCycle t [.rcd, .irq, .perf, .chg, .host, .mem, .out] ∧
      KeepRegs s.newCycle t [] (replyRegs ++ acceptRegs ++ [CP_CLAMP_apply, FAB_PAGE_active, TWG_PAGE_active, PLN_STATE_steps, PLN_ID_id, PLN_DUE_LO_due_lo, PLN_DUE_HI_due_hi, PLN_DETAIL_key, PLN_HIT_last_max, MB_ST_repaired, CVU_VAL_LO_val_lo, CVU_VAL_HI_val_hi, CVU_RES_LO_res_lo, CVU_RES_HI_res_hi, CVU_CNT_cnt, CVU_ST_ready, CVU_MIS_CNT_mis]))

/-- A load ends armed, or fails as a whole with its cause. The end of a load leaves the change waiting for its boundary
with its sections loaded, or stopped with a cause of Table 6-3 and no section kept; either way no section in force
changes. A named instance that the flash cannot read fails with cause FLASH, and a load whose checks find nothing is
armed, with the boundary due unchanged. On a device of a pair that may not drive the flash the load waits. -/
def Obligations.LoadsEndArmedOrFailed : Prop :=
  (∀ bad s, s.get PLN_STATE_state = 1 → s.chg.ready = none → s.flashFree = false →
    Sys2Proof.Machine.exec (.applyLoadComplete bad) s = .next s.newCycle) ∧
  (∀ bad s, s.get PLN_STATE_state = 1 → s.chg.ready = none → s.flashFree = true →
    ∃ t, Sys2Proof.Machine.exec (.applyLoadComplete bad) s = .next t ∧
      ((t.get PLN_STATE_state = 2 ∧ ∃ l, t.chg.ready = some l) ∨
        (t.get PLN_STATE_state = 4 ∧ t.get PLN_STATE_cause ∈ [1, 2, 4, 5, 7] ∧ t.chg.ready = none ∧ t.chg.names = [] ∧
          t.get FAB_PAGE_standby = 0 ∧ t.get TWG_PAGE_standby = 0)) ∧ t.img = s.img ∧ Keep s.newCycle t [.mate, .rcd, .irq, .perf, .boot, .chg, .mem, .out] ∧ KeepRegs s.newCycle t [] (acceptRegs ++ [CP_CLAMP_apply, FAB_PAGE_active, TWG_PAGE_active, PLN_STATE_steps, PLN_DUE_LO_due_lo, PLN_DUE_HI_due_hi, PLN_DETAIL_key, MB_ST_repaired, CVU_VAL_LO_val_lo, CVU_VAL_HI_val_hi, CVU_RES_LO_res_lo, CVU_RES_HI_res_hi, CVU_CNT_cnt, CVU_ST_ready, CVU_MIS_CNT_mis, MATE_ST_flash_own])) ∧
  (∀ bad p x s, s.get PLN_STATE_state = 1 → s.chg.ready = none → s.flashFree = true → s.chg.names = [p] →
    ((s.secTable (s.header s.chg.cs s.chg.base)).find? fun x => x.id == p.1 && x.inst == p.2) = some x → p ∈ bad →
    ∃ t, Sys2Proof.Machine.exec (.applyLoadComplete bad) s = .next t ∧
      t.get PLN_STATE_state = 4 ∧ t.get PLN_STATE_cause = 7 ∧ t.get PLN_DETAIL_sec = p.1 % 2 ^ 8 ∧
      t.get PLN_DETAIL_key = p.2 % 2 ^ 24) ∧
  (∀ bad read bytes l s w, s.get PLN_STATE_state = 1 → s.get PLN_STATE_kind = 1 → s.chg.ready = none → s.flashFree = true →
    w = (if s.get MB_ST_power 1 = 3 then s.newCycle.set MB_ST_power 0 1 else s.newCycle) →
    w.loadNames (s.header s.chg.cs s.chg.base) bad s.chg.names = (read, bytes, none) →
    (w.loaderReads bytes).checkLoad s.chg.names (read.map (·.1)) = (l, none, none) →
    ∃ t, Sys2Proof.Machine.exec (.applyLoadComplete bad) s = .next t ∧
      t.get PLN_STATE_state = 2 ∧ t.due = s.due ∧
      t.chg.ready = some ((l.zip (read.map (·.2))).map fun p =>
        ({ p.1.section_ with src := s.chg.src, digest := p.2 } : Section)))

/-- A due step puts all its sections in force, or halts the plan. A plan step at its boundary, loaded and, in a shadow
pair, committed to the standby, puts its sections in force in place of those of their IDs, shows the step, counts it,
and opens its measuring window. A step that is not loaded halts the plan with cause NOT_READY, and every section in
force stays. -/
def Obligations.StepsTakeEffectWhole : Prop :=
  (∀ secs s, s.get PLN_STATE_kind = 2 → s.changing = true → s.due = s.gmf + 1 → s.chg.start = none →
    s.chg.ready = some secs → s.stepCommitted = true → s.chg.step < 2 ^ 8 →
    ∃ t, Sys2Proof.Machine.exec (.planStepDue) s = .next t ∧
      t.img = secs.foldl putSection s.img ∧ t.get PLN_STATE_step = s.chg.step ∧
      t.get PLN_CNT_steps = (s.get PLN_CNT_steps + 1) % 2 ^ 16 ∧ t.chg.winOpen = true ∧ t.chg.winStep = s.chg.step ∧
      t.chg.winGmf = s.gmf + 1 ∧ t.fab.gp = max s.fab.gp (1024 * (s.gmf + 1)) ∧
      (s.chg.haltAt = true → t.get PLN_STATE_state = 4 ∧ t.get PLN_STATE_cause = 8) ∧ Keep s.newCycle t [.img, .ln, .fr, .qs, .mate, .rcd, .irq, .perf, .gp, .fab, .tw, .tag, .evg, .pwr, .chg, .bus, .tim, .mem, .out] ∧
      KeepRegs s.newCycle t [] (settleRegs ++ acceptRegs ++ [FAB_PAGE_active, FAB_PAGE_ID_id, TWG_PAGE_active, TWG_PAGE_ID_id, FAB_COPPICE_next_min, PLN_STATE_steps, PLN_DUE_LO_due_lo, PLN_DUE_HI_due_hi, PLN_DETAIL_key, PLN_HIT_last_max, PLN_CNT_applies, QS_GRP_APS_tx_br, MATE_ST_lanes_up, EVG_M_ST_last, EVG_M_OFF_A_off, EVG_M_OFF_B_off, EVG_M_SEQ_seq, EVG_M_QFILL_middle, EVG_M_QW_written, EVG_M_QR_played, EVG_M_ERR_bad_b, EVG_M_LOSS_missing, EVG_M_DUP_resyncs, EVG_M_DROP_ovf, PIT_CTX_ST_exp, PIT_CTX_ERR_alive_err, PIT_CTX_MISS_relapse, PIT_CTX_TAG_LO_tag_lo, PIT_CTX_TAG_HI_tag_hi, MB_ST_repaired, HQ_CTL_flush, PC_SEL_filter, CVU_CTL_master, CVU_SEL_twig, CVU_BASE_LO_base_lo, CVU_BASE_HI_base_hi, CVU_SIZE_size, CVU_LEN_len, CVU_EXP_LO_exp_lo, CVU_EXP_HI_exp_hi, TMC_ST_tswitch_stk, TMC_FREQ_freq, TMC_HOLD_hold_s, TMC_THOLD_hold_s, TMC_INC_inc_adj, TMC_CAND_ST_wtr_left, TMC_CAND_CNT_tod_err, TMC_TCH_ST_accepted, TMC_TCOR_ST_en, TMC_TOD_TX_en, LN_STATE_state, LN_STICKY_los, LN_DOWN_CNT_count, FRM_TTI_crc, FRM_PM_deg_good, FRM_EB_CUR_eb, MAP_CTX_CFG_server, MAP_CTX_SLOTS_host, MAP_GMP_jc_err, MAP_ADAPT_ovf, MAP_HOST_fnum, MAP_ECC_ctx_err, MAP_STATE_cr_pend, PWR_DOM_last_us, PIT_SUM_twig_faulty, TMC_CAND_PHASE_phase, LN_EB_slips, CVU_ST_ready, BM_WV_count, BM_WV_ADDR_LO_addr_lo, BM_WV_ADDR_HI_addr_hi])) ∧
  (∀ s, s.get PLN_STATE_kind = 2 → s.changing = true → s.due = s.gmf + 1 → s.chg.start = none → s.chg.ready = none →
    ∃ t, Sys2Proof.Machine.exec (.planStepDue) s = .next t ∧
      t.img = s.img ∧ t.get PLN_STATE_state = 4 ∧ t.get PLN_STATE_cause = 3 ∧
      t.get PLN_STATE_step = s.get PLN_STATE_step ∧ Keep s.newCycle t [.mate, .rcd, .irq, .perf, .chg, .mem, .out] ∧
      KeepRegs s.newCycle t [] ([FAB_PAGE_active, TWG_PAGE_active, PLN_STATE_steps, PLN_DUE_LO_due_lo, PLN_DUE_HI_due_hi, PLN_DETAIL_key, MB_ST_repaired, EVR_LOSS_drop, MATE_ST_flash_own]))

/-- HALT_PLAN by when it comes, and the end of a measuring window. HALT_PLAN stops a plan in progress with cause HOST; in
the grid multiframe of the next step's boundary it lets that step take effect first, and in the last step's measuring
window it halts the plan (log entry 207); it cancels an APPLY that is
loading, leaves one that has loaded, and changes nothing where nothing is in progress. The end of a complete measuring
window counts every excess output, shows the largest count, closes the window and, after the last step, ends the plan. -/
def Obligations.HaltsAndHits : Prop :=
  (∀ n m s, Served s n 0x0103 m →
    (s.changing = false ∨ (s.get PLN_STATE_kind = 1 ∧ s.get PLN_STATE_state = 2) →
      ∃ u t : State, Sys2Proof.Machine.exec (.haltPlan n) s = .next t ∧ t = u.reply n (msgWord m 0) {} ∧ u = s.newCycle) ∧
    (s.changing = true → s.get PLN_STATE_kind ≠ 1 → s.due = s.gmf + 1 → s.chg.start = none →
      ∃ u t : State, Sys2Proof.Machine.exec (.haltPlan n) s = .next t ∧ t = u.reply n (msgWord m 0) {} ∧ u = { s.newCycle with chg := { s.chg with haltAt := true } }) ∧
    (s.changing = true → ((s.get PLN_STATE_kind = 1 ∧ s.get PLN_STATE_state = 1) ∨
        (s.get PLN_STATE_kind ≠ 1 ∧ (s.due ≠ s.gmf + 1 ∨ s.chg.start.isSome = true))) →
      ∃ u t : State, Sys2Proof.Machine.exec (.haltPlan n) s = .next t ∧ t = u.reply n (msgWord m 0) {} ∧
        t.get PLN_STATE_state = 4 ∧ t.get PLN_STATE_cause = 8 ∧ t.due = 0 ∧ t.chg.ready = none ∧ t.img = s.img ∧
        Keep s.newCycle t [.mate, .rcd, .irq, .perf, .chg, .host, .mem, .out] ∧
      KeepRegs s.newCycle t [] (replyRegs ++ [FAB_PAGE_active, TWG_PAGE_active, PLN_STATE_steps, PLN_DUE_LO_due_lo, PLN_DUE_HI_due_hi, PLN_DETAIL_key, MB_ST_repaired, EVR_LOSS_drop, MATE_ST_flash_own]))) ∧
  (∀ s, s.windowDone = true →
    ∃ t, Sys2Proof.Machine.exec (.hitWindowEnd) s = .next t ∧
      t.chg.winOpen = false ∧ t.chg.win = [] ∧
      t.get PLN_HIT_exceeded = min (s.get PLN_HIT_exceeded + (s.chg.win.filter fun h => decide (h.bound < h.count)).length)
        (top PLN_HIT_exceeded) ∧
      t.get PLN_HIT_last_max = ((s.chg.win.map (·.count)).foldl max 0) % 2 ^ 16 ∧
      ((s.get PLN_STATE_kind = 2 ∧ s.get PLN_STATE_state = 2 ∧ s.chg.winStep = s.get PLN_STATE_steps) →
        t.get PLN_STATE_state = 3) ∧
      (¬ (s.get PLN_STATE_kind = 2 ∧ s.get PLN_STATE_state = 2 ∧ s.chg.winStep = s.get PLN_STATE_steps) →
        t.get PLN_STATE_state = s.get PLN_STATE_state) ∧ Keep s.newCycle t [.rcd, .irq, .perf, .chg, .out] ∧ KeepRegs s.newCycle t [] (acceptRegs ++ [PLN_STATE_steps, PLN_DUE_LO_due_lo, PLN_DUE_HI_due_hi, PLN_HIT_last_max]))

/-- Twig frames in and out, and the slip of a host. At a twig frame boundary every output host in use starts its next
frame: fnum goes up by 1 modulo 256, and the frame begins with the alignment word, the host label and fnum; and the
frame of a received host that waits longest enters its unit store. The bytes demapped for a host wait until they make a
frame of 8,000 from its alignment position on. A received frame of a host that stays in frame waits for the boundary; its fnum is taken as sent
where hcrc is good, and as the last one plus 1, with a count, where it is not; a host out of frame keeps the bytes and
takes nothing in. A slip moves the term by 16,000 cycles back into range, counts and writes its record; the tags of the
next four frames are not checked, for a fast host a frame that waits is discarded, and for a slow host a frame of fail
units is due. -/
def Obligations.TwigFrames : Prop :=
  (∀ s, s.hosts.Nodup →
    ∃ t, Sys2Proof.Machine.exec (.twigFrameBoundary) s = .next t ∧
      (∀ h ∈ s.hosts, (t.twigOut h).fnum = ((s.twigOut h).fnum + 1) % 256 ∧
        bytesAt (t.twigOut h).head 0 8 = twigWord ∧
        (∀ e, hostCtx s.img h = some e → bytesAt (t.twigOut h).head 8 8 = beBytes 8 (e.n MAPPING_host_label_tx)) ∧
        byteAt (t.twigOut h).head 16 = BitVec.ofNat 8 (t.twigOut h).fnum) ∧
      (∀ h, h ∉ s.hosts → t.twigOut h = s.twigOut h) ∧
      (∀ h, (s.hostSt h).slow ≠ 2 → ∀ f rest, (s.hostSt h).wait = f :: rest →
        t.hostSt h = { s.hostSt h with wait := rest, frames := f :: (s.hostSt h).frames.take 1, slow := 0 }) ∧
      Keep s.newCycle t [.rcd, .irq, .perf, .tw, .evg, .chg, .out] ∧ KeepRegs s.newCycle t [] [EVR_LOSS_drop, CVU_VAL_LO_val_lo, CVU_VAL_HI_val_hi, CVU_RES_LO_res_lo, CVU_RES_HI_res_hi, CVU_CNT_cnt, CVU_ST_ready, CVU_MIS_CNT_mis]) ∧
  (∀ h bytes q frame e w ok hok lab s, hostCtx s.img h = some e → e.n MAPPING_ctx < 262144 →
    s.on FRM_ALIGN_state (e.n MAPPING_ctx) = true →
    q = (s.mapSt (e.n MAPPING_ctx)).q.push (8 * bytes.length) (leNat bytes) →
    8 * ((s.mapSt (e.n MAPPING_ctx)).skip + 8000) ≤ q.n →
    frame = q.v / 2 ^ (8 * (s.mapSt (e.n MAPPING_ctx)).skip) % 2 ^ 64000 →
    w = ((s.newCycle.feed (e.n MAPPING_ctx) (8 * bytes.length) (leNat bytes)).nextFrame (e.n MAPPING_ctx)).2 →
    ok = (bytesAt frame 0 8 == twigWord) → hok = (crc16 (bytesAt frame 8 10) == beNat (bytesAt frame 18 2)) →
    lab = (if hok then some (beNat (bytesAt frame 8 8)) else none) →
    (w.frameIn (e.n MAPPING_ctx) { wordOk := ok, label := lab }).on FRM_ALIGN_state (e.n MAPPING_ctx) = true →
    ∃ t, Sys2Proof.Machine.exec (.twigFrameReceived h bytes) s = .next t ∧
      (t.hostSt h).wait = ((s.hostSt h).wait ++ [frame]).drop ((s.hostSt h).wait.length - 1) ∧
      (t.hostSt h).frames = (s.hostSt h).frames ∧
      (hok = true → t.get MAP_HOST_fnum (e.n MAPPING_ctx) = (byteAt frame 16).toNat ∧
        t.get MAP_HOST_hcrc_err (e.n MAPPING_ctx) = s.get MAP_HOST_hcrc_err (e.n MAPPING_ctx)) ∧
      (hok = false →
        t.get MAP_HOST_fnum (e.n MAPPING_ctx) =
          (((s.hostSt h).fnum.getD (s.get MAP_HOST_fnum (e.n MAPPING_ctx))) + 1) % 256 ∧
        t.get MAP_HOST_hcrc_err (e.n MAPPING_ctx) =
          min (s.get MAP_HOST_hcrc_err (e.n MAPPING_ctx) + 1) (top MAP_HOST_hcrc_err)) ∧ Keep s.newCycle t [.fr, .qs, .rcd, .irq, .perf, .tw, .tag, .evg, .out] ∧
      KeepRegs s.newCycle t [] (settleRegs ++ [PIT_CTX_ERR_alive_err, CVU_VAL_LO_val_lo, CVU_VAL_HI_val_hi, CVU_RES_LO_res_lo, CVU_RES_HI_res_hi, CVU_CNT_cnt, CVU_ST_ready, CVU_MIS_CNT_mis, FRM_TTI_crc, FRM_EB_CUR_eb, MAP_GMP_jc_err, MAP_ADAPT_ovf, MAP_HOST_fnum, MAP_STATE_cr_pend])) ∧
  (∀ h bytes q e s, hostCtx s.img h = some e →
    q = (s.mapSt (e.n MAPPING_ctx)).q.push (8 * bytes.length) (leNat bytes) →
    s.on FRM_ALIGN_state (e.n MAPPING_ctx) = false ∨ q.n < 8 * ((s.mapSt (e.n MAPPING_ctx)).skip + 8000) →
    ∃ t, Sys2Proof.Machine.exec (.twigFrameReceived h bytes) s = .next t ∧
      t.mapSt (e.n MAPPING_ctx) = { s.mapSt (e.n MAPPING_ctx) with q := q } ∧ Keep s.newCycle t [.fr] ∧ t.regs = s.regs) ∧
  (∀ h fast past e s, hostCtx s.img h = some e → e.n MAPPING_ctx < 262144 →
    s.on MAP_HOST_TERM_term_valid (e.n MAPPING_ctx) = true → 0 < past → past ≤ 16000 →
    ∃ t, Sys2Proof.Machine.exec (.hostSlip h fast past) s = .next t ∧
      t.get MAP_HOST_TERM_term (e.n MAPPING_ctx) = (if fast then past - 1 else 16000 - past) ∧ t.on MAP_HOST_TERM_term_valid (e.n MAPPING_ctx) = true ∧
      t.get MAP_HOST_slips (e.n MAPPING_ctx) = min (s.get MAP_HOST_slips (e.n MAPPING_ctx) + 1) (top MAP_HOST_slips) ∧
      t.hostSt h = { s.hostSt h with grace := 4, rOut := true, slow := if fast then (s.hostSt h).slow else 2
                                     wait := if fast then (s.hostSt h).wait.drop 1 else (s.hostSt h).wait } ∧
      Recorded s t kHOST_SLIP (leBytes 3 (e.n MAPPING_ctx)) ∧ Keep s.newCycle t [.rcd, .irq, .perf, .tw, .out] ∧ KeepRegs s.newCycle t [] [EVR_LOSS_drop, MAP_HOST_fnum, MAP_HOST_TERM_term])

/-- A closed round of twig tags judges its circuit. With twig_en 1, a round that can be judged is clean where no twig of
the circuit erred: the error run ends, the clean run goes up by 1 (saturating), and at twig_clr clean rounds a
declared circuit is cleared. Otherwise the clean run ends, the error run goes up by 1, and at twig_errs errored rounds
the circuit is declared faulty, shown as the latest declaration and counted. -/
def Obligations.TwigRounds : Prop :=
  ∀ h e c s, (s.hostSt h).rOut = false → (s.hostSt h).fnum.map (· % 4) = some 3 → s.gl INTEGRITY_twig_en = 1 →
    s.circuits h = [e] → e.n MAPPING_ctx = c → c < 262144 →
    ∃ t, Sys2Proof.Machine.exec (.twigRoundEnd h) s = .next t ∧
      ((∀ x ∈ twigsOf e, x ∉ (s.hostSt h).rErr) →
        t.get PIT_CTX_ST_err_run c = 0 ∧
        t.get PIT_CTX_ST_ok_run c = min (s.get PIT_CTX_ST_ok_run c + 1) (top PIT_CTX_ST_ok_run) ∧
        t.on PIT_CTX_ST_faulty c =
          (s.on PIT_CTX_ST_faulty c && decide (t.get PIT_CTX_ST_ok_run c < s.gl INTEGRITY_twig_clr)) ∧
        t.get PIT_CNT_decl = s.get PIT_CNT_decl) ∧
      ((∃ x ∈ twigsOf e, x ∈ (s.hostSt h).rErr) →
        t.get PIT_CTX_ST_ok_run c = 0 ∧
        t.get PIT_CTX_ST_err_run c = min (s.get PIT_CTX_ST_err_run c + 1) (top PIT_CTX_ST_err_run) ∧
        t.on PIT_CTX_ST_faulty c =
          (s.on PIT_CTX_ST_faulty c || decide (s.gl INTEGRITY_twig_errs ≤ t.get PIT_CTX_ST_err_run c)) ∧
        (s.on PIT_CTX_ST_faulty c = false → s.gl INTEGRITY_twig_errs ≤ t.get PIT_CTX_ST_err_run c →
          t.get PIT_LAST_ctx = c ∧ t.on PIT_LAST_twig = true ∧
          t.get PIT_CNT_decl = min (s.get PIT_CNT_decl + 1) (top PIT_CNT_decl))) ∧
      (t.hostSt h).rErr = [] ∧ Keep s.newCycle t [.qs, .rcd, .irq, .perf, .tw, .out] ∧ KeepRegs s.newCycle t [] [QS_GRP_ST_wtr_left, QS_GRP_TRIG_sf_w, QS_GRP_CNT_aps_bad, PIT_SUM_twig_faulty, PIT_LAST_ctx, PIT_CNT_clr, PIT_CTX_ST_exp, EVR_LOSS_drop]

/-- A frame arrives on a copy of a merge that is in frame and has its trib accepted: its tag block and payload are good, and
it names the merge's trib (R219). -/
def Sys2Proof.Safety.Accepts (s : State) (e : Entry) (i : Nat) (b : Bool) (frame : Nat) : Prop :=
  s.copyDown e b = false ∧ ((s.evgMerge i).copy b).inFrame = true ∧ ((s.evgMerge i).copy b).wrong = false ∧
  0 < s.gl EVERGREEN_al_m ∧ bytesAt frame 0 8 = evgWord ∧
  crc32c (bytesAt frame 0 60) = beNat (bytesAt frame 60 4) ∧ crc32c (bytesAt frame 64 4096) = beNat (bytesAt frame 56 4) ∧
  beNat (bytesAt frame 16 4) = e.n EVERGREEN_m_trib

/-- A merge as the signals of its copies leave it: an absent copy hunts afresh, and one that is not LATE forgets EVG_DMAX. -/
def Sys2Proof.Safety.settledCopies (s : State) (e : Entry) (m : EvgMerge) : EvgMerge :=
  s.settleCopy e true (s.settleCopy e false m)

/-- The frame of 4,160 bytes that arrives on copy `b` in cycle `cyc`, good, with the copy's offset `o`. -/
def Sys2Proof.Safety.heldOf (b : Bool) (cyc frame : Nat) (o : Int) : EvgHeld :=
  { seq := beNat (bytesAt frame 8 4), idx := (byteAt frame 12).toNat, copyB := b, good := true
    srcFail := bit (byteAt frame 13).toNat 6, arr := cyc, inst := (cyc : Int) + o
    data := frame / 2 ^ 512 % 2 ^ 32768, tag := frame % 2 ^ 512, placed := true }

/-- Evergreen keys, and what a merge does with an arriving frame. At an evergreen block boundary every wrap counts its
sequence number on, modulo 2^32, and begins with idx 0. A copy that hunts is in frame once one position alone has
matched often enough. On an anchored merge, a good frame of an accepted copy whose key is in the window and new is
stored at its arrival plus the copy's offset and counted as written: in the head where its instant falls within the
head's span, else in the middle, with its end mark. One that finds the tail full, or a middle without a free slot, is
counted as dropped and not stored; one whose key is equal to or behind the last played key, or already held good, is
discarded and counted as a duplicate, and measures the offset of a copy that had none. -/
def Obligations.EvergreenArrivals : Prop :=
  (∀ s, ((s.entries EVERGREEN_wrap).map (·.n EVERGREEN_wrap)).Nodup →
    ∃ t, Sys2Proof.Machine.exec (.evergreenBlockBoundary) s = .next t ∧
      (∀ e ∈ s.entries EVERGREEN_wrap, t.evgWrap (e.n EVERGREEN_wrap) =
        { s.evgWrap (e.n EVERGREEN_wrap) with
          seq := ((s.evgWrap (e.n EVERGREEN_wrap)).seq + 1) % 2 ^ 32, idx := 0
          jump := (s.evgWrap (e.n EVERGREEN_wrap)).jump - 1 }) ∧
      t.evg.merges = s.evg.merges ∧ t.evg.mids = s.evg.mids ∧ Keep s.newCycle t [.evg] ∧ KeepRegs s.newCycle t [] []) ∧
  (∀ i b cyc frame found tailFull e p s, s.entry EVERGREEN_merge i = some e → s.copyDown e b = false →
    ((s.evgMerge i).copy b).inFrame = false → 0 < ((s.evgMerge i).copy b).align.n →
    ((nextCands ((s.evgMerge i).copy b).align.cands (dedup found)).filter fun x =>
      decide (((s.evgMerge i).copy b).align.n ≤ x.2)) = [p] →
    ∃ t, Sys2Proof.Machine.exec (.evgFrameArrival i b cyc frame found tailFull) s = .next t ∧
      ((t.evgMerge i).copy b).inFrame = true ∧ ((t.evgMerge i).copy b).align.pos = p.1 ∧
      ((t.evgMerge i).copy b).off = none ∧
      (t.evgMerge i).copy (!b) = (settledCopies s e (s.evgMerge i)).copy (!b) ∧
      (t.evgMerge i).held = (s.evgMerge i).held ∧ Keep s.newCycle t [.rcd, .irq, .perf, .evg, .out] ∧
      KeepRegs s.newCycle t [] [EVG_M_ST_last, EVG_M_OFF_A_off, EVG_M_OFF_B_off, EVG_M_QFILL_middle, EVR_LOSS_drop]) ∧
  (∀ i b cyc frame found tailFull e o q k h s, s.entry EVERGREEN_merge i = some e → i < 4096 → (s.evgMerge i).anchored = true →
    Accepts s e i b frame → ((s.evgMerge i).copy b).off = some o →
    h = heldOf b cyc frame o → q = h.seq → k = h.idx →
    ∃ t, Sys2Proof.Machine.exec (.evgFrameArrival i b cyc frame found tailFull) s = .next t ∧
      (((s.evgMerge i).behind q k = true ∨
          ((s.evgMerge i).inWindow q = true ∧ ((s.evgMerge i).held.any fun x => x.good && x.seq == q && x.idx == k) = true)) →
        (t.evgMerge i).held = (if (s.evgMerge i).instOf b q k = none
          then ((s.evgMerge i).measure (!b) q k ((cyc : Int) + o)).held else (s.evgMerge i).held) ∧
        t.get EVG_M_DUP_dup i = min (s.get EVG_M_DUP_dup i + 1) (top EVG_M_DUP_dup)) ∧
      ((s.evgMerge i).behind q k = false → (s.evgMerge i).inWindow q = true → (s.evgMerge i).instOf b q k = none →
        ((s.evgMerge i).held.any fun x => x.good && x.seq == q && x.idx == k) = false →
        (tailFull = false → inPart 0 (s.evgMerge i).held < 8 →
          ((s.evgMerge i).near e h = true ∨ inPart 1 (s.evgMerge i).held < s.middleSlots e) →
          (t.evgMerge i).held = (s.evgMerge i).held ++
            [if (s.evgMerge i).near e h = false then { h with part := 1, mark := some h.endMark }
             else if inPart 2 (s.evgMerge i).held < 8 then { h with part := 2 } else h] ∧
          t.get EVG_M_QW_written i = (s.get EVG_M_QW_written i + 1) % 2 ^ 32 ∧ t.on EVG_M_ST_stored i = b) ∧
        (tailFull = false → inPart 0 (s.evgMerge i).held < 8 → (s.evgMerge i).near e h = false →
          s.middleSlots e ≤ inPart 1 (s.evgMerge i).held →
          (t.evgMerge i).held = (s.evgMerge i).held ∧ t.get EVG_M_QW_written i = s.get EVG_M_QW_written i ∧
          t.get EVG_M_DROP_ovf i = min (s.get EVG_M_DROP_ovf i + 1) (top EVG_M_DROP_ovf)) ∧
        (tailFull = true ∨ 8 ≤ inPart 0 (s.evgMerge i).held →
          (t.evgMerge i).held = (s.evgMerge i).held ∧ t.get EVG_M_QW_written i = s.get EVG_M_QW_written i ∧
          t.get EVG_M_DROP_bp_drop i = min (s.get EVG_M_DROP_bp_drop i + 1) (top EVG_M_DROP_bp_drop) ∧
          t.get EVG_DDR_bp_drop = min (s.get EVG_DDR_bp_drop + 1) (top EVG_DDR_bp_drop))) ∧ Keep s.newCycle t [.rcd, .irq, .perf, .evg, .out] ∧ KeepRegs s.newCycle t [] [EVG_DDR_mark_err, EVG_M_ST_last, EVG_M_OFF_A_off, EVG_M_OFF_B_off, EVG_M_QFILL_middle, EVG_M_QW_written, EVG_M_DUP_resyncs, EVG_M_DROP_ovf, EVR_LOSS_drop])

/-- What a merge plays at a playout instant. A merge that is not anchored plays a fail-marked frame. An anchored one plays
the good frame held for the due key, fail-marked where it carries src_fail; a good frame of the other copy in place of
a bad one that arrived first, counted against that copy; the bad frame that arrived first, unchecked, where no good
one is held; and a fail-marked frame, counted as missing, where the frame's read from the middle is late, where its end mark
does not match, which is counted too, or where nothing came within 128 cycles of the expected instant. A frame played
is counted and shown, and its key becomes the last key played. -/
def Obligations.EvergreenPlayout : Prop :=
  (∀ i cyc late bad e s, s.entry EVERGREEN_merge i = some e → (s.evgMerge i).anchored = false →
    ∃ t, Sys2Proof.Machine.exec (.evgPlayout i cyc late bad) s = .next t ∧
      t.evgMerge i = settledCopies s e ((s.evgMerge i).push 0 true) ∧ Keep s.newCycle t [.irq, .perf, .evg, .out] ∧ KeepRegs s.newCycle t [] [EVG_DDR_mark_err, EVG_M_ST_last, EVG_M_OFF_A_off, EVG_M_OFF_B_off, EVG_M_SEQ_seq, EVG_M_QFILL_middle, EVG_M_QR_played, EVG_M_ERR_bad_b, EVG_M_LOSS_missing]) ∧
  (∀ i (cyc : Nat) f e s, s.entry EVERGREEN_merge i = some e → i < 4096 → (s.evgMerge i).anchored = true → (s.evgMerge i).held = [f] →
    f.placed = true → f.inst ≤ (cyc : Int) →
    (f.taken false = true →
      ∃ t, Sys2Proof.Machine.exec (.evgPlayout i cyc false false) s = .next t ∧
      (t.evgMerge i).held = [] ∧ (t.evgMerge i).last = some (f.seq, f.idx) ∧ (t.evgMerge i).lastP = f.inst ∧
      (t.evgMerge i).out = (s.evgMerge i).out ++
        [if f.good && f.srcFail then ⟨4096, 0, true⟩ else ⟨4096, f.data, false⟩] ∧
      t.get EVG_M_SEQ_seq i = f.seq % 2 ^ 32 ∧ t.on EVG_M_ST_last i = f.copyB ∧
      t.get EVG_M_QR_played i = (s.get EVG_M_QR_played i + 1) % 2 ^ 32 ∧
      t.get EVG_M_LOSS_both_bad i = (if f.good then s.get EVG_M_LOSS_both_bad i
        else min (s.get EVG_M_LOSS_both_bad i + 1) (top EVG_M_LOSS_both_bad)) ∧
      t.get EVG_M_LOSS_missing i = s.get EVG_M_LOSS_missing i ∧ Keep s.newCycle t [.irq, .perf, .evg, .out] ∧ KeepRegs s.newCycle t [] [EVG_DDR_mark_err, EVG_M_ST_last, EVG_M_OFF_A_off, EVG_M_OFF_B_off, EVG_M_SEQ_seq, EVG_M_QFILL_middle, EVG_M_QR_played, EVG_M_ERR_bad_b, EVG_M_LOSS_missing]) ∧
    (∀ late bad, f.mark.isSome = true → late = true ∨ bad = true → ∃ t, Sys2Proof.Machine.exec (.evgPlayout i cyc late bad) s = .next t ∧
      t.get EVG_DDR_mark_err = (if late then s.get EVG_DDR_mark_err
        else min (s.get EVG_DDR_mark_err + 1) (top EVG_DDR_mark_err)) ∧
      (t.evgMerge i).held = [] ∧ (t.evgMerge i).last = some (f.seq, f.idx) ∧
      (t.evgMerge i).out = (s.evgMerge i).out ++ [⟨4096, 0, true⟩] ∧
      t.get EVG_M_LOSS_missing i = min (s.get EVG_M_LOSS_missing i + 1) (top EVG_M_LOSS_missing) ∧
      t.get EVG_M_QR_played i = s.get EVG_M_QR_played i ∧ Keep s.newCycle t [.irq, .perf, .evg, .out] ∧ KeepRegs s.newCycle t [] [EVG_DDR_mark_err, EVG_M_ST_last, EVG_M_OFF_A_off, EVG_M_OFF_B_off, EVG_M_SEQ_seq, EVG_M_QFILL_middle, EVG_M_QR_played, EVG_M_ERR_bad_b, EVG_M_LOSS_missing])) ∧
  (∀ i (cyc : Nat) f g e s, s.entry EVERGREEN_merge i = some e → i < 4096 → (s.evgMerge i).anchored = true →
    (s.evgMerge i).held = [f, g] → f.seq = g.seq → f.idx = g.idx → f.placed = true → g.placed = true → f.inst ≤ (cyc : Int) →
    g.inst ≤ (cyc : Int) → g.taken false = true → f.good = false → g.good = true → g.srcFail = false →
    ∃ t, Sys2Proof.Machine.exec (.evgPlayout i cyc false false) s = .next t ∧
      (t.evgMerge i).held = [] ∧ (t.evgMerge i).out = (s.evgMerge i).out ++ [⟨4096, g.data, false⟩] ∧
      t.on EVG_M_ST_last i = g.copyB ∧ t.get EVG_M_LOSS_both_bad i = s.get EVG_M_LOSS_both_bad i ∧
      t.get EVG_M_ERR_bad_a i = (if f.copyB then s.get EVG_M_ERR_bad_a i
        else min (s.get EVG_M_ERR_bad_a i + 1) (top EVG_M_ERR_bad_a)) ∧
      t.get EVG_M_ERR_bad_b i = (if f.copyB then min (s.get EVG_M_ERR_bad_b i + 1) (top EVG_M_ERR_bad_b)
        else s.get EVG_M_ERR_bad_b i)) ∧
  (∀ i (cyc : Nat) late bad e s, s.entry EVERGREEN_merge i = some e → i < 4096 → (s.evgMerge i).anchored = true →
    (∀ f ∈ (s.evgMerge i).held, f.placed = true → (cyc : Int) < f.inst) →
    ((s.evgMerge i).lastP + (s.evgMerge i).spacing e + 128 ≤ (cyc : Int) →
      ∃ t, Sys2Proof.Machine.exec (.evgPlayout i cyc late bad) s = .next t ∧
        t.evgMerge i = settledCopies s e ((({ s.evgMerge i with
          lastP := (s.evgMerge i).lastP + (s.evgMerge i).spacing e } : EvgMerge).refill e).push 0 true) ∧
        t.get EVG_M_LOSS_missing i = min (s.get EVG_M_LOSS_missing i + 1) (top EVG_M_LOSS_missing)) ∧
    ((cyc : Int) < (s.evgMerge i).lastP + (s.evgMerge i).spacing e + 128 →
      ∃ t, Sys2Proof.Machine.exec (.evgPlayout i cyc late bad) s = .next t ∧
        t.evgMerge i = settledCopies s e (s.evgMerge i) ∧ t.get EVG_M_LOSS_missing i = s.get EVG_M_LOSS_missing i))

/-- Anchoring on one copy, re-anchoring, and a flush. Where the time for both copies runs out, a merge that is not
anchored anchors on the usable copy with the margin, at its latest frame, and writes EVG_ANCHOR; one whose copies are
both aligned goes on to the first key that both deliver. A re-anchoring onto a LATE copy raises
every offset by the margin minus that copy's offset and counts; one that would raise an offset beyond m_dmax is not
made, and writes EVG_DMAX once. A merge that has had no usable copy for 1,024 frame periods asks for a flush, and a
flush asked for discards what is held and leaves the merge acquiring. -/
def Obligations.EvergreenAnchors : Prop :=
  (∀ i e h b s, s.entry EVERGREEN_merge i = some e → (s.evgMerge i).anchored = false →
    ¬ (s.copyState e (s.evgMerge i) false = 3 ∧ s.copyState e (s.evgMerge i) true = 3) →
    b = (s.copyState e (s.evgMerge i) false != 3) →
    ((s.evgMerge i).held.filter fun x => x.copyB == b && x.good).getLast? = some h →
    ∃ t, Sys2Proof.Machine.exec (.evgAcqTimeout i) s = .next t ∧
      (t.evgMerge i).anchored = true ∧ ((t.evgMerge i).copy b).off = some (128 * (e.n EVERGREEN_m_margin : Int)) ∧
      ((t.evgMerge i).copy (!b)).off = none ∧ (∀ x ∈ (t.evgMerge i).held, x.copyB = b) ∧
      (∀ x ∈ (t.evgMerge i).held, x.inst = (x.arr : Int) + 128 * (e.n EVERGREEN_m_margin : Int)) ∧
      Recorded s t kEVG_ANCHOR (leBytes 2 i) ∧ Keep s.newCycle t [.rcd, .irq, .perf, .evg, .out] ∧ KeepRegs s.newCycle t [] [EVG_M_ST_last, EVG_M_OFF_A_off, EVG_M_OFF_B_off, EVG_M_QFILL_middle, EVR_LOSS_drop]) ∧
  (∀ i e s, s.entry EVERGREEN_merge i = some e → s.copyState e (s.evgMerge i) false = 3 →
    s.copyState e (s.evgMerge i) true = 3 → Sys2Proof.Machine.exec (.evgAcqTimeout i) s = .next s.newCycle) ∧
  (∀ i e o d b s, s.entry EVERGREEN_merge i = some e → i < 4096 → (s.evgMerge i).anchored = true →
    s.copyState e (s.evgMerge i) b = 2 → ((s.evgMerge i).copy b).off = some o →
    (e.b EVERGREEN_m_reanchor = true ∨ s.copyState e (s.evgMerge i) (!b) < 2) →
    d = 128 * (e.n EVERGREEN_m_margin : Int) - o →
    ((∀ c o', 2 ≤ s.copyState e (s.evgMerge i) c → ((s.evgMerge i).copy c).off = some o' → o' + d ≤ 1250 * (e.n EVERGREEN_m_dmax : Int)) →
      ∃ t, Sys2Proof.Machine.exec (.evgReanchor i b) s = .next t ∧
        (∀ c, ((t.evgMerge i).copy c).off = ((s.evgMerge i).copy c).off.map (· + d)) ∧
        (t.evgMerge i).lastP = (s.evgMerge i).lastP + d ∧ (t.evgMerge i).out = (s.evgMerge i).out ++ [⟨4096, 0, true⟩] ∧
        t.get EVG_M_DUP_reanchors i = min (s.get EVG_M_DUP_reanchors i + 1) (top EVG_M_DUP_reanchors) ∧ Keep s.newCycle t [.rcd, .irq, .perf, .evg, .out] ∧ KeepRegs s.newCycle t [] [EVG_M_ST_last, EVG_M_OFF_A_off, EVG_M_OFF_B_off, EVG_M_QFILL_middle, EVG_M_DUP_resyncs, EVR_LOSS_drop]) ∧
    (∀ c o', 2 ≤ s.copyState e (s.evgMerge i) c → ((s.evgMerge i).copy c).off = some o' → 1250 * (e.n EVERGREEN_m_dmax : Int) < o' + d →
      ∃ t, Sys2Proof.Machine.exec (.evgReanchor i b) s = .next t ∧
        (∀ c, ((t.evgMerge i).copy c).off = ((s.evgMerge i).copy c).off) ∧ ((t.evgMerge i).copy b).dmax = true ∧
        (((s.evgMerge i).copy b).dmax = false → Recorded s t kEVG_DMAX (leBytes 2 i ++ leBytes 1 (b2n b))))) ∧
  (∀ i e s, s.entry EVERGREEN_merge i = some e → (s.evgMerge i).anchored = true →
    s.copyState e (s.evgMerge i) false ≠ 3 → s.copyState e (s.evgMerge i) true ≠ 3 →
    ∃ t, Sys2Proof.Machine.exec (.evgNoUsableTimeout i) s = .next t ∧ t.evgMerge i = { s.evgMerge i with flush := true } ∧ Keep s.newCycle t [.evg] ∧ KeepRegs s.newCycle t [] []) ∧
  (∀ i e s, s.entry EVERGREEN_merge i = some e → i < 4096 → (s.evgMerge i).flush = true →
    ∃ t, Sys2Proof.Machine.exec (.evgFlush i) s = .next t ∧
      (t.evgMerge i).held = [] ∧ (t.evgMerge i).anchored = false ∧ (t.evgMerge i).flush = false ∧
      (∀ c, ((t.evgMerge i).copy c).off = none) ∧ t.get EVG_M_ST_mstate i = 0 ∧
      t.get EVG_M_QW_written i = s.get EVG_M_QW_written i ∧ t.get EVG_M_QR_played i = s.get EVG_M_QR_played i ∧
      Keep s.newCycle t [.irq, .perf, .evg, .out] ∧ KeepRegs s.newCycle t [] [EVG_M_ST_last, EVG_M_OFF_A_off, EVG_M_OFF_B_off, EVG_M_QFILL_middle])

/-- PM seconds are classified, committed and binned. At the end of a second, the near end of the one monitored path is SES
where a defect was present or 100 times the errored blocks reach 15 times the blocks, ES where it is SES or had an
errored block, with its errored blocks as BBE where it is not SES; ten consecutive SES begin, and ten other seconds
end, the unavailable period that FRM_PM shows; the counts of the next second start at 0. LN_SER of every lane is its
ratio of the second, and the FORCE_N levels count unmasked again. A commit adds a second that has been held for 9 more
to the bins that hold it: 1 to UAS alone where it is unavailable, its ES, SES and BBE where it is not. The bins of the
kind that closes whose nominal end lies 10 s back move to the history, newest first, of at most 32 bins of 15 minutes
and 2 of 24 hours. In the commit in which the BBE of a bin first reaches its non-zero threshold, one TCA record is
written, and not again for that bin. -/
def Obligations.PmSecondsAndBins : Prop :=
  (∀ bad p c ses s, s.pmPaths = [p] → p.n FRAMING_ctx = c → c < 262144 → s.ddrUp = true →
    ses = ((s.pmSt c).defSec || decide (15 * (s.pmSt c).blocks ≤ 100 * (s.pmSt c).eb)) →
    ∃ u t : State, Sys2Proof.Machine.exec (.pmSecondEnd bad) s = .next t ∧ t = u.settle ∧
      (∃ y, (t.pmSt c).held.getLast? = some y ∧ y.sec = s.sysSec - 1 ∧ y.neSes = ses ∧
        y.neEs = (ses || decide (1 ≤ (s.pmSt c).eb)) ∧ y.neBbe = (if ses then 0 else (s.pmSt c).eb)) ∧
      (t.pmSt c).held.length = (s.pmSt c).held.length + 1 ∧
      (t.pmSt c).blocks = 0 ∧ (t.pmSt c).eb = 0 ∧ t.get FRM_EB_CUR_eb c = 0 ∧
      (ses ≠ s.on FRM_PM_ne_unavail c → s.get FRM_PM_ne_run c = 9 →
        t.on FRM_PM_ne_unavail c = ses ∧ t.get FRM_PM_ne_run c = 0) ∧
      (ses ≠ s.on FRM_PM_ne_unavail c → s.get FRM_PM_ne_run c < 9 →
        t.on FRM_PM_ne_unavail c = s.on FRM_PM_ne_unavail c ∧ t.get FRM_PM_ne_run c = s.get FRM_PM_ne_run c + 1) ∧
      (ses = s.on FRM_PM_ne_unavail c →
        t.on FRM_PM_ne_unavail c = s.on FRM_PM_ne_unavail c ∧ t.get FRM_PM_ne_run c = 0) ∧
      (∀ l < 144, t.get LN_SER_ser l = (if (s.laneSt l).secCw = 0 then 0
        else min ((s.laneSt l).secSym * 10 ^ 12 / (544 * (s.laneSt l).secCw)) (top LN_SER_ser))) ∧
      t.get QS_FORCE_level = s.qs.raw % 2 ^ 4 ∧ t.get QS_FORCE_masked = 0 ∧ Keep s.newCycle t [.ln, .fr, .qs, .mate, .rcd, .irq, .perf, .tw, .tag, .evg, .out] ∧
      KeepRegs s.newCycle t [] (settleRegs ++ [QS_FORCE_edge, LN_STICKY_los, LN_SER_ser, FRM_PM_deg_good, FRM_EB_CUR_eb])) ∧
  (∀ p c x rest s, s.pmPaths = [p] → p.n FRAMING_ctx = c → (s.pmSt c).held = x :: rest → 9 ≤ rest.length →
    ∃ t, Sys2Proof.Machine.exec (.pmSecondCommit) s = .next t ∧
      (t.pmSt c).held = rest ∧
      (t.pmSt c).open15.map (fun b => (b.start, b.ne)) = (s.pmSt c).open15.map (fun b =>
        (b.start, if b.start = x.sec - x.sec % 900 then (if x.neUn then (b.ne.1, b.ne.2.1, b.ne.2.2.1, b.ne.2.2.2 + 1)
          else (b.ne.1 + b2n x.neEs, b.ne.2.1 + b2n x.neSes, b.ne.2.2.1 + x.neBbe, b.ne.2.2.2)) else b.ne)) ∧
      (t.pmSt c).open24.map (fun b => (b.start, b.ne)) = (s.pmSt c).open24.map (fun b =>
        (b.start, if b.start = x.sec - x.sec % 86400 then (if x.neUn then (b.ne.1, b.ne.2.1, b.ne.2.2.1, b.ne.2.2.2 + 1)
          else (b.ne.1 + b2n x.neEs, b.ne.2.1 + b2n x.neSes, b.ne.2.2.1 + x.neBbe, b.ne.2.2.2)) else b.ne)) ∧
      Keep s.newCycle t [.fr, .rcd, .irq, .perf, .out] ∧ KeepRegs s.newCycle t [] [EVR_LOSS_drop]) ∧
  (∀ p s, s.pmPaths = [p] → (s.pmSt (p.n FRAMING_ctx)).held.length < 10 →
    Sys2Proof.Machine.exec .pmSecondCommit s = .next s.newCycle) ∧
  (∀ p c day s, s.pmPaths = [p] → p.n FRAMING_ctx = c → s.historyOk c = true →
    ∃ t, Sys2Proof.Machine.exec (.pmBinClose day) s = .next t ∧
      (day = false →
        (t.pmSt c).open15 = (s.pmSt c).open15.filter (fun b => decide (s.sysSec < b.start + 900 + 10)) ∧
        (t.pmSt c).open24 = (s.pmSt c).open24 ∧
        (t.pmSt c).hist = trimHist (((s.pmSt c).open15.filter fun b => decide (b.start + 900 + 10 ≤ s.sysSec)).reverse ++
          (s.pmSt c).hist)) ∧
      (day = true →
        (t.pmSt c).open24 = (s.pmSt c).open24.filter (fun b => decide (s.sysSec < b.start + 86400 + 10)) ∧
        (t.pmSt c).open15 = (s.pmSt c).open15 ∧
        (t.pmSt c).hist = trimHist (((s.pmSt c).open24.filter fun b => decide (b.start + 86400 + 10 ≤ s.sysSec)).reverse ++
          (s.pmSt c).hist)) ∧
      (t.pmSt c).held = (s.pmSt c).held ∧ Keep s.newCycle t [.fr, .rcd, .irq, .perf, .out] ∧ KeepRegs s.newCycle t [] [EVR_LOSS_drop, HQ_LOST_lost]) ∧
  (∀ p c x rest b thr s, s.pmPaths = [p] → p.n FRAMING_ctx = c → (s.pmSt c).held = x :: rest → 9 ≤ rest.length →
    (s.pmSt c).open15 = [b] → (s.pmSt c).open24 = [] → b.start = x.sec - x.sec % 900 → b.day = false →
    p.n FRAMING_tca_prof ≠ 0 → s.tcaThr false (p.n FRAMING_tca_prof) = [0, 0, thr, 0] → x.neUn = false → 0 < thr →
    thr ≤ b.ne.2.2.1 + x.neBbe → (b.add x).far.2.2.1 < thr →
    ∃ t, Sys2Proof.Machine.exec (.pmSecondCommit) s = .next t ∧
      (2 ∉ b.tca → Recorded s t kTCA (leBytes 3 c ++ leBytes 1 2 ++ leBytes 1 0 ++ leBytes 6 b.start ++
          leBytes 6 (b.ne.2.2.1 + x.neBbe) ++ leBytes 4 thr) ∧
        (t.pmSt c).open15.map (fun y => y.tca) = [b.tca ++ [2]]) ∧
      (2 ∈ b.tca → t.rcd = s.rcd ∧ (t.pmSt c).open15.map (fun y => y.tca) = [b.tca]))

/-- Self-tests of the slices, and a rotation that falls due. A clean pass of the SPARE slice writes the system time
seconds; a failed one marks the slice suspect, and a second in a row makes it FAILED with cause 2 and halts the
rotation. When the fabric leaves reset, a slice that fails or had FAILED is FAILED; with at most one such slice the
lowest-numbered others serve LS_0 to LS_19 in order, the one left over is SPARE, and the fabric is enabled; with two
or more it stays disabled and FABRIC_FAIL is written, after the SLICE_FAIL records of the slices that failed. A rotation that falls due waits for the next boundary. -/
def Obligations.FabricSelfTests : Prop :=
  (∀ p s, s.get FAB_COPPICE_state = 0 → s.get FAB_COPPICE_spare = p → p < 21 →
    (∃ t, Sys2Proof.Machine.exec (.spareSelfTestPass true) s = .next t ∧
      t.get FAB_SLICE_TEST_last_pass p = s.get TMC_SEC_LO_sec_lo ∧ p ∉ t.fab.testBad ∧
      t.get FAB_SLICE_ST_state p = s.get FAB_SLICE_ST_state p ∧ Keep s.newCycle t [.rcd, .irq, .perf, .fab, .out] ∧ KeepRegs s.newCycle t [] [FAB_COPPICE_next_min, FAB_SLICE_ST_rot_ok, FAB_SLICE_TEST_last_pass, EVR_LOSS_drop]) ∧
    (p ∉ s.fab.testBad → ∃ t, Sys2Proof.Machine.exec (.spareSelfTestPass false) s = .next t ∧
      t.on FAB_SLICE_ST_suspect p = true ∧ t.fab.testBad = s.fab.testBad ++ [p] ∧
      t.get FAB_SLICE_ST_state p = s.get FAB_SLICE_ST_state p ∧ Keep s.newCycle t [.rcd, .irq, .perf, .fab, .out] ∧ KeepRegs s.newCycle t [] [FAB_COPPICE_next_min, FAB_SLICE_ST_rot_ok, FAB_SLICE_TEST_last_pass, EVR_LOSS_drop]) ∧
    (p ∈ s.fab.testBad → ∃ t, Sys2Proof.Machine.exec (.spareSelfTestPass false) s = .next t ∧
      t.on FAB_SLICE_ST_suspect p = true ∧ t.get FAB_SLICE_ST_state p = 3 ∧ t.get FAB_SLICE_ST_cause p = 2 ∧
      t.get FAB_COPPICE_state = 2 ∧ t.get FAB_COPPICE_spare = 31 ∧
      Recorded s t kSLICE_FAIL (leBytes 1 p ++ leBytes 1 2 ++ leBytes 1 (s.get FAB_SLICE_ST_logical p) ++ leBytes 2 2) ∧
      Keep s.newCycle t [.rcd, .irq, .perf, .fab, .out] ∧ KeepRegs s.newCycle t [] [FAB_COPPICE_next_min, FAB_SLICE_ST_rot_ok, FAB_SLICE_TEST_last_pass, EVR_LOSS_drop])) ∧
  (∀ bad good s, good = ((List.range 21).filter fun ph => s.get FAB_SLICE_ST_state ph != 3 && !bad.contains ph) →
    ∃ t, Sys2Proof.Machine.exec (.fabricResetSelfTest bad) s = .next t ∧
      (∀ ph < 21, ph ∉ good → t.get FAB_SLICE_ST_state ph = 3 ∧ t.get FAB_SLICE_ST_logical ph = 31 ∧
        (s.get FAB_SLICE_ST_state ph ≠ 3 → t.get FAB_SLICE_ST_cause ph = 2)) ∧
      (20 ≤ good.length → t.fab.on = true ∧ t.fab.locs = [] ∧
        (∀ i ph, i < 20 → good[i]? = some ph →
          t.physOf i = ph ∧ t.get FAB_SLICE_ST_state ph = 0 ∧ t.get FAB_SLICE_ST_logical ph = i) ∧
        (∀ ph, good[20]? = some ph → t.get FAB_SLICE_ST_state ph = 1 ∧ t.get FAB_COPPICE_spare = ph ∧
          t.get FAB_COPPICE_state = 0) ∧
        (good.length = 20 → t.get FAB_COPPICE_spare = 31 ∧ t.get FAB_COPPICE_state = 2)) ∧
      (good.length < 20 → t.fab.on = false) ∧
      ((s.rcd.offers.filter fun o => o.typ / 256 == kFABRIC_FAIL.group).length < 11 →
        (good.length < 20 → kFABRIC_FAIL.sev ≤ s.gl RECORDS_keep_sev → t.rcd.offers.getLast? =
          some ⟨s.cyc + 1, kFABRIC_FAIL.typ, kFABRIC_FAIL.sev, kFABRIC_FAIL.sec, leBytes 1 (21 - good.length)⟩) ∧
        (∀ ph < 21, ph ∉ good → s.get FAB_SLICE_ST_state ph ≠ 3 → kSLICE_FAIL.sev ≤ s.gl RECORDS_keep_sev →
          (⟨s.cyc + 1, kSLICE_FAIL.typ, kSLICE_FAIL.sev, kSLICE_FAIL.sec,
            leBytes 1 ph ++ leBytes 1 2 ++ leBytes 1 (s.get FAB_SLICE_ST_logical ph) ++ leBytes 2 1⟩ : Offer) ∈ t.rcd.offers)) ∧
      Keep s.newCycle t [.rcd, .irq, .perf, .fab, .out] ∧ KeepRegs s.newCycle t [] [FAB_STEER_phys0, FAB_COPPICE_next_min, FAB_SLICE_ST_rot_ok, EVR_LOSS_drop]) ∧
  (∀ s, s.get FAB_COPPICE_state = 0 → s.fab.on = true →
    ∃ t, Sys2Proof.Machine.exec (.coppiceDue) s = .next t ∧
      t.fab = { s.fab with due := true } ∧ t.get FAB_COPPICE_next_min = 0 ∧ t.get FAB_COPPICE_state = 0 ∧ Keep s.newCycle t [.fab] ∧ KeepRegs s.newCycle t [] [FAB_COPPICE_next_min])

/-- Hold-off, wait to restore, and the FORCE_N pins. A trigger whose hold-off has elapsed falls due for the next boundary,
and no request changes yet. When the wait-to-restore timer expires on a group that holds no other request, its request
becomes NR. An accepted edge of a FORCE_N pin takes its level; after 1,000 edges of a PM second a further edge is
counted in QS_FORCE_EXC, leaves the last accepted level in force, masks the pin, and writes one FORCE_RATE record. -/
def Obligations.QuicksetTimersAndPins : Prop :=
  (∀ g k s, bit (s.grp g).hoRun k = true → bit (s.grp g).due k = false →
    ∃ t, Sys2Proof.Machine.exec (.holdoffExpiry g k) s = .next t ∧
      bit (t.grp g).due k = true ∧ (∀ j, j ≠ k → bit (t.grp g).due j = bit (s.grp g).due j) ∧
      t.grp g = { s.grp g with due := (t.grp g).due } ∧ (∀ h, h ≠ g → t.grp h = s.grp h) ∧ Keep s.newCycle t [.qs] ∧ KeepRegs s.newCycle t [] []) ∧
  (∀ g e s, s.entry PROTECTION_grp g = some e → g < 1024 → s.on QS_GRP_ST_wtr g = true → e.b PROTECTION_bidir = false →
    (s.grp g).decl % 16 = 0 → s.pinCode g = 0 → mbxCode (s.get QS_GRP_TRIG_mbx_cmd g) = 0 →
    ∃ t, Sys2Proof.Machine.exec (.wtrExpiry g) s = .next t ∧
      t.get QS_GRP_ST_req g = 0 ∧ t.on QS_GRP_ST_wtr g = false ∧ t.get QS_GRP_ST_wtr_left g = 0 ∧ (t.grp g).hold = 0 ∧
      Keep s.newCycle t [.qs, .rcd, .irq, .perf, .out] ∧ KeepRegs s.newCycle t [] [QS_GRP_ST_wtr_left, EVR_LOSS_drop]) ∧
  (∀ k on s, k < 4 → bit s.qs.raw k ≠ on →
    ∃ t, Sys2Proof.Machine.exec (.forcePinEdge k on) s = .next t ∧
      bit t.qs.raw k = on ∧
      (tget (fun _ => 0) s.qs.edges k < 1000 →
        bit (t.get QS_FORCE_level) k = on ∧ bit (t.get QS_FORCE_edge) k = true ∧
        tget (fun _ => 0) t.qs.edges k = tget (fun _ => 0) s.qs.edges k + 1 ∧
        (∀ j, j ≠ k → bit (t.get QS_FORCE_level) j = bit (s.get QS_FORCE_level) j)) ∧
      (1000 ≤ tget (fun _ => 0) s.qs.edges k →
        t.get QS_FORCE_level = s.get QS_FORCE_level ∧ t.get QS_FORCE_edge = s.get QS_FORCE_edge ∧
        bit (t.get QS_FORCE_masked) k = true ∧
        t.get ⟨0xA004, 0, 1, 8 * k + 7, 8 * k⟩ = min (s.get ⟨0xA004, 0, 1, 8 * k + 7, 8 * k⟩ + 1) 255 ∧
        (bit (s.get QS_FORCE_masked) k = false → Recorded s t kFORCE_RATE (leBytes 1 k)) ∧
        (bit (s.get QS_FORCE_masked) k = true → t.rcd = s.rcd)) ∧ Keep s.newCycle t [.qs, .rcd, .irq, .perf, .out] ∧ KeepRegs s.newCycle t [] [QS_GRP_ST_wtr_left, QS_GRP_TRIG_sf_w, QS_GRP_CNT_aps_bad, QS_FORCE_edge, QS_FORCE_EXC_exc, EVR_LOSS_drop])

/-- FORCE_SWITCH and CLEAR_FORCE hold and remove one mailbox command. FORCE_SWITCH on a defined group with LO, FS, MS-W or
MS-P, where a manual switch is not outranked, replaces the mailbox command of that group, and LO makes lockout the
request of a group that takes no far-end request. On an undefined group it is refused with 8, with another command
code with 2, and an outranked manual switch with 9; none of these holds anything. CLEAR_FORCE removes the mailbox
command. Pin commands are left as they are. -/
def Obligations.ForcedSwitches : Prop :=
  (∀ n m e s, Served s n 0x0201 m → s.entry PROTECTION_grp (msgWord m 1) = some e → msgWord m 1 < 1024 →
    ((1 ≤ msgWord m 2 ∧ msgWord m 2 ≤ 2) ∨ (3 ≤ msgWord m 2 ∧ msgWord m 2 ≤ 4 ∧ (s.topRequest e (s.grp (msgWord m 1)).hold).1 ≤ 5) →
      ∃ u t : State, Sys2Proof.Machine.exec (.forceSwitch n) s = .next t ∧ t = u.reply n (msgWord m 0) {} ∧
        t.get QS_GRP_TRIG_mbx_cmd (msgWord m 1) = msgWord m 2 ∧ t.on QS_GRP_ST_mbx (msgWord m 1) = true ∧
        (msgWord m 2 = 1 → e.b PROTECTION_bidir = false → t.get QS_GRP_ST_req (msgWord m 1) = 11) ∧
        t.qs.raw = s.qs.raw ∧ Keep s.newCycle t [.qs, .rcd, .irq, .perf, .host, .out] ∧
      KeepRegs s.newCycle t [] (replyRegs ++ [QS_GRP_ST_wtr_left, QS_GRP_TRIG_sf_w, EVR_LOSS_drop])) ∧
    (msgWord m 2 = 0 ∨ 4 < msgWord m 2 → ∃ u t : State, Sys2Proof.Machine.exec (.forceSwitch n) s = .next t ∧ t = u.reply n (msgWord m 0) ({ status := 2 } : Reply) ∧ u = s.newCycle) ∧
    (3 ≤ msgWord m 2 → msgWord m 2 ≤ 4 → 5 < (s.topRequest e (s.grp (msgWord m 1)).hold).1 →
      ∃ u t : State, Sys2Proof.Machine.exec (.forceSwitch n) s = .next t ∧ t = u.reply n (msgWord m 0) ({ status := 9 } : Reply) ∧ u = s.newCycle)) ∧
  (∀ n m s, Served s n 0x0201 m → s.entry PROTECTION_grp (msgWord m 1) = none →
    ∃ u t : State, Sys2Proof.Machine.exec (.forceSwitch n) s = .next t ∧ t = u.reply n (msgWord m 0) ({ status := 8 } : Reply) ∧ u = s.newCycle) ∧
  (∀ n m e s, Served s n 0x0202 m → s.entry PROTECTION_grp (msgWord m 1) = some e → msgWord m 1 < 1024 →
    ∃ u t : State, Sys2Proof.Machine.exec (.clearForce n) s = .next t ∧ t = u.reply n (msgWord m 0) {} ∧
      t.get QS_GRP_TRIG_mbx_cmd (msgWord m 1) = 0 ∧ t.on QS_GRP_ST_mbx (msgWord m 1) = false ∧ t.qs.raw = s.qs.raw ∧
      Keep s.newCycle t [.qs, .rcd, .irq, .perf, .host, .out] ∧
      KeepRegs s.newCycle t [] (replyRegs ++ [QS_GRP_ST_wtr_left, QS_GRP_TRIG_sf_w, EVR_LOSS_drop])) ∧
  (∀ n m s, Served s n 0x0202 m → s.entry PROTECTION_grp (msgWord m 1) = none →
    ∃ u t : State, Sys2Proof.Machine.exec (.clearForce n) s = .next t ∧ t = u.reply n (msgWord m 0) ({ status := 8 } : Reply) ∧ u = s.newCycle)

/-- An APS value is accepted on its third identical frame. Of a group with APS whose protecting context has no aTSF, the
third identical frame in a row makes its value the accepted one where its code is listed: it is shown, and fop_pm says
whether its A, B or D bits differ from those the group sends. A code that is not listed is counted and leaves the
accepted value in force, and an earlier frame changes no register. The 50 ms of a differing bridge declare FOP_NR of a
bidirectional or 1:1 group, with an APS_FAIL record. -/
def Obligations.ApsValues : Prop :=
  (∀ g b1 b2 b3 e v s, s.entry PROTECTION_grp g = some e → g < 1024 → e.b PROTECTION_aps = true →
    s.on FRM_DEF_tsf (e.n PROTECTION_p_ctx) = false → v = [BitVec.ofNat 8 b1, BitVec.ofNat 8 b2, BitVec.ofNat 8 b3] →
    ((s.grp g).apsCand = v → (s.grp g).apsRun = 2 →
      (∀ code, apsCode (b1 / 16 % 16) (b2 % 256) = some code →
        ∃ t, Sys2Proof.Machine.exec (.apsReceived g b1 b2 b3) s = .next t ∧
          (t.grp g).apsAcc = some (b1 % 256, b2 % 256, b3 % 256) ∧ t.get QS_GRP_APS_rx_req g = b1 % 256 ∧
          t.get QS_GRP_APS_rx_br g = b3 % 256 ∧ t.get QS_GRP_ST_fe_req g = code % 16 ∧
          t.on QS_GRP_ST_fop_pm g =
            decide (b1 / 2 % 8 ≠ 4 + 2 * b2n (e.b PROTECTION_type) + b2n (e.b PROTECTION_bidir)) ∧ Keep s.newCycle t [.qs, .rcd, .irq, .perf, .out] ∧ KeepRegs s.newCycle t [] [QS_GRP_ST_wtr_left, QS_GRP_APS_tx_br, QS_GRP_CNT_aps_bad, EVR_LOSS_drop]) ∧
      (apsCode (b1 / 16 % 16) (b2 % 256) = none →
        ∃ t, Sys2Proof.Machine.exec (.apsReceived g b1 b2 b3) s = .next t ∧
          (t.grp g).apsAcc = (s.grp g).apsAcc ∧
          t.get QS_GRP_CNT_aps_bad g = min (s.get QS_GRP_CNT_aps_bad g + 1) (top QS_GRP_CNT_aps_bad) ∧
          Keep s.newCycle t [.qs, .rcd, .irq, .perf, .out] ∧ KeepRegs s.newCycle t [] [QS_GRP_ST_wtr_left, QS_GRP_APS_tx_br, QS_GRP_CNT_aps_bad, EVR_LOSS_drop])) ∧
    ((s.grp g).apsCand ≠ v ∨ (s.grp g).apsRun < 2 →
      ∃ t, Sys2Proof.Machine.exec (.apsReceived g b1 b2 b3) s = .next t ∧
        (t.grp g).apsAcc = (s.grp g).apsAcc ∧ (t.grp g).apsCand = v ∧ t.regs = s.regs ∧ t.rcd = s.rcd)) ∧
  (∀ g e s, s.entry PROTECTION_grp g = some e → g < 1024 → e.b PROTECTION_aps = true →
    (e.b PROTECTION_bidir = true ∨ e.b PROTECTION_type = true) → s.bridgeDiffers e = true →
    ∃ t, Sys2Proof.Machine.exec (.fopNrDeclare g) s = .next t ∧
      t.on QS_GRP_ST_fop_nr g = true ∧
      (s.on QS_GRP_ST_fop_nr g = false → Recorded s t kAPS_FAIL (leBytes 2 g ++ leBytes 1 0 ++ leBytes 1 1)) ∧
      Keep s.newCycle t [.rcd, .irq, .perf, .out] ∧ KeepRegs s.newCycle t [] [QS_GRP_ST_wtr_left, EVR_LOSS_drop])

/-- The first row of Table 9-2 that applies to a tag block: its tag is the low half of its sideband, the checker `t` gives the
previous alive value and what is checked in part (R241), and `crc` is the CRC recomputed over the interval. -/
def Sys2Proof.Safety.TagVerdict (t : TagChk) (side crc : Nat) (exp : Option Nat) (r : Nat) : Prop :=
  (r = 4 ∧ bit side 78 = false) ∨
  (bit side 78 = true ∧
    ((r = 3 ∧ ∃ x, exp = some x ∧ x ≠ slice (side % 2 ^ 64) 31 14) ∨
     ((∀ x, exp = some x → x = slice (side % 2 ^ 64) 31 14) ∧
      ((r = 2 ∧ t.take = false ∧ bit (side % 2 ^ 64) 5 = false ∧ slice (side % 2 ^ 64) 13 6 ≠ (t.alive + 1) % 256) ∨
       ((t.take = true ∨ bit (side % 2 ^ 64) 5 = true ∨ slice (side % 2 ^ 64) 13 6 = (t.alive + 1) % 256) ∧
        ((r = 1 ∧ bit (side % 2 ^ 64) 3 = false ∧ t.noCrc = 0 ∧ side % 2 ^ 64 / 2 ^ 32 ≠ crc) ∨
         (r = 0 ∧ (bit (side % 2 ^ 64) 3 = true ∨ t.noCrc ≠ 0 ∨ side % 2 ^ 64 / 2 ^ 32 = crc))))))))

/-- The result of a path tag check, its runs and its declaration. The checker of a checker context shows the first row of
Table 9-2 that applies to the tag block that arrived, and whether its alive field is the previous one plus 1; a partly
checked tag is not held to the row that is left out. An error ends the run of good tags, adds to the run of errors,
and at tag_errs declares the connection faulty with a PATH_FAULT record; a good tag ends the run of errors and at
tag_clr good tags ends the declaration. -/
def Obligations.PathTags : Prop :=
  ∀ c e side crc r s, s.mapE c = some e → (s.tagChk c).due = some (side, crc) → s.gl INTEGRITY_pit_en ≠ 0 →
    s.isChecker e = true → c < 262144 → TagVerdict (s.tagChk c) side crc (s.expectedCtx e) r →
    ∃ t, Sys2Proof.Machine.exec (.pathTagCheck c) s = .next t ∧
      t.get PIT_CTX_ST_result c = r ∧
      t.on PIT_CTX_ST_alive_ok c = (bit side 78 && slice (side % 2 ^ 64) 13 6 == ((s.tagChk c).alive + 1) % 256) ∧
      (bit side 78 = true → t.get64 PIT_CTX_TAG_LO_tag_lo PIT_CTX_TAG_HI_tag_hi c = side % 2 ^ 64 ∧
        (t.tagChk c).alive = slice (side % 2 ^ 64) 13 6) ∧
      (r = 0 →
        t.get PIT_CTX_ST_err_run c = 0 ∧
        t.get PIT_CTX_ST_ok_run c = min (s.get PIT_CTX_ST_ok_run c + 1) (top PIT_CTX_ST_ok_run) ∧
        t.on PIT_CTX_ST_faulty c = (s.on PIT_CTX_ST_faulty c && decide (t.get PIT_CTX_ST_ok_run c < s.gl INTEGRITY_tag_clr))) ∧
      (r ≠ 0 →
        t.get PIT_CTX_ST_ok_run c = 0 ∧
        t.get PIT_CTX_ST_err_run c = min (s.get PIT_CTX_ST_err_run c + 1) (top PIT_CTX_ST_err_run) ∧
        t.on PIT_CTX_ST_faulty c =
          (s.on PIT_CTX_ST_faulty c || decide (s.gl INTEGRITY_tag_errs ≤ t.get PIT_CTX_ST_err_run c)) ∧
        (s.on PIT_CTX_ST_faulty c = false → s.gl INTEGRITY_tag_errs ≤ t.get PIT_CTX_ST_err_run c →
          Recorded s t kPATH_FAULT (leBytes 3 c ++ leBytes 3 ((s.expectedCtx e).getD 0) ++
            leBytes 3 (slice (side % 2 ^ 64) 31 14) ++ leBytes 1 r ++ leBytes 1 (t.get PIT_CTX_ST_err_run c)))) ∧
      t.fab = s.fab ∧ Keep s.newCycle t [.qs, .rcd, .irq, .perf, .tag, .out] ∧ KeepRegs s.newCycle t [] [QS_GRP_ST_wtr_left, QS_GRP_TRIG_sf_w, QS_GRP_CNT_aps_bad, PIT_SUM_twig_faulty, PIT_LAST_ctx, PIT_CNT_clr, PIT_CTX_ST_exp, PIT_CTX_ERR_alive_err, PIT_CTX_MISS_relapse, PIT_CTX_TAG_LO_tag_lo, PIT_CTX_TAG_HI_tag_hi, EVR_LOSS_drop]

/-- What a scrub finds is counted, and an uncorrectable context word re-initialises its context. Single-bit errors that a
scrub finds in a bank, a context or a slice are counted where each is counted. An uncorrectable word of a bank is
counted there and writes a BANK_ECC record, and in MB3 is a recorder fault. An uncorrectable word of a context sets ctx_err, writes a CTX_ECC record,
empties the counts of the current second and marks the open bins suspect. -/
def Obligations.ScrubbedErrors : Prop :=
  (∀ n k s, n < 8 →
    ∃ t, Sys2Proof.Machine.exec (.secdedScrub { corr := [(n, k)] }) s = .next t ∧
      t.get MB_ECC_corr n = min (s.get MB_ECC_corr n + k) (top MB_ECC_corr) ∧
      t.get MB_ECC_uncorr n = s.get MB_ECC_uncorr n ∧ t.rcd = s.rcd ∧ Keep s.newCycle t [] ∧ KeepRegs s.newCycle t [at_ MB_ECC_corr n] []) ∧
  (∀ n a w s, s.targetAt a = .bank n w → n < 8 →
    ∃ t, Sys2Proof.Machine.exec (.secdedScrub { ue := [a] }) s = .next t ∧
      t.get MB_ECC_uncorr n = min (s.get MB_ECC_uncorr n + 1) (top MB_ECC_uncorr) ∧
      Recorded s t kBANK_ECC (leBytes 1 n ++ leBytes 5 a) ∧ (n = 3 → t.on EVR_ST_degraded = true) ∧
      Keep s.newCycle t [.rcd, .irq, .perf, .out] ∧
      KeepRegs s.newCycle t [] [MB_ECC_uncorr, EVR_LOSS_drop, EVR_ST_degraded, EVR_FAULT_0_word, EVR_FAULT_1_word]) ∧
  (∀ c e s, s.mapE c = some e → c < 262144 →
    (∃ t, Sys2Proof.Machine.exec (.secdedScrub { ctxCorr := [c] }) s = .next t ∧
      t.get MAP_ECC_corr c = min (s.get MAP_ECC_corr c + 1) (top MAP_ECC_corr) ∧ t.rcd = s.rcd ∧ Keep s.newCycle t [] ∧ KeepRegs s.newCycle t [at_ MAP_ECC_corr c] []) ∧
    (∃ u t : State, Sys2Proof.Machine.exec (.secdedScrub { ctxUe := [c] }) s = .next t ∧ t = u.settle ∧
      t.on MAP_ECC_ctx_err c = true ∧ Recorded s u kCTX_ECC (leBytes 3 c) ∧
      (u.pmSt c).blocks = 0 ∧ (u.pmSt c).eb = 0 ∧ (∀ b ∈ (u.pmSt c).open15, b.suspect = true) ∧
      (∀ b ∈ (u.pmSt c).open24, b.suspect = true) ∧ t.get FRM_EB_CUR_eb c = 0 ∧ Keep s.newCycle t [.fr, .qs, .rcd, .irq, .perf, .tw, .tag, .evg, .out] ∧
      KeepRegs s.newCycle t [] (settleRegs ++ [PIT_CTX_ST_exp, FRM_TTI_crc, FRM_PM_deg_good, FRM_EB_CUR_eb, MAP_GMP_jc_err, MAP_HOST_fnum, MAP_ECC_ctx_err, MAP_STATE_cr_pend]))) ∧
  (∀ p k s, p < 21 →
    ∃ t, Sys2Proof.Machine.exec (.secdedScrub { sliceCorr := [(p, k)] }) s = .next t ∧
      t.get FAB_SLICE_CORR_corr p = min (s.get FAB_SLICE_CORR_corr p + k) (top FAB_SLICE_CORR_corr) ∧ Keep s.newCycle t [] ∧ KeepRegs s.newCycle t [at_ FAB_SLICE_CORR_corr p] [])

/-- The state that a servo enters when it loses its reference (R277). -/
def Sys2Proof.Safety.refLost (s : State) (st : Nat) : Nat :=
  if st = 1 ∨ st = 2 then (if s.on TMC_ST_hist_valid = true then 3 else 0) else st

/-- Faults disqualify a candidate at once, a servo without its reference holds over, and the best candidate becomes
pending. OSCI loss is shown and counted, disqualifies every enabled candidate and takes both servos out of LOCKED and
ACQUIRE, to HOLDOVER where the history is valid and to FREERUN where it is not; its end restarts every wait. A
deviation above 0.5 ppm is a runaway, and the third of an hour a servo fault. A runt is counted and is no edge; an
edge ends LOS, and the fifth within 1 ms is CHATTER. LOS, CHATTER and a frequency offset beyond ref_ppm disqualify a
candidate in that command; when one clears, the wait restarts; at its end a candidate without fault is qualified. The
one best eligible candidate becomes pending, and without any the selection stays. The history becomes valid, and a
holdover that has lasted its limit ends in FREERUN_EXPIRED. -/
def Obligations.ClockReferences : Prop :=
  (∀ s, s.on TMC_ST_osc_loss = false →
    ∃ t, Sys2Proof.Machine.exec (.osciLoss) s = .next t ∧
      t.on TMC_ST_osc_loss = true ∧ t.on TMC_ST_osc_loss_stk = true ∧
      t.get TMC_CNT_osc_losses = min (s.get TMC_CNT_osc_losses + 1) (top TMC_CNT_osc_losses) ∧
      t.get TMC_ST_fstate = refLost s (s.get TMC_ST_fstate) ∧ t.get TMC_ST_tstate = refLost s (s.get TMC_ST_tstate) ∧
      (∀ c < 56, s.on TMC_CAND_ST_enabled c = true → t.on TMC_CAND_ST_qualified c = false) ∧ Keep s.newCycle t [.rcd, .irq, .perf, .tim, .out] ∧ KeepRegs s.newCycle t [] [EVR_LOSS_drop, TMC_ST_tswitch_stk, TMC_FREQ_freq, TMC_HOLD_hold_s, TMC_THOLD_hold_s, TMC_CNT_osc_losses, TMC_INC_inc_adj, TMC_CAND_ST_wtr_left]) ∧
  (∀ s, s.on TMC_ST_osc_loss = true →
    ∃ t, Sys2Proof.Machine.exec (.osciRestore) s = .next t ∧
      t.on TMC_ST_osc_loss = false ∧
      (∀ c < 56, s.on TMC_CAND_ST_enabled c = true →
        t.get TMC_CAND_ST_wtr_left c = s.gl TIMING_ref_wtr % (top TMC_CAND_ST_wtr_left + 1) ∧
        t.on TMC_CAND_ST_qualified c = s.on TMC_CAND_ST_qualified c) ∧ Keep s.newCycle t [.tim] ∧ KeepRegs s.newCycle t [] [TMC_ST_tswitch_stk, TMC_CAND_ST_wtr_left]) ∧
  (∀ off s, s.on TMC_ST_osc_loss = false →
    ∃ t, Sys2Proof.Machine.exec (.servoCrossCheck off) s = .next t ∧
      ((off - s.getI TMC_FREQ_freq).natAbs ≤ 5000 →
        t.get TMC_ST_fstate = s.get TMC_ST_fstate ∧ t.get TMC_CNT_runaways = s.get TMC_CNT_runaways ∧ t.rcd = s.rcd) ∧
      (5000 < (off - s.getI TMC_FREQ_freq).natAbs →
        t.get TMC_ST_fstate = refLost s (s.get TMC_ST_fstate) ∧ t.on TMC_ST_runaway_stk = true ∧
        t.get TMC_CNT_runaways = min (s.get TMC_CNT_runaways + 1) (top TMC_CNT_runaways) ∧ t.tim.runHold = true ∧
        t.on TMC_ST_servo_fault = (s.on TMC_ST_servo_fault ||
          decide (2 ≤ (s.tim.runaways.filter fun x => decide (s.pwr.up < x + 3600 * gridPerSec)).length))) ∧
      t.get TMC_ST_tstate = s.get TMC_ST_tstate ∧ Keep s.newCycle t [.rcd, .irq, .perf, .tim, .out] ∧ KeepRegs s.newCycle t [] [EVR_LOSS_drop, TMC_ST_tswitch_stk, TMC_FREQ_freq, TMC_HOLD_hold_s, TMC_OSC_dev, TMC_CNT_osc_losses]) ∧
  (∀ c x w s, s.on TMC_CAND_ST_enabled c = true → isPps c (s.candE c) = true →
    (w < 100 →
      ∃ t, Sys2Proof.Machine.exec (.timerefEdge c x w) s = .next t ∧
        t.get TMC_CAND_CNT_runts c = min (s.get TMC_CAND_CNT_runts c + 1) (top TMC_CAND_CNT_runts) ∧ t.tim = s.tim ∧
        Keep s.newCycle t [.rcd, .irq, .perf, .tim, .out] ∧ KeepRegs s.newCycle t [] [EVR_LOSS_drop, TMC_ST_tswitch_stk, TMC_FREQ_freq, TMC_HOLD_hold_s, TMC_THOLD_hold_s, TMC_INC_inc_adj, TMC_CAND_ST_wtr_left, TMC_CAND_CNT_tod_err]) ∧
    (100 ≤ w →
      ∃ t, Sys2Proof.Machine.exec (.timerefEdge c x w) s = .next t ∧
        (t.candSt c).edges = ((x : Int) :: (s.candSt c).edges).take 5 ∧ t.on TMC_CAND_ST_los c = false ∧
        (∀ y, (s.candSt c).edges[3]? = some y → (x : Int) - y ≤ 40000000 → s.on TMC_CAND_ST_chatter c = false →
          t.on TMC_CAND_ST_chatter c = true ∧ t.on TMC_CAND_ST_qualified c = false ∧
          (s.get TMC_SEL_fsel = c → t.get TMC_ST_fstate = refLost s (s.get TMC_ST_fstate))) ∧
        ((∀ y, (s.candSt c).edges[3]? = some y → 40000000 < (x : Int) - y) →
          t.on TMC_CAND_ST_chatter c = s.on TMC_CAND_ST_chatter c ∧
          t.on TMC_CAND_ST_qualified c = s.on TMC_CAND_ST_qualified c) ∧ Keep s.newCycle t [.rcd, .irq, .perf, .tim, .out] ∧ KeepRegs s.newCycle t [] [EVR_LOSS_drop, TMC_ST_tswitch_stk, TMC_FREQ_freq, TMC_HOLD_hold_s, TMC_THOLD_hold_s, TMC_INC_inc_adj, TMC_CAND_ST_wtr_left, TMC_CAND_CNT_tod_err])) ∧
  (∀ c s, c < 56 → s.on TMC_CAND_ST_enabled c = true → s.on TMC_CAND_ST_los c = false → (c < 16 ∨ s.srcOk c = false) →
    ∃ t, Sys2Proof.Machine.exec (.candLos c) s = .next t ∧
      t.on TMC_CAND_ST_los c = true ∧ t.get TMC_CAND_CNT_los c = min (s.get TMC_CAND_CNT_los c + 1) (top TMC_CAND_CNT_los) ∧
      t.on TMC_CAND_ST_qualified c = false ∧
      t.get TMC_ST_fstate = (if s.get TMC_SEL_fsel = c then refLost s (s.get TMC_ST_fstate) else s.get TMC_ST_fstate) ∧
      t.get TMC_ST_tstate = (if s.get TMC_SEL_tsel = c then refLost s (s.get TMC_ST_tstate) else s.get TMC_ST_tstate) ∧
      Keep s.newCycle t [.rcd, .irq, .perf, .tim, .out] ∧ KeepRegs s.newCycle t [] [EVR_LOSS_drop, TMC_ST_tswitch_stk, TMC_FREQ_freq, TMC_HOLD_hold_s, TMC_THOLD_hold_s, TMC_INC_inc_adj, TMC_CAND_ST_wtr_left, TMC_CAND_CNT_tod_err]) ∧
  (∀ c s, c < 56 → s.on TMC_CAND_ST_los c = true → s.srcOk c = true →
    ∃ t, Sys2Proof.Machine.exec (.candLosClear c) s = .next t ∧
      t.on TMC_CAND_ST_los c = false ∧ t.get TMC_CAND_ST_wtr_left c = s.gl TIMING_ref_wtr % (top TMC_CAND_ST_wtr_left + 1) ∧
      t.on TMC_CAND_ST_qualified c = s.on TMC_CAND_ST_qualified c ∧ Keep s.newCycle t [.tim] ∧ KeepRegs s.newCycle t [] [TMC_CAND_ST_wtr_left]) ∧
  (∀ c s, c < 56 → s.on TMC_CAND_ST_chatter c = true → s.on TMC_CAND_ST_los c = false →
    ∃ t, Sys2Proof.Machine.exec (.chatterClear c) s = .next t ∧
      t.on TMC_CAND_ST_chatter c = false ∧ (t.candSt c).edges = [] ∧ t.get TMC_CAND_ST_wtr_left c = s.gl TIMING_ref_wtr % (top TMC_CAND_ST_wtr_left + 1) ∧
      Keep s.newCycle t [.tim] ∧ KeepRegs s.newCycle t [] [TMC_CAND_ST_wtr_left]) ∧
  (∀ c freq s, c < 56 → s.on TMC_CAND_ST_enabled c = true →
    ∃ t, Sys2Proof.Machine.exec (.frequencyFault c freq) s = .next t ∧
      t.on TMC_CAND_ST_freq_fault c = decide (1000 * s.gl TIMING_ref_ppm < freq.natAbs) ∧
      (s.on TMC_CAND_ST_freq_fault c = false → 1000 * s.gl TIMING_ref_ppm < freq.natAbs →
        t.on TMC_CAND_ST_qualified c = false ∧
        (s.get TMC_SEL_tsel = c → t.get TMC_ST_tstate = refLost s (s.get TMC_ST_tstate))) ∧ Keep s.newCycle t [.rcd, .irq, .perf, .tim, .out] ∧ KeepRegs s.newCycle t [] [EVR_LOSS_drop, TMC_ST_tswitch_stk, TMC_FREQ_freq, TMC_HOLD_hold_s, TMC_THOLD_hold_s, TMC_INC_inc_adj, TMC_CAND_ST_wtr_left, TMC_CAND_FREQ_freq]) ∧
  (∀ c s, c < 56 →
    (s.faultFree c = true → ∃ t, Sys2Proof.Machine.exec (.candQualified c) s = .next t ∧
      t.on TMC_CAND_ST_qualified c = true ∧ t.get TMC_CAND_ST_wtr_left c = 0 ∧ Keep s.newCycle t [] ∧ KeepRegs s.newCycle t [] [TMC_CAND_ST_wtr_left]) ∧
    (s.faultFree c = false → Sys2Proof.Machine.exec (.candQualified c) s = .next s.newCycle)) ∧
  (∀ c s, c < 56 → s.eligible false c = true →
    (∀ d < 56, d ≠ c → s.eligible false d = true → s.candKey c < s.candKey d) → s.gl TIMING_revert = 1 →
    s.on TMC_ST_fpend = false → s.get TMC_SEL_fsel ≠ c →
    ∃ t, Sys2Proof.Machine.exec (.selectorEvaluation) s = .next t ∧
      t.on TMC_ST_fpend = true ∧ t.get TMC_SEL_fnext = c ∧ t.get TMC_SEL_fsel = s.get TMC_SEL_fsel ∧ Keep s.newCycle t [.rcd, .irq, .perf, .tim, .out] ∧ KeepRegs s.newCycle t [] [EVR_LOSS_drop, TMC_ST_tswitch_stk, TMC_SEL_tnext, TMC_CAND_ST_wtr_left]) ∧
  (∀ s, (∀ c < 56, s.eligible false c = false) →
    ∃ t, Sys2Proof.Machine.exec (.selectorEvaluation) s = .next t ∧
      t.on TMC_ST_fpend = s.on TMC_ST_fpend ∧ t.get TMC_SEL_fnext = s.get TMC_SEL_fnext ∧
      t.get TMC_SEL_fsel = s.get TMC_SEL_fsel) ∧
  (∀ s, s.get TMC_ST_fstate = 2 → s.on TMC_ST_hist_valid = false →
    ∃ t, Sys2Proof.Machine.exec (.historyValid) s = .next t ∧
      t.on TMC_ST_hist_valid = true ∧ (∀ h, s.tim.hist = some h → t.tim.hist = some h) ∧ Keep s.newCycle t [.tim] ∧ KeepRegs s.newCycle t [] [TMC_ST_tswitch_stk, TMC_HIST_hist]) ∧
  (∀ s,
    (s.get TMC_ST_fstate = 3 → ∃ t, Sys2Proof.Machine.exec (.holdoverExpiry false) s = .next t ∧
      t.get TMC_ST_fstate = 4 ∧ t.get TMC_FREQ_freq = s.get TMC_FREQ_freq ∧ t.get TMC_ST_tstate = s.get TMC_ST_tstate ∧
      Recorded s t kSERVO_STATE (leBytes 1 0 ++ leBytes 1 3 ++ leBytes 1 4) ∧ Keep s.newCycle t [.rcd, .irq, .perf, .tim, .out] ∧ KeepRegs s.newCycle t [] [EVR_LOSS_drop, TMC_ST_tswitch_stk, TMC_FREQ_freq, TMC_HOLD_hold_s, TMC_THOLD_hold_s, TMC_INC_inc_adj]) ∧
    (s.get TMC_ST_tstate = 3 → ∃ t, Sys2Proof.Machine.exec (.holdoverExpiry true) s = .next t ∧
      t.get TMC_ST_tstate = 4 ∧ t.get TMC_INC_inc_adj = 0 ∧ t.on TMC_ST_traceable = false ∧
      t.get TMC_ST_fstate = s.get TMC_ST_fstate ∧
      Recorded s t kSERVO_STATE (leBytes 1 1 ++ leBytes 1 3 ++ leBytes 1 4) ∧ Keep s.newCycle t [.rcd, .irq, .perf, .tim, .out] ∧ KeepRegs s.newCycle t [] [EVR_LOSS_drop, TMC_ST_tswitch_stk, TMC_FREQ_freq, TMC_HOLD_hold_s, TMC_THOLD_hold_s, TMC_INC_inc_adj]))

/-- Switches complete at the epoch, messages and sentences carry time, PTP frames are corrected, and the calendar clock is
set. At a 1PPS epoch a pending frequency switch completes and is counted, and its servo acquires; the sixteenth error
in a row within the window locks it. A time channel sends a message of 64 bytes with its number, flags and CRC, and
takes a received one in only with type, CRC and ID right, forming offset and delay from the four anchor times. A ToD
sentence is sent where enabled, and one that comes in time, at its rate and well formed is accepted for the epoch;
every other is counted. A PTP event message leaves an ingress with the lane term and the wait added to its
correctionField, rounded to 2^-16 ns, and all other bytes before the FCS unchanged; one that leaves through an egress
is corrected and counted, and what Table 11-2 passes is passed untouched. The end of a hold lets the calendar clock
run, its crystal failure is shown and recorded, a lost battery clears it, and SET_RTC loads it unless the time servo
is LOCKED. -/
def Obligations.TimeTransfers : Prop :=
  (∀ c s, s.entries TIMEXFER_tch = [] → s.on TMC_ST_fpend = true → s.get TMC_SEL_fnext = c →
    ∃ t, Sys2Proof.Machine.exec (.ppsEpoch []) s = .next t ∧
      t.get TMC_SEL_fsel = c ∧ t.on TMC_ST_fpend = false ∧ t.get TMC_SEL_fnext = 63 ∧ t.on TMC_ST_fswitch_stk = true ∧
      t.get TMC_CNT_fswitch = min (s.get TMC_CNT_fswitch + 1) (top TMC_CNT_fswitch) ∧
      (s.on TMC_CAND_ST_qualified c = true → s.on TMC_ST_servo_fault = false → s.tim.runHold = false →
        t.get TMC_ST_fstate = 1) ∧
      (s.on TMC_CAND_ST_qualified c = false → s.on TMC_ST_servo_fault = false → s.tim.runHold = false →
        t.get TMC_ST_fstate = if s.on TMC_ST_hist_valid = true then 3 else 0) ∧
      (∀ k < 4, t.on TMC_TOD_RX_ST_valid k = s.tim.tod.contains k) ∧ t.tim.tod = [] ∧ Keep s.newCycle t [.fr, .rcd, .irq, .perf, .free, .tim, .out] ∧ KeepRegs s.newCycle t [] [EVR_LOSS_drop, TMC_ST_tswitch_stk, TMC_SEL_tnext, TMC_SEC_LO_sec_lo, TMC_SEC_HI_sec_hi, TMC_NS_ns, TMC_FRAC_frac, TMC_FREQ_freq, TMC_HIST_hist, TMC_PHASE_phase, TMC_HOLD_hold_s, TMC_THOLD_hold_s, TMC_STEP_step, TMC_STEP_SEC_sec, TMC_CNT_osc_losses, TMC_INC_inc_adj, TMC_CAND_ST_wtr_left, TMC_CAND_FREQ_freq, TMC_CAND_PHASE_phase, TMC_CAND_CNT_tod_err, TMC_TCH_ST_accepted, TMC_TCH_OFF_off, TMC_TCH_PD_pd, TMC_TCH_CNT_pd_reject, TMC_OUT_ST_squelch, TMC_OUT_CNT_squelches, TMC_TOD_RX_ST_bad, TMC_UTC_leap, RTC_ST_last_err, RTC_SEC_LO_sec_lo, RTC_SEC_HI_sec_hi, RTC_TICK_tick, RTC_TRIM_trim, RTC_CNT_sets]) ∧
  (∀ s, s.entries TIMEXFER_tch = [] → s.on TMC_ST_fpend = false → s.get TMC_ST_fstate = 1 →
    (s.getI TMC_CAND_FREQ_freq (s.get TMC_SEL_fsel) - s.limitF.getI TMC_FREQ_freq).natAbs ≤ s.gl TIMING_lock_ppb →
    15 ≤ s.tim.fGood → ∃ t, Sys2Proof.Machine.exec (.ppsEpoch []) s = .next t ∧ t.get TMC_ST_fstate = 2 ∧ t.get TMC_SEL_fsel = s.get TMC_SEL_fsel) ∧
  (∀ k dep e s, s.entry TIMEXFER_tch k = some e → k < 32 →
    ∃ t, Sys2Proof.Machine.exec (.tchMessageSend k dep) s = .next t ∧
      t.out.bytes.length = 64 ∧ t.out.bytes.head? = some 0x11 ∧ field t.out.bytes 8 11 = (s.tchSt k).next % 2 ^ 32 ∧
      field t.out.bytes 4 7 = e.n TIMEXFER_tch_id % 2 ^ 32 ∧ bit (field t.out.bytes 1 1) 7 = s.on TMC_ST_traceable ∧
      t.out.bytes.drop 60 = beBytes 4 (crc32c (t.out.bytes.take 60)) ∧
      t.get TMC_TCH_TXSEQ_seq k = (s.tchSt k).next % 2 ^ 32 ∧ (t.tchSt k).next = ((s.tchSt k).next + 1) % 2 ^ 32 ∧
      (t.tchSt k).tx = (((s.tchSt k).next, dep) :: (s.tchSt k).tx).take 65 ∧ Keep s.newCycle t [.tw, .tim, .out] ∧ KeepRegs s.newCycle t [] [TMC_TCH_TXSEQ_seq]) ∧
  (∀ k arr e m s, s.entry TIMEXFER_tch k = some e → k < 32 →
    s.roundOf (e.n TIMEXFER_tch_host) (e.n TIMEXFER_tch_twig) = some m → m.head? = some 0x11 →
    (crc32c (m.take 60) ≠ field m 60 63 →
      ∃ t, Sys2Proof.Machine.exec (.tchMessageReceived k arr) s = .next t ∧
        t.get TMC_TCH_CNT_crc_err k = min (s.get TMC_TCH_CNT_crc_err k + 1) (top TMC_TCH_CNT_crc_err) ∧ t.tim = s.tim ∧
        t.get TMC_TCH_CNT_rx k = s.get TMC_TCH_CNT_rx k) ∧
    (crc32c (m.take 60) = field m 60 63 → field m 4 7 ≠ e.n TIMEXFER_tch_id →
      ∃ t, Sys2Proof.Machine.exec (.tchMessageReceived k arr) s = .next t ∧
        t.on TMC_TCH_ST_id_err k = true ∧ t.tim = s.tim ∧ t.get TMC_TCH_CNT_rx k = s.get TMC_TCH_CNT_rx k) ∧
    (crc32c (m.take 60) = field m 60 63 → field m 4 7 = e.n TIMEXFER_tch_id →
      ∃ t, Sys2Proof.Machine.exec (.tchMessageReceived k arr) s = .next t ∧
        t.get TMC_TCH_CNT_rx k = min (s.get TMC_TCH_CNT_rx k + 1) (top TMC_TCH_CNT_rx) ∧ t.on TMC_TCH_ST_id_err k = false ∧
        t.get TMC_TCH_RXSEQ_seq k = field m 8 11 % 2 ^ 32 ∧ t.on TMC_TCH_ST_peer_trace k = bit (field m 1 1) 7 ∧
        t.on TMC_TCH_ST_loop k = bit (field m 1 1) 6 ∧ (t.tchSt k).rx = ((field m 8 11, arr) :: (s.tchSt k).rx).take 65 ∧
        (∀ t1 t4, (s.tchSt k).tx.find? (fun p => p.1 == field m 12 15) = some (field m 12 15, t1) →
          (s.tchSt k).rx.find? (fun p => p.1 == (field m 8 11 + 2 ^ 32 - 1) % 2 ^ 32) =
            some ((field m 8 11 + 2 ^ 32 - 1) % 2 ^ 32, t4) →
          ((t1 : Int) - stampAt m 16).natAbs ≤ 40000000000 →
          (t.tchSt k).sample = (s.tchSt k).sample ++
            [((25 * ((stampAt m 28 : Int) - t1) - 25 * ((t4 : Int) - stampAt m 16) - e.i TIMEXFER_tch_asym) / 2,
              (25 * ((stampAt m 28 : Int) - t1) + 25 * ((t4 : Int) - stampAt m 16)) / 2)]) ∧ Keep s.newCycle t [.tim] ∧ KeepRegs s.newCycle t [] [TMC_CAND_ST_wtr_left, TMC_TCH_ST_accepted, TMC_TCH_CNT_pd_reject, TMC_TCH_RXSEQ_seq, TMC_UTC_leap])) ∧
  (∀ k s, k < 4 → s.gl TIMEXFER_todo_en k = 1 →
    ∃ t, Sys2Proof.Machine.exec (.todSentenceSend k) s = .next t ∧
      t.out.bytes = todSentence s.sysSec (s.getI TMC_UTC_utc) (s.get TMC_UTC_leap)
        (if s.on TMC_ST_traceable && s.get TMC_SEL_tsel != 63 then s.qlOf (s.get TMC_SEL_tsel) else 15)
        (b2n (s.on TMC_ST_traceable) + 2 * b2n (s.get TMC_ST_tstate == 3) +
          4 * b2n (s.get TMC_ST_tstate == 0 || s.get TMC_ST_tstate == 4) + 8 * b2n s.tim.stepNow) ∧ Keep s.newCycle t [.out] ∧ KeepRegs s.newCycle t [] []) ∧
  (∀ k first baud l s, k < 4 →
    (∀ sec utc leap ql st, readTod l = some (sec, utc, leap, ql, st) → first ≤ s.gl TIMEXFER_todi_win * 1000000 →
      baud = s.gl TIMEXFER_todi_baud k →
      ∃ t, Sys2Proof.Machine.exec (.todSentenceReceived k first baud l) s = .next t ∧
        t.on TMC_TOD_RX_ST_valid k = true ∧ t.get TMC_TOD_RX_SEC_sec k = sec % 2 ^ 32 ∧ t.get TMC_TOD_RX_ST_ql k = ql % 16 ∧
        k ∈ t.tim.tod ∧ t.get TMC_TOD_RX_ST_bad k = s.get TMC_TOD_RX_ST_bad k ∧
        (∀ c < 56, todOf c (s.candE c) = some k → (t.candSt c).lab = (sec : Int) - s.sysSec ∧ (t.candSt c).ql = ql) ∧
        Keep s.newCycle t [.tim] ∧ KeepRegs s.newCycle t [] [TMC_CAND_ST_wtr_left, TMC_TOD_RX_ST_bad, TMC_TOD_RX_SEC_sec, TMC_UTC_leap]) ∧
    (readTod l = none ∨ s.gl TIMEXFER_todi_win * 1000000 < first ∨ baud ≠ s.gl TIMEXFER_todi_baud k →
      ∃ t, Sys2Proof.Machine.exec (.todSentenceReceived k first baud l) s = .next t ∧
        t.get TMC_TOD_RX_ST_bad k = min (s.get TMC_TOD_RX_ST_bad k + 1) (top TMC_TOD_RX_ST_bad) ∧ t.tim = s.tim)) ∧
  (∀ c (w : Nat) m e h v s, inspected s.img c 0 = some e → s.gl TIMEXFER_tcor_en = 1 → ptpClass s.tpids m = .event h none →
    v = signedOf 64 (field m (h + 8) (h + 15)) +
      ((s.termOf (leadOfCtx s.img e) false + 800 * (w : Int)) * 65536 + 500) / 1000 →
    ∃ t, Sys2Proof.Machine.exec (.ptpIngressCorrect c none w m) s = .next t ∧
      t.out.bytes.length = m.length ∧ t.out.bytes.take (h + 8) = m.take (h + 8) ∧
      (t.out.bytes.drop (h + 8)).take 8 = beBytes 8 (if 2 ^ 63 ≤ v then 2 ^ 63 - 1 else unsignedOf 64 v) ∧
      (t.out.bytes.take (m.length - 4)).drop (h + 16) = (m.take (m.length - 4)).drop (h + 16) ∧
      t.get TMC_TCOR_OVF_ovf = min (s.get TMC_TCOR_OVF_ovf + (if 2 ^ 63 ≤ v then 1 else 0)) (top TMC_TCOR_OVF_ovf) ∧
      Keep s.newCycle t [.out] ∧ KeepRegs s.newCycle t [] [TMC_TCOR_OVF_ovf]) ∧
  (∀ c w m s, s.gl TIMEXFER_tcor_en = 0 ∨ ptpClass s.tpids m = .other →
    ∃ t, Sys2Proof.Machine.exec (.ptpIngressCorrect c none w m) s = .next t ∧ t.out.bytes = m ∧ t.regs = s.regs) ∧
  (∀ slot w m x r e s, s.entry FABRIC_PAGE_mate_slot slot = none → ownerOf s.img 1 slot = some x →
    inspected s.img (x.1.n MAPPING_ctx) 1 = some e → s.readOf slot = some r → s.gl TIMEXFER_tcor_en = 1 →
    (∀ h u, ptpClass s.tpids m = .event h u →
      ∃ t, Sys2Proof.Machine.exec (.ptpEgressCorrect slot w m) s = .next t ∧
        t.out.bytes = (correct m h u (800 * (s.startResidence slot w.ago r + w.wait) + s.termOf (leadOfCtx s.img e) true)).1 ∧
        t.get TMC_TCOR_CNT_corrected = min (s.get TMC_TCOR_CNT_corrected + 1) (top TMC_TCOR_CNT_corrected) ∧
        Keep s.newCycle t [.out] ∧ KeepRegs s.newCycle t [] [TMC_TCOR_CNT_corrected, TMC_TCOR_MACSEC_macsec, TMC_TCOR_UNSUP_other, TMC_TCOR_OVF_ovf]) ∧
    (ptpClass s.tpids m = .macsec →
      ∃ t, Sys2Proof.Machine.exec (.ptpEgressCorrect slot w m) s = .next t ∧
        t.out.bytes = m ∧ t.get TMC_TCOR_MACSEC_macsec = min (s.get TMC_TCOR_MACSEC_macsec + 1) (top TMC_TCOR_MACSEC_macsec) ∧
        t.get TMC_TCOR_CNT_corrected = s.get TMC_TCOR_CNT_corrected)) ∧
  (∀ s, ∃ t, Sys2Proof.Machine.exec (.rtcHoldEnd) s = .next t ∧
    t.on RTC_ST_holding = false ∧ KeepBits s t (at_ RTC_ST_holding) [RTC_ST_holding] ∧ Keep s.newCycle t [] ∧ KeepRegs s.newCycle t [] [RTC_ST_last_err]) ∧
  (∀ s, s.on RTC_ST_xtal_fail = false →
    ∃ t, Sys2Proof.Machine.exec (.rtcXtalFail) s = .next t ∧
      t.on RTC_ST_xtal_fail = true ∧ t.on RTC_ST_xtal_fail_stk = true ∧
      t.on RTC_ST_valid = (s.on RTC_ST_valid && s.pwr.main) ∧ Recorded s t kRTC_XTAL [] ∧ Keep s.newCycle t [.rcd, .irq, .perf, .out] ∧ KeepRegs s.newCycle t [] [EVR_LOSS_drop, RTC_ST_last_err]) ∧
  (∀ s, s.pwr.main = false →
    ∃ t, Sys2Proof.Machine.exec (.vbatLoss) s = .next t ∧
      t.on RTC_ST_valid = false ∧ t.on RTC_ST_bat_lost = true ∧ t.rtc = 0 ∧ t.on CP_TAMPER_bat = false ∧
      (∀ k, domainOfKey s.img k ≠ 1 → k ≠ at_ CP_TAMPER_bat → t.reg k = s.reg k) ∧ Keep s.newCycle t [.boot, .tim]) ∧
  (∀ n m s, Served s n 0x0401 m →
    (s.get TMC_ST_tstate = 2 → ∃ u t : State, Sys2Proof.Machine.exec (.setRtc n) s = .next t ∧ t = u.reply n (msgWord m 0) ({ status := 0xA } : Reply) ∧ u = s.newCycle) ∧
    (s.get TMC_ST_tstate ≠ 2 → msgWord m 1 < 2 ^ 32 →
      ∃ t, Sys2Proof.Machine.exec (.setRtc n) s = .next t ∧
        t.rtc = (msgWord m 1 + 2 ^ 32 * (msgWord m 2 % 2 ^ 16)) * 32768 + msgWord m 3 % 2 ^ 15 ∧
        t.on RTC_ST_valid = true ∧ t.on RTC_ST_ahead = false ∧
        t.get RTC_CNT_sets = (s.get RTC_CNT_sets + 1) % (top RTC_CNT_sets + 1) ∧ t.sysTime = s.sysTime ∧ Keep s.newCycle t [.rcd, .irq, .perf, .host, .out] ∧
      KeepRegs s.newCycle t [] (replyRegs ++ [EVR_LOSS_drop, RTC_ST_last_err, RTC_SEC_LO_sec_lo, RTC_SEC_HI_sec_hi, RTC_TICK_tick, RTC_CNT_sets])))

/-- No group of lifecycle fuses is partly blown (R331). -/
def Sys2Proof.Safety.WholeGroups (f : Fuses) : Prop :=
  (f.prov = 0 ∨ 8 ≤ f.prov) ∧ (f.depl = 0 ∨ 8 ≤ f.depl) ∧ (f.ret = 0 ∨ 8 ≤ f.ret)

/-- The state in which a boot with FLASH_GNT, where it needs it, comes to choose its image (R308, step 4). -/
def Sys2Proof.Safety.stepsDone (s : State) (x : BootIn) (c : Nat) : State :=
  { s.newCycle.bootStart x c with boot := { (s.newCycle.bootStart x c).boot with waitGnt := false } }

/-- A command carries as bulk a token that authorises it (R377). -/
def Sys2Proof.Safety.TokenGiven (s : State) (m : List Nat) (x : BulkIn) (op arg : Nat) (nonce : List Byte) : Prop :=
  s.bulkFault m x.ok tokenBytes = none ∧ s.tokenOk ((s.bulkBytes m x).take tokenBytes) op arg nonce = true

/-- A command's record is among those offered, where its severity is kept and its port has room (R384). -/
def Sys2Proof.Safety.Noted (s t : State) (k : RecKind) (payload : List Byte) : Prop :=
  k.sev ≤ s.gl RECORDS_keep_sev → (s.rcd.offers.filter fun o => o.typ / 256 == k.group).length < 32 →
    (⟨s.cyc + 1, k.typ, k.sev, k.sec, payload⟩ : Offer) ∈ t.rcd.offers

/-- What a restart of the processor leaves (R339): it is counted and holds, the gasp is driven, its semaphores are free and
MB0 is lost. -/
def Sys2Proof.Safety.Restarted (s t : State) : Prop :=
  t.bus.cpHalt = true ∧ t.boot.noTrial = true ∧ t.mate.gaspOut = true ∧
  t.get CP_BOOT_ST_restarts = min (s.get CP_BOOT_ST_restarts + 1) (top CP_BOOT_ST_restarts) ∧
  t.get PWR_RST_ctl = (s.get PWR_RST_ctl + 1) % (top PWR_RST_ctl + 1) ∧
  (∀ i < 64, s.get BM_SEM_holder i = 1 → t.on BM_SEM_lock i = false) ∧
  (∀ a, t.memByte a = if 0x100000 ≤ a ∧ a < 0x200000 then 0 else s.memByte a)

/-- How a boot ends, what confirms it, and what lifecycle commands, tampers and processor faults leave. A boot released by
a reset ends in RESCUE where the strap or BLANK fuses select it, waits for FLASH_GNT on a rank-low device, ends in
NO_IMAGE where no flash of its source holds a directory, and in RUNNING with the sections loaded where the slot of
highest sequence is GOOD, verifies and loads; OSCI outside every frequency stops it. A trial image that has run its
time is confirmed and its slot marked GOOD. PROVISION, LC_ADVANCE and KEY_REVOKE blow their fuses and DEBUG_UNLOCK
opens debug, with an authorising token where one is asked for. A tamper input that SECURITY makes active wipes MB5 and
the secure channels and ends the session; without main supply PD_BAT latches it. A lockstep fault and an expired
watchdog restart the processor and free its semaphores; the resume answers every command that was taken RESTARTED. -/
def Obligations.BootAndLifecycle : Prop :=
  (∀ x s, s.bootState ≠ 0 ∨ s.pwr.trip = true ∨ s.pwr.under = true ∨ s.pwr.main = false →
    Sys2Proof.Machine.exec (.resetReleaseBoot x) s = .next s.newCycle) ∧
  (∀ x s, s.bootState = 0 → s.pwr.trip = false → s.pwr.under = false → s.pwr.main = true →
    (oscCode x.osc = none →
      Sys2Proof.Machine.exec (.resetReleaseBoot x) s = .next { s.newCycle with boot := { s.boot with oscBad := true } }) ∧
    (∀ c, oscCode x.osc = some c →
      (x.src % 4 = 3 ∨ (WholeGroups s.boot.fuse ∧ s.get CP_LC_state = 0) →
        ∃ t, Sys2Proof.Machine.exec (.resetReleaseBoot x) s = .next t ∧
          t.get CP_BOOT_ST_state = 6 ∧ t.get CP_BOOT_ST_src = x.src % 4 ∧ t.get CP_BOOT_ST_slot = 2 ∧
          t.get TMC_ST_osc_code = c % 8 ∧ t.on MATE_ST_rank = x.rank ∧ (∀ d, 2 ≤ d → d ≤ 6 → t.get PWR_DOM_state d = 2) ∧
          t.img = s.img ∧ t.flash = s.flash ∧ Keep s.newCycle t [.img, .ln, .fr, .qs, .mate, .rcd, .irq, .perf, .free, .gp, .fab, .tw, .tag, .evg, .pwr, .fuse, .boot, .bus, .host, .tim, .flash, .mem, .out] ∧
      KeepRegs s.newCycle t [] (settleRegs ++ acceptRegs ++ violRegs ++ absorbRegs ++ replyRegs ++ [CP_ID_grade, CP_SERIAL_LO_serial_lo, CP_SERIAL_HI_serial_hi, CP_BOOT_ST_restarts, CP_BOOT_EPOCH_epoch, CP_BOOT_TIME_ms, CP_IMG_VER_ver, CP_IMG_SVN_img_svn, CP_CLAMP_apply, CP_SEC_REJ_rej, CP_IMG_DIGEST_digest, CP_LC_debug, CP_TAMPER_level, FAB_PAGE_ID_id, TWG_PAGE_ID_id, FAB_STEER_phys0, FAB_COPPICE_next_min, FAB_SLICE_ST_rot_ok, QS_GRP_APS_tx_br, QS_FORCE_edge, MATE_ST_lanes_up, EVG_M_ST_last, EVG_M_OFF_A_off, EVG_M_OFF_B_off, EVG_M_SEQ_seq, PIT_SUM_faulty, LN_EB_slips, EVG_M_QFILL_middle, EVG_M_QW_written, EVG_M_QR_played, EVG_M_ERR_bad_b, EVG_M_LOSS_missing, EVG_M_DUP_resyncs, EVG_M_DROP_ovf, PIT_CTX_ST_exp, PIT_CTX_ERR_alive_err, PIT_CTX_MISS_relapse, PIT_CTX_TAG_LO_tag_lo, PIT_CTX_TAG_HI_tag_hi, CP_RUN_patches, BM_HOST_WORLD_pcie_sec, MB_ST_repaired, MB_OWNER_owner, HQ_CTL_flush, PC_SEL_filter, CVU_CTL_master, CVU_SEL_twig, CVU_BASE_LO_base_lo, CVU_BASE_HI_base_hi, CVU_SIZE_size, CVU_LEN_len, CVU_EXP_LO_exp_lo, CVU_EXP_HI_exp_hi, TMC_ST_tswitch_stk, TMC_SEL_tnext, TMC_SEC_LO_sec_lo, TMC_SEC_HI_sec_hi, TMC_NS_ns, TMC_FRAC_frac, TMC_FREQ_freq, TMC_HIST_hist, TMC_PHASE_phase, TMC_HOLD_hold_s, TMC_THOLD_hold_s, TMC_STEP_step, TMC_STEP_SEC_sec, TMC_OSC_dev, TMC_CNT_osc_losses, TMC_INC_inc_adj, TMC_CAND_ST_wtr_left, TMC_CAND_FREQ_freq, TMC_CAND_PHASE_phase, TMC_CAND_CNT_tod_err, TMC_TCH_ST_accepted, TMC_TCH_OFF_off, TMC_TCH_PD_pd, TMC_TCH_CNT_pd_reject, TMC_TCH_RXSEQ_seq, TMC_TCH_TXSEQ_seq, TMC_TCOR_ST_en, TMC_TCOR_CNT_corrected, TMC_TCOR_MACSEC_macsec, TMC_TCOR_UNSUP_other, TMC_TCOR_OVF_ovf, TMC_OUT_ST_squelch, TMC_OUT_CNT_squelches, TMC_TOD_RX_ST_bad, TMC_TOD_RX_SEC_sec, TMC_TOD_TX_en, TMC_UTC_leap, LN_STATE_state, LN_STICKY_los, LN_DOWN_CNT_count, FRM_TTI_crc, FRM_PM_deg_good, FRM_EB_CUR_eb, MAP_CTX_CFG_server, MAP_CTX_SLOTS_host, MAP_GMP_jc_err, MAP_ADAPT_ovf, MAP_HOST_fnum, MAP_ECC_ctx_err, MAP_STATE_cr_pend, DC_ST_cap_gib, PWR_DOM_last_us])) ∧
      (x.src % 4 ≠ 3 → WholeGroups s.boot.fuse → s.get CP_LC_state ≠ 0 →
        (x.rank = false → s.mate.flashGnt = false →
          ∃ t, Sys2Proof.Machine.exec (.resetReleaseBoot x) s = .next t ∧
            t.get CP_BOOT_ST_state = 1 ∧ t.boot.waitGnt = true ∧ t.img = s.img ∧ t.flash = s.flash) ∧
        (x.rank = true ∨ s.mate.flashGnt = true →
          ((∀ cs ∈ bootSources (x.src % 4), s.dir cs = none) →
            ∃ t, Sys2Proof.Machine.exec (.resetReleaseBoot x) s = .next t ∧
              t.get CP_BOOT_ST_state = 5 ∧ t.boot.waitGnt = false ∧ t.img = s.img ∧ t.flash = s.flash) ∧
          (∀ cs d k l u, u = stepsDone s x c → (bootSources (x.src % 4)).head? = some cs → s.dir cs = some d →
            (s.slotOrder cs).head? = some (cs, k) → (d.slot k).state = 3 →
            u.verify (u.header cs (d.slot k).base) (d.slot k).size = 0 →
            ((u.fixEpoch cs).bootLoad (u.header cs (d.slot k).base)).2 = some l →
            ∃ t, Sys2Proof.Machine.exec (.resetReleaseBoot x) s = .next t ∧
              t.get CP_BOOT_ST_state = 4 ∧ t.get CP_BOOT_ST_cs = cs ∧ t.get CP_BOOT_ST_slot = k ∧
              t.on CP_BOOT_ST_confirmed = true ∧ t.img = l ∧ t.boot.base = some (cs, (d.slot k).base) ∧
              (s.rcd.epochOk = false → t.get CP_BOOT_EPOCH_epoch = (max d.epoch s.boot.batEpoch + 1) % 2 ^ 32)))))) ∧
  (∀ d s, s.bootState = 4 → s.on CP_BOOT_ST_confirmed = false → s.boot.noTrial = false →
    s.dir (s.get CP_BOOT_ST_cs) = some d → (d.slot (s.get CP_BOOT_ST_slot)).state = 2 → s.flashFree = true →
    ∃ t, Sys2Proof.Machine.exec (.imageConfirm) s = .next t ∧
      t.on CP_BOOT_ST_confirmed = true ∧
      t.flash = (s.putDir (s.get CP_BOOT_ST_cs) (d.mark (s.get CP_BOOT_ST_slot) 3)).flash ∧
      t.boot.fuse = (if s.gl SECURITY_svn_advance = 1 ∧ s.boot.fuse.svn < s.get CP_IMG_SVN_img_svn then
        { s.boot.fuse with svn := s.get CP_IMG_SVN_img_svn } else s.boot.fuse) ∧
      bit (t.stk 15) 8 = true ∧ Keep s.newCycle t [.irq, .perf, .fuse, .boot, .flash, .out] ∧ KeepRegs s.newCycle t [] [CP_ID_grade, CP_SERIAL_LO_serial_lo, CP_SERIAL_HI_serial_hi, CP_BOOT_ST_restarts, CP_IMG_SVN_img_svn, CP_LC_debug, MB_ST_repaired]) ∧
  (∀ s, s.on CP_BOOT_ST_confirmed = true ∨ s.boot.noTrial = true →
    Sys2Proof.Machine.exec .imageConfirm s = .next s.newCycle) ∧
  (∀ n x m s, Served s n 0x0602 m →
    (1 ≤ msgWord m 1 → msgWord m 1 ≤ 4 → s.bulkFault m x.ok (max (64 * msgWord m 1) 2592) = none → s.get CP_LC_state = 0 →
      s.inBackground 0x0602 = false → ∃ t, Sys2Proof.Machine.exec (.provision n x) s = .next t ∧
        t.boot.fuse.prov = max s.boot.fuse.prov 1 ∧
        t.boot.fuse.keys = (List.range (msgWord m 1)).map (fun i => (i, ((s.bulkBytes m x).drop (64 * i)).take 64)) ∧
        t.get CP_LC_state = t.boot.fuse.shown ∧ t.host.bg = s.host.bg ++ [{ chan := n, op := 0x0602, msg := m }] ∧
        t.host.taken = s.host.taken.filter (fun p => p.1 != n) ∧ Keep s.newCycle t [.free, .fuse, .boot, .host, .out] ∧
      KeepRegs s.newCycle t [] (replyRegs ++ [CP_ID_grade, CP_SERIAL_LO_serial_lo, CP_SERIAL_HI_serial_hi, CP_IMG_SVN_img_svn, CP_LC_debug, MB_ST_repaired])) ∧
    (msgWord m 1 = 0 ∨ 4 < msgWord m 1 → ∃ u t : State, Sys2Proof.Machine.exec (.provision n x) s = .next t ∧ t = u.reply n (msgWord m 0) ({ status := 2 } : Reply) ∧ u = s.newCycle) ∧
    (1 ≤ msgWord m 1 → msgWord m 1 ≤ 4 → s.bulkFault m x.ok (max (64 * msgWord m 1) 2592) = none → s.get CP_LC_state ≠ 0 →
      ∃ u t : State, Sys2Proof.Machine.exec (.provision n x) s = .next t ∧ t = u.reply n (msgWord m 0) ({ status := 0xC } : Reply) ∧ u = s.newCycle)) ∧
  (∀ n x m s, Served s n 0x0603 m →
    ((s.get CP_LC_state = 1 ∧ (msgWord m 1 = 2 ∨ msgWord m 1 = 3)) ∨ (s.get CP_LC_state = 2 ∧ msgWord m 1 = 3) →
      s.inBackground 0x0603 = false → TokenGiven s m x 0x0603 (msgWord m 1) (List.replicate 32 0) →
      ∃ t, Sys2Proof.Machine.exec (.lcAdvance n x) s = .next t ∧
        t.boot.fuse = (if msgWord m 1 = 2 then { s.boot.fuse with depl := max s.boot.fuse.depl 1 }
          else { s.boot.fuse with ret := max s.boot.fuse.ret 1 }) ∧
        t.get CP_LC_state = t.boot.fuse.shown ∧ t.host.bg = s.host.bg ++ [{ chan := n, op := 0x0603, msg := m }] ∧
        Keep s.newCycle t [.fuse, .boot, .host, .out] ∧
      KeepRegs s.newCycle t [] (replyRegs ++ [CP_ID_grade, CP_SERIAL_LO_serial_lo, CP_SERIAL_HI_serial_hi, CP_IMG_SVN_img_svn, CP_LC_debug, MB_ST_repaired])) ∧
    (msgWord m 1 = 2 → s.get CP_LC_state = 2 → ∃ u t : State, Sys2Proof.Machine.exec (.lcAdvance n x) s = .next t ∧ t = u.reply n (msgWord m 0) ({ status := 0xC } : Reply) ∧
      u.boot = s.boot ∧ u.regs = s.regs)) ∧
  (∀ n x m s, Served s n 0x0604 m → msgWord m 1 < 4 →
    (s.get CP_LC_state ≠ 0 → (s.boot.fuse.keys.map (·.1)).filter (fun i => !s.boot.fuse.revoked.contains i) ≠ [msgWord m 1] →
      s.get CP_LC_key_used ≠ msgWord m 1 → TokenGiven s m x 0x0604 (msgWord m 1) (List.replicate 32 0) →
      tokenSlot ((s.bulkBytes m x).take tokenBytes) ≠ msgWord m 1 →
      ∃ u t : State, Sys2Proof.Machine.exec (.keyRevoke n x) s = .next t ∧ t = u.reply n (msgWord m 0) {} ∧
        msgWord m 1 ∈ t.boot.fuse.revoked ∧ t.boot.fuse = { s.boot.fuse with revoked := t.boot.fuse.revoked } ∧
        bit (t.get CP_LC_revoked) (msgWord m 1) = true ∧
        Recorded s t kKEY_REVOKED
          (leBytes 1 (msgWord m 1) ++ leBytes 1 (tokenSlot ((s.bulkBytes m x).take tokenBytes))) ∧ Keep s.newCycle t [.rcd, .irq, .perf, .fuse, .boot, .host, .out] ∧
      KeepRegs s.newCycle t [] (replyRegs ++ [CP_ID_grade, CP_SERIAL_LO_serial_lo, CP_SERIAL_HI_serial_hi, CP_IMG_SVN_img_svn, CP_LC_debug, MB_ST_repaired, EVR_LOSS_drop])) ∧
    (s.get CP_LC_key_used = msgWord m 1 → ∃ u t : State, Sys2Proof.Machine.exec (.keyRevoke n x) s = .next t ∧ t = u.reply n (msgWord m 0) ({ status := 0xC } : Reply) ∧
      u.boot = s.boot ∧ u.regs = s.regs)) ∧
  (∀ n x m s, Served s n 0x0605 m →
    (s.get CP_LC_boot_state = 1 → TokenGiven s m x 0x0605 0 (List.replicate 32 0) →
      ∃ u t : State, Sys2Proof.Machine.exec (.debugUnlock n x) s = .next t ∧ t = u.reply n (msgWord m 0) {} ∧ t.on CP_LC_debug = true ∧ Keep s.newCycle t [.host, .out] ∧
      KeepRegs s.newCycle t [] (replyRegs ++ [CP_LC_debug])) ∧
    (s.get CP_LC_boot_state ≠ 1 → ∃ u t : State, Sys2Proof.Machine.exec (.debugUnlock n x) s = .next t ∧ t = u.reply n (msgWord m 0) ({ status := 5 } : Reply) ∧ u.regs = s.regs)) ∧
  (∀ k s, k < 2 → bit s.host.hold k = false →
    (s.pwr.main = false → ∃ t, Sys2Proof.Machine.exec (.tamperAssert k) s = .next t ∧
      t.on CP_TAMPER_bat = true ∧ t.host = { s.host with hold := s.host.hold + 2 ^ k } ∧ t.boot = s.boot ∧ t.mem = s.mem) ∧
    (s.pwr.main = true → s.gl SECURITY_tamper_en k = 1 → ∃ t, Sys2Proof.Machine.exec (.tamperAssert k) s = .next t ∧
      bit (t.get CP_TAMPER_level) k = true ∧ bit (t.get CP_TAMPER_stk) k = true ∧ t.boot.tampered = true ∧
      t.on CP_LC_id_key = false ∧ (s.get CP_LC_state ≠ 0 → t.on BM_HOST_WORLD_pcie_sec = false) ∧
      (s.gl SECURITY_tamper_act k = 2 → t.boot.squelch = true) ∧ (∀ p ∈ t.host.taken, p.1 < 8) ∧
      (∀ a, t.memByte a = if 0x3480000 ≤ a ∧ a < 0x34C0000 then 0 else s.memByte a) ∧
      (∀ n, 8 ≤ n → n < 12 → t.on MBX_CTL_go n = false ∧ t.on MBX_ST_taken n = false ∧ t.on MBX_ST_wiped n = true ∧
        ∀ i < 16, t.reg (0x10000 + 0x100 * n + 4 * i) = 0) ∧
      Recorded s t kTAMPER (leBytes 1 k) ∧ Keep s.newCycle t [.rcd, .irq, .perf, .boot, .host, .mem, .out] ∧ KeepRegs s.newCycle t [] [CP_LC_debug, CP_TAMPER_level, BM_HOST_WORLD_pcie_sec, MBX_MSG_data 0, MBX_MSG_data 1, MBX_MSG_data 2, MBX_MSG_data 3, MBX_MSG_data 4, MBX_MSG_data 5, MBX_MSG_data 6, MBX_MSG_data 7, MBX_MSG_data 8, MBX_MSG_data 9, MBX_MSG_data 10, MBX_MSG_data 11, MBX_MSG_data 12, MBX_MSG_data 13, MBX_MSG_data 14, MBX_MSG_data 15, MBX_CTL_go, MBX_ST_taken, EVR_LOSS_drop, LN_STATE_state]) ∧
    (s.pwr.main = true → s.gl SECURITY_tamper_en k ≠ 1 → ∃ t, Sys2Proof.Machine.exec (.tamperAssert k) s = .next t ∧
      t.host = { s.host with hold := s.host.hold + 2 ^ k } ∧ bit (t.get CP_TAMPER_level) k = true ∧
      KeepBits s t (at_ CP_TAMPER_level) [CP_TAMPER_level] ∧ Keep s.newCycle t [.host] ∧
      KeepRegs s.newCycle t [] [CP_TAMPER_level])) ∧
  (∀ k s, k < 2 → bit s.host.hold k = true → ∃ t, Sys2Proof.Machine.exec (.tamperDeassert k) s = .next t ∧
    t.host = { s.host with hold := s.host.hold - 2 ^ k } ∧ bit (t.get CP_TAMPER_level) k = false ∧
    (∀ j < 2, j ≠ k → bit (t.get CP_TAMPER_level) j = bit s.host.hold j) ∧
    Keep s.newCycle t [.host] ∧ KeepRegs s.newCycle t [] [CP_TAMPER_level]) ∧
  (∀ pc out s, s.cpRuns = true → ∃ t, Sys2Proof.Machine.exec (.lockstepFault pc out) s = .next t ∧
    t.get CP_RUN_lockstep = min (s.get CP_RUN_lockstep + 1) (top CP_RUN_lockstep) ∧ t.get CP_RUN_cause = 1 ∧
    t.get PWR_RST_cause = 5 ∧ Restarted s t ∧ Noted s t kLOCKSTEP_FAULT (leBytes 4 pc ++ leBytes 4 out) ∧
    Keep s.newCycle t [.mate, .rcd, .irq, .perf, .boot, .chg, .bus, .mem, .out] ∧ KeepRegs s.newCycle t [] [MATE_ST_flash_own, CP_BOOT_ST_restarts, FAB_PAGE_active, TWG_PAGE_active, PLN_STATE_steps, PLN_DUE_LO_due_lo, PLN_DUE_HI_due_hi, PLN_DETAIL_key, CP_RUN_patches, MB_ST_repaired, BM_SEM_lock, MBX_ST_taken, EVR_LOSS_drop, PWR_RST_ctl]) ∧
  (∀ s, s.cpRuns = true → s.bus.kickAt + ceilDiv (s.gl SECURITY_cp_wdog_ms * 10000000) 1024 ≤ s.pwr.up →
    ∃ t, Sys2Proof.Machine.exec (.cpWatchdogExpiry) s = .next t ∧
      t.get CP_RUN_wdog = min (s.get CP_RUN_wdog + 1) (top CP_RUN_wdog) ∧ t.get CP_RUN_cause = 2 ∧
      t.get PWR_RST_cause = 6 ∧ Restarted s t ∧ bit (t.get BM_MWD_expired) 0 = true ∧ Noted s t kCP_WATCHDOG [] ∧
      Keep s.newCycle t [.mate, .rcd, .irq, .perf, .boot, .chg, .bus, .mem, .out] ∧ KeepRegs s.newCycle t [] [MATE_ST_flash_own, CP_BOOT_ST_restarts, FAB_PAGE_active, TWG_PAGE_active, PLN_STATE_steps, PLN_DUE_LO_due_lo, PLN_DUE_HI_due_hi, PLN_DETAIL_key, CP_RUN_patches, BM_MWD_expired, MB_ST_repaired, MB_OWNER_owner, BM_SEM_lock, MBX_ST_taken, EVR_LOSS_drop, PWR_RST_ctl]) ∧
  (∀ s, s.pwr.up < s.bus.kickAt + ceilDiv (s.gl SECURITY_cp_wdog_ms * 10000000) 1024 →
    Sys2Proof.Machine.exec .cpWatchdogExpiry s = .next s.newCycle) ∧
  (∀ src s, srcMaster src ≠ 2 → s.issues { src := src, addr := 0 } = true →
    (s.secureSrc src 0x11000000 = true →
      Sys2Proof.Machine.exec (.watchdogKick src) s =
        .next (({ s.newCycle with bus := { s.bus with kickAt := s.pwr.up } } : State).cvuWord (srcMaster src) 0x11000000 15 0)) ∧
    (s.secureSrc src 0x11000000 = false → ∃ t, Sys2Proof.Machine.exec (.watchdogKick src) s = .next t ∧
      t.bus.kickAt = s.bus.kickAt ∧ wvShown s t (srcMaster src) true 0x11000000 ∧
      KeepRegs s.newCycle t [] violRegs)) ∧
  (∀ s, s.bus.cpHalt = true → ∃ t, Sys2Proof.Machine.exec (.processorResume) s = .next t ∧
    t.bus = { s.bus with cpHalt := false, kickAt := s.pwr.up } ∧ t.mate.gaspOut = false ∧ t.host.taken = [] ∧ t.host.bg = [] ∧
    WholeGroups t.boot.fuse ∧ (WholeGroups s.boot.fuse → t.boot = s.boot ∧
      ∀ p ∈ s.host.taken, s.chanHeld p.1 = false → (p.1 + 1, { status := 0x12 }) ∈ t.out.reply) ∧ Keep s.newCycle t [.mate, .rcd, .irq, .perf, .fuse, .boot, .bus, .host, .mem, .out] ∧
      KeepRegs s.newCycle t [] (replyRegs ++ [CP_ID_grade, CP_SERIAL_LO_serial_lo, CP_SERIAL_HI_serial_hi, CP_IMG_SVN_img_svn, CP_LC_debug, BM_HOST_WORLD_pcie_sec, MB_ST_repaired, EVR_LOSS_drop])) ∧
  (∀ s, s.bus.cpHalt = false → Sys2Proof.Machine.exec .processorResume s = .next s.newCycle)

/-- Nonces, sessions, queries and the commands that run in the background. NONCE returns 32 bytes, keeps them for its
channel, and draws them afresh. SESSION with the nonce of its channel and an authorising token sets pcie_sec with a
SESSION record, and without a nonce answers TOKEN; its nonce is used up. SESSION_END and the idle limit clear pcie_sec
outside BLANK. QUERY answers what its item names, and INVALID for an item that does not exist. ATTEST, FLASH_WRITE and
the harvests, where their checks pass, wait in the background with what they carry, and each refusal leaves nothing.
At its end a FLASH_WRITE has programmed its bytes, LC_ADVANCE has its fuses blown whole, a command that a tamper cut
is answered TAMPERED, and a HARVEST_PM has taken its items from the queue. -/
def Obligations.SessionsAndQueries : Prop :=
  (∀ n m s, Served s n 0x0002 m → ∃ (l : List Byte) (u t : State),
    Sys2Proof.Machine.exec (.nonce n) s = .next t ∧ l.length = 32 ∧
    t = u.reply n (msgWord m 0)
      { words := wordsFrom1 ((List.range 8).map fun i => leNat ((l.drop (4 * i)).take 4)) } ∧
    t.host.nonces = (s.host.nonces.filter fun p => p.1 != n) ++ [(n, s.pwr.up, l)] ∧ t.free = s.free + 1 ∧ Keep s.newCycle t [.free, .host, .out] ∧ KeepRegs s.newCycle t [] replyRegs) ∧
  (∀ n x m s, Served s n 0x0003 m →
    (∀ nc, s.nonceOf n = some nc → TokenGiven s m x 0x0003 0 nc →
      ∃ u t : State, Sys2Proof.Machine.exec (.session n x) s = .next t ∧ t = u.reply n (msgWord m 0) {} ∧
        t.on BM_HOST_WORLD_pcie_sec = true ∧ (∀ p ∈ t.host.nonces, p.1 ≠ n) ∧ Recorded s t kSESSION (leBytes 1 1) ∧
        Keep s.newCycle t [.rcd, .irq, .perf, .host, .out] ∧
      KeepRegs s.newCycle t [] (replyRegs ++ [BM_HOST_WORLD_pcie_sec, EVR_LOSS_drop])) ∧
    (s.nonceOf n = none → s.bulkFault m x.ok tokenBytes = none →
      ∃ u t : State, Sys2Proof.Machine.exec (.session n x) s = .next t ∧ t = u.reply n (msgWord m 0) ({ status := 0xB } : Reply) ∧ u.regs = s.regs ∧ ∀ p ∈ t.host.nonces, p.1 ≠ n)) ∧
  (∀ n m s, Served s n 0x0004 m →
    (s.get CP_LC_state ≠ 0 → ∃ u t : State, Sys2Proof.Machine.exec (.sessionEnd n) s = .next t ∧ t = u.reply n (msgWord m 0) {} ∧
      t.on BM_HOST_WORLD_pcie_sec = false ∧
      (s.on BM_HOST_WORLD_pcie_sec = true → Recorded s t kSESSION (leBytes 1 0)) ∧ Keep s.newCycle t [.rcd, .irq, .perf, .host, .out] ∧
      KeepRegs s.newCycle t [] (replyRegs ++ [BM_HOST_WORLD_pcie_sec, EVR_LOSS_drop])) ∧
    (s.get CP_LC_state = 0 → ∃ u t : State, Sys2Proof.Machine.exec (.sessionEnd n) s = .next t ∧ t = u.reply n (msgWord m 0) {} ∧ u = s.newCycle)) ∧
  (∀ s,
    (s.on BM_HOST_WORLD_pcie_sec = true → s.get CP_LC_state ≠ 0 → ∃ t, Sys2Proof.Machine.exec (.sessionIdleTimeout) s = .next t ∧
      t.on BM_HOST_WORLD_pcie_sec = false ∧ Recorded s t kSESSION (leBytes 1 0) ∧ Keep s.newCycle t [.rcd, .irq, .perf, .out] ∧ KeepRegs s.newCycle t [] [BM_HOST_WORLD_pcie_sec, EVR_LOSS_drop]) ∧
    (s.on BM_HOST_WORLD_pcie_sec = false ∨ s.get CP_LC_state = 0 →
      Sys2Proof.Machine.exec .sessionIdleTimeout s = .next s.newCycle)) ∧
  (∀ n x m s, Served s n 0x0001 m →
    (msgWord m 1 = 0 → ∃ u t : State, Sys2Proof.Machine.exec (.query n x) s = .next t ∧ t = u.reply n (msgWord m 0) ({ words := wordsFrom1 (summaryKeys.map fun k =>
      (s.newCycle.shown (decide (8 ≤ n)) k).toNat) } : Reply) ∧ u = s.newCycle ∧ Keep s.newCycle t [.host, .mem, .out] ∧ KeepRegs s.newCycle t [] replyRegs) ∧
    (msgWord m 1 = 1 → 1 ≤ msgWord m 2 → msgWord m 2 ≤ 16 →
      ∃ u t : State, Sys2Proof.Machine.exec (.query n x) s = .next t ∧ t = u.reply n (msgWord m 0) (s.querySection (msgWord m 2)) ∧ u = s.newCycle) ∧
    (∀ d, msgWord m 1 = 6 → s.dir (s.get CP_BOOT_ST_cs) = some d →
      ∃ u t : State, Sys2Proof.Machine.exec (.query n x) s = .next t ∧ t = u.reply n (msgWord m 0) ({ words := wordsFrom1 [d.a.seq, d.a.state % 8, d.b.seq, d.b.state % 8, s.get CP_BOOT_ST_slot] } : Reply) ∧
        u = s.newCycle) ∧
    (6 < msgWord m 1 ∨ (msgWord m 1 = 1 ∧ (msgWord m 2 = 0 ∨ 16 < msgWord m 2)) →
      ∃ u t : State, Sys2Proof.Machine.exec (.query n x) s = .next t ∧ t = u.reply n (msgWord m 0) ({ status := 2 } : Reply) ∧ u = s.newCycle)) ∧
  (∀ n x m s, Served s n 0x0601 m →
    (s.get CP_LC_state = 1 ∨ s.get CP_LC_state = 2 → s.on CP_LC_id_key = true → s.bulkFault m x.ok 4888 = none →
      ∃ t, Sys2Proof.Machine.exec (.attest n x) s = .next t ∧
        (∃ rep, t.host.bg = s.host.bg ++ [{ chan := n, op := 0x0601, msg := m, out := { bulk := rep } }] ∧ rep.length = 4888 ∧
          (rep.drop 4).take 1 = leBytes 1 (s.get CP_LC_state) ∧
          (rep.drop 208).take 32 = (List.range 8).flatMap (fun i => leBytes 4 (msgWord m (1 + i))) ∧
          (kATTEST.sev ≤ s.gl RECORDS_keep_sev →
            (rep.drop 24).take 8 = leBytes 8 s.newCycle.acceptAll.rcd.nextSeq ∧
            t.rcd.nextSeq = s.newCycle.acceptAll.rcd.nextSeq + 1)) ∧
        t.host.taken = s.host.taken.filter (fun p => p.1 != n) ∧ Keep s.newCycle t [.rcd, .irq, .perf, .free, .host, .out] ∧
      KeepRegs s.newCycle t [] (replyRegs ++ [EVR_HOLD_fill, EVR_FLASH_pending, EVR_LOSS_drop, EVR_CUR_ST_state, HQ_LOST_lost])) ∧
    (s.get CP_LC_state = 0 ∨ s.get CP_LC_state = 3 ∨ s.on CP_LC_id_key = false →
      ∃ u t : State, Sys2Proof.Machine.exec (.attest n x) s = .next t ∧ t = u.reply n (msgWord m 0) ({ status := 5 } : Reply) ∧ u = s.newCycle)) ∧
  (∀ n x m d s, Served s n 0x0501 m →
    (slice (msgWord m 1) 2 1 ≤ 1 → msgWord m 2 % 256 = 0 → msgWord m 15 % 256 = 0 → 0 < msgWord m 15 →
      msgWord m 15 ≤ 1048576 → s.dir (msgWord m 1 % 2) = some d →
      msgWord m 2 + msgWord m 15 ≤ (d.slot (slice (msgWord m 1) 2 1)).size → s.bulkFault m x.ok 0 = none →
      (s.bootState = 4 → s.get CP_BOOT_ST_cs = msgWord m 1 % 2 → s.get CP_BOOT_ST_slot = slice (msgWord m 1) 2 1 →
        ∃ u t : State, Sys2Proof.Machine.exec (.flashWrite n x) s = .next t ∧ t = u.reply n (msgWord m 0) ({ status := 4 } : Reply) ∧ u = s.newCycle) ∧
      (¬ (s.bootState = 4 ∧ s.get CP_BOOT_ST_cs = msgWord m 1 % 2 ∧ s.get CP_BOOT_ST_slot = slice (msgWord m 1) 2 1) →
        s.protects (msgWord m 1 % 2) ((d.slot (slice (msgWord m 1) 2 1)).base + msgWord m 2) (msgWord m 15) = false →
        s.inBackground 0x0501 = false → ∃ t, Sys2Proof.Machine.exec (.flashWrite n x) s = .next t ∧
          t.host.bg = s.host.bg ++ [{ chan := n, op := 0x0501, msg := m, data := s.bulkBytes m x }] ∧
          t.host.taken = s.host.taken.filter (fun p => p.1 != n) ∧
          t.mate.flashUse = (s.on MATE_ST_rank && s.flashFree) ∧ Keep s.newCycle t [.mate, .host, .out] ∧ KeepRegs s.newCycle t [] replyRegs)) ∧
    (msgWord m 15 = 0 ∨ msgWord m 15 % 256 ≠ 0 ∨ 1048576 < msgWord m 15 ∨ msgWord m 2 % 256 ≠ 0 →
      ∃ u t : State, Sys2Proof.Machine.exec (.flashWrite n x) s = .next t ∧ t = u.reply n (msgWord m 0) ({ status := 2 } : Reply) ∧ u = s.newCycle)) ∧
  (∀ n m s, Served s n 0x0301 m →
    (msgWord m 1 < 4 ∨ msgWord m 1 = 8 → s.bulkFault m true 0 = none →
      (s.inBackground 0x0301 = false → ∃ t, Sys2Proof.Machine.exec (.harvestEvt n) s = .next t ∧
        t.host.bg = s.host.bg ++ [{ chan := n, op := 0x0301, msg := m }] ∧
        t.host.taken = s.host.taken.filter (fun p => p.1 != n) ∧ t.rcd = s.rcd ∧ Keep s.newCycle t [.host, .out] ∧ KeepRegs s.newCycle t [] replyRegs) ∧
      (s.inBackground 0x0301 = true → ∃ u t : State, Sys2Proof.Machine.exec (.harvestEvt n) s = .next t ∧ t = u.reply n (msgWord m 0) ({ status := 4 } : Reply) ∧ u = s.newCycle)) ∧
    (4 ≤ msgWord m 1 → msgWord m 1 ≠ 8 → ∃ u t : State, Sys2Proof.Machine.exec (.harvestEvt n) s = .next t ∧ t = u.reply n (msgWord m 0) ({ status := 2 } : Reply) ∧ u = s.newCycle)) ∧
  (∀ n m s, Served s n 0x0302 m → s.bulkFault m true 0 = none →
    (s.inBackground 0x0302 = false → ∃ t, Sys2Proof.Machine.exec (.harvestPm n) s = .next t ∧
      t.host.bg = s.host.bg ++ [{ chan := n, op := 0x0302, msg := m }] ∧
      t.host.taken = s.host.taken.filter (fun p => p.1 != n) ∧ t.rcd = s.rcd ∧ Keep s.newCycle t [.host, .out] ∧ KeepRegs s.newCycle t [] replyRegs) ∧
    (s.inBackground 0x0302 = true → ∃ u t : State, Sys2Proof.Machine.exec (.harvestPm n) s = .next t ∧ t = u.reply n (msgWord m 0) ({ status := 4 } : Reply) ∧ u = s.newCycle)) ∧
  (∀ n x b s, s.cpRuns = true → s.bgOf n = some b →
    (b.mark = 1 → b.op = 0x0601 → ∃ u t : State, Sys2Proof.Machine.exec (.backgroundCommandDone n x) s = .next t ∧
      t = u.reply n (msgWord b.msg 0) { status := 0xD } ∧ u.regs = s.regs ∧
      t.host.bg = s.host.bg.filter (fun c => c != b)) ∧
    (b.mark = 0 → b.op = 0x0603 → ∃ u t : State, Sys2Proof.Machine.exec (.backgroundCommandDone n x) s = .next t ∧
      t = u.reply n (msgWord b.msg 0) {} ∧ WholeGroups t.boot.fuse ∧
      (0 < s.boot.fuse.depl → s.boot.fuse.depl < 8 → t.boot.fuse.depl = 8)) ∧
    (∀ d, b.mark = 0 → b.op = 0x0501 → x.err = false → s.flashFree = true → bit (msgWord b.msg 3) 0 = false →
      s.dir (msgWord b.msg 1 % 2) = some d →
      ∃ u t : State, Sys2Proof.Machine.exec (.backgroundCommandDone n x) s = .next t ∧
        t = u.reply n (msgWord b.msg 0) { words := wordsFrom1 [b.data.length, 0] } ∧
        t.host.bg = s.host.bg.filter (fun c => c != b) ∧
        ∀ i v, b.data[i]? = some v → t.flashByte (msgWord b.msg 1 % 2)
          ((d.slot (slice (msgWord b.msg 1) 2 1)).base + msgWord b.msg 2 + i) = v) ∧
    (∀ items, b.mark = 0 → b.op = 0x0302 → s.bulkFault b.msg x.ok 0 = none →
      takeFit (msgWord b.msg 1) (msgWord b.msg 15) (s.hqSt 4).pm = items → items ≠ [] →
      ∃ u t : State, Sys2Proof.Machine.exec (.backgroundCommandDone n x) s = .next t ∧
        (∃ r, t = u.reply n (msgWord b.msg 0) r ∧ r.bulk = items.flatten ∧ (1, items.length) ∈ r.words) ∧
        t.hqSt 4 = { s.hqSt 4 with pm := (s.hqSt 4).pm.drop items.length, disc := 0, mark := (s.hqSt 4).mark - items.length } ∧
        t.host.bg = s.host.bg.filter (fun c => c != b))) ∧
  (∀ n x s, s.cpRuns = false ∨ s.bgOf n = none →
    Sys2Proof.Machine.exec (.backgroundCommandDone n x) s = .next s.newCycle)

/-- Accesses of the masters, locks, semaphores and the ownership of banks. An access to a bank that its master may use
writes its enabled bytes and no other, or returns the bytes there. A bank that is not ON, one that its master neither
owns nor shares, a secure bank to a non-secure access, and an address without target each refuse it: it reads 0,
changes no memory, and is counted and recorded. Of two masters that wait for a bank the lower code is granted, and the
other is stalled; a master locked out is stalled. A read of BM_CONF by a master, in the cycle in which it stalls
another, returns the stalled cycles before that one, clears the counter and leaves the new one counted (R9). A locked sequence that times out is broken. A free semaphore read by
a master returns 0 and is held by it, a held one shows its register, and its holder alone frees it. A secure write of
MB_OWNER requests a hand-over, which passes the bank; a watchdog expiry passes the banks of its master to CP and frees
its semaphores; a bank that wakes is ON. -/
def Obligations.BusAccesses : Prop :=
  (∀ q b o s, s.issues q = true → q.lock = .plain → q.cut = none → 1 ≤ q.len → q.len ≤ 512 → b < 8 →
    (∀ i < q.len, s.targetAt (q.addr + i) = .bank b (o + i)) → (srcMaster q.src = 2 → 0x10000000 ≤ q.addr) →
    s.lockedOut (srcMaster q.src) b = false →
    (s.secureTarget (.bank b o) = false ∨ s.secureSrc q.src 0 = true →
      (s.get MB_ST_power b = 0 → s.mayUse (srcMaster q.src) b = true →
        (q.write = true → q.data.length = q.len → (b = 5 → s.tamperHeld = false) → ∃ t, Sys2Proof.Machine.exec (.busAccess [q]) s = .next t ∧
          (∀ i v, q.data[i]? = some v → t.memByte ((bankPlace b).1 + o + i) = v.getD (s.memByte ((bankPlace b).1 + o + i))) ∧
          (∀ a, a < (bankPlace b).1 + o ∨ (bankPlace b).1 + o + q.len ≤ a → t.memByte a = s.memByte a) ∧
          t.out.bytes = [] ∧ Keep s.newCycle t [.latch, .stage, .fr, .rcd, .irq, .perf, .free, .evg, .pwr, .bus, .mem, .out]) ∧
        (q.write = false → ∃ t, Sys2Proof.Machine.exec (.busAccess [q]) s = .next t ∧ t.out.bytes.length = q.len ∧
          (∀ i < q.len, b ≠ 2 ∨ s.mapE ((o + i) / 64) = none → t.out.bytes[i]? = some (s.memByte ((bankPlace b).1 + o + i))) ∧
          (∀ i e, i < q.len → b = 2 → s.mapE ((o + i) / 64) = some e → (o + i) % 64 < 8 → t.out.bytes[i]? =
            some (BitVec.ofNat 8 ((s.ctxCfg e + 2 ^ 32 * s.ctxPlace e) / 256 ^ ((o + i) % 64)))) ∧ t.mem = s.mem)) ∧
      (s.get MB_ST_power b ≠ 0 → ∃ t, Sys2Proof.Machine.exec (.busAccess [q]) s = .next t ∧
        t.mem = s.mem ∧ t.out.bytes = (if q.write = true then [] else List.replicate q.len 0) ∧
        t.get MB_ACC_off_acc b = min (s.get MB_ACC_off_acc b + 1) (top MB_ACC_off_acc) ∧
        Recorded s t kBANK_DENY (leBytes 1 b ++ leBytes 1 (srcMaster q.src) ++ leBytes 5 q.addr)) ∧
      (s.get MB_ST_power b = 0 → s.mayUse (srcMaster q.src) b = false → ∃ t, Sys2Proof.Machine.exec (.busAccess [q]) s = .next t ∧
        t.mem = s.mem ∧ t.out.bytes = (if q.write = true then [] else List.replicate q.len 0) ∧
        t.get MB_ACC_deny b = min (s.get MB_ACC_deny b + 1) (top MB_ACC_deny) ∧
        Recorded s t kBANK_DENY (leBytes 1 b ++ leBytes 1 (srcMaster q.src) ++ leBytes 5 q.addr))) ∧
    (s.secureTarget (.bank b o) = true → s.secureSrc q.src 0 = false → q.fetch = false → q.len ≤ 32 →
      ∃ t, Sys2Proof.Machine.exec (.busAccess [q]) s = .next t ∧
        t.mem = s.mem ∧ t.out.bytes = (if q.write = true then [] else List.replicate q.len 0) ∧
        wvShown s t (srcMaster q.src) q.write q.addr)) ∧
  (∀ q s, s.issues q = true → q.lock = .plain → s.targetAt q.addr = .none → s.lockedOut (srcMaster q.src) 13 = false →
    ∃ t, Sys2Proof.Machine.exec (.busAccess [q]) s = .next t ∧
      t.mem = s.mem ∧ t.out.bytes = [] ∧ t.get BM_EVT_decode_err = min (s.get BM_EVT_decode_err + 1) (top BM_EVT_decode_err) ∧
      Recorded s t kDECODE_ERR (leBytes 1 (srcMaster q.src) ++ leBytes 5 q.addr)) ∧
  (∀ q r b o s, s.issues q = true → s.issues r = true → srcMaster q.src < srcMaster r.src → q.lock = .plain → b < 8 →
    s.targetAt q.addr = .bank b o → (s.targetAt r.addr).range = b → (srcMaster r.src = 2 → r.waited < 512) →
    s.lockedOut (srcMaster q.src) b = false → s.lockedOut (srcMaster r.src) b = false →
    Sys2Proof.Machine.exec (.busAccess [q, r]) s = .next (((s.newCycle.access q).countGrant
      (srcMaster q.src) b q.write none).stall (srcMaster r.src) b (holdCycles q true)) ∧
    Sys2Proof.Machine.exec (.busAccess [r, q]) s = Sys2Proof.Machine.exec (.busAccess [q, r]) s) ∧
  (∀ q r n k s, n = srcMaster r.src - 1 → k = at_ BM_CONF_conf n → s.issues q = true → s.issues r = true →
    srcMaster q.src < srcMaster r.src → q.lock = .plain → q.write = false → q.cut = none → q.len = 4 →
    q.addr = 0x10000000 + k → latchedAt s k = none → (s.targetAt r.addr).range = 9 →
    (srcMaster r.src = 2 → r.waited < 512) → s.lockedOut (srcMaster q.src) 9 = false →
    s.lockedOut (srcMaster r.src) 9 = false →
    ∃ t, Sys2Proof.Machine.exec (.busAccess [q, r]) s = .next t ∧
      t.out.bytes = leBytes 4 (s.get BM_CONF_conf n) ∧ t.get BM_CONF_conf n = 1) ∧
  (∀ q b s, s.issues q = true → b < 8 → (s.targetAt q.addr).range = b → s.lockedOut (srcMaster q.src) b = true →
    ∃ t, Sys2Proof.Machine.exec (.busAccess [q]) s = .next t ∧
      t.mem = s.mem ∧ t.out.bytes = [] ∧ t.get BM_CONF_conf (srcMaster q.src - 1) =
        min (s.get BM_CONF_conf (srcMaster q.src - 1) + 1) (top BM_CONF_conf)) ∧
  (∀ m s,
    (∀ l, s.lockOf m = some l → l.broken = false → ∃ t, Sys2Proof.Machine.exec (.lockTimeout m) s = .next t ∧
      t.lockOf m = some { l with broken := true } ∧ (∀ k, k ≠ m → t.lockOf k = s.lockOf k) ∧
      t.get BM_EVT_lock_broken = min (s.get BM_EVT_lock_broken + 1) (top BM_EVT_lock_broken) ∧
      Recorded s t kLOCK_BROKEN (leBytes 1 m ++ leBytes 1 (grantCode l.target)) ∧ Keep s.newCycle t [.rcd, .irq, .perf, .bus, .out] ∧ KeepRegs s.newCycle t [] [BM_EVT_decode_err, EVR_LOSS_drop]) ∧
    (s.lockOf m = none → Sys2Proof.Machine.exec (.lockTimeout m) s = .next s.newCycle)) ∧
  (∀ n src s, n < 64 → srcMaster src ≠ 2 → s.issues { src := src, addr := 0 } = true →
    (n < 48 ∨ s.secureSrc src (0x11001000 + 4 * n) = true →
      (s.on BM_SEM_lock n = false → ∃ t, Sys2Proof.Machine.exec (.semaphoreRead n [src]) s = .next t ∧
        t.out.rdata = [0] ∧ t.on BM_SEM_lock n = true ∧ t.get BM_SEM_holder n = srcMaster src ∧
        Keep s.newCycle t [.out] ∧ KeepRegs s.newCycle t [0x11001000 + 4 * n] []) ∧
      (s.on BM_SEM_lock n = true → ∃ t, Sys2Proof.Machine.exec (.semaphoreRead n [src]) s = .next t ∧
        t.out.rdata = [s.reg (0x11001000 + 4 * n)] ∧ t.regs = s.regs) ∧
      (∀ data, s.get BM_SEM_holder n = srcMaster src → bit data.toNat 0 = false → ∃ t, Sys2Proof.Machine.exec (.semaphoreRelease n src data) s =
          .next (t.cvuWord (srcMaster src) (0x11001000 + 4 * n) 15 data) ∧
        t.on BM_SEM_lock n = false ∧ t.get BM_SEM_holder n = 0 ∧ Keep s.newCycle t [] ∧
        KeepRegs s.newCycle t [0x11001000 + 4 * n] []) ∧
      (∀ data, s.get BM_SEM_holder n ≠ srcMaster src ∨ bit data.toNat 0 = true →
        Sys2Proof.Machine.exec (.semaphoreRelease n src data) s =
          .next (s.newCycle.cvuWord (srcMaster src) (0x11001000 + 4 * n) 15 data))) ∧
    (48 ≤ n → s.secureSrc src (0x11001000 + 4 * n) = false →
      ∃ t, Sys2Proof.Machine.exec (.semaphoreRead n [src]) s = .next t ∧
        t.out.rdata = [0] ∧ t.on BM_SEM_lock n = s.on BM_SEM_lock n ∧
        wvShown s t (srcMaster src) false (0x11001000 + 4 * n))) ∧
  (∀ src n be data s, n < 8 → s.secureSrc src (0xD10C + 0x10 * n) = true → be % 16 = 15 →
    ∃ t, Sys2Proof.Machine.exec (.bankOwnerWrite src n be data) s =
        .next (t.cvuWord (srcMaster src) (0x1000D10C + 0x10 * n) be data) ∧
      t.on MB_ST_pending n = true ∧ t.bus.newOwn = tput s.bus.newOwn n (bitsOf data 3 0) ∧
      t.get MB_ST_share n = bitsOf data 11 4 ∧ t.get MB_ST_owner n = s.get MB_ST_owner n ∧
      Keep s.newCycle t [.bus] ∧ KeepRegs s.newCycle t [] [MB_ST_pending, MB_OWNER_owner]) ∧
  (∀ src n be data s, n < 8 → s.secureSrc src (0xD10C + 0x10 * n) = false →
    ∃ t, Sys2Proof.Machine.exec (.bankOwnerWrite src n be data) s = .next t ∧
      t.on MB_ST_pending n = s.on MB_ST_pending n ∧ t.get MB_ST_share n = s.get MB_ST_share n ∧
      t.bus.newOwn = s.bus.newOwn ∧ wvShown s t (srcMaster src) true (0x1000D10C + 0x10 * n)) ∧
  (∀ n m s, n < 8 →
    (s.on MB_ST_pending n = true → s.bus.newOwn.find? (fun p => p.1 == n) = some (n, m) → m < 16 → ∃ t, Sys2Proof.Machine.exec (.bankHandover n) s = .next t ∧
      t.get MB_ST_owner n = m ∧ t.get MB_OWNER_owner n = m ∧ t.on MB_ST_pending n = false ∧
      t.get MB_ST_share n = s.get MB_ST_share n ∧
      Recorded s t kBANK_OWNER (leBytes 1 n ++ leBytes 1 (s.get MB_ST_owner n) ++ leBytes 1 m) ∧ Keep s.newCycle t [.rcd, .irq, .perf, .bus, .out] ∧ KeepRegs s.newCycle t [] [MB_ST_repaired, MB_OWNER_owner, EVR_LOSS_drop]) ∧
    (s.on MB_ST_pending n = false → Sys2Proof.Machine.exec (.bankHandover n) s = .next s.newCycle)) ∧
  (∀ m s,
    ((3 ≤ m ∧ m ≤ 7) ∨ (m = 2 ∧ (s.on MBX_LINK_up = false ∨ s.on MBX_LINK_perst = true)) ∨ (m = 8 ∧ s.on CP_LC_debug = false) →
      ∃ t, Sys2Proof.Machine.exec (.masterWatchdogExpiry m) s = .next t ∧
        bit (t.get BM_MWD_expired) (m - 1) = true ∧
        (∀ n < 8, t.get MB_ST_owner n = (if s.get MB_ST_owner n = m then 1 else s.get MB_ST_owner n)) ∧
        (∀ n < 64, s.get BM_SEM_holder n = m → t.on BM_SEM_lock n = false ∧ t.get BM_SEM_holder n = 0) ∧
        (∀ n < 64, s.get BM_SEM_holder n ≠ m → t.reg (0x11001000 + 4 * n) = s.reg (0x11001000 + 4 * n)) ∧
        (∀ n < 8, s.get MB_ST_owner n = m → (∀ k < n, s.get MB_ST_owner k ≠ m) →
          Noted s t kBANK_RECLAIM (leBytes 1 n ++ leBytes 1 m)) ∧ Keep s.newCycle t [.rcd, .irq, .perf, .out] ∧ KeepRegs s.newCycle t [] [BM_MWD_expired, MB_ST_repaired, MB_OWNER_owner, BM_SEM_lock, EVR_LOSS_drop]) ∧
    (m < 2 ∨ 8 < m ∨ (m = 2 ∧ s.on MBX_LINK_up = true ∧ s.on MBX_LINK_perst = false) ∨ (m = 8 ∧ s.on CP_LC_debug = true) →
      Sys2Proof.Machine.exec (.masterWatchdogExpiry m) s = .next s.newCycle)) ∧
  (∀ n s, n < 8 →
    (s.get MB_ST_power n = 3 → ∃ t, Sys2Proof.Machine.exec (.bankWakeDone n) s = .next t ∧
      t.get MB_ST_power n = 0 ∧ t.get MB_ST_owner n = s.get MB_ST_owner n ∧ t.mem = s.mem ∧ Keep s.newCycle t [] ∧ KeepRegs s.newCycle t [] [MB_ST_repaired]) ∧
    (s.get MB_ST_power n ≠ 3 → Sys2Proof.Machine.exec (.bankWakeDone n) s = .next s.newCycle))

/-- A transaction with a bad PEC is ignored and counted, and raises its source (R380). -/
def Sys2Proof.Safety.BadPec (s t : State) : Prop :=
  t.get MBX_HOSTERR_smb_pec = min (s.get MBX_HOSTERR_smb_pec + 1) (top MBX_HOSTERR_smb_pec) ∧ bit (t.stk 0) 8 = true ∧
  t.host = s.host ∧ t.mem = s.mem ∧ KeepRegs s.newCycle t [] [MBX_HOSTERR_smb_pec]

/-- The PCIe link and its endpoint, mailbox channels from post to reply, and the SMBus target. PERST_N takes the link
down, resets the endpoint with its MSI-X table, ends the session, frees the semaphores of HOST, and marks the messages
that it posted. A link that comes up shows its rate and width, wakes MB6 and hands it back; one that goes down is
counted. Enabling MSI-X sends a message for each vector with a pending bit, or marks it in the PBA where it is masked.
A post sets go and counts; a take of the next eligible channel, secure ones first, clears go, sets taken and counts; a
reply writes its words to the reply channel, posts it and clears taken; a clear clears go. SMBus commands act as R380
lists them: a bad PEC and a clock held low are counted, and a refused one changes nothing. -/
def Obligations.HostLinkMailboxesSmbus : Prop :=
  (∀ s,
    (s.on MBX_LINK_perst = false → ∃ t, Sys2Proof.Machine.exec (.perstAssert) s = .next t ∧
      t.on MBX_LINK_perst = true ∧ t.on MBX_LINK_up = false ∧ t.on MBX_LINK_bme = false ∧ t.on MBX_LINK_msix_en = false ∧
      (∀ k, 0x2F000 ≤ k → k < 0x30000 → t.reg k = resetWord k) ∧ t.irq.pba = [] ∧ t.irq.due = [] ∧ t.irq.space = [] ∧
      (s.get CP_LC_state ≠ 0 → t.on BM_HOST_WORLD_pcie_sec = false) ∧ t.lockOf 2 = none ∧
      (∀ i < 64, s.get BM_SEM_holder i = 2 → t.on BM_SEM_lock i = false) ∧
      (∀ n, n < 11 → n % 2 = 0 → s.on MBX_CTL_go n = true → t.on MBX_ST_sender_rst n = true) ∧
      (s.on MBX_LINK_up = true → Recorded s t kHOST_LINK (leBytes 1 0)) ∧ Keep s.newCycle t [.rcd, .irq, .perf, .bus, .mem, .out] ∧ KeepRegs s.newCycle t [] [BM_HOST_WORLD_pcie_sec, MB_ST_repaired, BM_SEM_lock, MBX_ST_taken, MBX_LINK_up, EVR_LOSS_drop]) ∧
    (s.on MBX_LINK_perst = true → Sys2Proof.Machine.exec .perstAssert s = .next s.newCycle) ∧
    (∃ t, Sys2Proof.Machine.exec (.perstDeassert) s = .next t ∧
      t.on MBX_LINK_perst = false ∧ KeepBits s t (at_ MBX_LINK_up) [MBX_LINK_perst] ∧ Keep s.newCycle t [] ∧ KeepRegs s.newCycle t [] [MBX_LINK_up])) ∧
  (∀ sp w bme s,
    (s.on MBX_LINK_perst = false → s.on MBX_LINK_up = false → s.get PWR_DOM_state 22 = 2 → 1 ≤ sp → sp ≤ 4 →
      w = 1 ∨ w = 2 ∨ w = 4 → ∃ t, Sys2Proof.Machine.exec (.pcieLinkUp sp w bme) s = .next t ∧
        t.on MBX_LINK_up = true ∧ t.get MBX_LINK_speed = sp ∧ t.get MBX_LINK_width = w ∧ t.on MBX_LINK_bme = bme ∧
        t.get MB_ST_power 6 = (if s.get MB_ST_power 6 = 0 then 0 else 3) ∧
        t.get MB_ST_owner 6 = (if s.cpRuns = true ∧ bit (s.get BM_MWD_expired) 1 = true ∧ s.get MB_ST_owner 6 = 1 then 2
          else s.get MB_ST_owner 6) ∧
        Noted s t kHOST_LINK (leBytes 1 1) ∧ Keep s.newCycle t [.rcd, .irq, .perf, .out] ∧ KeepRegs s.newCycle t [] [MB_ST_repaired, MB_OWNER_owner, MBX_LINK_up, EVR_LOSS_drop]) ∧
    (s.on MBX_LINK_perst = true ∨ s.on MBX_LINK_up = true →
      Sys2Proof.Machine.exec (.pcieLinkUp sp w bme) s = .next s.newCycle)) ∧
  (∀ s,
    (s.on MBX_LINK_up = true → ∃ t, Sys2Proof.Machine.exec (.pcieLinkDown) s = .next t ∧
      t.on MBX_LINK_up = false ∧ t.get MBX_LINK_speed = 0 ∧ t.get MBX_LINK_width = 0 ∧
      t.get MBX_LINK_downs = min (s.get MBX_LINK_downs + 1) (top MBX_LINK_downs) ∧ bit (t.stk 0) 7 = true ∧
      Recorded s t kHOST_LINK (leBytes 1 0) ∧ Keep s.newCycle t [.rcd, .irq, .perf, .mem, .out] ∧ KeepRegs s.newCycle t [] [MB_ST_repaired, MBX_LINK_up, EVR_LOSS_drop]) ∧
    (s.on MBX_LINK_up = false → Sys2Proof.Machine.exec .pcieLinkDown s = .next s.newCycle ∧
      ∀ on, Sys2Proof.Machine.exec (.msixEnable on) s = .next s.newCycle)) ∧
  (∀ s, s.on MBX_LINK_up = true →
    (s.on MBX_LINK_msix_en = false → ∃ t, Sys2Proof.Machine.exec (.msixEnable true) s = .next t ∧
      t.on MBX_LINK_msix_en = true ∧
      (∀ k < 512, bit (s.newCycle.irqPend (k / 32)) (k % 32) = true →
        (s.msixMasked (s.vectorOf k) = true → s.vectorOf k ∈ t.irq.pba) ∧
        (s.msixMasked (s.vectorOf k) = false → s.irq.space.contains (s.vectorOf k) = true → s.vectorOf k ∈ t.irq.due) ∧
        (s.msixMasked (s.vectorOf k) = false → s.irq.space.contains (s.vectorOf k) = false →
          s.vectorOf k ∈ t.out.msix)) ∧ Keep s.newCycle t [.irq, .out] ∧ KeepRegs s.newCycle t [] [MBX_LINK_up]) ∧
    (∃ t, Sys2Proof.Machine.exec (.msixEnable false) s = .next t ∧
      t.on MBX_LINK_msix_en = false ∧ t.out = s.newCycle.out ∧ t.irq = s.newCycle.irq ∧ Keep s.newCycle t [.irq, .out] ∧ KeepRegs s.newCycle t [] [MBX_LINK_up])) ∧
  (∀ src n s, n < 16 → n < 8 ∨ s.secureSrc src (0x10040 + 0x100 * n) = true → (srcMaster src = 2 → n < 12) →
    (8 ≤ n → n < 12 → s.tamperHeld = false) →
    (n % 2 = 0 →
      (s.on MBX_CTL_go n = false → ∃ t, Sys2Proof.Machine.exec (.mailboxPost src n) s =
          .next (t.cvuWord (srcMaster src) (0x10010040 + 0x100 * n) 15 1) ∧
        t.on MBX_CTL_go n = true ∧ t.get MBX_ST_posted n = (s.get MBX_ST_posted n + 1) % (top MBX_ST_posted + 1) ∧
        Keep s.newCycle t [] ∧ KeepRegs s.newCycle t [] [MBX_CTL_go, MBX_ST_posted]) ∧
      (s.on MBX_CTL_go n = true → Sys2Proof.Machine.exec (.mailboxPost src n) s =
        .next (s.newCycle.cvuWord (srcMaster src) (0x10010040 + 0x100 * n) 15 1))) ∧
    (n % 2 = 1 → ∃ t, Sys2Proof.Machine.exec (.mailboxReplyClear src n) s =
        .next (t.cvuWord (srcMaster src) (0x10010040 + 0x100 * n) 15 1) ∧
      t.on MBX_CTL_go n = false ∧ (∀ k < 16, k ≠ n → t.on MBX_CTL_go k = s.on MBX_CTL_go k) ∧
      Keep s.newCycle t [] ∧ KeepRegs s.newCycle t [] [MBX_CTL_go])) ∧
  (∀ n s, 4 ≤ s.bootState → s.cpRuns = true → s.host.taken = [] → s.nextChannel = some n →
    (s.canTake n = true ∧ (s.canTake 8 = true ∨ s.canTake 10 = true → n = 8 ∨ n = 10) ∧
      (n = 14 → ∀ k < 12, k % 2 = 0 → s.canTake k = false)) ∧
    (opcodes.contains ((s.msgWords n).headD 0 / 2 ^ 16) = true → ∃ t, Sys2Proof.Machine.exec (.mailboxTake) s = .next t ∧
      t.on MBX_CTL_go n = false ∧ t.on MBX_ST_taken n = true ∧ t.host.taken = [(n, s.msgWords n)] ∧
      t.get MBX_CMD_taken = min (s.get MBX_CMD_taken + 1) (top MBX_CMD_taken) ∧ Keep s.newCycle t [.host, .out] ∧ KeepRegs s.newCycle t [] replyRegs) ∧
    (opcodes.contains ((s.msgWords n).headD 0 / 2 ^ 16) = false → ∃ t, Sys2Proof.Machine.exec (.mailboxTake) s = .next t ∧
      (∃ u : State, t = u.reply n ((s.msgWords n).headD 0) { status := 1 }) ∧ t.on MBX_CTL_go n = false ∧
      t.on MBX_ST_taken n = false ∧ t.host.taken = [] ∧
      t.get MBX_CMD_refused = min (s.get MBX_CMD_refused + 1) (top MBX_CMD_refused))) ∧
  (∀ s, s.bootState < 4 ∨ s.cpRuns = false ∨ s.host.taken ≠ [] ∨ s.nextChannel = none →
    Sys2Proof.Machine.exec .mailboxTake s = .next s.newCycle) ∧
  (∀ (s : State) n hdr r, n < 15 → s.chanHeld n = false → ∃ t, t = s.reply n hdr r ∧
    (∀ i < 16, (t.reg (0x10000 + 0x100 * (n + 1) + 4 * i)).toNat =
      if i = 0 then hdr / 2 ^ 16 % 2 ^ 16 * 2 ^ 16 + r.status % 256 * 256 + hdr % 256
      else ((r.words.find? fun p => p.1 == i).map (·.2)).getD 0 % 2 ^ 32) ∧
    t.on MBX_CTL_go (n + 1) = true ∧ t.on MBX_ST_taken n = false ∧ (∀ p ∈ t.host.taken, p.1 ≠ n) ∧
    t.out.reply = s.out.reply ++ [(n + 1, r)] ∧ t.mem = s.mem ∧ KeepRegs s t [] replyRegs) ∧
  (∀ addr s,
    Sys2Proof.Machine.exec (.smbSetAddr addr true) s =
      .next { s.newCycle with host := { s.host with smbAddr := addr % 2 ^ 32 / 4 * 4 } } ∧
    (∃ t, Sys2Proof.Machine.exec (.smbSetAddr addr false) s = .next t ∧ BadPec s t)) ∧
  (∀ s,
    (s.bootState = 0 → Sys2Proof.Machine.exec .smbRead s = .next s.newCycle ∧
      ∀ d pec, Sys2Proof.Machine.exec (.smbWrite d pec) s = .next s.newCycle) ∧
    (s.bootState ≠ 0 →
      (∃ t, Sys2Proof.Machine.exec (.smbRead) s = .next t ∧
        t.host = { s.host with smbAddr := (s.host.smbAddr + 32) % 2 ^ 32 } ∧ t.out.bytes.length = 32 ∧
        (0x1000000 ≤ s.host.smbAddr → s.host.smbAddr + 32 ≤ 2 ^ 32 → t.out.bytes = List.replicate 32 0 ∧ t.regs = s.regs) ∧
        Keep s.newCycle t [.latch, .stage, .fr, .rcd, .irq, .perf, .free, .evg, .pwr, .bus, .host, .mem, .out]) ∧
      (∀ d, ∃ t, Sys2Proof.Machine.exec (.smbWrite d false) s = .next t ∧ BadPec s t) ∧
      (∀ d, s.host.smbAddr < 0x400000 ∨ 0x800000 ≤ s.host.smbAddr → s.host.smbAddr < 0x1000000 →
        Sys2Proof.Machine.exec (.smbWrite d true) s =
          .next { s.newCycle.writeBar .smbus s.host.smbAddr 15 d with host := { s.host with smbAddr := s.host.smbAddr + 4 } }) ∧
      (∀ d, 0x400000 ≤ s.host.smbAddr → s.host.smbAddr < 0x800000 → s.get MB_ST_power 6 = 0 → s.mayUse 2 6 = true →
        s.on MB_ST_world 6 = false → s.host.smbAddr % 4 = 0 → ∃ t, Sys2Proof.Machine.exec (.smbWrite d true) s = .next t ∧
          t.host = { s.host with smbAddr := s.host.smbAddr + 4 } ∧
          (∀ i < 4, t.memByte (0x3400000 + s.host.smbAddr + i) = BitVec.ofNat 8 (d.toNat / 256 ^ i)) ∧
          (∀ a, a < 0x3400000 + s.host.smbAddr ∨ 0x3400000 + s.host.smbAddr + 4 ≤ a → t.memByte a = s.memByte a)) ∧
      (∀ d, 0x1000000 ≤ s.host.smbAddr →
        Sys2Proof.Machine.exec (.smbWrite d true) s =
          .next { s.newCycle with host := { s.host with smbAddr := (s.host.smbAddr + 4) % 2 ^ 32 } }))) ∧
  (∀ v s, ∃ t, Sys2Proof.Machine.exec (.smbTemp v) s = .next t ∧ t.out.bytes = leBytes 2 (unsignedOf 16 v) ∧ Keep s.newCycle t [.out] ∧ KeepRegs s.newCycle t [] []) ∧
  (∀ s, ∃ t, Sys2Proof.Machine.exec (.smbStatus) s = .next t ∧
    t.out.bytes = leBytes 2 (s.bootState + 8 * b2n s.newCycle.faultN + 16 * b2n s.boot.oscBad +
      32 * b2n (s.on MBX_LINK_up) + 64 * s.get CP_LC_state) ∧ Keep s.newCycle t [.out] ∧ KeepRegs s.newCycle t [] []) ∧
  (∀ v s,
    (∃ t, Sys2Proof.Machine.exec (.smbAlertMask none true) s = .next t ∧ t.out.bytes = leBytes 1 s.host.smbMask ∧ t.host = s.host ∧ Keep s.newCycle t [.irq, .perf, .host, .out] ∧ KeepRegs s.newCycle t [] [MBX_HOSTERR_smb_timeout]) ∧
    Sys2Proof.Machine.exec (.smbAlertMask (some v) true) s =
      .next { s.newCycle with host := { s.host with smbMask := v % 8 } } ∧
    (∃ t, Sys2Proof.Machine.exec (.smbAlertMask (some v) false) s = .next t ∧ BadPec s t)) ∧
  (∀ s, ∃ t, Sys2Proof.Machine.exec (.smbAlertResponse) s = .next t ∧
    t.out.bytes = (if (bit s.host.smbMask 0 && s.newCycle.faultN) ||
      (bit s.host.smbMask 1 && (s.on MBX_CTL_go 9 || s.on MBX_CTL_go 11)) ||
      (bit s.host.smbMask 2 && (s.on MBX_CTL_go 1 || s.on MBX_CTL_go 3 || s.on MBX_CTL_go 5 || s.on MBX_CTL_go 7)) then [0x5A]
      else []) ∧ Keep s.newCycle t [.out] ∧ KeepRegs s.newCycle t [] []) ∧
  (∀ s, ∃ t, Sys2Proof.Machine.exec (.smbClockTimeout) s = .next t ∧
    t.get MBX_HOSTERR_smb_timeout = min (s.get MBX_HOSTERR_smb_timeout + 1) (top MBX_HOSTERR_smb_timeout) ∧
    bit (t.stk 0) 8 = true ∧ Keep s.newCycle t [.irq, .perf, .out] ∧ KeepRegs s.newCycle t [] [MBX_HOSTERR_smb_timeout])

/-- What the end of a freeze leaves (R391): no freeze, and the records held, in MB3 in their order where it has room. -/
def Sys2Proof.Safety.Drained (s t : State) : Prop :=
  t.on EVR_ST_frozen = false ∧ t.rcd.hold = [] ∧ t.rcd.limitS = 0 ∧
  (s.on EVR_ST_degraded = false → s.rcd.mb3.length + s.rcd.hold.length ≤ 7710 → t.rcd.mb3 = s.rcd.mb3 ++ s.rcd.hold)

/-- Records from acceptance to the ring and the flash, freezes, clears and flushes. RECORD_ACCEPT takes the earliest
waiting record, numbers and stamps it, and stores it in MB3; in a freeze it goes to the holding queue, in degraded
operation to the staging buffer, and a full MB3 gives up its oldest record of no higher severity, or drops the new
one, each counted. A read-back mismatch is a recorder fault. RECORD_ARCHIVE moves the oldest unarchived record to the
write position of the ring, after a PAD where it would cross the end. A flash copy is programmed at the write
position, in the next sector where this one is full or errs, whose successor is erased. FREEZE, THAW and the limit
freeze and drain in order; CLEAR_EVT, with its token and nonce, takes the records that wait and leaves
one EVT_CLEAR record under the cursor; the flash copies that HARVEST_EVT had not delivered count as lost. A flush
discards what its queue held at the request. -/
def Obligations.RecordsAndFreeze : Prop :=
  (∀ bad o s, firstOffer s.rcd.offers = some o →
    (o ∈ s.rcd.offers ∧ ∀ x ∈ s.rcd.offers, o.stamp < x.stamp ∨ (o.stamp = x.stamp ∧ o.typ / 256 ≤ x.typ / 256)) ∧
    (∃ t, Sys2Proof.Machine.exec (.recordAccept bad) s = .next t ∧
      t.rcd.nextSeq = s.rcd.nextSeq + 1 ∧ (∃ l, t.rcd.offers = dropOffer o s.rcd.offers ++ l) ∧
      t.rcd.flashBuf = (if o.sev ≤ 1 ∧ s.rcd.flashBuf.length < 64 then s.rcd.flashBuf ++ [s.stamped o] else s.rcd.flashBuf) ∧
      (s.on EVR_ST_frozen = true → s.rcd.hold.length < 64 →
        t.rcd.hold = s.rcd.hold ++ [s.stamped o] ∧ t.rcd.mb3 = s.rcd.mb3) ∧
      (s.on EVR_ST_frozen = true → 64 ≤ s.rcd.hold.length →
        t.rcd.hold = s.rcd.hold ∧ t.rcd.ovf = s.rcd.ovf + 1 ∧ t.rcd.mb3 = s.rcd.mb3 ∧
        t.get EVR_HOLD_ovf = min (s.get EVR_HOLD_ovf + 1) (top EVR_HOLD_ovf)) ∧
      (s.on EVR_ST_frozen = false → s.on EVR_ST_degraded = true → s.rcd.staging.length < 16 →
        t.rcd.staging = s.rcd.staging ++ [{ s.stamped o with degraded := true }] ∧ t.rcd.mb3 = s.rcd.mb3) ∧
      (s.on EVR_ST_frozen = false → s.on EVR_ST_degraded = false →
        (s.rcd.mb3.length < 7710 → t.rcd.mb3 = s.rcd.mb3 ++ [s.stamped o]) ∧
        (7710 ≤ s.rcd.mb3.length → o.sev < 8 →
          (dropLowest o.sev s.rcd.mb3 = none → t.rcd.mb3 = s.rcd.mb3 ∧
            t.get EVR_LOSS_drop o.sev = min (s.get EVR_LOSS_drop o.sev + 1) (top EVR_LOSS_drop)) ∧
          (∀ x l, dropLowest o.sev s.rcd.mb3 = some (x, l) → x.sev < 8 → t.rcd.mb3 = l ++ [s.stamped o] ∧
            t.get EVR_LOSS_ovwr x.sev = min (s.get EVR_LOSS_ovwr x.sev + 1) (top EVR_LOSS_ovwr))) ∧
        t.on EVR_ST_degraded = bad ∧ (bad = true → t.get EVR_FAULT_0_word = 0x52454346 ∧ t.get EVR_FAULT_1_word = 0x52454346)) ∧
      Keep s.newCycle t [.rcd, .irq, .perf, .out] ∧ KeepRegs s.newCycle t [] [EVR_ST_mb3_fill, EVR_HOLD_fill, EVR_FLASH_pending, EVR_FAULT_0_word, EVR_FAULT_1_word, EVR_LOSS_drop, EVR_CUR_ST_state, HQ_LOST_lost])) ∧
  (∀ bad s, s.rcd.offers = [] → Sys2Proof.Machine.exec (.recordAccept bad) s = .next s.newCycle) ∧
  (∀ r l s, s.ringOk = true → s.on EVR_ST_frozen = false → s.rcd.epochOk = true → s.rcd.ringW < 2 ^ 28 → r.len < 2 ^ 28 →
    s.rcd.mb3 = r :: l ∨ (s.rcd.mb3 = [] ∧ s.rcd.staging = r :: l) → ∃ t, Sys2Proof.Machine.exec (.recordArchive) s = .next t ∧
      (s.rcd.mb3 = r :: l → t.rcd.mb3 = l ∧ t.rcd.staging = s.rcd.staging) ∧
      (s.rcd.mb3 = [] → t.rcd.mb3 = [] ∧ t.rcd.staging = l) ∧
      (s.rcd.ringW + r.len ≤ 2 ^ 28 → t.rcd.ring.getLast? = some ⟨s.rcd.ringW, r.len, false, r⟩ ∧
        t.rcd.ringW = (s.rcd.ringW + r.len) % 2 ^ 28 ∧
        (∀ e ∈ s.rcd.ring, e.off + e.len ≤ s.rcd.ringW ∨ s.rcd.ringW + r.len ≤ e.off → e ∈ t.rcd.ring)) ∧
      (2 ^ 28 < s.rcd.ringW + r.len → t.rcd.ring.getLast? = some ⟨0, r.len, false, r⟩ ∧ t.rcd.ringW = r.len) ∧
      t.rcd.offers = s.rcd.offers ∧ Keep s.newCycle t [.rcd, .irq, .perf, .out] ∧ KeepRegs s.newCycle t [] [EVR_CUR_ST_state]) ∧
  (∀ s, s.ringOk = false ∨ s.on EVR_ST_frozen = true ∨ s.rcd.epochOk = false ∨ (s.rcd.mb3 = [] ∧ s.rcd.staging = []) →
    Sys2Proof.Machine.exec .recordArchive s = .next s.newCycle) ∧
  (∀ r l nx s, s.rcd.flashBuf = r :: l → s.rcd.epochOk = true → s.flashFree = true → nx = s.nextSector s.rcd.wrSec →
    ((s.rcd.copies.filter fun p => p.1 == s.rcd.wrSec).length < 240 →
      (∃ t, Sys2Proof.Machine.exec (.flashCopyProgram false) s = .next t ∧
        t.rcd.copies = s.rcd.copies ++ [(s.rcd.wrSec, r)] ∧ t.rcd.flashBuf = l ∧ t.rcd.wrSec = s.rcd.wrSec ∧
        t.on EVR_ST_flash_erasing = false ∧ Keep s.newCycle t [.rcd, .irq, .perf, .out] ∧ KeepRegs s.newCycle t [] [EVR_ST_mb3_fill, EVR_LOSS_drop]) ∧
      (∃ t, Sys2Proof.Machine.exec (.flashCopyProgram true) s = .next t ∧
        t.rcd.copies = (s.rcd.copies.filter fun p => p.1 != s.nextSector nx) ++ [(nx, r)] ∧ t.rcd.flashBuf = l ∧
        t.rcd.wrSec = nx ∧ Recorded s t kFLASH_COPY_FAIL (leBytes 1 s.rcd.wrSec))) ∧
    (240 ≤ (s.rcd.copies.filter fun p => p.1 == s.rcd.wrSec).length → ∃ t, Sys2Proof.Machine.exec (.flashCopyProgram false) s = .next t ∧
      t.rcd.copies = (s.rcd.copies.filter fun p => p.1 != s.nextSector nx) ++ [(nx, r)] ∧ t.rcd.flashBuf = l ∧
      t.rcd.wrSec = nx)) ∧
  (∀ bad s,
    (s.rcd.flashBuf = [] → ∃ t, Sys2Proof.Machine.exec (.flashCopyProgram bad) s = .next t ∧ t.on EVR_ST_flash_erasing = false ∧ t.rcd = s.rcd) ∧
    (s.rcd.flashBuf ≠ [] → s.flashFree = false → Sys2Proof.Machine.exec (.flashCopyProgram bad) s = .next s.newCycle)) ∧
  (∀ n m s, Served s n 0x0303 m →
    (msgWord m 1 ≤ 60 → ∃ t, Sys2Proof.Machine.exec (.freeze n) s = .next t ∧
      t.on EVR_ST_frozen = true ∧ t.rcd.limitS = (if msgWord m 1 = 0 then 10 else msgWord m 1) ∧ t.rcd.mb3 = s.rcd.mb3 ∧
      t.rcd.hold = s.rcd.hold ∧ (s.on EVR_ST_frozen = false → t.rcd.ovf = 0) ∧
      (s.rcd.nextSeq ≠ 0 → ∃ u : State, t = u.reply n (msgWord m 0)
        { words := [(1, (s.rcd.nextSeq - 1) % 2 ^ 32), (2, (s.rcd.nextSeq - 1) / 2 ^ 32)] }) ∧ Keep s.newCycle t [.rcd, .free, .host, .out] ∧
      KeepRegs s.newCycle t [] (replyRegs ++ [EVR_ST_mb3_fill])) ∧
    (60 < msgWord m 1 → ∃ u t : State, Sys2Proof.Machine.exec (.freeze n) s = .next t ∧ t = u.reply n (msgWord m 0) ({ status := 2 } : Reply) ∧ u = s.newCycle)) ∧
  (∀ n m s, Served s n 0x0304 m →
    (s.on EVR_ST_frozen = true → ∃ u t : State, Sys2Proof.Machine.exec (.thaw n) s = .next t ∧ t = u.reply n (msgWord m 0) ({ words := [(1, s.rcd.ovf)] } : Reply) ∧ Drained s t ∧ Keep s.newCycle t [.rcd, .irq, .perf, .host, .out] ∧
      KeepRegs s.newCycle t [] (replyRegs ++ [EVR_ST_mb3_fill, EVR_LOSS_drop, EVR_CUR_ST_state, HQ_LOST_lost])) ∧
    (s.on EVR_ST_frozen = false → ∃ u t : State, Sys2Proof.Machine.exec (.thaw n) s = .next t ∧ t = u.reply n (msgWord m 0) ({ words := [(1, 0)] } : Reply) ∧ u = s.newCycle)) ∧
  (∀ s,
    (s.on EVR_ST_frozen = true → ∃ t, Sys2Proof.Machine.exec (.freezeExpiry) s = .next t ∧ Drained s t ∧ Keep s.newCycle t [.rcd, .irq, .perf, .out] ∧ KeepRegs s.newCycle t [] [EVR_ST_mb3_fill, EVR_LOSS_drop, EVR_CUR_ST_state, HQ_LOST_lost]) ∧
    (s.on EVR_ST_frozen = true → s.rcd.hold = [] → ∃ t, Sys2Proof.Machine.exec (.freezeExpiry) s = .next t ∧ Recorded s t kFREEZE_EXPIRED []) ∧
    (s.on EVR_ST_frozen = false → Sys2Proof.Machine.exec .freezeExpiry s = .next s.newCycle)) ∧
  (∀ n x m nc a s, Served s n 0x0305 m →
    (s.on EVR_ST_frozen = false → s.on EVR_ST_degraded = false → s.nonceOf n = some nc → TokenGiven s m x 0x0305 0 nc →
      a = ({ s.newCycle with host := { s.host with nonces := s.host.nonces.filter fun p => p.1 != n } } : State).acceptAll →
      0 < a.rcd.nextSeq → a.rcd.nextSeq < 2 ^ 64 →
      ∃ u t : State, Sys2Proof.Machine.exec (.clearEvt n x) s = .next t ∧ t = u.reply n (msgWord m 0) ({ words := [(1, a.rcd.nextSeq % 2 ^ 32), (2, a.rcd.nextSeq / 2 ^ 32)] } : Reply) ∧
        (∃ r, t.rcd.mb3 = [r] ∧ r.typ = kEVT_CLEAR.typ ∧ r.sec = true ∧ r.seq = a.rcd.nextSeq ∧
          r.payload = leBytes 8 (a.rcd.nextSeq - 1) ++ leBytes 3 a.heldRecs.length ++
            leBytes 1 (tokenSlot ((s.bulkBytes m x).take tokenBytes))) ∧
        t.rcd.ring = [] ∧ t.rcd.staging = [] ∧ t.rcd.copies = [] ∧ t.rcd.nextSeq = a.rcd.nextSeq + 1 ∧
        t.cur = a.rcd.nextSeq ∧ t.mark = a.rcd.nextSeq ∧ t.get EVR_CUR_ST_state = 0 ∧
        t.rcd.flLost = a.rcd.flLost + (a.rcd.copies.length - a.rcd.flCur) ∧
        (∀ q < 4, t.on HQ_CTL_flush q = true) ∧ Keep s.newCycle t [.rcd, .irq, .perf, .free, .host, .out] ∧
      KeepRegs s.newCycle t [] (replyRegs ++ [EVR_ST_mb3_fill, EVR_HOLD_fill, EVR_FLASH_pending, EVR_LOSS_drop, EVR_CUR_ST_state, EVR_CUR_LO_seq_lo, EVR_CUR_HI_seq_hi, EVR_MARK_LO_seq_lo, EVR_MARK_HI_seq_hi, HQ_CTL_flush, HQ_LOST_lost])) ∧
    (s.on EVR_ST_frozen = true → ∃ u t : State, Sys2Proof.Machine.exec (.clearEvt n x) s = .next t ∧ t = u.reply n (msgWord m 0) ({ status := 5 } : Reply) ∧ u.regs = s.regs ∧ u.rcd = s.rcd)) ∧
  (∀ q s,
    (q < 5 → ∃ t, Sys2Proof.Machine.exec (.hqFlushRequest q) s = .next t ∧
      t.on HQ_CTL_flush q = true ∧
      t.hqSt q = { s.hqSt q with mark := if q = 4 then (s.hqSt q).pm.length else (s.hqSt q).recs.length } ∧ Keep s.newCycle t [.rcd] ∧ KeepRegs s.newCycle t [] [HQ_CTL_flush]) ∧
    (5 ≤ q → Sys2Proof.Machine.exec (.hqFlushRequest q) s = .next s.newCycle) ∧
    (s.on HQ_CTL_flush q = true → ∃ t, Sys2Proof.Machine.exec (.hqFlush q) s = .next t ∧
      t.on HQ_CTL_flush q = false ∧
      t.hqSt q = { s.hqSt q with
        recs := (s.hqSt q).recs.drop (s.hqSt q).mark, pm := (s.hqSt q).pm.drop (s.hqSt q).mark, mark := 0 } ∧
      (∀ p, p ≠ q → t.hqSt p = s.hqSt p) ∧ Keep s.newCycle t [.rcd] ∧ KeepRegs s.newCycle t [] [HQ_CTL_flush]) ∧
    (s.on HQ_CTL_flush q = false → Sys2Proof.Machine.exec (.hqFlush q) s = .next s.newCycle))

/-- A record to which next can move: it passes the filter and is later than the cursor, or at it where it is AT_END (R393). -/
def Sys2Proof.Safety.Ahead (s : State) (r : Rec) : Prop :=
  s.passes r = true ∧ (s.cur < r.seq ∨ (r.seq = s.cur ∧ s.get EVR_CUR_ST_state = 1))

/-- The cursor walks the held records, snapshots take the counts, and sticky bits are cleared. next goes to the lowest-
numbered later record that passes the filter, prev to the highest-numbered earlier one or stays, oldest and newest to
the ends, and a seek to its number or the next held one; where there is none, the cursor is AT_END one above the
newest held record. mark takes the cursor, rewind seeks to the mark. A read of EVR_CUR_ST shows it, and where it shows
LOST the cursor and the mark move to the oldest record, with the distance in EVR_CUR_LOST. A snapshot takes all counts
before a clear zeroes them. A W1C write clears the named sticky bits but those whose level source still holds and,
from the non-secure world, secure ones; what stays pending sends its message again. The end of a spacing sends the
merged message. A temperature above its limits sets its level sources and reports once. -/
def Obligations.CursorsCountersInterrupts : Prop :=
  (∀ s,
    (∀ r ∈ s.heldRecs, Ahead s r →
      (∀ x ∈ s.heldRecs, Ahead s x → r.seq ≤ x.seq) → r.seq < 2 ^ 64 →
      ∃ t, Sys2Proof.Machine.exec (.cursorNext) s = .next t ∧ t.cur = r.seq ∧ t.get EVR_CUR_ST_state = 0 ∧ t.mark = s.mark ∧ Keep s.newCycle t [.free] ∧ KeepRegs s.newCycle t [] [EVR_CUR_ST_state, EVR_CUR_LO_seq_lo, EVR_CUR_HI_seq_hi]) ∧
    (∀ r ∈ s.heldRecs, (∀ x ∈ s.heldRecs, ¬ Ahead s x ∧ x.seq ≤ r.seq) → r.seq + 1 < 2 ^ 64 →
      ∃ t, Sys2Proof.Machine.exec (.cursorNext) s = .next t ∧ t.cur = r.seq + 1 ∧ t.get EVR_CUR_ST_state = 1 ∧ t.mark = s.mark) ∧
    (∀ r ∈ s.heldRecs, s.passes r = true → r.seq < s.cur →
      (∀ x ∈ s.heldRecs, s.passes x = true → x.seq < s.cur → x.seq ≤ r.seq) →
      ∃ t, Sys2Proof.Machine.exec (.cursorPrev) s = .next t ∧ t.cur = r.seq ∧ t.get EVR_CUR_ST_state = 0 ∧ t.mark = s.mark ∧ Keep s.newCycle t [] ∧ KeepRegs s.newCycle t [] [EVR_CUR_ST_state, EVR_CUR_LO_seq_lo, EVR_CUR_HI_seq_hi]) ∧
    ((∀ x ∈ s.heldRecs, s.passes x = true → s.cur ≤ x.seq) →
      Sys2Proof.Machine.exec .cursorPrev s = .next s.newCycle) ∧
    (∃ t, Sys2Proof.Machine.exec (.cursorMark) s = .next t ∧ t.mark = s.cur ∧ t.cur = s.cur ∧ t.get EVR_CUR_ST_state = s.get EVR_CUR_ST_state ∧ Keep s.newCycle t [] ∧ KeepRegs s.newCycle t [] [EVR_MARK_LO_seq_lo, EVR_MARK_HI_seq_hi]) ∧
    (∀ r ∈ s.heldRecs, (∀ x ∈ s.heldRecs, r.seq ≤ x.seq) → r.seq < 2 ^ 64 →
      ∃ t, Sys2Proof.Machine.exec (.cursorOldest) s = .next t ∧ t.cur = r.seq ∧ t.get EVR_CUR_ST_state = 0 ∧ t.mark = s.mark ∧ Keep s.newCycle t [.free] ∧ KeepRegs s.newCycle t [] [EVR_CUR_ST_state, EVR_CUR_LO_seq_lo, EVR_CUR_HI_seq_hi]) ∧
    (∀ r ∈ s.heldRecs, (∀ x ∈ s.heldRecs, x.seq ≤ r.seq) → r.seq < 2 ^ 64 →
      ∃ t, Sys2Proof.Machine.exec (.cursorNewest) s = .next t ∧ t.cur = r.seq ∧ t.get EVR_CUR_ST_state = 0 ∧ t.mark = s.mark ∧ Keep s.newCycle t [.free] ∧ KeepRegs s.newCycle t [] [EVR_CUR_ST_state, EVR_CUR_LO_seq_lo, EVR_CUR_HI_seq_hi]) ∧
    (∀ n r, r ∈ s.heldRecs → n ≤ r.seq → (∀ x ∈ s.heldRecs, n ≤ x.seq → r.seq ≤ x.seq) → r.seq < 2 ^ 64 →
      (∃ t, Sys2Proof.Machine.exec (.cursorSeek n) s = .next t ∧ t.cur = r.seq ∧ t.get EVR_CUR_ST_state = 0 ∧ t.mark = s.mark ∧ Keep s.newCycle t [.free] ∧ KeepRegs s.newCycle t [] [EVR_CUR_ST_state, EVR_CUR_LO_seq_lo, EVR_CUR_HI_seq_hi]) ∧
      (n = s.mark → ∃ t, Sys2Proof.Machine.exec (.cursorRewind) s = .next t ∧
        t.cur = r.seq ∧ t.get EVR_CUR_ST_state = 0 ∧ t.mark = s.mark ∧ Keep s.newCycle t [.free] ∧ KeepRegs s.newCycle t [] [EVR_CUR_ST_state, EVR_CUR_LO_seq_lo, EVR_CUR_HI_seq_hi, EVR_MARK_LO_seq_lo, EVR_MARK_HI_seq_hi])) ∧
    (∀ n, n < 2 ^ 64 → s.heldRecs ≠ [] → (∀ x ∈ s.heldRecs, x.seq < n) →
      ∃ t, Sys2Proof.Machine.exec (.cursorSeek n) s = .next t ∧ t.get EVR_CUR_ST_state = 1 ∧ t.cur ≤ n ∧ t.mark = s.mark)) ∧
  (∀ s,
    (s.get EVR_CUR_ST_state ≠ 2 → ∃ t, Sys2Proof.Machine.exec (.cursorStateRead) s = .next t ∧
      t.out.rdata = [s.reg 0x030084] ∧ t.cur = s.cur ∧ t.mark = s.mark ∧ t.regs = s.regs ∧ Keep s.newCycle t [.free, .out] ∧ KeepRegs s.newCycle t [] [EVR_CUR_ST_state, EVR_CUR_LO_seq_lo, EVR_CUR_HI_seq_hi, EVR_MARK_LO_seq_lo, EVR_MARK_HI_seq_hi, EVR_CUR_LOST_lost]) ∧
    (∀ r ∈ s.heldRecs, s.get EVR_CUR_ST_state = 2 → (∀ x ∈ s.heldRecs, r.seq ≤ x.seq) → r.seq < 2 ^ 64 →
      ∃ t, Sys2Proof.Machine.exec (.cursorStateRead) s = .next t ∧
        t.out.rdata = [s.reg 0x030084] ∧ t.cur = r.seq ∧ t.mark = r.seq ∧ t.get EVR_CUR_ST_state = 0 ∧
        t.get EVR_CUR_LOST_lost = min (r.seq - min s.cur s.mark) (2 ^ 32 - 1) ∧ Keep s.newCycle t [.free, .out] ∧ KeepRegs s.newCycle t [] [EVR_CUR_ST_state, EVR_CUR_LO_seq_lo, EVR_CUR_HI_seq_hi, EVR_MARK_LO_seq_lo, EVR_MARK_HI_seq_hi, EVR_CUR_LOST_lost])) ∧
  (∀ c s,
    (∃ t, Sys2Proof.Machine.exec (.pcSnap c) s = .next t ∧
      t.perf = { snap := s.newCycle.perf.val, val := if c then [] else s.newCycle.perf.val } ∧ Keep s.newCycle t [.perf] ∧ KeepRegs s.newCycle t [] []) ∧
    (∃ t, Sys2Proof.Machine.exec (.pcClear) s = .next t ∧
      t.perf = { s.newCycle.perf with val := [] } ∧ Keep s.newCycle t [.perf] ∧ KeepRegs s.newCycle t [] [])) ∧
  (∀ g mask sec s, g < 16 → ∃ t, Sys2Proof.Machine.exec (.irqStkClear g mask sec) s = .next t ∧
    (∀ b < 32, bit (t.stk g) b = (bit (s.newCycle.stk g) b &&
      (!(bit mask b && (sec || !bit (secureMask g) b)) || bit (s.rawLevel g) b))) ∧
    (∀ h, h ≠ g → t.stk h = s.newCycle.stk h) ∧
    (∀ b < 32, bit mask b = true → (sec = true ∨ bit (secureMask g) b = false) → bit (s.rawLevel g) b = true →
      bit (s.irqEn g) b = true → s.newCycle.msixReady = true →
      (s.msixMasked (s.vectorOf (32 * g + b)) = true → s.vectorOf (32 * g + b) ∈ t.irq.pba) ∧
      (s.msixMasked (s.vectorOf (32 * g + b)) = false →
        s.vectorOf (32 * g + b) ∈ t.out.msix ∨ s.vectorOf (32 * g + b) ∈ t.irq.due)) ∧ Keep s.newCycle t [.irq, .out] ∧ KeepRegs s.newCycle t [] []) ∧
  (∀ g mask sec s, 16 ≤ g → Sys2Proof.Machine.exec (.irqStkClear g mask sec) s = .next s.newCycle) ∧
  (∀ v s, ∃ t, Sys2Proof.Machine.exec (.msixSpacingExpiry v) s = .next t ∧
    v ∉ t.irq.due ∧ (∀ x ∈ s.newCycle.irq.space, x ≠ v → x ∈ t.irq.space) ∧
    (s.newCycle.irq.due.contains v = false → v ∉ t.irq.space ∧ t.out = s.newCycle.out) ∧
    (s.newCycle.irq.due.contains v = true → s.newCycle.msixReady = true → s.msixMasked v = false →
      t.out.msix = s.newCycle.out.msix ++ [v] ∧ (s.gl RECORDS_irq_mod ≠ 0 → v ∈ t.irq.space)) ∧ Keep s.newCycle t [.irq, .out] ∧ KeepRegs s.newCycle t [] []) ∧
  (∀ v s, ∃ t, Sys2Proof.Machine.exec (.junctionTempThreshold v) s = .next t ∧
    t.pwr = { s.pwr with warm := decide (8 * (s.gl RECORDS_temp_warn : Int) < v)
                         crit := decide (8 * (s.gl RECORDS_temp_crit : Int) < v) } ∧
    (8 * (s.gl RECORDS_temp_warn : Int) < v → s.pwr.warm = false → Noted s t kTEMP_WARN (leBytes 2 (unsignedOf 16 v))) ∧
    (v ≤ 8 * (s.gl RECORDS_temp_warn : Int) ∨ s.pwr.warm = true → v ≤ 8 * (s.gl RECORDS_temp_crit : Int) ∨ s.pwr.crit = true →
      t.rcd = s.rcd) ∧ Keep s.newCycle t [.rcd, .irq, .perf, .pwr, .out] ∧ KeepRegs s.newCycle t [] [EVR_LOSS_drop])

/-- DDR5 holds nothing: its bytes, the record ring, the middles and the closed PM bins are gone (R408, R409). -/
def Sys2Proof.Safety.DdrGone (s t : State) : Prop :=
  (∀ a, t.memByte a = if a < 0x8000000000 then s.memByte a else 0) ∧ t.rcd.ring = [] ∧ t.rcd.ringW = 0 ∧
  (∀ i, ∀ h ∈ (t.evgMerge i).held, h.part ≠ 1) ∧ ∀ c, (t.pmSt c).hist = [] ∧ (t.pmSt c).held = []

/-- What a reset of every domain but PD_BAT leaves (Table 16-9, power-on). -/
def Sys2Proof.Safety.AfterPorst (s t : State) : Prop :=
  t.get CP_BOOT_ST_state = 0 ∧ t.get PWR_RST_cause = 1 ∧ t.img = [] ∧ t.mem = [] ∧ t.flash = s.flash ∧
  t.boot.fuse = s.boot.fuse ∧ t.boot.tampered = false ∧ t.get CP_LC_state = s.boot.fuse.shown ∧
  t.rcd.copies = s.rcd.copies ∧ t.rcd.mb3 = [] ∧ t.rcd.ring = [] ∧ t.rcd.epochOk = false ∧
  t.boot.batEpoch = s.boot.batEpoch ∧ (∀ k, domainOfKey [] k = 1 → t.reg k = s.reg k) ∧
  t.on CP_TAMPER_bat = s.on CP_TAMPER_bat ∧ t.irq = {} ∧ t.chg = {} ∧ t.host.taken = [] ∧
  (∀ n < 16, t.on MBX_CTL_go n = false) ∧ ∀ n < 144, t.get LN_STATE_state n = 0

/-- What a reset of every domain but PD_AON and PD_BAT leaves (Table 16-9, SYSTEM or thermal). -/
def Sys2Proof.Safety.AfterSysReset (s t : State) : Prop :=
  t.get CP_BOOT_ST_state = 0 ∧ t.get PWR_RST_sys = (s.get PWR_RST_sys + 1) % 256 ∧ t.img = [] ∧ t.mem = [] ∧
  t.flash = s.flash ∧ t.boot.fuse = s.boot.fuse ∧ t.boot.tampered = s.boot.tampered ∧ t.rcd.copies = s.rcd.copies ∧
  t.rcd.mb3 = [] ∧ t.rcd.ring = [] ∧ t.rcd.epochOk = false ∧ t.boot.batEpoch = s.boot.batEpoch ∧ t.mate.gaspOut = true ∧
  (∀ k, domainOfKey s.img k = 1 → t.reg k = s.reg k) ∧ t.get EVR_FAULT_0_word = s.get EVR_FAULT_0_word ∧
  t.get MATE_ST_role = s.get MATE_ST_role ∧ t.get MATE_ST_mode = s.get MATE_ST_mode ∧
  (∀ g, t.irqEn g = s.irqEn g) ∧ t.on BM_HOST_WORLD_pcie_sec = false ∧
  (∀ n, 8 ≤ n → n < 12 → t.on MBX_CTL_go n = false ∧ t.on MBX_ST_wiped n = true) ∧
  (∀ n < 8, t.on MBX_CTL_go n = s.on MBX_CTL_go n) ∧ (∀ d, 2 ≤ d → d < 24 → t.get PWR_DOM_state d = 0) ∧
  ∀ n < 144, t.get LN_STATE_state n = 0

/-- DDR5 training and errors, power domains, and the resets of the device. Training that ends well brings DDR5 UP empty,
with a record; a channel that fails leaves it DOWN, and a retraining starts all channels. Corrected words are counted,
an uncorrectable one with its address and a record, and the sixteenth within 1 ms on a channel puts it down; the
records of a second are written at its end. A domain that has powered up is ON and counted and starts to shut down at
once where it is no longer wanted; one that has shut down is OFF with what it held; a sequencer fault leaves it OFF
until it is wanted anew. A power-on reset keeps the flash, the fuses, the record copies and PD_BAT, a SYSTEM or
thermal reset the rest of Table 16-9 as well, and RESET_N of CONTROL scope restarts the processor alone. Refresh and
re-centring change nothing. -/
def Obligations.PowerAndMemory : Prop :=
  (∀ ms bad s, fittedChannels (s.get DC_ST_chan) ≠ [] → (∀ c ∈ fittedChannels (s.get DC_ST_chan), s.get DC_CH_ST_state c = 1) →
    ((∀ c ∈ fittedChannels (s.get DC_ST_chan), ∀ b ∈ bad, b.1 ≠ c) → ∃ t, Sys2Proof.Machine.exec (.ddrTrainingComplete ms bad) s = .next t ∧
      t.get DC_ST_state = 2 ∧ (∀ c < 8, bit (t.get DC_ST_ch_up) c = decide (c ∈ fittedChannels (s.get DC_ST_chan))) ∧
      (∀ c ∈ fittedChannels (s.get DC_ST_chan), t.get DC_CH_ST_state c = 2 ∧ t.get DC_CH_ST_train_ms c = min ms 65535) ∧
      t.pwr.retrain = false ∧ DdrGone s t ∧
      Recorded s t kDDR_TRAINED (leBytes 1 (t.get DC_ST_ch_up) ++ leBytes 1 (s.get DC_ST_rate) ++
        leBytes 1 (s.get DC_ST_cap_gib) ++ leBytes 2 (min ms 65535)) ∧ Keep s.newCycle t [.fr, .rcd, .irq, .perf, .evg, .pwr, .mem, .out] ∧ KeepRegs s.newCycle t [] (settleRegs ++ acceptRegs ++ [DC_ST_cap_gib, DC_CH_ST_train_ms])) ∧
    (∀ c ∈ fittedChannels (s.get DC_ST_chan), (∃ b ∈ bad, b.1 = c) → ∃ t, Sys2Proof.Machine.exec (.ddrTrainingComplete ms bad) s = .next t ∧
      t.get DC_ST_state = 3 ∧ t.get DC_CH_ST_state c = 3 ∧ bit (t.get DC_ST_ch_up) c = false ∧ t.pwr.retrain = false)) ∧
  (∀ s,
    (s.get DC_ST_state = 3 → s.pwr.retrain = false → ∃ t, Sys2Proof.Machine.exec (.ddrRetrain) s = .next t ∧
      (∀ c ∈ fittedChannels (s.get DC_ST_chan), t.get DC_CH_ST_state c = 1 ∧
        t.get DC_CH_ST_retrains c = min (s.get DC_CH_ST_retrains c + 1) (top DC_CH_ST_retrains)) ∧
      t.get DC_ST_ch_up = 0 ∧ t.get DC_ST_state = 3 ∧ t.pwr = { s.pwr with retrain := true } ∧ Keep s.newCycle t [.pwr] ∧ KeepRegs s.newCycle t [] [DC_ST_cap_gib, DC_CH_ST_train_ms]) ∧
    (s.get DC_ST_state ≠ 3 ∨ s.pwr.retrain = true → Sys2Proof.Machine.exec .ddrRetrain s = .next s.newCycle) ∧
    Sys2Proof.Machine.exec .ddrRefresh s = .next s.newCycle ∧ Sys2Proof.Machine.exec .ddrDqsRecentre s = .next s.newCycle) ∧
  (∀ s, s.get DC_ST_state = 2 →
    (∀ c k, c ∈ fittedChannels (s.get DC_ST_chan) → ∃ t, Sys2Proof.Machine.exec (.ddrPatrolScrub [(c, k)] []) s = .next t ∧
      t.get DC_ECC_corr c = min (s.get DC_ECC_corr c + k) (top DC_ECC_corr) ∧
      tget (fun _ => 0) t.pwr.corrSec c = tget (fun _ => 0) s.pwr.corrSec c + k ∧ t.get DC_ST_state = 2 ∧ Keep s.newCycle t [.fr, .rcd, .irq, .perf, .evg, .pwr, .bus, .mem, .out] ∧
      KeepRegs s.newCycle t [] [DC_ECC_corr]) ∧
    (∀ a c, c = s.channelOf a → a < 2 ^ 40 → ∃ t, Sys2Proof.Machine.exec (.ddrPatrolScrub [] [a]) s = .next t ∧
      t.get DC_ECC_uncorr c = min (s.get DC_ECC_uncorr c + 1) (top DC_ECC_uncorr) ∧
      t.get64 DC_UE_ADDR_LO_addr_lo DC_UE_ADDR_HI_addr_hi c = a ∧
      Noted s t kDDR_ECC_UNCORR (leBytes 1 c ++ leBytes 5 a ++ leBytes 1 (s.regionOf a) ++ leBytes 1 1) ∧
      ((s.bus.ueMs.filter fun p => decide (s.fab.gp < p.2 + 9766) && p.1 == c).length < 15 →
        t.get DC_ST_state = 2 ∧ t.mem = s.mem) ∧
      (15 ≤ (s.bus.ueMs.filter fun p => decide (s.fab.gp < p.2 + 9766) && p.1 == c).length →
        t.get DC_ST_state = 3 ∧ t.get DC_CH_ST_state c = 3 ∧ bit (t.get DC_ST_ch_up) c = false ∧ DdrGone s t))) ∧
  (∀ corr ue s, s.get DC_ST_state ≠ 2 → Sys2Proof.Machine.exec (.ddrPatrolScrub corr ue) s = .next s.newCycle) ∧
  (∀ s, ∃ t, Sys2Proof.Machine.exec (.ddrEccCorr) s = .next t ∧
    t.pwr = { s.pwr with corrSec := [] } ∧ (s.pwr.corrSec = [] → t.rcd = s.rcd) ∧
    (∀ c n l, s.pwr.corrSec = (c, n) :: l → Noted s t kDDR_ECC_CORR (leBytes 1 c ++ leBytes 4 (min n (2 ^ 32 - 1)))) ∧
    Keep s.newCycle t [.rcd, .irq, .perf, .pwr, .out] ∧ KeepRegs s.newCycle t [] [EVR_LOSS_drop]) ∧
  (∀ d us s, 7 ≤ d → d < 24 →
    (s.get PWR_DOM_state d = 1 → ∃ t, Sys2Proof.Machine.exec (.pwrDomainTransitionDone d us) s = .next t ∧
      t.get PWR_DOM_last_us d = min us 65535 ∧ t.get PWR_DOM_cycles d = (s.get PWR_DOM_cycles d + 1) % 256 ∧
      t.get PWR_DOM_state d = (if s.on PWR_DOM_want d = true ∨ s.mayDown d = false then 2 else 3) ∧
      t.on PWR_DOM_pending d = false ∧
      (∀ c ∈ fittedChannels (s.get DC_ST_chan), (c < 4 ∧ d = 20) ∨ (4 ≤ c ∧ d = 21) → t.get DC_CH_ST_state c = 1) ∧
      Noted s t kPWR_DOMAIN (leBytes 1 d ++ leBytes 1 2 ++ leBytes 1 (b2n (!s.on PWR_DOM_want d))) ∧
      Keep s.newCycle t [.latch, .stage, .ln, .fr, .qs, .mate, .rcd, .irq, .perf, .tw, .tag, .evg, .bus, .mem, .out]) ∧
    (s.get PWR_DOM_state d = 3 → ∃ t, Sys2Proof.Machine.exec (.pwrDomainTransitionDone d us) s = .next t ∧
      t.get PWR_DOM_last_us d = min us 65535 ∧ t.get PWR_DOM_cycles d = s.get PWR_DOM_cycles d ∧
      (s.on PWR_DOM_want d = false → t.get PWR_DOM_state d = 0 ∧ t.on PWR_DOM_pending d = false) ∧
      (s.on PWR_DOM_want d = true → d < 11 ∨ 19 ≤ d → s.pwr.failed.contains d = false → t.get PWR_DOM_state d = 1) ∧
      (20 ≤ d → d ≤ 22 → ∀ k, domainOfKey s.img k = d → t.reg k = resetWord k) ∧ (d = 20 ∨ d = 21 → DdrGone s t) ∧
      Noted s t kPWR_DOMAIN (leBytes 1 d ++ leBytes 1 0 ++ leBytes 1 (b2n (s.on PWR_DOM_want d)))) ∧
    (s.get PWR_DOM_state d = 1 ∨ s.get PWR_DOM_state d = 3 → ∃ t, Sys2Proof.Machine.exec (.pwrSeqFault d) s = .next t ∧
      t.get PWR_DOM_state d = 0 ∧ t.on PWR_DOM_fault d = true ∧ d ∈ t.pwr.failed ∧
      Noted s t kPWR_SEQ_FAULT (leBytes 1 d ++ leBytes 1 (b2n (s.get PWR_DOM_state d == 3))) ∧ Keep s.newCycle t [.latch, .stage, .bus, .ln, .fr, .qs, .mate, .rcd, .irq, .perf, .tw, .tag, .evg, .pwr, .mem, .out]) ∧
    (s.get PWR_DOM_state d ≠ 1 → s.get PWR_DOM_state d ≠ 3 →
      Sys2Proof.Machine.exec (.pwrDomainTransitionDone d us) s = .next s.newCycle ∧
      Sys2Proof.Machine.exec (.pwrSeqFault d) s = .next s.newCycle)) ∧
  (∀ s,
    (∃ t, Sys2Proof.Machine.exec (.powerOnReset) s = .next t ∧ AfterPorst s t ∧ t.pwr = { trip := s.pwr.trip, under := s.pwr.under, main := s.pwr.main } ∧
      t.mate.gaspOut = s.pwr.main ∧ Keep s.newCycle t [.latch, .stage, .img, .ln, .fr, .qs, .mate, .rcd, .irq, .perf, .gp, .fab, .tw, .tag, .evg, .pwr, .boot, .chg, .bus, .host, .tim, .mem, .up]) ∧
    (∃ t, Sys2Proof.Machine.exec (.undervoltage) s = .next t ∧ AfterPorst s t ∧ t.pwr = { trip := s.pwr.trip, under := true, main := s.pwr.main } ∧
      t.mate.gaspOut = false ∧ Keep s.newCycle t [.latch, .stage, .img, .ln, .fr, .qs, .mate, .rcd, .irq, .perf, .gp, .fab, .tw, .tag, .evg, .pwr, .boot, .chg, .bus, .host, .tim, .mem, .up]) ∧
    (∃ t, Sys2Proof.Machine.exec (.supplySwitchVbat) s = .next t ∧ AfterPorst s t ∧ t.pwr = { trip := s.pwr.trip, under := s.pwr.under, main := false } ∧
      t.mate.gaspOut = false ∧ Keep s.newCycle t [.latch, .stage, .img, .ln, .fr, .qs, .mate, .rcd, .irq, .perf, .gp, .fab, .tw, .tag, .evg, .pwr, .boot, .chg, .bus, .host, .tim, .mem, .up]) ∧
    Sys2Proof.Machine.exec .mainSupplyRestore s =
      .next { s.newCycle with pwr := { s.pwr with main := true, under := false } } ∧
    Sys2Proof.Machine.exec .thermalTripEnd s = .next { s.newCycle with pwr := { s.pwr with trip := false } } ∧
    (∃ t, Sys2Proof.Machine.exec (.trstAssert) s = .next t ∧
      t.lockOf 8 = none ∧ (∀ m, m ≠ 8 → t.lockOf m = s.lockOf m) ∧
      (∀ i < 64, s.get BM_SEM_holder i = 8 → t.on BM_SEM_lock i = false) ∧
      (∀ i < 64, s.get BM_SEM_holder i ≠ 8 → t.reg (0x11001000 + 4 * i) = s.reg (0x11001000 + 4 * i)) ∧ Keep s.newCycle t [.bus] ∧ KeepRegs s.newCycle t [] [BM_SEM_lock]) ∧
    (s.pwr.main = true → s.gl DEVICE_rst_scope = 1 → ∃ t, Sys2Proof.Machine.exec (.resetNAssert) s = .next t ∧
      t.get CP_RUN_cause = 3 ∧ t.get PWR_RST_cause = 4 ∧ Restarted s t ∧ t.img = s.img ∧ t.fab = s.fab) ∧
    (s.pwr.main = true → s.gl DEVICE_rst_scope ≠ 1 → ∃ t, Sys2Proof.Machine.exec (.resetNAssert) s = .next t ∧
      AfterSysReset s t ∧ t.get PWR_RST_cause = 2 ∧ t.pwr = { trip := s.pwr.trip, under := s.pwr.under, main := true } ∧
      Keep s.newCycle t [.latch, .stage, .img, .ln, .fr, .qs, .mate, .rcd, .irq, .perf, .gp, .fab, .tw, .tag, .evg, .pwr, .boot, .chg, .bus, .host, .tim, .mem, .out, .up]) ∧
    (s.pwr.main = true → s.pwr.trip = false → ∃ t, Sys2Proof.Machine.exec (.thermalTrip) s = .next t ∧
      AfterSysReset s t ∧ t.get PWR_RST_cause = 3 ∧ t.pwr = { trip := true, under := s.pwr.under, main := true } ∧
      Keep s.newCycle t [.latch, .stage, .img, .ln, .fr, .qs, .mate, .rcd, .irq, .perf, .gp, .fab, .tw, .tag, .evg, .pwr, .boot, .chg, .bus, .host, .tim, .mem, .out, .up]) ∧
    (s.pwr.main = false → Sys2Proof.Machine.exec .resetNAssert s = .next s.newCycle) ∧
    (s.pwr.main = false ∨ s.pwr.trip = true → Sys2Proof.Machine.exec .thermalTrip s = .next s.newCycle))
end

