-- ==== Sys2Proof/Laws/Tables.lean ====
section
/-!
SUPPORT. Sys2Proof/Laws/Tables.lean: the laws of the sparse tables and of bit fields: a read after a write, and that every
table operation keeps the canonical form.
-/
namespace Sys2Proof.Machine

variable {α : Type}

/-! ### A read after a write -/

theorem tget_tput (d : Nat → α) (t : List (Nat × α)) (k j : Nat) (v : α) :
    tget d (tput t k v) j = if j = k then v else tget d t j := by
  induction t with
  | nil => simp [tput, tget]
  | cons p t ih =>
    obtain ⟨q, w⟩ := p
    simp only [tput]
    split
    · next h => subst h; simp only [tget]; split <;> rfl
    · split
      · simp only [tget]
      · simp only [tget, ih]
        by_cases h1 : j = q
        · subst h1; simp_all [eq_comm]
        · simp [h1]

theorem tget_tdel (d : Nat → α) (t : List (Nat × α)) (k j : Nat) :
    tget d (tdel t k) j = if j = k then d j else tget d t j := by
  induction t with
  | nil => simp [tdel, tget]
  | cons p t ih =>
    obtain ⟨q, w⟩ := p
    simp only [tdel, List.filter_cons] at ih ⊢
    by_cases h : q = k
    · subst h
      simp only [bne_self_eq_false, Bool.false_eq_true, if_false, ih, tget]
      split <;> simp_all
    · simp only [bne_iff_ne, ne_eq, h, not_false_eq_true, if_true, tget, ih]
      by_cases h1 : j = q
      · subst h1; simp [h]
      · simp [h1]

theorem tget_tset [DecidableEq α] (d : Nat → α) (t : List (Nat × α)) (k j : Nat) (v : α) :
    tget d (tset d t k v) j = if j = k then v else tget d t j := by
  unfold tset
  split
  · next h => rw [tget_tdel]; split
              · next e => rw [h, e]
              · rfl
  · exact tget_tput d t k j v

@[simp] theorem tget_tset_same [DecidableEq α] (d : Nat → α) (t : List (Nat × α)) (k : Nat) (v : α) :
    tget d (tset d t k v) k = v := by simp [tget_tset]

theorem tget_filter (d : Nat → α) (f : Nat → Bool) (t : List (Nat × α)) (j : Nat) :
    tget d (t.filter fun p => f p.1) j = if f j then tget d t j else d j := by
  induction t with
  | nil => simp [tget]
  | cons p t ih =>
    obtain ⟨q, w⟩ := p
    simp only [List.filter_cons]
    by_cases h : f q
    · simp only [h, if_true, tget, ih]
      by_cases h1 : j = q
      · subst h1; simp [h]
      · simp [h1]
    · simp only [h, Bool.false_eq_true, if_false, ih, tget]
      by_cases h1 : j = q
      · subst h1; simp [h]
      · simp [h1]

/-! ### The canonical form -/

theorem keysAbove_mono {a b : Nat} (h : a ≤ b) : ∀ t : List (Nat × α), keysAbove b t = true → keysAbove a t = true
  | [], _ => rfl
  | (q, w) :: t, hk => by
    simp only [keysAbove, Bool.and_eq_true, decide_eq_true_eq] at hk ⊢
    exact ⟨h.trans hk.1, hk.2⟩

theorem keysAbove_filter (f : Nat × α → Bool) : ∀ (t : List (Nat × α)) (a : Nat),
    keysAbove a t = true → keysAbove a (t.filter f) = true
  | [], _, _ => rfl
  | (q, w) :: t, a, h => by
    simp only [keysAbove, Bool.and_eq_true, decide_eq_true_eq] at h
    have ih := keysAbove_filter f t (q + 1) h.2
    simp only [List.filter_cons]
    split
    · simp [keysAbove, h.1, ih]
    · exact keysAbove_mono (by omega) _ ih

theorem keysAbove_tput : ∀ (t : List (Nat × α)) (a k : Nat) (v : α),
    a ≤ k → keysAbove a t = true → keysAbove a (tput t k v) = true
  | [], a, k, v, h, _ => by simp [tput, keysAbove, h]
  | (q, w) :: t, a, k, v, h, hk => by
    simp only [keysAbove, Bool.and_eq_true, decide_eq_true_eq] at hk
    simp only [tput]
    split
    · next e => subst e; simp [keysAbove, h, hk.2]
    · split
      · next h1 => simp [keysAbove, h, hk.2]; omega
      · next h1 h2 =>
        have := keysAbove_tput t (q + 1) k v (by omega) hk.2
        simp [keysAbove, hk.1, this]

theorem mem_tput : ∀ (t : List (Nat × α)) (k : Nat) (v : α) (p : Nat × α), p ∈ tput t k v → p = (k, v) ∨ p ∈ t
  | [], k, v, p, h => by simp_all [tput]
  | (q, w) :: t, k, v, p, h => by
    simp only [tput] at h
    split at h
    · simp only [List.mem_cons] at h ⊢; tauto
    · split at h
      · simp only [List.mem_cons] at h ⊢; tauto
      · simp only [List.mem_cons] at h ⊢
        rcases h with h | h
        · tauto
        · rcases mem_tput t k v p h with h | h <;> tauto

variable [DecidableEq α]

theorem twf_nil (d : Nat → α) : twf d ([] : List (Nat × α)) = true := rfl

theorem twf_filter (d : Nat → α) (f : Nat × α → Bool) (t : List (Nat × α)) (h : twf d t = true) :
    twf d (t.filter f) = true := by
  simp only [twf, Bool.and_eq_true, List.all_eq_true] at h ⊢
  exact ⟨keysAbove_filter f t 0 h.1, fun p hp => h.2 p (List.mem_of_mem_filter hp)⟩

theorem twf_tset (d : Nat → α) (t : List (Nat × α)) (k : Nat) (v : α) (h : twf d t = true) :
    twf d (tset d t k v) = true := by
  unfold tset
  split
  · exact twf_filter d _ t h
  · next hv =>
    simp only [twf, Bool.and_eq_true, List.all_eq_true, decide_eq_true_eq] at h ⊢
    refine ⟨keysAbove_tput t 0 k v (Nat.zero_le k) h.1, fun p hp => ?_⟩
    rcases mem_tput t k v p hp with rfl | hp
    · exact hv
    · exact h.2 p hp

/-! ### Bit fields -/

theorem testBit_maskOf (hi lo i : Nat) (hi32 : hi < 32) :
    (maskOf hi lo).getLsbD i = (decide (lo ≤ i) && decide (i ≤ hi)) := by
  simp only [maskOf, BitVec.getLsbD_ofNat, Nat.testBit_shiftLeft, Nat.testBit_two_pow_sub_one]
  by_cases h1 : lo ≤ i <;> by_cases h2 : i ≤ hi <;> simp [h1, h2] <;> omega

theorem testBit_bitsOf (w : Word) (hi lo i : Nat) :
    (bitsOf w hi lo).testBit i = (decide (i < hi + 1 - lo) && w.getLsbD (lo + i)) := by
  simp only [bitsOf, Nat.testBit_mod_two_pow, Nat.testBit_shiftRight]
  rfl

theorem getLsbD_withBits (w : Word) (hi lo v i : Nat) (hi32 : hi < 32) :
    (withBits w hi lo v).getLsbD i =
      if lo ≤ i ∧ i ≤ hi then v.testBit (i - lo) else w.getLsbD i := by
  simp only [withBits, BitVec.getLsbD_or, BitVec.getLsbD_and, BitVec.getLsbD_not, testBit_maskOf hi lo i hi32,
    BitVec.getLsbD_ofNat, Nat.testBit_shiftLeft]
  by_cases h1 : lo ≤ i <;> by_cases h2 : i ≤ hi
  · have : i < 32 := by omega
    simp [h1, h2, this]
  · by_cases h3 : i < 32
    · simp [h1, h2, h3]
    · have : w.getLsbD i = false := BitVec.getLsbD_of_ge w i (by omega)
      simp [h1, h2, h3, this]
  · by_cases h3 : i < 32
    · simp [h1, h2, h3]
    · have : w.getLsbD i = false := BitVec.getLsbD_of_ge w i (by omega)
      simp [h1, h2, h3, this]
  · by_cases h3 : i < 32
    · simp [h1, h2, h3]
    · have : w.getLsbD i = false := BitVec.getLsbD_of_ge w i (by omega)
      simp [h1, h2, h3, this]

/-- A field reads what was written to it, cut to its width. -/
theorem bitsOf_withBits_same (w : Word) (hi lo v : Nat) (hi32 : hi < 32) :
    bitsOf (withBits w hi lo v) hi lo = v % 2 ^ (hi + 1 - lo) := by
  apply Nat.eq_of_testBit_eq
  intro i
  rw [testBit_bitsOf, Nat.testBit_mod_two_pow, getLsbD_withBits w hi lo v _ hi32]
  by_cases h : i < hi + 1 - lo
  · have : lo ≤ lo + i ∧ lo + i ≤ hi := by omega
    simp [h, this]
  · simp [h]

/-- A field that shares no bit with the one written keeps its value. -/
theorem bitsOf_withBits_apart (w : Word) (hi lo hi' lo' v : Nat) (hi32 : hi < 32) (h : hi < lo' ∨ hi' < lo) :
    bitsOf (withBits w hi lo v) hi' lo' = bitsOf w hi' lo' := by
  apply Nat.eq_of_testBit_eq
  intro i
  rw [testBit_bitsOf, testBit_bitsOf, getLsbD_withBits w hi lo v _ hi32]
  by_cases h1 : i < hi' + 1 - lo'
  · have : ¬ (lo ≤ lo' + i ∧ lo' + i ≤ hi) := by omega
    simp [this]
  · simp [h1]

/-- Bytes written one after another keep the canonical form. -/
theorem twf_foldl (d : Nat → α) (l : List α) (a : Nat) (t : List (Nat × α)) (h : twf d t = true) :
    twf d (l.foldl (fun (p : Nat × List (Nat × α)) b => (p.1 + 1, tset d p.2 p.1 b)) (a, t)).2 = true := by
  induction l generalizing a t with
  | nil => exact h
  | cons b l ih => exact ih (a + 1) _ (twf_tset d t a b h)

end Sys2Proof.Machine
end

