-- ==== Sys2Proof/Laws/Registers.lean ====
section
/-!
SUPPORT. Sys2Proof/Laws/Registers.lean: what a write of a register or of a field leaves in every register and field.
-/
namespace Sys2Proof.Machine

theorem State.reg_setReg (s : State) (k j : Nat) (w : Word) :
    (s.setReg k w).reg j = if j = k then w else s.reg j := tget_tset _ _ _ _ _

@[simp] theorem State.reg_setReg_same (s : State) (k : Nat) (w : Word) : (s.setReg k w).reg k = w := by
  simp [State.reg_setReg]

theorem State.reg_resetRange (s : State) (a b k : Nat) :
    (s.resetRange a b).reg k = if a ≤ k ∧ k < b then resetWord k else s.reg k := by
  unfold State.resetRange State.reg
  rw [tget_filter _ (fun q => !(decide (a ≤ q) && decide (q < b)))]
  by_cases h : a ≤ k ∧ k < b
  · simp [h]
  · rw [if_neg h, if_pos]; simp only [not_and, Nat.not_lt] at h; simp; omega

/-- The key of the register that holds a field of instance `n`. -/
def Fld.key (f : Fld) (n : Nat) : Nat := f.base + f.stride * n

theorem State.get_eq (s : State) (f : Fld) (n : Nat) :
    s.get f n = if n < f.count then bitsOf (s.reg (f.key n)) f.hi f.lo else 0 := rfl

/-- Fields are functions of their registers. -/
theorem State.get_of_reg {s t : State} {f : Fld} {n : Nat} (h : t.reg (f.key n) = s.reg (f.key n)) :
    t.get f n = s.get f n := by simp only [State.get_eq, h]

theorem State.on_of_reg {s t : State} {f : Fld} {n : Nat} (h : t.reg (f.key n) = s.reg (f.key n)) :
    t.on f n = s.on f n := by simp only [State.on, State.get_of_reg h]

theorem State.reg_set (s : State) (f : Fld) (v n k : Nat) :
    (s.set f v n).reg k = if n < f.count ∧ k = f.key n then withBits (s.reg k) f.hi f.lo v else s.reg k := by
  unfold State.set Fld.key
  by_cases h : n < f.count
  · rw [if_pos h, State.reg_setReg]
    by_cases hk : k = f.base + f.stride * n
    · simp [h, hk]
    · simp [hk]
  · simp [h]

/-- A field reads back what was written to it, cut to its width. -/
theorem State.get_set_same (s : State) (f : Fld) (v n : Nat) (hn : n < f.count) (h32 : f.hi < 32) :
    (s.set f v n).get f n = v % 2 ^ (f.hi + 1 - f.lo) := by
  rw [State.get_eq, if_pos hn, State.reg_set, if_pos ⟨hn, rfl⟩, bitsOf_withBits_same _ _ _ _ h32]

/-- A field in another register, or in other bits, keeps its value. -/
theorem State.get_set_apart (s : State) (f g : Fld) (v n m : Nat) (h32 : f.hi < 32)
    (h : g.key m ≠ f.key n ∨ f.hi < g.lo ∨ g.hi < f.lo) : (s.set f v n).get g m = s.get g m := by
  simp only [State.get_eq]
  split
  · rw [State.reg_set]
    split
    · next _ hk =>
      rcases h with h | h
      · exact absurd hk.2 h
      · exact bitsOf_withBits_apart _ _ _ _ _ _ h32 h
    · rfl
  · rfl

theorem State.on_setB_same (s : State) (f : Fld) (b : Bool) (n : Nat) (hn : n < f.count) (h32 : f.hi < 32)
    (hlo : f.lo = f.hi) : (s.setB f b n).on f n = b := by
  unfold State.on State.setB
  rw [State.get_set_same s f _ n hn h32, hlo]
  cases b <;> simp [b2n]

end Sys2Proof.Machine
end

