-- ==== Sys2Proof/Laws/Frame.lean ====
section
/-!
SUPPORT. Sys2Proof/Laws/Frame.lean: what an operation may change, as one mask: bits 0 to 31 the parts of State, and bit 32 + i
the register of place i in the register map. Every operation of the model has one lemma of this form, which says what it leaves
unchanged; whatever its mask, the canonical form of the tables, the blown fuses and the queue of commands are kept.
-/
namespace Sys2Proof.Laws

open Sys2Proof.Machine Sys2Proof.Safety

/-- A key of the device with no register of a mask at it. Bit 28 stands for the MSI-X table, bit 29 for every register. -/
structure Free (w k : Nat) : Prop where
  known : Known k
  any : w.testBit 29 = false
  msix : w.testBit 28 = true → ¬ IsMsix k
  reg : ∀ i r, regMap[i]? = some r → w.testBit (32 + i) = true → ¬ Has r k

/-- What a step from `s` to `t` with mask `w` leaves unchanged. -/
structure Frame (w : Nat) (s t : State) : Prop where
  latch : w.testBit 0 = false → t.latch = s.latch
  stage : w.testBit 1 = false → t.stage = s.stage
  img : w.testBit 2 = false → t.img = s.img
  ln : w.testBit 3 = false → t.ln = s.ln
  fr : w.testBit 4 = false → t.fr = s.fr
  qs : w.testBit 5 = false → t.qs = s.qs
  mate : w.testBit 6 = false → t.mate = s.mate
  rcd : w.testBit 7 = false → t.rcd = s.rcd
  irq : w.testBit 8 = false → t.irq = s.irq
  perf : w.testBit 9 = false → t.perf = s.perf
  cyc : w.testBit 10 = false → t.cyc = s.cyc
  free : w.testBit 11 = false → t.free = s.free
  gp : w.testBit 12 = false → t.fab.gp = s.fab.gp
  fab : w.testBit 13 = false → t.fab = s.fab
  tw : w.testBit 14 = false → t.tw = s.tw
  tag : w.testBit 15 = false → t.tag = s.tag
  evg : w.testBit 16 = false → t.evg = s.evg
  pwr : w.testBit 17 = false → t.pwr = s.pwr
  fuse : w.testBit 18 = false → t.boot.fuse = s.boot.fuse
  boot : w.testBit 19 = false → t.boot = s.boot
  chg : w.testBit 20 = false → t.chg = s.chg
  bus : w.testBit 21 = false → t.bus = s.bus
  host : w.testBit 22 = false → t.host = s.host
  tim : w.testBit 23 = false → t.tim = s.tim
  flash : w.testBit 24 = false → t.flash = s.flash
  mem : w.testBit 25 = false → t.mem = s.mem
  out : w.testBit 26 = false → t.out = s.out
  up : w.testBit 27 = false → t.pwr.up = s.pwr.up
  pending : t.pending = s.pending
  reg : ∀ k, Free w k → t.reg k = s.reg k
  regsOk : twf resetWord s.regs = true → twf resetWord t.regs = true
  flashOk : twf (fun _ => (0xFF : Byte)) s.flash = true → twf (fun _ => (0xFF : Byte)) t.flash = true
  memOk : twf (fun _ => (0 : Byte)) s.mem = true → twf (fun _ => (0 : Byte)) t.mem = true
  held : FusesHeld s.boot.fuse t.boot.fuse

theorem FusesHeld.refl (f : Fuses) : FusesHeld f f := ⟨le_rfl, le_rfl, le_rfl, le_rfl, fun _ h => h⟩

theorem FusesHeld.trans {f g h : Fuses} (a : FusesHeld f g) (b : FusesHeld g h) : FusesHeld f h :=
  ⟨a.1.trans b.1, a.2.1.trans b.2.1, a.2.2.1.trans b.2.2.1, a.2.2.2.1.trans b.2.2.2.1, fun k hk => b.2.2.2.2 k (a.2.2.2.2 k hk)⟩

theorem Frame.refl (w : Nat) (s : State) : Frame w s s := by
  constructor <;> first | (intros; rfl) | exact id | exact FusesHeld.refl _

theorem testBit_sub {w v : Nat} (h : (w ||| v) = v) {i : Nat} (hi : v.testBit i = false) : w.testBit i = false := by
  rw [← h, Nat.testBit_or, Bool.or_eq_false_iff] at hi; exact hi.1

theorem testBit_up {w v : Nat} (h : (w ||| v) = v) {i : Nat} (hi : w.testBit i = true) : v.testBit i = true := by
  rw [← h, Nat.testBit_or, hi, Bool.true_or]

theorem Free.mono {w v k : Nat} (h : (w ||| v) = v) (hf : Free v k) : Free w k :=
  ⟨hf.known, testBit_sub h hf.any, fun hb => hf.msix (testBit_up h hb), fun i r hr hb => hf.reg i r hr (testBit_up h hb)⟩

/-- One more operation, whose mask is a part of the whole mask. -/
theorem Frame.step {w v : Nat} {s t u : State} (a : Frame v s t) (b : Frame w t u) (h : (w ||| v) = v) : Frame v s u where
  latch hi := (b.latch (testBit_sub h hi)).trans (a.latch hi)
  stage hi := (b.stage (testBit_sub h hi)).trans (a.stage hi)
  img hi := (b.img (testBit_sub h hi)).trans (a.img hi)
  ln hi := (b.ln (testBit_sub h hi)).trans (a.ln hi)
  fr hi := (b.fr (testBit_sub h hi)).trans (a.fr hi)
  qs hi := (b.qs (testBit_sub h hi)).trans (a.qs hi)
  mate hi := (b.mate (testBit_sub h hi)).trans (a.mate hi)
  rcd hi := (b.rcd (testBit_sub h hi)).trans (a.rcd hi)
  irq hi := (b.irq (testBit_sub h hi)).trans (a.irq hi)
  perf hi := (b.perf (testBit_sub h hi)).trans (a.perf hi)
  cyc hi := (b.cyc (testBit_sub h hi)).trans (a.cyc hi)
  free hi := (b.free (testBit_sub h hi)).trans (a.free hi)
  gp hi := (b.gp (testBit_sub h hi)).trans (a.gp hi)
  fab hi := (b.fab (testBit_sub h hi)).trans (a.fab hi)
  tw hi := (b.tw (testBit_sub h hi)).trans (a.tw hi)
  tag hi := (b.tag (testBit_sub h hi)).trans (a.tag hi)
  evg hi := (b.evg (testBit_sub h hi)).trans (a.evg hi)
  pwr hi := (b.pwr (testBit_sub h hi)).trans (a.pwr hi)
  fuse hi := (b.fuse (testBit_sub h hi)).trans (a.fuse hi)
  boot hi := (b.boot (testBit_sub h hi)).trans (a.boot hi)
  chg hi := (b.chg (testBit_sub h hi)).trans (a.chg hi)
  bus hi := (b.bus (testBit_sub h hi)).trans (a.bus hi)
  host hi := (b.host (testBit_sub h hi)).trans (a.host hi)
  tim hi := (b.tim (testBit_sub h hi)).trans (a.tim hi)
  flash hi := (b.flash (testBit_sub h hi)).trans (a.flash hi)
  mem hi := (b.mem (testBit_sub h hi)).trans (a.mem hi)
  out hi := (b.out (testBit_sub h hi)).trans (a.out hi)
  up hi := (b.up (testBit_sub h hi)).trans (a.up hi)
  pending := b.pending.trans a.pending
  reg k hk := (b.reg k (Free.mono h hk)).trans (a.reg k hk)
  regsOk h0 := b.regsOk (a.regsOk h0)
  flashOk h0 := b.flashOk (a.flashOk h0)
  memOk h0 := b.memOk (a.memOk h0)
  held := FusesHeld.trans a.held b.held

/-- The same, from the last operation. -/
theorem Frame.after {w v : Nat} {s t u : State} (b : Frame w t u) (a : Frame v s t) (h : (w ||| v) = v) : Frame v s u := a.step b h

/-- The same operation under a wider mask. -/
theorem Frame.mono {w v : Nat} {s t : State} (a : Frame w s t) (h : (w ||| v) = v) : Frame v s t :=
  (Frame.refl v s).step a h

theorem Frame.forEach {α : Type} {w : Nat} {s : State} {f : State → α → State} :
    ∀ (l : List α) {t : State}, Frame w s t → (∀ x a, Frame w s x → Frame w s (f x a)) → Frame w s (Machine.forEach l t f)
  | [], _, h, _ => h
  | a :: l, t, h, hf => Frame.forEach l (hf t a h) hf

theorem Frame.foldl {α : Type} {w : Nat} {s : State} {f : State → α → State} (l : List α) {t : State}
    (h : Frame w s t) (hf : ∀ x a, Frame w s x → Frame w s (f x a)) : Frame w s (l.foldl f t) := Frame.forEach l h hf

/-- A loop that carries more than the state. -/
theorem Frame.forEachOf {α σ : Type} {w : Nat} {s : State} (p : σ → State) {f : σ → α → σ} :
    ∀ (l : List α) {t : σ}, Frame w s (p t) → (∀ x a, Frame w s (p x) → Frame w s (p (f x a))) →
      Frame w s (p (Machine.forEach l t f))
  | [], _, h, _ => h
  | a :: l, t, h, hf => Frame.forEachOf p l (hf t a h) hf

theorem Frame.foldl1 {α σ : Type} {w : Nat} {s : State} {f : State × σ → α → State × σ} {l : List α} {t : State × σ}
    (h : Frame w s t.1) (hf : ∀ (x : State × σ) (a : α), Frame w s x.1 → Frame w s (f x a).1) : Frame w s (l.foldl f t).1 :=
  Frame.forEachOf Prod.fst l h hf

theorem Frame.foldl2 {α σ : Type} {w : Nat} {s : State} {f : σ × State → α → σ × State} {l : List α} {t : σ × State}
    (h : Frame w s t.2) (hf : ∀ (x : σ × State) (a : α), Frame w s x.2 → Frame w s (f x a).2) : Frame w s (l.foldl f t).2 :=
  Frame.forEachOf Prod.snd l h hf

theorem Frame.forEach1 {α σ : Type} {w : Nat} {s : State} {f : State × σ → α → State × σ} {l : List α} {t : State × σ}
    (h : Frame w s t.1) (hf : ∀ (x : State × σ) (a : α), Frame w s x.1 → Frame w s (f x a).1) : Frame w s (Machine.forEach l t f).1 :=
  Frame.forEachOf Prod.fst l h hf

theorem Frame.forEach2 {α σ : Type} {w : Nat} {s : State} {f : σ × State → α → σ × State} {l : List α} {t : σ × State}
    (h : Frame w s t.2) (hf : ∀ (x : σ × State) (a : α), Frame w s x.2 → Frame w s (f x a).2) : Frame w s (Machine.forEach l t f).2 :=
  Frame.forEachOf Prod.snd l h hf

theorem Frame.cut {w : Nat} {s : State} {P : Prop} (x : State) (hx : Frame w s x) (h : Frame w s x → P) : P := h hx

theorem Frame.ite {w : Nat} {s a b : State} {c : Prop} [Decidable c] (ha : Frame w s a) (hb : Frame w s b) :
    Frame w s (if c then a else b) := by split <;> assumption

/-! ### Registers -/

/-- The register of a field lies in the mask. -/
def covered (w : Nat) (f : Fld) : Bool :=
  regMap.zipIdx.any fun p => w.testBit (32 + p.2) && p.1.base == f.base && p.1.stride == f.stride && decide (f.count ≤ p.1.count)

theorem covered_ne {w : Nat} {f : Fld} (h : covered w f = true) {k n : Nat} (hk : Free w k) (hn : n < f.count) :
    k ≠ f.key n := by
  intro e
  simp only [covered, List.any_eq_true, Bool.and_eq_true, beq_iff_eq, decide_eq_true_eq] at h
  obtain ⟨⟨r, i⟩, hm, ⟨⟨hw, hb⟩, hs⟩, hc⟩ := h
  have hi := List.mem_zipIdx_iff_getElem?.1 hm
  dsimp only at hb hs hc hw hi
  exact hk.reg i r hi hw ⟨n, by omega, by rw [e, hb, hs]; rfl⟩

theorem Frame.setReg {w : Nat} (s : State) (k : Nat) (v : Word) (h : ∀ j, Free w j → j ≠ k) : Frame w s (s.setReg k v) := by
  constructor
  case reg => intro j hj; rw [State.reg_setReg, if_neg (h j hj)]
  case regsOk => exact fun h => twf_tset _ _ _ _ h
  all_goals first | (intros; rfl) | exact id | exact FusesHeld.refl _

theorem Frame.set {w : Nat} (s : State) (f : Fld) (v n : Nat) (h : covered w f = true) : Frame w s (s.set f v n) := by
  unfold State.set
  split
  · next hn => exact Frame.setReg _ _ _ fun j hj => covered_ne h hj hn
  · exact Frame.refl _ _

/-- Every register with an instance at a key from `a` up to below `b` lies in the mask. -/
def coversRange (w a b : Nat) : Bool :=
  (decide (b ≤ 0x2F000) || decide (0x30000 ≤ a) || w.testBit 28) &&
  regMap.zipIdx.all fun p => w.testBit (32 + p.2) ||
    (let m := if a ≤ p.1.base then 0 else if p.1.stride = 0 then p.1.count else (a - p.1.base + p.1.stride - 1) / p.1.stride
     decide (p.1.count ≤ m) || decide (b ≤ p.1.base + p.1.stride * m))

theorem coversRange_out {w a b k : Nat} (h : coversRange w a b = true) (hk : Free w k) : ¬ (a ≤ k ∧ k < b) := by
  rintro ⟨hak, hkb⟩
  simp only [coversRange, Bool.and_eq_true, Bool.or_eq_true, decide_eq_true_eq, List.all_eq_true] at h
  obtain ⟨hm, hr⟩ := h
  rcases hk.known with ⟨r, hr', n, hn, e⟩ | hx
  · obtain ⟨i, hi⟩ := List.getElem?_of_mem hr'
    rcases hr (r, i) (List.mem_zipIdx_iff_getElem?.2 hi) with hw | hw
    · exact hk.reg i r hi hw ⟨n, hn, e⟩
    · dsimp only at hw
      have key : (if a ≤ r.base then 0 else if r.stride = 0 then r.count else (a - r.base + r.stride - 1) / r.stride) ≤ n := by
        split
        · exact Nat.zero_le _
        · split
          · next h1 h2 => rw [h2, Nat.zero_mul] at e; omega
          · next h1 h2 =>
            rw [← Nat.lt_succ_iff, Nat.div_lt_iff_lt_mul (Nat.pos_of_ne_zero h2)]
            have : r.stride * n + r.stride = (n + 1) * r.stride := by rw [Nat.add_mul, Nat.mul_comm, Nat.one_mul]
            simp only [Nat.succ_eq_add_one]
            omega
      rcases hw with hw | hw
      · omega
      · have := Nat.mul_le_mul_left r.stride key
        omega
  · rcases hm with (hm | hm) | hm
    · unfold IsMsix at hx; omega
    · unfold IsMsix at hx; omega
    · exact hk.msix hm hx

theorem Frame.resetRange {w : Nat} (s : State) (a b : Nat) (h : ∀ k, Free w k → ¬ (a ≤ k ∧ k < b)) :
    Frame w s (s.resetRange a b) := by
  constructor
  case reg => intro k hk; rw [State.reg_resetRange, if_neg (h k hk)]
  case regsOk => exact fun h => twf_filter _ _ _ h
  all_goals first | (intros; rfl) | exact id | exact FusesHeld.refl _

/-- A state from its parts, under a name that a proof can look for. -/
def put (regs latch stage : List (Nat × Word)) (img : List Section) (ln : LaneBlock) (fr : FrameBlock) (qs : QsBlock)
    (mate : MateBlock) (rcd : Recorder) (irq : IrqBlock) (perf : PerfBlock) (cyc free : Nat) (fab : FabBlock) (tw : TwigBlock)
    (tag : TagBlock) (evg : EvgBlock) (pwr : PwrBlock) (boot : BootBlock) (chg : ChgBlock) (bus : BusBlock) (host : HostBlock)
    (tim : TimeBlock) (flash mem : List (Nat × Byte)) (out : Out) (pending : List Instr) : State :=
  ⟨regs, latch, stage, img, ln, fr, qs, mate, rcd, irq, perf, cyc, free, fab, tw, tag, evg, pwr, boot, chg, bus, host, tim,
    flash, mem, out, pending⟩

theorem mk_put {regs latch stage img ln fr qs mate rcd irq perf cyc free fab tw tag evg pwr boot chg bus host tim flash mem out
    pending} : State.mk regs latch stage img ln fr qs mate rcd irq perf cyc free fab tw tag evg pwr boot chg bus host tim flash
    mem out pending = put regs latch stage img ln fr qs mate rcd irq perf cyc free fab tw tag evg pwr boot chg bus host tim flash
    mem out pending := rfl

/-- A change of parts of State other than the registers: each changed part lies in the mask. -/
theorem Frame.upd {v : Nat} {s x : State} (h : Frame v s x) {latch stage : List (Nat × Word)} {img : List Section}
    {ln : LaneBlock} {fr : FrameBlock} {qs : QsBlock} {mate : MateBlock} {rcd : Recorder} {irq : IrqBlock} {perf : PerfBlock}
    {cyc free : Nat} {fab : FabBlock} {tw : TwigBlock} {tag : TagBlock} {evg : EvgBlock} {pwr : PwrBlock} {boot : BootBlock}
    {chg : ChgBlock} {bus : BusBlock} {host : HostBlock} {tim : TimeBlock} {flash mem : List (Nat × Byte)} {out : Out}
    (hlatch : latch = x.latch ∨ v.testBit 0 = true) (hstage : stage = x.stage ∨ v.testBit 1 = true)
    (himg : img = x.img ∨ v.testBit 2 = true) (hln : ln = x.ln ∨ v.testBit 3 = true)
    (hfr : fr = x.fr ∨ v.testBit 4 = true) (hqs : qs = x.qs ∨ v.testBit 5 = true)
    (hmate : mate = x.mate ∨ v.testBit 6 = true) (hrcd : rcd = x.rcd ∨ v.testBit 7 = true)
    (hirq : irq = x.irq ∨ v.testBit 8 = true) (hperf : perf = x.perf ∨ v.testBit 9 = true)
    (hcyc : cyc = x.cyc ∨ v.testBit 10 = true) (hfree : free = x.free ∨ v.testBit 11 = true)
    (hgp : fab.gp = x.fab.gp ∨ v.testBit 12 = true) (hfab : fab = x.fab ∨ v.testBit 13 = true)
    (htw : tw = x.tw ∨ v.testBit 14 = true) (htag : tag = x.tag ∨ v.testBit 15 = true)
    (hevg : evg = x.evg ∨ v.testBit 16 = true) (hpwr : pwr = x.pwr ∨ v.testBit 17 = true)
    (hfuse : boot.fuse = x.boot.fuse ∨ v.testBit 18 = true ∧ FusesHeld x.boot.fuse boot.fuse)
    (hboot : boot = x.boot ∨ v.testBit 19 = true)
    (hchg : chg = x.chg ∨ v.testBit 20 = true) (hbus : bus = x.bus ∨ v.testBit 21 = true)
    (hhost : host = x.host ∨ v.testBit 22 = true) (htim : tim = x.tim ∨ v.testBit 23 = true)
    (hflash : flash = x.flash ∨ v.testBit 24 = true ∧
      (twf (fun _ => (0xFF : Byte)) x.flash = true → twf (fun _ => (0xFF : Byte)) flash = true))
    (hmem : mem = x.mem ∨ v.testBit 25 = true ∧
      (twf (fun _ => (0 : Byte)) x.mem = true → twf (fun _ => (0 : Byte)) mem = true))
    (hout : out = x.out ∨ v.testBit 26 = true) (hup : pwr.up = x.pwr.up ∨ v.testBit 27 = true) :
    Frame v s (put x.regs latch stage img ln fr qs mate rcd irq perf cyc free fab tw tag evg pwr boot chg bus
      host tim flash mem out x.pending) := by
  have pick : ∀ {p : Prop} {i : Nat}, (p ∨ v.testBit i = true) → v.testBit i = false → p := by
    intro p i h1 h2
    rcases h1 with h1 | h1
    · exact h1
    · exact absurd (h1.symm.trans h2) (by decide)
  refine h.step (w := v) ?_ (Nat.or_self v)
  unfold put
  constructor
  case reg => exact fun _ _ => rfl
  case pending => rfl
  case regsOk => exact id
  case held => rcases hfuse with e | e; (· dsimp only; rw [e]; exact FusesHeld.refl _); exact e.2
  case flashOk => rcases hflash with e | e; (· dsimp only; rw [e]; exact id); exact e.2
  case memOk => rcases hmem with e | e; (· dsimp only; rw [e]; exact id); exact e.2
  case fuse => exact fun hb => pick (hfuse.imp_right And.left) hb
  case flash => exact fun hb => pick (hflash.imp_right And.left) hb
  case mem => exact fun hb => pick (hmem.imp_right And.left) hb
  all_goals (intro hb; first
    | exact pick hlatch hb | exact pick hstage hb | exact pick himg hb | exact pick hln hb | exact pick hfr hb
    | exact pick hqs hb | exact pick hmate hb | exact pick hrcd hb | exact pick hirq hb | exact pick hperf hb
    | exact pick hcyc hb | exact pick hfree hb | exact pick hgp hb | exact pick hfab hb | exact pick htw hb
    | exact pick htag hb | exact pick hevg hb | exact pick hpwr hb | exact pick hboot hb | exact pick hchg hb
    | exact pick hbus hb | exact pick hhost hb | exact pick htim hb | exact pick hout hb | exact pick hup hb)

/-! ### The operations on fields and words, after an operation that keeps the mask -/

section
variable {v : Nat} {s x : State}

theorem Frame.setS (h : Frame v s x) {f : Fld} (hc : covered v f = true) {a n : Nat} : Frame v s (x.set f a n) :=
  h.step (Frame.set _ _ _ _ hc) (Nat.or_self v)

theorem Frame.setBS (h : Frame v s x) {f : Fld} (hc : covered v f = true) {a : Bool} {n : Nat} : Frame v s (x.setB f a n) :=
  h.setS hc

theorem Frame.incS (h : Frame v s x) {f : Fld} (hc : covered v f = true) {n a : Nat} : Frame v s (x.inc f n a) := h.setS hc

theorem Frame.incWS (h : Frame v s x) {f : Fld} (hc : covered v f = true) {n a : Nat} : Frame v s (x.incW f n a) := h.setS hc

theorem Frame.inc64S (h : Frame v s x) {f g : Fld} (hc : covered v f = true) (hd : covered v g = true) {n a : Nat} :
    Frame v s (x.inc64 f g n a) := (h.setS hc).setS hd

theorem Frame.set64S (h : Frame v s x) {f g : Fld} (hc : covered v f = true) (hd : covered v g = true) {n a : Nat} :
    Frame v s (x.set64 f g a n) := (h.setS hc).setS hd

theorem Frame.setIS (h : Frame v s x) {f : Fld} (hc : covered v f = true) {a : Int} {n : Nat} : Frame v s (x.setI f a n) :=
  h.setS hc

theorem Frame.lnStickS (h : Frame v s x) {f : Fld} (hc : covered v f = true) {n : Nat} : Frame v s (x.lnStick f n) := h.setS hc

theorem Frame.setWordS (h : Frame v s x) {f : Fld} (hc : covered v f = true) {n : Nat} {a : Word} :
    Frame v s (x.setWord f n a) := by
  unfold State.setWord
  split
  · next hn => exact h.step (Frame.setReg _ _ _ fun j hj => covered_ne hc hj hn) (Nat.or_self v)
  · exact h

theorem Frame.setRegAny (h : Frame v s x) (hb : v.testBit 29 = true) {k : Nat} {a : Word} : Frame v s (x.setReg k a) :=
  h.step (Frame.setReg _ _ _ fun _ hj => absurd (hb.symm.trans hj.any) (by decide)) (Nat.or_self v)

theorem Frame.regsAny (h : Frame v s x) (hb : v.testBit 29 = true) {r : List (Nat × Word)}
    (hr : twf resetWord x.regs = true → twf resetWord r = true) : Frame v s { x with regs := r } := by
  refine h.step (w := v) ?_ (Nat.or_self v)
  constructor
  case reg => exact fun _ hk => absurd (hb.symm.trans hk.any) (by decide)
  case regsOk => exact hr
  all_goals first | (intros; rfl) | exact id | exact FusesHeld.refl _

theorem Frame.resetRangeS (h : Frame v s x) {a b : Nat} (hc : coversRange v a b = true) : Frame v s (x.resetRange a b) :=
  h.step (Frame.resetRange _ _ _ fun _ hk => coversRange_out hc hk) (Nat.or_self v)

theorem Frame.resetInstS (h : Frame v s x) {base stride count n : Nat}
    (hc : coversRange v base (base + stride * count) = true) : Frame v s (x.resetInst base stride count n) := by
  unfold State.resetInst
  split
  · next hn =>
    refine h.step (Frame.resetRange _ _ _ fun k hk hr => coversRange_out hc hk ?_) (Nat.or_self v)
    have h1 : stride * (n + 1) ≤ stride * count := Nat.mul_le_mul_left _ hn
    rw [Nat.mul_add, Nat.mul_one] at h1
    omega
  · exact h

theorem Frame.setMsgS (h : Frame v s x) (hc : ∀ i < 16, covered v (MBX_MSG_data i) = true) {n : Nat} {l : List Nat} :
    Frame v s (x.setMsg n l) := by
  unfold State.setMsg
  split
  · next hn =>
    have key : ∀ (m : List Nat), (∀ i ∈ m, i < 16) → ∀ y, Frame v s y → Frame v s (Machine.forEach m y fun s i =>
        s.setReg (0x10000 + 0x100 * n + 4 * i) (BitVec.ofNat 32 (l.getD i 0))) := by
      intro m
      induction m with
      | nil => exact fun _ _ hy => hy
      | cons i m ih =>
        intro hm y hy
        refine ih (fun j hj => hm j (List.mem_cons_of_mem _ hj)) _ (hy.step (Frame.setReg _ _ _ fun j hj e => ?_) (Nat.or_self v))
        refine covered_ne (hc i (hm i List.mem_cons_self)) hj (n := n) hn ?_
        rw [e]; simp only [Fld.key, MBX_MSG_data]; omega
    exact key _ (fun i hi => List.mem_range.1 hi) _ h
  · exact h

theorem Frame.wipeMsgS (h : Frame v s x) (hc : ∀ n < 16, coversRange v (0x10000 + 0x100 * n) (0x10040 + 0x100 * n) = true)
    {n : Nat} : Frame v s (x.wipeMsg n) := by
  unfold State.wipeMsg
  split
  · next hn => exact h.resetRangeS (hc n hn)
  · exact h

theorem Frame.putWordsS (h : Frame v s x) {a b : Nat} (hc : coversRange v a b = true) {l : List (Nat × Word)} :
    Frame v s (x.putWords a b l) := by
  refine Frame.forEach _ h fun y p hy => ?_
  split
  · next hp => exact hy.step (Frame.setReg _ _ _ fun j hj e => coversRange_out hc hj (e ▸ hp)) (Nat.or_self v)
  · exact hy

end

/-! ### What a frame says of one field -/

/-- The register of a field is a register of the map, and shares no key with a register of the mask. -/
def apart (w : Nat) (f : Fld) : Bool :=
  !w.testBit 29 && (!w.testBit 28 || decide (0x30000 ≤ f.base) || decide (f.base + f.stride * f.count < 0x2F000)) &&
  regMap.any (fun r => r.base == f.base && r.stride == f.stride && r.count == f.count) &&
  regMap.zipIdx.all fun p => !w.testBit (32 + p.2) ||
    decide (f.base + f.stride * (f.count - 1) < p.1.base) || decide (p.1.base + p.1.stride * (p.1.count - 1) < f.base) ||
    (p.1.stride == f.stride && decide (f.base % f.stride ≠ p.1.base % f.stride))

theorem free_of_apart {w : Nat} {f : Fld} (h : apart w f = true) {n : Nat} (hn : n < f.count) : Free w (f.key n) := by
  simp only [apart, Bool.and_eq_true, Bool.or_eq_true, Bool.not_eq_true', decide_eq_true_eq, List.all_eq_true,
    List.any_eq_true, beq_iff_eq] at h
  obtain ⟨⟨⟨h29, h28⟩, ⟨r, hr, ⟨hb, hs⟩, hc⟩⟩, hall⟩ := h
  have hle : f.stride * n ≤ f.stride * (f.count - 1) := Nat.mul_le_mul_left _ (by omega)
  refine ⟨.inl ⟨r, hr, n, by omega, by rw [hb, hs]; rfl⟩, h29, ?_, ?_⟩
  · intro hw hx
    have hlt : f.stride * n ≤ f.stride * f.count := Nat.mul_le_mul_left _ (by omega)
    unfold IsMsix Fld.key at hx
    rcases h28 with (h28 | h28) | h28
    · exact absurd (hw.symm.trans h28) (by decide)
    · omega
    · omega
  · rintro i q hq hw ⟨m, hm, e⟩
    have hmle : q.stride * m ≤ q.stride * (q.count - 1) := Nat.mul_le_mul_left _ (by omega)
    have := hall (q, i) (List.mem_zipIdx_iff_getElem?.2 hq)
    dsimp only at this
    unfold Fld.key at e
    rcases this with ((h1 | h1) | h1) | ⟨h1, h2⟩
    · exact absurd (hw.symm.trans h1) (by decide)
    · omega
    · omega
    · apply h2
      have e2 := congrArg (· % f.stride) e
      rw [h1] at e2
      simpa only [Nat.add_mul_mod_self_left] using e2

/-- A field whose register lies outside the mask keeps its value. -/
theorem Frame.get {w : Nat} {s t : State} (h : Frame w s t) {f : Fld} (hf : apart w f = true) (n : Nat) :
    t.get f n = s.get f n := by
  rw [State.get_eq, State.get_eq]
  split
  · next hn => rw [h.reg _ (free_of_apart hf hn)]
  · rfl

theorem Frame.on {w : Nat} {s t : State} (h : Frame w s t) {f : Fld} (hf : apart w f = true) (n : Nat) :
    t.on f n = s.on f n := by simp only [State.on, h.get hf n]

/-! ### Frames as the statements say them -/

/-- The bit of a part in a mask. -/
def bitOf : Part → Nat
  | .latch => 0 | .stage => 1 | .img => 2 | .ln => 3 | .fr => 4 | .qs => 5 | .mate => 6 | .rcd => 7 | .irq => 8 | .perf => 9
  | .cyc => 10 | .free => 11 | .gp => 12 | .fab => 13 | .tw => 14 | .tag => 15 | .evg => 16 | .pwr => 17 | .fuse => 18
  | .boot => 19 | .chg => 20 | .bus => 21 | .host => 22 | .tim => 23 | .flash => 24 | .mem => 25 | .out => 26 | .up => 27

theorem Frame.keep {w : Nat} {s t : State} (h : Frame w s t) {parts : List Part}
    (hp : ∀ p, p ∉ parts → w.testBit (bitOf p) = false) : Keep s t parts := by
  refine ⟨fun p hn => ?_, h.pending⟩
  have hb := hp p hn
  cases p
  case latch => exact h.latch hb
  case stage => exact h.stage hb
  case img => exact h.img hb
  case ln => exact h.ln hb
  case fr => exact h.fr hb
  case qs => exact h.qs hb
  case mate => exact h.mate hb
  case rcd => exact h.rcd hb
  case irq => exact h.irq hb
  case perf => exact h.perf hb
  case cyc => exact h.cyc hb
  case free => exact h.free hb
  case gp => exact h.gp hb
  case fab => exact h.fab hb
  case tw => exact h.tw hb
  case tag => exact h.tag hb
  case evg => exact h.evg hb
  case pwr => exact h.pwr hb
  case fuse => exact h.fuse hb
  case boot => exact h.boot hb
  case chg => exact h.chg hb
  case bus => exact h.bus hb
  case host => exact h.host hb
  case tim => exact h.tim hb
  case flash => exact h.flash hb
  case mem => exact h.mem hb
  case out => exact h.out hb
  case up => exact h.up hb

/-- Every register of a mask holds a field of a list. -/
def maskIn (w : Nat) (flds : List Fld) : Bool :=
  !w.testBit 29 && !w.testBit 28 && regMap.zipIdx.all fun p => !w.testBit (32 + p.2) ||
    flds.any fun f => f.base == p.1.base && f.stride == p.1.stride && decide (p.1.count ≤ f.count)

theorem Frame.keepRegs {w : Nat} {s t : State} (h : Frame w s t) {keys : List Nat} {flds : List Fld}
    (hm : maskIn w flds = true) : KeepRegs s t keys flds := by
  intro k hk _ hf
  refine h.reg k ?_
  simp only [maskIn, Bool.and_eq_true, Bool.not_eq_true', List.all_eq_true, Bool.or_eq_true, List.any_eq_true, beq_iff_eq,
    decide_eq_true_eq] at hm
  obtain ⟨⟨h29, h28⟩, hall⟩ := hm
  refine ⟨hk, h29, fun hw => absurd (hw.symm.trans h28) (by decide), fun i r hr hw ⟨n, hn, e⟩ => ?_⟩
  rcases hall (r, i) (List.mem_zipIdx_iff_getElem?.2 hr) with h0 | ⟨f, hfl, ⟨hb, hs⟩, hc⟩
  · exact absurd (hw.symm.trans h0) (by decide)
  · dsimp only at hb hs hc
    exact hf f hfl n (by omega) (by rw [e, at_, hb, hs])

end Sys2Proof.Laws
end

