-- ==== Sys2Proof/Laws/FrameOps.lean ====
section
/-!
SUPPORT. Sys2Proof/Laws/FrameOps.lean: what each operation of Machine/Ops.lean leaves unchanged.
-/
namespace Sys2Proof.Laws

set_option Elab.async false
set_option linter.unusedTactic false
set_option linter.unreachableTactic false

open Sys2Proof.Machine

def m_post : Nat := 0x6000000000000000000000000000000000
theorem fr_post (s : State) (n : Nat) : Frame m_post s (State.post s n) := by
  unfold State.post
  repeat' first
    | with_reducible assumption
    | with_reducible exact Frame.refl _ _
    | lift_lets -underBinder
    | (with_reducible apply Frame.setBS; (on_goal 2 => decide +kernel))
    | (with_reducible apply Frame.incWS; (on_goal 2 => decide +kernel))
    | dsimp -zeta only
    | split

def m_draw : Nat := 0x800
theorem fr_draw (s : State) : Frame m_draw s (State.draw s).2 := by
  unfold State.draw
  repeat' first
    | with_reducible assumption
    | with_reducible exact Frame.refl _ _
    | (with_reducible exact .inl rfl)
    | exact .inr (by decide +kernel)
    | lift_lets -underBinder
    | dsimp -zeta only
    | split
    | (rw [mk_put]; with_reducible apply Frame.upd)

def m_sendMsix : Nat := 0x4000100
theorem fr_sendMsix (s : State) (v : Nat) : Frame m_sendMsix s (State.sendMsix s v) := by
  unfold State.sendMsix
  repeat' first
    | with_reducible assumption
    | with_reducible exact Frame.refl _ _
    | (with_reducible exact .inl rfl)
    | exact .inr (by decide +kernel)
    | (intro x; first
        | (refine Frame.cut (w := m_sendMsix) (s := s) x ?_ ?_
           on_goal 2 => intro hx; clear_value x
           on_goal 1 => unfold x; clear x)
        | clear_value x
        | skip)
    | lift_lets -underBinder
    | dsimp -zeta only
    | split
    | (rw [mk_put]; with_reducible apply Frame.upd)

def m_count : Nat := 0x200
theorem fr_count (s : State) (sel : Nat → Bool) (by_ : Nat) : Frame m_count s (State.count s sel by_) := by
  unfold State.count
  repeat' first
    | with_reducible assumption
    | with_reducible exact Frame.refl _ _
    | (with_reducible exact .inl rfl)
    | exact .inr (by decide +kernel)
    | (intro x; first
        | (refine Frame.cut (w := m_count) (s := s) x ?_ ?_
           on_goal 2 => intro hx; clear_value x
           on_goal 1 => unfold x; clear x)
        | clear_value x
        | skip)
    | lift_lets -underBinder
    | dsimp -zeta only
    | split
    | (rw [mk_put]; with_reducible apply Frame.upd)

def m_irqSet : Nat := 0x4000300
theorem fr_irqSet (s : State) (src : Nat) : Frame m_irqSet s (State.irqSet s src) := by
  unfold State.irqSet
  repeat' first
    | with_reducible assumption
    | with_reducible exact Frame.refl _ _
    | (with_reducible exact .inl rfl)
    | exact .inr (by decide +kernel)
    | (intro x; first
        | (refine Frame.cut (w := m_irqSet) (s := s) x ?_ ?_
           on_goal 2 => intro hx; clear_value x
           on_goal 1 => unfold x; clear x)
        | clear_value x
        | skip)
    | lift_lets -underBinder
    | (with_reducible apply Frame.after (fr_sendMsix ..); (on_goal 2 => decide +kernel))
    | (with_reducible apply Frame.after (fr_count ..); (on_goal 2 => decide +kernel))
    | dsimp -zeta only
    | split
    | (rw [mk_put]; with_reducible apply Frame.upd)

def m_offerRec : Nat := 0x400000000000000000000000000000004000380
theorem fr_offerRec (s : State) (k : RecKind) (payload : List Sys2Proof.Byte) : Frame m_offerRec s (State.offerRec s k payload) := by
  unfold State.offerRec
  repeat' first
    | with_reducible assumption
    | with_reducible exact Frame.refl _ _
    | (with_reducible exact .inl rfl)
    | exact .inr (by decide +kernel)
    | (intro x; first
        | (refine Frame.cut (w := m_offerRec) (s := s) x ?_ ?_
           on_goal 2 => intro hx; clear_value x
           on_goal 1 => unfold x; clear x)
        | clear_value x
        | skip)
    | lift_lets -underBinder
    | (with_reducible apply Frame.incS; (on_goal 2 => decide +kernel))
    | (with_reducible apply Frame.after (fr_irqSet ..); (on_goal 2 => decide +kernel))
    | dsimp -zeta only
    | split
    | (rw [mk_put]; with_reducible apply Frame.upd)

def m_report : Nat := 0x400000000000000000000000000000004000380
theorem fr_report (s : State) (k : RecKind) (fields : List (Nat × Nat)) : Frame m_report s (State.report s k fields) := by
  unfold State.report
  repeat' first
    | with_reducible assumption
    | with_reducible exact Frame.refl _ _
    | (intro x; first
        | (refine Frame.cut (w := m_report) (s := s) x ?_ ?_
           on_goal 2 => intro hx; clear_value x
           on_goal 1 => unfold x; clear x)
        | clear_value x
        | skip)
    | lift_lets -underBinder
    | (with_reducible apply Frame.after (fr_irqSet ..); (on_goal 2 => decide +kernel))
    | (with_reducible apply Frame.after (fr_offerRec ..); (on_goal 2 => decide +kernel))
    | dsimp -zeta only
    | split

def m_reportBytes : Nat := 0x400000000000000000000000000000004000380
theorem fr_reportBytes (s : State) (k : RecKind) (payload : List Sys2Proof.Byte) : Frame m_reportBytes s (State.reportBytes s k payload) := by
  unfold State.reportBytes
  repeat' first
    | with_reducible assumption
    | with_reducible exact Frame.refl _ _
    | (intro x; first
        | (refine Frame.cut (w := m_reportBytes) (s := s) x ?_ ?_
           on_goal 2 => intro hx; clear_value x
           on_goal 1 => unfold x; clear x)
        | clear_value x
        | skip)
    | lift_lets -underBinder
    | (with_reducible apply Frame.after (fr_irqSet ..); (on_goal 2 => decide +kernel))
    | (with_reducible apply Frame.after (fr_offerRec ..); (on_goal 2 => decide +kernel))
    | dsimp -zeta only
    | split

end Sys2Proof.Laws
end

