-- ==== Sys2Proof/Laws/FrameFlags.lean ====
section
/-!
SUPPORT. Sys2Proof/Laws/FrameFlags.lean: what each operation of Machine/Flags.lean leaves unchanged.
-/
namespace Sys2Proof.Laws

set_option Elab.async false
set_option linter.unusedTactic false
set_option linter.unreachableTactic false

open Sys2Proof.Machine

def m_latchLevels : Nat := 0x4000300
theorem fr_latchLevels (s : State) : Frame m_latchLevels s (State.latchLevels s) := by
  unfold State.latchLevels
  repeat' first
    | with_reducible assumption
    | with_reducible exact Frame.refl _ _
    | (intro x; first
        | (refine Frame.cut (w := m_latchLevels) (s := s) x ?_ ?_
           on_goal 2 => intro hx; clear_value x
           on_goal 1 => unfold x; clear x)
        | (refine Frame.cut (w := m_latchLevels) (s := s) x.1 ?_ ?_
           on_goal 2 => intro hx; clear_value x
           on_goal 1 => unfold x; clear x)
        | (refine Frame.cut (w := m_latchLevels) (s := s) x.2 ?_ ?_
           on_goal 2 => intro hx; clear_value x
           on_goal 1 => unfold x; clear x)
        | clear_value x
        | skip)
    | lift_lets -underBinder
    | (with_reducible apply Frame.after (fr_irqSet ..); (on_goal 2 => decide +kernel))
    | (with_reducible apply Frame.forEach; on_goal 2 => intro t a hs)
    | dsimp -zeta only
    | split

def m_newCycle : Nat := 0x4000700
theorem fr_newCycle (s : State) : Frame m_newCycle s (State.newCycle s) := by
  unfold State.newCycle
  repeat' first
    | with_reducible assumption
    | with_reducible exact Frame.refl _ _
    | (with_reducible exact .inl rfl)
    | exact .inr (by decide +kernel)
    | lift_lets -underBinder
    | (with_reducible apply Frame.after (fr_latchLevels ..); (on_goal 2 => decide +kernel))
    | dsimp -zeta only
    | split
    | (rw [mk_put]; with_reducible apply Frame.upd)

end Sys2Proof.Laws
end

