-- ==== Sys2Proof/Laws/FrameSettle.lean ====
section
/-!
SUPPORT. Sys2Proof/Laws/FrameSettle.lean: what each operation of Machine/Settle.lean leaves unchanged.
-/
namespace Sys2Proof.Laws

set_option Elab.async false
set_option linter.unusedTactic false
set_option linter.unreachableTactic false

open Sys2Proof.Machine

def m_setAlignSt : Nat := 0x10
theorem fr_setAlignSt (s : State) (c : Nat) (v : AlignSt) : Frame m_setAlignSt s (State.setAlignSt s c v) := by
  unfold State.setAlignSt
  repeat' first
    | with_reducible assumption
    | with_reducible exact Frame.refl _ _
    | (with_reducible exact .inl rfl)
    | exact .inr (by decide +kernel)
    | (intro x; first
        | (refine Frame.cut (w := m_setAlignSt) (s := s) x ?_ ?_
           on_goal 2 => intro hx; clear_value x
           on_goal 1 => unfold x; clear x)
        | clear_value x
        | skip)
    | lift_lets -underBinder
    | dsimp -zeta only
    | split
    | (rw [mk_put]; with_reducible apply Frame.upd)

def m_setLabelSt : Nat := 0x10
theorem fr_setLabelSt (s : State) (c : Nat) (v : LabelSt) : Frame m_setLabelSt s (State.setLabelSt s c v) := by
  unfold State.setLabelSt
  repeat' first
    | with_reducible assumption
    | with_reducible exact Frame.refl _ _
    | (with_reducible exact .inl rfl)
    | exact .inr (by decide +kernel)
    | (intro x; first
        | (refine Frame.cut (w := m_setLabelSt) (s := s) x ?_ ?_
           on_goal 2 => intro hx; clear_value x
           on_goal 1 => unfold x; clear x)
        | clear_value x
        | skip)
    | lift_lets -underBinder
    | dsimp -zeta only
    | split
    | (rw [mk_put]; with_reducible apply Frame.upd)

def m_setDefSt : Nat := 0x10
theorem fr_setDefSt (s : State) (c : Nat) (v : DefSt) : Frame m_setDefSt s (State.setDefSt s c v) := by
  unfold State.setDefSt
  repeat' first
    | with_reducible assumption
    | with_reducible exact Frame.refl _ _
    | (with_reducible exact .inl rfl)
    | exact .inr (by decide +kernel)
    | (intro x; first
        | (refine Frame.cut (w := m_setDefSt) (s := s) x ?_ ?_
           on_goal 2 => intro hx; clear_value x
           on_goal 1 => unfold x; clear x)
        | clear_value x
        | skip)
    | lift_lets -underBinder
    | dsimp -zeta only
    | split
    | (rw [mk_put]; with_reducible apply Frame.upd)

def m_setPmSt : Nat := 0x10
theorem fr_setPmSt (s : State) (c : Nat) (v : PmSt) : Frame m_setPmSt s (State.setPmSt s c v) := by
  unfold State.setPmSt
  repeat' first
    | with_reducible assumption
    | with_reducible exact Frame.refl _ _
    | (with_reducible exact .inl rfl)
    | exact .inr (by decide +kernel)
    | (intro x; first
        | (refine Frame.cut (w := m_setPmSt) (s := s) x ?_ ?_
           on_goal 2 => intro hx; clear_value x
           on_goal 1 => unfold x; clear x)
        | clear_value x
        | skip)
    | lift_lets -underBinder
    | dsimp -zeta only
    | split
    | (rw [mk_put]; with_reducible apply Frame.upd)

def m_setEgSt : Nat := 0x10
theorem fr_setEgSt (s : State) (c : Nat) (v : EgressSt) : Frame m_setEgSt s (State.setEgSt s c v) := by
  unfold State.setEgSt
  repeat' first
    | with_reducible assumption
    | with_reducible exact Frame.refl _ _
    | (with_reducible exact .inl rfl)
    | exact .inr (by decide +kernel)
    | (intro x; first
        | (refine Frame.cut (w := m_setEgSt) (s := s) x ?_ ?_
           on_goal 2 => intro hx; clear_value x
           on_goal 1 => unfold x; clear x)
        | clear_value x
        | skip)
    | lift_lets -underBinder
    | dsimp -zeta only
    | split
    | (rw [mk_put]; with_reducible apply Frame.upd)

def m_setCalSt : Nat := 0x10
theorem fr_setCalSt (s : State) (c : Nat) (v : CalSt) : Frame m_setCalSt s (State.setCalSt s c v) := by
  unfold State.setCalSt
  repeat' first
    | with_reducible assumption
    | with_reducible exact Frame.refl _ _
    | (with_reducible exact .inl rfl)
    | exact .inr (by decide +kernel)
    | (intro x; first
        | (refine Frame.cut (w := m_setCalSt) (s := s) x ?_ ?_
           on_goal 2 => intro hx; clear_value x
           on_goal 1 => unfold x; clear x)
        | clear_value x
        | skip)
    | lift_lets -underBinder
    | dsimp -zeta only
    | split
    | (rw [mk_put]; with_reducible apply Frame.upd)

def m_setMapSt : Nat := 0x10
theorem fr_setMapSt (s : State) (c : Nat) (v : MapSt) : Frame m_setMapSt s (State.setMapSt s c v) := by
  unfold State.setMapSt
  repeat' first
    | with_reducible assumption
    | with_reducible exact Frame.refl _ _
    | (with_reducible exact .inl rfl)
    | exact .inr (by decide +kernel)
    | (intro x; first
        | (refine Frame.cut (w := m_setMapSt) (s := s) x ?_ ?_
           on_goal 2 => intro hx; clear_value x
           on_goal 1 => unfold x; clear x)
        | clear_value x
        | skip)
    | lift_lets -underBinder
    | dsimp -zeta only
    | split
    | (rw [mk_put]; with_reducible apply Frame.upd)

def m_setGrp : Nat := 0x20
theorem fr_setGrp (s : State) (g : Nat) (v : QsGrp) : Frame m_setGrp s (State.setGrp s g v) := by
  unfold State.setGrp
  repeat' first
    | with_reducible assumption
    | with_reducible exact Frame.refl _ _
    | (with_reducible exact .inl rfl)
    | exact .inr (by decide +kernel)
    | (intro x; first
        | (refine Frame.cut (w := m_setGrp) (s := s) x ?_ ?_
           on_goal 2 => intro hx; clear_value x
           on_goal 1 => unfold x; clear x)
        | clear_value x
        | skip)
    | lift_lets -underBinder
    | dsimp -zeta only
    | split
    | (rw [mk_put]; with_reducible apply Frame.upd)

def m_setHost : Nat := 0x4000
theorem fr_setHost (s : State) (h : Nat) (v : TwigHost) : Frame m_setHost s (State.setHost s h v) := by
  unfold State.setHost
  repeat' first
    | with_reducible assumption
    | with_reducible exact Frame.refl _ _
    | (with_reducible exact .inl rfl)
    | exact .inr (by decide +kernel)
    | (intro x; first
        | (refine Frame.cut (w := m_setHost) (s := s) x ?_ ?_
           on_goal 2 => intro hx; clear_value x
           on_goal 1 => unfold x; clear x)
        | clear_value x
        | skip)
    | lift_lets -underBinder
    | dsimp -zeta only
    | split
    | (rw [mk_put]; with_reducible apply Frame.upd)

def m_compareLabels : Nat := 0x10
theorem fr_compareLabels (s : State) (c : Nat) (p : Entry) (e : Entry) : Frame m_compareLabels s (State.compareLabels s c p e) := by
  unfold State.compareLabels
  repeat' first
    | with_reducible assumption
    | with_reducible exact Frame.refl _ _
    | (intro x; first
        | (refine Frame.cut (w := m_compareLabels) (s := s) x ?_ ?_
           on_goal 2 => intro hx; clear_value x
           on_goal 1 => unfold x; clear x)
        | clear_value x
        | skip)
    | lift_lets -underBinder
    | (with_reducible apply Frame.after (fr_setLabelSt ..); (on_goal 2 => decide +kernel))

def m_holdSuppressed : Nat := 0x10
theorem fr_holdSuppressed (s : State) (c : Nat) (p : Entry) (defs : Nat) : Frame m_holdSuppressed s (State.holdSuppressed s c p defs) := by
  unfold State.holdSuppressed
  repeat' first
    | with_reducible assumption
    | with_reducible exact Frame.refl _ _
    | (intro x; first
        | (refine Frame.cut (w := m_holdSuppressed) (s := s) x ?_ ?_
           on_goal 2 => intro hx; clear_value x
           on_goal 1 => unfold x; clear x)
        | (refine Frame.cut (w := m_holdSuppressed) (s := s) x.1 ?_ ?_
           on_goal 2 => intro hx; clear_value x
           on_goal 1 => unfold x; clear x)
        | (refine Frame.cut (w := m_holdSuppressed) (s := s) x.2 ?_ ?_
           on_goal 2 => intro hx; clear_value x
           on_goal 1 => unfold x; clear x)
        | clear_value x
        | skip)
    | lift_lets -underBinder
    | (with_reducible apply Frame.after (fr_setLabelSt ..); (on_goal 2 => decide +kernel))
    | (with_reducible apply Frame.after (fr_setDefSt ..); (on_goal 2 => decide +kernel))

def m_reportDefects : Nat := 0x8000000000000000000000000400000000000000000000000000000004000380
theorem fr_reportDefects (s : State) (c : Nat) (layer : Nat) (quadrant : Nat) (old : Nat) (new : Nat) : Frame m_reportDefects s (State.reportDefects s c layer quadrant old new) := by
  unfold State.reportDefects
  repeat' first
    | with_reducible assumption
    | with_reducible exact Frame.refl _ _
    | lift_lets -underBinder
    | (with_reducible apply Frame.setS; (on_goal 2 => decide +kernel))
    | (with_reducible apply Frame.after (fr_report ..); (on_goal 2 => decide +kernel))
    | (with_reducible apply Frame.after (fr_irqSet ..); (on_goal 2 => decide +kernel))
    | (with_reducible apply Frame.forEach; on_goal 2 => intro t a hs)
    | dsimp -zeta only
    | split

def m_showFramer : Nat := 0xa4000000000000000000000000000000000000000000000000000000000000000
theorem fr_showFramer (s : State) (c : Nat) (p : Entry) (e : Entry) (defs : Nat) (forced : Bool) : Frame m_showFramer s (State.showFramer s c p e defs forced) := by
  unfold State.showFramer
  repeat' first
    | with_reducible assumption
    | with_reducible exact Frame.refl _ _
    | (intro x; first
        | (refine Frame.cut (w := m_showFramer) (s := s) x ?_ ?_
           on_goal 2 => intro hx; clear_value x
           on_goal 1 => unfold x; clear x)
        | clear_value x
        | skip)
    | lift_lets -underBinder
    | (with_reducible apply Frame.setBS; (on_goal 2 => decide +kernel))
    | (with_reducible apply Frame.setWordS; (on_goal 2 => decide +kernel))
    | (with_reducible apply Frame.setS; (on_goal 2 => decide +kernel))

def m_startSearch : Nat := 0x8010000000000000000000000000000000000000000000000000000000000000010
theorem fr_startSearch (s : State) (c : Nat) (n : Nat) : Frame m_startSearch s (State.startSearch s c n) := by
  unfold State.startSearch
  repeat' first
    | with_reducible assumption
    | with_reducible exact Frame.refl _ _
    | (intro x; first
        | (refine Frame.cut (w := m_startSearch) (s := s) x ?_ ?_
           on_goal 2 => intro hx; clear_value x
           on_goal 1 => unfold x; clear x)
        | clear_value x
        | skip)
    | lift_lets -underBinder
    | (with_reducible apply Frame.setBS; (on_goal 2 => decide +kernel))
    | (with_reducible apply Frame.setS; (on_goal 2 => decide +kernel))
    | (with_reducible apply Frame.after (fr_setAlignSt ..); (on_goal 2 => decide +kernel))
    | dsimp -zeta only
    | split

def m_holdAlign : Nat := 0x8010000000000000000000000000000000000000000000000000000000000000010
theorem fr_holdAlign (s : State) (c : Nat) (e : Entry) : Frame m_holdAlign s (State.holdAlign s c e) := by
  unfold State.holdAlign
  repeat' first
    | with_reducible assumption
    | with_reducible exact Frame.refl _ _
    | (intro x; first
        | (refine Frame.cut (w := m_holdAlign) (s := s) x ?_ ?_
           on_goal 2 => intro hx; clear_value x
           on_goal 1 => unfold x; clear x)
        | clear_value x
        | skip)
    | lift_lets -underBinder
    | (with_reducible apply Frame.after (fr_setAlignSt ..); (on_goal 2 => decide +kernel))
    | (with_reducible apply Frame.after (fr_startSearch ..); (on_goal 2 => decide +kernel))
    | dsimp -zeta only
    | split

def m_settleCtx : Nat := 0x80bc000000000000000000000000400000000000000000000000000000004000390
theorem fr_settleCtx (s : State) (e : Entry) : Frame m_settleCtx s (State.settleCtx s e) := by
  unfold State.settleCtx
  repeat' first
    | with_reducible assumption
    | with_reducible exact Frame.refl _ _
    | (intro x; first
        | (refine Frame.cut (w := m_settleCtx) (s := s) x ?_ ?_
           on_goal 2 => intro hx; clear_value x
           on_goal 1 => unfold x; clear x)
        | clear_value x
        | skip)
    | lift_lets -underBinder
    | (with_reducible apply Frame.after (fr_holdSuppressed ..); (on_goal 2 => decide +kernel))
    | (with_reducible apply Frame.after (fr_setPmSt ..); (on_goal 2 => decide +kernel))
    | (with_reducible apply Frame.after (fr_setDefSt ..); (on_goal 2 => decide +kernel))
    | (with_reducible apply Frame.after (fr_holdAlign ..); (on_goal 2 => decide +kernel))
    | (with_reducible apply Frame.after (fr_showFramer ..); (on_goal 2 => decide +kernel))
    | (with_reducible apply Frame.after (fr_reportDefects ..); (on_goal 2 => decide +kernel))
    | dsimp -zeta only
    | split

def m_markFailed : Nat := 0xc000
theorem fr_markFailed (s : State) (e : Entry) : Frame m_markFailed s (State.markFailed s e) := by
  unfold State.markFailed
  repeat' first
    | with_reducible assumption
    | with_reducible exact Frame.refl _ _
    | (with_reducible exact .inl rfl)
    | exact .inr (by decide +kernel)
    | (intro x; first
        | (refine Frame.cut (w := m_markFailed) (s := s) x ?_ ?_
           on_goal 2 => intro hx; clear_value x
           on_goal 1 => unfold x; clear x)
        | clear_value x
        | skip)
    | lift_lets -underBinder
    | (with_reducible apply Frame.after (fr_setHost ..); (on_goal 2 => decide +kernel))
    | dsimp -zeta only
    | split
    | (rw [mk_put]; with_reducible apply Frame.upd)

def m_settleDefects : Nat := 0x80bc00000000000000000000000040000000000000000000000000000000400c390
theorem fr_settleDefects (s : State) : Frame m_settleDefects s (State.settleDefects s) := by
  unfold State.settleDefects
  repeat' first
    | with_reducible assumption
    | with_reducible exact Frame.refl _ _
    | lift_lets -underBinder
    | (with_reducible apply Frame.after (fr_settleCtx ..); (on_goal 2 => decide +kernel))
    | (with_reducible apply Frame.after (fr_markFailed ..); (on_goal 2 => decide +kernel))
    | (with_reducible apply Frame.forEach; on_goal 2 => intro t a hs)

def m_setEvgMerge : Nat := 0x10000
theorem fr_setEvgMerge (s : State) (m : Nat) (v : EvgMerge) : Frame m_setEvgMerge s (State.setEvgMerge s m v) := by
  unfold State.setEvgMerge
  repeat' first
    | with_reducible assumption
    | with_reducible exact Frame.refl _ _
    | (with_reducible exact .inl rfl)
    | exact .inr (by decide +kernel)
    | (intro x; first
        | (refine Frame.cut (w := m_setEvgMerge) (s := s) x ?_ ?_
           on_goal 2 => intro hx; clear_value x
           on_goal 1 => unfold x; clear x)
        | clear_value x
        | skip)
    | lift_lets -underBinder
    | dsimp -zeta only
    | split
    | (rw [mk_put]; with_reducible apply Frame.upd)

def m_showMerge : Nat := 0xb800000000000004000300
theorem fr_showMerge (s : State) (e : Entry) : Frame m_showMerge s (State.showMerge s e) := by
  unfold State.showMerge
  repeat' first
    | with_reducible assumption
    | with_reducible exact Frame.refl _ _
    | (intro x; first
        | (refine Frame.cut (w := m_showMerge) (s := s) x ?_ ?_
           on_goal 2 => intro hx; clear_value x
           on_goal 1 => unfold x; clear x)
        | clear_value x
        | skip)
    | lift_lets -underBinder
    | (with_reducible apply Frame.setBS; (on_goal 2 => decide +kernel))
    | (with_reducible apply Frame.setS; (on_goal 2 => decide +kernel))
    | (with_reducible apply Frame.after (fr_irqSet ..); (on_goal 2 => decide +kernel))
    | dsimp -zeta only
    | split

def m_settleMerge : Nat := 0xb800000000000004010300
theorem fr_settleMerge (s : State) (e : Entry) : Frame m_settleMerge s (State.settleMerge s e) := by
  unfold State.settleMerge
  repeat' first
    | with_reducible assumption
    | with_reducible exact Frame.refl _ _
    | (intro x; first
        | (refine Frame.cut (w := m_settleMerge) (s := s) x ?_ ?_
           on_goal 2 => intro hx; clear_value x
           on_goal 1 => unfold x; clear x)
        | clear_value x
        | skip)
    | lift_lets -underBinder
    | (with_reducible apply Frame.after (fr_showMerge ..); (on_goal 2 => decide +kernel))
    | (with_reducible apply Frame.after (fr_setEvgMerge ..); (on_goal 2 => decide +kernel))

def m_showMerges : Nat := 0xb800000000000004010300
theorem fr_showMerges (s : State) : Frame m_showMerges s (State.showMerges s) := by
  unfold State.showMerges
  repeat' first
    | with_reducible assumption
    | with_reducible exact Frame.refl _ _
    | lift_lets -underBinder
    | (with_reducible apply Frame.after (fr_settleMerge ..); (on_goal 2 => decide +kernel))
    | (with_reducible apply Frame.forEach; on_goal 2 => intro t a hs)

def m_setFop : Nat := 0x400000000000000000000080000000004000380
theorem fr_setFop (s : State) (g : Nat) (pm on : Bool) : Frame m_setFop s (State.setFop s g pm on) := by
  have h : ∀ f l, covered m_setFop f = true →
      Frame m_setFop s (if s.on f g == on then s else (s.setB f on g).report kAPS_FAIL l) := by
    intro f l hf
    split
    · exact Frame.refl _ _
    · exact (Frame.setBS (Frame.refl _ _) hf).step (fr_report ..) (by decide +kernel)
  exact h _ _ (by cases pm <;> decide +kernel)

def m_endFopNr : Nat := 0x400000000000000000000080000000004000380
theorem fr_endFopNr (s : State) (e : Entry) : Frame m_endFopNr s (State.endFopNr s e) := by
  unfold State.endFopNr
  repeat' first
    | with_reducible assumption
    | with_reducible exact Frame.refl _ _
    | lift_lets -underBinder
    | (with_reducible apply Frame.after (fr_setFop ..); (on_goal 2 => decide +kernel))
    | dsimp -zeta only
    | split

def m_evalGroup : Nat := 0x4000000000000000000000800000000040003a0
theorem fr_evalGroup (s : State) (e : Entry) : Frame m_evalGroup s (State.evalGroup s e) := by
  unfold State.evalGroup
  repeat' first
    | with_reducible assumption
    | with_reducible exact Frame.refl _ _
    | (intro x; first
        | (refine Frame.cut (w := m_evalGroup) (s := s) x ?_ ?_
           on_goal 2 => intro hx; clear_value x
           on_goal 1 => unfold x; clear x)
        | (refine Frame.cut (w := m_evalGroup) (s := s) x.1 ?_ ?_
           on_goal 2 => intro hx; clear_value x
           on_goal 1 => unfold x; clear x)
        | (refine Frame.cut (w := m_evalGroup) (s := s) x.2 ?_ ?_
           on_goal 2 => intro hx; clear_value x
           on_goal 1 => unfold x; clear x)
        | clear_value x
        | skip)
    | lift_lets -underBinder
    | (with_reducible apply Frame.setBS; (on_goal 2 => decide +kernel))
    | (with_reducible apply Frame.setS; (on_goal 2 => decide +kernel))
    | (with_reducible apply Frame.after (fr_endFopNr ..); (on_goal 2 => decide +kernel))
    | (with_reducible apply Frame.after (fr_setGrp ..); (on_goal 2 => decide +kernel))
    | dsimp -zeta only
    | split

def m_settleGroup : Nat := 0x4000000000000000000005800000000040003a0
theorem fr_settleGroup (s : State) (e : Entry) : Frame m_settleGroup s (State.settleGroup s e) := by
  unfold State.settleGroup
  repeat' first
    | with_reducible assumption
    | with_reducible exact Frame.refl _ _
    | (intro x; first
        | (refine Frame.cut (w := m_settleGroup) (s := s) x ?_ ?_
           on_goal 2 => intro hx; clear_value x
           on_goal 1 => unfold x; clear x)
        | clear_value x
        | skip)
    | lift_lets -underBinder
    | (with_reducible apply Frame.setBS; (on_goal 2 => decide +kernel))
    | (with_reducible apply Frame.setWordS; (on_goal 2 => decide +kernel))
    | (with_reducible apply Frame.incS; (on_goal 2 => decide +kernel))
    | (with_reducible apply Frame.after (fr_evalGroup ..); (on_goal 2 => decide +kernel))
    | (with_reducible apply Frame.after (fr_setGrp ..); (on_goal 2 => decide +kernel))

def m_settleGroups : Nat := 0x4000000000000000000005800000000040003a0
theorem fr_settleGroups (s : State) : Frame m_settleGroups s (State.settleGroups s) := by
  unfold State.settleGroups
  repeat' first
    | with_reducible assumption
    | with_reducible exact Frame.refl _ _
    | lift_lets -underBinder
    | (with_reducible apply Frame.after (fr_settleGroup ..); (on_goal 2 => decide +kernel))
    | (with_reducible apply Frame.forEach; on_goal 2 => intro t a hs)

def m_settle : Nat := 0x80bc00000000000000000000000040000000000000000b80058000000000401c3b0
theorem fr_settle (s : State) : Frame m_settle s (State.settle s) := by
  unfold State.settle
  repeat' first
    | with_reducible assumption
    | with_reducible exact Frame.refl _ _
    | lift_lets -underBinder
    | (with_reducible apply Frame.after (fr_settleGroups ..); (on_goal 2 => decide +kernel))
    | (with_reducible apply Frame.after (fr_showMerges ..); (on_goal 2 => decide +kernel))
    | (with_reducible apply Frame.after (fr_settleDefects ..); (on_goal 2 => decide +kernel))

end Sys2Proof.Laws
end

