-- ==== Sys2Proof/Laws/FrameMapper.lean ====
section
/-!
SUPPORT. Sys2Proof/Laws/FrameMapper.lean: what each operation of Machine/Mapper.lean leaves unchanged.
-/
namespace Sys2Proof.Laws

set_option Elab.async false
set_option linter.unusedTactic false
set_option linter.unreachableTactic false

open Sys2Proof.Machine

def m_pull : Nat := 0x810
theorem fr_pull (s : State) (c : Nat) (n : Nat) : Frame m_pull s (State.pull s c n).2 := by
  unfold State.pull
  repeat' first
    | with_reducible assumption
    | with_reducible exact Frame.refl _ _
    | (intro x; first
        | (refine Frame.cut (w := m_pull) (s := s) x ?_ ?_
           on_goal 2 => intro hx; clear_value x
           on_goal 1 => unfold x; clear x)
        | clear_value x
        | skip)
    | lift_lets -underBinder
    | (with_reducible apply Frame.after (fr_draw ..); (on_goal 2 => decide +kernel))
    | (with_reducible apply Frame.after (fr_setMapSt ..); (on_goal 2 => decide +kernel))
    | dsimp -zeta only
    | split

def m_feed : Nat := 0x10
theorem fr_feed (s : State) (c : Nat) (n : Nat) (v : Nat) : Frame m_feed s (State.feed s c n v) := by
  unfold State.feed
  repeat' first
    | with_reducible assumption
    | with_reducible exact Frame.refl _ _
    | (intro x; first
        | (refine Frame.cut (w := m_feed) (s := s) x ?_ ?_
           on_goal 2 => intro hx; clear_value x
           on_goal 1 => unfold x; clear x)
        | clear_value x
        | skip)
    | lift_lets -underBinder
    | (with_reducible apply Frame.after (fr_setMapSt ..); (on_goal 2 => decide +kernel))

def m_adaptOvf : Nat := 0x2000000000000000000000000000400000000000000000000000000000004000380
theorem fr_adaptOvf (s : State) (c : Nat) : Frame m_adaptOvf s (State.adaptOvf s c) := by
  unfold State.adaptOvf
  repeat' first
    | with_reducible assumption
    | with_reducible exact Frame.refl _ _
    | lift_lets -underBinder
    | (with_reducible apply Frame.setBS; (on_goal 2 => decide +kernel))
    | (with_reducible apply Frame.after (fr_report ..); (on_goal 2 => decide +kernel))

def m_adaptIn : Nat := 0x2000000000000000000000000000400000000000000000000000000000004000390
theorem fr_adaptIn (s : State) (c : Nat) (b : W66) : Frame m_adaptIn s (State.adaptIn s c b) := by
  unfold State.adaptIn
  repeat' first
    | with_reducible assumption
    | with_reducible exact Frame.refl _ _
    | (intro x; first
        | (refine Frame.cut (w := m_adaptIn) (s := s) x ?_ ?_
           on_goal 2 => intro hx; clear_value x
           on_goal 1 => unfold x; clear x)
        | clear_value x
        | skip)
    | lift_lets -underBinder
    | (with_reducible apply Frame.incS; (on_goal 2 => decide +kernel))
    | (with_reducible apply Frame.after (fr_setMapSt ..); (on_goal 2 => decide +kernel))
    | (with_reducible apply Frame.after (fr_adaptOvf ..); (on_goal 2 => decide +kernel))
    | dsimp -zeta only
    | split

def m_adaptOut : Nat := 0x2000000000000000000000000000000000000000000000000000000000000000810
theorem fr_adaptOut (s : State) (c : Nat) : Frame m_adaptOut s (State.adaptOut s c).2 := by
  unfold State.adaptOut
  repeat' first
    | with_reducible assumption
    | with_reducible exact Frame.refl _ _
    | (intro x; first
        | (refine Frame.cut (w := m_adaptOut) (s := s) x ?_ ?_
           on_goal 2 => intro hx; clear_value x
           on_goal 1 => unfold x; clear x)
        | clear_value x
        | skip)
    | lift_lets -underBinder
    | (with_reducible apply Frame.incS; (on_goal 2 => decide +kernel))
    | (with_reducible apply Frame.after (fr_draw ..); (on_goal 2 => decide +kernel))
    | (with_reducible apply Frame.after (fr_setMapSt ..); (on_goal 2 => decide +kernel))
    | dsimp -zeta only
    | split

def m_adaptTake : Nat := 0x2000000000000000000000000000000000000000000000000000000000000000810
theorem fr_adaptTake (s : State) (c n : Nat) : Frame m_adaptTake s (s.adaptTake c n).2 := by
  induction n with
  | zero => exact Frame.refl _ _
  | succ n ih =>
    unfold State.adaptTake
    exact ih.step (fr_adaptOut ..) (by decide +kernel)

def m_drainBlocks : Nat := 0x2000000000000000000000000000400000000000000000000000000000004000390
theorem fr_drainBlocks (s : State) (c n : Nat) : Frame m_drainBlocks s (s.drainBlocks c n) := by
  induction n generalizing s with
  | zero => exact Frame.refl _ _
  | succ n ih =>
    unfold State.drainBlocks
    dsimp only
    split
    · exact Frame.refl _ _
    · refine Frame.step (Frame.step ?_ (fr_adaptIn ..) (by decide +kernel)) (ih _) (Nat.or_self _)
      exact (fr_setMapSt ..).mono (by decide +kernel)

def m_showCm : Nat := 0x1000000000000000000000000000000000000000000000000000000000000000000
theorem fr_showCm (s : State) (e : Entry) (cm : Nat) : Frame m_showCm s (State.showCm s e cm) := by
  unfold State.showCm
  repeat' first
    | with_reducible assumption
    | with_reducible exact Frame.refl _ _
    | lift_lets -underBinder
    | (with_reducible apply Frame.setS; (on_goal 2 => decide +kernel))
    | dsimp -zeta only
    | split

def m_takeJc : Nat := 0x3000000000000000000000000000400000000000000000000000000000004000390
theorem fr_takeJc (s : State) (c : Nat) (x : Nat × Sys2Proof.JcIn) : Frame m_takeJc s (State.takeJc s c x) := by
  unfold State.takeJc
  repeat' first
    | with_reducible assumption
    | with_reducible exact Frame.refl _ _
    | (intro x; first
        | (refine Frame.cut (w := m_takeJc) (s := s) x ?_ ?_
           on_goal 2 => intro hx; clear_value x
           on_goal 1 => unfold x; clear x)
        | (refine Frame.cut (w := m_takeJc) (s := s) x.1 ?_ ?_
           on_goal 2 => intro hx; clear_value x
           on_goal 1 => unfold x; clear x)
        | (refine Frame.cut (w := m_takeJc) (s := s) x.2 ?_ ?_
           on_goal 2 => intro hx; clear_value x
           on_goal 1 => unfold x; clear x)
        | clear_value x
        | skip)
    | lift_lets -underBinder
    | (with_reducible apply Frame.incS; (on_goal 2 => decide +kernel))
    | (with_reducible apply Frame.after (fr_feed ..); (on_goal 2 => decide +kernel))
    | (with_reducible apply Frame.after (fr_drainBlocks ..); (on_goal 2 => decide +kernel))
    | (with_reducible apply Frame.after (fr_setMapSt ..); (on_goal 2 => decide +kernel))
    | (with_reducible apply Frame.after (fr_showCm ..); (on_goal 2 => decide +kernel))
    | (with_reducible apply Frame.forEach; on_goal 2 => intro t a hs)
    | dsimp -zeta only
    | split

def m_mapClient : Nat := 0x1000000000000000000000000000000000000000000000000000000000000000810
theorem fr_mapClient (s : State) (e : Entry) : Frame m_mapClient s (State.mapClient s e).2 := by
  unfold State.mapClient
  repeat' first
    | with_reducible assumption
    | with_reducible exact Frame.refl _ _
    | (intro x; first
        | (refine Frame.cut (w := m_mapClient) (s := s) x ?_ ?_
           on_goal 2 => intro hx; clear_value x
           on_goal 1 => unfold x; clear x)
        | (refine Frame.cut (w := m_mapClient) (s := s) x.1 ?_ ?_
           on_goal 2 => intro hx; clear_value x
           on_goal 1 => unfold x; clear x)
        | (refine Frame.cut (w := m_mapClient) (s := s) x.2 ?_ ?_
           on_goal 2 => intro hx; clear_value x
           on_goal 1 => unfold x; clear x)
        | clear_value x
        | skip)
    | lift_lets -underBinder
    | (with_reducible apply Frame.after (fr_setMapSt ..); (on_goal 2 => decide +kernel))
    | (with_reducible apply Frame.after (fr_pull ..); (on_goal 2 => decide +kernel))
    | (with_reducible apply Frame.after (fr_showCm ..); (on_goal 2 => decide +kernel))
    | (with_reducible apply Frame.foldl2; on_goal 2 => intro t b hs)
    | dsimp -zeta only
    | split

def m_hostW : Nat := 0x10
theorem fr_hostW (s : State) (c : Nat) (b : W66) : Frame m_hostW s (State.hostW s c b) := by
  unfold State.hostW
  repeat' first
    | with_reducible assumption
    | with_reducible exact Frame.refl _ _
    | lift_lets -underBinder
    | (with_reducible apply Frame.after (fr_feed ..); (on_goal 2 => decide +kernel))
    | dsimp -zeta only
    | split

def m_takeSlot : Nat := 0x2000000000000000000000000000400000000000000000000000000000004000390
theorem fr_takeSlot (s : State) (x : Nat × Nat × W66) : Frame m_takeSlot s (State.takeSlot s x) := by
  unfold State.takeSlot
  repeat' first
    | with_reducible assumption
    | with_reducible exact Frame.refl _ _
    | (intro x; first
        | (refine Frame.cut (w := m_takeSlot) (s := s) x ?_ ?_
           on_goal 2 => intro hx; clear_value x
           on_goal 1 => unfold x; clear x)
        | (refine Frame.cut (w := m_takeSlot) (s := s) x.1 ?_ ?_
           on_goal 2 => intro hx; clear_value x
           on_goal 1 => unfold x; clear x)
        | (refine Frame.cut (w := m_takeSlot) (s := s) x.2 ?_ ?_
           on_goal 2 => intro hx; clear_value x
           on_goal 1 => unfold x; clear x)
        | clear_value x
        | skip)
    | lift_lets -underBinder
    | (with_reducible apply Frame.after (fr_hostW ..); (on_goal 2 => decide +kernel))
    | (with_reducible apply Frame.after (fr_adaptIn ..); (on_goal 2 => decide +kernel))
    | dsimp -zeta only
    | split

def m_streamPeriod : Nat := 0x2000000000000000000000000000000000000000000000000000000000000000810
theorem fr_streamPeriod (s : State) (e : Entry) : Frame m_streamPeriod s (State.streamPeriod s e).2 := by
  unfold State.streamPeriod
  repeat' first
    | with_reducible assumption
    | with_reducible exact Frame.refl _ _
    | (intro x; first
        | (refine Frame.cut (w := m_streamPeriod) (s := s) x ?_ ?_
           on_goal 2 => intro hx; clear_value x
           on_goal 1 => unfold x; clear x)
        | clear_value x
        | skip)
    | lift_lets -underBinder
    | (with_reducible apply Frame.after (fr_setMapSt ..); (on_goal 2 => decide +kernel))
    | (with_reducible apply Frame.after (fr_adaptTake ..); (on_goal 2 => decide +kernel))
    | dsimp -zeta only
    | split

def m_streamPeriods : Nat := 0x2000000000000000000000000000400000000000000000000000000000004000b90
theorem fr_streamPeriods (s : State) (x : Sys2Proof.GridIn) : Frame m_streamPeriods s (State.streamPeriods s x).2 := by
  unfold State.streamPeriods
  repeat' first
    | with_reducible assumption
    | with_reducible exact Frame.refl _ _
    | (intro x; first
        | (refine Frame.cut (w := m_streamPeriods) (s := s) x ?_ ?_
           on_goal 2 => intro hx; clear_value x
           on_goal 1 => unfold x; clear x)
        | (refine Frame.cut (w := m_streamPeriods) (s := s) x.1 ?_ ?_
           on_goal 2 => intro hx; clear_value x
           on_goal 1 => unfold x; clear x)
        | (refine Frame.cut (w := m_streamPeriods) (s := s) x.2 ?_ ?_
           on_goal 2 => intro hx; clear_value x
           on_goal 1 => unfold x; clear x)
        | clear_value x
        | skip)
    | lift_lets -underBinder
    | (with_reducible apply Frame.after (fr_feed ..); (on_goal 2 => decide +kernel))
    | (with_reducible apply Frame.after (fr_streamPeriod ..); (on_goal 2 => decide +kernel))
    | (with_reducible apply Frame.after (fr_takeSlot ..); (on_goal 2 => decide +kernel))
    | (with_reducible apply Frame.after (fr_adaptIn ..); (on_goal 2 => decide +kernel))
    | (with_reducible apply Frame.forEach; on_goal 2 => intro t a hs)
    | (with_reducible apply Frame.foldl2; on_goal 2 => intro t b hs)
    | dsimp -zeta only
    | split

end Sys2Proof.Laws
end

