-- ==== Sys2Proof/Laws/FrameFabric.lean ====
section
/-!
SUPPORT. Sys2Proof/Laws/FrameFabric.lean: what each operation of Machine/Fabric.lean leaves unchanged.
-/
namespace Sys2Proof.Laws

set_option Elab.async false
set_option linter.unusedTactic false
set_option linter.unreachableTactic false

open Sys2Proof.Machine

def m_steer : Nat := 0x108000000000000
theorem fr_steer (s : State) (ls ph : Nat) : Frame m_steer s (State.steer s ls ph) := by
  refine ((Frame.refl _ _).setS ?_).setS (by decide +kernel)
  unfold steerFld
  split <;> decide +kernel

def m_wipeSlice : Nat := 0x2000
theorem fr_wipeSlice (s : State) (ph : Nat) : Frame m_wipeSlice s (State.wipeSlice s ph) := by
  unfold State.wipeSlice
  repeat' first
    | with_reducible assumption
    | with_reducible exact Frame.refl _ _
    | (with_reducible exact .inl rfl)
    | exact .inr (by decide +kernel)
    | (intro x; first
        | (refine Frame.cut (w := m_wipeSlice) (s := s) x ?_ ?_
           on_goal 2 => intro hx; clear_value x
           on_goal 1 => unfold x; clear x)
        | skip)
    | lift_lets -underBinder
    | (with_reducible apply Frame.forEach; on_goal 2 => intro t a hs)
    | dsimp -zeta only
    | split
    | (rw [mk_put]; with_reducible apply Frame.upd)

def m_haltCoppice : Nat := 0x10000000000000
theorem fr_haltCoppice (s : State) : Frame m_haltCoppice s (State.haltCoppice s) := by
  unfold State.haltCoppice
  repeat' first
    | with_reducible assumption
    | with_reducible exact Frame.refl _ _
    | lift_lets -underBinder
    | (with_reducible apply Frame.setBS; (on_goal 2 => decide +kernel))
    | (with_reducible apply Frame.setS; (on_goal 2 => decide +kernel))

def m_sliceFail : Nat := 0x400000000000000000000000100000004000380
theorem fr_sliceFail (s : State) (ph : Nat) (cause : Nat) (count : Nat) : Frame m_sliceFail s (State.sliceFail s ph cause count) := by
  unfold State.sliceFail
  repeat' first
    | with_reducible assumption
    | with_reducible exact Frame.refl _ _
    | (intro x; first
        | (refine Frame.cut (w := m_sliceFail) (s := s) x ?_ ?_
           on_goal 2 => intro hx; clear_value x
           on_goal 1 => unfold x; clear x)
        | clear_value x
        | skip)
    | lift_lets -underBinder
    | (with_reducible apply Frame.setS; (on_goal 2 => decide +kernel))
    | (with_reducible apply Frame.after (fr_report ..); (on_goal 2 => decide +kernel))

def m_degraded : Nat := 0x400000000000000000000000000000004002380
theorem fr_degraded (s : State) (ph : Nat) : Frame m_degraded s (State.degraded s ph) := by
  unfold State.degraded
  repeat' first
    | with_reducible assumption
    | with_reducible exact Frame.refl _ _
    | (with_reducible exact .inl rfl)
    | exact .inr (by decide +kernel)
    | lift_lets -underBinder
    | (with_reducible apply Frame.after (fr_report ..); (on_goal 2 => decide +kernel))
    | dsimp -zeta only
    | split
    | (rw [mk_put]; with_reducible apply Frame.upd)

def m_abandonOverlap : Nat := 0x110000000002000
theorem fr_abandonOverlap (s : State) : Frame m_abandonOverlap s (State.abandonOverlap s) := by
  unfold State.abandonOverlap
  repeat' first
    | with_reducible assumption
    | with_reducible exact Frame.refl _ _
    | (intro x; first
        | (refine Frame.cut (w := m_abandonOverlap) (s := s) x ?_ ?_
           on_goal 2 => intro hx; clear_value x
           on_goal 1 => unfold x; clear x)
        | clear_value x
        | skip)
    | lift_lets -underBinder
    | (with_reducible apply Frame.setS; (on_goal 2 => decide +kernel))
    | (with_reducible apply Frame.after (fr_wipeSlice ..); (on_goal 2 => decide +kernel))

def m_steerToSpare : Nat := 0x400000000000000000000000118000004002380
theorem fr_steerToSpare (s : State) (ph : Nat) (cause : Nat) (count : Nat) : Frame m_steerToSpare s (State.steerToSpare s ph cause count) := by
  unfold State.steerToSpare
  repeat' first
    | with_reducible assumption
    | with_reducible exact Frame.refl _ _
    | (intro x; first
        | (refine Frame.cut (w := m_steerToSpare) (s := s) x ?_ ?_
           on_goal 2 => intro hx; clear_value x
           on_goal 1 => unfold x; clear x)
        | clear_value x
        | skip)
    | lift_lets -underBinder
    | (with_reducible apply Frame.setS; (on_goal 2 => decide +kernel))
    | (with_reducible apply Frame.after (fr_haltCoppice ..); (on_goal 2 => decide +kernel))
    | (with_reducible apply Frame.after (fr_wipeSlice ..); (on_goal 2 => decide +kernel))
    | (with_reducible apply Frame.after (fr_sliceFail ..); (on_goal 2 => decide +kernel))
    | (with_reducible apply Frame.after (fr_steer ..); (on_goal 2 => decide +kernel))

def m_sliceFault : Nat := 0x400000000000000000000000118000004002380
theorem fr_sliceFault (s : State) (ph : Nat) (cause : Nat) (count : Nat) : Frame m_sliceFault s (State.sliceFault s ph cause count) := by
  unfold State.sliceFault
  repeat' first
    | with_reducible assumption
    | with_reducible exact Frame.refl _ _
    | (intro x; first
        | (refine Frame.cut (w := m_sliceFault) (s := s) x ?_ ?_
           on_goal 2 => intro hx; clear_value x
           on_goal 1 => unfold x; clear x)
        | clear_value x
        | skip)
    | lift_lets -underBinder
    | (with_reducible apply Frame.setS; (on_goal 2 => decide +kernel))
    | (with_reducible apply Frame.after (fr_haltCoppice ..); (on_goal 2 => decide +kernel))
    | (with_reducible apply Frame.after (fr_abandonOverlap ..); (on_goal 2 => decide +kernel))
    | (with_reducible apply Frame.after (fr_steerToSpare ..); (on_goal 2 => decide +kernel))
    | (with_reducible apply Frame.after (fr_degraded ..); (on_goal 2 => decide +kernel))
    | (with_reducible apply Frame.after (fr_sliceFail ..); (on_goal 2 => decide +kernel))
    | (with_reducible apply Frame.after (fr_steer ..); (on_goal 2 => decide +kernel))
    | dsimp -zeta only
    | split

def m_sliceFaults : Nat := 0x400000000000000000000000118000004002380
theorem fr_sliceFaults (s : State) : Frame m_sliceFaults s (State.sliceFaults s) := by
  unfold State.sliceFaults
  repeat' first
    | with_reducible assumption
    | with_reducible exact Frame.refl _ _
    | (with_reducible exact .inl rfl)
    | exact .inr (by decide +kernel)
    | (intro x; first
        | (refine Frame.cut (w := m_sliceFaults) (s := s) x ?_ ?_
           on_goal 2 => intro hx; clear_value x
           on_goal 1 => unfold x; clear x)
        | (refine Frame.cut (w := m_sliceFaults) (s := s) x.1 ?_ ?_
           on_goal 2 => intro hx; clear_value x
           on_goal 1 => unfold x; clear x)
        | (refine Frame.cut (w := m_sliceFaults) (s := s) x.2 ?_ ?_
           on_goal 2 => intro hx; clear_value x
           on_goal 1 => unfold x; clear x)
        | skip)
    | lift_lets -underBinder
    | (with_reducible apply Frame.after (fr_degraded ..); (on_goal 2 => decide +kernel))
    | (with_reducible apply Frame.after (fr_sliceFault ..); (on_goal 2 => decide +kernel))
    | (with_reducible apply Frame.forEach; on_goal 2 => intro t a hs)
    | dsimp -zeta only
    | split
    | (rw [mk_put]; with_reducible apply Frame.upd)

def m_restartCoppice : Nat := 0x10000000002000
theorem fr_restartCoppice (s : State) : Frame m_restartCoppice s (State.restartCoppice s) := by
  unfold State.restartCoppice
  repeat' first
    | with_reducible assumption
    | with_reducible exact Frame.refl _ _
    | (with_reducible exact .inl rfl)
    | exact .inr (by decide +kernel)
    | (intro x; first
        | (refine Frame.cut (w := m_restartCoppice) (s := s) x ?_ ?_
           on_goal 2 => intro hx; clear_value x
           on_goal 1 => unfold x; clear x)
        | skip)
    | lift_lets -underBinder
    | (with_reducible apply Frame.setS; (on_goal 2 => decide +kernel))
    | dsimp -zeta only
    | split
    | (rw [mk_put]; with_reducible apply Frame.upd)

def m_cleanSlice : Nat := 0x900000000000000
theorem fr_cleanSlice (s : State) (ph : Nat) : Frame m_cleanSlice s (State.cleanSlice s ph) := by
  unfold State.cleanSlice
  repeat' first
    | with_reducible assumption
    | with_reducible exact Frame.refl _ _
    | lift_lets -underBinder
    | (with_reducible apply Frame.setS; (on_goal 2 => decide +kernel))
    | (with_reducible apply Frame.incWS; (on_goal 2 => decide +kernel))

def m_noteMismatch : Nat := 0x400000000000000000000000440000004000380
theorem fr_noteMismatch (s : State) : Frame m_noteMismatch s (State.noteMismatch s) := by
  unfold State.noteMismatch
  repeat' first
    | with_reducible assumption
    | with_reducible exact Frame.refl _ _
    | (intro x; first
        | (refine Frame.cut (w := m_noteMismatch) (s := s) x ?_ ?_
           on_goal 2 => intro hx; clear_value x
           on_goal 1 => unfold x; clear x)
        | clear_value x
        | skip)
    | lift_lets -underBinder
    | (with_reducible apply Frame.setS; (on_goal 2 => decide +kernel))
    | (with_reducible apply Frame.incS; (on_goal 2 => decide +kernel))
    | (with_reducible apply Frame.after (fr_report ..); (on_goal 2 => decide +kernel))
    | dsimp -zeta only
    | split

def m_endOverlap : Nat := 0x400000000000000000000000938000004002380
theorem fr_endOverlap (s : State) : Frame m_endOverlap s (State.endOverlap s) := by
  unfold State.endOverlap
  repeat' first
    | with_reducible assumption
    | with_reducible exact Frame.refl _ _
    | (with_reducible exact .inl rfl)
    | exact .inr (by decide +kernel)
    | (intro x; first
        | (refine Frame.cut (w := m_endOverlap) (s := s) x ?_ ?_
           on_goal 2 => intro hx; clear_value x
           on_goal 1 => unfold x; clear x)
        | skip)
    | lift_lets -underBinder
    | (with_reducible apply Frame.setBS; (on_goal 2 => decide +kernel))
    | (with_reducible apply Frame.setS; (on_goal 2 => decide +kernel))
    | (with_reducible apply Frame.incWS; (on_goal 2 => decide +kernel))
    | (with_reducible apply Frame.after (fr_haltCoppice ..); (on_goal 2 => decide +kernel))
    | (with_reducible apply Frame.after (fr_wipeSlice ..); (on_goal 2 => decide +kernel))
    | (with_reducible apply Frame.after (fr_cleanSlice ..); (on_goal 2 => decide +kernel))
    | (with_reducible apply Frame.after (fr_report ..); (on_goal 2 => decide +kernel))
    | (with_reducible apply Frame.after (fr_restartCoppice ..); (on_goal 2 => decide +kernel))
    | (with_reducible apply Frame.after (fr_sliceFail ..); (on_goal 2 => decide +kernel))
    | (with_reducible apply Frame.after (fr_steer ..); (on_goal 2 => decide +kernel))
    | dsimp -zeta only
    | split
    | (rw [mk_put]; with_reducible apply Frame.upd)

def m_startRotation : Nat := 0x110000000002000
theorem fr_startRotation (s : State) (swapped : Bool) : Frame m_startRotation s (State.startRotation s swapped) := by
  unfold State.startRotation
  repeat' first
    | with_reducible assumption
    | with_reducible exact Frame.refl _ _
    | (with_reducible exact .inl rfl)
    | exact .inr (by decide +kernel)
    | (intro x; first
        | (refine Frame.cut (w := m_startRotation) (s := s) x ?_ ?_
           on_goal 2 => intro hx; clear_value x
           on_goal 1 => unfold x; clear x)
        | skip)
    | lift_lets -underBinder
    | (with_reducible apply Frame.setBS; (on_goal 2 => decide +kernel))
    | (with_reducible apply Frame.setS; (on_goal 2 => decide +kernel))
    | (with_reducible apply Frame.after (fr_wipeSlice ..); (on_goal 2 => decide +kernel))
    | dsimp -zeta only
    | split
    | (rw [mk_put]; with_reducible apply Frame.upd)

def m_coppiceRow : Nat := 0x400000000000000000000000d78000004002380
theorem fr_coppiceRow (s : State) (swapped : Bool) : Frame m_coppiceRow s (State.coppiceRow s swapped) := by
  unfold State.coppiceRow
  repeat' first
    | with_reducible assumption
    | with_reducible exact Frame.refl _ _
    | (intro x; first
        | (refine Frame.cut (w := m_coppiceRow) (s := s) x ?_ ?_
           on_goal 2 => intro hx; clear_value x
           on_goal 1 => unfold x; clear x)
        | clear_value x
        | skip)
    | lift_lets -underBinder
    | (with_reducible apply Frame.after (fr_sliceFaults ..); (on_goal 2 => decide +kernel))
    | (with_reducible apply Frame.after (fr_endOverlap ..); (on_goal 2 => decide +kernel))
    | (with_reducible apply Frame.after (fr_noteMismatch ..); (on_goal 2 => decide +kernel))
    | (with_reducible apply Frame.after (fr_startRotation ..); (on_goal 2 => decide +kernel))
    | dsimp -zeta only
    | split

def m_effCoppiceDue : Nat := 0x10000000002000
theorem fr_effCoppiceDue (s : State) : Frame m_effCoppiceDue s (effCoppiceDue s) := by
  unfold effCoppiceDue
  repeat' first
    | with_reducible assumption
    | with_reducible exact Frame.refl _ _
    | (with_reducible exact .inl rfl)
    | exact .inr (by decide +kernel)
    | lift_lets -underBinder
    | (with_reducible apply Frame.setS; (on_goal 2 => decide +kernel))
    | dsimp -zeta only
    | split
    | (rw [mk_put]; with_reducible apply Frame.upd)

def m_effSpareSelfTestPass : Nat := 0x400000000000000000000000910000004002380
theorem fr_effSpareSelfTestPass (clean : Bool) (s : State) : Frame m_effSpareSelfTestPass s (effSpareSelfTestPass clean s) := by
  unfold effSpareSelfTestPass
  repeat' first
    | with_reducible assumption
    | with_reducible exact Frame.refl _ _
    | (with_reducible exact .inl rfl)
    | exact .inr (by decide +kernel)
    | (intro x; first
        | (refine Frame.cut (w := m_effSpareSelfTestPass) (s := s) x ?_ ?_
           on_goal 2 => intro hx; clear_value x
           on_goal 1 => unfold x; clear x)
        | skip)
    | lift_lets -underBinder
    | (with_reducible apply Frame.setBS; (on_goal 2 => decide +kernel))
    | (with_reducible apply Frame.setS; (on_goal 2 => decide +kernel))
    | (with_reducible apply Frame.after (fr_haltCoppice ..); (on_goal 2 => decide +kernel))
    | (with_reducible apply Frame.after (fr_sliceFail ..); (on_goal 2 => decide +kernel))
    | dsimp -zeta only
    | split
    | (rw [mk_put]; with_reducible apply Frame.upd)

def m_fabricTest : Nat := 0x400000000000000000000000118000004002380
theorem fr_fabricTest (s : State) (bad : List Nat) : Frame m_fabricTest s (State.fabricTest s bad) := by
  unfold State.fabricTest
  repeat' first
    | with_reducible assumption
    | with_reducible exact Frame.refl _ _
    | (with_reducible exact .inl rfl)
    | exact .inr (by decide +kernel)
    | (intro x; first
        | (refine Frame.cut (w := m_fabricTest) (s := s) x ?_ ?_
           on_goal 2 => intro hx; clear_value x
           on_goal 1 => unfold x; clear x)
        | (refine Frame.cut (w := m_fabricTest) (s := s) x.1 ?_ ?_
           on_goal 2 => intro hx; clear_value x
           on_goal 1 => unfold x; clear x)
        | (refine Frame.cut (w := m_fabricTest) (s := s) x.2 ?_ ?_
           on_goal 2 => intro hx; clear_value x
           on_goal 1 => unfold x; clear x)
        | skip)
    | lift_lets -underBinder
    | (with_reducible apply Frame.setS; (on_goal 2 => decide +kernel))
    | (with_reducible apply Frame.after (fr_haltCoppice ..); (on_goal 2 => decide +kernel))
    | (with_reducible apply Frame.after (fr_report ..); (on_goal 2 => decide +kernel))
    | (with_reducible apply Frame.after (fr_restartCoppice ..); (on_goal 2 => decide +kernel))
    | (with_reducible apply Frame.after (fr_sliceFail ..); (on_goal 2 => decide +kernel))
    | (with_reducible apply Frame.after (fr_steer ..); (on_goal 2 => decide +kernel))
    | (with_reducible apply Frame.forEach; on_goal 2 => intro t a hs)
    | dsimp -zeta only
    | split
    | (rw [mk_put]; with_reducible apply Frame.upd)

def m_effFabricResetSelfTest : Nat := 0x400000000000000000000000118000004002380
theorem fr_effFabricResetSelfTest (bad : List Nat) (s : State) : Frame m_effFabricResetSelfTest s (effFabricResetSelfTest bad s) := by
  unfold effFabricResetSelfTest
  repeat' first
    | with_reducible assumption
    | with_reducible exact Frame.refl _ _
    | lift_lets -underBinder
    | (with_reducible apply Frame.after (fr_fabricTest ..); (on_goal 2 => decide +kernel))

def m_writeBlk : Nat := 0x2000
theorem fr_writeBlk (s : State) (pair : Nat) (b : Blk) (nosrc : Bool) : Frame m_writeBlk s (State.writeBlk s pair b nosrc) := by
  unfold State.writeBlk
  repeat' first
    | with_reducible assumption
    | with_reducible exact Frame.refl _ _
    | (with_reducible exact .inl rfl)
    | exact .inr (by decide +kernel)
    | (intro x; first
        | (refine Frame.cut (w := m_writeBlk) (s := s) x ?_ ?_
           on_goal 2 => intro hx; clear_value x
           on_goal 1 => unfold x; clear x)
        | skip)
    | lift_lets -underBinder
    | (with_reducible apply Frame.forEach; on_goal 2 => intro t a hs)
    | (with_reducible apply Frame.forEach1; on_goal 2 => intro t b hs)
    | (with_reducible apply Frame.forEach2; on_goal 2 => intro t b hs)
    | dsimp -zeta only
    | split
    | (rw [mk_put]; with_reducible apply Frame.upd)

def m_noteLost : Nat := 0x2000
theorem fr_noteLost (s : State) (out : Nat) : Frame m_noteLost s (State.noteLost s out) := by
  unfold State.noteLost
  repeat' first
    | with_reducible assumption
    | with_reducible exact Frame.refl _ _
    | (with_reducible exact .inl rfl)
    | exact .inr (by decide +kernel)
    | (intro x; first
        | (refine Frame.cut (w := m_noteLost) (s := s) x ?_ ?_
           on_goal 2 => intro hx; clear_value x
           on_goal 1 => unfold x; clear x)
        | skip)
    | lift_lets -underBinder
    | (with_reducible apply Frame.forEach; on_goal 2 => intro t a hs)
    | dsimp -zeta only
    | split
    | (rw [mk_put]; with_reducible apply Frame.upd)

def m_chkErr : Nat := 0x400000000002000
theorem fr_chkErr (s : State) (ph : Nat) : Frame m_chkErr s (State.chkErr s ph) := by
  unfold State.chkErr
  repeat' first
    | with_reducible assumption
    | with_reducible exact Frame.refl _ _
    | (with_reducible exact .inl rfl)
    | exact .inr (by decide +kernel)
    | (intro x; first
        | (refine Frame.cut (w := m_chkErr) (s := s) x ?_ ?_
           on_goal 2 => intro hx; clear_value x
           on_goal 1 => unfold x; clear x)
        | skip)
    | lift_lets -underBinder
    | (with_reducible apply Frame.incS; (on_goal 2 => decide +kernel))
    | dsimp -zeta only
    | split
    | (rw [mk_put]; with_reducible apply Frame.upd)

def m_compare : Nat := 0x40000000002000
theorem fr_compare (s : State) (qBad : Bool) (pBad : Bool) (diff : Bool) : Frame m_compare s (State.compare s qBad pBad diff) := by
  unfold State.compare
  repeat' first
    | with_reducible assumption
    | with_reducible exact Frame.refl _ _
    | (with_reducible exact .inl rfl)
    | exact .inr (by decide +kernel)
    | (intro x; first
        | (refine Frame.cut (w := m_compare) (s := s) x ?_ ?_
           on_goal 2 => intro hx; clear_value x
           on_goal 1 => unfold x; clear x)
        | skip)
    | lift_lets -underBinder
    | (with_reducible apply Frame.incS; (on_goal 2 => decide +kernel))
    | dsimp -zeta only
    | split
    | (rw [mk_put]; with_reducible apply Frame.upd)

def m_readBlk : Nat := 0x6c0000004002300
theorem fr_readBlk (s : State) (x : Sys2Proof.GridIn) (r : Entry) : Frame m_readBlk s (State.readBlk s x r).1 := by
  unfold State.readBlk
  repeat' first
    | with_reducible assumption
    | with_reducible exact Frame.refl _ _
    | (intro x; first
        | (refine Frame.cut (w := m_readBlk) (s := s) x ?_ ?_
           on_goal 2 => intro hx; clear_value x
           on_goal 1 => unfold x; clear x)
        | (refine Frame.cut (w := m_readBlk) (s := s) x.1 ?_ ?_
           on_goal 2 => intro hx; clear_value x
           on_goal 1 => unfold x; clear x)
        | (refine Frame.cut (w := m_readBlk) (s := s) x.2 ?_ ?_
           on_goal 2 => intro hx; clear_value x
           on_goal 1 => unfold x; clear x)
        | clear_value x
        | skip)
    | lift_lets -underBinder
    | (with_reducible apply Frame.incS; (on_goal 2 => decide +kernel))
    | (with_reducible apply Frame.after (fr_compare ..); (on_goal 2 => decide +kernel))
    | (with_reducible apply Frame.after (fr_chkErr ..); (on_goal 2 => decide +kernel))
    | (with_reducible apply Frame.after (fr_noteLost ..); (on_goal 2 => decide +kernel))
    | (with_reducible apply Frame.after (fr_irqSet ..); (on_goal 2 => decide +kernel))
    | dsimp -zeta only
    | split

def m_readAll : Nat := 0x6c0000004002300
theorem fr_readAll (s : State) (x : Sys2Proof.GridIn) : Frame m_readAll s (State.readAll s x) := by
  unfold State.readAll
  repeat' first
    | with_reducible assumption
    | with_reducible exact Frame.refl _ _
    | (with_reducible exact .inl rfl)
    | exact .inr (by decide +kernel)
    | (intro x; first
        | (refine Frame.cut (w := m_readAll) (s := s) x ?_ ?_
           on_goal 2 => intro hx; clear_value x
           on_goal 1 => unfold x; clear x)
        | (refine Frame.cut (w := m_readAll) (s := s) x.1 ?_ ?_
           on_goal 2 => intro hx; clear_value x
           on_goal 1 => unfold x; clear x)
        | (refine Frame.cut (w := m_readAll) (s := s) x.2 ?_ ?_
           on_goal 2 => intro hx; clear_value x
           on_goal 1 => unfold x; clear x)
        | skip)
    | lift_lets -underBinder
    | (with_reducible apply Frame.after (fr_readBlk ..); (on_goal 2 => decide +kernel))
    | (with_reducible apply Frame.foldl1; on_goal 2 => intro t b hs)
    | dsimp -zeta only
    | split
    | (rw [mk_put]; with_reducible apply Frame.upd)

end Sys2Proof.Laws
end

