-- ==== Sys2Proof/Laws/FrameEvergreen.lean ====
section
/-!
SUPPORT. Sys2Proof/Laws/FrameEvergreen.lean: what each operation of Machine/Evergreen.lean leaves unchanged.
-/
namespace Sys2Proof.Laws

set_option Elab.async false
set_option linter.unusedTactic false
set_option linter.unreachableTactic false

open Sys2Proof.Machine

def m_setEvgWrap : Nat := 0x10000
theorem fr_setEvgWrap (s : State) (w : Nat) (v : EvgWrap) : Frame m_setEvgWrap s (State.setEvgWrap s w v) := by
  unfold State.setEvgWrap
  repeat' first
    | with_reducible assumption
    | with_reducible exact Frame.refl _ _
    | (with_reducible exact .inl rfl)
    | exact .inr (by decide +kernel)
    | (intro x; first
        | (refine Frame.cut (w := m_setEvgWrap) (s := s) x ?_ ?_
           on_goal 2 => intro hx; clear_value x
           on_goal 1 => unfold x; clear x)
        | clear_value x
        | skip)
    | lift_lets -underBinder
    | dsimp -zeta only
    | split
    | (rw [mk_put]; with_reducible apply Frame.upd)

def m_wrapPeriod : Nat := 0x10000
theorem fr_wrapPeriod (s : State) (e : Entry) (due : Nat) (bytes : Nat) (data : Nat) : Frame m_wrapPeriod s (State.wrapPeriod s e due bytes data).2 := by
  unfold State.wrapPeriod
  repeat' first
    | with_reducible assumption
    | with_reducible exact Frame.refl _ _
    | (intro x; first
        | (refine Frame.cut (w := m_wrapPeriod) (s := s) x ?_ ?_
           on_goal 2 => intro hx; clear_value x
           on_goal 1 => unfold x; clear x)
        | clear_value x
        | skip)
    | lift_lets -underBinder
    | (with_reducible apply Frame.after (fr_setEvgWrap ..); (on_goal 2 => decide +kernel))

def m_wrapUnits : Nat := 0x10000
theorem fr_wrapUnits (s : State) (h : Nat) (frame : Nat) : Frame m_wrapUnits s (State.wrapUnits s h frame) := by
  unfold State.wrapUnits
  repeat' first
    | with_reducible assumption
    | with_reducible exact Frame.refl _ _
    | (intro x; first
        | (refine Frame.cut (w := m_wrapUnits) (s := s) x ?_ ?_
           on_goal 2 => intro hx; clear_value x
           on_goal 1 => unfold x; clear x)
        | clear_value x
        | skip)
    | lift_lets -underBinder
    | (with_reducible apply Frame.after (fr_setEvgWrap ..); (on_goal 2 => decide +kernel))
    | (with_reducible apply Frame.forEach; on_goal 2 => intro t a hs)
    | dsimp -zeta only
    | split

def m_wrapFrame : Nat := 0x10000
theorem fr_wrapFrame (s : State) : Frame m_wrapFrame s (State.wrapFrame s) := by
  unfold State.wrapFrame
  repeat' first
    | with_reducible assumption
    | with_reducible exact Frame.refl _ _
    | (intro x; first
        | (refine Frame.cut (w := m_wrapFrame) (s := s) x ?_ ?_
           on_goal 2 => intro hx; clear_value x
           on_goal 1 => unfold x; clear x)
        | clear_value x
        | skip)
    | lift_lets -underBinder
    | (with_reducible apply Frame.after (fr_setEvgWrap ..); (on_goal 2 => decide +kernel))
    | (with_reducible apply Frame.forEach; on_goal 2 => intro t a hs)

def m_effEvergreenBlockBoundary : Nat := 0x10000
theorem fr_effEvergreenBlockBoundary (s : State) : Frame m_effEvergreenBlockBoundary s (effEvergreenBlockBoundary s) := by
  unfold effEvergreenBlockBoundary
  repeat' first
    | with_reducible assumption
    | with_reducible exact Frame.refl _ _
    | (intro x; first
        | (refine Frame.cut (w := m_effEvergreenBlockBoundary) (s := s) x ?_ ?_
           on_goal 2 => intro hx; clear_value x
           on_goal 1 => unfold x; clear x)
        | clear_value x
        | skip)
    | lift_lets -underBinder
    | (with_reducible apply Frame.after (fr_setEvgWrap ..); (on_goal 2 => decide +kernel))
    | (with_reducible apply Frame.forEach; on_goal 2 => intro t a hs)

def m_jumpWraps : Nat := 0x10000
theorem fr_jumpWraps (s : State) : Frame m_jumpWraps s (State.jumpWraps s) := by
  unfold State.jumpWraps
  repeat' first
    | with_reducible assumption
    | with_reducible exact Frame.refl _ _
    | (intro x; first
        | (refine Frame.cut (w := m_jumpWraps) (s := s) x ?_ ?_
           on_goal 2 => intro hx; clear_value x
           on_goal 1 => unfold x; clear x)
        | clear_value x
        | skip)
    | lift_lets -underBinder
    | (with_reducible apply Frame.after (fr_setEvgWrap ..); (on_goal 2 => decide +kernel))
    | (with_reducible apply Frame.forEach; on_goal 2 => intro t a hs)

def m_anchor : Nat := 0x400000000000000000000000000000004010380
theorem fr_anchor (s : State) (e : Entry) (seq : Nat) (idx : Nat) (p : Int) (offA : Option Int) (offB : Option Int) : Frame m_anchor s (State.anchor s e seq idx p offA offB) := by
  unfold State.anchor
  repeat' first
    | with_reducible assumption
    | with_reducible exact Frame.refl _ _
    | (intro x; first
        | (refine Frame.cut (w := m_anchor) (s := s) x ?_ ?_
           on_goal 2 => intro hx; clear_value x
           on_goal 1 => unfold x; clear x)
        | clear_value x
        | skip)
    | lift_lets -underBinder
    | (with_reducible apply Frame.after (fr_report ..); (on_goal 2 => decide +kernel))
    | (with_reducible apply Frame.after (fr_setEvgMerge ..); (on_goal 2 => decide +kernel))

def m_tryAnchor : Nat := 0x400000000000000000000000000000004010380
theorem fr_tryAnchor (s : State) (e : Entry) : Frame m_tryAnchor s (State.tryAnchor s e) := by
  unfold State.tryAnchor
  repeat' first
    | with_reducible assumption
    | with_reducible exact Frame.refl _ _
    | (intro x; first
        | (refine Frame.cut (w := m_tryAnchor) (s := s) x ?_ ?_
           on_goal 2 => intro hx; clear_value x
           on_goal 1 => unfold x; clear x)
        | clear_value x
        | skip)
    | split
    | lift_lets -underBinder
    | (with_reducible apply Frame.after (fr_anchor ..); (on_goal 2 => decide +kernel))

def m_evgFlushReq : Nat := 0x10000
theorem fr_evgFlushReq (s : State) (i : Nat) : Frame m_evgFlushReq s (State.evgFlushReq s i) := by
  unfold State.evgFlushReq
  repeat' first
    | with_reducible assumption
    | with_reducible exact Frame.refl _ _
    | (intro x; first
        | (refine Frame.cut (w := m_evgFlushReq) (s := s) x ?_ ?_
           on_goal 2 => intro hx; clear_value x
           on_goal 1 => unfold x; clear x)
        | clear_value x
        | skip)
    | lift_lets -underBinder
    | (with_reducible apply Frame.after (fr_setEvgMerge ..); (on_goal 2 => decide +kernel))

def m_evgStore : Nat := 0x210a00000000000004010300
theorem fr_evgStore (s : State) (e : Entry) (h : EvgHeld) (tailFull : Bool) : Frame m_evgStore s (State.evgStore s e h tailFull) := by
  unfold State.evgStore
  repeat' first
    | with_reducible assumption
    | with_reducible exact Frame.refl _ _
    | (intro x; first
        | (refine Frame.cut (w := m_evgStore) (s := s) x ?_ ?_
           on_goal 2 => intro hx; clear_value x
           on_goal 1 => unfold x; clear x)
        | clear_value x
        | skip)
    | lift_lets -underBinder
    | (with_reducible apply Frame.setBS; (on_goal 2 => decide +kernel))
    | (with_reducible apply Frame.incS; (on_goal 2 => decide +kernel))
    | (with_reducible apply Frame.incWS; (on_goal 2 => decide +kernel))
    | (with_reducible apply Frame.after (fr_irqSet ..); (on_goal 2 => decide +kernel))
    | (with_reducible apply Frame.after (fr_setEvgMerge ..); (on_goal 2 => decide +kernel))
    | dsimp -zeta only
    | split

def m_evgOffset : Nat := 0x400000000000000000000000000000004010380
theorem fr_evgOffset (s : State) (e : Entry) (b : Bool) (seq : Nat) (idx : Nat) (cyc : Nat) : Frame m_evgOffset s (State.evgOffset s e b seq idx cyc) := by
  unfold State.evgOffset
  repeat' first
    | with_reducible assumption
    | with_reducible exact Frame.refl _ _
    | (intro x; first
        | (refine Frame.cut (w := m_evgOffset) (s := s) x ?_ ?_
           on_goal 2 => intro hx; clear_value x
           on_goal 1 => unfold x; clear x)
        | clear_value x
        | skip)
    | lift_lets -underBinder
    | (with_reducible apply Frame.after (fr_report ..); (on_goal 2 => decide +kernel))
    | (with_reducible apply Frame.after (fr_setEvgMerge ..); (on_goal 2 => decide +kernel))
    | dsimp -zeta only
    | split

def m_evgTake : Nat := 0x400000000000000310a00000000000004010380
theorem fr_evgTake (s : State) (e : Entry) (b : Bool) (cyc : Nat) (frame : Nat) (good : Bool) (tailFull : Bool) : Frame m_evgTake s (State.evgTake s e b cyc frame good tailFull) := by
  unfold State.evgTake
  repeat' first
    | with_reducible assumption
    | with_reducible exact Frame.refl _ _
    | (intro x; first
        | (refine Frame.cut (w := m_evgTake) (s := s) x ?_ ?_
           on_goal 2 => intro hx; clear_value x
           on_goal 1 => unfold x; clear x)
        | clear_value x
        | skip)
    | lift_lets -underBinder
    | (with_reducible apply Frame.incS; (on_goal 2 => decide +kernel))
    | (with_reducible apply Frame.after (fr_evgStore ..); (on_goal 2 => decide +kernel))
    | (with_reducible apply Frame.after (fr_report ..); (on_goal 2 => decide +kernel))
    | (with_reducible apply Frame.after (fr_evgFlushReq ..); (on_goal 2 => decide +kernel))
    | (with_reducible apply Frame.after (fr_setEvgMerge ..); (on_goal 2 => decide +kernel))
    | (with_reducible apply Frame.after (fr_tryAnchor ..); (on_goal 2 => decide +kernel))
    | (with_reducible apply Frame.after (fr_evgOffset ..); (on_goal 2 => decide +kernel))
    | dsimp -zeta only
    | split

def m_effEvgFrameArrival : Nat := 0x40000000000000031ba00000000000004010380
theorem fr_effEvgFrameArrival (i : Nat) (b : Bool) (cyc : Nat) (frame : Nat) (found : List Nat) (tailFull : Bool) (s : State) : Frame m_effEvgFrameArrival s (effEvgFrameArrival i b cyc frame found tailFull s) := by
  unfold effEvgFrameArrival
  repeat' first
    | with_reducible assumption
    | with_reducible exact Frame.refl _ _
    | (intro x; first
        | (refine Frame.cut (w := m_effEvgFrameArrival) (s := s) x ?_ ?_
           on_goal 2 => intro hx; clear_value x
           on_goal 1 => unfold x; clear x)
        | (refine Frame.cut (w := m_effEvgFrameArrival) (s := s) x.1 ?_ ?_
           on_goal 2 => intro hx; clear_value x
           on_goal 1 => unfold x; clear x)
        | (refine Frame.cut (w := m_effEvgFrameArrival) (s := s) x.2 ?_ ?_
           on_goal 2 => intro hx; clear_value x
           on_goal 1 => unfold x; clear x)
        | clear_value x
        | skip)
    | lift_lets -underBinder
    | (with_reducible apply Frame.after (fr_settleMerge ..); (on_goal 2 => decide +kernel))
    | (with_reducible apply Frame.after (fr_report ..); (on_goal 2 => decide +kernel))
    | (with_reducible apply Frame.after (fr_evgTake ..); (on_goal 2 => decide +kernel))
    | (with_reducible apply Frame.after (fr_setEvgMerge ..); (on_goal 2 => decide +kernel))
    | dsimp -zeta only
    | split

def m_effEvgPlayout : Nat := 0xefa00000000000004010300
theorem fr_effEvgPlayout (i : Nat) (cyc : Nat) (late : Bool) (markBad : Bool) (s : State) : Frame m_effEvgPlayout s (effEvgPlayout i cyc late markBad s) := by
  unfold effEvgPlayout
  repeat' first
    | with_reducible assumption
    | with_reducible exact Frame.refl _ _
    | (intro x; first
        | (refine Frame.cut (w := m_effEvgPlayout) (s := s) x ?_ ?_
           on_goal 2 => intro hx; clear_value x
           on_goal 1 => unfold x; clear x)
        | clear_value x
        | skip)
    | lift_lets -underBinder
    | (with_reducible apply Frame.setBS; (on_goal 2 => decide +kernel))
    | (with_reducible apply Frame.setS; (on_goal 2 => decide +kernel))
    | (with_reducible apply Frame.incS; (on_goal 2 => decide +kernel))
    | (with_reducible apply Frame.incWS; (on_goal 2 => decide +kernel))
    | (with_reducible apply Frame.after (fr_settleMerge ..); (on_goal 2 => decide +kernel))
    | (with_reducible apply Frame.after (fr_irqSet ..); (on_goal 2 => decide +kernel))
    | (with_reducible apply Frame.after (fr_setEvgMerge ..); (on_goal 2 => decide +kernel))
    | dsimp -zeta only
    | split

def m_effEvgAcqTimeout : Nat := 0x40000000000000000b800000000000004010380
theorem fr_effEvgAcqTimeout (i : Nat) (s : State) : Frame m_effEvgAcqTimeout s (effEvgAcqTimeout i s) := by
  unfold effEvgAcqTimeout
  repeat' first
    | with_reducible assumption
    | with_reducible exact Frame.refl _ _
    | (intro x; first
        | (refine Frame.cut (w := m_effEvgAcqTimeout) (s := s) x ?_ ?_
           on_goal 2 => intro hx; clear_value x
           on_goal 1 => unfold x; clear x)
        | clear_value x
        | skip)
    | lift_lets -underBinder
    | (with_reducible apply Frame.after (fr_settleMerge ..); (on_goal 2 => decide +kernel))
    | (with_reducible apply Frame.after (fr_anchor ..); (on_goal 2 => decide +kernel))
    | dsimp -zeta only
    | split

def m_effEvgReanchor : Nat := 0x40000000000000010b800000000000004010380
theorem fr_effEvgReanchor (i : Nat) (b : Bool) (s : State) : Frame m_effEvgReanchor s (effEvgReanchor i b s) := by
  unfold effEvgReanchor
  repeat' first
    | with_reducible assumption
    | with_reducible exact Frame.refl _ _
    | (intro x; first
        | (refine Frame.cut (w := m_effEvgReanchor) (s := s) x ?_ ?_
           on_goal 2 => intro hx; clear_value x
           on_goal 1 => unfold x; clear x)
        | clear_value x
        | skip)
    | lift_lets -underBinder
    | (with_reducible apply Frame.incS; (on_goal 2 => decide +kernel))
    | (with_reducible apply Frame.after (fr_settleMerge ..); (on_goal 2 => decide +kernel))
    | (with_reducible apply Frame.after (fr_report ..); (on_goal 2 => decide +kernel))
    | (with_reducible apply Frame.after (fr_setEvgMerge ..); (on_goal 2 => decide +kernel))
    | dsimp -zeta only
    | split

def m_effEvgNoUsableTimeout : Nat := 0x10000
theorem fr_effEvgNoUsableTimeout (i : Nat) (s : State) : Frame m_effEvgNoUsableTimeout s (effEvgNoUsableTimeout i s) := by
  unfold effEvgNoUsableTimeout
  repeat' first
    | with_reducible assumption
    | with_reducible exact Frame.refl _ _
    | (intro x; first
        | (refine Frame.cut (w := m_effEvgNoUsableTimeout) (s := s) x ?_ ?_
           on_goal 2 => intro hx; clear_value x
           on_goal 1 => unfold x; clear x)
        | clear_value x
        | skip)
    | lift_lets -underBinder
    | (with_reducible apply Frame.after (fr_evgFlushReq ..); (on_goal 2 => decide +kernel))
    | dsimp -zeta only
    | split

def m_effEvgFlush : Nat := 0xb800000000000004010300
theorem fr_effEvgFlush (i : Nat) (s : State) : Frame m_effEvgFlush s (effEvgFlush i s) := by
  unfold effEvgFlush
  repeat' first
    | with_reducible assumption
    | with_reducible exact Frame.refl _ _
    | (intro x; first
        | (refine Frame.cut (w := m_effEvgFlush) (s := s) x ?_ ?_
           on_goal 2 => intro hx; clear_value x
           on_goal 1 => unfold x; clear x)
        | clear_value x
        | skip)
    | lift_lets -underBinder
    | (with_reducible apply Frame.after (fr_settleMerge ..); (on_goal 2 => decide +kernel))
    | (with_reducible apply Frame.after (fr_setEvgMerge ..); (on_goal 2 => decide +kernel))
    | dsimp -zeta only
    | split

def m_mergePeriod : Nat := 0x10000
theorem fr_mergePeriod (s : State) (e : Entry) : Frame m_mergePeriod s (State.mergePeriod s e).2 := by
  unfold State.mergePeriod
  repeat' first
    | with_reducible assumption
    | with_reducible exact Frame.refl _ _
    | (intro x; first
        | (refine Frame.cut (w := m_mergePeriod) (s := s) x ?_ ?_
           on_goal 2 => intro hx; clear_value x
           on_goal 1 => unfold x; clear x)
        | clear_value x
        | skip)
    | lift_lets -underBinder
    | (with_reducible apply Frame.after (fr_setEvgMerge ..); (on_goal 2 => decide +kernel))

def m_mergeFrame : Nat := 0x10000
theorem fr_mergeFrame (s : State) : Frame m_mergeFrame s (State.mergeFrame s) := by
  unfold State.mergeFrame
  repeat' first
    | with_reducible assumption
    | with_reducible exact Frame.refl _ _
    | (intro x; first
        | (refine Frame.cut (w := m_mergeFrame) (s := s) x ?_ ?_
           on_goal 2 => intro hx; clear_value x
           on_goal 1 => unfold x; clear x)
        | clear_value x
        | skip)
    | lift_lets -underBinder
    | (with_reducible apply Frame.after (fr_setEvgMerge ..); (on_goal 2 => decide +kernel))
    | (with_reducible apply Frame.forEach; on_goal 2 => intro t a hs)

end Sys2Proof.Laws
end

