-- ==== Sys2Proof/Laws/FrameFraming.lean ====
section
/-!
SUPPORT. Sys2Proof/Laws/FrameFraming.lean: what each operation of Machine/Framing.lean leaves unchanged.
-/
namespace Sys2Proof.Laws

set_option Elab.async false
set_option linter.unusedTactic false
set_option linter.unreachableTactic false

open Sys2Proof.Machine

def m_hostAligned : Nat := 0x8000000000000000000000000000000000000000000000000000000000000004010
theorem fr_hostAligned (s : State) (c : Nat) (pos : Nat) (term : Nat) (e : Entry) : Frame m_hostAligned s (State.hostAligned s c pos term e) := by
  unfold State.hostAligned
  repeat' first
    | with_reducible assumption
    | with_reducible exact Frame.refl _ _
    | (intro x; first
        | (refine Frame.cut (w := m_hostAligned) (s := s) x ?_ ?_
           on_goal 2 => intro hx; clear_value x
           on_goal 1 => unfold x; clear x)
        | clear_value x
        | skip)
    | lift_lets -underBinder
    | (with_reducible apply Frame.setBS; (on_goal 2 => decide +kernel))
    | (with_reducible apply Frame.setS; (on_goal 2 => decide +kernel))
    | (with_reducible apply Frame.after (fr_setMapSt ..); (on_goal 2 => decide +kernel))
    | (with_reducible apply Frame.after (fr_setHost ..); (on_goal 2 => decide +kernel))
    | dsimp -zeta only
    | split

def m_window : Nat := 0x10
theorem fr_window (s : State) (c : Nat) (e : Entry) (found : List Nat) : Frame m_window s (State.window s c e found).2 := by
  unfold State.window
  repeat' first
    | with_reducible assumption
    | with_reducible exact Frame.refl _ _
    | (intro x; first
        | (refine Frame.cut (w := m_window) (s := s) x ?_ ?_
           on_goal 2 => intro hx; clear_value x
           on_goal 1 => unfold x; clear x)
        | clear_value x
        | skip)
    | lift_lets -underBinder
    | (with_reducible apply Frame.after (fr_setMapSt ..); (on_goal 2 => decide +kernel))
    | dsimp -zeta only
    | split

def m_effAlignWindowEnd : Nat := 0x80bc00000000000000000000000040000000000000000b80058000000000401c3b0
theorem fr_effAlignWindowEnd (c : Nat) (found : List Nat) (term : Nat) (s : State) : Frame m_effAlignWindowEnd s (effAlignWindowEnd c found term s) := by
  unfold effAlignWindowEnd
  repeat' first
    | with_reducible assumption
    | with_reducible exact Frame.refl _ _
    | (intro x; first
        | (refine Frame.cut (w := m_effAlignWindowEnd) (s := s) x ?_ ?_
           on_goal 2 => intro hx; clear_value x
           on_goal 1 => unfold x; clear x)
        | (refine Frame.cut (w := m_effAlignWindowEnd) (s := s) x.1 ?_ ?_
           on_goal 2 => intro hx; clear_value x
           on_goal 1 => unfold x; clear x)
        | (refine Frame.cut (w := m_effAlignWindowEnd) (s := s) x.2 ?_ ?_
           on_goal 2 => intro hx; clear_value x
           on_goal 1 => unfold x; clear x)
        | clear_value x
        | skip)
    | lift_lets -underBinder
    | (with_reducible apply Frame.setBS; (on_goal 2 => decide +kernel))
    | (with_reducible apply Frame.setS; (on_goal 2 => decide +kernel))
    | (with_reducible apply Frame.incS; (on_goal 2 => decide +kernel))
    | (with_reducible apply Frame.after (fr_setAlignSt ..); (on_goal 2 => decide +kernel))
    | (with_reducible apply Frame.after (fr_report ..); (on_goal 2 => decide +kernel))
    | (with_reducible apply Frame.after (fr_settle ..); (on_goal 2 => decide +kernel))
    | (with_reducible apply Frame.after (fr_window ..); (on_goal 2 => decide +kernel))
    | (with_reducible apply Frame.after (fr_hostAligned ..); (on_goal 2 => decide +kernel))
    | dsimp -zeta only
    | split

def m_checkWord : Nat := 0x8010000000000000000000000000000000000000000000000000000000000000010
theorem fr_checkWord (s : State) (c : Nat) (e : Entry) (ok : Bool) : Frame m_checkWord s (State.checkWord s c e ok) := by
  unfold State.checkWord
  repeat' first
    | with_reducible assumption
    | with_reducible exact Frame.refl _ _
    | (intro x; first
        | (refine Frame.cut (w := m_checkWord) (s := s) x ?_ ?_
           on_goal 2 => intro hx; clear_value x
           on_goal 1 => unfold x; clear x)
        | clear_value x
        | skip)
    | lift_lets -underBinder
    | (with_reducible apply Frame.after (fr_setAlignSt ..); (on_goal 2 => decide +kernel))
    | (with_reducible apply Frame.after (fr_startSearch ..); (on_goal 2 => decide +kernel))
    | dsimp -zeta only
    | split

def m_trackMf : Nat := 0x10000000000000000000000000000000000000000000000000000000000000010
theorem fr_trackMf (s : State) (c : Nat) (period : Nat) (m : Nat) : Frame m_trackMf s (State.trackMf s c period m) := by
  unfold State.trackMf
  repeat' first
    | with_reducible assumption
    | with_reducible exact Frame.refl _ _
    | (intro x; first
        | (refine Frame.cut (w := m_trackMf) (s := s) x ?_ ?_
           on_goal 2 => intro hx; clear_value x
           on_goal 1 => unfold x; clear x)
        | clear_value x
        | skip)
    | lift_lets -underBinder
    | (with_reducible apply Frame.setBS; (on_goal 2 => decide +kernel))
    | (with_reducible apply Frame.after (fr_setAlignSt ..); (on_goal 2 => decide +kernel))
    | dsimp -zeta only
    | split

def m_takeTti : Nat := 0xc0000000000000000000000000400000000000000000000000000000004000390
theorem fr_takeTti (s : State) (c : Nat) (mfas : Nat) (b : Sys2Proof.Byte) : Frame m_takeTti s (State.takeTti s c mfas b) := by
  unfold State.takeTti
  repeat' first
    | with_reducible assumption
    | with_reducible exact Frame.refl _ _
    | (intro x; first
        | (refine Frame.cut (w := m_takeTti) (s := s) x ?_ ?_
           on_goal 2 => intro hx; clear_value x
           on_goal 1 => unfold x; clear x)
        | (refine Frame.cut (w := m_takeTti) (s := s) x.1 ?_ ?_
           on_goal 2 => intro hx; clear_value x
           on_goal 1 => unfold x; clear x)
        | (refine Frame.cut (w := m_takeTti) (s := s) x.2 ?_ ?_
           on_goal 2 => intro hx; clear_value x
           on_goal 1 => unfold x; clear x)
        | clear_value x
        | skip)
    | lift_lets -underBinder
    | (with_reducible apply Frame.setBS; (on_goal 2 => decide +kernel))
    | (with_reducible apply Frame.setS; (on_goal 2 => decide +kernel))
    | (with_reducible apply Frame.after (fr_setLabelSt ..); (on_goal 2 => decide +kernel))
    | (with_reducible apply Frame.after (fr_irqSet ..); (on_goal 2 => decide +kernel))
    | (with_reducible apply Frame.after (fr_offerRec ..); (on_goal 2 => decide +kernel))
    | dsimp -zeta only
    | split

def m_takePsi : Nat := 0x10
theorem fr_takePsi (s : State) (c : Nat) (pt : Nat) (msi : List Nat) (ptHeld : Bool) (msiHeld : Bool) : Frame m_takePsi s (State.takePsi s c pt msi ptHeld msiHeld) := by
  unfold State.takePsi
  repeat' first
    | with_reducible assumption
    | with_reducible exact Frame.refl _ _
    | (intro x; first
        | (refine Frame.cut (w := m_takePsi) (s := s) x ?_ ?_
           on_goal 2 => intro hx; clear_value x
           on_goal 1 => unfold x; clear x)
        | (refine Frame.cut (w := m_takePsi) (s := s) x.1 ?_ ?_
           on_goal 2 => intro hx; clear_value x
           on_goal 1 => unfold x; clear x)
        | (refine Frame.cut (w := m_takePsi) (s := s) x.2 ?_ ?_
           on_goal 2 => intro hx; clear_value x
           on_goal 1 => unfold x; clear x)
        | clear_value x
        | skip)
    | lift_lets -underBinder
    | (with_reducible apply Frame.after (fr_setLabelSt ..); (on_goal 2 => decide +kernel))

def m_integrate : Nat := 0x10
theorem fr_integrate (s : State) (c : Nat) (p : Entry) (k : Nat) (cond : Bool) (n : Nat) : Frame m_integrate s (State.integrate s c p k cond n) := by
  unfold State.integrate
  repeat' first
    | with_reducible assumption
    | with_reducible exact Frame.refl _ _
    | lift_lets -underBinder
    | (with_reducible apply Frame.after (fr_setDefSt ..); (on_goal 2 => decide +kernel))
    | dsimp -zeta only
    | split

def m_takeOs : Nat := 0x80bc00000000000000000000000040000000000000000b80058000000000401c3b0
theorem fr_takeOs (s : State) (c : Nat) (os : List Sys2Proof.OsIn) : Frame m_takeOs s (State.takeOs s c os) := by
  unfold State.takeOs
  repeat' first
    | with_reducible assumption
    | with_reducible exact Frame.refl _ _
    | (intro x; first
        | (refine Frame.cut (w := m_takeOs) (s := s) x ?_ ?_
           on_goal 2 => intro hx; clear_value x
           on_goal 1 => unfold x; clear x)
        | clear_value x
        | skip)
    | lift_lets -underBinder
    | (with_reducible apply Frame.after (fr_setDefSt ..); (on_goal 2 => decide +kernel))
    | (with_reducible apply Frame.after (fr_settle ..); (on_goal 2 => decide +kernel))
    | (with_reducible apply Frame.forEach; on_goal 2 => intro t a hs)
    | dsimp -zeta only
    | split

def m_countBlock : Nat := 0x200000000000000000000000000000000000000000000000000000000000000010
theorem fr_countBlock (s : State) (c : Nat) (layer : Nat) (p : Entry) (f : Sys2Proof.FrameIn) : Frame m_countBlock s (State.countBlock s c layer p f) := by
  unfold State.countBlock
  repeat' first
    | with_reducible assumption
    | with_reducible exact Frame.refl _ _
    | (intro x; first
        | (refine Frame.cut (w := m_countBlock) (s := s) x ?_ ?_
           on_goal 2 => intro hx; clear_value x
           on_goal 1 => unfold x; clear x)
        | clear_value x
        | skip)
    | lift_lets -underBinder
    | (with_reducible apply Frame.incS; (on_goal 2 => decide +kernel))
    | (with_reducible apply Frame.after (fr_setPmSt ..); (on_goal 2 => decide +kernel))
    | dsimp -zeta only
    | split

def m_takeFlexe : Nat := 0x20000000000000000000000000000000000000000000000000000000000000000010
theorem fr_takeFlexe (s : State) (c : Nat) (e : Entry) (f : Sys2Proof.FrameIn) : Frame m_takeFlexe s (State.takeFlexe s c e f) := by
  unfold State.takeFlexe
  repeat' first
    | with_reducible assumption
    | with_reducible exact Frame.refl _ _
    | (intro x; first
        | (refine Frame.cut (w := m_takeFlexe) (s := s) x ?_ ?_
           on_goal 2 => intro hx; clear_value x
           on_goal 1 => unfold x; clear x)
        | clear_value x
        | skip)
    | lift_lets -underBinder
    | (with_reducible apply Frame.setS; (on_goal 2 => decide +kernel))
    | (with_reducible apply Frame.after (fr_setCalSt ..); (on_goal 2 => decide +kernel))
    | dsimp -zeta only
    | split

def m_takeMapOh : Nat := 0x23000000000000000000000000000400000000000000000000000000000004000390
theorem fr_takeMapOh (s : State) (c : Nat) (e : Entry) (f : Sys2Proof.FrameIn) : Frame m_takeMapOh s (State.takeMapOh s c e f) := by
  unfold State.takeMapOh
  repeat' first
    | with_reducible assumption
    | with_reducible exact Frame.refl _ _
    | lift_lets -underBinder
    | (with_reducible apply Frame.after (fr_takeJc ..); (on_goal 2 => decide +kernel))
    | (with_reducible apply Frame.after (fr_takeFlexe ..); (on_goal 2 => decide +kernel))
    | (with_reducible apply Frame.forEach; on_goal 2 => intro t a hs)
    | dsimp -zeta only
    | split

def m_takeMf : Nat := 0x10000000000000000000000000000000000000000000000000000000000000010
theorem fr_takeMf (s : State) (c : Nat) (layer : Nat) (f : Sys2Proof.FrameIn) : Frame m_takeMf s (State.takeMf s c layer f) := by
  unfold State.takeMf
  repeat' first
    | with_reducible assumption
    | with_reducible exact Frame.refl _ _
    | lift_lets -underBinder
    | (with_reducible apply Frame.after (fr_trackMf ..); (on_goal 2 => decide +kernel))
    | dsimp -zeta only
    | split

def m_takeOverhead : Nat := 0x80fc00000000000000000000000040000000000000000b80058000000000401c3b0
theorem fr_takeOverhead (s : State) (c : Nat) (p : Entry) (f : Sys2Proof.FrameIn) : Frame m_takeOverhead s (State.takeOverhead s c p f) := by
  unfold State.takeOverhead
  repeat' first
    | with_reducible assumption
    | with_reducible exact Frame.refl _ _
    | (with_reducible exact .inl rfl)
    | exact .inr (by decide +kernel)
    | (intro x; first
        | (refine Frame.cut (w := m_takeOverhead) (s := s) x ?_ ?_
           on_goal 2 => intro hx; clear_value x
           on_goal 1 => unfold x; clear x)
        | clear_value x
        | skip)
    | lift_lets -underBinder
    | (with_reducible apply Frame.after (fr_takePsi ..); (on_goal 2 => decide +kernel))
    | (with_reducible apply Frame.after (fr_setLabelSt ..); (on_goal 2 => decide +kernel))
    | (with_reducible apply Frame.after (fr_setDefSt ..); (on_goal 2 => decide +kernel))
    | (with_reducible apply Frame.after (fr_integrate ..); (on_goal 2 => decide +kernel))
    | (with_reducible apply Frame.after (fr_takeTti ..); (on_goal 2 => decide +kernel))
    | (with_reducible apply Frame.after (fr_takeOs ..); (on_goal 2 => decide +kernel))
    | dsimp -zeta only
    | split
    | (rw [mk_put]; with_reducible apply Frame.upd)

def m_takeFrame : Nat := 0x2b2fc00000000000000000000000040000000000000000b80058000000000401c3b0
theorem fr_takeFrame (s : State) (c : Nat) (e : Entry) (p : Entry) (f : Sys2Proof.FrameIn) : Frame m_takeFrame s (State.takeFrame s c e p f) := by
  unfold State.takeFrame
  repeat' first
    | with_reducible assumption
    | with_reducible exact Frame.refl _ _
    | (intro x; first
        | (refine Frame.cut (w := m_takeFrame) (s := s) x ?_ ?_
           on_goal 2 => intro hx; clear_value x
           on_goal 1 => unfold x; clear x)
        | clear_value x
        | skip)
    | lift_lets -underBinder
    | (with_reducible apply Frame.after (fr_takeOverhead ..); (on_goal 2 => decide +kernel))
    | (with_reducible apply Frame.after (fr_countBlock ..); (on_goal 2 => decide +kernel))
    | (with_reducible apply Frame.after (fr_compareLabels ..); (on_goal 2 => decide +kernel))
    | (with_reducible apply Frame.after (fr_takeMapOh ..); (on_goal 2 => decide +kernel))
    | (with_reducible apply Frame.after (fr_settle ..); (on_goal 2 => decide +kernel))
    | (with_reducible apply Frame.after (fr_takeMf ..); (on_goal 2 => decide +kernel))
    | (with_reducible apply Frame.after (fr_checkWord ..); (on_goal 2 => decide +kernel))
    | dsimp -zeta only
    | split

def m_frameIn : Nat := 0x2b2fc00000000000000000000000040000000000000000b80058000000000401c3b0
theorem fr_frameIn (s : State) (c : Nat) (f : Sys2Proof.FrameIn) : Frame m_frameIn s (State.frameIn s c f) := by
  unfold State.frameIn
  repeat' first
    | with_reducible assumption
    | with_reducible exact Frame.refl _ _
    | (intro x; first
        | (refine Frame.cut (w := m_frameIn) (s := s) x ?_ ?_
           on_goal 2 => intro hx; clear_value x
           on_goal 1 => unfold x; clear x)
        | clear_value x
        | skip)
    | lift_lets -underBinder
    | (with_reducible apply Frame.after (fr_takeMapOh ..); (on_goal 2 => decide +kernel))
    | (with_reducible apply Frame.after (fr_settle ..); (on_goal 2 => decide +kernel))
    | (with_reducible apply Frame.after (fr_takeMf ..); (on_goal 2 => decide +kernel))
    | (with_reducible apply Frame.after (fr_checkWord ..); (on_goal 2 => decide +kernel))
    | (with_reducible apply Frame.after (fr_takeFrame ..); (on_goal 2 => decide +kernel))
    | dsimp -zeta only
    | split

def m_effFrameReceived : Nat := 0x2b2fc00000000000000000000000040000000000000000b80058000000000401c3b0
theorem fr_effFrameReceived (c : Nat) (f : Sys2Proof.FrameIn) (s : State) : Frame m_effFrameReceived s (effFrameReceived c f s) := by
  unfold effFrameReceived
  repeat' first
    | with_reducible assumption
    | with_reducible exact Frame.refl _ _
    | lift_lets -underBinder
    | (with_reducible apply Frame.after (fr_frameIn ..); (on_goal 2 => decide +kernel))

def m_latchDefect : Nat := 0x80bc00000000000000000000000040000000000000000b80058000000000401c3b0
theorem fr_latchDefect (s : State) (c : Nat) (k : Nat) (on : Bool) : Frame m_latchDefect s (State.latchDefect s c k on) := by
  unfold State.latchDefect
  repeat' first
    | with_reducible assumption
    | with_reducible exact Frame.refl _ _
    | (intro x; first
        | (refine Frame.cut (w := m_latchDefect) (s := s) x ?_ ?_
           on_goal 2 => intro hx; clear_value x
           on_goal 1 => unfold x; clear x)
        | clear_value x
        | skip)
    | lift_lets -underBinder
    | (with_reducible apply Frame.after (fr_setDefSt ..); (on_goal 2 => decide +kernel))
    | (with_reducible apply Frame.after (fr_settle ..); (on_goal 2 => decide +kernel))

def m_effLofDeclare : Nat := 0x80bc00000000000000000000000040000000000000000b80058000000000401c3b0
theorem fr_effLofDeclare (c : Nat) (s : State) : Frame m_effLofDeclare s (effLofDeclare c s) := by
  unfold effLofDeclare
  repeat' first
    | with_reducible assumption
    | with_reducible exact Frame.refl _ _
    | lift_lets -underBinder
    | (with_reducible apply Frame.after (fr_latchDefect ..); (on_goal 2 => decide +kernel))
    | dsimp -zeta only
    | split

def m_effLofClear : Nat := 0x80bc00000000000000000000000040000000000000000b80058000000000401c3b0
theorem fr_effLofClear (c : Nat) (s : State) : Frame m_effLofClear s (effLofClear c s) := by
  unfold effLofClear
  repeat' first
    | with_reducible assumption
    | with_reducible exact Frame.refl _ _
    | lift_lets -underBinder
    | (with_reducible apply Frame.after (fr_latchDefect ..); (on_goal 2 => decide +kernel))
    | dsimp -zeta only
    | split

def m_effLomDeclare : Nat := 0x80bc00000000000000000000000040000000000000000b80058000000000401c3b0
theorem fr_effLomDeclare (c : Nat) (s : State) : Frame m_effLomDeclare s (effLomDeclare c s) := by
  unfold effLomDeclare
  repeat' first
    | with_reducible assumption
    | with_reducible exact Frame.refl _ _
    | lift_lets -underBinder
    | (with_reducible apply Frame.after (fr_latchDefect ..); (on_goal 2 => decide +kernel))
    | dsimp -zeta only
    | split

def m_effLomClear : Nat := 0x80bc00000000000000000000000040000000000000000b80058000000000401c3b0
theorem fr_effLomClear (c : Nat) (s : State) : Frame m_effLomClear s (effLomClear c s) := by
  unfold effLomClear
  repeat' first
    | with_reducible assumption
    | with_reducible exact Frame.refl _ _
    | lift_lets -underBinder
    | (with_reducible apply Frame.after (fr_latchDefect ..); (on_goal 2 => decide +kernel))
    | dsimp -zeta only
    | split

def m_effFlexeCalSwitch : Nat := 0x20000000000000000000000000000000000000000000000000000000000000000010
theorem fr_effFlexeCalSwitch (c : Nat) (s : State) : Frame m_effFlexeCalSwitch s (effFlexeCalSwitch c s) := by
  unfold effFlexeCalSwitch
  repeat' first
    | with_reducible assumption
    | with_reducible exact Frame.refl _ _
    | (intro x; first
        | (refine Frame.cut (w := m_effFlexeCalSwitch) (s := s) x ?_ ?_
           on_goal 2 => intro hx; clear_value x
           on_goal 1 => unfold x; clear x)
        | clear_value x
        | skip)
    | lift_lets -underBinder
    | (with_reducible apply Frame.setBS; (on_goal 2 => decide +kernel))
    | (with_reducible apply Frame.setS; (on_goal 2 => decide +kernel))
    | (with_reducible apply Frame.after (fr_setCalSt ..); (on_goal 2 => decide +kernel))
    | dsimp -zeta only
    | split

def m_effFlexeCaTimeout : Nat := 0x20000000000000000000000000000400000000000000000000000000000004000390
theorem fr_effFlexeCaTimeout (c : Nat) (s : State) : Frame m_effFlexeCaTimeout s (effFlexeCaTimeout c s) := by
  unfold effFlexeCaTimeout
  repeat' first
    | with_reducible assumption
    | with_reducible exact Frame.refl _ _
    | (intro x; first
        | (refine Frame.cut (w := m_effFlexeCaTimeout) (s := s) x ?_ ?_
           on_goal 2 => intro hx; clear_value x
           on_goal 1 => unfold x; clear x)
        | clear_value x
        | skip)
    | lift_lets -underBinder
    | (with_reducible apply Frame.setBS; (on_goal 2 => decide +kernel))
    | (with_reducible apply Frame.after (fr_report ..); (on_goal 2 => decide +kernel))
    | (with_reducible apply Frame.after (fr_setCalSt ..); (on_goal 2 => decide +kernel))
    | dsimp -zeta only
    | split

def m_fillImp : Nat := 0x2000000000000000000000000000000000000000000000000000000000000000810
theorem fr_fillImp (s : State) (c n : Nat) : Frame m_fillImp s (s.fillImp c n) := by
  induction n generalizing s with
  | zero => exact Frame.refl _ _
  | succ n ih =>
    unfold State.fillImp
    split
    · exact Frame.refl _ _
    · dsimp only
      refine Frame.step (Frame.step ?_ (fr_feed ..) (by decide +kernel)) (ih _) (Nat.or_self _)
      exact (fr_adaptOut ..).mono (by decide +kernel)

def m_mapPayload : Nat := 0x3000000000000000000000000000000000000000000000000000000000000000810
theorem fr_mapPayload (s : State) (c : Nat) (e : Entry) : Frame m_mapPayload s (State.mapPayload s c e).2 := by
  unfold State.mapPayload
  repeat' first
    | with_reducible assumption
    | with_reducible exact Frame.refl _ _
    | (intro x; first
        | (refine Frame.cut (w := m_mapPayload) (s := s) x ?_ ?_
           on_goal 2 => intro hx; clear_value x
           on_goal 1 => unfold x; clear x)
        | (refine Frame.cut (w := m_mapPayload) (s := s) x.1 ?_ ?_
           on_goal 2 => intro hx; clear_value x
           on_goal 1 => unfold x; clear x)
        | (refine Frame.cut (w := m_mapPayload) (s := s) x.2 ?_ ?_
           on_goal 2 => intro hx; clear_value x
           on_goal 1 => unfold x; clear x)
        | clear_value x
        | skip)
    | lift_lets -underBinder
    | (with_reducible apply Frame.after (fr_feed ..); (on_goal 2 => decide +kernel))
    | (with_reducible apply Frame.after (fr_draw ..); (on_goal 2 => decide +kernel))
    | (with_reducible apply Frame.after (fr_mapClient ..); (on_goal 2 => decide +kernel))
    | (with_reducible apply Frame.after (fr_fillImp ..); (on_goal 2 => decide +kernel))
    | (with_reducible apply Frame.foldl2; on_goal 2 => intro t b hs)
    | dsimp -zeta only
    | split

def m_sendFrame : Nat := 0x3000000000000000000000000000000000000000000000000000000000004000810
theorem fr_sendFrame (s : State) (c : Nat) (e : Entry) (aps : Option (List Nat)) : Frame m_sendFrame s (State.sendFrame s c e aps) := by
  unfold State.sendFrame
  repeat' first
    | with_reducible assumption
    | with_reducible exact Frame.refl _ _
    | (with_reducible exact .inl rfl)
    | exact .inr (by decide +kernel)
    | (intro x; first
        | (refine Frame.cut (w := m_sendFrame) (s := s) x ?_ ?_
           on_goal 2 => intro hx; clear_value x
           on_goal 1 => unfold x; clear x)
        | (refine Frame.cut (w := m_sendFrame) (s := s) x.1 ?_ ?_
           on_goal 2 => intro hx; clear_value x
           on_goal 1 => unfold x; clear x)
        | (refine Frame.cut (w := m_sendFrame) (s := s) x.2 ?_ ?_
           on_goal 2 => intro hx; clear_value x
           on_goal 1 => unfold x; clear x)
        | clear_value x
        | skip)
    | lift_lets -underBinder
    | (with_reducible apply Frame.after (fr_draw ..); (on_goal 2 => decide +kernel))
    | (with_reducible apply Frame.after (fr_mapPayload ..); (on_goal 2 => decide +kernel))
    | dsimp -zeta only
    | split
    | (rw [mk_put]; with_reducible apply Frame.upd)

def m_effEgressFrameBoundary : Nat := 0x3000000000000000000000000000000000000000000000000200000000004000810
theorem fr_effEgressFrameBoundary (c : Nat) (s : State) : Frame m_effEgressFrameBoundary s (effEgressFrameBoundary c s) := by
  unfold effEgressFrameBoundary
  repeat' first
    | with_reducible assumption
    | with_reducible exact Frame.refl _ _
    | (intro x; first
        | (refine Frame.cut (w := m_effEgressFrameBoundary) (s := s) x ?_ ?_
           on_goal 2 => intro hx; clear_value x
           on_goal 1 => unfold x; clear x)
        | (refine Frame.cut (w := m_effEgressFrameBoundary) (s := s) x.1 ?_ ?_
           on_goal 2 => intro hx; clear_value x
           on_goal 1 => unfold x; clear x)
        | (refine Frame.cut (w := m_effEgressFrameBoundary) (s := s) x.2 ?_ ?_
           on_goal 2 => intro hx; clear_value x
           on_goal 1 => unfold x; clear x)
        | clear_value x
        | skip)
    | lift_lets -underBinder
    | (with_reducible apply Frame.setS; (on_goal 2 => decide +kernel))
    | (with_reducible apply Frame.after (fr_setEgSt ..); (on_goal 2 => decide +kernel))
    | (with_reducible apply Frame.after (fr_sendFrame ..); (on_goal 2 => decide +kernel))
    | (with_reducible apply Frame.forEach; on_goal 2 => intro t a hs)
    | dsimp -zeta only
    | split

end Sys2Proof.Laws
end

