-- ==== Sys2Proof/Laws/FrameIntegrity.lean ====
section
/-!
SUPPORT. Sys2Proof/Laws/FrameIntegrity.lean: what each operation of Machine/Integrity.lean leaves unchanged.
-/
namespace Sys2Proof.Laws

set_option Elab.async false
set_option linter.unusedTactic false
set_option linter.unreachableTactic false

open Sys2Proof.Machine

def m_setTagSrc : Nat := 0x8000
theorem fr_setTagSrc (s : State) (k : Nat) (v : TagSrc) : Frame m_setTagSrc s (State.setTagSrc s k v) := by
  unfold State.setTagSrc
  repeat' first
    | with_reducible assumption
    | with_reducible exact Frame.refl _ _
    | (with_reducible exact .inl rfl)
    | exact .inr (by decide +kernel)
    | (intro x; first
        | (refine Frame.cut (w := m_setTagSrc) (s := s) x ?_ ?_
           on_goal 2 => intro hx; clear_value x
           on_goal 1 => unfold x; clear x)
        | clear_value x
        | skip)
    | lift_lets -underBinder
    | dsimp -zeta only
    | split
    | (rw [mk_put]; with_reducible apply Frame.upd)

def m_setTagChk : Nat := 0x8000
theorem fr_setTagChk (s : State) (c : Nat) (v : TagChk) : Frame m_setTagChk s (State.setTagChk s c v) := by
  unfold State.setTagChk
  repeat' first
    | with_reducible assumption
    | with_reducible exact Frame.refl _ _
    | (with_reducible exact .inl rfl)
    | exact .inr (by decide +kernel)
    | (intro x; first
        | (refine Frame.cut (w := m_setTagChk) (s := s) x ?_ ?_
           on_goal 2 => intro hx; clear_value x
           on_goal 1 => unfold x; clear x)
        | clear_value x
        | skip)
    | lift_lets -underBinder
    | dsimp -zeta only
    | split
    | (rw [mk_put]; with_reducible apply Frame.upd)

def m_tagRow : Nat := 0x8000
theorem fr_tagRow (s : State) : Frame m_tagRow s (State.tagRow s) := by
  unfold State.tagRow
  repeat' first
    | with_reducible assumption
    | with_reducible exact Frame.refl _ _
    | (with_reducible exact .inl rfl)
    | exact .inr (by decide +kernel)
    | (intro x; first
        | (refine Frame.cut (w := m_tagRow) (s := s) x ?_ ?_
           on_goal 2 => intro hx; clear_value x
           on_goal 1 => unfold x; clear x)
        | clear_value x
        | skip)
    | lift_lets -underBinder
    | (with_reducible apply Frame.after (fr_setTagSrc ..); (on_goal 2 => decide +kernel))
    | (with_reducible apply Frame.forEach; on_goal 2 => intro t a hs)
    | dsimp -zeta only
    | split
    | (rw [mk_put]; with_reducible apply Frame.upd)

def m_tagBlock : Nat := 0x8000
theorem fr_tagBlock (s : State) (p : TagPlace) (b : Blk) : Frame m_tagBlock s (State.tagBlock s p b).1 := by
  unfold State.tagBlock
  repeat' first
    | with_reducible assumption
    | with_reducible exact Frame.refl _ _
    | (intro x; first
        | (refine Frame.cut (w := m_tagBlock) (s := s) x ?_ ?_
           on_goal 2 => intro hx; clear_value x
           on_goal 1 => unfold x; clear x)
        | clear_value x
        | skip)
    | lift_lets -underBinder
    | (with_reducible apply Frame.after (fr_setTagSrc ..); (on_goal 2 => decide +kernel))
    | dsimp -zeta only
    | split

def m_declare : Nat := 0x5c00000000000000000000020
theorem fr_declare (s : State) (c : Nat) (twig : Bool) (src : Option Nat) : Frame m_declare s (State.declare s c twig src) := by
  unfold State.declare
  repeat' first
    | with_reducible assumption
    | with_reducible exact Frame.refl _ _
    | (with_reducible exact .inl rfl)
    | exact .inr (by decide +kernel)
    | (intro x; first
        | (refine Frame.cut (w := m_declare) (s := s) x ?_ ?_
           on_goal 2 => intro hx; clear_value x
           on_goal 1 => unfold x; clear x)
        | clear_value x
        | skip)
    | lift_lets -underBinder
    | (with_reducible apply Frame.setBS; (on_goal 2 => decide +kernel))
    | (with_reducible apply Frame.setS; (on_goal 2 => decide +kernel))
    | (with_reducible apply Frame.incS; (on_goal 2 => decide +kernel))
    | dsimp -zeta only
    | split
    | (rw [mk_put]; with_reducible apply Frame.upd)

def m_forgetFaults : Nat := 0x400000000000000000000020
theorem fr_forgetFaults (s : State) (gone : FaultDecl → Bool) : Frame m_forgetFaults s (State.forgetFaults s gone) := by
  unfold State.forgetFaults
  repeat' first
    | with_reducible assumption
    | with_reducible exact Frame.refl _ _
    | (with_reducible exact .inl rfl)
    | exact .inr (by decide +kernel)
    | (intro x; first
        | (refine Frame.cut (w := m_forgetFaults) (s := s) x ?_ ?_
           on_goal 2 => intro hx; clear_value x
           on_goal 1 => unfold x; clear x)
        | clear_value x
        | skip)
    | lift_lets -underBinder
    | (with_reducible apply Frame.setS; (on_goal 2 => decide +kernel))
    | dsimp -zeta only
    | split
    | (rw [mk_put]; with_reducible apply Frame.upd)

def m_undeclare : Nat := 0x4000000000000054000000000000000040003a0
theorem fr_undeclare (s : State) (c : Nat) (twig : Bool) : Frame m_undeclare s (State.undeclare s c twig) := by
  unfold State.undeclare
  repeat' first
    | with_reducible assumption
    | with_reducible exact Frame.refl _ _
    | (intro x; first
        | (refine Frame.cut (w := m_undeclare) (s := s) x ?_ ?_
           on_goal 2 => intro hx; clear_value x
           on_goal 1 => unfold x; clear x)
        | clear_value x
        | skip)
    | lift_lets -underBinder
    | (with_reducible apply Frame.setBS; (on_goal 2 => decide +kernel))
    | (with_reducible apply Frame.incS; (on_goal 2 => decide +kernel))
    | (with_reducible apply Frame.after (fr_report ..); (on_goal 2 => decide +kernel))
    | (with_reducible apply Frame.after (fr_forgetFaults ..); (on_goal 2 => decide +kernel))

def m_clearSide : Nat := 0x4000000000000054000000000000000040083a0
theorem fr_clearSide (s : State) (g : Nat) (alt : Bool) : Frame m_clearSide s (State.clearSide s g alt) := by
  unfold State.clearSide
  repeat' first
    | with_reducible assumption
    | with_reducible exact Frame.refl _ _
    | (intro x; first
        | (refine Frame.cut (w := m_clearSide) (s := s) x ?_ ?_
           on_goal 2 => intro hx; clear_value x
           on_goal 1 => unfold x; clear x)
        | clear_value x
        | skip)
    | lift_lets -underBinder
    | (with_reducible apply Frame.after (fr_setTagChk ..); (on_goal 2 => decide +kernel))
    | (with_reducible apply Frame.after (fr_undeclare ..); (on_goal 2 => decide +kernel))
    | (with_reducible apply Frame.forEach; on_goal 2 => intro t a hs)

def m_absorb : Nat := 0x8000
theorem fr_absorb (s : State) (c : Nat) (mate : Bool) (x : Nat × Nat × Blk) : Frame m_absorb s (State.absorb s c mate x) := by
  unfold State.absorb
  repeat' first
    | with_reducible assumption
    | with_reducible exact Frame.refl _ _
    | (intro x; first
        | (refine Frame.cut (w := m_absorb) (s := s) x ?_ ?_
           on_goal 2 => intro hx; clear_value x
           on_goal 1 => unfold x; clear x)
        | clear_value x
        | skip)
    | lift_lets -underBinder
    | (with_reducible apply Frame.after (fr_setTagChk ..); (on_goal 2 => decide +kernel))

def m_checkerTake : Nat := 0x8000
theorem fr_checkerTake (s : State) (g : Nat) (e : Entry) : Frame m_checkerTake s (State.checkerTake s g e) := by
  unfold State.checkerTake
  repeat' first
    | with_reducible assumption
    | with_reducible exact Frame.refl _ _
    | (intro x; first
        | (refine Frame.cut (w := m_checkerTake) (s := s) x ?_ ?_
           on_goal 2 => intro hx; clear_value x
           on_goal 1 => unfold x; clear x)
        | (refine Frame.cut (w := m_checkerTake) (s := s) x.1 ?_ ?_
           on_goal 2 => intro hx; clear_value x
           on_goal 1 => unfold x; clear x)
        | (refine Frame.cut (w := m_checkerTake) (s := s) x.2 ?_ ?_
           on_goal 2 => intro hx; clear_value x
           on_goal 1 => unfold x; clear x)
        | clear_value x
        | skip)
    | lift_lets -underBinder
    | (with_reducible apply Frame.after (fr_setTagChk ..); (on_goal 2 => decide +kernel))
    | (with_reducible apply Frame.after (fr_absorb ..); (on_goal 2 => decide +kernel))
    | (with_reducible apply Frame.forEach; on_goal 2 => intro t a hs)
    | dsimp -zeta only
    | split

def m_effPathTagCheck : Nat := 0x40000000000007dc000005800000000040083a0
theorem fr_effPathTagCheck (c : Nat) (s : State) : Frame m_effPathTagCheck s (effPathTagCheck c s) := by
  unfold effPathTagCheck
  repeat' first
    | with_reducible assumption
    | with_reducible exact Frame.refl _ _
    | (intro x; first
        | (refine Frame.cut (w := m_effPathTagCheck) (s := s) x ?_ ?_
           on_goal 2 => intro hx; clear_value x
           on_goal 1 => unfold x; clear x)
        | (refine Frame.cut (w := m_effPathTagCheck) (s := s) x.1 ?_ ?_
           on_goal 2 => intro hx; clear_value x
           on_goal 1 => unfold x; clear x)
        | (refine Frame.cut (w := m_effPathTagCheck) (s := s) x.2 ?_ ?_
           on_goal 2 => intro hx; clear_value x
           on_goal 1 => unfold x; clear x)
        | clear_value x
        | skip)
    | lift_lets -underBinder
    | (with_reducible apply Frame.setBS; (on_goal 2 => decide +kernel))
    | (with_reducible apply Frame.setS; (on_goal 2 => decide +kernel))
    | (with_reducible apply Frame.set64S; (on_goal 2 => decide +kernel); (on_goal 2 => decide +kernel))
    | (with_reducible apply Frame.incS; (on_goal 2 => decide +kernel))
    | (with_reducible apply Frame.after (fr_setTagChk ..); (on_goal 2 => decide +kernel))
    | (with_reducible apply Frame.after (fr_declare ..); (on_goal 2 => decide +kernel))
    | (with_reducible apply Frame.after (fr_settleGroups ..); (on_goal 2 => decide +kernel))
    | (with_reducible apply Frame.after (fr_report ..); (on_goal 2 => decide +kernel))
    | (with_reducible apply Frame.after (fr_irqSet ..); (on_goal 2 => decide +kernel))
    | (with_reducible apply Frame.after (fr_undeclare ..); (on_goal 2 => decide +kernel))
    | dsimp -zeta only
    | split

def m_cvuClose : Nat := 0xf9800000400000000000000000000000000000004000380
theorem fr_cvuClose (s : State) (u : Nat) : Frame m_cvuClose s (State.cvuClose s u) := by
  unfold State.cvuClose
  repeat' first
    | with_reducible assumption
    | with_reducible exact Frame.refl _ _
    | (intro x; first
        | (refine Frame.cut (w := m_cvuClose) (s := s) x ?_ ?_
           on_goal 2 => intro hx; clear_value x
           on_goal 1 => unfold x; clear x)
        | (refine Frame.cut (w := m_cvuClose) (s := s) x.1 ?_ ?_
           on_goal 2 => intro hx; clear_value x
           on_goal 1 => unfold x; clear x)
        | (refine Frame.cut (w := m_cvuClose) (s := s) x.2 ?_ ?_
           on_goal 2 => intro hx; clear_value x
           on_goal 1 => unfold x; clear x)
        | clear_value x
        | skip)
    | lift_lets -underBinder
    | (with_reducible apply Frame.setBS; (on_goal 2 => decide +kernel))
    | (with_reducible apply Frame.setS; (on_goal 2 => decide +kernel))
    | (with_reducible apply Frame.set64S; (on_goal 2 => decide +kernel); (on_goal 2 => decide +kernel))
    | (with_reducible apply Frame.incS; (on_goal 2 => decide +kernel))
    | (with_reducible apply Frame.incWS; (on_goal 2 => decide +kernel))
    | (with_reducible apply Frame.after (fr_report ..); (on_goal 2 => decide +kernel))
    | dsimp -zeta only
    | split

def m_cvuFeed : Nat := 0xf9800000400000000000000000000000000000004000380
theorem fr_cvuFeed (s : State) (u : Nat) (l : List Sys2Proof.Byte) : Frame m_cvuFeed s (State.cvuFeed s u l) := by
  unfold State.cvuFeed
  repeat' first
    | with_reducible assumption
    | with_reducible exact Frame.refl _ _
    | (intro x; first
        | (refine Frame.cut (w := m_cvuFeed) (s := s) x ?_ ?_
           on_goal 2 => intro hx; clear_value x
           on_goal 1 => unfold x; clear x)
        | clear_value x
        | skip)
    | lift_lets -underBinder
    | (with_reducible apply Frame.set64S; (on_goal 2 => decide +kernel); (on_goal 2 => decide +kernel))
    | (with_reducible apply Frame.incS; (on_goal 2 => decide +kernel))
    | (with_reducible apply Frame.after (fr_cvuClose ..); (on_goal 2 => decide +kernel))
    | (with_reducible apply Frame.forEach; on_goal 2 => intro t a hs)
    | dsimp -zeta only
    | split

def m_effCvuWindowClose : Nat := 0xf9800000400000000000000000000000000000004000380
theorem fr_effCvuWindowClose (u : Nat) (s : State) : Frame m_effCvuWindowClose s (effCvuWindowClose u s) := by
  unfold effCvuWindowClose
  repeat' first
    | with_reducible assumption
    | with_reducible exact Frame.refl _ _
    | lift_lets -underBinder
    | (with_reducible apply Frame.after (fr_cvuClose ..); (on_goal 2 => decide +kernel))
    | dsimp -zeta only
    | split

def m_initCtx : Nat := 0x2d3f4000000000000000000000000000000000000004000000000000000000008010
theorem fr_initCtx (s : State) (c : Nat) : Frame m_initCtx s (State.initCtx s c) := by
  unfold State.initCtx
  repeat' first
    | with_reducible assumption
    | with_reducible exact Frame.refl _ _
    | (with_reducible exact .inl rfl)
    | exact .inr (by decide +kernel)
    | (intro x; first
        | (refine Frame.cut (w := m_initCtx) (s := s) x ?_ ?_
           on_goal 2 => intro hx; clear_value x
           on_goal 1 => unfold x; clear x)
        | clear_value x
        | skip)
    | lift_lets -underBinder
    | (with_reducible apply Frame.setBS; (on_goal 2 => decide +kernel))
    | (with_reducible apply Frame.setWordS; (on_goal 2 => decide +kernel))
    | (with_reducible apply Frame.setS; (on_goal 2 => decide +kernel))
    | (with_reducible apply Frame.after (fr_setTagChk ..); (on_goal 2 => decide +kernel))
    | (with_reducible apply Frame.after (fr_setPmSt ..); (on_goal 2 => decide +kernel))
    | (with_reducible apply Frame.after (fr_setTagSrc ..); (on_goal 2 => decide +kernel))
    | (with_reducible apply Frame.forEach; on_goal 2 => intro t a hs)
    | dsimp -zeta only
    | split
    | (rw [mk_put]; with_reducible apply Frame.upd)

def m_startCtx : Nat := 0x2d3f400000000000000000000000000000000000000400000000000000000000c010
theorem fr_startCtx (s : State) (e : Entry) : Frame m_startCtx s (State.startCtx s e) := by
  unfold State.startCtx
  repeat' first
    | with_reducible assumption
    | with_reducible exact Frame.refl _ _
    | (intro x; first
        | (refine Frame.cut (w := m_startCtx) (s := s) x ?_ ?_
           on_goal 2 => intro hx; clear_value x
           on_goal 1 => unfold x; clear x)
        | clear_value x
        | skip)
    | lift_lets -underBinder
    | (with_reducible apply Frame.setS; (on_goal 2 => decide +kernel))
    | (with_reducible apply Frame.after (fr_setHost ..); (on_goal 2 => decide +kernel))
    | (with_reducible apply Frame.after (fr_initCtx ..); (on_goal 2 => decide +kernel))
    | (with_reducible apply Frame.after (fr_setCalSt ..); (on_goal 2 => decide +kernel))
    | dsimp -zeta only
    | split

def m_ctxEcc : Nat := 0x3d3fc00000000000000000000000040000000000000400b80058000000000401c3b0
theorem fr_ctxEcc (s : State) (c : Nat) : Frame m_ctxEcc s (State.ctxEcc s c) := by
  unfold State.ctxEcc
  repeat' first
    | with_reducible assumption
    | with_reducible exact Frame.refl _ _
    | lift_lets -underBinder
    | (with_reducible apply Frame.setBS; (on_goal 2 => decide +kernel))
    | (with_reducible apply Frame.after (fr_startCtx ..); (on_goal 2 => decide +kernel))
    | (with_reducible apply Frame.after (fr_report ..); (on_goal 2 => decide +kernel))
    | (with_reducible apply Frame.after (fr_settle ..); (on_goal 2 => decide +kernel))
    | dsimp -zeta only
    | split

def m_ctxCorr : Nat := 0x10000000000000000000000000000000000000000000000000000000000000000000
theorem fr_ctxCorr (s : State) (c : Nat) : Frame m_ctxCorr s (State.ctxCorr s c) := by
  unfold State.ctxCorr
  repeat' first
    | with_reducible assumption
    | with_reducible exact Frame.refl _ _
    | lift_lets -underBinder
    | (with_reducible apply Frame.incS; (on_goal 2 => decide +kernel))
    | dsimp -zeta only
    | split

end Sys2Proof.Laws
end

