-- ==== Sys2Proof/Laws/FrameQuickset.lean ====
section
/-!
SUPPORT. Sys2Proof/Laws/FrameQuickset.lean: what each operation of Machine/Quickset.lean leaves unchanged.
-/
namespace Sys2Proof.Laws

set_option Elab.async false
set_option linter.unusedTactic false
set_option linter.unreachableTactic false

open Sys2Proof.Machine

def m_effHoldoffExpiry : Nat := 0x20
theorem fr_effHoldoffExpiry (g : Nat) (t : Nat) (s : State) : Frame m_effHoldoffExpiry s (effHoldoffExpiry g t s) := by
  unfold effHoldoffExpiry
  repeat' first
    | with_reducible assumption
    | with_reducible exact Frame.refl _ _
    | (intro x; first
        | (refine Frame.cut (w := m_effHoldoffExpiry) (s := s) x ?_ ?_
           on_goal 2 => intro hx; clear_value x
           on_goal 1 => unfold x; clear x)
        | clear_value x
        | skip)
    | lift_lets -underBinder
    | (with_reducible apply Frame.after (fr_setGrp ..); (on_goal 2 => decide +kernel))
    | dsimp -zeta only
    | split

def m_declareDue : Nat := 0x4000000000000000000000800000000040003a0
theorem fr_declareDue (s : State) (e : Entry) : Frame m_declareDue s (State.declareDue s e) := by
  unfold State.declareDue
  repeat' first
    | with_reducible assumption
    | with_reducible exact Frame.refl _ _
    | (intro x; first
        | (refine Frame.cut (w := m_declareDue) (s := s) x ?_ ?_
           on_goal 2 => intro hx; clear_value x
           on_goal 1 => unfold x; clear x)
        | (refine Frame.cut (w := m_declareDue) (s := s) x.1 ?_ ?_
           on_goal 2 => intro hx; clear_value x
           on_goal 1 => unfold x; clear x)
        | (refine Frame.cut (w := m_declareDue) (s := s) x.2 ?_ ?_
           on_goal 2 => intro hx; clear_value x
           on_goal 1 => unfold x; clear x)
        | clear_value x
        | skip)
    | lift_lets -underBinder
    | (with_reducible apply Frame.setBS; (on_goal 2 => decide +kernel))
    | (with_reducible apply Frame.after (fr_evalGroup ..); (on_goal 2 => decide +kernel))
    | (with_reducible apply Frame.after (fr_setGrp ..); (on_goal 2 => decide +kernel))
    | dsimp -zeta only
    | split

def m_effWtrExpiry : Nat := 0x4000000000000000000000800000000040003a0
theorem fr_effWtrExpiry (g : Nat) (s : State) : Frame m_effWtrExpiry s (effWtrExpiry g s) := by
  unfold effWtrExpiry
  repeat' first
    | with_reducible assumption
    | with_reducible exact Frame.refl _ _
    | (intro x; first
        | (refine Frame.cut (w := m_effWtrExpiry) (s := s) x ?_ ?_
           on_goal 2 => intro hx; clear_value x
           on_goal 1 => unfold x; clear x)
        | clear_value x
        | skip)
    | lift_lets -underBinder
    | (with_reducible apply Frame.setBS; (on_goal 2 => decide +kernel))
    | (with_reducible apply Frame.setS; (on_goal 2 => decide +kernel))
    | (with_reducible apply Frame.after (fr_evalGroup ..); (on_goal 2 => decide +kernel))
    | (with_reducible apply Frame.after (fr_setGrp ..); (on_goal 2 => decide +kernel))
    | dsimp -zeta only
    | split

def m_effForcePinEdge : Nat := 0x400000000000000000001d800000000040003a0
theorem fr_effForcePinEdge (k : Nat) (on : Bool) (s : State) : Frame m_effForcePinEdge s (effForcePinEdge k on s) := by
  have h : ∀ hi lo, covered m_effForcePinEdge ⟨0x00A004, 0, 1, hi, lo⟩ = true := fun hi lo =>
    (show covered m_effForcePinEdge ⟨0x00A004, 0, 1, hi, lo⟩ = covered m_effForcePinEdge ⟨0x00A004, 0, 1, 0, 0⟩ from rfl).trans
      (by decide +kernel)
  have hq : ∀ (x : State) (q : QsBlock), Frame m_effForcePinEdge s x → Frame m_effForcePinEdge s { x with qs := q } := by
    intro x q hx
    rw [mk_put]
    apply Frame.upd hx <;> first | exact .inl rfl | exact .inr (by decide +kernel)
  unfold effForcePinEdge
  dsimp only
  repeat' split
  · exact Frame.refl _ _
  · refine ((Frame.setS (Frame.setS (hq _ _ (hq _ _ (Frame.refl _ _))) ?_) ?_).step (fr_irqSet ..) ?_).step
      (fr_settleGroups ..) ?_ <;> decide +kernel
  · exact (hq _ _ (Frame.refl _ _)).incS (h _ _)
  · exact (((hq _ _ (Frame.refl _ _)).incS (h _ _)).setS (by decide +kernel)).step (fr_report ..) (by decide +kernel)

def m_holdMbx : Nat := 0x4000000000000000000001800000000040003a0
theorem fr_holdMbx (s : State) (e : Entry) (c : Nat) : Frame m_holdMbx s (State.holdMbx s e c) := by
  unfold State.holdMbx
  repeat' first
    | with_reducible assumption
    | with_reducible exact Frame.refl _ _
    | (intro x; first
        | (refine Frame.cut (w := m_holdMbx) (s := s) x ?_ ?_
           on_goal 2 => intro hx; clear_value x
           on_goal 1 => unfold x; clear x)
        | clear_value x
        | skip)
    | lift_lets -underBinder
    | (with_reducible apply Frame.setBS; (on_goal 2 => decide +kernel))
    | (with_reducible apply Frame.setS; (on_goal 2 => decide +kernel))
    | (with_reducible apply Frame.after (fr_evalGroup ..); (on_goal 2 => decide +kernel))
    | (with_reducible apply Frame.after (fr_setGrp ..); (on_goal 2 => decide +kernel))
    | dsimp -zeta only
    | split

def m_cmdForceSwitch : Nat := 0x4000000000000000000001800000000040003a0
theorem fr_cmdForceSwitch (s : State) (g : Nat) (c : Nat) : Frame m_cmdForceSwitch s (State.cmdForceSwitch s g c).2 := by
  unfold State.cmdForceSwitch
  repeat' first
    | with_reducible assumption
    | with_reducible exact Frame.refl _ _
    | lift_lets -underBinder
    | (with_reducible apply Frame.after (fr_holdMbx ..); (on_goal 2 => decide +kernel))
    | dsimp -zeta only
    | split

def m_cmdClearForce : Nat := 0x4000000000000000000001800000000040003a0
theorem fr_cmdClearForce (s : State) (g : Nat) : Frame m_cmdClearForce s (State.cmdClearForce s g).2 := by
  unfold State.cmdClearForce
  repeat' first
    | with_reducible assumption
    | with_reducible exact Frame.refl _ _
    | lift_lets -underBinder
    | (with_reducible apply Frame.after (fr_holdMbx ..); (on_goal 2 => decide +kernel))
    | dsimp -zeta only
    | split

def m_apsTake : Nat := 0x4000000000000000000002800000000040003a0
theorem fr_apsTake (s : State) (e : Entry) (b1 : Nat) (b2 : Nat) (b3 : Nat) (code : Nat) : Frame m_apsTake s (State.apsTake s e b1 b2 b3 code) := by
  unfold State.apsTake
  repeat' first
    | with_reducible assumption
    | with_reducible exact Frame.refl _ _
    | (intro x; first
        | (refine Frame.cut (w := m_apsTake) (s := s) x ?_ ?_
           on_goal 2 => intro hx; clear_value x
           on_goal 1 => unfold x; clear x)
        | clear_value x
        | skip)
    | lift_lets -underBinder
    | (with_reducible apply Frame.setS; (on_goal 2 => decide +kernel))
    | (with_reducible apply Frame.after (fr_setFop ..); (on_goal 2 => decide +kernel))
    | (with_reducible apply Frame.after (fr_evalGroup ..); (on_goal 2 => decide +kernel))
    | (with_reducible apply Frame.after (fr_setGrp ..); (on_goal 2 => decide +kernel))

def m_effApsReceived : Nat := 0x4000000000000000000006800000000040003a0
theorem fr_effApsReceived (g : Nat) (b1 : Nat) (b2 : Nat) (b3 : Nat) (s : State) : Frame m_effApsReceived s (effApsReceived g b1 b2 b3 s) := by
  unfold effApsReceived
  repeat' first
    | with_reducible assumption
    | with_reducible exact Frame.refl _ _
    | (intro x; first
        | (refine Frame.cut (w := m_effApsReceived) (s := s) x ?_ ?_
           on_goal 2 => intro hx; clear_value x
           on_goal 1 => unfold x; clear x)
        | (refine Frame.cut (w := m_effApsReceived) (s := s) x.1 ?_ ?_
           on_goal 2 => intro hx; clear_value x
           on_goal 1 => unfold x; clear x)
        | (refine Frame.cut (w := m_effApsReceived) (s := s) x.2 ?_ ?_
           on_goal 2 => intro hx; clear_value x
           on_goal 1 => unfold x; clear x)
        | clear_value x
        | skip)
    | lift_lets -underBinder
    | (with_reducible apply Frame.incS; (on_goal 2 => decide +kernel))
    | (with_reducible apply Frame.after (fr_setGrp ..); (on_goal 2 => decide +kernel))
    | (with_reducible apply Frame.after (fr_apsTake ..); (on_goal 2 => decide +kernel))
    | dsimp -zeta only
    | split

def m_effFopNrDeclare : Nat := 0x400000000000000000000080000000004000380
theorem fr_effFopNrDeclare (g : Nat) (s : State) : Frame m_effFopNrDeclare s (effFopNrDeclare g s) := by
  unfold effFopNrDeclare
  repeat' first
    | with_reducible assumption
    | with_reducible exact Frame.refl _ _
    | lift_lets -underBinder
    | (with_reducible apply Frame.after (fr_setFop ..); (on_goal 2 => decide +kernel))
    | dsimp -zeta only
    | split

def m_moveGroup : Nat := 0x4000000000000054000005800000000040083a0
theorem fr_moveGroup (s : State) (e : Entry) : Frame m_moveGroup s (State.moveGroup s e) := by
  unfold State.moveGroup
  repeat' first
    | with_reducible assumption
    | with_reducible exact Frame.refl _ _
    | (intro x; first
        | (refine Frame.cut (w := m_moveGroup) (s := s) x ?_ ?_
           on_goal 2 => intro hx; clear_value x
           on_goal 1 => unfold x; clear x)
        | clear_value x
        | skip)
    | lift_lets -underBinder
    | (with_reducible apply Frame.setBS; (on_goal 2 => decide +kernel))
    | (with_reducible apply Frame.incWS; (on_goal 2 => decide +kernel))
    | (with_reducible apply Frame.after (fr_settleGroup ..); (on_goal 2 => decide +kernel))
    | (with_reducible apply Frame.after (fr_report ..); (on_goal 2 => decide +kernel))
    | (with_reducible apply Frame.after (fr_evalGroup ..); (on_goal 2 => decide +kernel))
    | (with_reducible apply Frame.after (fr_clearSide ..); (on_goal 2 => decide +kernel))
    | dsimp -zeta only
    | split

def m_quicksetRow : Nat := 0x4000000000000054000005800000000040083a0
theorem fr_quicksetRow (s : State) (before : Option (List Nat)) (disagree : List Nat) : Frame m_quicksetRow s (State.quicksetRow s before disagree) := by
  unfold State.quicksetRow
  repeat' first
    | with_reducible assumption
    | with_reducible exact Frame.refl _ _
    | (intro x; first
        | (refine Frame.cut (w := m_quicksetRow) (s := s) x ?_ ?_
           on_goal 2 => intro hx; clear_value x
           on_goal 1 => unfold x; clear x)
        | clear_value x
        | skip)
    | lift_lets -underBinder
    | (with_reducible apply Frame.after (fr_moveGroup ..); (on_goal 2 => decide +kernel))
    | (with_reducible apply Frame.after (fr_report ..); (on_goal 2 => decide +kernel))
    | (with_reducible apply Frame.after (fr_setGrp ..); (on_goal 2 => decide +kernel))
    | (with_reducible apply Frame.forEach; on_goal 2 => intro t a hs)
    | dsimp -zeta only
    | split

def m_declareAllDue : Nat := 0x4000000000000000000000800000000040003a0
theorem fr_declareAllDue (s : State) : Frame m_declareAllDue s (State.declareAllDue s) := by
  unfold State.declareAllDue
  repeat' first
    | with_reducible assumption
    | with_reducible exact Frame.refl _ _
    | lift_lets -underBinder
    | (with_reducible apply Frame.after (fr_declareDue ..); (on_goal 2 => decide +kernel))
    | (with_reducible apply Frame.forEach; on_goal 2 => intro t a hs)

def m_freshGroup : Nat := 0x4000000000000000000007800000000040003a0
theorem fr_freshGroup (s : State) (e : Entry) : Frame m_freshGroup s (State.freshGroup s e) := by
  unfold State.freshGroup
  repeat' first
    | with_reducible assumption
    | with_reducible exact Frame.refl _ _
    | (intro x; first
        | (refine Frame.cut (w := m_freshGroup) (s := s) x ?_ ?_
           on_goal 2 => intro hx; clear_value x
           on_goal 1 => unfold x; clear x)
        | clear_value x
        | skip)
    | lift_lets -underBinder
    | (with_reducible apply Frame.setBS; (on_goal 2 => decide +kernel))
    | (with_reducible apply Frame.setWordS; (on_goal 2 => decide +kernel))
    | (with_reducible apply Frame.resetInstS; (on_goal 2 => decide +kernel))
    | (with_reducible apply Frame.after (fr_report ..); (on_goal 2 => decide +kernel))
    | (with_reducible apply Frame.after (fr_setGrp ..); (on_goal 2 => decide +kernel))
    | dsimp -zeta only
    | split

def m_retimeGroup : Nat := 0x4000000000000000000000800000000040003a0
theorem fr_retimeGroup (s : State) (e : Entry) : Frame m_retimeGroup s (State.retimeGroup s e) := by
  unfold State.retimeGroup
  repeat' first
    | with_reducible assumption
    | with_reducible exact Frame.refl _ _
    | (intro x; first
        | (refine Frame.cut (w := m_retimeGroup) (s := s) x ?_ ?_
           on_goal 2 => intro hx; clear_value x
           on_goal 1 => unfold x; clear x)
        | clear_value x
        | skip)
    | lift_lets -underBinder
    | (with_reducible apply Frame.setS; (on_goal 2 => decide +kernel))
    | (with_reducible apply Frame.after (fr_setFop ..); (on_goal 2 => decide +kernel))
    | (with_reducible apply Frame.after (fr_setGrp ..); (on_goal 2 => decide +kernel))
    | dsimp -zeta only
    | split

def m_removeGroup : Nat := 0x4000000000000000000007800000000040003a0
theorem fr_removeGroup (s : State) (o : Entry) : Frame m_removeGroup s (State.removeGroup s o) := by
  unfold State.removeGroup
  repeat' first
    | with_reducible assumption
    | with_reducible exact Frame.refl _ _
    | (intro x; first
        | (refine Frame.cut (w := m_removeGroup) (s := s) x ?_ ?_
           on_goal 2 => intro hx; clear_value x
           on_goal 1 => unfold x; clear x)
        | clear_value x
        | skip)
    | lift_lets -underBinder
    | (with_reducible apply Frame.resetInstS; (on_goal 2 => decide +kernel))
    | (with_reducible apply Frame.after (fr_report ..); (on_goal 2 => decide +kernel))
    | (with_reducible apply Frame.after (fr_setGrp ..); (on_goal 2 => decide +kernel))
    | dsimp -zeta only
    | split

def m_protectionTaken : Nat := 0x4000000000000000000047800000000040003a0
theorem fr_protectionTaken (s : State) (old : List Entry) : Frame m_protectionTaken s (State.protectionTaken s old) := by
  unfold State.protectionTaken
  repeat' first
    | with_reducible assumption
    | with_reducible exact Frame.refl _ _
    | (intro x; first
        | (refine Frame.cut (w := m_protectionTaken) (s := s) x ?_ ?_
           on_goal 2 => intro hx; clear_value x
           on_goal 1 => unfold x; clear x)
        | clear_value x
        | skip)
    | lift_lets -underBinder
    | (with_reducible apply Frame.setS; (on_goal 2 => decide +kernel))
    | (with_reducible apply Frame.after (fr_removeGroup ..); (on_goal 2 => decide +kernel))
    | (with_reducible apply Frame.after (fr_settleGroups ..); (on_goal 2 => decide +kernel))
    | (with_reducible apply Frame.after (fr_retimeGroup ..); (on_goal 2 => decide +kernel))
    | (with_reducible apply Frame.after (fr_freshGroup ..); (on_goal 2 => decide +kernel))
    | (with_reducible apply Frame.forEach; on_goal 2 => intro t a hs)
    | dsimp -zeta only
    | split

end Sys2Proof.Laws
end

