-- ==== Sys2Proof/Laws/FrameTwig.lean ====
section
/-!
SUPPORT. Sys2Proof/Laws/FrameTwig.lean: what each operation of Machine/Twig.lean leaves unchanged.
-/
namespace Sys2Proof.Laws

set_option Elab.async false
set_option linter.unusedTactic false
set_option linter.unreachableTactic false

open Sys2Proof.Machine

def m_checkTags : Nat := 0x8000000000000000000004000
theorem fr_checkTags (s : State) (h : Nat) (frame : Nat) (fnum : Nat) (e : Entry) : Frame m_checkTags s (State.checkTags s h frame fnum e) := by
  unfold State.checkTags
  repeat' first
    | with_reducible assumption
    | with_reducible exact Frame.refl _ _
    | (intro x; first
        | (refine Frame.cut (w := m_checkTags) (s := s) x ?_ ?_
           on_goal 2 => intro hx; clear_value x
           on_goal 1 => unfold x; clear x)
        | clear_value x
        | skip)
    | lift_lets -underBinder
    | (with_reducible apply Frame.incS; (on_goal 2 => decide +kernel))
    | (with_reducible apply Frame.after (fr_setHost ..); (on_goal 2 => decide +kernel))
    | (with_reducible apply Frame.forEach; on_goal 2 => intro t a hs)
    | dsimp -zeta only
    | split

def m_hostFrame : Nat := 0x2f2fc0000000000000000f980000040000000000000800b80058000000000401c3b0
theorem fr_hostFrame (s : State) (h : Nat) (c : Nat) (frame : Nat) (hcrcOk : Bool) : Frame m_hostFrame s (State.hostFrame s h c frame hcrcOk) := by
  unfold State.hostFrame
  repeat' first
    | with_reducible assumption
    | with_reducible exact Frame.refl _ _
    | (intro x; first
        | (refine Frame.cut (w := m_hostFrame) (s := s) x ?_ ?_
           on_goal 2 => intro hx; clear_value x
           on_goal 1 => unfold x; clear x)
        | (refine Frame.cut (w := m_hostFrame) (s := s) x.1 ?_ ?_
           on_goal 2 => intro hx; clear_value x
           on_goal 1 => unfold x; clear x)
        | (refine Frame.cut (w := m_hostFrame) (s := s) x.2 ?_ ?_
           on_goal 2 => intro hx; clear_value x
           on_goal 1 => unfold x; clear x)
        | clear_value x
        | skip)
    | lift_lets -underBinder
    | (with_reducible apply Frame.setS; (on_goal 2 => decide +kernel))
    | (with_reducible apply Frame.incS; (on_goal 2 => decide +kernel))
    | (with_reducible apply Frame.after (fr_setHost ..); (on_goal 2 => decide +kernel))
    | (with_reducible apply Frame.after (fr_frameIn ..); (on_goal 2 => decide +kernel))
    | (with_reducible apply Frame.after (fr_wrapUnits ..); (on_goal 2 => decide +kernel))
    | (with_reducible apply Frame.after (fr_checkTags ..); (on_goal 2 => decide +kernel))
    | (with_reducible apply Frame.after (fr_cvuFeed ..); (on_goal 2 => decide +kernel))
    | (with_reducible apply Frame.forEach; on_goal 2 => intro t a hs)
    | dsimp -zeta only
    | split

def m_nextFrame : Nat := 0x10
theorem fr_nextFrame (s : State) (c : Nat) : Frame m_nextFrame s (State.nextFrame s c).2 := by
  unfold State.nextFrame
  repeat' first
    | with_reducible assumption
    | with_reducible exact Frame.refl _ _
    | (intro x; first
        | (refine Frame.cut (w := m_nextFrame) (s := s) x ?_ ?_
           on_goal 2 => intro hx; clear_value x
           on_goal 1 => unfold x; clear x)
        | clear_value x
        | skip)
    | lift_lets -underBinder
    | (with_reducible apply Frame.after (fr_setMapSt ..); (on_goal 2 => decide +kernel))
    | dsimp -zeta only
    | split

def m_effTwigFrameReceived : Nat := 0x2f2fc0000000000000000f980000040000000000000800b80058000000000401c3b0
theorem fr_effTwigFrameReceived (h : Nat) (bytes : List Sys2Proof.Byte) (s : State) : Frame m_effTwigFrameReceived s (effTwigFrameReceived h bytes s) := by
  unfold effTwigFrameReceived
  repeat' first
    | with_reducible assumption
    | with_reducible exact Frame.refl _ _
    | (intro x; first
        | (refine Frame.cut (w := m_effTwigFrameReceived) (s := s) x ?_ ?_
           on_goal 2 => intro hx; clear_value x
           on_goal 1 => unfold x; clear x)
        | clear_value x
        | skip)
    | lift_lets -underBinder
    | (with_reducible apply Frame.after (fr_feed ..); (on_goal 2 => decide +kernel))
    | (with_reducible apply Frame.after (fr_setHost ..); (on_goal 2 => decide +kernel))
    | (with_reducible apply Frame.after (fr_frameIn ..); (on_goal 2 => decide +kernel))
    | (with_reducible apply Frame.after (fr_nextFrame ..); (on_goal 2 => decide +kernel))
    | (with_reducible apply Frame.after (fr_hostFrame ..); (on_goal 2 => decide +kernel))
    | dsimp -zeta only
    | split

def m_effHostSlip : Nat := 0xc000000000000000000000000000400000000000000000000000000000004004380
theorem fr_effHostSlip (h : Nat) (fast : Bool) (past : Nat) (s : State) : Frame m_effHostSlip s (effHostSlip h fast past s) := by
  unfold effHostSlip
  repeat' first
    | with_reducible assumption
    | with_reducible exact Frame.refl _ _
    | (intro x; first
        | (refine Frame.cut (w := m_effHostSlip) (s := s) x ?_ ?_
           on_goal 2 => intro hx; clear_value x
           on_goal 1 => unfold x; clear x)
        | clear_value x
        | skip)
    | lift_lets -underBinder
    | (with_reducible apply Frame.setS; (on_goal 2 => decide +kernel))
    | (with_reducible apply Frame.incS; (on_goal 2 => decide +kernel))
    | (with_reducible apply Frame.after (fr_setHost ..); (on_goal 2 => decide +kernel))
    | (with_reducible apply Frame.after (fr_report ..); (on_goal 2 => decide +kernel))
    | dsimp -zeta only
    | split

def m_effTwigRoundEnd : Nat := 0x400000000000005c000005800000000040043a0
theorem fr_effTwigRoundEnd (h : Nat) (s : State) : Frame m_effTwigRoundEnd s (effTwigRoundEnd h s) := by
  unfold effTwigRoundEnd
  repeat' first
    | with_reducible assumption
    | with_reducible exact Frame.refl _ _
    | (intro x; first
        | (refine Frame.cut (w := m_effTwigRoundEnd) (s := s) x ?_ ?_
           on_goal 2 => intro hx; clear_value x
           on_goal 1 => unfold x; clear x)
        | clear_value x
        | skip)
    | lift_lets -underBinder
    | (with_reducible apply Frame.setS; (on_goal 2 => decide +kernel))
    | (with_reducible apply Frame.incS; (on_goal 2 => decide +kernel))
    | (with_reducible apply Frame.after (fr_declare ..); (on_goal 2 => decide +kernel))
    | (with_reducible apply Frame.after (fr_settleGroups ..); (on_goal 2 => decide +kernel))
    | (with_reducible apply Frame.after (fr_setHost ..); (on_goal 2 => decide +kernel))
    | (with_reducible apply Frame.after (fr_report ..); (on_goal 2 => decide +kernel))
    | (with_reducible apply Frame.after (fr_undeclare ..); (on_goal 2 => decide +kernel))
    | (with_reducible apply Frame.forEach; on_goal 2 => intro t a hs)
    | dsimp -zeta only
    | split

def m_setTwigOut : Nat := 0x4000
theorem fr_setTwigOut (s : State) (h : Nat) (v : TwigOut) : Frame m_setTwigOut s (State.setTwigOut s h v) := by
  unfold State.setTwigOut
  repeat' first
    | with_reducible assumption
    | with_reducible exact Frame.refl _ _
    | (with_reducible exact .inl rfl)
    | exact .inr (by decide +kernel)
    | (intro x; first
        | (refine Frame.cut (w := m_setTwigOut) (s := s) x ?_ ?_
           on_goal 2 => intro hx; clear_value x
           on_goal 1 => unfold x; clear x)
        | clear_value x
        | skip)
    | lift_lets -underBinder
    | dsimp -zeta only
    | split
    | (rw [mk_put]; with_reducible apply Frame.upd)

def m_assemble : Nat := 0x4000
theorem fr_assemble (s : State) (h : Nat) (b : Nat) : Frame m_assemble s (State.assemble s h b) := by
  unfold State.assemble
  repeat' first
    | with_reducible assumption
    | with_reducible exact Frame.refl _ _
    | (intro x; first
        | (refine Frame.cut (w := m_assemble) (s := s) x ?_ ?_
           on_goal 2 => intro hx; clear_value x
           on_goal 1 => unfold x; clear x)
        | (refine Frame.cut (w := m_assemble) (s := s) x.1 ?_ ?_
           on_goal 2 => intro hx; clear_value x
           on_goal 1 => unfold x; clear x)
        | (refine Frame.cut (w := m_assemble) (s := s) x.2 ?_ ?_
           on_goal 2 => intro hx; clear_value x
           on_goal 1 => unfold x; clear x)
        | clear_value x
        | skip)
    | lift_lets -underBinder
    | (with_reducible apply Frame.after (fr_setTwigOut ..); (on_goal 2 => decide +kernel))
    | dsimp -zeta only
    | split

def m_rollHost : Nat := 0xf9800000400000000000000000000000000000004004380
theorem fr_rollHost (s : State) (h : Nat) : Frame m_rollHost s (State.rollHost s h) := by
  unfold State.rollHost
  repeat' first
    | with_reducible assumption
    | with_reducible exact Frame.refl _ _
    | (with_reducible exact .inl rfl)
    | exact .inr (by decide +kernel)
    | (intro x; first
        | (refine Frame.cut (w := m_rollHost) (s := s) x ?_ ?_
           on_goal 2 => intro hx; clear_value x
           on_goal 1 => unfold x; clear x)
        | (refine Frame.cut (w := m_rollHost) (s := s) x.1 ?_ ?_
           on_goal 2 => intro hx; clear_value x
           on_goal 1 => unfold x; clear x)
        | (refine Frame.cut (w := m_rollHost) (s := s) x.2 ?_ ?_
           on_goal 2 => intro hx; clear_value x
           on_goal 1 => unfold x; clear x)
        | clear_value x
        | skip)
    | lift_lets -underBinder
    | (with_reducible apply Frame.after (fr_assemble ..); (on_goal 2 => decide +kernel))
    | (with_reducible apply Frame.after (fr_setTwigOut ..); (on_goal 2 => decide +kernel))
    | (with_reducible apply Frame.after (fr_cvuFeed ..); (on_goal 2 => decide +kernel))
    | (with_reducible apply Frame.forEach; on_goal 2 => intro t a hs)
    | dsimp -zeta only
    | split
    | (rw [mk_put]; with_reducible apply Frame.upd)

def m_measureTwigs : Nat := 0x100000
theorem fr_measureTwigs (s : State) : Frame m_measureTwigs s (State.measureTwigs s) := by
  unfold State.measureTwigs
  repeat' first
    | with_reducible assumption
    | with_reducible exact Frame.refl _ _
    | (with_reducible exact .inl rfl)
    | exact .inr (by decide +kernel)
    | (intro x; first
        | (refine Frame.cut (w := m_measureTwigs) (s := s) x ?_ ?_
           on_goal 2 => intro hx; clear_value x
           on_goal 1 => unfold x; clear x)
        | (refine Frame.cut (w := m_measureTwigs) (s := s) x.1 ?_ ?_
           on_goal 2 => intro hx; clear_value x
           on_goal 1 => unfold x; clear x)
        | (refine Frame.cut (w := m_measureTwigs) (s := s) x.2 ?_ ?_
           on_goal 2 => intro hx; clear_value x
           on_goal 1 => unfold x; clear x)
        | clear_value x
        | skip)
    | lift_lets -underBinder
    | dsimp -zeta only
    | split
    | (rw [mk_put]; with_reducible apply Frame.upd)

def m_effTwigFrameBoundary : Nat := 0xf9800000400000000000000000000000000000004114380
theorem fr_effTwigFrameBoundary (s : State) : Frame m_effTwigFrameBoundary s (effTwigFrameBoundary s) := by
  unfold effTwigFrameBoundary
  repeat' first
    | with_reducible assumption
    | with_reducible exact Frame.refl _ _
    | (with_reducible exact .inl rfl)
    | exact .inr (by decide +kernel)
    | (intro x; first
        | (refine Frame.cut (w := m_effTwigFrameBoundary) (s := s) x ?_ ?_
           on_goal 2 => intro hx; clear_value x
           on_goal 1 => unfold x; clear x)
        | clear_value x
        | skip)
    | lift_lets -underBinder
    | (with_reducible apply Frame.after (fr_rollHost ..); (on_goal 2 => decide +kernel))
    | (with_reducible apply Frame.after (fr_measureTwigs ..); (on_goal 2 => decide +kernel))
    | (with_reducible apply Frame.after (fr_wrapFrame ..); (on_goal 2 => decide +kernel))
    | (with_reducible apply Frame.after (fr_mergeFrame ..); (on_goal 2 => decide +kernel))
    | (with_reducible apply Frame.forEach; on_goal 2 => intro t a hs)
    | dsimp -zeta only
    | split
    | (rw [mk_put]; with_reducible apply Frame.upd)

end Sys2Proof.Laws
end

