-- ==== Sys2Proof/Laws/FrameRecords.lean ====
section
/-!
SUPPORT. Sys2Proof/Laws/FrameRecords.lean: what each operation of Machine/Records.lean leaves unchanged.
-/
namespace Sys2Proof.Laws

set_option Elab.async false
set_option linter.unusedTactic false
set_option linter.unreachableTactic false

open Sys2Proof.Machine

def m_setCur : Nat := 0x7000000000000000000000000000000000000000
theorem fr_setCur (s : State) (n : Nat) (st : Nat) : Frame m_setCur s (State.setCur s n st) := by
  unfold State.setCur
  repeat' first
    | with_reducible assumption
    | with_reducible exact Frame.refl _ _
    | lift_lets -underBinder
    | (with_reducible apply Frame.setS; (on_goal 2 => decide +kernel))
    | (with_reducible apply Frame.set64S; (on_goal 2 => decide +kernel); (on_goal 2 => decide +kernel))

def m_setMark : Nat := 0x18000000000000000000000000000000000000000
theorem fr_setMark (s : State) (n : Nat) : Frame m_setMark s (State.setMark s n) := by
  unfold State.setMark
  repeat' first
    | with_reducible assumption
    | with_reducible exact Frame.refl _ _
    | lift_lets -underBinder
    | (with_reducible apply Frame.set64S; (on_goal 2 => decide +kernel); (on_goal 2 => decide +kernel))

def m_unheld : Nat := 0x1000000000000000000000000000000004000300
theorem fr_unheld (s : State) (seqs : List Nat) : Frame m_unheld s (State.unheld s seqs) := by
  unfold State.unheld
  repeat' first
    | with_reducible assumption
    | with_reducible exact Frame.refl _ _
    | lift_lets -underBinder
    | (with_reducible apply Frame.setS; (on_goal 2 => decide +kernel))
    | (with_reducible apply Frame.after (fr_irqSet ..); (on_goal 2 => decide +kernel))
    | dsimp -zeta only
    | split

def m_setHq : Nat := 0x80
theorem fr_setHq (s : State) (q : Nat) (v : Hq) : Frame m_setHq s (State.setHq s q v) := by
  unfold State.setHq
  repeat' first
    | with_reducible assumption
    | with_reducible exact Frame.refl _ _
    | (with_reducible exact .inl rfl)
    | exact .inr (by decide +kernel)
    | (intro x; first
        | (refine Frame.cut (w := m_setHq) (s := s) x ?_ ?_
           on_goal 2 => intro hx; clear_value x
           on_goal 1 => unfold x; clear x)
        | clear_value x
        | skip)
    | lift_lets -underBinder
    | dsimp -zeta only
    | split
    | (rw [mk_put]; with_reducible apply Frame.upd)

def m_hqDiscard : Nat := 0x400400000000000000000000000000000004000380
theorem fr_hqDiscard (s : State) (q : Nat) (n : Nat) : Frame m_hqDiscard s (State.hqDiscard s q n) := by
  unfold State.hqDiscard
  repeat' first
    | with_reducible assumption
    | with_reducible exact Frame.refl _ _
    | (intro x; first
        | (refine Frame.cut (w := m_hqDiscard) (s := s) x ?_ ?_
           on_goal 2 => intro hx; clear_value x
           on_goal 1 => unfold x; clear x)
        | clear_value x
        | skip)
    | lift_lets -underBinder
    | (with_reducible apply Frame.incS; (on_goal 2 => decide +kernel))
    | (with_reducible apply Frame.after (fr_report ..); (on_goal 2 => decide +kernel))
    | (with_reducible apply Frame.after (fr_setHq ..); (on_goal 2 => decide +kernel))
    | dsimp -zeta only
    | split

def m_pushHq : Nat := 0x400400000000000000000000000000000004000380
theorem fr_pushHq (s : State) (q : Nat) (r : Rec) : Frame m_pushHq s (State.pushHq s q r) := by
  unfold State.pushHq
  repeat' first
    | with_reducible assumption
    | with_reducible exact Frame.refl _ _
    | (intro x; first
        | (refine Frame.cut (w := m_pushHq) (s := s) x ?_ ?_
           on_goal 2 => intro hx; clear_value x
           on_goal 1 => unfold x; clear x)
        | clear_value x
        | skip)
    | lift_lets -underBinder
    | (with_reducible apply Frame.after (fr_hqDiscard ..); (on_goal 2 => decide +kernel))
    | (with_reducible apply Frame.after (fr_setHq ..); (on_goal 2 => decide +kernel))

def m_pushPm : Nat := 0x400400000000000000000000000000000004000380
theorem fr_pushPm (s : State) (b : List Sys2Proof.Byte) : Frame m_pushPm s (State.pushPm s b) := by
  unfold State.pushPm
  repeat' first
    | with_reducible assumption
    | with_reducible exact Frame.refl _ _
    | (intro x; first
        | (refine Frame.cut (w := m_pushPm) (s := s) x ?_ ?_
           on_goal 2 => intro hx; clear_value x
           on_goal 1 => unfold x; clear x)
        | clear_value x
        | skip)
    | lift_lets -underBinder
    | (with_reducible apply Frame.after (fr_hqDiscard ..); (on_goal 2 => decide +kernel))
    | (with_reducible apply Frame.after (fr_setHq ..); (on_goal 2 => decide +kernel))

def m_enqueue : Nat := 0x400400000000000000000000000000000004000380
theorem fr_enqueue (s : State) (r : Rec) : Frame m_enqueue s (State.enqueue s r) := by
  unfold State.enqueue
  repeat' first
    | with_reducible assumption
    | with_reducible exact Frame.refl _ _
    | lift_lets -underBinder
    | (with_reducible apply Frame.after (fr_pushHq ..); (on_goal 2 => decide +kernel))
    | (with_reducible apply Frame.forEach; on_goal 2 => intro t a hs)
    | dsimp -zeta only
    | split

def m_dropRec : Nat := 0x400000000000000000000000000000004000300
theorem fr_dropRec (s : State) (sev : Nat) : Frame m_dropRec s (State.dropRec s sev) := by
  unfold State.dropRec
  repeat' first
    | with_reducible assumption
    | with_reducible exact Frame.refl _ _
    | lift_lets -underBinder
    | (with_reducible apply Frame.incS; (on_goal 2 => decide +kernel))
    | (with_reducible apply Frame.after (fr_irqSet ..); (on_goal 2 => decide +kernel))

def m_storeRec : Nat := 0x401400000000000000000000000000000004000380
theorem fr_storeRec (s : State) (r : Rec) : Frame m_storeRec s (State.storeRec s r) := by
  unfold State.storeRec
  repeat' first
    | with_reducible assumption
    | with_reducible exact Frame.refl _ _
    | (with_reducible exact .inl rfl)
    | exact .inr (by decide +kernel)
    | (intro x; first
        | (refine Frame.cut (w := m_storeRec) (s := s) x ?_ ?_
           on_goal 2 => intro hx; clear_value x
           on_goal 1 => unfold x; clear x)
        | (refine Frame.cut (w := m_storeRec) (s := s) x.1 ?_ ?_
           on_goal 2 => intro hx; clear_value x
           on_goal 1 => unfold x; clear x)
        | (refine Frame.cut (w := m_storeRec) (s := s) x.2 ?_ ?_
           on_goal 2 => intro hx; clear_value x
           on_goal 1 => unfold x; clear x)
        | clear_value x
        | skip)
    | lift_lets -underBinder
    | (with_reducible apply Frame.incS; (on_goal 2 => decide +kernel))
    | (with_reducible apply Frame.after (fr_enqueue ..); (on_goal 2 => decide +kernel))
    | (with_reducible apply Frame.after (fr_unheld ..); (on_goal 2 => decide +kernel))
    | (with_reducible apply Frame.after (fr_irqSet ..); (on_goal 2 => decide +kernel))
    | (with_reducible apply Frame.after (fr_dropRec ..); (on_goal 2 => decide +kernel))
    | dsimp -zeta only
    | split
    | (rw [mk_put]; with_reducible apply Frame.upd)

def m_copyRec : Nat := 0x80000000000000000000000000000000000080
theorem fr_copyRec (s : State) (r : Rec) : Frame m_copyRec s (State.copyRec s r) := by
  unfold State.copyRec
  repeat' first
    | with_reducible assumption
    | with_reducible exact Frame.refl _ _
    | (with_reducible exact .inl rfl)
    | exact .inr (by decide +kernel)
    | (intro x; first
        | (refine Frame.cut (w := m_copyRec) (s := s) x ?_ ?_
           on_goal 2 => intro hx; clear_value x
           on_goal 1 => unfold x; clear x)
        | clear_value x
        | skip)
    | lift_lets -underBinder
    | (with_reducible apply Frame.incS; (on_goal 2 => decide +kernel))
    | dsimp -zeta only
    | split
    | (rw [mk_put]; with_reducible apply Frame.upd)

def m_acceptOffer : Nat := 0x4014c0000000000000000000000000000004000380
theorem fr_acceptOffer (s : State) (o : Offer) : Frame m_acceptOffer s (State.acceptOffer s o) := by
  unfold State.acceptOffer
  repeat' first
    | with_reducible assumption
    | with_reducible exact Frame.refl _ _
    | (with_reducible exact .inl rfl)
    | exact .inr (by decide +kernel)
    | (intro x; first
        | (refine Frame.cut (w := m_acceptOffer) (s := s) x ?_ ?_
           on_goal 2 => intro hx; clear_value x
           on_goal 1 => unfold x; clear x)
        | (refine Frame.cut (w := m_acceptOffer) (s := s) x.1 ?_ ?_
           on_goal 2 => intro hx; clear_value x
           on_goal 1 => unfold x; clear x)
        | (refine Frame.cut (w := m_acceptOffer) (s := s) x.2 ?_ ?_
           on_goal 2 => intro hx; clear_value x
           on_goal 1 => unfold x; clear x)
        | clear_value x
        | skip)
    | lift_lets -underBinder
    | (with_reducible apply Frame.incS; (on_goal 2 => decide +kernel))
    | (with_reducible apply Frame.after (fr_storeRec ..); (on_goal 2 => decide +kernel))
    | (with_reducible apply Frame.after (fr_irqSet ..); (on_goal 2 => decide +kernel))
    | (with_reducible apply Frame.after (fr_dropRec ..); (on_goal 2 => decide +kernel))
    | (with_reducible apply Frame.after (fr_count ..); (on_goal 2 => decide +kernel))
    | (with_reducible apply Frame.after (fr_copyRec ..); (on_goal 2 => decide +kernel))
    | dsimp -zeta only
    | split
    | (rw [mk_put]; with_reducible apply Frame.upd)

def m_recorderFault : Nat := 0x302000000000000000000000000000000000000
theorem fr_recorderFault (s : State) : Frame m_recorderFault s (State.recorderFault s) := by
  unfold State.recorderFault
  repeat' first
    | with_reducible assumption
    | with_reducible exact Frame.refl _ _
    | (intro x; first
        | (refine Frame.cut (w := m_recorderFault) (s := s) x ?_ ?_
           on_goal 2 => intro hx; clear_value x
           on_goal 1 => unfold x; clear x)
        | clear_value x
        | skip)
    | lift_lets -underBinder
    | (with_reducible apply Frame.setBS; (on_goal 2 => decide +kernel))
    | (with_reducible apply Frame.setS; (on_goal 2 => decide +kernel))

def m_effRecordAccept : Nat := 0x4017c2000000000000000000000000000004000380
theorem fr_effRecordAccept (bad : Bool) (s : State) : Frame m_effRecordAccept s (effRecordAccept bad s) := by
  unfold effRecordAccept
  repeat' first
    | with_reducible assumption
    | with_reducible exact Frame.refl _ _
    | (with_reducible exact .inl rfl)
    | exact .inr (by decide +kernel)
    | (intro x; first
        | (refine Frame.cut (w := m_effRecordAccept) (s := s) x ?_ ?_
           on_goal 2 => intro hx; clear_value x
           on_goal 1 => unfold x; clear x)
        | clear_value x
        | skip)
    | lift_lets -underBinder
    | (with_reducible apply Frame.after (fr_recorderFault ..); (on_goal 2 => decide +kernel))
    | (with_reducible apply Frame.after (fr_acceptOffer ..); (on_goal 2 => decide +kernel))
    | dsimp -zeta only
    | split
    | (rw [mk_put]; with_reducible apply Frame.upd)

def m_acceptAll : Nat := 0x4014c0000000000000000000000000000004000380
theorem fr_acceptAll (s : State) : Frame m_acceptAll s (State.acceptAll s) := by
  unfold State.acceptAll
  repeat' first
    | with_reducible assumption
    | with_reducible exact Frame.refl _ _
    | (with_reducible exact .inl rfl)
    | exact .inr (by decide +kernel)
    | (intro x; first
        | (refine Frame.cut (w := m_acceptAll) (s := s) x ?_ ?_
           on_goal 2 => intro hx; clear_value x
           on_goal 1 => unfold x; clear x)
        | clear_value x
        | skip)
    | lift_lets -underBinder
    | (with_reducible apply Frame.after (fr_acceptOffer ..); (on_goal 2 => decide +kernel))
    | (with_reducible apply Frame.forEach; on_goal 2 => intro t a hs)
    | dsimp -zeta only
    | split
    | (rw [mk_put]; with_reducible apply Frame.upd)

def m_waitPort : Nat := 0x4014c0000000000000000000000000000004000380
theorem fr_waitPort (s : State) (k : RecKind) : Frame m_waitPort s (State.waitPort s k) := by
  unfold State.waitPort
  repeat' first
    | with_reducible assumption
    | with_reducible exact Frame.refl _ _
    | lift_lets -underBinder
    | (with_reducible apply Frame.after (fr_acceptAll ..); (on_goal 2 => decide +kernel))
    | dsimp -zeta only
    | split

def m_writeClamps : Nat := 0x4014c0000000000000000000000000010004000380
theorem fr_writeClamps (s : State) (apply : Bool) (notInForce : Bool) (l : List Clamped) : Frame m_writeClamps s (State.writeClamps s apply notInForce l) := by
  unfold State.writeClamps
  repeat' first
    | with_reducible assumption
    | with_reducible exact Frame.refl _ _
    | (intro x; first
        | (refine Frame.cut (w := m_writeClamps) (s := s) x ?_ ?_
           on_goal 2 => intro hx; clear_value x
           on_goal 1 => unfold x; clear x)
        | clear_value x
        | skip)
    | lift_lets -underBinder
    | (with_reducible apply Frame.incS; (on_goal 2 => decide +kernel))
    | (with_reducible apply Frame.after (fr_waitPort ..); (on_goal 2 => decide +kernel))
    | (with_reducible apply Frame.after (fr_reportBytes ..); (on_goal 2 => decide +kernel))
    | (with_reducible apply Frame.forEach; on_goal 2 => intro t a hs)
    | dsimp -zeta only
    | split

def m_loadClamps : Nat := 0x4014c0000000000000000000000000010004000380
theorem fr_loadClamps (s : State) (apply : Bool) (failed : Bool) (l : List Loaded) : Frame m_loadClamps s (State.loadClamps s apply failed l) := by
  unfold State.loadClamps
  repeat' first
    | with_reducible assumption
    | with_reducible exact Frame.refl _ _
    | lift_lets -underBinder
    | (with_reducible apply Frame.after (fr_waitPort ..); (on_goal 2 => decide +kernel))
    | (with_reducible apply Frame.after (fr_writeClamps ..); (on_goal 2 => decide +kernel))
    | (with_reducible apply Frame.forEach; on_goal 2 => intro t a hs)

def m_ringWrite : Nat := 0x1000000000000000000000000000000004000380
theorem fr_ringWrite (s : State) (n : Nat) (pad : Bool) (r : Rec) : Frame m_ringWrite s (State.ringWrite s n pad r) := by
  unfold State.ringWrite
  repeat' first
    | with_reducible assumption
    | with_reducible exact Frame.refl _ _
    | (with_reducible exact .inl rfl)
    | exact .inr (by decide +kernel)
    | (intro x; first
        | (refine Frame.cut (w := m_ringWrite) (s := s) x ?_ ?_
           on_goal 2 => intro hx; clear_value x
           on_goal 1 => unfold x; clear x)
        | clear_value x
        | skip)
    | lift_lets -underBinder
    | (with_reducible apply Frame.after (fr_unheld ..); (on_goal 2 => decide +kernel))
    | dsimp -zeta only
    | split
    | (rw [mk_put]; with_reducible apply Frame.upd)

def m_toRing : Nat := 0x1000000000000000000000000000000004000380
theorem fr_toRing (s : State) (r : Rec) : Frame m_toRing s (State.toRing s r) := by
  unfold State.toRing
  repeat' first
    | with_reducible assumption
    | with_reducible exact Frame.refl _ _
    | (intro x; first
        | (refine Frame.cut (w := m_toRing) (s := s) x ?_ ?_
           on_goal 2 => intro hx; clear_value x
           on_goal 1 => unfold x; clear x)
        | (refine Frame.cut (w := m_toRing) (s := s) x.1 ?_ ?_
           on_goal 2 => intro hx; clear_value x
           on_goal 1 => unfold x; clear x)
        | (refine Frame.cut (w := m_toRing) (s := s) x.2 ?_ ?_
           on_goal 2 => intro hx; clear_value x
           on_goal 1 => unfold x; clear x)
        | clear_value x
        | skip)
    | lift_lets -underBinder
    | (with_reducible apply Frame.after (fr_ringWrite ..); (on_goal 2 => decide +kernel))
    | dsimp -zeta only
    | split

def m_effRecordArchive : Nat := 0x1000000000000000000000000000000004000380
theorem fr_effRecordArchive (s : State) : Frame m_effRecordArchive s (effRecordArchive s) := by
  unfold effRecordArchive
  repeat' first
    | with_reducible assumption
    | with_reducible exact Frame.refl _ _
    | (with_reducible exact .inl rfl)
    | exact .inr (by decide +kernel)
    | (intro x; first
        | (refine Frame.cut (w := m_effRecordArchive) (s := s) x ?_ ?_
           on_goal 2 => intro hx; clear_value x
           on_goal 1 => unfold x; clear x)
        | clear_value x
        | skip)
    | lift_lets -underBinder
    | (with_reducible apply Frame.after (fr_toRing ..); (on_goal 2 => decide +kernel))
    | dsimp -zeta only
    | split
    | (rw [mk_put]; with_reducible apply Frame.upd)

def m_eraseSector : Nat := 0x80
theorem fr_eraseSector (s : State) (n : Nat) : Frame m_eraseSector s (State.eraseSector s n) := by
  unfold State.eraseSector
  repeat' first
    | with_reducible assumption
    | with_reducible exact Frame.refl _ _
    | (with_reducible exact .inl rfl)
    | exact .inr (by decide +kernel)
    | (intro x; first
        | (refine Frame.cut (w := m_eraseSector) (s := s) x ?_ ?_
           on_goal 2 => intro hx; clear_value x
           on_goal 1 => unfold x; clear x)
        | clear_value x
        | skip)
    | lift_lets -underBinder
    | dsimp -zeta only
    | split
    | (rw [mk_put]; with_reducible apply Frame.upd)

def m_enterSector : Nat := 0x80
theorem fr_enterSector (s : State) (n : Nat) : Frame m_enterSector s (State.enterSector s n) := by
  unfold State.enterSector
  repeat' first
    | with_reducible assumption
    | with_reducible exact Frame.refl _ _
    | (with_reducible exact .inl rfl)
    | exact .inr (by decide +kernel)
    | (intro x; first
        | (refine Frame.cut (w := m_enterSector) (s := s) x ?_ ?_
           on_goal 2 => intro hx; clear_value x
           on_goal 1 => unfold x; clear x)
        | clear_value x
        | skip)
    | lift_lets -underBinder
    | (with_reducible apply Frame.after (fr_eraseSector ..); (on_goal 2 => decide +kernel))
    | dsimp -zeta only
    | split
    | (rw [mk_put]; with_reducible apply Frame.upd)

def m_effFlashCopyProgram : Nat := 0x402000000000000000000000000000004000380
theorem fr_effFlashCopyProgram (bad : Bool) (s : State) : Frame m_effFlashCopyProgram s (effFlashCopyProgram bad s) := by
  unfold effFlashCopyProgram
  repeat' first
    | with_reducible assumption
    | with_reducible exact Frame.refl _ _
    | (with_reducible exact .inl rfl)
    | exact .inr (by decide +kernel)
    | (intro x; first
        | (refine Frame.cut (w := m_effFlashCopyProgram) (s := s) x ?_ ?_
           on_goal 2 => intro hx; clear_value x
           on_goal 1 => unfold x; clear x)
        | clear_value x
        | skip)
    | lift_lets -underBinder
    | (with_reducible apply Frame.setBS; (on_goal 2 => decide +kernel))
    | (with_reducible apply Frame.after (fr_report ..); (on_goal 2 => decide +kernel))
    | (with_reducible apply Frame.after (fr_enterSector ..); (on_goal 2 => decide +kernel))
    | dsimp -zeta only
    | split
    | (rw [mk_put]; with_reducible apply Frame.upd)

def m_newestSeq : Nat := 0x800
theorem fr_newestSeq (s : State) : Frame m_newestSeq s (State.newestSeq s).2 := by
  unfold State.newestSeq
  repeat' first
    | with_reducible assumption
    | with_reducible exact Frame.refl _ _
    | lift_lets -underBinder
    | (with_reducible apply Frame.after (fr_draw ..); (on_goal 2 => decide +kernel))
    | dsimp -zeta only
    | split

def m_cmdFreeze : Nat := 0x2000000000000000000000000000000000880
theorem fr_cmdFreeze (s : State) (limit : Nat) : Frame m_cmdFreeze s (State.cmdFreeze s limit).2 := by
  unfold State.cmdFreeze
  repeat' first
    | with_reducible assumption
    | with_reducible exact Frame.refl _ _
    | (with_reducible exact .inl rfl)
    | exact .inr (by decide +kernel)
    | (intro x; first
        | (refine Frame.cut (w := m_cmdFreeze) (s := s) x ?_ ?_
           on_goal 2 => intro hx; clear_value x
           on_goal 1 => unfold x; clear x)
        | clear_value x
        | skip)
    | lift_lets -underBinder
    | (with_reducible apply Frame.setBS; (on_goal 2 => decide +kernel))
    | (with_reducible apply Frame.after (fr_newestSeq ..); (on_goal 2 => decide +kernel))
    | dsimp -zeta only
    | split
    | (rw [mk_put]; with_reducible apply Frame.upd)

def m_endFreeze : Nat := 0x401402000000000000000000000000000004000380
theorem fr_endFreeze (s : State) : Frame m_endFreeze s (State.endFreeze s) := by
  unfold State.endFreeze
  repeat' first
    | with_reducible assumption
    | with_reducible exact Frame.refl _ _
    | (with_reducible exact .inl rfl)
    | exact .inr (by decide +kernel)
    | (intro x; first
        | (refine Frame.cut (w := m_endFreeze) (s := s) x ?_ ?_
           on_goal 2 => intro hx; clear_value x
           on_goal 1 => unfold x; clear x)
        | clear_value x
        | skip)
    | lift_lets -underBinder
    | (with_reducible apply Frame.setBS; (on_goal 2 => decide +kernel))
    | (with_reducible apply Frame.after (fr_storeRec ..); (on_goal 2 => decide +kernel))
    | (with_reducible apply Frame.forEach; on_goal 2 => intro t a hs)
    | dsimp -zeta only
    | split
    | (rw [mk_put]; with_reducible apply Frame.upd)

def m_cmdThaw : Nat := 0x401402000000000000000000000000000004000380
theorem fr_cmdThaw (s : State) : Frame m_cmdThaw s (State.cmdThaw s).2 := by
  unfold State.cmdThaw
  repeat' first
    | with_reducible assumption
    | with_reducible exact Frame.refl _ _
    | lift_lets -underBinder
    | (with_reducible apply Frame.after (fr_endFreeze ..); (on_goal 2 => decide +kernel))
    | dsimp -zeta only
    | split

def m_effFreezeExpiry : Nat := 0x401402000000000000000000000000000004000380
theorem fr_effFreezeExpiry (s : State) : Frame m_effFreezeExpiry s (effFreezeExpiry s) := by
  unfold effFreezeExpiry
  repeat' first
    | with_reducible assumption
    | with_reducible exact Frame.refl _ _
    | lift_lets -underBinder
    | (with_reducible apply Frame.after (fr_report ..); (on_goal 2 => decide +kernel))
    | (with_reducible apply Frame.after (fr_endFreeze ..); (on_goal 2 => decide +kernel))
    | dsimp -zeta only
    | split

def m_flushReq : Nat := 0x200000000000000000000000000000000000000080
theorem fr_flushReq (s : State) (q : Nat) : Frame m_flushReq s (State.flushReq s q) := by
  unfold State.flushReq
  repeat' first
    | with_reducible assumption
    | with_reducible exact Frame.refl _ _
    | (intro x; first
        | (refine Frame.cut (w := m_flushReq) (s := s) x ?_ ?_
           on_goal 2 => intro hx; clear_value x
           on_goal 1 => unfold x; clear x)
        | clear_value x
        | skip)
    | lift_lets -underBinder
    | (with_reducible apply Frame.setBS; (on_goal 2 => decide +kernel))
    | (with_reducible apply Frame.after (fr_setHq ..); (on_goal 2 => decide +kernel))
    | dsimp -zeta only
    | split

def m_effHqFlush : Nat := 0x200000000000000000000000000000000000000080
theorem fr_effHqFlush (q : Nat) (s : State) : Frame m_effHqFlush s (effHqFlush q s) := by
  unfold effHqFlush
  repeat' first
    | with_reducible assumption
    | with_reducible exact Frame.refl _ _
    | (intro x; first
        | (refine Frame.cut (w := m_effHqFlush) (s := s) x ?_ ?_
           on_goal 2 => intro hx; clear_value x
           on_goal 1 => unfold x; clear x)
        | clear_value x
        | skip)
    | lift_lets -underBinder
    | (with_reducible apply Frame.setBS; (on_goal 2 => decide +kernel))
    | (with_reducible apply Frame.after (fr_setHq ..); (on_goal 2 => decide +kernel))
    | dsimp -zeta only
    | split

def m_cmdClearEvt : Nat := 0x61f4c2000000000000000000000000000004000b80
theorem fr_cmdClearEvt (s : State) (slot : Nat) : Frame m_cmdClearEvt s (State.cmdClearEvt s slot).2 := by
  unfold State.cmdClearEvt
  repeat' first
    | with_reducible assumption
    | with_reducible exact Frame.refl _ _
    | (with_reducible exact .inl rfl)
    | exact .inr (by decide +kernel)
    | (intro x; first
        | (refine Frame.cut (w := m_cmdClearEvt) (s := s) x ?_ ?_
           on_goal 2 => intro hx; clear_value x
           on_goal 1 => unfold x; clear x)
        | (refine Frame.cut (w := m_cmdClearEvt) (s := s) x.1 ?_ ?_
           on_goal 2 => intro hx; clear_value x
           on_goal 1 => unfold x; clear x)
        | (refine Frame.cut (w := m_cmdClearEvt) (s := s) x.2 ?_ ?_
           on_goal 2 => intro hx; clear_value x
           on_goal 1 => unfold x; clear x)
        | clear_value x
        | skip)
    | lift_lets -underBinder
    | (with_reducible apply Frame.setBS; (on_goal 2 => decide +kernel))
    | (with_reducible apply Frame.after (fr_setMark ..); (on_goal 2 => decide +kernel))
    | (with_reducible apply Frame.after (fr_flushReq ..); (on_goal 2 => decide +kernel))
    | (with_reducible apply Frame.after (fr_enterSector ..); (on_goal 2 => decide +kernel))
    | (with_reducible apply Frame.after (fr_acceptAll ..); (on_goal 2 => decide +kernel))
    | (with_reducible apply Frame.after (fr_acceptOffer ..); (on_goal 2 => decide +kernel))
    | (with_reducible apply Frame.after (fr_newestSeq ..); (on_goal 2 => decide +kernel))
    | (with_reducible apply Frame.after (fr_setCur ..); (on_goal 2 => decide +kernel))
    | (with_reducible apply Frame.forEach; on_goal 2 => intro t a hs)
    | dsimp -zeta only
    | split
    | (rw [mk_put]; with_reducible apply Frame.upd)

def m_cmdHarvestEvt : Nat := 0x80
theorem fr_cmdHarvestEvt (s : State) (secure : Bool) (q : Nat) (max : Nat) (room : Nat) : Frame m_cmdHarvestEvt s (State.cmdHarvestEvt s secure q max room).2 := by
  unfold State.cmdHarvestEvt
  repeat' first
    | with_reducible assumption
    | with_reducible exact Frame.refl _ _
    | (with_reducible exact .inl rfl)
    | exact .inr (by decide +kernel)
    | (intro x; first
        | (refine Frame.cut (w := m_cmdHarvestEvt) (s := s) x ?_ ?_
           on_goal 2 => intro hx; clear_value x
           on_goal 1 => unfold x; clear x)
        | (refine Frame.cut (w := m_cmdHarvestEvt) (s := s) x.1 ?_ ?_
           on_goal 2 => intro hx; clear_value x
           on_goal 1 => unfold x; clear x)
        | (refine Frame.cut (w := m_cmdHarvestEvt) (s := s) x.2 ?_ ?_
           on_goal 2 => intro hx; clear_value x
           on_goal 1 => unfold x; clear x)
        | clear_value x
        | skip)
    | lift_lets -underBinder
    | (with_reducible apply Frame.after (fr_setHq ..); (on_goal 2 => decide +kernel))
    | dsimp -zeta only
    | split
    | (rw [mk_put]; with_reducible apply Frame.upd)

def m_cmdHarvestPm : Nat := 0x80
theorem fr_cmdHarvestPm (s : State) (max : Nat) (room : Nat) : Frame m_cmdHarvestPm s (State.cmdHarvestPm s max room).2 := by
  unfold State.cmdHarvestPm
  repeat' first
    | with_reducible assumption
    | with_reducible exact Frame.refl _ _
    | (intro x; first
        | (refine Frame.cut (w := m_cmdHarvestPm) (s := s) x ?_ ?_
           on_goal 2 => intro hx; clear_value x
           on_goal 1 => unfold x; clear x)
        | (refine Frame.cut (w := m_cmdHarvestPm) (s := s) x.1 ?_ ?_
           on_goal 2 => intro hx; clear_value x
           on_goal 1 => unfold x; clear x)
        | (refine Frame.cut (w := m_cmdHarvestPm) (s := s) x.2 ?_ ?_
           on_goal 2 => intro hx; clear_value x
           on_goal 1 => unfold x; clear x)
        | clear_value x
        | skip)
    | lift_lets -underBinder
    | (with_reducible apply Frame.after (fr_setHq ..); (on_goal 2 => decide +kernel))
    | dsimp -zeta only
    | split

def m_curEnd : Nat := 0x7000000000000000000000000000000000000800
theorem fr_curEnd (s : State) : Frame m_curEnd s (State.curEnd s) := by
  unfold State.curEnd
  repeat' first
    | with_reducible assumption
    | with_reducible exact Frame.refl _ _
    | lift_lets -underBinder
    | (with_reducible apply Frame.after (fr_draw ..); (on_goal 2 => decide +kernel))
    | (with_reducible apply Frame.after (fr_setCur ..); (on_goal 2 => decide +kernel))
    | dsimp -zeta only
    | split

def m_curNext : Nat := 0x7000000000000000000000000000000000000800
theorem fr_curNext (s : State) : Frame m_curNext s (State.curNext s) := by
  unfold State.curNext
  repeat' first
    | with_reducible assumption
    | with_reducible exact Frame.refl _ _
    | (intro x; first
        | (refine Frame.cut (w := m_curNext) (s := s) x ?_ ?_
           on_goal 2 => intro hx; clear_value x
           on_goal 1 => unfold x; clear x)
        | clear_value x
        | skip)
    | lift_lets -underBinder
    | (with_reducible apply Frame.after (fr_curEnd ..); (on_goal 2 => decide +kernel))
    | (with_reducible apply Frame.after (fr_setCur ..); (on_goal 2 => decide +kernel))
    | dsimp -zeta only
    | split

def m_curPrev : Nat := 0x7000000000000000000000000000000000000000
theorem fr_curPrev (s : State) : Frame m_curPrev s (State.curPrev s) := by
  unfold State.curPrev
  repeat' first
    | with_reducible assumption
    | with_reducible exact Frame.refl _ _
    | lift_lets -underBinder
    | (with_reducible apply Frame.after (fr_setCur ..); (on_goal 2 => decide +kernel))
    | dsimp -zeta only
    | split

def m_curOldest : Nat := 0x7000000000000000000000000000000000000800
theorem fr_curOldest (s : State) : Frame m_curOldest s (State.curOldest s) := by
  unfold State.curOldest
  repeat' first
    | with_reducible assumption
    | with_reducible exact Frame.refl _ _
    | lift_lets -underBinder
    | (with_reducible apply Frame.after (fr_curEnd ..); (on_goal 2 => decide +kernel))
    | (with_reducible apply Frame.after (fr_setCur ..); (on_goal 2 => decide +kernel))
    | dsimp -zeta only
    | split

def m_curNewest : Nat := 0x7000000000000000000000000000000000000800
theorem fr_curNewest (s : State) : Frame m_curNewest s (State.curNewest s) := by
  unfold State.curNewest
  repeat' first
    | with_reducible assumption
    | with_reducible exact Frame.refl _ _
    | lift_lets -underBinder
    | (with_reducible apply Frame.after (fr_curEnd ..); (on_goal 2 => decide +kernel))
    | (with_reducible apply Frame.after (fr_setCur ..); (on_goal 2 => decide +kernel))
    | dsimp -zeta only
    | split

def m_curSeek : Nat := 0x7000000000000000000000000000000000000800
theorem fr_curSeek (s : State) (n : Nat) : Frame m_curSeek s (State.curSeek s n) := by
  unfold State.curSeek
  repeat' first
    | with_reducible assumption
    | with_reducible exact Frame.refl _ _
    | lift_lets -underBinder
    | (with_reducible apply Frame.after (fr_curEnd ..); (on_goal 2 => decide +kernel))
    | (with_reducible apply Frame.after (fr_setCur ..); (on_goal 2 => decide +kernel))
    | dsimp -zeta only
    | split

def m_curMark : Nat := 0x18000000000000000000000000000000000000000
theorem fr_curMark (s : State) : Frame m_curMark s (State.curMark s) := by
  unfold State.curMark
  repeat' first
    | with_reducible assumption
    | with_reducible exact Frame.refl _ _
    | lift_lets -underBinder
    | (with_reducible apply Frame.after (fr_setMark ..); (on_goal 2 => decide +kernel))

def m_curCommand : Nat := 0x1f000000000000000000000000000000000000800
theorem fr_curCommand (s : State) (k : Nat) : Frame m_curCommand s (State.curCommand s k) := by
  unfold State.curCommand
  repeat' first
    | with_reducible assumption
    | with_reducible exact Frame.refl _ _
    | lift_lets -underBinder
    | (with_reducible apply Frame.after (fr_curNext ..); (on_goal 2 => decide +kernel))
    | (with_reducible apply Frame.after (fr_curSeek ..); (on_goal 2 => decide +kernel))
    | (with_reducible apply Frame.after (fr_curPrev ..); (on_goal 2 => decide +kernel))
    | (with_reducible apply Frame.after (fr_curMark ..); (on_goal 2 => decide +kernel))
    | (with_reducible apply Frame.after (fr_curNewest ..); (on_goal 2 => decide +kernel))
    | (with_reducible apply Frame.after (fr_curOldest ..); (on_goal 2 => decide +kernel))
    | dsimp -zeta only
    | split

def m_curStateRead : Nat := 0x3f000000000000000000000000000000000000800
theorem fr_curStateRead (s : State) : Frame m_curStateRead s (State.curStateRead s) := by
  unfold State.curStateRead
  repeat' first
    | with_reducible assumption
    | with_reducible exact Frame.refl _ _
    | (intro x; first
        | (refine Frame.cut (w := m_curStateRead) (s := s) x ?_ ?_
           on_goal 2 => intro hx; clear_value x
           on_goal 1 => unfold x; clear x)
        | clear_value x
        | skip)
    | lift_lets -underBinder
    | (with_reducible apply Frame.setS; (on_goal 2 => decide +kernel))
    | (with_reducible apply Frame.after (fr_setMark ..); (on_goal 2 => decide +kernel))
    | (with_reducible apply Frame.after (fr_curEnd ..); (on_goal 2 => decide +kernel))
    | (with_reducible apply Frame.after (fr_setCur ..); (on_goal 2 => decide +kernel))
    | dsimp -zeta only
    | split

def m_effCursorStateRead : Nat := 0x3f000000000000000000000000000000004000800
theorem fr_effCursorStateRead (s : State) : Frame m_effCursorStateRead s (effCursorStateRead s) := by
  unfold effCursorStateRead
  repeat' first
    | with_reducible assumption
    | with_reducible exact Frame.refl _ _
    | (with_reducible exact .inl rfl)
    | exact .inr (by decide +kernel)
    | (intro x; first
        | (refine Frame.cut (w := m_effCursorStateRead) (s := s) x ?_ ?_
           on_goal 2 => intro hx; clear_value x
           on_goal 1 => unfold x; clear x)
        | clear_value x
        | skip)
    | lift_lets -underBinder
    | (with_reducible apply Frame.after (fr_curStateRead ..); (on_goal 2 => decide +kernel))
    | dsimp -zeta only
    | split
    | (rw [mk_put]; with_reducible apply Frame.upd)

def m_pcCtl : Nat := 0x200
theorem fr_pcCtl (s : State) (snap : Bool) (clear : Bool) : Frame m_pcCtl s (State.pcCtl s snap clear) := by
  unfold State.pcCtl
  repeat' first
    | with_reducible assumption
    | with_reducible exact Frame.refl _ _
    | (with_reducible exact .inl rfl)
    | exact .inr (by decide +kernel)
    | (intro x; first
        | (refine Frame.cut (w := m_pcCtl) (s := s) x ?_ ?_
           on_goal 2 => intro hx; clear_value x
           on_goal 1 => unfold x; clear x)
        | clear_value x
        | skip)
    | lift_lets -underBinder
    | dsimp -zeta only
    | split
    | (rw [mk_put]; with_reducible apply Frame.upd)

def m_stkClear : Nat := 0x4000100
theorem fr_stkClear (s : State) (g : Nat) (mask : Nat) (secure : Bool) : Frame m_stkClear s (State.stkClear s g mask secure) := by
  unfold State.stkClear
  repeat' first
    | with_reducible assumption
    | with_reducible exact Frame.refl _ _
    | (with_reducible exact .inl rfl)
    | exact .inr (by decide +kernel)
    | (intro x; first
        | (refine Frame.cut (w := m_stkClear) (s := s) x ?_ ?_
           on_goal 2 => intro hx; clear_value x
           on_goal 1 => unfold x; clear x)
        | clear_value x
        | skip)
    | lift_lets -underBinder
    | (with_reducible apply Frame.after (fr_sendMsix ..); (on_goal 2 => decide +kernel))
    | (with_reducible apply Frame.forEach; on_goal 2 => intro t a hs)
    | dsimp -zeta only
    | split
    | (rw [mk_put]; with_reducible apply Frame.upd)

def m_effMsixSpacingExpiry : Nat := 0x4000100
theorem fr_effMsixSpacingExpiry (v : Nat) (s : State) : Frame m_effMsixSpacingExpiry s (effMsixSpacingExpiry v s) := by
  unfold effMsixSpacingExpiry
  repeat' first
    | with_reducible assumption
    | with_reducible exact Frame.refl _ _
    | (with_reducible exact .inl rfl)
    | exact .inr (by decide +kernel)
    | (intro x; first
        | (refine Frame.cut (w := m_effMsixSpacingExpiry) (s := s) x ?_ ?_
           on_goal 2 => intro hx; clear_value x
           on_goal 1 => unfold x; clear x)
        | clear_value x
        | skip)
    | lift_lets -underBinder
    | (with_reducible apply Frame.after (fr_sendMsix ..); (on_goal 2 => decide +kernel))
    | dsimp -zeta only
    | split
    | (rw [mk_put]; with_reducible apply Frame.upd)

def m_sendPending : Nat := 0x4000100
theorem fr_sendPending (s : State) : Frame m_sendPending s (State.sendPending s) := by
  unfold State.sendPending
  repeat' first
    | with_reducible assumption
    | with_reducible exact Frame.refl _ _
    | (intro x; first
        | (refine Frame.cut (w := m_sendPending) (s := s) x ?_ ?_
           on_goal 2 => intro hx; clear_value x
           on_goal 1 => unfold x; clear x)
        | clear_value x
        | skip)
    | lift_lets -underBinder
    | (with_reducible apply Frame.after (fr_sendMsix ..); (on_goal 2 => decide +kernel))
    | (with_reducible apply Frame.forEach; on_goal 2 => intro t a hs)

end Sys2Proof.Laws
end

