-- ==== Sys2Proof/Laws/FrameLanes.lean ====
section
/-!
SUPPORT. Sys2Proof/Laws/FrameLanes.lean: what each operation of Machine/Lanes.lean leaves unchanged.
-/
namespace Sys2Proof.Laws

set_option Elab.async false
set_option linter.unusedTactic false
set_option linter.unreachableTactic false

open Sys2Proof.Machine

def m_setLaneSt : Nat := 0x8
theorem fr_setLaneSt (s : State) (n : Nat) (v : LaneSt) : Frame m_setLaneSt s (State.setLaneSt s n v) := by
  unfold State.setLaneSt
  repeat' first
    | with_reducible assumption
    | with_reducible exact Frame.refl _ _
    | (with_reducible exact .inl rfl)
    | exact .inr (by decide +kernel)
    | (intro x; first
        | (refine Frame.cut (w := m_setLaneSt) (s := s) x ?_ ?_
           on_goal 2 => intro hx; clear_value x
           on_goal 1 => unfold x; clear x)
        | clear_value x
        | skip)
    | lift_lets -underBinder
    | dsimp -zeta only
    | split
    | (rw [mk_put]; with_reducible apply Frame.upd)

def m_showSquelch : Nat := 0x10000000000000000000000000000000000000000000000000000000000
theorem fr_showSquelch (s : State) (n : Nat) : Frame m_showSquelch s (State.showSquelch s n) := by
  unfold State.showSquelch
  repeat' first
    | with_reducible assumption
    | with_reducible exact Frame.refl _ _
    | (intro x; first
        | (refine Frame.cut (w := m_showSquelch) (s := s) x ?_ ?_
           on_goal 2 => intro hx; clear_value x
           on_goal 1 => unfold x; clear x)
        | clear_value x
        | skip)
    | lift_lets -underBinder
    | (with_reducible apply Frame.setBS; (on_goal 2 => decide +kernel))
    | (with_reducible apply Frame.setS; (on_goal 2 => decide +kernel))

def m_showSquelchAll : Nat := 0x10000000000000000000000000000000000000000000000000000000000
theorem fr_showSquelchAll (s : State) : Frame m_showSquelchAll s (State.showSquelchAll s) := by
  unfold State.showSquelchAll
  repeat' first
    | with_reducible assumption
    | with_reducible exact Frame.refl _ _
    | lift_lets -underBinder
    | (with_reducible apply Frame.after (fr_showSquelch ..); (on_goal 2 => decide +kernel))
    | (with_reducible apply Frame.forEach; on_goal 2 => intro t a hs)

def m_countMateLanes : Nat := 0x4000000000000000000
theorem fr_countMateLanes (s : State) : Frame m_countMateLanes s (State.countMateLanes s) := by
  unfold State.countMateLanes
  repeat' first
    | with_reducible assumption
    | with_reducible exact Frame.refl _ _
    | lift_lets -underBinder
    | (with_reducible apply Frame.setS; (on_goal 2 => decide +kernel))

def m_laneDown : Nat := 0x1000030000000000000000000400000000000000000004000000000004000388
theorem fr_laneDown (s : State) (n : Nat) (cause : Nat) : Frame m_laneDown s (State.laneDown s n cause) := by
  unfold State.laneDown
  repeat' first
    | with_reducible assumption
    | with_reducible exact Frame.refl _ _
    | (intro x; first
        | (refine Frame.cut (w := m_laneDown) (s := s) x ?_ ?_
           on_goal 2 => intro hx; clear_value x
           on_goal 1 => unfold x; clear x)
        | clear_value x
        | skip)
    | lift_lets -underBinder
    | (with_reducible apply Frame.setBS; (on_goal 2 => decide +kernel))
    | (with_reducible apply Frame.lnStickS; (on_goal 2 => decide +kernel))
    | (with_reducible apply Frame.incS; (on_goal 2 => decide +kernel))
    | (with_reducible apply Frame.after (fr_setLaneSt ..); (on_goal 2 => decide +kernel))
    | (with_reducible apply Frame.after (fr_report ..); (on_goal 2 => decide +kernel))
    | (with_reducible apply Frame.after (fr_countMateLanes ..); (on_goal 2 => decide +kernel))

def m_laneTo : Nat := 0x10000000000000000000000000000000000000000000000000000000000
theorem fr_laneTo (s : State) (n : Nat) (st : Nat) (sig : Bool) (cdr : Bool) (fec : Bool) (al : Bool) : Frame m_laneTo s (State.laneTo s n st sig cdr fec al) := by
  unfold State.laneTo
  repeat' first
    | with_reducible assumption
    | with_reducible exact Frame.refl _ _
    | (intro x; first
        | (refine Frame.cut (w := m_laneTo) (s := s) x ?_ ?_
           on_goal 2 => intro hx; clear_value x
           on_goal 1 => unfold x; clear x)
        | clear_value x
        | skip)
    | lift_lets -underBinder
    | (with_reducible apply Frame.setBS; (on_goal 2 => decide +kernel))
    | (with_reducible apply Frame.setS; (on_goal 2 => decide +kernel))

def m_laneLeave : Nat := 0x1000030000000000000000000400000000000000000004000000000004000388
theorem fr_laneLeave (s : State) (own : List Nat) (n : Nat) (st : Nat) (cause : Nat) (sig : Bool) (cdr : Bool) (fec : Bool) (al : Bool) : Frame m_laneLeave s (State.laneLeave s own n st cause sig cdr fec al) := by
  unfold State.laneLeave
  repeat' first
    | with_reducible assumption
    | with_reducible exact Frame.refl _ _
    | (intro x; first
        | (refine Frame.cut (w := m_laneLeave) (s := s) x ?_ ?_
           on_goal 2 => intro hx; clear_value x
           on_goal 1 => unfold x; clear x)
        | clear_value x
        | skip)
    | lift_lets -underBinder
    | (with_reducible apply Frame.setS; (on_goal 2 => decide +kernel))
    | (with_reducible apply Frame.after (fr_laneDown ..); (on_goal 2 => decide +kernel))
    | (with_reducible apply Frame.after (fr_setLaneSt ..); (on_goal 2 => decide +kernel))
    | (with_reducible apply Frame.after (fr_laneTo ..); (on_goal 2 => decide +kernel))
    | (with_reducible apply Frame.forEach; on_goal 2 => intro t a hs)
    | dsimp -zeta only
    | split

def m_ebSlip : Nat := 0x2020000000000000000000000000000000000000000000000000000000000
theorem fr_ebSlip (s : State) (n : Nat) : Frame m_ebSlip s (State.ebSlip s n) := by
  unfold State.ebSlip
  repeat' first
    | with_reducible assumption
    | with_reducible exact Frame.refl _ _
    | lift_lets -underBinder
    | (with_reducible apply Frame.lnStickS; (on_goal 2 => decide +kernel))
    | (with_reducible apply Frame.setS; (on_goal 2 => decide +kernel))
    | (with_reducible apply Frame.incS; (on_goal 2 => decide +kernel))

def m_laneFaults : Nat := 0x1002030000000000000000000400000000000000000004000000000004000388
theorem fr_laneFaults (s : State) (own : List Nat) (n : Nat) (rows : List Nat) : Frame m_laneFaults s (State.laneFaults s own n rows) := by
  unfold State.laneFaults
  dsimp only
  repeat' first
    | with_reducible assumption
    | with_reducible exact Frame.refl _ _
    | lift_lets -underBinder
    | (with_reducible apply Frame.lnStickS; (on_goal 2 => decide +kernel))
    | (with_reducible apply Frame.after (fr_setLaneSt ..); (on_goal 2 => decide +kernel))
    | (with_reducible apply Frame.after (fr_ebSlip ..); (on_goal 2 => decide +kernel))
    | (with_reducible apply Frame.after (fr_laneLeave ..); (on_goal 2 => decide +kernel))
    | (with_reducible apply Frame.forEach; on_goal 2 => intro t a hs)
    | dsimp -zeta only
    | split

def m_laneFaultsAll : Nat := 0x1002030000000000000000000400000000000000000004000000000004000388
theorem fr_laneFaultsAll (s : State) (ns : List Nat) (rows : List Nat) : Frame m_laneFaultsAll s (State.laneFaultsAll s ns rows) := by
  unfold State.laneFaultsAll
  repeat' first
    | with_reducible assumption
    | with_reducible exact Frame.refl _ _
    | lift_lets -underBinder
    | (with_reducible apply Frame.after (fr_laneFaults ..); (on_goal 2 => decide +kernel))
    | (with_reducible apply Frame.after (fr_showSquelch ..); (on_goal 2 => decide +kernel))
    | (with_reducible apply Frame.forEach; on_goal 2 => intro t a hs)

def m_laneFault : Nat := 0x80bd00203000000000000000000040000000000000000b80458000000000401c3b8
theorem fr_laneFault (s : State) (n : Nat) (row : Nat) (also : List Nat) : Frame m_laneFault s (State.laneFault s n row also) := by
  unfold State.laneFault
  repeat' first
    | with_reducible assumption
    | with_reducible exact Frame.refl _ _
    | lift_lets -underBinder
    | (with_reducible apply Frame.after (fr_settle ..); (on_goal 2 => decide +kernel))
    | (with_reducible apply Frame.after (fr_laneFaults ..); (on_goal 2 => decide +kernel))
    | (with_reducible apply Frame.after (fr_showSquelch ..); (on_goal 2 => decide +kernel))
    | dsimp -zeta only
    | split

def m_laneStart : Nat := 0x10000000000000000000000000000000000000000000000000000000008
theorem fr_laneStart (s : State) (n : Nat) : Frame m_laneStart s (State.laneStart s n) := by
  unfold State.laneStart
  repeat' first
    | with_reducible assumption
    | with_reducible exact Frame.refl _ _
    | (intro x; first
        | (refine Frame.cut (w := m_laneStart) (s := s) x ?_ ?_
           on_goal 2 => intro hx; clear_value x
           on_goal 1 => unfold x; clear x)
        | clear_value x
        | skip)
    | lift_lets -underBinder
    | (with_reducible apply Frame.after (fr_setLaneSt ..); (on_goal 2 => decide +kernel))
    | (with_reducible apply Frame.after (fr_laneTo ..); (on_goal 2 => decide +kernel))
    | dsimp -zeta only
    | split

def m_lanePower : Nat := 0x10000000000000000000000000000000000000000000000000000000008
theorem fr_lanePower (s : State) (n : Nat) : Frame m_lanePower s (State.lanePower s n) := by
  unfold State.lanePower
  repeat' first
    | with_reducible assumption
    | with_reducible exact Frame.refl _ _
    | (intro x; first
        | (refine Frame.cut (w := m_lanePower) (s := s) x ?_ ?_
           on_goal 2 => intro hx; clear_value x
           on_goal 1 => unfold x; clear x)
        | clear_value x
        | skip)
    | lift_lets -underBinder
    | (with_reducible apply Frame.setBS; (on_goal 2 => decide +kernel))
    | (with_reducible apply Frame.after (fr_laneStart ..); (on_goal 2 => decide +kernel))
    | (with_reducible apply Frame.after (fr_setLaneSt ..); (on_goal 2 => decide +kernel))
    | (with_reducible apply Frame.after (fr_laneTo ..); (on_goal 2 => decide +kernel))
    | (with_reducible apply Frame.after (fr_showSquelch ..); (on_goal 2 => decide +kernel))
    | dsimp -zeta only
    | split

def m_laneDisable : Nat := 0x1000030000000000000000000400000000000000000004000000000004000388
theorem fr_laneDisable (s : State) (n : Nat) : Frame m_laneDisable s (State.laneDisable s n) := by
  unfold State.laneDisable
  repeat' first
    | with_reducible assumption
    | with_reducible exact Frame.refl _ _
    | (intro x; first
        | (refine Frame.cut (w := m_laneDisable) (s := s) x ?_ ?_
           on_goal 2 => intro hx; clear_value x
           on_goal 1 => unfold x; clear x)
        | clear_value x
        | skip)
    | lift_lets -underBinder
    | (with_reducible apply Frame.after (fr_setLaneSt ..); (on_goal 2 => decide +kernel))
    | (with_reducible apply Frame.after (fr_showSquelch ..); (on_goal 2 => decide +kernel))
    | (with_reducible apply Frame.after (fr_laneLeave ..); (on_goal 2 => decide +kernel))

def m_effRefclkLoss : Nat := 0x80bd00203000000000000000000040000000000000000b80458000000000401c3b8
theorem fr_effRefclkLoss (r : Nat) (s : State) : Frame m_effRefclkLoss s (effRefclkLoss r s) := by
  unfold effRefclkLoss
  repeat' first
    | with_reducible assumption
    | with_reducible exact Frame.refl _ _
    | (with_reducible exact .inl rfl)
    | exact .inr (by decide +kernel)
    | (intro x; first
        | (refine Frame.cut (w := m_effRefclkLoss) (s := s) x ?_ ?_
           on_goal 2 => intro hx; clear_value x
           on_goal 1 => unfold x; clear x)
        | clear_value x
        | skip)
    | lift_lets -underBinder
    | (with_reducible apply Frame.setBS; (on_goal 2 => decide +kernel))
    | (with_reducible apply Frame.after (fr_settle ..); (on_goal 2 => decide +kernel))
    | (with_reducible apply Frame.after (fr_laneFaultsAll ..); (on_goal 2 => decide +kernel))
    | (with_reducible apply Frame.forEach; on_goal 2 => intro t a hs)
    | dsimp -zeta only
    | split
    | (rw [mk_put]; with_reducible apply Frame.upd)

def m_synthLost : Nat := 0x8
theorem fr_synthLost (s : State) (q : Nat) : Frame m_synthLost s (State.synthLost s q) := by
  unfold State.synthLost
  repeat' first
    | with_reducible assumption
    | with_reducible exact Frame.refl _ _
    | (with_reducible exact .inl rfl)
    | exact .inr (by decide +kernel)
    | (intro x; first
        | (refine Frame.cut (w := m_synthLost) (s := s) x ?_ ?_
           on_goal 2 => intro hx; clear_value x
           on_goal 1 => unfold x; clear x)
        | clear_value x
        | skip)
    | lift_lets -underBinder
    | dsimp -zeta only
    | split
    | (rw [mk_put]; with_reducible apply Frame.upd)

def m_effRefclkValid : Nat := 0x10000000000000000000000000000000000000000000000000000000008
theorem fr_effRefclkValid (r : Nat) (s : State) : Frame m_effRefclkValid s (effRefclkValid r s) := by
  unfold effRefclkValid
  repeat' first
    | with_reducible assumption
    | with_reducible exact Frame.refl _ _
    | (with_reducible exact .inl rfl)
    | exact .inr (by decide +kernel)
    | (intro x; first
        | (refine Frame.cut (w := m_effRefclkValid) (s := s) x ?_ ?_
           on_goal 2 => intro hx; clear_value x
           on_goal 1 => unfold x; clear x)
        | clear_value x
        | skip)
    | lift_lets -underBinder
    | (with_reducible apply Frame.setBS; (on_goal 2 => decide +kernel))
    | (with_reducible apply Frame.after (fr_setLaneSt ..); (on_goal 2 => decide +kernel))
    | (with_reducible apply Frame.after (fr_laneTo ..); (on_goal 2 => decide +kernel))
    | (with_reducible apply Frame.after (fr_synthLost ..); (on_goal 2 => decide +kernel))
    | (with_reducible apply Frame.after (fr_showSquelch ..); (on_goal 2 => decide +kernel))
    | (with_reducible apply Frame.forEach; on_goal 2 => intro t a hs)
    | dsimp -zeta only
    | split
    | (rw [mk_put]; with_reducible apply Frame.upd)

def m_effSynthLock : Nat := 0x2030000000000000000000000000000000000000000000000000000000008
theorem fr_effSynthLock (q : Nat) (s : State) : Frame m_effSynthLock s (effSynthLock q s) := by
  unfold effSynthLock
  repeat' first
    | with_reducible assumption
    | with_reducible exact Frame.refl _ _
    | (with_reducible exact .inl rfl)
    | exact .inr (by decide +kernel)
    | (intro x; first
        | (refine Frame.cut (w := m_effSynthLock) (s := s) x ?_ ?_
           on_goal 2 => intro hx; clear_value x
           on_goal 1 => unfold x; clear x)
        | (refine Frame.cut (w := m_effSynthLock) (s := s) x.1 ?_ ?_
           on_goal 2 => intro hx; clear_value x
           on_goal 1 => unfold x; clear x)
        | (refine Frame.cut (w := m_effSynthLock) (s := s) x.2 ?_ ?_
           on_goal 2 => intro hx; clear_value x
           on_goal 1 => unfold x; clear x)
        | clear_value x
        | skip)
    | lift_lets -underBinder
    | (with_reducible apply Frame.lnStickS; (on_goal 2 => decide +kernel))
    | (with_reducible apply Frame.incS; (on_goal 2 => decide +kernel))
    | (with_reducible apply Frame.after (fr_laneStart ..); (on_goal 2 => decide +kernel))
    | (with_reducible apply Frame.after (fr_showSquelch ..); (on_goal 2 => decide +kernel))
    | (with_reducible apply Frame.forEach; on_goal 2 => intro t a hs)
    | dsimp -zeta only
    | split
    | (rw [mk_put]; with_reducible apply Frame.upd)

def m_effSynthUnlock : Nat := 0x80bd00203000000000000000000040000000000000000b80458000000000401c3b8
theorem fr_effSynthUnlock (q : Nat) (s : State) : Frame m_effSynthUnlock s (effSynthUnlock q s) := by
  unfold effSynthUnlock
  repeat' first
    | with_reducible assumption
    | with_reducible exact Frame.refl _ _
    | lift_lets -underBinder
    | (with_reducible apply Frame.after (fr_settle ..); (on_goal 2 => decide +kernel))
    | (with_reducible apply Frame.after (fr_synthLost ..); (on_goal 2 => decide +kernel))
    | (with_reducible apply Frame.after (fr_laneFaultsAll ..); (on_goal 2 => decide +kernel))
    | dsimp -zeta only
    | split

def m_effCdrLock : Nat := 0x10000000000000000000000000000000000000000000000000000000000
theorem fr_effCdrLock (n : Nat) (s : State) : Frame m_effCdrLock s (effCdrLock n s) := by
  unfold effCdrLock
  repeat' first
    | with_reducible assumption
    | with_reducible exact Frame.refl _ _
    | lift_lets -underBinder
    | (with_reducible apply Frame.after (fr_laneTo ..); (on_goal 2 => decide +kernel))
    | dsimp -zeta only
    | split

def m_effAdaptConverged : Nat := 0x10000000000000000000000000000000000000000000000000000000008
theorem fr_effAdaptConverged (n : Nat) (s : State) : Frame m_effAdaptConverged s (effAdaptConverged n s) := by
  unfold effAdaptConverged
  repeat' first
    | with_reducible assumption
    | with_reducible exact Frame.refl _ _
    | (intro x; first
        | (refine Frame.cut (w := m_effAdaptConverged) (s := s) x ?_ ?_
           on_goal 2 => intro hx; clear_value x
           on_goal 1 => unfold x; clear x)
        | clear_value x
        | skip)
    | lift_lets -underBinder
    | (with_reducible apply Frame.after (fr_setLaneSt ..); (on_goal 2 => decide +kernel))
    | (with_reducible apply Frame.after (fr_laneTo ..); (on_goal 2 => decide +kernel))
    | dsimp -zeta only
    | split

def m_effFecAlignLock : Nat := 0x10000000000000000000000000000000000000000000000000000000000
theorem fr_effFecAlignLock (n : Nat) (s : State) : Frame m_effFecAlignLock s (effFecAlignLock n s) := by
  unfold effFecAlignLock
  repeat' first
    | with_reducible assumption
    | with_reducible exact Frame.refl _ _
    | lift_lets -underBinder
    | (with_reducible apply Frame.after (fr_laneTo ..); (on_goal 2 => decide +kernel))
    | dsimp -zeta only
    | split

def m_laneUp : Nat := 0x800030000000000000000000400000000000000000004000000000004000388
theorem fr_laneUp (s : State) (n : Nat) (us : Nat) : Frame m_laneUp s (State.laneUp s n us) := by
  unfold State.laneUp
  repeat' first
    | with_reducible assumption
    | with_reducible exact Frame.refl _ _
    | (intro x; first
        | (refine Frame.cut (w := m_laneUp) (s := s) x ?_ ?_
           on_goal 2 => intro hx; clear_value x
           on_goal 1 => unfold x; clear x)
        | clear_value x
        | skip)
    | lift_lets -underBinder
    | (with_reducible apply Frame.setBS; (on_goal 2 => decide +kernel))
    | (with_reducible apply Frame.lnStickS; (on_goal 2 => decide +kernel))
    | (with_reducible apply Frame.setS; (on_goal 2 => decide +kernel))
    | (with_reducible apply Frame.after (fr_setLaneSt ..); (on_goal 2 => decide +kernel))
    | (with_reducible apply Frame.after (fr_report ..); (on_goal 2 => decide +kernel))
    | (with_reducible apply Frame.after (fr_countMateLanes ..); (on_goal 2 => decide +kernel))
    | dsimp -zeta only
    | split

def m_effDeskewComplete : Nat := 0x80bc82003000000000000000000040000000000000000b80458000000000401c3b8
theorem fr_effDeskewComplete (n : Nat) (members : List Sys2Proof.DeskewIn) (gid : Nat) (us : Nat) (s : State) : Frame m_effDeskewComplete s (effDeskewComplete n members gid us s) := by
  unfold effDeskewComplete
  repeat' first
    | with_reducible assumption
    | with_reducible exact Frame.refl _ _
    | (intro x; first
        | (refine Frame.cut (w := m_effDeskewComplete) (s := s) x ?_ ?_
           on_goal 2 => intro hx; clear_value x
           on_goal 1 => unfold x; clear x)
        | (refine Frame.cut (w := m_effDeskewComplete) (s := s) x.1 ?_ ?_
           on_goal 2 => intro hx; clear_value x
           on_goal 1 => unfold x; clear x)
        | (refine Frame.cut (w := m_effDeskewComplete) (s := s) x.2 ?_ ?_
           on_goal 2 => intro hx; clear_value x
           on_goal 1 => unfold x; clear x)
        | clear_value x
        | skip)
    | lift_lets -underBinder
    | (with_reducible apply Frame.lnStickS; (on_goal 2 => decide +kernel))
    | (with_reducible apply Frame.setS; (on_goal 2 => decide +kernel))
    | (with_reducible apply Frame.after (fr_settle ..); (on_goal 2 => decide +kernel))
    | (with_reducible apply Frame.after (fr_laneUp ..); (on_goal 2 => decide +kernel))
    | (with_reducible apply Frame.forEach; on_goal 2 => intro t a hs)
    | dsimp -zeta only
    | split

def m_effAcqAttemptTimeout : Nat := 0x10000000000000000000000000000000000000000000000000000000008
theorem fr_effAcqAttemptTimeout (n : Nat) (s : State) : Frame m_effAcqAttemptTimeout s (effAcqAttemptTimeout n s) := by
  unfold effAcqAttemptTimeout
  repeat' first
    | with_reducible assumption
    | with_reducible exact Frame.refl _ _
    | (intro x; first
        | (refine Frame.cut (w := m_effAcqAttemptTimeout) (s := s) x ?_ ?_
           on_goal 2 => intro hx; clear_value x
           on_goal 1 => unfold x; clear x)
        | clear_value x
        | skip)
    | lift_lets -underBinder
    | (with_reducible apply Frame.after (fr_setLaneSt ..); (on_goal 2 => decide +kernel))
    | (with_reducible apply Frame.after (fr_laneTo ..); (on_goal 2 => decide +kernel))
    | dsimp -zeta only
    | split

def m_effLosExit : Nat := 0x10000000000000000000000000000000000000000000000000000000008
theorem fr_effLosExit (n : Nat) (s : State) : Frame m_effLosExit s (effLosExit n s) := by
  unfold effLosExit
  repeat' first
    | with_reducible assumption
    | with_reducible exact Frame.refl _ _
    | (intro x; first
        | (refine Frame.cut (w := m_effLosExit) (s := s) x ?_ ?_
           on_goal 2 => intro hx; clear_value x
           on_goal 1 => unfold x; clear x)
        | clear_value x
        | skip)
    | lift_lets -underBinder
    | (with_reducible apply Frame.setBS; (on_goal 2 => decide +kernel))
    | (with_reducible apply Frame.after (fr_setLaneSt ..); (on_goal 2 => decide +kernel))
    | dsimp -zeta only
    | split

def m_effEbSlip : Nat := 0x2020000000000000000000000000000000000000000000000000000000000
theorem fr_effEbSlip (n : Nat) (s : State) : Frame m_effEbSlip s (effEbSlip n s) := by
  unfold effEbSlip
  repeat' first
    | with_reducible assumption
    | with_reducible exact Frame.refl _ _
    | lift_lets -underBinder
    | (with_reducible apply Frame.after (fr_ebSlip ..); (on_goal 2 => decide +kernel))
    | dsimp -zeta only
    | split

def m_effLaneTermMeasure : Nat := 0x1cc020000000000000000000400000000000000000000000000000004000388
theorem fr_effLaneTermMeasure (n : Nat) (rx : Sys2Proof.TermIn) (tx : Sys2Proof.TermIn) (s : State) : Frame m_effLaneTermMeasure s (effLaneTermMeasure n rx tx s) := by
  unfold effLaneTermMeasure
  repeat' first
    | with_reducible assumption
    | with_reducible exact Frame.refl _ _
    | (intro x; first
        | (refine Frame.cut (w := m_effLaneTermMeasure) (s := s) x ?_ ?_
           on_goal 2 => intro hx; clear_value x
           on_goal 1 => unfold x; clear x)
        | (refine Frame.cut (w := m_effLaneTermMeasure) (s := s) x.1 ?_ ?_
           on_goal 2 => intro hx; clear_value x
           on_goal 1 => unfold x; clear x)
        | (refine Frame.cut (w := m_effLaneTermMeasure) (s := s) x.2 ?_ ?_
           on_goal 2 => intro hx; clear_value x
           on_goal 1 => unfold x; clear x)
        | clear_value x
        | skip)
    | lift_lets -underBinder
    | (with_reducible apply Frame.lnStickS; (on_goal 2 => decide +kernel))
    | (with_reducible apply Frame.setS; (on_goal 2 => decide +kernel))
    | (with_reducible apply Frame.after (fr_setLaneSt ..); (on_goal 2 => decide +kernel))
    | (with_reducible apply Frame.after (fr_report ..); (on_goal 2 => decide +kernel))
    | dsimp -zeta only
    | split

def m_takeTerms : Nat := 0x8
theorem fr_takeTerms (s : State) : Frame m_takeTerms s (State.takeTerms s) := by
  unfold State.takeTerms
  repeat' first
    | with_reducible assumption
    | with_reducible exact Frame.refl _ _
    | (intro x; first
        | (refine Frame.cut (w := m_takeTerms) (s := s) x ?_ ?_
           on_goal 2 => intro hx; clear_value x
           on_goal 1 => unfold x; clear x)
        | clear_value x
        | skip)
    | lift_lets -underBinder
    | (with_reducible apply Frame.after (fr_setLaneSt ..); (on_goal 2 => decide +kernel))
    | (with_reducible apply Frame.forEach; on_goal 2 => intro t a hs)

def m_effModIntEdge : Nat := 0x20000000000000000000400000000000000000000000000000004000388
theorem fr_effModIntEdge (q : Nat) (s : State) : Frame m_effModIntEdge s (effModIntEdge q s) := by
  unfold effModIntEdge
  repeat' first
    | with_reducible assumption
    | with_reducible exact Frame.refl _ _
    | (with_reducible exact .inl rfl)
    | exact .inr (by decide +kernel)
    | (intro x; first
        | (refine Frame.cut (w := m_effModIntEdge) (s := s) x ?_ ?_
           on_goal 2 => intro hx; clear_value x
           on_goal 1 => unfold x; clear x)
        | clear_value x
        | skip)
    | lift_lets -underBinder
    | (with_reducible apply Frame.lnStickS; (on_goal 2 => decide +kernel))
    | (with_reducible apply Frame.after (fr_report ..); (on_goal 2 => decide +kernel))
    | (with_reducible apply Frame.forEach; on_goal 2 => intro t a hs)
    | dsimp -zeta only
    | split
    | (rw [mk_put]; with_reducible apply Frame.upd)

end Sys2Proof.Laws
end

