-- ==== Sys2Proof/Laws/FramePm.lean ====
section
/-!
SUPPORT. Sys2Proof/Laws/FramePm.lean: what each operation of Machine/Pm.lean leaves unchanged.
-/
namespace Sys2Proof.Laws

set_option Elab.async false
set_option linter.unusedTactic false
set_option linter.unreachableTactic false

open Sys2Proof.Machine

def m_suspectAll : Nat := 0x10
theorem fr_suspectAll (s : State) : Frame m_suspectAll s (State.suspectAll s) := by
  unfold State.suspectAll
  repeat' first
    | with_reducible assumption
    | with_reducible exact Frame.refl _ _
    | (with_reducible exact .inl rfl)
    | exact .inr (by decide +kernel)
    | (intro x; first
        | (refine Frame.cut (w := m_suspectAll) (s := s) x ?_ ?_
           on_goal 2 => intro hx; clear_value x
           on_goal 1 => unfold x; clear x)
        | clear_value x
        | skip)
    | lift_lets -underBinder
    | dsimp -zeta only
    | split
    | (rw [mk_put]; with_reducible apply Frame.upd)

def m_classify : Nat := 0x300000000000000000000000000000000000000000000000000000000000000010
theorem fr_classify (s : State) (sec : Nat) (p : Entry) : Frame m_classify s (State.classify s sec p) := by
  unfold State.classify
  lift_lets -underBinder
  intros
  generalize availStep _ _ _ = A
  generalize availStep _ _ _ = B
  generalize (@ite _ (_ = true) (instDecidableEqBool _ _) B (0, false, false)) = B
  obtain ⟨nr, nu, nch⟩ := A
  obtain ⟨nr', nu', nch'⟩ := B
  dsimp -zeta only
  lift_lets -underBinder
  intro _ _ _ _ _ _ _ _ _ _ _ _ s1 _ s2 s3 s4 s5 s6
  have h1 : Frame m_classify s s1 := Frame.step (Frame.refl _ _) (fr_setDefSt ..) (by decide +kernel)
  have h2 : Frame m_classify s s2 := Frame.step h1 (fr_setPmSt ..) (by decide +kernel)
  have h3 : Frame m_classify s s3 := by
    unfold s3
    split
    · exact h2
    · exact Frame.step h2 (fr_setPmSt ..) (by decide +kernel)
  have h4 : Frame m_classify s s4 := Frame.setBS (Frame.setS h3 (by decide +kernel)) (by decide +kernel)
  have h5 : Frame m_classify s s5 := Frame.setBS (Frame.setS h4 (by decide +kernel)) (by decide +kernel)
  have h6 : Frame m_classify s s6 := Frame.setS (Frame.setS h5 (by decide +kernel)) (by decide +kernel)
  exact Frame.setS h6 (by decide +kernel)

def m_laneSecond : Nat := 0x1020000000000000000000000000000000000000000000000000000000008
theorem fr_laneSecond (s : State) (n : Nat) : Frame m_laneSecond s (State.laneSecond s n) := by
  unfold State.laneSecond
  repeat' first
    | with_reducible assumption
    | with_reducible exact Frame.refl _ _
    | (intro x; first
        | (refine Frame.cut (w := m_laneSecond) (s := s) x ?_ ?_
           on_goal 2 => intro hx; clear_value x
           on_goal 1 => unfold x; clear x)
        | clear_value x
        | skip)
    | lift_lets -underBinder
    | (with_reducible apply Frame.lnStickS; (on_goal 2 => decide +kernel))
    | (with_reducible apply Frame.setS; (on_goal 2 => decide +kernel))
    | (with_reducible apply Frame.after (fr_setLaneSt ..); (on_goal 2 => decide +kernel))
    | dsimp -zeta only
    | split

def m_framerTest : Nat := 0x400000000000000000000000000000004000390
theorem fr_framerTest (s : State) (bad : List Nat) : Frame m_framerTest s (State.framerTest s bad) := by
  unfold State.framerTest
  repeat' first
    | with_reducible assumption
    | with_reducible exact Frame.refl _ _
    | (with_reducible exact .inl rfl)
    | exact .inr (by decide +kernel)
    | (intro x; first
        | (refine Frame.cut (w := m_framerTest) (s := s) x ?_ ?_
           on_goal 2 => intro hx; clear_value x
           on_goal 1 => unfold x; clear x)
        | clear_value x
        | skip)
    | lift_lets -underBinder
    | (with_reducible apply Frame.after (fr_report ..); (on_goal 2 => decide +kernel))
    | (with_reducible apply Frame.forEach; on_goal 2 => intro t a hs)
    | dsimp -zeta only
    | split
    | (rw [mk_put]; with_reducible apply Frame.upd)

def m_effPmSecondEnd : Nat := 0x83bc00102000000000000000000040000000000000000b800d8000000000401c3f8
theorem fr_effPmSecondEnd (bad : List Nat) (s : State) : Frame m_effPmSecondEnd s (effPmSecondEnd bad s) := by
  unfold effPmSecondEnd
  repeat' first
    | with_reducible assumption
    | with_reducible exact Frame.refl _ _
    | (with_reducible exact .inl rfl)
    | exact .inr (by decide +kernel)
    | (intro x; first
        | (refine Frame.cut (w := m_effPmSecondEnd) (s := s) x ?_ ?_
           on_goal 2 => intro hx; clear_value x
           on_goal 1 => unfold x; clear x)
        | (refine Frame.cut (w := m_effPmSecondEnd) (s := s) x.1 ?_ ?_
           on_goal 2 => intro hx; clear_value x
           on_goal 1 => unfold x; clear x)
        | (refine Frame.cut (w := m_effPmSecondEnd) (s := s) x.2 ?_ ?_
           on_goal 2 => intro hx; clear_value x
           on_goal 1 => unfold x; clear x)
        | clear_value x
        | skip)
    | lift_lets -underBinder
    | (with_reducible apply Frame.setS; (on_goal 2 => decide +kernel))
    | (with_reducible apply Frame.after (fr_framerTest ..); (on_goal 2 => decide +kernel))
    | (with_reducible apply Frame.after (fr_report ..); (on_goal 2 => decide +kernel))
    | (with_reducible apply Frame.after (fr_settle ..); (on_goal 2 => decide +kernel))
    | (with_reducible apply Frame.after (fr_classify ..); (on_goal 2 => decide +kernel))
    | (with_reducible apply Frame.after (fr_count ..); (on_goal 2 => decide +kernel))
    | (with_reducible apply Frame.after (fr_laneSecond ..); (on_goal 2 => decide +kernel))
    | (with_reducible apply Frame.forEach; on_goal 2 => intro t a hs)
    | dsimp -zeta only
    | split
    | (rw [mk_put]; with_reducible apply Frame.upd)

def m_tcaCheck : Nat := 0x400000000000000000000000000000004000380
theorem fr_tcaCheck (s : State) (c : Nat) (prof : Nat) (b : PmBin) : Frame m_tcaCheck s (State.tcaCheck s c prof b).1 := by
  unfold State.tcaCheck
  repeat' first
    | with_reducible assumption
    | with_reducible exact Frame.refl _ _
    | (intro x; first
        | (refine Frame.cut (w := m_tcaCheck) (s := s) x ?_ ?_
           on_goal 2 => intro hx; clear_value x
           on_goal 1 => unfold x; clear x)
        | (refine Frame.cut (w := m_tcaCheck) (s := s) x.1 ?_ ?_
           on_goal 2 => intro hx; clear_value x
           on_goal 1 => unfold x; clear x)
        | (refine Frame.cut (w := m_tcaCheck) (s := s) x.2 ?_ ?_
           on_goal 2 => intro hx; clear_value x
           on_goal 1 => unfold x; clear x)
        | clear_value x
        | skip)
    | lift_lets -underBinder
    | (with_reducible apply Frame.after (fr_report ..); (on_goal 2 => decide +kernel))
    | (with_reducible apply Frame.foldl1; on_goal 2 => intro t b hs)
    | dsimp -zeta only
    | split

def m_commitBin : Nat := 0x400000000000000000000000000000004000380
theorem fr_commitBin (s : State) (c : Nat) (prof : Nat) (x : PmSec) (l : List PmBin) (len : Nat) : Frame m_commitBin s (State.commitBin s c prof x l len).1 := by
  unfold State.commitBin
  repeat' first
    | with_reducible assumption
    | with_reducible exact Frame.refl _ _
    | lift_lets -underBinder
    | (with_reducible apply Frame.after (fr_tcaCheck ..); (on_goal 2 => decide +kernel))
    | (with_reducible apply Frame.foldl1; on_goal 2 => intro t b hs)
    | dsimp -zeta only
    | split

def m_effPmSecondCommit : Nat := 0x400000000000000000000000000000004000390
theorem fr_effPmSecondCommit (s : State) : Frame m_effPmSecondCommit s (effPmSecondCommit s) := by
  unfold effPmSecondCommit
  repeat' first
    | with_reducible assumption
    | with_reducible exact Frame.refl _ _
    | (intro x; first
        | (refine Frame.cut (w := m_effPmSecondCommit) (s := s) x ?_ ?_
           on_goal 2 => intro hx; clear_value x
           on_goal 1 => unfold x; clear x)
        | clear_value x
        | skip)
    | lift_lets -underBinder
    | (with_reducible apply Frame.after (fr_setPmSt ..); (on_goal 2 => decide +kernel))
    | (with_reducible apply Frame.after (fr_commitBin ..); (on_goal 2 => decide +kernel))
    | (with_reducible apply Frame.forEach; on_goal 2 => intro t a hs)
    | dsimp -zeta only
    | split

def m_effPmBinClose : Nat := 0x400400000000000000000000000000000004000390
theorem fr_effPmBinClose (day : Bool) (s : State) : Frame m_effPmBinClose s (effPmBinClose day s) := by
  unfold effPmBinClose
  repeat' first
    | with_reducible assumption
    | with_reducible exact Frame.refl _ _
    | (intro x; first
        | (refine Frame.cut (w := m_effPmBinClose) (s := s) x ?_ ?_
           on_goal 2 => intro hx; clear_value x
           on_goal 1 => unfold x; clear x)
        | (refine Frame.cut (w := m_effPmBinClose) (s := s) x.1 ?_ ?_
           on_goal 2 => intro hx; clear_value x
           on_goal 1 => unfold x; clear x)
        | (refine Frame.cut (w := m_effPmBinClose) (s := s) x.2 ?_ ?_
           on_goal 2 => intro hx; clear_value x
           on_goal 1 => unfold x; clear x)
        | clear_value x
        | skip)
    | lift_lets -underBinder
    | (with_reducible apply Frame.after (fr_pushPm ..); (on_goal 2 => decide +kernel))
    | (with_reducible apply Frame.after (fr_setPmSt ..); (on_goal 2 => decide +kernel))
    | (with_reducible apply Frame.forEach; on_goal 2 => intro t a hs)
    | dsimp -zeta only
    | split

end Sys2Proof.Laws
end

