-- ==== Sys2Proof/Laws/FrameTiming.lean ====
section
/-!
SUPPORT. Sys2Proof/Laws/FrameTiming.lean: what each operation of Machine/Timing.lean leaves unchanged.
-/
namespace Sys2Proof.Laws

set_option Elab.async false
set_option linter.unusedTactic false
set_option linter.unreachableTactic false

open Sys2Proof.Machine

def m_setSysTime : Nat := 0x3c00000000000000000000000000000000000000000000000
theorem fr_setSysTime (s : State) (v : Nat) : Frame m_setSysTime s (State.setSysTime s v) := by
  unfold State.setSysTime
  repeat' first
    | with_reducible assumption
    | with_reducible exact Frame.refl _ _
    | (intro x; first
        | (refine Frame.cut (w := m_setSysTime) (s := s) x ?_ ?_
           on_goal 2 => intro hx; clear_value x
           on_goal 1 => unfold x; clear x)
        | clear_value x
        | skip)
    | lift_lets -underBinder
    | (with_reducible apply Frame.setS; (on_goal 2 => decide +kernel))
    | (with_reducible apply Frame.set64S; (on_goal 2 => decide +kernel); (on_goal 2 => decide +kernel))

def m_tickTime : Nat := 0x3c00000000000000000000000000000000000000000800000
theorem fr_tickTime (s : State) (n : Nat) : Frame m_tickTime s (State.tickTime s n) := by
  unfold State.tickTime
  repeat' first
    | with_reducible assumption
    | with_reducible exact Frame.refl _ _
    | (with_reducible exact .inl rfl)
    | exact .inr (by decide +kernel)
    | (intro x; first
        | (refine Frame.cut (w := m_tickTime) (s := s) x ?_ ?_
           on_goal 2 => intro hx; clear_value x
           on_goal 1 => unfold x; clear x)
        | clear_value x
        | skip)
    | lift_lets -underBinder
    | (with_reducible apply Frame.after (fr_setSysTime ..); (on_goal 2 => decide +kernel))
    | dsimp -zeta only
    | split
    | (rw [mk_put]; with_reducible apply Frame.upd)

def m_setRtc : Nat := 0x1c00000000000000000000000000000000000000000000000000000000
theorem fr_setRtc (s : State) (t : Nat) : Frame m_setRtc s (State.setRtc s t) := by
  unfold State.setRtc
  repeat' first
    | with_reducible assumption
    | with_reducible exact Frame.refl _ _
    | lift_lets -underBinder
    | (with_reducible apply Frame.setS; (on_goal 2 => decide +kernel))
    | (with_reducible apply Frame.set64S; (on_goal 2 => decide +kernel); (on_goal 2 => decide +kernel))

def m_tickRtc : Nat := 0x1c00000000000000000000000000000000000000000000000000800000
theorem fr_tickRtc (s : State) (n : Nat) : Frame m_tickRtc s (State.tickRtc s n) := by
  unfold State.tickRtc
  repeat' first
    | with_reducible assumption
    | with_reducible exact Frame.refl _ _
    | (with_reducible exact .inl rfl)
    | exact .inr (by decide +kernel)
    | (intro x; first
        | (refine Frame.cut (w := m_tickRtc) (s := s) x ?_ ?_
           on_goal 2 => intro hx; clear_value x
           on_goal 1 => unfold x; clear x)
        | clear_value x
        | skip)
    | lift_lets -underBinder
    | (with_reducible apply Frame.after (fr_setRtc ..); (on_goal 2 => decide +kernel))
    | dsimp -zeta only
    | split
    | (rw [mk_put]; with_reducible apply Frame.upd)

def m_seedTime : Nat := 0x3c00000000000000000000000000000000000000000000000
theorem fr_seedTime (s : State) : Frame m_seedTime s (State.seedTime s) := by
  unfold State.seedTime
  repeat' first
    | with_reducible assumption
    | with_reducible exact Frame.refl _ _
    | (intro x; first
        | (refine Frame.cut (w := m_seedTime) (s := s) x ?_ ?_
           on_goal 2 => intro hx; clear_value x
           on_goal 1 => unfold x; clear x)
        | clear_value x
        | skip)
    | lift_lets -underBinder
    | (with_reducible apply Frame.after (fr_setSysTime ..); (on_goal 2 => decide +kernel))
    | dsimp -zeta only
    | split

def m_setCand : Nat := 0x800000
theorem fr_setCand (s : State) (c : Nat) (v : CandSt) : Frame m_setCand s (State.setCand s c v) := by
  unfold State.setCand
  repeat' first
    | with_reducible assumption
    | with_reducible exact Frame.refl _ _
    | (with_reducible exact .inl rfl)
    | exact .inr (by decide +kernel)
    | (intro x; first
        | (refine Frame.cut (w := m_setCand) (s := s) x ?_ ?_
           on_goal 2 => intro hx; clear_value x
           on_goal 1 => unfold x; clear x)
        | clear_value x
        | skip)
    | lift_lets -underBinder
    | dsimp -zeta only
    | split
    | (rw [mk_put]; with_reducible apply Frame.upd)

def m_setTch : Nat := 0x800000
theorem fr_setTch (s : State) (k : Nat) (v : TchSt) : Frame m_setTch s (State.setTch s k v) := by
  unfold State.setTch
  repeat' first
    | with_reducible assumption
    | with_reducible exact Frame.refl _ _
    | (with_reducible exact .inl rfl)
    | exact .inr (by decide +kernel)
    | (intro x; first
        | (refine Frame.cut (w := m_setTch) (s := s) x ?_ ?_
           on_goal 2 => intro hx; clear_value x
           on_goal 1 => unfold x; clear x)
        | clear_value x
        | skip)
    | lift_lets -underBinder
    | dsimp -zeta only
    | split
    | (rw [mk_put]; with_reducible apply Frame.upd)

def m_showCand : Nat := 0x1000000000000000000000000000000000000000000000000000
theorem fr_showCand (s : State) (c : Nat) : Frame m_showCand s (State.showCand s c) := by
  unfold State.showCand
  repeat' first
    | with_reducible assumption
    | with_reducible exact Frame.refl _ _
    | (intro x; first
        | (refine Frame.cut (w := m_showCand) (s := s) x ?_ ?_
           on_goal 2 => intro hx; clear_value x
           on_goal 1 => unfold x; clear x)
        | clear_value x
        | skip)
    | lift_lets -underBinder
    | (with_reducible apply Frame.setBS; (on_goal 2 => decide +kernel))
    | (with_reducible apply Frame.setS; (on_goal 2 => decide +kernel))

def m_showTrace : Nat := 0x100000000000000000000000000000000000000000000000
theorem fr_showTrace (s : State) : Frame m_showTrace s (State.showTrace s) := by
  unfold State.showTrace
  repeat' first
    | with_reducible assumption
    | with_reducible exact Frame.refl _ _
    | (intro x; first
        | (refine Frame.cut (w := m_showTrace) (s := s) x ?_ ?_
           on_goal 2 => intro hx; clear_value x
           on_goal 1 => unfold x; clear x)
        | clear_value x
        | skip)
    | lift_lets -underBinder
    | (with_reducible apply Frame.setBS; (on_goal 2 => decide +kernel))

def m_toF : Nat := 0x24100000000400000000000000000000000000000004800380
theorem fr_toF (s : State) (st : Nat) : Frame m_toF s (State.toF s st) := by
  unfold State.toF
  repeat' first
    | with_reducible assumption
    | with_reducible exact Frame.refl _ _
    | (with_reducible exact .inl rfl)
    | exact .inr (by decide +kernel)
    | (intro x; first
        | (refine Frame.cut (w := m_toF) (s := s) x ?_ ?_
           on_goal 2 => intro hx; clear_value x
           on_goal 1 => unfold x; clear x)
        | clear_value x
        | skip)
    | lift_lets -underBinder
    | (with_reducible apply Frame.setIS; (on_goal 2 => decide +kernel))
    | (with_reducible apply Frame.setS; (on_goal 2 => decide +kernel))
    | (with_reducible apply Frame.after (fr_report ..); (on_goal 2 => decide +kernel))
    | (with_reducible apply Frame.after (fr_irqSet ..); (on_goal 2 => decide +kernel))
    | dsimp -zeta only
    | split
    | (rw [mk_put]; with_reducible apply Frame.upd)

def m_toT : Nat := 0x840100000000400000000000000000000000000000004800380
theorem fr_toT (s : State) (st : Nat) : Frame m_toT s (State.toT s st) := by
  unfold State.toT
  repeat' first
    | with_reducible assumption
    | with_reducible exact Frame.refl _ _
    | (with_reducible exact .inl rfl)
    | exact .inr (by decide +kernel)
    | (intro x; first
        | (refine Frame.cut (w := m_toT) (s := s) x ?_ ?_
           on_goal 2 => intro hx; clear_value x
           on_goal 1 => unfold x; clear x)
        | clear_value x
        | skip)
    | lift_lets -underBinder
    | (with_reducible apply Frame.setBS; (on_goal 2 => decide +kernel))
    | (with_reducible apply Frame.setS; (on_goal 2 => decide +kernel))
    | (with_reducible apply Frame.after (fr_report ..); (on_goal 2 => decide +kernel))
    | (with_reducible apply Frame.after (fr_irqSet ..); (on_goal 2 => decide +kernel))
    | (with_reducible apply Frame.after (fr_showTrace ..); (on_goal 2 => decide +kernel))
    | dsimp -zeta only
    | split
    | (rw [mk_put]; with_reducible apply Frame.upd)

def m_loseF : Nat := 0x24100000000400000000000000000000000000000004800380
theorem fr_loseF (s : State) : Frame m_loseF s (State.loseF s) := by
  unfold State.loseF
  repeat' first
    | with_reducible assumption
    | with_reducible exact Frame.refl _ _
    | (intro x; first
        | (refine Frame.cut (w := m_loseF) (s := s) x ?_ ?_
           on_goal 2 => intro hx; clear_value x
           on_goal 1 => unfold x; clear x)
        | clear_value x
        | skip)
    | lift_lets -underBinder
    | (with_reducible apply Frame.after (fr_toF ..); (on_goal 2 => decide +kernel))
    | dsimp -zeta only
    | split

def m_loseT : Nat := 0x840100000000400000000000000000000000000000004800380
theorem fr_loseT (s : State) : Frame m_loseT s (State.loseT s) := by
  unfold State.loseT
  repeat' first
    | with_reducible assumption
    | with_reducible exact Frame.refl _ _
    | (intro x; first
        | (refine Frame.cut (w := m_loseT) (s := s) x ?_ ?_
           on_goal 2 => intro hx; clear_value x
           on_goal 1 => unfold x; clear x)
        | clear_value x
        | skip)
    | lift_lets -underBinder
    | (with_reducible apply Frame.after (fr_toT ..); (on_goal 2 => decide +kernel))
    | dsimp -zeta only
    | split

def m_disqualify : Nat := 0x1864100000000400000000000000000000000000000004800380
theorem fr_disqualify (s : State) (c : Nat) : Frame m_disqualify s (State.disqualify s c) := by
  unfold State.disqualify
  repeat' first
    | with_reducible assumption
    | with_reducible exact Frame.refl _ _
    | (intro x; first
        | (refine Frame.cut (w := m_disqualify) (s := s) x ?_ ?_
           on_goal 2 => intro hx; clear_value x
           on_goal 1 => unfold x; clear x)
        | clear_value x
        | skip)
    | lift_lets -underBinder
    | (with_reducible apply Frame.setBS; (on_goal 2 => decide +kernel))
    | (with_reducible apply Frame.setS; (on_goal 2 => decide +kernel))
    | (with_reducible apply Frame.after (fr_loseT ..); (on_goal 2 => decide +kernel))
    | (with_reducible apply Frame.after (fr_loseF ..); (on_goal 2 => decide +kernel))
    | (with_reducible apply Frame.after (fr_setCand ..); (on_goal 2 => decide +kernel))
    | dsimp -zeta only
    | split

def m_restartWtr : Nat := 0x1000000000000000000000000000000000000000000000800000
theorem fr_restartWtr (s : State) (c : Nat) : Frame m_restartWtr s (State.restartWtr s c) := by
  unfold State.restartWtr
  repeat' first
    | with_reducible assumption
    | with_reducible exact Frame.refl _ _
    | (intro x; first
        | (refine Frame.cut (w := m_restartWtr) (s := s) x ?_ ?_
           on_goal 2 => intro hx; clear_value x
           on_goal 1 => unfold x; clear x)
        | clear_value x
        | skip)
    | lift_lets -underBinder
    | (with_reducible apply Frame.setS; (on_goal 2 => decide +kernel))
    | (with_reducible apply Frame.after (fr_setCand ..); (on_goal 2 => decide +kernel))

def m_effOsciLoss : Nat := 0x1c64100000000400000000000000000000000000000004800380
theorem fr_effOsciLoss (s : State) : Frame m_effOsciLoss s (effOsciLoss s) := by
  unfold effOsciLoss
  repeat' first
    | with_reducible assumption
    | with_reducible exact Frame.refl _ _
    | (intro x; first
        | (refine Frame.cut (w := m_effOsciLoss) (s := s) x ?_ ?_
           on_goal 2 => intro hx; clear_value x
           on_goal 1 => unfold x; clear x)
        | clear_value x
        | skip)
    | lift_lets -underBinder
    | (with_reducible apply Frame.setBS; (on_goal 2 => decide +kernel))
    | (with_reducible apply Frame.incS; (on_goal 2 => decide +kernel))
    | (with_reducible apply Frame.after (fr_disqualify ..); (on_goal 2 => decide +kernel))
    | (with_reducible apply Frame.after (fr_report ..); (on_goal 2 => decide +kernel))
    | (with_reducible apply Frame.after (fr_loseT ..); (on_goal 2 => decide +kernel))
    | (with_reducible apply Frame.after (fr_loseF ..); (on_goal 2 => decide +kernel))
    | (with_reducible apply Frame.forEach; on_goal 2 => intro t a hs)
    | dsimp -zeta only
    | split

def m_effOsciRestore : Nat := 0x1000100000000000000000000000000000000000000000800000
theorem fr_effOsciRestore (s : State) : Frame m_effOsciRestore s (effOsciRestore s) := by
  unfold effOsciRestore
  repeat' first
    | with_reducible assumption
    | with_reducible exact Frame.refl _ _
    | (intro x; first
        | (refine Frame.cut (w := m_effOsciRestore) (s := s) x ?_ ?_
           on_goal 2 => intro hx; clear_value x
           on_goal 1 => unfold x; clear x)
        | clear_value x
        | skip)
    | lift_lets -underBinder
    | (with_reducible apply Frame.setBS; (on_goal 2 => decide +kernel))
    | (with_reducible apply Frame.after (fr_restartWtr ..); (on_goal 2 => decide +kernel))
    | (with_reducible apply Frame.forEach; on_goal 2 => intro t a hs)
    | dsimp -zeta only
    | split

def m_effServoCrossCheck : Nat := 0x624100000000400000000000000000000000000000004800380
theorem fr_effServoCrossCheck (off : Int) (s : State) : Frame m_effServoCrossCheck s (effServoCrossCheck off s) := by
  unfold effServoCrossCheck
  repeat' first
    | with_reducible assumption
    | with_reducible exact Frame.refl _ _
    | (with_reducible exact .inl rfl)
    | exact .inr (by decide +kernel)
    | (intro x; first
        | (refine Frame.cut (w := m_effServoCrossCheck) (s := s) x ?_ ?_
           on_goal 2 => intro hx; clear_value x
           on_goal 1 => unfold x; clear x)
        | (refine Frame.cut (w := m_effServoCrossCheck) (s := s) x.1 ?_ ?_
           on_goal 2 => intro hx; clear_value x
           on_goal 1 => unfold x; clear x)
        | (refine Frame.cut (w := m_effServoCrossCheck) (s := s) x.2 ?_ ?_
           on_goal 2 => intro hx; clear_value x
           on_goal 1 => unfold x; clear x)
        | clear_value x
        | skip)
    | lift_lets -underBinder
    | (with_reducible apply Frame.setBS; (on_goal 2 => decide +kernel))
    | (with_reducible apply Frame.setIS; (on_goal 2 => decide +kernel))
    | (with_reducible apply Frame.incS; (on_goal 2 => decide +kernel))
    | (with_reducible apply Frame.after (fr_report ..); (on_goal 2 => decide +kernel))
    | (with_reducible apply Frame.after (fr_loseF ..); (on_goal 2 => decide +kernel))
    | dsimp -zeta only
    | split
    | (rw [mk_put]; with_reducible apply Frame.upd)

def m_candLos : Nat := 0x9864100000000400000000000000000000000000000004800380
theorem fr_candLos (s : State) (c : Nat) : Frame m_candLos s (State.candLos s c) := by
  unfold State.candLos
  repeat' first
    | with_reducible assumption
    | with_reducible exact Frame.refl _ _
    | (intro x; first
        | (refine Frame.cut (w := m_candLos) (s := s) x ?_ ?_
           on_goal 2 => intro hx; clear_value x
           on_goal 1 => unfold x; clear x)
        | clear_value x
        | skip)
    | lift_lets -underBinder
    | (with_reducible apply Frame.setBS; (on_goal 2 => decide +kernel))
    | (with_reducible apply Frame.incS; (on_goal 2 => decide +kernel))
    | (with_reducible apply Frame.after (fr_disqualify ..); (on_goal 2 => decide +kernel))
    | (with_reducible apply Frame.after (fr_report ..); (on_goal 2 => decide +kernel))

def m_candLosClear : Nat := 0x1000000000000000000000000000000000000000000000800000
theorem fr_candLosClear (s : State) (c : Nat) : Frame m_candLosClear s (State.candLosClear s c) := by
  unfold State.candLosClear
  repeat' first
    | with_reducible assumption
    | with_reducible exact Frame.refl _ _
    | lift_lets -underBinder
    | (with_reducible apply Frame.setBS; (on_goal 2 => decide +kernel))
    | (with_reducible apply Frame.after (fr_restartWtr ..); (on_goal 2 => decide +kernel))

def m_effCandLos : Nat := 0x9864100000000400000000000000000000000000000004800380
theorem fr_effCandLos (c : Nat) (s : State) : Frame m_effCandLos s (effCandLos c s) := by
  unfold effCandLos
  repeat' first
    | with_reducible assumption
    | with_reducible exact Frame.refl _ _
    | lift_lets -underBinder
    | (with_reducible apply Frame.after (fr_candLos ..); (on_goal 2 => decide +kernel))
    | dsimp -zeta only
    | split

def m_effCandLosClear : Nat := 0x1000000000000000000000000000000000000000000000800000
theorem fr_effCandLosClear (c : Nat) (s : State) : Frame m_effCandLosClear s (effCandLosClear c s) := by
  unfold effCandLosClear
  repeat' first
    | with_reducible assumption
    | with_reducible exact Frame.refl _ _
    | lift_lets -underBinder
    | (with_reducible apply Frame.after (fr_candLosClear ..); (on_goal 2 => decide +kernel))
    | dsimp -zeta only
    | split

def m_effTimerefEdge : Nat := 0x9864100000000400000000000000000000000000000004800380
theorem fr_effTimerefEdge (c : Nat) (t : Nat) (width : Nat) (s : State) : Frame m_effTimerefEdge s (effTimerefEdge c t width s) := by
  unfold effTimerefEdge
  repeat' first
    | with_reducible assumption
    | with_reducible exact Frame.refl _ _
    | (intro x; first
        | (refine Frame.cut (w := m_effTimerefEdge) (s := s) x ?_ ?_
           on_goal 2 => intro hx; clear_value x
           on_goal 1 => unfold x; clear x)
        | clear_value x
        | skip)
    | lift_lets -underBinder
    | (with_reducible apply Frame.setBS; (on_goal 2 => decide +kernel))
    | (with_reducible apply Frame.incS; (on_goal 2 => decide +kernel))
    | (with_reducible apply Frame.after (fr_disqualify ..); (on_goal 2 => decide +kernel))
    | (with_reducible apply Frame.after (fr_setCand ..); (on_goal 2 => decide +kernel))
    | (with_reducible apply Frame.after (fr_candLosClear ..); (on_goal 2 => decide +kernel))
    | dsimp -zeta only
    | split

def m_effChatterClear : Nat := 0x1000000000000000000000000000000000000000000000800000
theorem fr_effChatterClear (c : Nat) (s : State) : Frame m_effChatterClear s (effChatterClear c s) := by
  unfold effChatterClear
  repeat' first
    | with_reducible assumption
    | with_reducible exact Frame.refl _ _
    | (intro x; first
        | (refine Frame.cut (w := m_effChatterClear) (s := s) x ?_ ?_
           on_goal 2 => intro hx; clear_value x
           on_goal 1 => unfold x; clear x)
        | clear_value x
        | skip)
    | lift_lets -underBinder
    | (with_reducible apply Frame.setBS; (on_goal 2 => decide +kernel))
    | (with_reducible apply Frame.after (fr_restartWtr ..); (on_goal 2 => decide +kernel))
    | (with_reducible apply Frame.after (fr_setCand ..); (on_goal 2 => decide +kernel))
    | dsimp -zeta only
    | split

def m_setFreq : Nat := 0x3864100000000400000000000000000000000000000004800380
theorem fr_setFreq (s : State) (c : Nat) (freq : Int) : Frame m_setFreq s (State.setFreq s c freq) := by
  unfold State.setFreq
  repeat' first
    | with_reducible assumption
    | with_reducible exact Frame.refl _ _
    | (intro x; first
        | (refine Frame.cut (w := m_setFreq) (s := s) x ?_ ?_
           on_goal 2 => intro hx; clear_value x
           on_goal 1 => unfold x; clear x)
        | clear_value x
        | skip)
    | lift_lets -underBinder
    | (with_reducible apply Frame.setBS; (on_goal 2 => decide +kernel))
    | (with_reducible apply Frame.setIS; (on_goal 2 => decide +kernel))
    | (with_reducible apply Frame.after (fr_disqualify ..); (on_goal 2 => decide +kernel))
    | (with_reducible apply Frame.after (fr_restartWtr ..); (on_goal 2 => decide +kernel))
    | dsimp -zeta only
    | split

def m_effFrequencyFault : Nat := 0x3864100000000400000000000000000000000000000004800380
theorem fr_effFrequencyFault (c : Nat) (freq : Int) (s : State) : Frame m_effFrequencyFault s (effFrequencyFault c freq s) := by
  unfold effFrequencyFault
  repeat' first
    | with_reducible assumption
    | with_reducible exact Frame.refl _ _
    | lift_lets -underBinder
    | (with_reducible apply Frame.after (fr_setFreq ..); (on_goal 2 => decide +kernel))

def m_effCandQualified : Nat := 0x1000000000000000000000000000000000000000000000000000
theorem fr_effCandQualified (c : Nat) (s : State) : Frame m_effCandQualified s (effCandQualified c s) := by
  unfold effCandQualified
  repeat' first
    | with_reducible assumption
    | with_reducible exact Frame.refl _ _
    | lift_lets -underBinder
    | (with_reducible apply Frame.setBS; (on_goal 2 => decide +kernel))
    | (with_reducible apply Frame.setS; (on_goal 2 => decide +kernel))
    | dsimp -zeta only
    | split

def m_effSelectorEvaluation : Nat := 0x1000300000000400000000000000000000000000000004800380
theorem fr_effSelectorEvaluation (s : State) : Frame m_effSelectorEvaluation s (effSelectorEvaluation s) := by
  unfold effSelectorEvaluation
  repeat' first
    | with_reducible assumption
    | with_reducible exact Frame.refl _ _
    | (with_reducible exact .inl rfl)
    | exact .inr (by decide +kernel)
    | (intro x; first
        | (refine Frame.cut (w := m_effSelectorEvaluation) (s := s) x ?_ ?_
           on_goal 2 => intro hx; clear_value x
           on_goal 1 => unfold x; clear x)
        | clear_value x
        | skip)
    | lift_lets -underBinder
    | (with_reducible apply Frame.setBS; (on_goal 2 => decide +kernel))
    | (with_reducible apply Frame.setS; (on_goal 2 => decide +kernel))
    | (with_reducible apply Frame.after (fr_report ..); (on_goal 2 => decide +kernel))
    | (with_reducible apply Frame.forEach; on_goal 2 => intro t a hs)
    | dsimp -zeta only
    | split
    | (rw [mk_put]; with_reducible apply Frame.upd)

def m_switchF : Nat := 0x424300000000400000000000000000000000000000004800380
theorem fr_switchF (s : State) : Frame m_switchF s (State.switchF s) := by
  unfold State.switchF
  repeat' first
    | with_reducible assumption
    | with_reducible exact Frame.refl _ _
    | (intro x; first
        | (refine Frame.cut (w := m_switchF) (s := s) x ?_ ?_
           on_goal 2 => intro hx; clear_value x
           on_goal 1 => unfold x; clear x)
        | clear_value x
        | skip)
    | lift_lets -underBinder
    | (with_reducible apply Frame.setBS; (on_goal 2 => decide +kernel))
    | (with_reducible apply Frame.setS; (on_goal 2 => decide +kernel))
    | (with_reducible apply Frame.incS; (on_goal 2 => decide +kernel))
    | (with_reducible apply Frame.after (fr_toF ..); (on_goal 2 => decide +kernel))
    | (with_reducible apply Frame.after (fr_report ..); (on_goal 2 => decide +kernel))
    | dsimp -zeta only
    | split

def m_takeUtc : Nat := 0x100000000000000000000000000000000000000000000000000000000
theorem fr_takeUtc (s : State) (u : Option (Int × Nat)) : Frame m_takeUtc s (State.takeUtc s u) := by
  unfold State.takeUtc
  repeat' first
    | with_reducible assumption
    | with_reducible exact Frame.refl _ _
    | lift_lets -underBinder
    | (with_reducible apply Frame.setBS; (on_goal 2 => decide +kernel))
    | (with_reducible apply Frame.setIS; (on_goal 2 => decide +kernel))
    | (with_reducible apply Frame.setS; (on_goal 2 => decide +kernel))
    | dsimp -zeta only
    | split

def m_switchT : Nat := 0x100000c40300000000400000000000000000000000000000004800380
theorem fr_switchT (s : State) : Frame m_switchT s (State.switchT s) := by
  unfold State.switchT
  repeat' first
    | with_reducible assumption
    | with_reducible exact Frame.refl _ _
    | (with_reducible exact .inl rfl)
    | exact .inr (by decide +kernel)
    | (intro x; first
        | (refine Frame.cut (w := m_switchT) (s := s) x ?_ ?_
           on_goal 2 => intro hx; clear_value x
           on_goal 1 => unfold x; clear x)
        | clear_value x
        | skip)
    | lift_lets -underBinder
    | (with_reducible apply Frame.setBS; (on_goal 2 => decide +kernel))
    | (with_reducible apply Frame.setS; (on_goal 2 => decide +kernel))
    | (with_reducible apply Frame.incS; (on_goal 2 => decide +kernel))
    | (with_reducible apply Frame.after (fr_toT ..); (on_goal 2 => decide +kernel))
    | (with_reducible apply Frame.after (fr_report ..); (on_goal 2 => decide +kernel))
    | (with_reducible apply Frame.after (fr_takeUtc ..); (on_goal 2 => decide +kernel))
    | dsimp -zeta only
    | split
    | (rw [mk_put]; with_reducible apply Frame.upd)

def m_applyStep : Nat := 0x583d00000000400000000000000000000000000000004800390
theorem fr_applyStep (s : State) : Frame m_applyStep s (State.applyStep s) := by
  unfold State.applyStep
  repeat' first
    | with_reducible assumption
    | with_reducible exact Frame.refl _ _
    | (with_reducible exact .inl rfl)
    | exact .inr (by decide +kernel)
    | (intro x; first
        | (refine Frame.cut (w := m_applyStep) (s := s) x ?_ ?_
           on_goal 2 => intro hx; clear_value x
           on_goal 1 => unfold x; clear x)
        | (refine Frame.cut (w := m_applyStep) (s := s) x.1 ?_ ?_
           on_goal 2 => intro hx; clear_value x
           on_goal 1 => unfold x; clear x)
        | (refine Frame.cut (w := m_applyStep) (s := s) x.2 ?_ ?_
           on_goal 2 => intro hx; clear_value x
           on_goal 1 => unfold x; clear x)
        | clear_value x
        | skip)
    | lift_lets -underBinder
    | (with_reducible apply Frame.setBS; (on_goal 2 => decide +kernel))
    | (with_reducible apply Frame.setIS; (on_goal 2 => decide +kernel))
    | (with_reducible apply Frame.setS; (on_goal 2 => decide +kernel))
    | (with_reducible apply Frame.incS; (on_goal 2 => decide +kernel))
    | (with_reducible apply Frame.after (fr_report ..); (on_goal 2 => decide +kernel))
    | (with_reducible apply Frame.after (fr_setSysTime ..); (on_goal 2 => decide +kernel))
    | (with_reducible apply Frame.after (fr_suspectAll ..); (on_goal 2 => decide +kernel))
    | dsimp -zeta only
    | split
    | (rw [mk_put]; with_reducible apply Frame.upd)

def m_tchEpoch : Nat := 0xf3864100000000400000000000000000000000000000004800380
theorem fr_tchEpoch (s : State) (e : Entry) : Frame m_tchEpoch s (State.tchEpoch s e) := by
  unfold State.tchEpoch
  repeat' first
    | with_reducible assumption
    | with_reducible exact Frame.refl _ _
    | (intro x; first
        | (refine Frame.cut (w := m_tchEpoch) (s := s) x ?_ ?_
           on_goal 2 => intro hx; clear_value x
           on_goal 1 => unfold x; clear x)
        | (refine Frame.cut (w := m_tchEpoch) (s := s) x.1 ?_ ?_
           on_goal 2 => intro hx; clear_value x
           on_goal 1 => unfold x; clear x)
        | (refine Frame.cut (w := m_tchEpoch) (s := s) x.2 ?_ ?_
           on_goal 2 => intro hx; clear_value x
           on_goal 1 => unfold x; clear x)
        | clear_value x
        | skip)
    | lift_lets -underBinder
    | (with_reducible apply Frame.setBS; (on_goal 2 => decide +kernel))
    | (with_reducible apply Frame.setIS; (on_goal 2 => decide +kernel))
    | (with_reducible apply Frame.setS; (on_goal 2 => decide +kernel))
    | (with_reducible apply Frame.incS; (on_goal 2 => decide +kernel))
    | (with_reducible apply Frame.after (fr_setTch ..); (on_goal 2 => decide +kernel))
    | (with_reducible apply Frame.after (fr_setFreq ..); (on_goal 2 => decide +kernel))
    | (with_reducible apply Frame.after (fr_irqSet ..); (on_goal 2 => decide +kernel))
    | (with_reducible apply Frame.after (fr_setCand ..); (on_goal 2 => decide +kernel))
    | dsimp -zeta only
    | split

def m_todEpoch : Nat := 0x9000000000000000000000000000000000000000000000800000
theorem fr_todEpoch (s : State) (c : Nat) : Frame m_todEpoch s (State.todEpoch s c) := by
  unfold State.todEpoch
  repeat' first
    | with_reducible assumption
    | with_reducible exact Frame.refl _ _
    | (intro x; first
        | (refine Frame.cut (w := m_todEpoch) (s := s) x ?_ ?_
           on_goal 2 => intro hx; clear_value x
           on_goal 1 => unfold x; clear x)
        | clear_value x
        | skip)
    | lift_lets -underBinder
    | (with_reducible apply Frame.setBS; (on_goal 2 => decide +kernel))
    | (with_reducible apply Frame.incS; (on_goal 2 => decide +kernel))
    | (with_reducible apply Frame.after (fr_setCand ..); (on_goal 2 => decide +kernel))
    | dsimp -zeta only
    | split

def m_candEpoch : Nat := 0xd000000000000000000000000000000000000000000000800000
theorem fr_candEpoch (s : State) (c : Nat) : Frame m_candEpoch s (State.candEpoch s c) := by
  unfold State.candEpoch
  repeat' first
    | with_reducible assumption
    | with_reducible exact Frame.refl _ _
    | (intro x; first
        | (refine Frame.cut (w := m_candEpoch) (s := s) x ?_ ?_
           on_goal 2 => intro hx; clear_value x
           on_goal 1 => unfold x; clear x)
        | clear_value x
        | skip)
    | lift_lets -underBinder
    | (with_reducible apply Frame.setIS; (on_goal 2 => decide +kernel))
    | (with_reducible apply Frame.setS; (on_goal 2 => decide +kernel))
    | (with_reducible apply Frame.after (fr_todEpoch ..); (on_goal 2 => decide +kernel))
    | (with_reducible apply Frame.after (fr_setCand ..); (on_goal 2 => decide +kernel))
    | dsimp -zeta only
    | split

def m_limitF : Nat := 0x4000000000000000000000000000000000000000000000000
theorem fr_limitF (s : State) : Frame m_limitF s (State.limitF s) := by
  unfold State.limitF
  repeat' first
    | with_reducible assumption
    | with_reducible exact Frame.refl _ _
    | (intro x; first
        | (refine Frame.cut (w := m_limitF) (s := s) x ?_ ?_
           on_goal 2 => intro hx; clear_value x
           on_goal 1 => unfold x; clear x)
        | clear_value x
        | skip)
    | lift_lets -underBinder
    | (with_reducible apply Frame.setIS; (on_goal 2 => decide +kernel))

def m_measureF : Nat := 0x2c000000000000000000000000000000000000000000800800
theorem fr_measureF (s : State) : Frame m_measureF s (State.measureF s) := by
  unfold State.measureF
  repeat' first
    | with_reducible assumption
    | with_reducible exact Frame.refl _ _
    | (with_reducible exact .inl rfl)
    | exact .inr (by decide +kernel)
    | (intro x; first
        | (refine Frame.cut (w := m_measureF) (s := s) x ?_ ?_
           on_goal 2 => intro hx; clear_value x
           on_goal 1 => unfold x; clear x)
        | clear_value x
        | skip)
    | lift_lets -underBinder
    | (with_reducible apply Frame.setIS; (on_goal 2 => decide +kernel))
    | (with_reducible apply Frame.incS; (on_goal 2 => decide +kernel))
    | (with_reducible apply Frame.after (fr_draw ..); (on_goal 2 => decide +kernel))
    | (with_reducible apply Frame.after (fr_limitF ..); (on_goal 2 => decide +kernel))
    | dsimp -zeta only
    | split
    | (rw [mk_put]; with_reducible apply Frame.upd)

def m_slew : Nat := 0x800100000000000000000000000000000000000000000000800
theorem fr_slew (s : State) (err : Int) : Frame m_slew s (State.slew s err) := by
  unfold State.slew
  repeat' first
    | with_reducible assumption
    | with_reducible exact Frame.refl _ _
    | lift_lets -underBinder
    | (with_reducible apply Frame.setBS; (on_goal 2 => decide +kernel))
    | (with_reducible apply Frame.setIS; (on_goal 2 => decide +kernel))
    | (with_reducible apply Frame.after (fr_draw ..); (on_goal 2 => decide +kernel))

def m_noSlew : Nat := 0x800100000000000000000000000000000000000000000000000
theorem fr_noSlew (s : State) : Frame m_noSlew s (State.noSlew s) := by
  unfold State.noSlew
  repeat' first
    | with_reducible assumption
    | with_reducible exact Frame.refl _ _
    | lift_lets -underBinder
    | (with_reducible apply Frame.setBS; (on_goal 2 => decide +kernel))
    | (with_reducible apply Frame.setS; (on_goal 2 => decide +kernel))

def m_measureT : Nat := 0x850100000000000000000000000000000000000000000800800
theorem fr_measureT (s : State) : Frame m_measureT s (State.measureT s) := by
  unfold State.measureT
  repeat' first
    | with_reducible assumption
    | with_reducible exact Frame.refl _ _
    | (with_reducible exact .inl rfl)
    | exact .inr (by decide +kernel)
    | (intro x; first
        | (refine Frame.cut (w := m_measureT) (s := s) x ?_ ?_
           on_goal 2 => intro hx; clear_value x
           on_goal 1 => unfold x; clear x)
        | clear_value x
        | skip)
    | lift_lets -underBinder
    | (with_reducible apply Frame.setBS; (on_goal 2 => decide +kernel))
    | (with_reducible apply Frame.setIS; (on_goal 2 => decide +kernel))
    | (with_reducible apply Frame.incS; (on_goal 2 => decide +kernel))
    | (with_reducible apply Frame.after (fr_noSlew ..); (on_goal 2 => decide +kernel))
    | (with_reducible apply Frame.after (fr_slew ..); (on_goal 2 => decide +kernel))
    | dsimp -zeta only
    | split
    | (rw [mk_put]; with_reducible apply Frame.upd)

def m_transitF : Nat := 0x24100000000400000000000000000000000000000004800380
theorem fr_transitF (s : State) : Frame m_transitF s (State.transitF s) := by
  unfold State.transitF
  repeat' first
    | with_reducible assumption
    | with_reducible exact Frame.refl _ _
    | (intro x; first
        | (refine Frame.cut (w := m_transitF) (s := s) x ?_ ?_
           on_goal 2 => intro hx; clear_value x
           on_goal 1 => unfold x; clear x)
        | clear_value x
        | skip)
    | lift_lets -underBinder
    | (with_reducible apply Frame.after (fr_toF ..); (on_goal 2 => decide +kernel))
    | dsimp -zeta only
    | split

def m_transitT : Nat := 0x840100000000400000000000000000000000000000004800380
theorem fr_transitT (s : State) : Frame m_transitT s (State.transitT s) := by
  unfold State.transitT
  repeat' first
    | with_reducible assumption
    | with_reducible exact Frame.refl _ _
    | (intro x; first
        | (refine Frame.cut (w := m_transitT) (s := s) x ?_ ?_
           on_goal 2 => intro hx; clear_value x
           on_goal 1 => unfold x; clear x)
        | clear_value x
        | skip)
    | lift_lets -underBinder
    | (with_reducible apply Frame.after (fr_toT ..); (on_goal 2 => decide +kernel))
    | dsimp -zeta only
    | split

def m_discipline : Nat := 0x7e00000000000000000400000000000000000000000000000004000b80
theorem fr_discipline (s : State) (sec : Nat) : Frame m_discipline s (State.discipline s sec) := by
  unfold State.discipline
  repeat' first
    | with_reducible assumption
    | with_reducible exact Frame.refl _ _
    | (intro x; first
        | (refine Frame.cut (w := m_discipline) (s := s) x ?_ ?_
           on_goal 2 => intro hx; clear_value x
           on_goal 1 => unfold x; clear x)
        | clear_value x
        | skip)
    | lift_lets -underBinder
    | (with_reducible apply Frame.setBS; (on_goal 2 => decide +kernel))
    | (with_reducible apply Frame.setIS; (on_goal 2 => decide +kernel))
    | (with_reducible apply Frame.incWS; (on_goal 2 => decide +kernel))
    | (with_reducible apply Frame.after (fr_draw ..); (on_goal 2 => decide +kernel))
    | (with_reducible apply Frame.after (fr_report ..); (on_goal 2 => decide +kernel))
    | (with_reducible apply Frame.after (fr_setRtc ..); (on_goal 2 => decide +kernel))
    | dsimp -zeta only
    | split

def m_outEpoch : Nat := 0x18000000000000000000000000000000000000000000000004000300
theorem fr_outEpoch (s : State) (k : Nat) : Frame m_outEpoch s (State.outEpoch s k) := by
  unfold State.outEpoch
  repeat' first
    | with_reducible assumption
    | with_reducible exact Frame.refl _ _
    | (with_reducible exact .inl rfl)
    | exact .inr (by decide +kernel)
    | (intro x; first
        | (refine Frame.cut (w := m_outEpoch) (s := s) x ?_ ?_
           on_goal 2 => intro hx; clear_value x
           on_goal 1 => unfold x; clear x)
        | clear_value x
        | skip)
    | lift_lets -underBinder
    | (with_reducible apply Frame.setBS; (on_goal 2 => decide +kernel))
    | (with_reducible apply Frame.setS; (on_goal 2 => decide +kernel))
    | (with_reducible apply Frame.incS; (on_goal 2 => decide +kernel))
    | (with_reducible apply Frame.after (fr_irqSet ..); (on_goal 2 => decide +kernel))
    | dsimp -zeta only
    | split
    | (rw [mk_put]; with_reducible apply Frame.upd)

def m_utcEpoch : Nat := 0x100000000000000000000000000000000000000000000000000800000
theorem fr_utcEpoch (s : State) (sec : Nat) : Frame m_utcEpoch s (State.utcEpoch s sec) := by
  unfold State.utcEpoch
  repeat' first
    | with_reducible assumption
    | with_reducible exact Frame.refl _ _
    | (with_reducible exact .inl rfl)
    | exact .inr (by decide +kernel)
    | (intro x; first
        | (refine Frame.cut (w := m_utcEpoch) (s := s) x ?_ ?_
           on_goal 2 => intro hx; clear_value x
           on_goal 1 => unfold x; clear x)
        | clear_value x
        | skip)
    | lift_lets -underBinder
    | (with_reducible apply Frame.setBS; (on_goal 2 => decide +kernel))
    | (with_reducible apply Frame.setIS; (on_goal 2 => decide +kernel))
    | (with_reducible apply Frame.setS; (on_goal 2 => decide +kernel))
    | dsimp -zeta only
    | split
    | (rw [mk_put]; with_reducible apply Frame.upd)

def m_effPpsEpoch : Nat := 0x7f380ffdfff00000000400000000000000000000000000000004800b90
theorem fr_effPpsEpoch (freq : List (Nat × Int)) (s : State) : Frame m_effPpsEpoch s (effPpsEpoch freq s) := by
  unfold effPpsEpoch
  repeat' first
    | with_reducible assumption
    | with_reducible exact Frame.refl _ _
    | (with_reducible exact .inl rfl)
    | exact .inr (by decide +kernel)
    | (intro x; first
        | (refine Frame.cut (w := m_effPpsEpoch) (s := s) x ?_ ?_
           on_goal 2 => intro hx; clear_value x
           on_goal 1 => unfold x; clear x)
        | (refine Frame.cut (w := m_effPpsEpoch) (s := s) x.1 ?_ ?_
           on_goal 2 => intro hx; clear_value x
           on_goal 1 => unfold x; clear x)
        | (refine Frame.cut (w := m_effPpsEpoch) (s := s) x.2 ?_ ?_
           on_goal 2 => intro hx; clear_value x
           on_goal 1 => unfold x; clear x)
        | clear_value x
        | skip)
    | lift_lets -underBinder
    | (with_reducible apply Frame.setBS; (on_goal 2 => decide +kernel))
    | (with_reducible apply Frame.after (fr_tchEpoch ..); (on_goal 2 => decide +kernel))
    | (with_reducible apply Frame.after (fr_switchT ..); (on_goal 2 => decide +kernel))
    | (with_reducible apply Frame.after (fr_applyStep ..); (on_goal 2 => decide +kernel))
    | (with_reducible apply Frame.after (fr_transitF ..); (on_goal 2 => decide +kernel))
    | (with_reducible apply Frame.after (fr_measureF ..); (on_goal 2 => decide +kernel))
    | (with_reducible apply Frame.after (fr_utcEpoch ..); (on_goal 2 => decide +kernel))
    | (with_reducible apply Frame.after (fr_showCand ..); (on_goal 2 => decide +kernel))
    | (with_reducible apply Frame.after (fr_setFreq ..); (on_goal 2 => decide +kernel))
    | (with_reducible apply Frame.after (fr_candEpoch ..); (on_goal 2 => decide +kernel))
    | (with_reducible apply Frame.after (fr_switchF ..); (on_goal 2 => decide +kernel))
    | (with_reducible apply Frame.after (fr_outEpoch ..); (on_goal 2 => decide +kernel))
    | (with_reducible apply Frame.after (fr_discipline ..); (on_goal 2 => decide +kernel))
    | (with_reducible apply Frame.after (fr_transitT ..); (on_goal 2 => decide +kernel))
    | (with_reducible apply Frame.after (fr_measureT ..); (on_goal 2 => decide +kernel))
    | (with_reducible apply Frame.forEach; on_goal 2 => intro t a hs)
    | dsimp -zeta only
    | split
    | (rw [mk_put]; with_reducible apply Frame.upd)

def m_effHistoryValid : Nat := 0x8100000000000000000000000000000000000000000800000
theorem fr_effHistoryValid (s : State) : Frame m_effHistoryValid s (effHistoryValid s) := by
  unfold effHistoryValid
  repeat' first
    | with_reducible assumption
    | with_reducible exact Frame.refl _ _
    | (with_reducible exact .inl rfl)
    | exact .inr (by decide +kernel)
    | (intro x; first
        | (refine Frame.cut (w := m_effHistoryValid) (s := s) x ?_ ?_
           on_goal 2 => intro hx; clear_value x
           on_goal 1 => unfold x; clear x)
        | clear_value x
        | skip)
    | lift_lets -underBinder
    | (with_reducible apply Frame.setBS; (on_goal 2 => decide +kernel))
    | (with_reducible apply Frame.setIS; (on_goal 2 => decide +kernel))
    | dsimp -zeta only
    | split
    | (rw [mk_put]; with_reducible apply Frame.upd)

def m_effHoldoverExpiry : Nat := 0x864100000000400000000000000000000000000000004800380
theorem fr_effHoldoverExpiry (time : Bool) (s : State) : Frame m_effHoldoverExpiry s (effHoldoverExpiry time s) := by
  unfold effHoldoverExpiry
  repeat' first
    | with_reducible assumption
    | with_reducible exact Frame.refl _ _
    | lift_lets -underBinder
    | (with_reducible apply Frame.after (fr_toT ..); (on_goal 2 => decide +kernel))
    | (with_reducible apply Frame.after (fr_toF ..); (on_goal 2 => decide +kernel))
    | dsimp -zeta only
    | split

def m_showTap : Nat := 0x10000000000000000000000000000000000000000000000000000000000
theorem fr_showTap (s : State) (n : Nat) : Frame m_showTap s (State.showTap s n) := by
  unfold State.showTap
  repeat' first
    | with_reducible assumption
    | with_reducible exact Frame.refl _ _
    | lift_lets -underBinder
    | (with_reducible apply Frame.setBS; (on_goal 2 => decide +kernel))

def m_timingApplied : Nat := 0x1000000d864100000000400000000000000000000000000000004800380
theorem fr_timingApplied (s : State) (old : List Section) : Frame m_timingApplied s (State.timingApplied s old) := by
  unfold State.timingApplied
  repeat' first
    | with_reducible assumption
    | with_reducible exact Frame.refl _ _
    | (intro x; first
        | (refine Frame.cut (w := m_timingApplied) (s := s) x ?_ ?_
           on_goal 2 => intro hx; clear_value x
           on_goal 1 => unfold x; clear x)
        | clear_value x
        | skip)
    | lift_lets -underBinder
    | (with_reducible apply Frame.setBS; (on_goal 2 => decide +kernel))
    | (with_reducible apply Frame.setS; (on_goal 2 => decide +kernel))
    | (with_reducible apply Frame.after (fr_disqualify ..); (on_goal 2 => decide +kernel))
    | (with_reducible apply Frame.after (fr_showTap ..); (on_goal 2 => decide +kernel))
    | (with_reducible apply Frame.after (fr_toT ..); (on_goal 2 => decide +kernel))
    | (with_reducible apply Frame.after (fr_candLos ..); (on_goal 2 => decide +kernel))
    | (with_reducible apply Frame.after (fr_toF ..); (on_goal 2 => decide +kernel))
    | (with_reducible apply Frame.after (fr_report ..); (on_goal 2 => decide +kernel))
    | (with_reducible apply Frame.after (fr_showCand ..); (on_goal 2 => decide +kernel))
    | (with_reducible apply Frame.after (fr_setCand ..); (on_goal 2 => decide +kernel))
    | (with_reducible apply Frame.forEach; on_goal 2 => intro t a hs)
    | dsimp -zeta only
    | split

def m_resetTime : Nat := 0x1fffffffff00000000000000000000000000000000000000000800000
theorem fr_resetTime (s : State) : Frame m_resetTime s (State.resetTime s) := by
  unfold State.resetTime
  repeat' first
    | with_reducible assumption
    | with_reducible exact Frame.refl _ _
    | (with_reducible exact .inl rfl)
    | exact .inr (by decide +kernel)
    | (intro x; first
        | (refine Frame.cut (w := m_resetTime) (s := s) x ?_ ?_
           on_goal 2 => intro hx; clear_value x
           on_goal 1 => unfold x; clear x)
        | clear_value x
        | skip)
    | lift_lets -underBinder
    | (with_reducible apply Frame.resetRangeS; (on_goal 2 => decide +kernel))
    | (with_reducible apply Frame.setIS; (on_goal 2 => decide +kernel))
    | (with_reducible apply Frame.setS; (on_goal 2 => decide +kernel))
    | (with_reducible apply Frame.after (fr_showCand ..); (on_goal 2 => decide +kernel))
    | (with_reducible apply Frame.after (fr_seedTime ..); (on_goal 2 => decide +kernel))
    | (with_reducible apply Frame.forEach; on_goal 2 => intro t a hs)
    | dsimp -zeta only
    | split
    | (rw [mk_put]; with_reducible apply Frame.upd)

end Sys2Proof.Laws
end

