-- ==== Sys2Proof/Laws/FrameTransfer.lean ====
section
/-!
SUPPORT. Sys2Proof/Laws/FrameTransfer.lean: what each operation of Machine/Transfer.lean leaves unchanged.
-/
namespace Sys2Proof.Laws

set_option Elab.async false
set_option linter.unusedTactic false
set_option linter.unreachableTactic false

open Sys2Proof.Machine

def m_effTchMessageSend : Nat := 0x200000000000000000000000000000000000000000000004804000
theorem fr_effTchMessageSend (k : Nat) (dep : Nat) (s : State) : Frame m_effTchMessageSend s (effTchMessageSend k dep s) := by
  unfold effTchMessageSend
  repeat' first
    | with_reducible assumption
    | with_reducible exact Frame.refl _ _
    | (with_reducible exact .inl rfl)
    | exact .inr (by decide +kernel)
    | (intro x; first
        | (refine Frame.cut (w := m_effTchMessageSend) (s := s) x ?_ ?_
           on_goal 2 => intro hx; clear_value x
           on_goal 1 => unfold x; clear x)
        | clear_value x
        | skip)
    | lift_lets -underBinder
    | (with_reducible apply Frame.setS; (on_goal 2 => decide +kernel))
    | (with_reducible apply Frame.after (fr_setTch ..); (on_goal 2 => decide +kernel))
    | dsimp -zeta only
    | split
    | (rw [mk_put]; with_reducible apply Frame.upd)

def m_tchTake : Nat := 0x100191000000000000000000000000000000000000000000000800000
theorem fr_tchTake (s : State) (e : Entry) (m : List Sys2Proof.Byte) (arr : Nat) : Frame m_tchTake s (State.tchTake s e m arr) := by
  unfold State.tchTake
  repeat' first
    | with_reducible assumption
    | with_reducible exact Frame.refl _ _
    | (intro x; first
        | (refine Frame.cut (w := m_tchTake) (s := s) x ?_ ?_
           on_goal 2 => intro hx; clear_value x
           on_goal 1 => unfold x; clear x)
        | (refine Frame.cut (w := m_tchTake) (s := s) x.1 ?_ ?_
           on_goal 2 => intro hx; clear_value x
           on_goal 1 => unfold x; clear x)
        | (refine Frame.cut (w := m_tchTake) (s := s) x.2 ?_ ?_
           on_goal 2 => intro hx; clear_value x
           on_goal 1 => unfold x; clear x)
        | clear_value x
        | skip)
    | lift_lets -underBinder
    | (with_reducible apply Frame.setBS; (on_goal 2 => decide +kernel))
    | (with_reducible apply Frame.setS; (on_goal 2 => decide +kernel))
    | (with_reducible apply Frame.incS; (on_goal 2 => decide +kernel))
    | (with_reducible apply Frame.after (fr_setTch ..); (on_goal 2 => decide +kernel))
    | (with_reducible apply Frame.after (fr_showCand ..); (on_goal 2 => decide +kernel))
    | (with_reducible apply Frame.after (fr_takeUtc ..); (on_goal 2 => decide +kernel))
    | (with_reducible apply Frame.after (fr_setCand ..); (on_goal 2 => decide +kernel))
    | dsimp -zeta only
    | split

def m_effTchMessageReceived : Nat := 0x100191000000000000000000000000000000000000000000000800000
theorem fr_effTchMessageReceived (k : Nat) (arr : Nat) (s : State) : Frame m_effTchMessageReceived s (effTchMessageReceived k arr s) := by
  unfold effTchMessageReceived
  repeat' first
    | with_reducible assumption
    | with_reducible exact Frame.refl _ _
    | lift_lets -underBinder
    | (with_reducible apply Frame.setBS; (on_goal 2 => decide +kernel))
    | (with_reducible apply Frame.incS; (on_goal 2 => decide +kernel))
    | (with_reducible apply Frame.after (fr_tchTake ..); (on_goal 2 => decide +kernel))
    | dsimp -zeta only
    | split

def m_routeCheck : Nat := 0x10000000000000000000000000000000000000000000000000000
theorem fr_routeCheck (s : State) : Frame m_routeCheck s (State.routeCheck s) := by
  unfold State.routeCheck
  repeat' first
    | with_reducible assumption
    | with_reducible exact Frame.refl _ _
    | lift_lets -underBinder
    | (with_reducible apply Frame.setBS; (on_goal 2 => decide +kernel))
    | (with_reducible apply Frame.forEach; on_goal 2 => intro t a hs)
    | dsimp -zeta only
    | split

def m_timexferApplied : Nat := 0x80419864100000000400000000000000000000000000000004800380
theorem fr_timexferApplied (s : State) (old : List Section) : Frame m_timexferApplied s (State.timexferApplied s old) := by
  unfold State.timexferApplied
  repeat' first
    | with_reducible assumption
    | with_reducible exact Frame.refl _ _
    | (intro x; first
        | (refine Frame.cut (w := m_timexferApplied) (s := s) x ?_ ?_
           on_goal 2 => intro hx; clear_value x
           on_goal 1 => unfold x; clear x)
        | clear_value x
        | skip)
    | lift_lets -underBinder
    | (with_reducible apply Frame.setBS; (on_goal 2 => decide +kernel))
    | (with_reducible apply Frame.setS; (on_goal 2 => decide +kernel))
    | (with_reducible apply Frame.after (fr_setTch ..); (on_goal 2 => decide +kernel))
    | (with_reducible apply Frame.after (fr_candLos ..); (on_goal 2 => decide +kernel))
    | (with_reducible apply Frame.forEach; on_goal 2 => intro t a hs)
    | dsimp -zeta only
    | split

def m_effTodSentenceSend : Nat := 0x4000000
theorem fr_effTodSentenceSend (k : Nat) (s : State) : Frame m_effTodSentenceSend s (effTodSentenceSend k s) := by
  unfold effTodSentenceSend
  repeat' first
    | with_reducible assumption
    | with_reducible exact Frame.refl _ _
    | (with_reducible exact .inl rfl)
    | exact .inr (by decide +kernel)
    | (intro x; first
        | (refine Frame.cut (w := m_effTodSentenceSend) (s := s) x ?_ ?_
           on_goal 2 => intro hx; clear_value x
           on_goal 1 => unfold x; clear x)
        | clear_value x
        | skip)
    | lift_lets -underBinder
    | dsimp -zeta only
    | split
    | (rw [mk_put]; with_reducible apply Frame.upd)

def m_effTodSentenceReceived : Nat := 0x160001000000000000000000000000000000000000000000000800000
theorem fr_effTodSentenceReceived (k : Nat) (first : Nat) (baud : Nat) (l : List Sys2Proof.Byte) (s : State) : Frame m_effTodSentenceReceived s (effTodSentenceReceived k first baud l s) := by
  unfold effTodSentenceReceived
  repeat' first
    | with_reducible assumption
    | with_reducible exact Frame.refl _ _
    | (with_reducible exact .inl rfl)
    | exact .inr (by decide +kernel)
    | (intro x; first
        | (refine Frame.cut (w := m_effTodSentenceReceived) (s := s) x ?_ ?_
           on_goal 2 => intro hx; clear_value x
           on_goal 1 => unfold x; clear x)
        | clear_value x
        | skip)
    | lift_lets -underBinder
    | (with_reducible apply Frame.setBS; (on_goal 2 => decide +kernel))
    | (with_reducible apply Frame.setIS; (on_goal 2 => decide +kernel))
    | (with_reducible apply Frame.setS; (on_goal 2 => decide +kernel))
    | (with_reducible apply Frame.incS; (on_goal 2 => decide +kernel))
    | (with_reducible apply Frame.after (fr_showCand ..); (on_goal 2 => decide +kernel))
    | (with_reducible apply Frame.after (fr_takeUtc ..); (on_goal 2 => decide +kernel))
    | (with_reducible apply Frame.after (fr_setCand ..); (on_goal 2 => decide +kernel))
    | (with_reducible apply Frame.forEach; on_goal 2 => intro t a hs)
    | dsimp -zeta only
    | split
    | (rw [mk_put]; with_reducible apply Frame.upd)

def m_effPtpIngressCorrect : Nat := 0x4000000000000000000000000000000000000000000000004000000
theorem fr_effPtpIngressCorrect (c : Nat) (mate : Option Nat) (wait : Nat) (m : List Sys2Proof.Byte) (s : State) : Frame m_effPtpIngressCorrect s (effPtpIngressCorrect c mate wait m s) := by
  unfold effPtpIngressCorrect
  repeat' first
    | with_reducible assumption
    | with_reducible exact Frame.refl _ _
    | (with_reducible exact .inl rfl)
    | exact .inr (by decide +kernel)
    | (intro x; first
        | (refine Frame.cut (w := m_effPtpIngressCorrect) (s := s) x ?_ ?_
           on_goal 2 => intro hx; clear_value x
           on_goal 1 => unfold x; clear x)
        | clear_value x
        | skip)
    | lift_lets -underBinder
    | (with_reducible apply Frame.incS; (on_goal 2 => decide +kernel))
    | dsimp -zeta only
    | split
    | (rw [mk_put]; with_reducible apply Frame.upd)

def m_effPtpEgressCorrect : Nat := 0x7800000000000000000000000000000000000000000000004000000
theorem fr_effPtpEgressCorrect (slot : Nat) (x : Sys2Proof.EgressIn) (m : List Sys2Proof.Byte) (s : State) : Frame m_effPtpEgressCorrect s (effPtpEgressCorrect slot x m s) := by
  unfold effPtpEgressCorrect
  repeat' first
    | with_reducible assumption
    | with_reducible exact Frame.refl _ _
    | (with_reducible exact .inl rfl)
    | exact .inr (by decide +kernel)
    | (intro x; first
        | (refine Frame.cut (w := m_effPtpEgressCorrect) (s := s) x ?_ ?_
           on_goal 2 => intro hx; clear_value x
           on_goal 1 => unfold x; clear x)
        | clear_value x
        | skip)
    | lift_lets -underBinder
    | (with_reducible apply Frame.incS; (on_goal 2 => decide +kernel))
    | dsimp -zeta only
    | split
    | (rw [mk_put]; with_reducible apply Frame.upd)

def m_effRtcHoldEnd : Nat := 0x200000000000000000000000000000000000000000000000000000000
theorem fr_effRtcHoldEnd (s : State) : Frame m_effRtcHoldEnd s (effRtcHoldEnd s) := by
  unfold effRtcHoldEnd
  repeat' first
    | with_reducible assumption
    | with_reducible exact Frame.refl _ _
    | lift_lets -underBinder
    | (with_reducible apply Frame.setBS; (on_goal 2 => decide +kernel))

def m_effRtcXtalFail : Nat := 0x200000000000000000400000000000000000000000000000004000380
theorem fr_effRtcXtalFail (s : State) : Frame m_effRtcXtalFail s (effRtcXtalFail s) := by
  unfold effRtcXtalFail
  repeat' first
    | with_reducible assumption
    | with_reducible exact Frame.refl _ _
    | (intro x; first
        | (refine Frame.cut (w := m_effRtcXtalFail) (s := s) x ?_ ?_
           on_goal 2 => intro hx; clear_value x
           on_goal 1 => unfold x; clear x)
        | clear_value x
        | skip)
    | lift_lets -underBinder
    | (with_reducible apply Frame.setBS; (on_goal 2 => decide +kernel))
    | (with_reducible apply Frame.after (fr_report ..); (on_goal 2 => decide +kernel))
    | dsimp -zeta only
    | split

end Sys2Proof.Laws
end

