-- ==== Sys2Proof/Laws/FramePower.lean ====
section
/-!
SUPPORT. Sys2Proof/Laws/FramePower.lean: what each operation of Machine/Power.lean leaves unchanged.
-/
namespace Sys2Proof.Laws

set_option Elab.async false
set_option linter.unusedTactic false
set_option linter.unreachableTactic false

open Sys2Proof.Machine

def m_semFree : Nat := 0x100000000000000000000000000000
theorem fr_semFree (s : State) (m : Nat) (n : Nat) : Frame m_semFree s (State.semFree s m n) := by
  unfold State.semFree
  repeat' first
    | with_reducible assumption
    | with_reducible exact Frame.refl _ _
    | lift_lets -underBinder
    | (with_reducible apply Frame.setBS; (on_goal 2 => decide +kernel))
    | (with_reducible apply Frame.setS; (on_goal 2 => decide +kernel))
    | dsimp -zeta only
    | split

def m_semFreeAll : Nat := 0x100000000000000000000000000000
theorem fr_semFreeAll (s : State) (m : Nat) : Frame m_semFreeAll s (State.semFreeAll s m) := by
  unfold State.semFreeAll
  repeat' first
    | with_reducible assumption
    | with_reducible exact Frame.refl _ _
    | lift_lets -underBinder
    | (with_reducible apply Frame.after (fr_semFree ..); (on_goal 2 => decide +kernel))
    | (with_reducible apply Frame.forEach; on_goal 2 => intro t a hs)

def m_setLock : Nat := 0x200000
theorem fr_setLock (s : State) (m : Nat) (v : Option LockSt) : Frame m_setLock s (State.setLock s m v) := by
  unfold State.setLock
  repeat' first
    | with_reducible assumption
    | with_reducible exact Frame.refl _ _
    | (with_reducible exact .inl rfl)
    | exact .inr (by decide +kernel)
    | (intro x; first
        | (refine Frame.cut (w := m_setLock) (s := s) x ?_ ?_
           on_goal 2 => intro hx; clear_value x
           on_goal 1 => unfold x; clear x)
        | clear_value x
        | skip)
    | lift_lets -underBinder
    | dsimp -zeta only
    | split
    | (rw [mk_put]; with_reducible apply Frame.upd)

def m_masterReset : Nat := 0x100000000000000000000000200000
theorem fr_masterReset (s : State) (m : Nat) : Frame m_masterReset s (State.masterReset s m) := by
  unfold State.masterReset
  repeat' first
    | with_reducible assumption
    | with_reducible exact Frame.refl _ _
    | lift_lets -underBinder
    | (with_reducible apply Frame.after (fr_semFreeAll ..); (on_goal 2 => decide +kernel))
    | (with_reducible apply Frame.after (fr_setLock ..); (on_goal 2 => decide +kernel))

def m_resetCtx : Nat := 0x400000000000000000008030
theorem fr_resetCtx (s : State) (d : Nat) : Frame m_resetCtx s (State.resetCtx s d) := by
  unfold State.resetCtx
  repeat' first
    | with_reducible assumption
    | with_reducible exact Frame.refl _ _
    | (with_reducible exact .inl rfl)
    | exact .inr (by decide +kernel)
    | (intro x; first
        | (refine Frame.cut (w := m_resetCtx) (s := s) x ?_ ?_
           on_goal 2 => intro hx; clear_value x
           on_goal 1 => unfold x; clear x)
        | clear_value x
        | skip)
    | lift_lets -underBinder
    | (with_reducible apply Frame.after (fr_forgetFaults ..); (on_goal 2 => decide +kernel))
    | dsimp -zeta only
    | split
    | (rw [mk_put]; with_reducible apply Frame.upd)

def m_loseHqMiddle : Nat := 0x400400000000000000000000000000000004000380
theorem fr_loseHqMiddle (s : State) (q : Nat) : Frame m_loseHqMiddle s (State.loseHqMiddle s q) := by
  unfold State.loseHqMiddle
  repeat' first
    | with_reducible assumption
    | with_reducible exact Frame.refl _ _
    | (intro x; first
        | (refine Frame.cut (w := m_loseHqMiddle) (s := s) x ?_ ?_
           on_goal 2 => intro hx; clear_value x
           on_goal 1 => unfold x; clear x)
        | clear_value x
        | skip)
    | lift_lets -underBinder
    | (with_reducible apply Frame.after (fr_hqDiscard ..); (on_goal 2 => decide +kernel))
    | (with_reducible apply Frame.after (fr_setHq ..); (on_goal 2 => decide +kernel))

def m_ddrLost : Nat := 0x40140000000000000000b800000000000006010390
theorem fr_ddrLost (s : State) : Frame m_ddrLost s (State.ddrLost s) := by
  unfold State.ddrLost
  repeat' first
    | with_reducible assumption
    | with_reducible exact Frame.refl _ _
    | (with_reducible exact .inl rfl)
    | exact .inr (by decide +kernel)
    | exact .inr ⟨by decide +kernel, twf_filter _ _ _⟩
    | (intro x; first
        | (refine Frame.cut (w := m_ddrLost) (s := s) x ?_ ?_
           on_goal 2 => intro hx; clear_value x
           on_goal 1 => unfold x; clear x)
        | clear_value x
        | skip)
    | lift_lets -underBinder
    | (with_reducible apply Frame.after (fr_unheld ..); (on_goal 2 => decide +kernel))
    | (with_reducible apply Frame.after (fr_loseHqMiddle ..); (on_goal 2 => decide +kernel))
    | (with_reducible apply Frame.after (fr_showMerges ..); (on_goal 2 => decide +kernel))
    | (with_reducible apply Frame.forEach; on_goal 2 => intro t a hs)
    | dsimp -zeta only
    | split
    | (rw [mk_put]; with_reducible apply Frame.upd)

def m_loseTwigQueues : Nat := 0xb800000000000004010300
theorem fr_loseTwigQueues (s : State) : Frame m_loseTwigQueues s (State.loseTwigQueues s) := by
  unfold State.loseTwigQueues
  repeat' first
    | with_reducible assumption
    | with_reducible exact Frame.refl _ _
    | (intro x; first
        | (refine Frame.cut (w := m_loseTwigQueues) (s := s) x ?_ ?_
           on_goal 2 => intro hx; clear_value x
           on_goal 1 => unfold x; clear x)
        | clear_value x
        | skip)
    | lift_lets -underBinder
    | (with_reducible apply Frame.after (fr_settleMerge ..); (on_goal 2 => decide +kernel))
    | (with_reducible apply Frame.after (fr_setEvgMerge ..); (on_goal 2 => decide +kernel))
    | (with_reducible apply Frame.forEach; on_goal 2 => intro t a hs)

theorem fr_resetRegs {v : Nat} {s x : State} {l : List Nat} (h : Frame v s x) (hb : v.testBit 29 = true)
    (hl : v.testBit 0 = true) (hg : v.testBit 1 = true) : Frame v s (x.resetRegs l) := by
  unfold State.resetRegs
  extract_lets keep
  have h1 := h.regsAny hb (twf_filter resetWord keep x.regs)
  rw [mk_put]
  apply Frame.upd h1 <;> first | exact .inl rfl | exact .inr hl | exact .inr hg

def m_resetDomain : Nat := 0x100003000000000000000040140000000010000040b80400000000002621c3fb
theorem fr_resetDomain (s : State) (d : Nat) : Frame m_resetDomain s (State.resetDomain s d) := by
  unfold State.resetDomain
  repeat' first
    | with_reducible assumption
    | with_reducible exact Frame.refl _ _
    | (with_reducible exact .inl rfl)
    | exact .inr (by decide +kernel)
    | (intro x; first
        | (refine Frame.cut (w := m_resetDomain) (s := s) x ?_ ?_
           on_goal 2 => intro hx; clear_value x
           on_goal 1 => unfold x; clear x)
        | clear_value x
        | skip)
    | lift_lets -underBinder
    | (with_reducible apply fr_resetRegs; (on_goal 2 => decide +kernel); (on_goal 2 => decide +kernel); (on_goal 2 => decide +kernel))
    | (with_reducible apply Frame.after (fr_showTap ..); (on_goal 2 => decide +kernel))
    | (with_reducible apply Frame.after (fr_laneDisable ..); (on_goal 2 => decide +kernel))
    | (with_reducible apply Frame.after (fr_masterReset ..); (on_goal 2 => decide +kernel))
    | (with_reducible apply Frame.after (fr_loseTwigQueues ..); (on_goal 2 => decide +kernel))
    | (with_reducible apply Frame.after (fr_resetCtx ..); (on_goal 2 => decide +kernel))
    | (with_reducible apply Frame.after (fr_ddrLost ..); (on_goal 2 => decide +kernel))
    | (with_reducible apply Frame.after (fr_showSquelch ..); (on_goal 2 => decide +kernel))
    | (with_reducible apply Frame.forEach; on_goal 2 => intro t a hs)
    | dsimp -zeta only
    | split
    | (rw [mk_put]; with_reducible apply Frame.upd)

def m_powerStep : Nat := 0x800000000010000000000000000000000000000000000000000000000000000000000
theorem fr_powerStep (s : State) : Frame m_powerStep s (State.powerStep s) := by
  unfold State.powerStep
  repeat' first
    | with_reducible assumption
    | with_reducible exact Frame.refl _ _
    | (intro x; first
        | (refine Frame.cut (w := m_powerStep) (s := s) x ?_ ?_
           on_goal 2 => intro hx; clear_value x
           on_goal 1 => unfold x; clear x)
        | clear_value x
        | skip)
    | lift_lets -underBinder
    | (with_reducible apply Frame.setBS; (on_goal 2 => decide +kernel))
    | (with_reducible apply Frame.setS; (on_goal 2 => decide +kernel))
    | (with_reducible apply Frame.after (fr_showSquelchAll ..); (on_goal 2 => decide +kernel))
    | (with_reducible apply Frame.forEach; on_goal 2 => intro t a hs)

def m_setWants : Nat := 0x800000000010000000000000000000000000000000000000000000000000000020000
theorem fr_setWants (s : State) : Frame m_setWants s (State.setWants s) := by
  unfold State.setWants
  repeat' first
    | with_reducible assumption
    | with_reducible exact Frame.refl _ _
    | (with_reducible exact .inl rfl)
    | exact .inr (by decide +kernel)
    | (intro x; first
        | (refine Frame.cut (w := m_setWants) (s := s) x ?_ ?_
           on_goal 2 => intro hx; clear_value x
           on_goal 1 => unfold x; clear x)
        | (refine Frame.cut (w := m_setWants) (s := s) x.1 ?_ ?_
           on_goal 2 => intro hx; clear_value x
           on_goal 1 => unfold x; clear x)
        | (refine Frame.cut (w := m_setWants) (s := s) x.2 ?_ ?_
           on_goal 2 => intro hx; clear_value x
           on_goal 1 => unfold x; clear x)
        | skip)
    | lift_lets -underBinder
    | (with_reducible apply Frame.setBS; (on_goal 2 => decide +kernel))
    | (with_reducible apply Frame.after (fr_powerStep ..); (on_goal 2 => decide +kernel))
    | (with_reducible apply Frame.forEach; on_goal 2 => intro t a hs)
    | dsimp -zeta only
    | split
    | (rw [mk_put]; with_reducible apply Frame.upd)

def m_domainOn : Nat := 0xc80bc00001000000000000000000040000000000000000b80058000000000401c3b8
theorem fr_domainOn (s : State) (d : Nat) : Frame m_domainOn s (State.domainOn s d) := by
  unfold State.domainOn
  repeat' first
    | with_reducible assumption
    | with_reducible exact Frame.refl _ _
    | (intro x; first
        | (refine Frame.cut (w := m_domainOn) (s := s) x ?_ ?_
           on_goal 2 => intro hx; clear_value x
           on_goal 1 => unfold x; clear x)
        | clear_value x
        | skip)
    | lift_lets -underBinder
    | (with_reducible apply Frame.setBS; (on_goal 2 => decide +kernel))
    | (with_reducible apply Frame.setS; (on_goal 2 => decide +kernel))
    | (with_reducible apply Frame.after (fr_lanePower ..); (on_goal 2 => decide +kernel))
    | (with_reducible apply Frame.after (fr_settle ..); (on_goal 2 => decide +kernel))
    | (with_reducible apply Frame.forEach; on_goal 2 => intro t a hs)
    | dsimp -zeta only
    | split

def m_effPwrDomainTransitionDone : Nat := 0x8c80bd00003000000000000000040140000000010000040b80458000000002621c3fb
theorem fr_effPwrDomainTransitionDone (d : Nat) (us : Nat) (s : State) : Frame m_effPwrDomainTransitionDone s (effPwrDomainTransitionDone d us s) := by
  unfold effPwrDomainTransitionDone
  repeat' first
    | with_reducible assumption
    | with_reducible exact Frame.refl _ _
    | (intro x; first
        | (refine Frame.cut (w := m_effPwrDomainTransitionDone) (s := s) x ?_ ?_
           on_goal 2 => intro hx; clear_value x
           on_goal 1 => unfold x; clear x)
        | clear_value x
        | skip)
    | lift_lets -underBinder
    | (with_reducible apply Frame.setS; (on_goal 2 => decide +kernel))
    | (with_reducible apply Frame.incWS; (on_goal 2 => decide +kernel))
    | (with_reducible apply Frame.after (fr_powerStep ..); (on_goal 2 => decide +kernel))
    | (with_reducible apply Frame.after (fr_resetDomain ..); (on_goal 2 => decide +kernel))
    | (with_reducible apply Frame.after (fr_report ..); (on_goal 2 => decide +kernel))
    | (with_reducible apply Frame.after (fr_settle ..); (on_goal 2 => decide +kernel))
    | (with_reducible apply Frame.after (fr_domainOn ..); (on_goal 2 => decide +kernel))
    | dsimp -zeta only
    | split

def m_effPwrSeqFault : Nat := 0x8080bd00003000000000000000040140000000010000040b80458000000002623c3fb
theorem fr_effPwrSeqFault (d : Nat) (s : State) : Frame m_effPwrSeqFault s (effPwrSeqFault d s) := by
  unfold effPwrSeqFault
  repeat' first
    | with_reducible assumption
    | with_reducible exact Frame.refl _ _
    | (with_reducible exact .inl rfl)
    | exact .inr (by decide +kernel)
    | (intro x; first
        | (refine Frame.cut (w := m_effPwrSeqFault) (s := s) x ?_ ?_
           on_goal 2 => intro hx; clear_value x
           on_goal 1 => unfold x; clear x)
        | skip)
    | lift_lets -underBinder
    | (with_reducible apply Frame.setBS; (on_goal 2 => decide +kernel))
    | (with_reducible apply Frame.setS; (on_goal 2 => decide +kernel))
    | (with_reducible apply Frame.after (fr_powerStep ..); (on_goal 2 => decide +kernel))
    | (with_reducible apply Frame.after (fr_resetDomain ..); (on_goal 2 => decide +kernel))
    | (with_reducible apply Frame.after (fr_report ..); (on_goal 2 => decide +kernel))
    | (with_reducible apply Frame.after (fr_settle ..); (on_goal 2 => decide +kernel))
    | dsimp -zeta only
    | split
    | (rw [mk_put]; with_reducible apply Frame.upd)

def m_ddrConfig : Nat := 0x40000000000000000000000000000000000000000000000000000000000000000000
theorem fr_ddrConfig (s : State) : Frame m_ddrConfig s (State.ddrConfig s) := by
  unfold State.ddrConfig
  repeat' first
    | with_reducible assumption
    | with_reducible exact Frame.refl _ _
    | (intro x; first
        | (refine Frame.cut (w := m_ddrConfig) (s := s) x ?_ ?_
           on_goal 2 => intro hx; clear_value x
           on_goal 1 => unfold x; clear x)
        | clear_value x
        | skip)
    | lift_lets -underBinder
    | (with_reducible apply Frame.setS; (on_goal 2 => decide +kernel))

def m_effDdrTrainingComplete : Nat := 0xc000000000000000000000000040140000000000000000b800000000000006030390
theorem fr_effDdrTrainingComplete (ms : Nat) (bad : List (Nat × Nat × Nat)) (s : State) : Frame m_effDdrTrainingComplete s (effDdrTrainingComplete ms bad s) := by
  unfold effDdrTrainingComplete
  repeat' first
    | with_reducible assumption
    | with_reducible exact Frame.refl _ _
    | (with_reducible exact .inl rfl)
    | exact .inr (by decide +kernel)
    | (intro x; first
        | (refine Frame.cut (w := m_effDdrTrainingComplete) (s := s) x ?_ ?_
           on_goal 2 => intro hx; clear_value x
           on_goal 1 => unfold x; clear x)
        | (refine Frame.cut (w := m_effDdrTrainingComplete) (s := s) x.1 ?_ ?_
           on_goal 2 => intro hx; clear_value x
           on_goal 1 => unfold x; clear x)
        | (refine Frame.cut (w := m_effDdrTrainingComplete) (s := s) x.2 ?_ ?_
           on_goal 2 => intro hx; clear_value x
           on_goal 1 => unfold x; clear x)
        | skip)
    | lift_lets -underBinder
    | (with_reducible apply Frame.setS; (on_goal 2 => decide +kernel))
    | (with_reducible apply Frame.after (fr_report ..); (on_goal 2 => decide +kernel))
    | (with_reducible apply Frame.after (fr_ddrLost ..); (on_goal 2 => decide +kernel))
    | (with_reducible apply Frame.forEach; on_goal 2 => intro t a hs)
    | dsimp -zeta only
    | split
    | (rw [mk_put]; with_reducible apply Frame.upd)

def m_effDdrRetrain : Nat := 0xc0000000000000000000000000000000000000000000000000000000000000020000
theorem fr_effDdrRetrain (s : State) : Frame m_effDdrRetrain s (effDdrRetrain s) := by
  unfold effDdrRetrain
  repeat' first
    | with_reducible assumption
    | with_reducible exact Frame.refl _ _
    | (with_reducible exact .inl rfl)
    | exact .inr (by decide +kernel)
    | (intro x; first
        | (refine Frame.cut (w := m_effDdrRetrain) (s := s) x ?_ ?_
           on_goal 2 => intro hx; clear_value x
           on_goal 1 => unfold x; clear x)
        | skip)
    | lift_lets -underBinder
    | (with_reducible apply Frame.setS; (on_goal 2 => decide +kernel))
    | (with_reducible apply Frame.incS; (on_goal 2 => decide +kernel))
    | (with_reducible apply Frame.forEach; on_goal 2 => intro t a hs)
    | dsimp -zeta only
    | split
    | (rw [mk_put]; with_reducible apply Frame.upd)

def m_channelDown : Nat := 0xc000000000000000000000000040140000000000000000b800000000000006010390
theorem fr_channelDown (s : State) (c : Nat) : Frame m_channelDown s (State.channelDown s c) := by
  unfold State.channelDown
  repeat' first
    | with_reducible assumption
    | with_reducible exact Frame.refl _ _
    | (intro x; first
        | (refine Frame.cut (w := m_channelDown) (s := s) x ?_ ?_
           on_goal 2 => intro hx; clear_value x
           on_goal 1 => unfold x; clear x)
        | clear_value x
        | skip)
    | lift_lets -underBinder
    | (with_reducible apply Frame.setS; (on_goal 2 => decide +kernel))
    | (with_reducible apply Frame.after (fr_report ..); (on_goal 2 => decide +kernel))
    | (with_reducible apply Frame.after (fr_ddrLost ..); (on_goal 2 => decide +kernel))

def m_ddrUncorr : Nat := 0x7c000000000000000000000000040140000000000000000b800000000000006210390
theorem fr_ddrUncorr (s : State) (a : Nat) (port : Nat) : Frame m_ddrUncorr s (State.ddrUncorr s a port) := by
  unfold State.ddrUncorr
  repeat' first
    | with_reducible assumption
    | with_reducible exact Frame.refl _ _
    | (with_reducible exact .inl rfl)
    | exact .inr (by decide +kernel)
    | (intro x; first
        | (refine Frame.cut (w := m_ddrUncorr) (s := s) x ?_ ?_
           on_goal 2 => intro hx; clear_value x
           on_goal 1 => unfold x; clear x)
        | (refine Frame.cut (w := m_ddrUncorr) (s := s) x.1 ?_ ?_
           on_goal 2 => intro hx; clear_value x
           on_goal 1 => unfold x; clear x)
        | (refine Frame.cut (w := m_ddrUncorr) (s := s) x.2 ?_ ?_
           on_goal 2 => intro hx; clear_value x
           on_goal 1 => unfold x; clear x)
        | clear_value x
        | skip)
    | lift_lets -underBinder
    | (with_reducible apply Frame.set64S; (on_goal 2 => decide +kernel); (on_goal 2 => decide +kernel))
    | (with_reducible apply Frame.incS; (on_goal 2 => decide +kernel))
    | (with_reducible apply Frame.after (fr_report ..); (on_goal 2 => decide +kernel))
    | (with_reducible apply Frame.after (fr_channelDown ..); (on_goal 2 => decide +kernel))
    | dsimp -zeta only
    | split
    | (rw [mk_put]; with_reducible apply Frame.upd)

def m_ddrCorr : Nat := 0x100000000000000000000000000000000000000000000000000000000000000020200
theorem fr_ddrCorr (s : State) (c : Nat) (n : Nat) : Frame m_ddrCorr s (State.ddrCorr s c n) := by
  unfold State.ddrCorr
  repeat' first
    | with_reducible assumption
    | with_reducible exact Frame.refl _ _
    | (with_reducible exact .inl rfl)
    | exact .inr (by decide +kernel)
    | (intro x; first
        | (refine Frame.cut (w := m_ddrCorr) (s := s) x ?_ ?_
           on_goal 2 => intro hx; clear_value x
           on_goal 1 => unfold x; clear x)
        | skip)
    | lift_lets -underBinder
    | (with_reducible apply Frame.incS; (on_goal 2 => decide +kernel))
    | (with_reducible apply Frame.after (fr_count ..); (on_goal 2 => decide +kernel))
    | dsimp -zeta only
    | split
    | (rw [mk_put]; with_reducible apply Frame.upd)

def m_effDdrPatrolScrub : Nat := 0x7c000000000000000000000000040140000000000000000b800000000000006230390
theorem fr_effDdrPatrolScrub (corr : List (Nat × Nat)) (ue : List Nat) (s : State) : Frame m_effDdrPatrolScrub s (effDdrPatrolScrub corr ue s) := by
  unfold effDdrPatrolScrub
  repeat' first
    | with_reducible assumption
    | with_reducible exact Frame.refl _ _
    | (intro x; first
        | (refine Frame.cut (w := m_effDdrPatrolScrub) (s := s) x ?_ ?_
           on_goal 2 => intro hx; clear_value x
           on_goal 1 => unfold x; clear x)
        | (refine Frame.cut (w := m_effDdrPatrolScrub) (s := s) x.1 ?_ ?_
           on_goal 2 => intro hx; clear_value x
           on_goal 1 => unfold x; clear x)
        | (refine Frame.cut (w := m_effDdrPatrolScrub) (s := s) x.2 ?_ ?_
           on_goal 2 => intro hx; clear_value x
           on_goal 1 => unfold x; clear x)
        | clear_value x
        | skip)
    | lift_lets -underBinder
    | (with_reducible apply Frame.after (fr_ddrUncorr ..); (on_goal 2 => decide +kernel))
    | (with_reducible apply Frame.after (fr_ddrCorr ..); (on_goal 2 => decide +kernel))
    | (with_reducible apply Frame.forEach; on_goal 2 => intro t a hs)
    | dsimp -zeta only
    | split

def m_effDdrEccCorr : Nat := 0x400000000000000000000000000000004020380
theorem fr_effDdrEccCorr (s : State) : Frame m_effDdrEccCorr s (effDdrEccCorr s) := by
  unfold effDdrEccCorr
  repeat' first
    | with_reducible assumption
    | with_reducible exact Frame.refl _ _
    | (with_reducible exact .inl rfl)
    | exact .inr (by decide +kernel)
    | (intro x; first
        | (refine Frame.cut (w := m_effDdrEccCorr) (s := s) x ?_ ?_
           on_goal 2 => intro hx; clear_value x
           on_goal 1 => unfold x; clear x)
        | (refine Frame.cut (w := m_effDdrEccCorr) (s := s) x.1 ?_ ?_
           on_goal 2 => intro hx; clear_value x
           on_goal 1 => unfold x; clear x)
        | (refine Frame.cut (w := m_effDdrEccCorr) (s := s) x.2 ?_ ?_
           on_goal 2 => intro hx; clear_value x
           on_goal 1 => unfold x; clear x)
        | skip)
    | lift_lets -underBinder
    | (with_reducible apply Frame.after (fr_report ..); (on_goal 2 => decide +kernel))
    | (with_reducible apply Frame.forEach; on_goal 2 => intro t a hs)
    | dsimp -zeta only
    | split
    | (rw [mk_put]; with_reducible apply Frame.upd)

def m_effDdrRefresh : Nat := 0x0
theorem fr_effDdrRefresh (s : State) : Frame m_effDdrRefresh s (effDdrRefresh s) := by
  unfold effDdrRefresh
  repeat' first
    | with_reducible assumption
    | with_reducible exact Frame.refl _ _

def m_effDdrDqsRecentre : Nat := 0x0
theorem fr_effDdrDqsRecentre (s : State) : Frame m_effDdrDqsRecentre s (effDdrDqsRecentre s) := by
  unfold effDdrDqsRecentre
  repeat' first
    | with_reducible assumption
    | with_reducible exact Frame.refl _ _

def m_effJunctionTempThreshold : Nat := 0x400000000000000000000000000000004020380
theorem fr_effJunctionTempThreshold (t : Int) (s : State) : Frame m_effJunctionTempThreshold s (effJunctionTempThreshold t s) := by
  unfold effJunctionTempThreshold
  repeat' first
    | with_reducible assumption
    | with_reducible exact Frame.refl _ _
    | (with_reducible exact .inl rfl)
    | exact .inr (by decide +kernel)
    | (intro x; first
        | (refine Frame.cut (w := m_effJunctionTempThreshold) (s := s) x ?_ ?_
           on_goal 2 => intro hx; clear_value x
           on_goal 1 => unfold x; clear x)
        | skip)
    | lift_lets -underBinder
    | (with_reducible apply Frame.after (fr_report ..); (on_goal 2 => decide +kernel))
    | dsimp -zeta only
    | split
    | (rw [mk_put]; with_reducible apply Frame.upd)

end Sys2Proof.Laws
end

