-- ==== Sys2Proof/Laws/FrameLoader.lean ====
section
/-!
SUPPORT. Sys2Proof/Laws/FrameLoader.lean: what each operation of Machine/Loader.lean leaves unchanged.
-/
namespace Sys2Proof.Laws

set_option Elab.async false
set_option linter.unusedTactic false
set_option linter.unreachableTactic false

open Sys2Proof.Machine

def m_putFlash : Nat := 0x1000000
theorem fr_putFlash (s : State) (cs : Nat) (off : Nat) (l : List Sys2Proof.Byte) : Frame m_putFlash s (State.putFlash s cs off l) := by
  unfold State.putFlash
  repeat' first
    | with_reducible assumption
    | with_reducible exact Frame.refl _ _
    | (with_reducible exact .inl rfl)
    | exact .inr (by decide +kernel)
    | exact .inr ⟨by decide +kernel, twf_filter _ _ _⟩
    | exact .inr ⟨by decide +kernel, twf_tset _ _ _ _⟩
    | exact .inr ⟨by decide +kernel, twf_foldl _ _ _ _⟩
    | lift_lets -underBinder
    | dsimp -zeta only
    | split
    | (rw [mk_put]; with_reducible apply Frame.upd)

def m_eraseFlash : Nat := 0x1000000
theorem fr_eraseFlash (s : State) (cs : Nat) (a : Nat) (b : Nat) : Frame m_eraseFlash s (State.eraseFlash s cs a b) := by
  unfold State.eraseFlash
  repeat' first
    | with_reducible assumption
    | with_reducible exact Frame.refl _ _
    | (with_reducible exact .inl rfl)
    | exact .inr (by decide +kernel)
    | exact .inr ⟨by decide +kernel, twf_filter _ _ _⟩
    | lift_lets -underBinder
    | dsimp -zeta only
    | split
    | (rw [mk_put]; with_reducible apply Frame.upd)

def m_putDir : Nat := 0x1000000
theorem fr_putDir (s : State) (cs : Nat) (d : Dir) : Frame m_putDir s (State.putDir s cs d) := by
  unfold State.putDir
  repeat' first
    | with_reducible assumption
    | with_reducible exact Frame.refl _ _
    | (intro x; first
        | (refine Frame.cut (w := m_putDir) (s := s) x ?_ ?_
           on_goal 2 => intro hx; clear_value x
           on_goal 1 => unfold x; clear x)
        | clear_value x
        | skip)
    | lift_lets -underBinder
    | (with_reducible apply Frame.after (fr_putFlash ..); (on_goal 2 => decide +kernel))
    | (with_reducible apply Frame.after (fr_eraseFlash ..); (on_goal 2 => decide +kernel))

def m_markSlot : Nat := 0x1000000
theorem fr_markSlot (s : State) (cs : Nat) (k : Nat) (st : Nat) : Frame m_markSlot s (State.markSlot s cs k st) := by
  unfold State.markSlot
  repeat' first
    | with_reducible assumption
    | with_reducible exact Frame.refl _ _
    | lift_lets -underBinder
    | (with_reducible apply Frame.after (fr_putDir ..); (on_goal 2 => decide +kernel))
    | dsimp -zeta only
    | split

def m_showFlashOwn : Nat := 0x4000000000000000000
theorem fr_showFlashOwn (s : State) : Frame m_showFlashOwn s (State.showFlashOwn s) := by
  unfold State.showFlashOwn
  repeat' first
    | with_reducible assumption
    | with_reducible exact Frame.refl _ _
    | lift_lets -underBinder
    | (with_reducible apply Frame.setBS; (on_goal 2 => decide +kernel))

def m_arbitrate : Nat := 0x4000000000000000040
theorem fr_arbitrate (s : State) : Frame m_arbitrate s (State.arbitrate s) := by
  unfold State.arbitrate
  repeat' first
    | with_reducible assumption
    | with_reducible exact Frame.refl _ _
    | (with_reducible exact .inl rfl)
    | exact .inr (by decide +kernel)
    | (intro x; first
        | (refine Frame.cut (w := m_arbitrate) (s := s) x ?_ ?_
           on_goal 2 => intro hx; clear_value x
           on_goal 1 => unfold x; clear x)
        | clear_value x
        | skip)
    | lift_lets -underBinder
    | (with_reducible apply Frame.after (fr_showFlashOwn ..); (on_goal 2 => decide +kernel))
    | dsimp -zeta only
    | split
    | (rw [mk_put]; with_reducible apply Frame.upd)

end Sys2Proof.Laws
end

