-- ==== Sys2Proof/Laws/FrameWorlds.lean ====
section
/-!
SUPPORT. Sys2Proof/Laws/FrameWorlds.lean: what each operation of Machine/Worlds.lean leaves unchanged.
-/
namespace Sys2Proof.Laws

set_option Elab.async false
set_option linter.unusedTactic false
set_option linter.unreachableTactic false

open Sys2Proof.Machine

def m_violation : Nat := 0x400000000001c00000000000000000004200380
theorem fr_violation (s : State) (master : Nat) (a : Nat) (write : Bool) : Frame m_violation s (State.violation s master a write) := by
  unfold State.violation
  repeat' first
    | with_reducible assumption
    | with_reducible exact Frame.refl _ _
    | (with_reducible exact .inl rfl)
    | exact .inr (by decide +kernel)
    | (intro x; first
        | (refine Frame.cut (w := m_violation) (s := s) x ?_ ?_
           on_goal 2 => intro hx; clear_value x
           on_goal 1 => unfold x; clear x)
        | clear_value x
        | skip)
    | lift_lets -underBinder
    | (with_reducible apply Frame.setBS; (on_goal 2 => decide +kernel))
    | (with_reducible apply Frame.setS; (on_goal 2 => decide +kernel))
    | (with_reducible apply Frame.set64S; (on_goal 2 => decide +kernel); (on_goal 2 => decide +kernel))
    | (with_reducible apply Frame.incS; (on_goal 2 => decide +kernel))
    | (with_reducible apply Frame.after (fr_report ..); (on_goal 2 => decide +kernel))
    | dsimp -zeta only
    | split
    | (rw [mk_put]; with_reducible apply Frame.upd)

def m_cvuCheck : Nat := 0x40000000400000000001c00000000000000000004200380
theorem fr_cvuCheck (s : State) (u : Nat) (master : Nat) : Frame m_cvuCheck s (State.cvuCheck s u master) := by
  unfold State.cvuCheck
  repeat' first
    | with_reducible assumption
    | with_reducible exact Frame.refl _ _
    | lift_lets -underBinder
    | (with_reducible apply Frame.setBS; (on_goal 2 => decide +kernel))
    | (with_reducible apply Frame.after (fr_violation ..); (on_goal 2 => decide +kernel))
    | dsimp -zeta only
    | split

def m_cvuBus : Nat := 0xf9800000400000000000000000000000000000004000380
theorem fr_cvuBus (s : State) (m : Nat) (a : Nat) (l : List (Option Sys2Proof.Byte)) : Frame m_cvuBus s (State.cvuBus s m a l) := by
  unfold State.cvuBus
  repeat' first
    | with_reducible assumption
    | with_reducible exact Frame.refl _ _
    | (intro x; first
        | (refine Frame.cut (w := m_cvuBus) (s := s) x ?_ ?_
           on_goal 2 => intro hx; clear_value x
           on_goal 1 => unfold x; clear x)
        | (refine Frame.cut (w := m_cvuBus) (s := s) x.1 ?_ ?_
           on_goal 2 => intro hx; clear_value x
           on_goal 1 => unfold x; clear x)
        | (refine Frame.cut (w := m_cvuBus) (s := s) x.2 ?_ ?_
           on_goal 2 => intro hx; clear_value x
           on_goal 1 => unfold x; clear x)
        | clear_value x
        | skip)
    | lift_lets -underBinder
    | (with_reducible apply Frame.after (fr_cvuFeed ..); (on_goal 2 => decide +kernel))
    | (with_reducible apply Frame.forEach; on_goal 2 => intro t a hs)
    | dsimp -zeta only
    | split

end Sys2Proof.Laws
end

