-- ==== Sys2Proof/Laws/FrameEffect.lean ====
section
/-!
SUPPORT. Sys2Proof/Laws/FrameEffect.lean: what each operation of Machine/Effect.lean leaves unchanged.
-/
namespace Sys2Proof.Laws

set_option Elab.async false
set_option linter.unusedTactic false
set_option linter.unreachableTactic false

open Sys2Proof.Machine

def m_swapFabric : Nat := 0x10600004002300
theorem fr_swapFabric (s : State) (old : List Section) : Frame m_swapFabric s (State.swapFabric s old) := by
  unfold State.swapFabric
  repeat' first
    | with_reducible assumption
    | with_reducible exact Frame.refl _ _
    | (with_reducible exact .inl rfl)
    | exact .inr (by decide +kernel)
    | (intro x; first
        | (refine Frame.cut (w := m_swapFabric) (s := s) x ?_ ?_
           on_goal 2 => intro hx; clear_value x
           on_goal 1 => unfold x; clear x)
        | skip)
    | lift_lets -underBinder
    | (with_reducible apply Frame.setS; (on_goal 2 => decide +kernel))
    | (with_reducible apply Frame.incWS; (on_goal 2 => decide +kernel))
    | (with_reducible apply Frame.after (fr_irqSet ..); (on_goal 2 => decide +kernel))
    | (with_reducible apply Frame.after (fr_restartCoppice ..); (on_goal 2 => decide +kernel))
    | dsimp -zeta only
    | split
    | (rw [mk_put]; with_reducible apply Frame.upd)

def m_swapTwig : Nat := 0x1800004000300
theorem fr_swapTwig (s : State) : Frame m_swapTwig s (State.swapTwig s) := by
  unfold State.swapTwig
  repeat' first
    | with_reducible assumption
    | with_reducible exact Frame.refl _ _
    | (intro x; first
        | (refine Frame.cut (w := m_swapTwig) (s := s) x ?_ ?_
           on_goal 2 => intro hx; clear_value x
           on_goal 1 => unfold x; clear x)
        | clear_value x
        | skip)
    | lift_lets -underBinder
    | (with_reducible apply Frame.setS; (on_goal 2 => decide +kernel))
    | (with_reducible apply Frame.incWS; (on_goal 2 => decide +kernel))
    | (with_reducible apply Frame.after (fr_irqSet ..); (on_goal 2 => decide +kernel))

def m_dropPath : Nat := 0x4000000000000000000000000000000000000000000000000000000000000010
theorem fr_dropPath (s : State) (c : Nat) : Frame m_dropPath s (State.dropPath s c) := by
  unfold State.dropPath
  repeat' first
    | with_reducible assumption
    | with_reducible exact Frame.refl _ _
    | (intro x; first
        | (refine Frame.cut (w := m_dropPath) (s := s) x ?_ ?_
           on_goal 2 => intro hx; clear_value x
           on_goal 1 => unfold x; clear x)
        | clear_value x
        | skip)
    | lift_lets -underBinder
    | (with_reducible apply Frame.setWordS; (on_goal 2 => decide +kernel))
    | (with_reducible apply Frame.after (fr_setPmSt ..); (on_goal 2 => decide +kernel))
    | (with_reducible apply Frame.after (fr_setDefSt ..); (on_goal 2 => decide +kernel))

def m_framingTaken : Nat := 0x5002030000000000000000000400000000000000000004000000000004000398
theorem fr_framingTaken (s : State) (old : List Section) : Frame m_framingTaken s (State.framingTaken s old) := by
  unfold State.framingTaken
  repeat' first
    | with_reducible assumption
    | with_reducible exact Frame.refl _ _
    | (intro x; first
        | (refine Frame.cut (w := m_framingTaken) (s := s) x ?_ ?_
           on_goal 2 => intro hx; clear_value x
           on_goal 1 => unfold x; clear x)
        | clear_value x
        | skip)
    | lift_lets -underBinder
    | (with_reducible apply Frame.after (fr_setPmSt ..); (on_goal 2 => decide +kernel))
    | (with_reducible apply Frame.after (fr_laneFaultsAll ..); (on_goal 2 => decide +kernel))
    | (with_reducible apply Frame.after (fr_dropPath ..); (on_goal 2 => decide +kernel))
    | (with_reducible apply Frame.forEach; on_goal 2 => intro t a hs)
    | dsimp -zeta only
    | split

def m_calHit : Nat := 0x10
theorem fr_calHit (s : State) (o : Entry) (e : Entry) : Frame m_calHit s (State.calHit s o e) := by
  unfold State.calHit
  repeat' first
    | with_reducible assumption
    | with_reducible exact Frame.refl _ _
    | (intro x; first
        | (refine Frame.cut (w := m_calHit) (s := s) x ?_ ?_
           on_goal 2 => intro hx; clear_value x
           on_goal 1 => unfold x; clear x)
        | clear_value x
        | skip)
    | lift_lets -underBinder
    | (with_reducible apply Frame.after (fr_setMapSt ..); (on_goal 2 => decide +kernel))
    | (with_reducible apply Frame.forEach; on_goal 2 => intro t a hs)
    | dsimp -zeta only
    | split

def m_callCal : Nat := 0x20000000000000000000000000000000000000000000000000000000000000000010
theorem fr_callCal (s : State) (o : Entry) (e : Entry) : Frame m_callCal s (State.callCal s o e) := by
  unfold State.callCal
  repeat' first
    | with_reducible assumption
    | with_reducible exact Frame.refl _ _
    | (intro x; first
        | (refine Frame.cut (w := m_callCal) (s := s) x ?_ ?_
           on_goal 2 => intro hx; clear_value x
           on_goal 1 => unfold x; clear x)
        | clear_value x
        | skip)
    | lift_lets -underBinder
    | (with_reducible apply Frame.setBS; (on_goal 2 => decide +kernel))
    | (with_reducible apply Frame.after (fr_setCalSt ..); (on_goal 2 => decide +kernel))
    | dsimp -zeta only
    | split

def m_recalCtx : Nat := 0x20200000000000000000000000000000000000000000000000000000000000000010
theorem fr_recalCtx (s : State) (o : Entry) (e : Entry) : Frame m_recalCtx s (State.recalCtx s o e) := by
  unfold State.recalCtx
  repeat' first
    | with_reducible assumption
    | with_reducible exact Frame.refl _ _
    | (intro x; first
        | (refine Frame.cut (w := m_recalCtx) (s := s) x ?_ ?_
           on_goal 2 => intro hx; clear_value x
           on_goal 1 => unfold x; clear x)
        | clear_value x
        | skip)
    | lift_lets -underBinder
    | (with_reducible apply Frame.setWordS; (on_goal 2 => decide +kernel))
    | (with_reducible apply Frame.after (fr_setPmSt ..); (on_goal 2 => decide +kernel))
    | (with_reducible apply Frame.after (fr_callCal ..); (on_goal 2 => decide +kernel))
    | (with_reducible apply Frame.after (fr_calHit ..); (on_goal 2 => decide +kernel))

def m_dropCtxState : Nat := 0x3fffc00000000000000000000000000000000000007c400000000000000000008030
theorem fr_dropCtxState (s : State) (c : Nat) : Frame m_dropCtxState s (State.dropCtxState s c) := by
  unfold State.dropCtxState
  repeat' first
    | with_reducible assumption
    | with_reducible exact Frame.refl _ _
    | (with_reducible exact .inl rfl)
    | exact .inr (by decide +kernel)
    | (intro x; first
        | (refine Frame.cut (w := m_dropCtxState) (s := s) x ?_ ?_
           on_goal 2 => intro hx; clear_value x
           on_goal 1 => unfold x; clear x)
        | clear_value x
        | skip)
    | lift_lets -underBinder
    | (with_reducible apply Frame.resetInstS; (on_goal 2 => decide +kernel))
    | (with_reducible apply Frame.after (fr_forgetFaults ..); (on_goal 2 => decide +kernel))
    | dsimp -zeta only
    | split
    | (rw [mk_put]; with_reducible apply Frame.upd)

def m_mappingTaken : Nat := 0x3fffc00000000000000000000000000000000000007c40000000000000000000c030
theorem fr_mappingTaken (s : State) (old : List Section) : Frame m_mappingTaken s (State.mappingTaken s old) := by
  unfold State.mappingTaken
  repeat' first
    | with_reducible assumption
    | with_reducible exact Frame.refl _ _
    | (with_reducible exact .inl rfl)
    | exact .inr (by decide +kernel)
    | (intro x; first
        | (refine Frame.cut (w := m_mappingTaken) (s := s) x ?_ ?_
           on_goal 2 => intro hx; clear_value x
           on_goal 1 => unfold x; clear x)
        | clear_value x
        | skip)
    | lift_lets -underBinder
    | (with_reducible apply Frame.after (fr_startCtx ..); (on_goal 2 => decide +kernel))
    | (with_reducible apply Frame.after (fr_recalCtx ..); (on_goal 2 => decide +kernel))
    | (with_reducible apply Frame.after (fr_dropCtxState ..); (on_goal 2 => decide +kernel))
    | (with_reducible apply Frame.after (fr_callCal ..); (on_goal 2 => decide +kernel))
    | (with_reducible apply Frame.forEach; on_goal 2 => intro t a hs)
    | dsimp -zeta only
    | split
    | (rw [mk_put]; with_reducible apply Frame.upd)

def m_changeMerge : Nat := 0xb800000000000004010300
theorem fr_changeMerge (s : State) (o : Entry) (e : Entry) : Frame m_changeMerge s (State.changeMerge s o e) := by
  unfold State.changeMerge
  repeat' first
    | with_reducible assumption
    | with_reducible exact Frame.refl _ _
    | (intro x; first
        | (refine Frame.cut (w := m_changeMerge) (s := s) x ?_ ?_
           on_goal 2 => intro hx; clear_value x
           on_goal 1 => unfold x; clear x)
        | clear_value x
        | skip)
    | lift_lets -underBinder
    | (with_reducible apply Frame.after (fr_settleMerge ..); (on_goal 2 => decide +kernel))
    | (with_reducible apply Frame.after (fr_evgFlushReq ..); (on_goal 2 => decide +kernel))
    | (with_reducible apply Frame.after (fr_setEvgMerge ..); (on_goal 2 => decide +kernel))

def m_evergreenTaken : Nat := 0x3ff800000000000004018300
theorem fr_evergreenTaken (s : State) (old : List Section) (keep : List (Nat × Nat × Nat)) : Frame m_evergreenTaken s (State.evergreenTaken s old keep) := by
  unfold State.evergreenTaken
  repeat' first
    | with_reducible assumption
    | with_reducible exact Frame.refl _ _
    | (with_reducible exact .inl rfl)
    | exact .inr (by decide +kernel)
    | (intro x; first
        | (refine Frame.cut (w := m_evergreenTaken) (s := s) x ?_ ?_
           on_goal 2 => intro hx; clear_value x
           on_goal 1 => unfold x; clear x)
        | clear_value x
        | skip)
    | lift_lets -underBinder
    | (with_reducible apply Frame.resetInstS; (on_goal 2 => decide +kernel))
    | (with_reducible apply Frame.after (fr_settleMerge ..); (on_goal 2 => decide +kernel))
    | (with_reducible apply Frame.after (fr_changeMerge ..); (on_goal 2 => decide +kernel))
    | (with_reducible apply Frame.forEach; on_goal 2 => intro t a hs)
    | dsimp -zeta only
    | split
    | (rw [mk_put]; with_reducible apply Frame.upd)

def m_cvuLoad : Nat := 0x67e0000000000000000000000000000000000000000000
theorem fr_cvuLoad (s : State) (e : Entry) : Frame m_cvuLoad s (State.cvuLoad s e) := by
  unfold State.cvuLoad
  repeat' first
    | with_reducible assumption
    | with_reducible exact Frame.refl _ _
    | (intro x; first
        | (refine Frame.cut (w := m_cvuLoad) (s := s) x ?_ ?_
           on_goal 2 => intro hx; clear_value x
           on_goal 1 => unfold x; clear x)
        | clear_value x
        | skip)
    | lift_lets -underBinder
    | (with_reducible apply Frame.setS; (on_goal 2 => decide +kernel))
    | (with_reducible apply Frame.set64S; (on_goal 2 => decide +kernel); (on_goal 2 => decide +kernel))

def m_integrityTaken : Nat := 0x467e0000400000000001c00000000000000000004208380
theorem fr_integrityTaken (s : State) (old : List Section) : Frame m_integrityTaken s (State.integrityTaken s old) := by
  unfold State.integrityTaken
  repeat' first
    | with_reducible assumption
    | with_reducible exact Frame.refl _ _
    | (with_reducible exact .inl rfl)
    | exact .inr (by decide +kernel)
    | (intro x; first
        | (refine Frame.cut (w := m_integrityTaken) (s := s) x ?_ ?_
           on_goal 2 => intro hx; clear_value x
           on_goal 1 => unfold x; clear x)
        | clear_value x
        | skip)
    | lift_lets -underBinder
    | (with_reducible apply Frame.setS; (on_goal 2 => decide +kernel))
    | (with_reducible apply Frame.after (fr_cvuCheck ..); (on_goal 2 => decide +kernel))
    | (with_reducible apply Frame.after (fr_cvuLoad ..); (on_goal 2 => decide +kernel))
    | (with_reducible apply Frame.forEach; on_goal 2 => intro t a hs)
    | dsimp -zeta only
    | split
    | (rw [mk_put]; with_reducible apply Frame.upd)

def m_recordsTaken : Nat := 0xa00000000000000000000000000000000000000080
theorem fr_recordsTaken (s : State) (old : List Section) : Frame m_recordsTaken s (State.recordsTaken s old) := by
  unfold State.recordsTaken
  repeat' first
    | with_reducible assumption
    | with_reducible exact Frame.refl _ _
    | (intro x; first
        | (refine Frame.cut (w := m_recordsTaken) (s := s) x ?_ ?_
           on_goal 2 => intro hx; clear_value x
           on_goal 1 => unfold x; clear x)
        | clear_value x
        | skip)
    | lift_lets -underBinder
    | (with_reducible apply Frame.setBS; (on_goal 2 => decide +kernel))
    | (with_reducible apply Frame.setWordS; (on_goal 2 => decide +kernel))
    | (with_reducible apply Frame.after (fr_flushReq ..); (on_goal 2 => decide +kernel))
    | (with_reducible apply Frame.forEach; on_goal 2 => intro t a hs)
    | dsimp -zeta only
    | split

def m_sectionTaken : Nat := 0x3fffd00203008041d8641467e0a00400000000001c7c7ff804780000000004a1c3f8
theorem fr_sectionTaken (s : State) (old : List Section) (keep : List (Nat × Nat × Nat)) (sec : Nat) : Frame m_sectionTaken s (State.sectionTaken s old keep sec) := by
  unfold State.sectionTaken
  repeat' first
    | with_reducible assumption
    | with_reducible exact Frame.refl _ _
    | (with_reducible exact .inl rfl)
    | exact .inr (by decide +kernel)
    | (intro x; first
        | (refine Frame.cut (w := m_sectionTaken) (s := s) x ?_ ?_
           on_goal 2 => intro hx; clear_value x
           on_goal 1 => unfold x; clear x)
        | clear_value x
        | skip)
    | lift_lets -underBinder
    | (with_reducible apply Frame.setS; (on_goal 2 => decide +kernel))
    | (with_reducible apply Frame.after (fr_lanePower ..); (on_goal 2 => decide +kernel))
    | (with_reducible apply Frame.after (fr_integrityTaken ..); (on_goal 2 => decide +kernel))
    | (with_reducible apply Frame.after (fr_framingTaken ..); (on_goal 2 => decide +kernel))
    | (with_reducible apply Frame.after (fr_timingApplied ..); (on_goal 2 => decide +kernel))
    | (with_reducible apply Frame.after (fr_protectionTaken ..); (on_goal 2 => decide +kernel))
    | (with_reducible apply Frame.after (fr_timexferApplied ..); (on_goal 2 => decide +kernel))
    | (with_reducible apply Frame.after (fr_mappingTaken ..); (on_goal 2 => decide +kernel))
    | (with_reducible apply Frame.after (fr_recordsTaken ..); (on_goal 2 => decide +kernel))
    | (with_reducible apply Frame.after (fr_evergreenTaken ..); (on_goal 2 => decide +kernel))
    | (with_reducible apply Frame.forEach; on_goal 2 => intro t a hs)
    | dsimp -zeta only
    | split
    | (rw [mk_put]; with_reducible apply Frame.upd)

def m_takeEffect : Nat := 0x83fffd00203008041d8641467e0a00400000000001c7c7ff804780011e00004b3e3fc
theorem fr_takeEffect (s : State) (new : List Section) : Frame m_takeEffect s (State.takeEffect s new) := by
  unfold State.takeEffect
  repeat' first
    | with_reducible assumption
    | with_reducible exact Frame.refl _ _
    | (with_reducible exact .inl rfl)
    | exact .inr (by decide +kernel)
    | (intro x; first
        | (refine Frame.cut (w := m_takeEffect) (s := s) x ?_ ?_
           on_goal 2 => intro hx; clear_value x
           on_goal 1 => unfold x; clear x)
        | clear_value x
        | skip)
    | lift_lets -underBinder
    | (with_reducible apply Frame.after (fr_setWants ..); (on_goal 2 => decide +kernel))
    | (with_reducible apply Frame.after (fr_swapFabric ..); (on_goal 2 => decide +kernel))
    | (with_reducible apply Frame.after (fr_laneDisable ..); (on_goal 2 => decide +kernel))
    | (with_reducible apply Frame.after (fr_sectionTaken ..); (on_goal 2 => decide +kernel))
    | (with_reducible apply Frame.after (fr_settle ..); (on_goal 2 => decide +kernel))
    | (with_reducible apply Frame.after (fr_routeCheck ..); (on_goal 2 => decide +kernel))
    | (with_reducible apply Frame.after (fr_swapTwig ..); (on_goal 2 => decide +kernel))
    | (with_reducible apply Frame.forEach; on_goal 2 => intro t a hs)
    | dsimp -zeta only
    | split
    | (rw [mk_put]; with_reducible apply Frame.upd)

end Sys2Proof.Laws
end

