-- ==== Sys2Proof/Laws/FrameChange.lean ====
section
/-!
SUPPORT. Sys2Proof/Laws/FrameChange.lean: what each operation of Machine/Change.lean leaves unchanged.
-/
namespace Sys2Proof.Laws

set_option Elab.async false
set_option linter.unusedTactic false
set_option linter.unreachableTactic false

open Sys2Proof.Machine

def m_wakeMb1 : Nat := 0x8000000000000000000000000000
theorem fr_wakeMb1 (s : State) : Frame m_wakeMb1 s (State.wakeMb1 s) := by
  unfold State.wakeMb1
  repeat' first
    | with_reducible assumption
    | with_reducible exact Frame.refl _ _
    | lift_lets -underBinder
    | (with_reducible apply Frame.setS; (on_goal 2 => decide +kernel))
    | dsimp -zeta only
    | split

def m_restMb1 : Nat := 0x8000000000000000000002000000
theorem fr_restMb1 (s : State) : Frame m_restMb1 s (State.restMb1 s) := by
  unfold State.restMb1
  repeat' first
    | with_reducible assumption
    | with_reducible exact Frame.refl _ _
    | (with_reducible exact .inl rfl)
    | exact .inr (by decide +kernel)
    | exact .inr ⟨by decide +kernel, twf_filter _ _ _⟩
    | (intro x; first
        | (refine Frame.cut (w := m_restMb1) (s := s) x ?_ ?_
           on_goal 2 => intro hx; clear_value x
           on_goal 1 => unfold x; clear x)
        | clear_value x
        | skip)
    | lift_lets -underBinder
    | (with_reducible apply Frame.setS; (on_goal 2 => decide +kernel))
    | dsimp -zeta only
    | split
    | (rw [mk_put]; with_reducible apply Frame.upd)

def m_setDue : Nat := 0xc000000000000000
theorem fr_setDue (s : State) (n : Nat) : Frame m_setDue s (State.setDue s n) := by
  unfold State.setDue
  repeat' first
    | with_reducible assumption
    | with_reducible exact Frame.refl _ _
    | lift_lets -underBinder
    | (with_reducible apply Frame.set64S; (on_goal 2 => decide +kernel); (on_goal 2 => decide +kernel))

def m_endChange : Nat := 0xd000000000100000
theorem fr_endChange (s : State) (st : Nat) : Frame m_endChange s (State.endChange s st) := by
  unfold State.endChange
  repeat' first
    | with_reducible assumption
    | with_reducible exact Frame.refl _ _
    | (with_reducible exact .inl rfl)
    | exact .inr (by decide +kernel)
    | (intro x; first
        | (refine Frame.cut (w := m_endChange) (s := s) x ?_ ?_
           on_goal 2 => intro hx; clear_value x
           on_goal 1 => unfold x; clear x)
        | clear_value x
        | skip)
    | lift_lets -underBinder
    | (with_reducible apply Frame.setS; (on_goal 2 => decide +kernel))
    | (with_reducible apply Frame.after (fr_setDue ..); (on_goal 2 => decide +kernel))
    | dsimp -zeta only
    | split
    | (rw [mk_put]; with_reducible apply Frame.upd)

def m_stopChange : Nat := 0x40000000000800000000401d000a000061003c0
theorem fr_stopChange (s : State) (cause : Nat) (sec : Nat) (key : Nat) : Frame m_stopChange s (State.stopChange s cause sec key) := by
  unfold State.stopChange
  repeat' first
    | with_reducible assumption
    | with_reducible exact Frame.refl _ _
    | (intro x; first
        | (refine Frame.cut (w := m_stopChange) (s := s) x ?_ ?_
           on_goal 2 => intro hx; clear_value x
           on_goal 1 => unfold x; clear x)
        | clear_value x
        | skip)
    | lift_lets -underBinder
    | (with_reducible apply Frame.setS; (on_goal 2 => decide +kernel))
    | (with_reducible apply Frame.after (fr_restMb1 ..); (on_goal 2 => decide +kernel))
    | (with_reducible apply Frame.after (fr_report ..); (on_goal 2 => decide +kernel))
    | (with_reducible apply Frame.after (fr_endChange ..); (on_goal 2 => decide +kernel))
    | (with_reducible apply Frame.after (fr_arbitrate ..); (on_goal 2 => decide +kernel))
    | dsimp -zeta only
    | split

def m_startLoad : Nat := 0x8000000000001000a00000100000
theorem fr_startLoad (s : State) (names : List (Nat × Nat)) : Frame m_startLoad s (State.startLoad s names) := by
  unfold State.startLoad
  repeat' first
    | with_reducible assumption
    | with_reducible exact Frame.refl _ _
    | (with_reducible exact .inl rfl)
    | exact .inr (by decide +kernel)
    | (intro x; first
        | (refine Frame.cut (w := m_startLoad) (s := s) x ?_ ?_
           on_goal 2 => intro hx; clear_value x
           on_goal 1 => unfold x; clear x)
        | clear_value x
        | skip)
    | lift_lets -underBinder
    | (with_reducible apply Frame.setS; (on_goal 2 => decide +kernel))
    | (with_reducible apply Frame.after (fr_wakeMb1 ..); (on_goal 2 => decide +kernel))
    | dsimp -zeta only
    | split
    | (rw [mk_put]; with_reducible apply Frame.upd)

def m_startStep : Nat := 0x40000000000800000000401d000a000061003c0
theorem fr_startStep (s : State) (k : Nat) : Frame m_startStep s (State.startStep s k) := by
  unfold State.startStep
  repeat' first
    | with_reducible assumption
    | with_reducible exact Frame.refl _ _
    | (with_reducible exact .inl rfl)
    | exact .inr (by decide +kernel)
    | (intro x; first
        | (refine Frame.cut (w := m_startStep) (s := s) x ?_ ?_
           on_goal 2 => intro hx; clear_value x
           on_goal 1 => unfold x; clear x)
        | clear_value x
        | skip)
    | lift_lets -underBinder
    | (with_reducible apply Frame.after (fr_startLoad ..); (on_goal 2 => decide +kernel))
    | (with_reducible apply Frame.after (fr_stopChange ..); (on_goal 2 => decide +kernel))
    | dsimp -zeta only
    | split
    | (rw [mk_put]; with_reducible apply Frame.upd)

def m_noteLoad : Nat := 0x80000
theorem fr_noteLoad (s : State) (l : List Loaded) : Frame m_noteLoad s (State.noteLoad s l) := by
  unfold State.noteLoad
  repeat' first
    | with_reducible assumption
    | with_reducible exact Frame.refl _ _
    | (with_reducible exact .inl rfl)
    | exact .inr (by decide +kernel)
    | (intro x; first
        | (refine Frame.cut (w := m_noteLoad) (s := s) x ?_ ?_
           on_goal 2 => intro hx; clear_value x
           on_goal 1 => unfold x; clear x)
        | skip)
    | lift_lets -underBinder
    | (with_reducible apply Frame.forEach; on_goal 2 => intro t a hs)
    | (with_reducible apply Frame.foldl; on_goal 2 => intro t a hs)
    | (with_reducible apply Frame.foldl1; on_goal 2 => intro t b hs)
    | (with_reducible apply Frame.foldl2; on_goal 2 => intro t b hs)
    | dsimp -zeta only
    | split
    | (rw [mk_put]; with_reducible apply Frame.upd)

def m_loaderReads : Nat := 0xf9800000400000000000000000000000000000004000380
theorem fr_loaderReads (s : State) (l : List Sys2Proof.Byte) : Frame m_loaderReads s (State.loaderReads s l) := by
  unfold State.loaderReads
  repeat' first
    | with_reducible assumption
    | with_reducible exact Frame.refl _ _
    | lift_lets -underBinder
    | (with_reducible apply Frame.after (fr_cvuFeed ..); (on_goal 2 => decide +kernel))
    | (with_reducible apply Frame.forEach; on_goal 2 => intro t a hs)

def m_effApplyLoadComplete : Nat := 0xf98004014c000000000800000000401d000a100061803c0
theorem fr_effApplyLoadComplete (bad : List (Nat × Nat)) (s : State) : Frame m_effApplyLoadComplete s (effApplyLoadComplete bad s) := by
  unfold effApplyLoadComplete
  repeat' first
    | with_reducible assumption
    | with_reducible exact Frame.refl _ _
    | (with_reducible exact .inl rfl)
    | exact .inr (by decide +kernel)
    | (intro x; first
        | (refine Frame.cut (w := m_effApplyLoadComplete) (s := s) x ?_ ?_
           on_goal 2 => intro hx; clear_value x
           on_goal 1 => unfold x; clear x)
        | (refine Frame.cut (w := m_effApplyLoadComplete) (s := s) x.1 ?_ ?_
           on_goal 2 => intro hx; clear_value x
           on_goal 1 => unfold x; clear x)
        | (refine Frame.cut (w := m_effApplyLoadComplete) (s := s) x.2 ?_ ?_
           on_goal 2 => intro hx; clear_value x
           on_goal 1 => unfold x; clear x)
        | clear_value x
        | skip)
    | lift_lets -underBinder
    | (with_reducible apply Frame.setS; (on_goal 2 => decide +kernel))
    | (with_reducible apply Frame.after (fr_noteLoad ..); (on_goal 2 => decide +kernel))
    | (with_reducible apply Frame.after (fr_report ..); (on_goal 2 => decide +kernel))
    | (with_reducible apply Frame.after (fr_loadClamps ..); (on_goal 2 => decide +kernel))
    | (with_reducible apply Frame.after (fr_arbitrate ..); (on_goal 2 => decide +kernel))
    | (with_reducible apply Frame.after (fr_stopChange ..); (on_goal 2 => decide +kernel))
    | (with_reducible apply Frame.after (fr_loaderReads ..); (on_goal 2 => decide +kernel))
    | dsimp -zeta only
    | split
    | (rw [mk_put]; with_reducible apply Frame.upd)

def m_closeWindow : Nat := 0x4014c000000000000000000002d000000004100380
theorem fr_closeWindow (s : State) : Frame m_closeWindow s (State.closeWindow s) := by
  unfold State.closeWindow
  repeat' first
    | with_reducible assumption
    | with_reducible exact Frame.refl _ _
    | (with_reducible exact .inl rfl)
    | exact .inr (by decide +kernel)
    | (intro x; first
        | (refine Frame.cut (w := m_closeWindow) (s := s) x ?_ ?_
           on_goal 2 => intro hx; clear_value x
           on_goal 1 => unfold x; clear x)
        | clear_value x
        | skip)
    | lift_lets -underBinder
    | (with_reducible apply Frame.setS; (on_goal 2 => decide +kernel))
    | (with_reducible apply Frame.incS; (on_goal 2 => decide +kernel))
    | (with_reducible apply Frame.after (fr_waitPort ..); (on_goal 2 => decide +kernel))
    | (with_reducible apply Frame.after (fr_report ..); (on_goal 2 => decide +kernel))
    | (with_reducible apply Frame.after (fr_endChange ..); (on_goal 2 => decide +kernel))
    | (with_reducible apply Frame.forEach; on_goal 2 => intro t a hs)
    | dsimp -zeta only
    | split
    | (rw [mk_put]; with_reducible apply Frame.upd)

def m_effHitWindowEnd : Nat := 0x4014c000000000000000000002d000000004100380
theorem fr_effHitWindowEnd (s : State) : Frame m_effHitWindowEnd s (effHitWindowEnd s) := by
  unfold effHitWindowEnd
  repeat' first
    | with_reducible assumption
    | with_reducible exact Frame.refl _ _
    | lift_lets -underBinder
    | (with_reducible apply Frame.after (fr_closeWindow ..); (on_goal 2 => decide +kernel))
    | dsimp -zeta only
    | split

def m_openWindow : Nat := 0x100000
theorem fr_openWindow (s : State) (k : Nat) (n : Nat) : Frame m_openWindow s (State.openWindow s k n) := by
  unfold State.openWindow
  repeat' first
    | with_reducible assumption
    | with_reducible exact Frame.refl _ _
    | (with_reducible exact .inl rfl)
    | exact .inr (by decide +kernel)
    | (intro x; first
        | (refine Frame.cut (w := m_openWindow) (s := s) x ?_ ?_
           on_goal 2 => intro hx; clear_value x
           on_goal 1 => unfold x; clear x)
        | clear_value x
        | skip)
    | lift_lets -underBinder
    | dsimp -zeta only
    | split
    | (rw [mk_put]; with_reducible apply Frame.upd)

def m_measureSlots : Nat := 0x100000
theorem fr_measureSlots (s : State) : Frame m_measureSlots s (State.measureSlots s) := by
  unfold State.measureSlots
  repeat' first
    | with_reducible assumption
    | with_reducible exact Frame.refl _ _
    | (with_reducible exact .inl rfl)
    | exact .inr (by decide +kernel)
    | (intro x; first
        | (refine Frame.cut (w := m_measureSlots) (s := s) x ?_ ?_
           on_goal 2 => intro hx; clear_value x
           on_goal 1 => unfold x; clear x)
        | clear_value x
        | skip)
    | lift_lets -underBinder
    | dsimp -zeta only
    | split
    | (rw [mk_put]; with_reducible apply Frame.upd)

def m_fixStart : Nat := 0xc000000000100000
theorem fr_fixStart (s : State) (n : Nat) : Frame m_fixStart s (State.fixStart s n) := by
  unfold State.fixStart
  repeat' first
    | with_reducible assumption
    | with_reducible exact Frame.refl _ _
    | (with_reducible exact .inl rfl)
    | exact .inr (by decide +kernel)
    | (intro x; first
        | (refine Frame.cut (w := m_fixStart) (s := s) x ?_ ?_
           on_goal 2 => intro hx; clear_value x
           on_goal 1 => unfold x; clear x)
        | clear_value x
        | skip)
    | lift_lets -underBinder
    | (with_reducible apply Frame.after (fr_setDue ..); (on_goal 2 => decide +kernel))
    | dsimp -zeta only
    | split
    | (rw [mk_put]; with_reducible apply Frame.upd)

def m_changeNow : Nat := 0x83fffd00203008041d8641467e0e014c0000000009c7c7ff8047fd011e00006b3f3fc
theorem fr_changeNow (s : State) (n : Nat) (secs : List Section) : Frame m_changeNow s (State.changeNow s n secs) := by
  unfold State.changeNow
  repeat' first
    | with_reducible assumption
    | with_reducible exact Frame.refl _ _
    | (with_reducible exact .inl rfl)
    | exact .inr (by decide +kernel)
    | (intro x; first
        | (refine Frame.cut (w := m_changeNow) (s := s) x ?_ ?_
           on_goal 2 => intro hx; clear_value x
           on_goal 1 => unfold x; clear x)
        | skip)
    | lift_lets -underBinder
    | (with_reducible apply Frame.setS; (on_goal 2 => decide +kernel))
    | (with_reducible apply Frame.incWS; (on_goal 2 => decide +kernel))
    | (with_reducible apply Frame.after (fr_closeWindow ..); (on_goal 2 => decide +kernel))
    | (with_reducible apply Frame.after (fr_restMb1 ..); (on_goal 2 => decide +kernel))
    | (with_reducible apply Frame.after (fr_takeEffect ..); (on_goal 2 => decide +kernel))
    | (with_reducible apply Frame.after (fr_report ..); (on_goal 2 => decide +kernel))
    | (with_reducible apply Frame.after (fr_openWindow ..); (on_goal 2 => decide +kernel))
    | (with_reducible apply Frame.after (fr_endChange ..); (on_goal 2 => decide +kernel))
    | (with_reducible apply Frame.after (fr_stopChange ..); (on_goal 2 => decide +kernel))
    | (with_reducible apply Frame.after (fr_setDue ..); (on_goal 2 => decide +kernel))
    | (with_reducible apply Frame.after (fr_startStep ..); (on_goal 2 => decide +kernel))
    | dsimp -zeta only
    | split
    | (rw [mk_put]; with_reducible apply Frame.upd)

def m_changeRow : Nat := 0x83fffd00203008041d8641467e0e014c0000000009c7c7ff8047fd011e00006b3f3fc
theorem fr_changeRow (s : State) (n : Nat) : Frame m_changeRow s (State.changeRow s n) := by
  unfold State.changeRow
  repeat' first
    | with_reducible assumption
    | with_reducible exact Frame.refl _ _
    | (intro x; first
        | (refine Frame.cut (w := m_changeRow) (s := s) x ?_ ?_
           on_goal 2 => intro hx; clear_value x
           on_goal 1 => unfold x; clear x)
        | clear_value x
        | skip)
    | lift_lets -underBinder
    | (with_reducible apply Frame.after (fr_stopChange ..); (on_goal 2 => decide +kernel))
    | (with_reducible apply Frame.after (fr_changeNow ..); (on_goal 2 => decide +kernel))
    | (with_reducible apply Frame.after (fr_setDue ..); (on_goal 2 => decide +kernel))
    | (with_reducible apply Frame.after (fr_fixStart ..); (on_goal 2 => decide +kernel))
    | dsimp -zeta only
    | split

def m_effPlanStepDue : Nat := 0x83fffd00203008041d8641467e0e014c0000000009c7c7ff8047fd011e00006b3f3fc
theorem fr_effPlanStepDue (s : State) : Frame m_effPlanStepDue s (effPlanStepDue s) := by
  unfold effPlanStepDue
  repeat' first
    | with_reducible assumption
    | with_reducible exact Frame.refl _ _
    | (intro x; first
        | (refine Frame.cut (w := m_effPlanStepDue) (s := s) x ?_ ?_
           on_goal 2 => intro hx; clear_value x
           on_goal 1 => unfold x; clear x)
        | clear_value x
        | skip)
    | lift_lets -underBinder
    | (with_reducible apply Frame.after (fr_changeRow ..); (on_goal 2 => decide +kernel))
    | dsimp -zeta only
    | split

def m_useContainer : Nat := 0x100000
theorem fr_useContainer (s : State) (h : Header) (src : Nat) : Frame m_useContainer s (State.useContainer s h src) := by
  unfold State.useContainer
  repeat' first
    | with_reducible assumption
    | with_reducible exact Frame.refl _ _
    | (with_reducible exact .inl rfl)
    | exact .inr (by decide +kernel)
    | (intro x; first
        | (refine Frame.cut (w := m_useContainer) (s := s) x ?_ ?_
           on_goal 2 => intro hx; clear_value x
           on_goal 1 => unfold x; clear x)
        | clear_value x
        | skip)
    | lift_lets -underBinder
    | dsimp -zeta only
    | split
    | (rw [mk_put]; with_reducible apply Frame.upd)

def m_readContainer : Nat := 0xf9800000400000000000000000000000000000004000380
theorem fr_readContainer (s : State) (src : Nat) : Frame m_readContainer s (State.readContainer s src) := by
  unfold State.readContainer
  repeat' first
    | with_reducible assumption
    | with_reducible exact Frame.refl _ _
    | lift_lets -underBinder
    | (with_reducible apply Frame.after (fr_loaderReads ..); (on_goal 2 => decide +kernel))
    | dsimp -zeta only
    | split

def m_cmdApply : Nat := 0xf98004014c000000000800000000002d000a00004100380
theorem fr_cmdApply (s : State) (src : Nat) (names : List (Nat × Nat)) : Frame m_cmdApply s (State.cmdApply s src names).2 := by
  unfold State.cmdApply
  repeat' first
    | with_reducible assumption
    | with_reducible exact Frame.refl _ _
    | (with_reducible exact .inl rfl)
    | exact .inr (by decide +kernel)
    | (intro x; first
        | (refine Frame.cut (w := m_cmdApply) (s := s) x ?_ ?_
           on_goal 2 => intro hx; clear_value x
           on_goal 1 => unfold x; clear x)
        | (refine Frame.cut (w := m_cmdApply) (s := s) x.1 ?_ ?_
           on_goal 2 => intro hx; clear_value x
           on_goal 1 => unfold x; clear x)
        | (refine Frame.cut (w := m_cmdApply) (s := s) x.2 ?_ ?_
           on_goal 2 => intro hx; clear_value x
           on_goal 1 => unfold x; clear x)
        | clear_value x
        | skip)
    | lift_lets -underBinder
    | (with_reducible apply Frame.setS; (on_goal 2 => decide +kernel))
    | (with_reducible apply Frame.after (fr_closeWindow ..); (on_goal 2 => decide +kernel))
    | (with_reducible apply Frame.after (fr_startLoad ..); (on_goal 2 => decide +kernel))
    | (with_reducible apply Frame.after (fr_readContainer ..); (on_goal 2 => decide +kernel))
    | (with_reducible apply Frame.after (fr_useContainer ..); (on_goal 2 => decide +kernel))
    | dsimp -zeta only
    | split
    | (rw [mk_put]; with_reducible apply Frame.upd)

def m_cmdApplyPlan : Nat := 0xf98004014c000000000800000000403f000a100061003c0
theorem fr_cmdApplyPlan (s : State) (src : Nat) (inst : Nat) (k : Nat) (start : Option Nat) : Frame m_cmdApplyPlan s (State.cmdApplyPlan s src inst k start).2 := by
  unfold State.cmdApplyPlan
  repeat' first
    | with_reducible assumption
    | with_reducible exact Frame.refl _ _
    | (with_reducible exact .inl rfl)
    | exact .inr (by decide +kernel)
    | (intro x; first
        | (refine Frame.cut (w := m_cmdApplyPlan) (s := s) x ?_ ?_
           on_goal 2 => intro hx; clear_value x
           on_goal 1 => unfold x; clear x)
        | (refine Frame.cut (w := m_cmdApplyPlan) (s := s) x.1 ?_ ?_
           on_goal 2 => intro hx; clear_value x
           on_goal 1 => unfold x; clear x)
        | (refine Frame.cut (w := m_cmdApplyPlan) (s := s) x.2 ?_ ?_
           on_goal 2 => intro hx; clear_value x
           on_goal 1 => unfold x; clear x)
        | clear_value x
        | skip)
    | lift_lets -underBinder
    | (with_reducible apply Frame.setS; (on_goal 2 => decide +kernel))
    | (with_reducible apply Frame.after (fr_closeWindow ..); (on_goal 2 => decide +kernel))
    | (with_reducible apply Frame.after (fr_readContainer ..); (on_goal 2 => decide +kernel))
    | (with_reducible apply Frame.after (fr_useContainer ..); (on_goal 2 => decide +kernel))
    | (with_reducible apply Frame.after (fr_writeClamps ..); (on_goal 2 => decide +kernel))
    | (with_reducible apply Frame.after (fr_setDue ..); (on_goal 2 => decide +kernel))
    | (with_reducible apply Frame.after (fr_loaderReads ..); (on_goal 2 => decide +kernel))
    | (with_reducible apply Frame.after (fr_startStep ..); (on_goal 2 => decide +kernel))
    | dsimp -zeta only
    | split
    | (rw [mk_put]; with_reducible apply Frame.upd)

def m_cmdHaltPlan : Nat := 0x40000000000800000000401d000a000061003c0
theorem fr_cmdHaltPlan (s : State) : Frame m_cmdHaltPlan s (State.cmdHaltPlan s).2 := by
  unfold State.cmdHaltPlan
  repeat' first
    | with_reducible assumption
    | with_reducible exact Frame.refl _ _
    | (with_reducible exact .inl rfl)
    | exact .inr (by decide +kernel)
    | (intro x; first
        | (refine Frame.cut (w := m_cmdHaltPlan) (s := s) x ?_ ?_
           on_goal 2 => intro hx; clear_value x
           on_goal 1 => unfold x; clear x)
        | clear_value x
        | skip)
    | lift_lets -underBinder
    | (with_reducible apply Frame.after (fr_stopChange ..); (on_goal 2 => decide +kernel))
    | dsimp -zeta only
    | split
    | (rw [mk_put]; with_reducible apply Frame.upd)

def m_haltReset : Nat := 0x40000000000800000000401d000a000061003c0
theorem fr_haltReset (s : State) : Frame m_haltReset s (State.haltReset s) := by
  unfold State.haltReset
  repeat' first
    | with_reducible assumption
    | with_reducible exact Frame.refl _ _
    | lift_lets -underBinder
    | (with_reducible apply Frame.after (fr_stopChange ..); (on_goal 2 => decide +kernel))
    | dsimp -zeta only
    | split

end Sys2Proof.Laws
end

