-- ==== Sys2Proof/Laws/FrameMate.lean ====
section
/-!
SUPPORT. Sys2Proof/Laws/FrameMate.lean: what each operation of Machine/Mate.lean leaves unchanged.
-/
namespace Sys2Proof.Laws

set_option Elab.async false
set_option linter.unusedTactic false
set_option linter.unreachableTactic false

open Sys2Proof.Machine

def m_setRole : Nat := 0x400000000000000000004000000000004000380
theorem fr_setRole (s : State) (r : Nat) : Frame m_setRole s (State.setRole s r) := by
  unfold State.setRole
  repeat' first
    | with_reducible assumption
    | with_reducible exact Frame.refl _ _
    | lift_lets -underBinder
    | (with_reducible apply Frame.setS; (on_goal 2 => decide +kernel))
    | (with_reducible apply Frame.after (fr_report ..); (on_goal 2 => decide +kernel))
    | dsimp -zeta only
    | split

def m_liftIso : Nat := 0x10000000000000000000000000000000000000000000000000000000040
theorem fr_liftIso (s : State) : Frame m_liftIso s (State.liftIso s) := by
  unfold State.liftIso
  repeat' first
    | with_reducible assumption
    | with_reducible exact Frame.refl _ _
    | (with_reducible exact .inl rfl)
    | exact .inr (by decide +kernel)
    | (intro x; first
        | (refine Frame.cut (w := m_liftIso) (s := s) x ?_ ?_
           on_goal 2 => intro hx; clear_value x
           on_goal 1 => unfold x; clear x)
        | (refine Frame.cut (w := m_liftIso) (s := s) x.1 ?_ ?_
           on_goal 2 => intro hx; clear_value x
           on_goal 1 => unfold x; clear x)
        | (refine Frame.cut (w := m_liftIso) (s := s) x.2 ?_ ?_
           on_goal 2 => intro hx; clear_value x
           on_goal 1 => unfold x; clear x)
        | clear_value x
        | skip)
    | lift_lets -underBinder
    | (with_reducible apply Frame.after (fr_showSquelchAll ..); (on_goal 2 => decide +kernel))
    | dsimp -zeta only
    | split
    | (rw [mk_put]; with_reducible apply Frame.upd)

def m_showSync : Nat := 0x10000000000000000000000000000000000000004000000000000000040
theorem fr_showSync (s : State) : Frame m_showSync s (State.showSync s) := by
  unfold State.showSync
  repeat' first
    | with_reducible assumption
    | with_reducible exact Frame.refl _ _
    | (intro x; first
        | (refine Frame.cut (w := m_showSync) (s := s) x ?_ ?_
           on_goal 2 => intro hx; clear_value x
           on_goal 1 => unfold x; clear x)
        | clear_value x
        | skip)
    | lift_lets -underBinder
    | (with_reducible apply Frame.setBS; (on_goal 2 => decide +kernel))
    | (with_reducible apply Frame.after (fr_liftIso ..); (on_goal 2 => decide +kernel))

def m_effRoleResolve : Nat := 0x100000000000000000004000000000000000000040000000000040003c0
theorem fr_effRoleResolve (s : State) : Frame m_effRoleResolve s (effRoleResolve s) := by
  unfold effRoleResolve
  repeat' first
    | with_reducible assumption
    | with_reducible exact Frame.refl _ _
    | (with_reducible exact .inl rfl)
    | exact .inr (by decide +kernel)
    | (intro x; first
        | (refine Frame.cut (w := m_effRoleResolve) (s := s) x ?_ ?_
           on_goal 2 => intro hx; clear_value x
           on_goal 1 => unfold x; clear x)
        | (refine Frame.cut (w := m_effRoleResolve) (s := s) x.1 ?_ ?_
           on_goal 2 => intro hx; clear_value x
           on_goal 1 => unfold x; clear x)
        | (refine Frame.cut (w := m_effRoleResolve) (s := s) x.2 ?_ ?_
           on_goal 2 => intro hx; clear_value x
           on_goal 1 => unfold x; clear x)
        | clear_value x
        | skip)
    | lift_lets -underBinder
    | (with_reducible apply Frame.after (fr_showSync ..); (on_goal 2 => decide +kernel))
    | (with_reducible apply Frame.after (fr_setRole ..); (on_goal 2 => decide +kernel))
    | (with_reducible apply Frame.after (fr_report ..); (on_goal 2 => decide +kernel))
    | (with_reducible apply Frame.after (fr_liftIso ..); (on_goal 2 => decide +kernel))
    | dsimp -zeta only
    | split
    | (rw [mk_put]; with_reducible apply Frame.upd)

def m_cmdMateRole : Nat := 0x100000000000000000004000000000000000000040000000000040003c0
theorem fr_cmdMateRole (s : State) (role : Nat) : Frame m_cmdMateRole s (State.cmdMateRole s role).2 := by
  unfold State.cmdMateRole
  repeat' first
    | with_reducible assumption
    | with_reducible exact Frame.refl _ _
    | lift_lets -underBinder
    | (with_reducible apply Frame.after (fr_setRole ..); (on_goal 2 => decide +kernel))
    | (with_reducible apply Frame.after (fr_liftIso ..); (on_goal 2 => decide +kernel))
    | dsimp -zeta only
    | split

def m_setMateLane : Nat := 0x40
theorem fr_setMateLane (s : State) (j : Nat) (v : MateLane) : Frame m_setMateLane s (State.setMateLane s j v) := by
  unfold State.setMateLane
  repeat' first
    | with_reducible assumption
    | with_reducible exact Frame.refl _ _
    | (with_reducible exact .inl rfl)
    | exact .inr (by decide +kernel)
    | (intro x; first
        | (refine Frame.cut (w := m_setMateLane) (s := s) x ?_ ?_
           on_goal 2 => intro hx; clear_value x
           on_goal 1 => unfold x; clear x)
        | clear_value x
        | skip)
    | lift_lets -underBinder
    | dsimp -zeta only
    | split
    | (rw [mk_put]; with_reducible apply Frame.upd)

def m_takeBeat : Nat := 0x100000000000000000004000000000000000000440000000000040003c0
theorem fr_takeBeat (s : State) (b : Sys2Proof.BeatIn) : Frame m_takeBeat s (State.takeBeat s b) := by
  unfold State.takeBeat
  repeat' first
    | with_reducible assumption
    | with_reducible exact Frame.refl _ _
    | (with_reducible exact .inl rfl)
    | exact .inr (by decide +kernel)
    | (intro x; first
        | (refine Frame.cut (w := m_takeBeat) (s := s) x ?_ ?_
           on_goal 2 => intro hx; clear_value x
           on_goal 1 => unfold x; clear x)
        | clear_value x
        | skip)
    | lift_lets -underBinder
    | (with_reducible apply Frame.setS; (on_goal 2 => decide +kernel))
    | (with_reducible apply Frame.after (fr_showSync ..); (on_goal 2 => decide +kernel))
    | (with_reducible apply Frame.after (fr_report ..); (on_goal 2 => decide +kernel))
    | dsimp -zeta only
    | split
    | (rw [mk_put]; with_reducible apply Frame.upd)

def m_mateMsg : Nat := 0x7fffe00000000000000000000000000000
theorem fr_mateMsg (s : State) (n : Nat) (l : List Nat) : Frame m_mateMsg s (State.mateMsg s n l) := by
  unfold State.mateMsg
  repeat' first
    | with_reducible assumption
    | with_reducible exact Frame.refl _ _
    | lift_lets -underBinder
    | (with_reducible apply Frame.setMsgS; (on_goal 2 => decide +kernel))
    | (with_reducible apply Frame.after (fr_post ..); (on_goal 2 => decide +kernel))
    | dsimp -zeta only
    | split

def m_effMateFrameReceived : Nat := 0x10000000000000000000400007fffe000000000440000000000040023c0
theorem fr_effMateFrameReceived (j : Nat) (f : Sys2Proof.MateFrameIn) (s : State) : Frame m_effMateFrameReceived s (effMateFrameReceived j f s) := by
  unfold effMateFrameReceived
  repeat' first
    | with_reducible assumption
    | with_reducible exact Frame.refl _ _
    | (with_reducible exact .inl rfl)
    | exact .inr (by decide +kernel)
    | (intro x; first
        | (refine Frame.cut (w := m_effMateFrameReceived) (s := s) x ?_ ?_
           on_goal 2 => intro hx; clear_value x
           on_goal 1 => unfold x; clear x)
        | (refine Frame.cut (w := m_effMateFrameReceived) (s := s) x.1 ?_ ?_
           on_goal 2 => intro hx; clear_value x
           on_goal 1 => unfold x; clear x)
        | (refine Frame.cut (w := m_effMateFrameReceived) (s := s) x.2 ?_ ?_
           on_goal 2 => intro hx; clear_value x
           on_goal 1 => unfold x; clear x)
        | skip)
    | lift_lets -underBinder
    | (with_reducible apply Frame.after (fr_takeBeat ..); (on_goal 2 => decide +kernel))
    | (with_reducible apply Frame.after (fr_mateMsg ..); (on_goal 2 => decide +kernel))
    | (with_reducible apply Frame.after (fr_report ..); (on_goal 2 => decide +kernel))
    | (with_reducible apply Frame.after (fr_setMateLane ..); (on_goal 2 => decide +kernel))
    | (with_reducible apply Frame.forEach; on_goal 2 => intro t a hs)
    | dsimp -zeta only
    | split
    | (rw [mk_put]; with_reducible apply Frame.upd)

def m_effMateAliveInChange : Nat := 0x40
theorem fr_effMateAliveInChange (s : State) : Frame m_effMateAliveInChange s (effMateAliveInChange s) := by
  unfold effMateAliveInChange
  repeat' first
    | with_reducible assumption
    | with_reducible exact Frame.refl _ _
    | (with_reducible exact .inl rfl)
    | exact .inr (by decide +kernel)
    | (intro x; first
        | (refine Frame.cut (w := m_effMateAliveInChange) (s := s) x ?_ ?_
           on_goal 2 => intro hx; clear_value x
           on_goal 1 => unfold x; clear x)
        | clear_value x
        | skip)
    | lift_lets -underBinder
    | dsimp -zeta only
    | split
    | (rw [mk_put]; with_reducible apply Frame.upd)

def m_effGaspDetected : Nat := 0x40
theorem fr_effGaspDetected (s : State) : Frame m_effGaspDetected s (effGaspDetected s) := by
  unfold effGaspDetected
  repeat' first
    | with_reducible assumption
    | with_reducible exact Frame.refl _ _
    | (with_reducible exact .inl rfl)
    | exact .inr (by decide +kernel)
    | (intro x; first
        | (refine Frame.cut (w := m_effGaspDetected) (s := s) x ?_ ?_
           on_goal 2 => intro hx; clear_value x
           on_goal 1 => unfold x; clear x)
        | clear_value x
        | skip)
    | lift_lets -underBinder
    | dsimp -zeta only
    | split
    | (rw [mk_put]; with_reducible apply Frame.upd)

def m_genRow : Nat := 0x8000000000000000040
theorem fr_genRow (s : State) (bytes : Nat) : Frame m_genRow s (State.genRow s bytes) := by
  unfold State.genRow
  repeat' first
    | with_reducible assumption
    | with_reducible exact Frame.refl _ _
    | (with_reducible exact .inl rfl)
    | exact .inr (by decide +kernel)
    | (intro x; first
        | (refine Frame.cut (w := m_genRow) (s := s) x ?_ ?_
           on_goal 2 => intro hx; clear_value x
           on_goal 1 => unfold x; clear x)
        | clear_value x
        | skip)
    | lift_lets -underBinder
    | (with_reducible apply Frame.setS; (on_goal 2 => decide +kernel))
    | dsimp -zeta only
    | split
    | (rw [mk_put]; with_reducible apply Frame.upd)

def m_takeHistory : Nat := 0x8100000000000000000000000000000000000000000800000
theorem fr_takeHistory (s : State) (h : Option Int) : Frame m_takeHistory s (State.takeHistory s h) := by
  unfold State.takeHistory
  repeat' first
    | with_reducible assumption
    | with_reducible exact Frame.refl _ _
    | (with_reducible exact .inl rfl)
    | exact .inr (by decide +kernel)
    | (intro x; first
        | (refine Frame.cut (w := m_takeHistory) (s := s) x ?_ ?_
           on_goal 2 => intro hx; clear_value x
           on_goal 1 => unfold x; clear x)
        | clear_value x
        | skip)
    | lift_lets -underBinder
    | (with_reducible apply Frame.setBS; (on_goal 2 => decide +kernel))
    | (with_reducible apply Frame.setIS; (on_goal 2 => decide +kernel))
    | dsimp -zeta only
    | split
    | (rw [mk_put]; with_reducible apply Frame.upd)

def m_effGenerationCommitReceived : Nat := 0x1000000000810000000000000000000000000000c000000000000800040
theorem fr_effGenerationCommitReceived (crcOk : Bool) (s : State) : Frame m_effGenerationCommitReceived s (effGenerationCommitReceived crcOk s) := by
  unfold effGenerationCommitReceived
  repeat' first
    | with_reducible assumption
    | with_reducible exact Frame.refl _ _
    | (with_reducible exact .inl rfl)
    | exact .inr (by decide +kernel)
    | (intro x; first
        | (refine Frame.cut (w := m_effGenerationCommitReceived) (s := s) x ?_ ?_
           on_goal 2 => intro hx; clear_value x
           on_goal 1 => unfold x; clear x)
        | (refine Frame.cut (w := m_effGenerationCommitReceived) (s := s) x.1 ?_ ?_
           on_goal 2 => intro hx; clear_value x
           on_goal 1 => unfold x; clear x)
        | (refine Frame.cut (w := m_effGenerationCommitReceived) (s := s) x.2 ?_ ?_
           on_goal 2 => intro hx; clear_value x
           on_goal 1 => unfold x; clear x)
        | clear_value x
        | skip)
    | lift_lets -underBinder
    | (with_reducible apply Frame.setS; (on_goal 2 => decide +kernel))
    | (with_reducible apply Frame.after (fr_showSync ..); (on_goal 2 => decide +kernel))
    | (with_reducible apply Frame.after (fr_takeHistory ..); (on_goal 2 => decide +kernel))
    | dsimp -zeta only
    | split
    | (rw [mk_put]; with_reducible apply Frame.upd)

def m_followActive : Nat := 0x83fffd00203008041d8641467e0a00400000000001c7c7ff804781011e00004b3e3fc
theorem fr_followActive (s : State) : Frame m_followActive s (State.followActive s) := by
  unfold State.followActive
  repeat' first
    | with_reducible assumption
    | with_reducible exact Frame.refl _ _
    | (with_reducible exact .inl rfl)
    | exact .inr (by decide +kernel)
    | (intro x; first
        | (refine Frame.cut (w := m_followActive) (s := s) x ?_ ?_
           on_goal 2 => intro hx; clear_value x
           on_goal 1 => unfold x; clear x)
        | clear_value x
        | skip)
    | lift_lets -underBinder
    | (with_reducible apply Frame.setS; (on_goal 2 => decide +kernel))
    | (with_reducible apply Frame.after (fr_takeEffect ..); (on_goal 2 => decide +kernel))
    | dsimp -zeta only
    | split
    | (rw [mk_put]; with_reducible apply Frame.upd)

def m_standbyRow : Nat := 0x83fffd00203008041d8641467e0a00400000000001c7c7ff804781011e00004b3e3fc
theorem fr_standbyRow (s : State) : Frame m_standbyRow s (State.standbyRow s) := by
  unfold State.standbyRow
  repeat' first
    | with_reducible assumption
    | with_reducible exact Frame.refl _ _
    | lift_lets -underBinder
    | (with_reducible apply Frame.after (fr_followActive ..); (on_goal 2 => decide +kernel))
    | dsimp -zeta only
    | split

def m_takePlan : Nat := 0x40000000000800000000401f000a000061003c0
theorem fr_takePlan (s : State) (page : List (Nat × Sys2Proof.Word)) : Frame m_takePlan s (State.takePlan s page) := by
  unfold State.takePlan
  repeat' first
    | with_reducible assumption
    | with_reducible exact Frame.refl _ _
    | (with_reducible exact .inl rfl)
    | exact .inr (by decide +kernel)
    | (intro x; first
        | (refine Frame.cut (w := m_takePlan) (s := s) x ?_ ?_
           on_goal 2 => intro hx; clear_value x
           on_goal 1 => unfold x; clear x)
        | (refine Frame.cut (w := m_takePlan) (s := s) x.1 ?_ ?_
           on_goal 2 => intro hx; clear_value x
           on_goal 1 => unfold x; clear x)
        | (refine Frame.cut (w := m_takePlan) (s := s) x.2 ?_ ?_
           on_goal 2 => intro hx; clear_value x
           on_goal 1 => unfold x; clear x)
        | clear_value x
        | skip)
    | lift_lets -underBinder
    | (with_reducible apply Frame.setS; (on_goal 2 => decide +kernel))
    | (with_reducible apply Frame.putWordsS; (on_goal 2 => decide +kernel))
    | (with_reducible apply Frame.after (fr_stopChange ..); (on_goal 2 => decide +kernel))
    | dsimp -zeta only
    | split
    | (rw [mk_put]; with_reducible apply Frame.upd)

def m_takeOver : Nat := 0x83fffd00203008041d8641467e0a00400000000009c7c7ff81479f011e00006b3e3fc
theorem fr_takeOver (s : State) : Frame m_takeOver s (State.takeOver s) := by
  unfold State.takeOver
  repeat' first
    | with_reducible assumption
    | with_reducible exact Frame.refl _ _
    | (with_reducible exact .inl rfl)
    | exact .inr (by decide +kernel)
    | (intro x; first
        | (refine Frame.cut (w := m_takeOver) (s := s) x ?_ ?_
           on_goal 2 => intro hx; clear_value x
           on_goal 1 => unfold x; clear x)
        | (refine Frame.cut (w := m_takeOver) (s := s) x.1 ?_ ?_
           on_goal 2 => intro hx; clear_value x
           on_goal 1 => unfold x; clear x)
        | (refine Frame.cut (w := m_takeOver) (s := s) x.2 ?_ ?_
           on_goal 2 => intro hx; clear_value x
           on_goal 1 => unfold x; clear x)
        | clear_value x
        | skip)
    | lift_lets -underBinder
    | (with_reducible apply Frame.resetRangeS; (on_goal 2 => decide +kernel))
    | (with_reducible apply Frame.putWordsS; (on_goal 2 => decide +kernel))
    | (with_reducible apply Frame.incWS; (on_goal 2 => decide +kernel))
    | (with_reducible apply Frame.after (fr_takePlan ..); (on_goal 2 => decide +kernel))
    | (with_reducible apply Frame.after (fr_setEvgWrap ..); (on_goal 2 => decide +kernel))
    | (with_reducible apply Frame.after (fr_setRole ..); (on_goal 2 => decide +kernel))
    | (with_reducible apply Frame.after (fr_report ..); (on_goal 2 => decide +kernel))
    | (with_reducible apply Frame.after (fr_followActive ..); (on_goal 2 => decide +kernel))
    | (with_reducible apply Frame.after (fr_jumpWraps ..); (on_goal 2 => decide +kernel))
    | (with_reducible apply Frame.after (fr_liftIso ..); (on_goal 2 => decide +kernel))
    | (with_reducible apply Frame.forEach; on_goal 2 => intro t a hs)
    | dsimp -zeta only
    | split
    | (rw [mk_put]; with_reducible apply Frame.upd)

def m_isolate : Nat := 0x100000000000000000004000000000000000000040000000000040003c0
theorem fr_isolate (s : State) : Frame m_isolate s (State.isolate s) := by
  unfold State.isolate
  repeat' first
    | with_reducible assumption
    | with_reducible exact Frame.refl _ _
    | (with_reducible exact .inl rfl)
    | exact .inr (by decide +kernel)
    | (intro x; first
        | (refine Frame.cut (w := m_isolate) (s := s) x ?_ ?_
           on_goal 2 => intro hx; clear_value x
           on_goal 1 => unfold x; clear x)
        | clear_value x
        | skip)
    | lift_lets -underBinder
    | (with_reducible apply Frame.after (fr_setRole ..); (on_goal 2 => decide +kernel))
    | (with_reducible apply Frame.after (fr_showSquelchAll ..); (on_goal 2 => decide +kernel))
    | dsimp -zeta only
    | split
    | (rw [mk_put]; with_reducible apply Frame.upd)

def m_effMateLost : Nat := 0x83fffd00203008041d8641467e0a00400000000009c7c7ff81479f011e00006b3e3fc
theorem fr_effMateLost (s : State) : Frame m_effMateLost s (effMateLost s) := by
  unfold effMateLost
  repeat' first
    | with_reducible assumption
    | with_reducible exact Frame.refl _ _
    | (with_reducible exact .inl rfl)
    | exact .inr (by decide +kernel)
    | (intro x; first
        | (refine Frame.cut (w := m_effMateLost) (s := s) x ?_ ?_
           on_goal 2 => intro hx; clear_value x
           on_goal 1 => unfold x; clear x)
        | clear_value x
        | skip)
    | lift_lets -underBinder
    | (with_reducible apply Frame.setBS; (on_goal 2 => decide +kernel))
    | (with_reducible apply Frame.incS; (on_goal 2 => decide +kernel))
    | (with_reducible apply Frame.after (fr_takeOver ..); (on_goal 2 => decide +kernel))
    | (with_reducible apply Frame.after (fr_showSync ..); (on_goal 2 => decide +kernel))
    | (with_reducible apply Frame.after (fr_showFlashOwn ..); (on_goal 2 => decide +kernel))
    | (with_reducible apply Frame.after (fr_settle ..); (on_goal 2 => decide +kernel))
    | (with_reducible apply Frame.after (fr_isolate ..); (on_goal 2 => decide +kernel))
    | dsimp -zeta only
    | split
    | (rw [mk_put]; with_reducible apply Frame.upd)

def m_effFlashSeize : Nat := 0x400000000000000000004000000000004000380
theorem fr_effFlashSeize (s : State) : Frame m_effFlashSeize s (effFlashSeize s) := by
  unfold effFlashSeize
  repeat' first
    | with_reducible assumption
    | with_reducible exact Frame.refl _ _
    | lift_lets -underBinder
    | (with_reducible apply Frame.setBS; (on_goal 2 => decide +kernel))
    | (with_reducible apply Frame.after (fr_showFlashOwn ..); (on_goal 2 => decide +kernel))
    | (with_reducible apply Frame.after (fr_report ..); (on_goal 2 => decide +kernel))
    | dsimp -zeta only
    | split

def m_sendBeat : Nat := 0x840
theorem fr_sendBeat (s : State) : Frame m_sendBeat s (State.sendBeat s) := by
  unfold State.sendBeat
  repeat' first
    | with_reducible assumption
    | with_reducible exact Frame.refl _ _
    | (with_reducible exact .inl rfl)
    | exact .inr (by decide +kernel)
    | (intro x; first
        | (refine Frame.cut (w := m_sendBeat) (s := s) x ?_ ?_
           on_goal 2 => intro hx; clear_value x
           on_goal 1 => unfold x; clear x)
        | clear_value x
        | skip)
    | lift_lets -underBinder
    | (with_reducible apply Frame.after (fr_draw ..); (on_goal 2 => decide +kernel))
    | (with_reducible apply Frame.after (fr_setMateLane ..); (on_goal 2 => decide +kernel))
    | (with_reducible apply Frame.forEach; on_goal 2 => intro t a hs)
    | dsimp -zeta only
    | split
    | (rw [mk_put]; with_reducible apply Frame.upd)

def m_mateRow : Nat := 0x80bc00001000000000000000000040000000000000000b82c58000000000401cbf0
theorem fr_mateRow (s : State) (genBytes : Nat) : Frame m_mateRow s (State.mateRow s genBytes) := by
  unfold State.mateRow
  repeat' first
    | with_reducible assumption
    | with_reducible exact Frame.refl _ _
    | (with_reducible exact .inl rfl)
    | exact .inr (by decide +kernel)
    | (intro x; first
        | (refine Frame.cut (w := m_mateRow) (s := s) x ?_ ?_
           on_goal 2 => intro hx; clear_value x
           on_goal 1 => unfold x; clear x)
        | (refine Frame.cut (w := m_mateRow) (s := s) x.1 ?_ ?_
           on_goal 2 => intro hx; clear_value x
           on_goal 1 => unfold x; clear x)
        | (refine Frame.cut (w := m_mateRow) (s := s) x.2 ?_ ?_
           on_goal 2 => intro hx; clear_value x
           on_goal 1 => unfold x; clear x)
        | clear_value x
        | skip)
    | lift_lets -underBinder
    | (with_reducible apply Frame.setBS; (on_goal 2 => decide +kernel))
    | (with_reducible apply Frame.setS; (on_goal 2 => decide +kernel))
    | (with_reducible apply Frame.incS; (on_goal 2 => decide +kernel))
    | (with_reducible apply Frame.after (fr_showSync ..); (on_goal 2 => decide +kernel))
    | (with_reducible apply Frame.after (fr_genRow ..); (on_goal 2 => decide +kernel))
    | (with_reducible apply Frame.after (fr_setRole ..); (on_goal 2 => decide +kernel))
    | (with_reducible apply Frame.after (fr_showFlashOwn ..); (on_goal 2 => decide +kernel))
    | (with_reducible apply Frame.after (fr_report ..); (on_goal 2 => decide +kernel))
    | (with_reducible apply Frame.after (fr_settle ..); (on_goal 2 => decide +kernel))
    | (with_reducible apply Frame.after (fr_sendBeat ..); (on_goal 2 => decide +kernel))
    | (with_reducible apply Frame.after (fr_arbitrate ..); (on_goal 2 => decide +kernel))
    | dsimp -zeta only
    | split
    | (rw [mk_put]; with_reducible apply Frame.upd)

end Sys2Proof.Laws
end

