-- ==== Sys2Proof/Laws/FrameAccess.lean ====
section
/-!
SUPPORT. Sys2Proof/Laws/FrameAccess.lean: what each operation of Machine/Access.lean leaves unchanged.
-/
namespace Sys2Proof.Laws

set_option Elab.async false
set_option linter.unusedTactic false
set_option linter.unreachableTactic false

open Sys2Proof.Machine

def m_readActs : Nat := 0x4000003f000000000000000000000000000000020000800
theorem fr_readActs (s : State) (r : RegDef) (k : Nat) (be : Nat) : Frame m_readActs s (State.readActs s r k be) := by
  unfold State.readActs
  repeat' first
    | with_reducible assumption
    | with_reducible exact Frame.refl _ _
    | (intro x; first
        | (refine Frame.cut (w := m_readActs) (s := s) x ?_ ?_
           on_goal 2 => intro hx; clear_value x
           on_goal 1 => unfold x; clear x)
        | clear_value x
        | skip)
    | lift_lets -underBinder
    | (with_reducible apply Frame.setBS; (on_goal 2 => decide +kernel))
    | (with_reducible apply Frame.setRegAny; (on_goal 2 => decide +kernel))
    | (with_reducible apply Frame.after (fr_curStateRead ..); (on_goal 2 => decide +kernel))
    | dsimp -zeta only
    | split

def m_takeLatch : Nat := 0x1
theorem fr_takeLatch (s : State) (sec : Bool) (k : Nat) : Frame m_takeLatch s (State.takeLatch s sec k).2 := by
  unfold State.takeLatch
  repeat' first
    | with_reducible assumption
    | with_reducible exact Frame.refl _ _
    | (with_reducible exact .inl rfl)
    | exact .inr (by decide +kernel)
    | lift_lets -underBinder
    | dsimp -zeta only
    | split
    | (rw [mk_put]; with_reducible apply Frame.upd)

def m_latchHigh : Nat := 0x1
theorem fr_latchHigh (s : State) (sec : Bool) (k : Nat) : Frame m_latchHigh s (State.latchHigh s sec k) := by
  unfold State.latchHigh
  repeat' first
    | with_reducible assumption
    | with_reducible exact Frame.refl _ _
    | (with_reducible exact .inl rfl)
    | exact .inr (by decide +kernel)
    | (intro x; first
        | (refine Frame.cut (w := m_latchHigh) (s := s) x ?_ ?_
           on_goal 2 => intro hx; clear_value x
           on_goal 1 => unfold x; clear x)
        | clear_value x
        | skip)
    | lift_lets -underBinder
    | dsimp -zeta only
    | split
    | (rw [mk_put]; with_reducible apply Frame.upd)

def m_readKey : Nat := 0x4000003f000000000000000000000000000000020000801
theorem fr_readKey (s : State) (sec : Bool) (k : Nat) (be : Nat) : Frame m_readKey s (State.readKey s sec k be).2 := by
  unfold State.readKey
  repeat' first
    | with_reducible assumption
    | with_reducible exact Frame.refl _ _
    | (intro x; first
        | (refine Frame.cut (w := m_readKey) (s := s) x ?_ ?_
           on_goal 2 => intro hx; clear_value x
           on_goal 1 => unfold x; clear x)
        | (refine Frame.cut (w := m_readKey) (s := s) x.1 ?_ ?_
           on_goal 2 => intro hx; clear_value x
           on_goal 1 => unfold x; clear x)
        | (refine Frame.cut (w := m_readKey) (s := s) x.2 ?_ ?_
           on_goal 2 => intro hx; clear_value x
           on_goal 1 => unfold x; clear x)
        | clear_value x
        | skip)
    | lift_lets -underBinder
    | (with_reducible apply Frame.after (fr_readActs ..); (on_goal 2 => decide +kernel))
    | (with_reducible apply Frame.after (fr_takeLatch ..); (on_goal 2 => decide +kernel))
    | (with_reducible apply Frame.after (fr_latchHigh ..); (on_goal 2 => decide +kernel))
    | dsimp -zeta only
    | split

def m_readAs : Nat := 0x4000003f400000000001c00000000000000000024200b81
theorem fr_readAs (s : State) (src : Sys2Proof.Src) (k : Nat) (a : Nat) (be : Nat) : Frame m_readAs s (State.readAs s src k a be).2 := by
  unfold State.readAs
  repeat' first
    | with_reducible assumption
    | with_reducible exact Frame.refl _ _
    | (intro x; first
        | (refine Frame.cut (w := m_readAs) (s := s) x ?_ ?_
           on_goal 2 => intro hx; clear_value x
           on_goal 1 => unfold x; clear x)
        | clear_value x
        | skip)
    | lift_lets -underBinder
    | (with_reducible apply Frame.after (fr_violation ..); (on_goal 2 => decide +kernel))
    | (with_reducible apply Frame.after (fr_readKey ..); (on_goal 2 => decide +kernel))
    | dsimp -zeta only
    | split

def m_readBar : Nat := 0x4000003f400000000001c00000000000000000024200b81
theorem fr_readBar (s : State) (src : Sys2Proof.Src) (off : Nat) (be : Nat) : Frame m_readBar s (State.readBar s src off be).2 := by
  unfold State.readBar
  repeat' first
    | with_reducible assumption
    | with_reducible exact Frame.refl _ _
    | (intro x; first
        | (refine Frame.cut (w := m_readBar) (s := s) x ?_ ?_
           on_goal 2 => intro hx; clear_value x
           on_goal 1 => unfold x; clear x)
        | clear_value x
        | skip)
    | lift_lets -underBinder
    | (with_reducible apply Frame.after (fr_readAs ..); (on_goal 2 => decide +kernel))

def m_abortChan : Nat := 0x6000000000000000000000000000000000
theorem fr_abortChan (s : State) (n : Nat) : Frame m_abortChan s (State.abortChan s n) := by
  unfold State.abortChan
  repeat' first
    | with_reducible assumption
    | with_reducible exact Frame.refl _ _
    | lift_lets -underBinder
    | (with_reducible apply Frame.setBS; (on_goal 2 => decide +kernel))
    | dsimp -zeta only
    | split

def m_writeChan : Nat := 0x6000000000000000000000000020000000
theorem fr_writeChan (s : State) (host : Bool) (n : Nat) (off : Nat) (be : Nat) (data : Sys2Proof.Word) : Frame m_writeChan s (State.writeChan s host n off be data) := by
  unfold State.writeChan
  repeat' first
    | with_reducible assumption
    | with_reducible exact Frame.refl _ _
    | (intro x; first
        | (refine Frame.cut (w := m_writeChan) (s := s) x ?_ ?_
           on_goal 2 => intro hx; clear_value x
           on_goal 1 => unfold x; clear x)
        | clear_value x
        | skip)
    | lift_lets -underBinder
    | (with_reducible apply Frame.setBS; (on_goal 2 => decide +kernel))
    | (with_reducible apply Frame.setRegAny; (on_goal 2 => decide +kernel))
    | (with_reducible apply Frame.after (fr_post ..); (on_goal 2 => decide +kernel))
    | (with_reducible apply Frame.after (fr_abortChan ..); (on_goal 2 => decide +kernel))
    | dsimp -zeta only
    | split

def m_writeOwner : Nat := 0x8000000000000000000020200000
theorem fr_writeOwner (s : State) (n : Nat) (be : Nat) (data : Sys2Proof.Word) : Frame m_writeOwner s (State.writeOwner s n be data) := by
  unfold State.writeOwner
  repeat' first
    | with_reducible assumption
    | with_reducible exact Frame.refl _ _
    | (with_reducible exact .inl rfl)
    | exact .inr (by decide +kernel)
    | (intro x; first
        | (refine Frame.cut (w := m_writeOwner) (s := s) x ?_ ?_
           on_goal 2 => intro hx; clear_value x
           on_goal 1 => unfold x; clear x)
        | clear_value x
        | skip)
    | lift_lets -underBinder
    | (with_reducible apply Frame.setBS; (on_goal 2 => decide +kernel))
    | (with_reducible apply Frame.setRegAny; (on_goal 2 => decide +kernel))
    | (with_reducible apply Frame.setS; (on_goal 2 => decide +kernel))
    | dsimp -zeta only
    | split
    | (rw [mk_put]; with_reducible apply Frame.upd)

def m_commit : Nat := 0x7000000000000000000000000000000020000802
theorem fr_commit (s : State) (lo : Nat) (hi : Nat) (r : RegDef) (be : Nat) (data : Sys2Proof.Word) : Frame m_commit s (State.commit s lo hi r be data) := by
  unfold State.commit
  repeat' first
    | with_reducible assumption
    | with_reducible exact Frame.refl _ _
    | (with_reducible exact .inl rfl)
    | exact .inr (by decide +kernel)
    | (intro x; first
        | (refine Frame.cut (w := m_commit) (s := s) x ?_ ?_
           on_goal 2 => intro hx; clear_value x
           on_goal 1 => unfold x; clear x)
        | (refine Frame.cut (w := m_commit) (s := s) x.1 ?_ ?_
           on_goal 2 => intro hx; clear_value x
           on_goal 1 => unfold x; clear x)
        | (refine Frame.cut (w := m_commit) (s := s) x.2 ?_ ?_
           on_goal 2 => intro hx; clear_value x
           on_goal 1 => unfold x; clear x)
        | clear_value x
        | skip)
    | lift_lets -underBinder
    | (with_reducible apply Frame.setRegAny; (on_goal 2 => decide +kernel))
    | (with_reducible apply Frame.after (fr_curSeek ..); (on_goal 2 => decide +kernel))
    | dsimp -zeta only
    | split
    | (rw [mk_put]; with_reducible apply Frame.upd)

def m_stageLow : Nat := 0x2
theorem fr_stageLow (s : State) (k : Nat) (be : Nat) (data : Sys2Proof.Word) : Frame m_stageLow s (State.stageLow s k be data) := by
  unfold State.stageLow
  repeat' first
    | with_reducible assumption
    | with_reducible exact Frame.refl _ _
    | (with_reducible exact .inl rfl)
    | exact .inr (by decide +kernel)
    | (intro x; first
        | (refine Frame.cut (w := m_stageLow) (s := s) x ?_ ?_
           on_goal 2 => intro hx; clear_value x
           on_goal 1 => unfold x; clear x)
        | (refine Frame.cut (w := m_stageLow) (s := s) x.1 ?_ ?_
           on_goal 2 => intro hx; clear_value x
           on_goal 1 => unfold x; clear x)
        | (refine Frame.cut (w := m_stageLow) (s := s) x.2 ?_ ?_
           on_goal 2 => intro hx; clear_value x
           on_goal 1 => unfold x; clear x)
        | clear_value x
        | skip)
    | lift_lets -underBinder
    | dsimp -zeta only
    | split
    | (rw [mk_put]; with_reducible apply Frame.upd)

def m_unmasked : Nat := 0x4000100
theorem fr_unmasked (s : State) (v : Nat) : Frame m_unmasked s (State.unmasked s v) := by
  unfold State.unmasked
  repeat' first
    | with_reducible assumption
    | with_reducible exact Frame.refl _ _
    | (with_reducible exact .inl rfl)
    | exact .inr (by decide +kernel)
    | (intro x; first
        | (refine Frame.cut (w := m_unmasked) (s := s) x ?_ ?_
           on_goal 2 => intro hx; clear_value x
           on_goal 1 => unfold x; clear x)
        | clear_value x
        | skip)
    | lift_lets -underBinder
    | (with_reducible apply Frame.after (fr_sendMsix ..); (on_goal 2 => decide +kernel))
    | dsimp -zeta only
    | split
    | (rw [mk_put]; with_reducible apply Frame.upd)

def m_writeKey : Nat := 0x40000a1f400006000009c00000000000000000024200b82
theorem fr_writeKey (s : State) (host : Bool) (sec : Bool) (master : Nat) (k : Nat) (be : Nat) (data : Sys2Proof.Word) : Frame m_writeKey s (State.writeKey s host sec master k be data) := by
  unfold State.writeKey
  repeat' first
    | with_reducible assumption
    | with_reducible exact Frame.refl _ _
    | (with_reducible exact .inl rfl)
    | exact .inr (by decide +kernel)
    | (intro x; first
        | (refine Frame.cut (w := m_writeKey) (s := s) x ?_ ?_
           on_goal 2 => intro hx; clear_value x
           on_goal 1 => unfold x; clear x)
        | (refine Frame.cut (w := m_writeKey) (s := s) x.1 ?_ ?_
           on_goal 2 => intro hx; clear_value x
           on_goal 1 => unfold x; clear x)
        | (refine Frame.cut (w := m_writeKey) (s := s) x.2 ?_ ?_
           on_goal 2 => intro hx; clear_value x
           on_goal 1 => unfold x; clear x)
        | clear_value x
        | skip)
    | lift_lets -underBinder
    | (with_reducible apply Frame.setBS; (on_goal 2 => decide +kernel))
    | (with_reducible apply Frame.setRegAny; (on_goal 2 => decide +kernel))
    | (with_reducible apply Frame.after (fr_stkClear ..); (on_goal 2 => decide +kernel))
    | (with_reducible apply Frame.after (fr_flushReq ..); (on_goal 2 => decide +kernel))
    | (with_reducible apply Frame.after (fr_cvuCheck ..); (on_goal 2 => decide +kernel))
    | (with_reducible apply Frame.after (fr_unmasked ..); (on_goal 2 => decide +kernel))
    | (with_reducible apply Frame.after (fr_writeOwner ..); (on_goal 2 => decide +kernel))
    | (with_reducible apply Frame.after (fr_writeChan ..); (on_goal 2 => decide +kernel))
    | (with_reducible apply Frame.after (fr_sendMsix ..); (on_goal 2 => decide +kernel))
    | (with_reducible apply Frame.after (fr_pcCtl ..); (on_goal 2 => decide +kernel))
    | (with_reducible apply Frame.after (fr_curCommand ..); (on_goal 2 => decide +kernel))
    | (with_reducible apply Frame.after (fr_stageLow ..); (on_goal 2 => decide +kernel))
    | (with_reducible apply Frame.after (fr_commit ..); (on_goal 2 => decide +kernel))
    | (with_reducible apply Frame.forEach; on_goal 2 => intro t a hs)
    | dsimp -zeta only
    | split
    | (rw [mk_put]; with_reducible apply Frame.upd)

def m_cvuWord : Nat := 0xf9800000400000000000000000000000000000004000380
theorem fr_cvuWord (s : State) (m : Nat) (a : Nat) (be : Nat) (data : Sys2Proof.Word) : Frame m_cvuWord s (State.cvuWord s m a be data) := by
  unfold State.cvuWord
  repeat' first
    | with_reducible assumption
    | with_reducible exact Frame.refl _ _
    | lift_lets -underBinder
    | (with_reducible apply Frame.after (fr_cvuBus ..); (on_goal 2 => decide +kernel))

def m_writeAs : Nat := 0xf9800a1f400006000009c00000000000000000024200b82
theorem fr_writeAs (s : State) (src : Sys2Proof.Src) (k : Nat) (a : Nat) (be : Nat) (data : Sys2Proof.Word) : Frame m_writeAs s (State.writeAs s src k a be data) := by
  unfold State.writeAs
  repeat' first
    | with_reducible assumption
    | with_reducible exact Frame.refl _ _
    | (intro x; first
        | (refine Frame.cut (w := m_writeAs) (s := s) x ?_ ?_
           on_goal 2 => intro hx; clear_value x
           on_goal 1 => unfold x; clear x)
        | clear_value x
        | skip)
    | lift_lets -underBinder
    | (with_reducible apply Frame.after (fr_writeKey ..); (on_goal 2 => decide +kernel))
    | (with_reducible apply Frame.after (fr_cvuWord ..); (on_goal 2 => decide +kernel))
    | (with_reducible apply Frame.after (fr_violation ..); (on_goal 2 => decide +kernel))
    | dsimp -zeta only
    | split

def m_writeBar : Nat := 0xf9800a1f400006000009c00000000000000000024200b82
theorem fr_writeBar (s : State) (src : Sys2Proof.Src) (off : Nat) (be : Nat) (data : Sys2Proof.Word) : Frame m_writeBar s (State.writeBar s src off be data) := by
  unfold State.writeBar
  repeat' first
    | with_reducible assumption
    | with_reducible exact Frame.refl _ _
    | (intro x; first
        | (refine Frame.cut (w := m_writeBar) (s := s) x ?_ ?_
           on_goal 2 => intro hx; clear_value x
           on_goal 1 => unfold x; clear x)
        | clear_value x
        | skip)
    | lift_lets -underBinder
    | (with_reducible apply Frame.after (fr_writeAs ..); (on_goal 2 => decide +kernel))

def m_showWords : Nat := 0x4000000
theorem fr_showWords (s : State) (l : List Sys2Proof.Word) : Frame m_showWords s (State.showWords s l) := by
  unfold State.showWords
  repeat' first
    | with_reducible assumption
    | with_reducible exact Frame.refl _ _
    | (with_reducible exact .inl rfl)
    | exact .inr (by decide +kernel)
    | (intro x; first
        | (refine Frame.cut (w := m_showWords) (s := s) x ?_ ?_
           on_goal 2 => intro hx; clear_value x
           on_goal 1 => unfold x; clear x)
        | clear_value x
        | skip)
    | lift_lets -underBinder
    | dsimp -zeta only
    | split
    | (rw [mk_put]; with_reducible apply Frame.upd)

def m_readShown : Nat := 0x4000003f400000000001c00000000000000000024200b81
theorem fr_readShown (s : State) (src : Sys2Proof.Src) (off : Nat) (be : Nat) : Frame m_readShown s (State.readShown s src off be) := by
  unfold State.readShown
  repeat' first
    | with_reducible assumption
    | with_reducible exact Frame.refl _ _
    | lift_lets -underBinder
    | (with_reducible apply Frame.after (fr_showWords ..); (on_goal 2 => decide +kernel))
    | (with_reducible apply Frame.after (fr_readBar ..); (on_goal 2 => decide +kernel))

def m_effRegisterWrite : Nat := 0xf9800a1f400046000009c00000000000000000024200b82
theorem fr_effRegisterWrite (src : Sys2Proof.Src) (off : Nat) (be : Nat) (data : Sys2Proof.Word) (poisoned : Bool) (s : State) : Frame m_effRegisterWrite s (effRegisterWrite src off be data poisoned s) := by
  unfold effRegisterWrite
  repeat' first
    | with_reducible assumption
    | with_reducible exact Frame.refl _ _
    | lift_lets -underBinder
    | (with_reducible apply Frame.incS; (on_goal 2 => decide +kernel))
    | (with_reducible apply Frame.after (fr_writeBar ..); (on_goal 2 => decide +kernel))
    | dsimp -zeta only
    | split

def m_effCvuValWrite : Nat := 0xf9800a1f400006000009c00000000000000000024200b82
theorem fr_effCvuValWrite (src : Sys2Proof.Src) (u : Nat) (off : Nat) (be : Nat) (data : Sys2Proof.Word) (closes : Bool) (bytes : List Sys2Proof.Byte) (s : State) : Frame m_effCvuValWrite s (effCvuValWrite src u off be data closes bytes s) := by
  unfold effCvuValWrite
  repeat' first
    | with_reducible assumption
    | with_reducible exact Frame.refl _ _
    | (intro x; first
        | (refine Frame.cut (w := m_effCvuValWrite) (s := s) x ?_ ?_
           on_goal 2 => intro hx; clear_value x
           on_goal 1 => unfold x; clear x)
        | clear_value x
        | skip)
    | lift_lets -underBinder
    | (with_reducible apply Frame.after (fr_writeBar ..); (on_goal 2 => decide +kernel))
    | (with_reducible apply Frame.after (fr_cvuClose ..); (on_goal 2 => decide +kernel))
    | (with_reducible apply Frame.after (fr_effCvuWindowClose ..); (on_goal 2 => decide +kernel))
    | (with_reducible apply Frame.after (fr_cvuFeed ..); (on_goal 2 => decide +kernel))
    | dsimp -zeta only
    | split

end Sys2Proof.Laws
end

