-- ==== Sys2Proof/Laws/FrameBus.lean ====
section
/-!
SUPPORT. Sys2Proof/Laws/FrameBus.lean: what each operation of Machine/Bus.lean leaves unchanged.
-/
namespace Sys2Proof.Laws

set_option Elab.async false
set_option linter.unusedTactic false
set_option linter.unreachableTactic false

open Sys2Proof.Machine

def m_putByte : Nat := 0x2000000
theorem fr_putByte (s : State) (a : Nat) (b : Sys2Proof.Byte) : Frame m_putByte s (State.putByte s a b) := by
  unfold State.putByte
  repeat' first
    | with_reducible assumption
    | with_reducible exact Frame.refl _ _
    | (with_reducible exact .inl rfl)
    | exact .inr (by decide +kernel)
    | exact .inr ⟨by decide +kernel, twf_filter _ _ _⟩
    | exact .inr ⟨by decide +kernel, twf_tset _ _ _ _⟩
    | lift_lets -underBinder
    | dsimp -zeta only
    | split
    | (rw [mk_put]; with_reducible apply Frame.upd)

def m_dropBytes : Nat := 0x2000000
theorem fr_dropBytes (s : State) (a : Nat) (n : Nat) : Frame m_dropBytes s (State.dropBytes s a n) := by
  unfold State.dropBytes
  repeat' first
    | with_reducible assumption
    | with_reducible exact Frame.refl _ _
    | (with_reducible exact .inl rfl)
    | exact .inr (by decide +kernel)
    | exact .inr ⟨by decide +kernel, twf_filter _ _ _⟩
    | lift_lets -underBinder
    | dsimp -zeta only
    | split
    | (rw [mk_put]; with_reducible apply Frame.upd)

def m_semTake : Nat := 0x100000000000000000000000000000
theorem fr_semTake (s : State) (m : Nat) (n : Nat) : Frame m_semTake s (State.semTake s m n).2 := by
  unfold State.semTake
  repeat' first
    | with_reducible assumption
    | with_reducible exact Frame.refl _ _
    | (intro x; first
        | (refine Frame.cut (w := m_semTake) (s := s) x ?_ ?_
           on_goal 2 => intro hx; clear_value x
           on_goal 1 => unfold x; clear x)
        | clear_value x
        | skip)
    | lift_lets -underBinder
    | (with_reducible apply Frame.setBS; (on_goal 2 => decide +kernel))
    | (with_reducible apply Frame.setS; (on_goal 2 => decide +kernel))
    | dsimp -zeta only
    | split

def m_readReg : Nat := 0x4000003f400000000101c00000000000000000024200b81
theorem fr_readReg (s : State) (src : Sys2Proof.Src) (a : Nat) (be : Nat) : Frame m_readReg s (State.readReg s src a be).2 := by
  unfold State.readReg
  repeat' first
    | with_reducible assumption
    | with_reducible exact Frame.refl _ _
    | (intro x; first
        | (refine Frame.cut (w := m_readReg) (s := s) x ?_ ?_
           on_goal 2 => intro hx; clear_value x
           on_goal 1 => unfold x; clear x)
        | clear_value x
        | skip)
    | lift_lets -underBinder
    | (with_reducible apply Frame.after (fr_violation ..); (on_goal 2 => decide +kernel))
    | (with_reducible apply Frame.after (fr_semTake ..); (on_goal 2 => decide +kernel))
    | (with_reducible apply Frame.after (fr_readBar ..); (on_goal 2 => decide +kernel))
    | (with_reducible apply Frame.after (fr_readAs ..); (on_goal 2 => decide +kernel))
    | dsimp -zeta only
    | split

def m_kick : Nat := 0x200000
theorem fr_kick (s : State) : Frame m_kick s (State.kick s) := by
  unfold State.kick
  repeat' first
    | with_reducible assumption
    | with_reducible exact Frame.refl _ _
    | (with_reducible exact .inl rfl)
    | exact .inr (by decide +kernel)
    | (intro x; first
        | (refine Frame.cut (w := m_kick) (s := s) x ?_ ?_
           on_goal 2 => intro hx; clear_value x
           on_goal 1 => unfold x; clear x)
        | clear_value x
        | skip)
    | lift_lets -underBinder
    | dsimp -zeta only
    | split
    | (rw [mk_put]; with_reducible apply Frame.upd)

def m_writeReg : Nat := 0xf9800a1f400006000109c00000000000000000024200b82
theorem fr_writeReg (s : State) (src : Sys2Proof.Src) (a : Nat) (be : Nat) (data : Sys2Proof.Word) : Frame m_writeReg s (State.writeReg s src a be data) := by
  unfold State.writeReg
  repeat' first
    | with_reducible assumption
    | with_reducible exact Frame.refl _ _
    | lift_lets -underBinder
    | (with_reducible apply Frame.after (fr_kick ..); (on_goal 2 => decide +kernel))
    | (with_reducible apply Frame.after (fr_semFree ..); (on_goal 2 => decide +kernel))
    | (with_reducible apply Frame.after (fr_writeBar ..); (on_goal 2 => decide +kernel))
    | (with_reducible apply Frame.after (fr_cvuWord ..); (on_goal 2 => decide +kernel))
    | (with_reducible apply Frame.after (fr_writeAs ..); (on_goal 2 => decide +kernel))
    | (with_reducible apply Frame.after (fr_violation ..); (on_goal 2 => decide +kernel))
    | dsimp -zeta only
    | split

def m_decodeErr : Nat := 0x400000000002000000000000000000004000380
theorem fr_decodeErr (s : State) (m : Nat) (a : Nat) : Frame m_decodeErr s (State.decodeErr s m a) := by
  unfold State.decodeErr
  repeat' first
    | with_reducible assumption
    | with_reducible exact Frame.refl _ _
    | lift_lets -underBinder
    | (with_reducible apply Frame.incS; (on_goal 2 => decide +kernel))
    | (with_reducible apply Frame.after (fr_report ..); (on_goal 2 => decide +kernel))

def m_bankRefuse : Nat := 0x400000000020000000000000000000004000380
theorem fr_bankRefuse (s : State) (m : Nat) (n : Nat) (a : Nat) (off : Bool) : Frame m_bankRefuse s (State.bankRefuse s m n a off) := by
  unfold State.bankRefuse
  repeat' first
    | with_reducible assumption
    | with_reducible exact Frame.refl _ _
    | (intro x; first
        | (refine Frame.cut (w := m_bankRefuse) (s := s) x ?_ ?_
           on_goal 2 => intro hx; clear_value x
           on_goal 1 => unfold x; clear x)
        | clear_value x
        | skip)
    | lift_lets -underBinder
    | (with_reducible apply Frame.incS; (on_goal 2 => decide +kernel))
    | (with_reducible apply Frame.after (fr_report ..); (on_goal 2 => decide +kernel))
    | dsimp -zeta only
    | split

def m_bankEcc : Nat := 0x702000000010000000000000000000004000380
theorem fr_bankEcc (s : State) (n : Nat) (corr : Nat) (ue : List Nat) : Frame m_bankEcc s (State.bankEcc s n corr ue) := by
  unfold State.bankEcc
  repeat' first
    | with_reducible assumption
    | with_reducible exact Frame.refl _ _
    | (intro x; first
        | (refine Frame.cut (w := m_bankEcc) (s := s) x ?_ ?_
           on_goal 2 => intro hx; clear_value x
           on_goal 1 => unfold x; clear x)
        | clear_value x
        | skip)
    | lift_lets -underBinder
    | (with_reducible apply Frame.incS; (on_goal 2 => decide +kernel))
    | (with_reducible apply Frame.after (fr_report ..); (on_goal 2 => decide +kernel))
    | (with_reducible apply Frame.after (fr_recorderFault ..); (on_goal 2 => decide +kernel))
    | (with_reducible apply Frame.forEach; on_goal 2 => intro t a hs)
    | dsimp -zeta only
    | split

def m_countGrant : Nat := 0x200
theorem fr_countGrant (s : State) (m : Nat) (target : Nat) (write : Bool) (ddr : Option Nat) : Frame m_countGrant s (State.countGrant s m target write ddr) := by
  unfold State.countGrant
  repeat' first
    | with_reducible assumption
    | with_reducible exact Frame.refl _ _
    | (intro x; first
        | (refine Frame.cut (w := m_countGrant) (s := s) x ?_ ?_
           on_goal 2 => intro hx; clear_value x
           on_goal 1 => unfold x; clear x)
        | clear_value x
        | skip)
    | lift_lets -underBinder
    | (with_reducible apply Frame.after (fr_count ..); (on_goal 2 => decide +kernel))
    | dsimp -zeta only
    | split

def m_stall : Nat := 0x200000000000000000000000200
theorem fr_stall (s : State) (m : Nat) (target : Nat) (n : Nat) : Frame m_stall s (State.stall s m target n) := by
  unfold State.stall
  repeat' first
    | with_reducible assumption
    | with_reducible exact Frame.refl _ _
    | (intro x; first
        | (refine Frame.cut (w := m_stall) (s := s) x ?_ ?_
           on_goal 2 => intro hx; clear_value x
           on_goal 1 => unfold x; clear x)
        | clear_value x
        | skip)
    | lift_lets -underBinder
    | (with_reducible apply Frame.incS; (on_goal 2 => decide +kernel))
    | (with_reducible apply Frame.after (fr_count ..); (on_goal 2 => decide +kernel))

def m_fastBytes : Nat := 0x800
theorem fr_fastBytes (s : State) (p : Nat) (o : Nat) (n : Nat) : Frame m_fastBytes s (State.fastBytes s p o n).2 := by
  unfold State.fastBytes
  repeat' first
    | with_reducible assumption
    | with_reducible exact Frame.refl _ _
    | lift_lets -underBinder
    | (with_reducible apply Frame.after (fr_draw ..); (on_goal 2 => decide +kernel))

def m_beat : Nat := 0xf9800a3f400006000109c00000000000000000026200b83
theorem fr_beat (s : State) (q : Sys2Proof.BusReq) (a : Nat) (n : Nat) (l : List (Option Sys2Proof.Byte)) : Frame m_beat s (State.beat s q a n l).2 := by
  unfold State.beat
  repeat' first
    | with_reducible assumption
    | with_reducible exact Frame.refl _ _
    | (intro x; first
        | (refine Frame.cut (w := m_beat) (s := s) x ?_ ?_
           on_goal 2 => intro hx; clear_value x
           on_goal 1 => unfold x; clear x)
        | (refine Frame.cut (w := m_beat) (s := s) x.1 ?_ ?_
           on_goal 2 => intro hx; clear_value x
           on_goal 1 => unfold x; clear x)
        | (refine Frame.cut (w := m_beat) (s := s) x.2 ?_ ?_
           on_goal 2 => intro hx; clear_value x
           on_goal 1 => unfold x; clear x)
        | clear_value x
        | skip)
    | lift_lets -underBinder
    | (with_reducible apply Frame.after (fr_draw ..); (on_goal 2 => decide +kernel))
    | (with_reducible apply Frame.after (fr_readReg ..); (on_goal 2 => decide +kernel))
    | (with_reducible apply Frame.after (fr_fastBytes ..); (on_goal 2 => decide +kernel))
    | (with_reducible apply Frame.after (fr_putByte ..); (on_goal 2 => decide +kernel))
    | (with_reducible apply Frame.after (fr_writeReg ..); (on_goal 2 => decide +kernel))
    | (with_reducible apply Frame.forEach; on_goal 2 => intro t a hs)
    | (with_reducible apply Frame.forEach2; on_goal 2 => intro t b hs)
    | dsimp -zeta only
    | split

def m_worldBeat : Nat := 0xf9800a3f400006000109c00000000000000000026200b83
theorem fr_worldBeat (s : State) (q : Sys2Proof.BusReq) (refused : Bool) (a : Nat) (n : Nat) (l : List (Option Sys2Proof.Byte)) : Frame m_worldBeat s (State.worldBeat s q refused a n l).2 := by
  unfold State.worldBeat
  repeat' first
    | with_reducible assumption
    | with_reducible exact Frame.refl _ _
    | (intro x; first
        | (refine Frame.cut (w := m_worldBeat) (s := s) x ?_ ?_
           on_goal 2 => intro hx; clear_value x
           on_goal 1 => unfold x; clear x)
        | (refine Frame.cut (w := m_worldBeat) (s := s) x.1 ?_ ?_
           on_goal 2 => intro hx; clear_value x
           on_goal 1 => unfold x; clear x)
        | (refine Frame.cut (w := m_worldBeat) (s := s) x.2 ?_ ?_
           on_goal 2 => intro hx; clear_value x
           on_goal 1 => unfold x; clear x)
        | clear_value x
        | skip)
    | lift_lets -underBinder
    | (with_reducible apply Frame.after (fr_beat ..); (on_goal 2 => decide +kernel))
    | (with_reducible apply Frame.after (fr_cvuBus ..); (on_goal 2 => decide +kernel))
    | (with_reducible apply Frame.after (fr_violation ..); (on_goal 2 => decide +kernel))
    | dsimp -zeta only
    | split

def m_access : Nat := 0x7c00000000000000000000f9800e3f70200600013bc0000b800000000000026230b93
theorem fr_access (s : State) (q : Sys2Proof.BusReq) : Frame m_access s (State.access s q) := by
  unfold State.access
  repeat' first
    | with_reducible assumption
    | with_reducible exact Frame.refl _ _
    | (with_reducible exact .inl rfl)
    | exact .inr (by decide +kernel)
    | (intro x; first
        | (refine Frame.cut (w := m_access) (s := s) x ?_ ?_
           on_goal 2 => intro hx; clear_value x
           on_goal 1 => unfold x; clear x)
        | (refine Frame.cut (w := m_access) (s := s) x.1 ?_ ?_
           on_goal 2 => intro hx; clear_value x
           on_goal 1 => unfold x; clear x)
        | (refine Frame.cut (w := m_access) (s := s) x.2 ?_ ?_
           on_goal 2 => intro hx; clear_value x
           on_goal 1 => unfold x; clear x)
        | clear_value x
        | skip)
    | lift_lets -underBinder
    | (with_reducible apply Frame.incS; (on_goal 2 => decide +kernel))
    | (with_reducible apply Frame.after (fr_ddrUncorr ..); (on_goal 2 => decide +kernel))
    | (with_reducible apply Frame.after (fr_showWords ..); (on_goal 2 => decide +kernel))
    | (with_reducible apply Frame.after (fr_worldBeat ..); (on_goal 2 => decide +kernel))
    | (with_reducible apply Frame.after (fr_decodeErr ..); (on_goal 2 => decide +kernel))
    | (with_reducible apply Frame.after (fr_masterReset ..); (on_goal 2 => decide +kernel))
    | (with_reducible apply Frame.after (fr_report ..); (on_goal 2 => decide +kernel))
    | (with_reducible apply Frame.after (fr_bankRefuse ..); (on_goal 2 => decide +kernel))
    | (with_reducible apply Frame.after (fr_ddrCorr ..); (on_goal 2 => decide +kernel))
    | (with_reducible apply Frame.after (fr_bankEcc ..); (on_goal 2 => decide +kernel))
    | (with_reducible apply Frame.forEach; on_goal 2 => intro t a hs)
    | (with_reducible apply Frame.forEach2; on_goal 2 => intro t b hs)
    | dsimp -zeta only
    | split
    | (rw [mk_put]; with_reducible apply Frame.upd)

def m_lockedAccess : Nat := 0x7c00000000000000000000f9800e3f70200600013bc0000b800000000000026230b93
theorem fr_lockedAccess (s : State) (q : Sys2Proof.BusReq) (range : Nat) : Frame m_lockedAccess s (State.lockedAccess s q range) := by
  unfold State.lockedAccess
  repeat' first
    | with_reducible assumption
    | with_reducible exact Frame.refl _ _
    | (with_reducible exact .inl rfl)
    | exact .inr (by decide +kernel)
    | (intro x; first
        | (refine Frame.cut (w := m_lockedAccess) (s := s) x ?_ ?_
           on_goal 2 => intro hx; clear_value x
           on_goal 1 => unfold x; clear x)
        | clear_value x
        | skip)
    | lift_lets -underBinder
    | (with_reducible apply Frame.after (fr_access ..); (on_goal 2 => decide +kernel))
    | (with_reducible apply Frame.after (fr_setLock ..); (on_goal 2 => decide +kernel))
    | dsimp -zeta only
    | split
    | (rw [mk_put]; with_reducible apply Frame.upd)

def m_effBusAccess : Nat := 0x7c00000000000000000000f9800e3f70200600013be0000b800000000000026230b93
theorem fr_effBusAccess (reqs : List Sys2Proof.BusReq) (s : State) : Frame m_effBusAccess s (effBusAccess reqs s) := by
  unfold effBusAccess
  repeat' first
    | with_reducible assumption
    | with_reducible exact Frame.refl _ _
    | (intro x; first
        | (refine Frame.cut (w := m_effBusAccess) (s := s) x ?_ ?_
           on_goal 2 => intro hx; clear_value x
           on_goal 1 => unfold x; clear x)
        | (refine Frame.cut (w := m_effBusAccess) (s := s) x.1 ?_ ?_
           on_goal 2 => intro hx; clear_value x
           on_goal 1 => unfold x; clear x)
        | (refine Frame.cut (w := m_effBusAccess) (s := s) x.2 ?_ ?_
           on_goal 2 => intro hx; clear_value x
           on_goal 1 => unfold x; clear x)
        | clear_value x
        | skip)
    | lift_lets -underBinder
    | (with_reducible apply Frame.after (fr_stall ..); (on_goal 2 => decide +kernel))
    | (with_reducible apply Frame.after (fr_lockedAccess ..); (on_goal 2 => decide +kernel))
    | (with_reducible apply Frame.after (fr_countGrant ..); (on_goal 2 => decide +kernel))
    | (with_reducible apply Frame.forEach; on_goal 2 => intro t a hs)
    | dsimp -zeta only
    | split

def m_effLockTimeout : Nat := 0x400000000002000000000000000000004200380
theorem fr_effLockTimeout (m : Nat) (s : State) : Frame m_effLockTimeout s (effLockTimeout m s) := by
  unfold effLockTimeout
  repeat' first
    | with_reducible assumption
    | with_reducible exact Frame.refl _ _
    | lift_lets -underBinder
    | (with_reducible apply Frame.incS; (on_goal 2 => decide +kernel))
    | (with_reducible apply Frame.after (fr_report ..); (on_goal 2 => decide +kernel))
    | (with_reducible apply Frame.after (fr_setLock ..); (on_goal 2 => decide +kernel))
    | dsimp -zeta only
    | split

def m_effSemaphoreRead : Nat := 0x4000003f400000000101e00000000000000000024200b81
theorem fr_effSemaphoreRead (n : Nat) (srcs : List Sys2Proof.Src) (s : State) : Frame m_effSemaphoreRead s (effSemaphoreRead n srcs s) := by
  unfold effSemaphoreRead
  repeat' first
    | with_reducible assumption
    | with_reducible exact Frame.refl _ _
    | (intro x; first
        | (refine Frame.cut (w := m_effSemaphoreRead) (s := s) x ?_ ?_
           on_goal 2 => intro hx; clear_value x
           on_goal 1 => unfold x; clear x)
        | (refine Frame.cut (w := m_effSemaphoreRead) (s := s) x.1 ?_ ?_
           on_goal 2 => intro hx; clear_value x
           on_goal 1 => unfold x; clear x)
        | (refine Frame.cut (w := m_effSemaphoreRead) (s := s) x.2 ?_ ?_
           on_goal 2 => intro hx; clear_value x
           on_goal 1 => unfold x; clear x)
        | clear_value x
        | skip)
    | lift_lets -underBinder
    | (with_reducible apply Frame.after (fr_stall ..); (on_goal 2 => decide +kernel))
    | (with_reducible apply Frame.after (fr_showWords ..); (on_goal 2 => decide +kernel))
    | (with_reducible apply Frame.after (fr_readReg ..); (on_goal 2 => decide +kernel))
    | (with_reducible apply Frame.forEach2; on_goal 2 => intro t b hs)
    | dsimp -zeta only
    | split

def m_effSemaphoreRelease : Nat := 0xf9800a1f400006000109c00000000000000000024200b82
theorem fr_effSemaphoreRelease (n : Nat) (src : Sys2Proof.Src) (data : Sys2Proof.Word) (s : State) : Frame m_effSemaphoreRelease s (effSemaphoreRelease n src data s) := by
  unfold effSemaphoreRelease
  repeat' first
    | with_reducible assumption
    | with_reducible exact Frame.refl _ _
    | lift_lets -underBinder
    | (with_reducible apply Frame.after (fr_writeReg ..); (on_goal 2 => decide +kernel))
    | dsimp -zeta only
    | split

def m_effWatchdogKick : Nat := 0xf9800a1f400006000109c00000000000000000024200b82
theorem fr_effWatchdogKick (src : Sys2Proof.Src) (s : State) : Frame m_effWatchdogKick s (effWatchdogKick src s) := by
  unfold effWatchdogKick
  repeat' first
    | with_reducible assumption
    | with_reducible exact Frame.refl _ _
    | lift_lets -underBinder
    | (with_reducible apply Frame.after (fr_writeReg ..); (on_goal 2 => decide +kernel))
    | dsimp -zeta only
    | split

def m_giveBank : Nat := 0x48000000000000000000000000000
theorem fr_giveBank (s : State) (n : Nat) (m : Nat) : Frame m_giveBank s (State.giveBank s n m) := by
  unfold State.giveBank
  repeat' first
    | with_reducible assumption
    | with_reducible exact Frame.refl _ _
    | lift_lets -underBinder
    | (with_reducible apply Frame.setS; (on_goal 2 => decide +kernel))

def m_effBankHandover : Nat := 0x400000000048000000000000000000004200380
theorem fr_effBankHandover (n : Nat) (s : State) : Frame m_effBankHandover s (effBankHandover n s) := by
  unfold effBankHandover
  repeat' first
    | with_reducible assumption
    | with_reducible exact Frame.refl _ _
    | (with_reducible exact .inl rfl)
    | exact .inr (by decide +kernel)
    | (intro x; first
        | (refine Frame.cut (w := m_effBankHandover) (s := s) x ?_ ?_
           on_goal 2 => intro hx; clear_value x
           on_goal 1 => unfold x; clear x)
        | (refine Frame.cut (w := m_effBankHandover) (s := s) x.1 ?_ ?_
           on_goal 2 => intro hx; clear_value x
           on_goal 1 => unfold x; clear x)
        | (refine Frame.cut (w := m_effBankHandover) (s := s) x.2 ?_ ?_
           on_goal 2 => intro hx; clear_value x
           on_goal 1 => unfold x; clear x)
        | clear_value x
        | skip)
    | lift_lets -underBinder
    | (with_reducible apply Frame.setBS; (on_goal 2 => decide +kernel))
    | (with_reducible apply Frame.after (fr_giveBank ..); (on_goal 2 => decide +kernel))
    | (with_reducible apply Frame.after (fr_report ..); (on_goal 2 => decide +kernel))
    | dsimp -zeta only
    | split
    | (rw [mk_put]; with_reducible apply Frame.upd)

def m_masterExpired : Nat := 0x40000000014c000000000000000000004000380
theorem fr_masterExpired (s : State) (m : Nat) : Frame m_masterExpired s (State.masterExpired s m) := by
  unfold State.masterExpired
  repeat' first
    | with_reducible assumption
    | with_reducible exact Frame.refl _ _
    | (intro x; first
        | (refine Frame.cut (w := m_masterExpired) (s := s) x ?_ ?_
           on_goal 2 => intro hx; clear_value x
           on_goal 1 => unfold x; clear x)
        | clear_value x
        | skip)
    | lift_lets -underBinder
    | (with_reducible apply Frame.setS; (on_goal 2 => decide +kernel))
    | (with_reducible apply Frame.after (fr_giveBank ..); (on_goal 2 => decide +kernel))
    | (with_reducible apply Frame.after (fr_report ..); (on_goal 2 => decide +kernel))
    | (with_reducible apply Frame.after (fr_semFreeAll ..); (on_goal 2 => decide +kernel))
    | (with_reducible apply Frame.forEach; on_goal 2 => intro t a hs)
    | dsimp -zeta only
    | split

def m_effMasterWatchdogExpiry : Nat := 0x40000000014c000000000000000000004000380
theorem fr_effMasterWatchdogExpiry (m : Nat) (s : State) : Frame m_effMasterWatchdogExpiry s (effMasterWatchdogExpiry m s) := by
  unfold effMasterWatchdogExpiry
  repeat' first
    | with_reducible assumption
    | with_reducible exact Frame.refl _ _
    | lift_lets -underBinder
    | (with_reducible apply Frame.after (fr_masterExpired ..); (on_goal 2 => decide +kernel))
    | dsimp -zeta only
    | split

def m_wakeBank : Nat := 0x8000000000000000000000000000
theorem fr_wakeBank (s : State) (n : Nat) : Frame m_wakeBank s (State.wakeBank s n) := by
  unfold State.wakeBank
  repeat' first
    | with_reducible assumption
    | with_reducible exact Frame.refl _ _
    | lift_lets -underBinder
    | (with_reducible apply Frame.setS; (on_goal 2 => decide +kernel))
    | dsimp -zeta only
    | split

def m_restBank : Nat := 0x8000000000000000000002000000
theorem fr_restBank (s : State) (n : Nat) : Frame m_restBank s (State.restBank s n) := by
  unfold State.restBank
  repeat' first
    | with_reducible assumption
    | with_reducible exact Frame.refl _ _
    | (intro x; first
        | (refine Frame.cut (w := m_restBank) (s := s) x ?_ ?_
           on_goal 2 => intro hx; clear_value x
           on_goal 1 => unfold x; clear x)
        | (refine Frame.cut (w := m_restBank) (s := s) x.1 ?_ ?_
           on_goal 2 => intro hx; clear_value x
           on_goal 1 => unfold x; clear x)
        | (refine Frame.cut (w := m_restBank) (s := s) x.2 ?_ ?_
           on_goal 2 => intro hx; clear_value x
           on_goal 1 => unfold x; clear x)
        | clear_value x
        | skip)
    | lift_lets -underBinder
    | (with_reducible apply Frame.setS; (on_goal 2 => decide +kernel))
    | (with_reducible apply Frame.after (fr_dropBytes ..); (on_goal 2 => decide +kernel))
    | dsimp -zeta only
    | split

def m_effBankWakeDone : Nat := 0x8000000000000000000000000000
theorem fr_effBankWakeDone (n : Nat) (s : State) : Frame m_effBankWakeDone s (effBankWakeDone n s) := by
  unfold effBankWakeDone
  repeat' first
    | with_reducible assumption
    | with_reducible exact Frame.refl _ _
    | lift_lets -underBinder
    | (with_reducible apply Frame.setS; (on_goal 2 => decide +kernel))
    | dsimp -zeta only
    | split

def m_effSecdedScrub : Nat := 0x3d3fc00000000000000000000000070200000001000400b80058020000000401c3b0
theorem fr_effSecdedScrub (x : Sys2Proof.ScrubIn) (s : State) : Frame m_effSecdedScrub s (effSecdedScrub x s) := by
  unfold effSecdedScrub
  repeat' first
    | with_reducible assumption
    | with_reducible exact Frame.refl _ _
    | (intro x; first
        | (refine Frame.cut (w := m_effSecdedScrub) (s := s) x ?_ ?_
           on_goal 2 => intro hx; clear_value x
           on_goal 1 => unfold x; clear x)
        | (refine Frame.cut (w := m_effSecdedScrub) (s := s) x.1 ?_ ?_
           on_goal 2 => intro hx; clear_value x
           on_goal 1 => unfold x; clear x)
        | (refine Frame.cut (w := m_effSecdedScrub) (s := s) x.2 ?_ ?_
           on_goal 2 => intro hx; clear_value x
           on_goal 1 => unfold x; clear x)
        | clear_value x
        | skip)
    | lift_lets -underBinder
    | (with_reducible apply Frame.incS; (on_goal 2 => decide +kernel))
    | (with_reducible apply Frame.after (fr_ctxEcc ..); (on_goal 2 => decide +kernel))
    | (with_reducible apply Frame.after (fr_bankEcc ..); (on_goal 2 => decide +kernel))
    | (with_reducible apply Frame.after (fr_ctxCorr ..); (on_goal 2 => decide +kernel))
    | (with_reducible apply Frame.forEach; on_goal 2 => intro t a hs)
    | dsimp -zeta only
    | split

end Sys2Proof.Laws
end

