-- ==== Sys2Proof/Laws/FrameBoot.lean ====
section
/-!
SUPPORT. Sys2Proof/Laws/FrameBoot.lean: what each operation of Machine/Boot.lean leaves unchanged.
-/
namespace Sys2Proof.Laws

set_option Elab.async false
set_option linter.unusedTactic false
set_option linter.unreachableTactic false

open Sys2Proof.Machine

def m_showFuses : Nat := 0x8000000000000000088700000000
theorem fr_showFuses (s : State) : Frame m_showFuses s (State.showFuses s) := by
  unfold State.showFuses
  repeat' first
    | with_reducible assumption
    | with_reducible exact Frame.refl _ _
    | (intro x; first
        | (refine Frame.cut (w := m_showFuses) (s := s) x ?_ ?_
           on_goal 2 => intro hx; clear_value x
           on_goal 1 => unfold x; clear x)
        | (refine Frame.cut (w := m_showFuses) (s := s) x.1 ?_ ?_
           on_goal 2 => intro hx; clear_value x
           on_goal 1 => unfold x; clear x)
        | (refine Frame.cut (w := m_showFuses) (s := s) x.2 ?_ ?_
           on_goal 2 => intro hx; clear_value x
           on_goal 1 => unfold x; clear x)
        | clear_value x
        | skip)
    | lift_lets -underBinder
    | (with_reducible apply Frame.setS; (on_goal 2 => decide +kernel))
    | (with_reducible apply Frame.set64S; (on_goal 2 => decide +kernel); (on_goal 2 => decide +kernel))
    | (with_reducible apply Frame.forEach; on_goal 2 => intro t a hs)

def m_setFuse : Nat := 0x80000000000000000887000c0000
theorem fr_setFuse {v : Nat} {s x : State} {f : Fuses} (h : Frame v s x) (hb : (m_setFuse ||| v) = v)
    (hf : Safety.FusesHeld x.boot.fuse f) : Frame v s (x.setFuse f) := by
  have b18 : m_setFuse.testBit 18 = true := by decide +kernel
  have b19 : m_setFuse.testBit 19 = true := by decide +kernel
  unfold State.setFuse
  refine Frame.step ?_ (fr_showFuses ..) (Nat.eq_of_testBit_eq fun i => ?_)
  · rw [mk_put]
    apply Frame.upd h <;> first
      | exact .inl rfl
      | exact .inr (testBit_up hb b19)
      | exact .inr ⟨testBit_up hb b18, hf⟩
  · rw [Nat.testBit_or, Bool.or_eq_right_iff_imp]
    intro hi
    refine testBit_up hb ?_
    have : (m_showFuses ||| m_setFuse) = m_setFuse := by decide +kernel
    exact testBit_up this hi

def m_wipeSecure : Nat := 0x7fffe00000000000000000000004400300
theorem fr_wipeSecure (s : State) : Frame m_wipeSecure s (State.wipeSecure s) := by
  unfold State.wipeSecure
  repeat' first
    | with_reducible assumption
    | with_reducible exact Frame.refl _ _
    | (with_reducible exact .inl rfl)
    | exact .inr (by decide +kernel)
    | (intro x; first
        | (refine Frame.cut (w := m_wipeSecure) (s := s) x ?_ ?_
           on_goal 2 => intro hx; clear_value x
           on_goal 1 => unfold x; clear x)
        | clear_value x
        | skip)
    | lift_lets -underBinder
    | (with_reducible apply Frame.setBS; (on_goal 2 => decide +kernel))
    | (with_reducible apply Frame.wipeMsgS; (on_goal 2 => decide +kernel))
    | (with_reducible apply Frame.after (fr_irqSet ..); (on_goal 2 => decide +kernel))
    | (with_reducible apply Frame.forEach; on_goal 2 => intro t a hs)
    | dsimp -zeta only
    | split
    | (rw [mk_put]; with_reducible apply Frame.upd)

def m_wipeMb5 : Nat := 0x80002000000
theorem fr_wipeMb5 (s : State) : Frame m_wipeMb5 s (State.wipeMb5 s) := by
  unfold State.wipeMb5
  repeat' first
    | with_reducible assumption
    | with_reducible exact Frame.refl _ _
    | lift_lets -underBinder
    | (with_reducible apply Frame.setBS; (on_goal 2 => decide +kernel))
    | (with_reducible apply Frame.after (fr_dropBytes ..); (on_goal 2 => decide +kernel))

def m_endSession : Nat := 0x100000000000000000000000000
theorem fr_endSession (s : State) : Frame m_endSession s (State.endSession s) := by
  unfold State.endSession
  repeat' first
    | with_reducible assumption
    | with_reducible exact Frame.refl _ _
    | lift_lets -underBinder
    | (with_reducible apply Frame.setBS; (on_goal 2 => decide +kernel))
    | dsimp -zeta only
    | split

def m_lcChanged : Nat := 0x400007fffe08100000000000000088706400380
theorem fr_lcChanged (s : State) (old : Nat) : Frame m_lcChanged s (State.lcChanged s old) := by
  unfold State.lcChanged
  repeat' first
    | with_reducible assumption
    | with_reducible exact Frame.refl _ _
    | (intro x; first
        | (refine Frame.cut (w := m_lcChanged) (s := s) x ?_ ?_
           on_goal 2 => intro hx; clear_value x
           on_goal 1 => unfold x; clear x)
        | clear_value x
        | skip)
    | lift_lets -underBinder
    | (with_reducible apply Frame.setBS; (on_goal 2 => decide +kernel))
    | (with_reducible apply Frame.after (fr_showFuses ..); (on_goal 2 => decide +kernel))
    | (with_reducible apply Frame.after (fr_report ..); (on_goal 2 => decide +kernel))
    | (with_reducible apply Frame.after (fr_wipeMb5 ..); (on_goal 2 => decide +kernel))
    | (with_reducible apply Frame.after (fr_wipeSecure ..); (on_goal 2 => decide +kernel))

def m_completeBurns : Nat := 0x400007fffe081000000000000000887064c0380
theorem fr_completeBurns (s : State) : Frame m_completeBurns s (State.completeBurns s) := by
  have key : ∀ (x : State) (f : Fuses) (k : Nat), Frame m_completeBurns s x → Safety.FusesHeld x.boot.fuse f →
      Frame m_completeBurns s (({ x with boot := { x.boot with fuse := f } } : State).lcChanged k) := by
    intro x f k h hf
    refine Frame.step ?_ (fr_lcChanged ..) (by decide +kernel)
    rw [mk_put]
    apply Frame.upd h <;> first
      | exact .inl rfl
      | exact .inr (by decide +kernel)
      | exact .inr ⟨by decide +kernel, hf⟩
  unfold State.completeBurns
  extract_lets part f b1 s1 f1 b2 s2 f2
  have h1 : Frame m_completeBurns s s1 := by
    unfold s1
    split
    · next hp =>
      refine key _ _ _ (Frame.refl _ _) ⟨?_, le_rfl, le_rfl, le_rfl, fun _ h => h⟩
      simp only [part, Bool.and_eq_true, decide_eq_true_eq] at hp
      exact hp.2.le
    · exact Frame.refl _ _
  have h2 : Frame m_completeBurns s s2 := by
    unfold s2
    split
    · next hp =>
      refine key _ _ _ h1 ⟨le_rfl, ?_, le_rfl, le_rfl, fun _ h => h⟩
      simp only [part, Bool.and_eq_true, decide_eq_true_eq] at hp
      exact hp.2.le
    · exact h1
  split
  · next hp =>
    refine key _ _ _ h2 ⟨le_rfl, le_rfl, ?_, le_rfl, fun _ h => h⟩
    simp only [part, Bool.and_eq_true, decide_eq_true_eq] at hp
    exact hp.2.le
  · exact h2

def m_tamperAct : Nat := 0x10000000000000000000400007fffe00100000000000000180006480380
theorem fr_tamperAct (s : State) (k : Nat) : Frame m_tamperAct s (State.tamperAct s k) := by
  unfold State.tamperAct
  repeat' first
    | with_reducible assumption
    | with_reducible exact Frame.refl _ _
    | (with_reducible exact .inl rfl)
    | exact .inr (by decide +kernel)
    | (intro x; first
        | (refine Frame.cut (w := m_tamperAct) (s := s) x ?_ ?_
           on_goal 2 => intro hx; clear_value x
           on_goal 1 => unfold x; clear x)
        | skip)
    | lift_lets -underBinder
    | (with_reducible apply Frame.setS; (on_goal 2 => decide +kernel))
    | (with_reducible apply Frame.after (fr_report ..); (on_goal 2 => decide +kernel))
    | (with_reducible apply Frame.after (fr_irqSet ..); (on_goal 2 => decide +kernel))
    | (with_reducible apply Frame.after (fr_wipeMb5 ..); (on_goal 2 => decide +kernel))
    | (with_reducible apply Frame.after (fr_wipeSecure ..); (on_goal 2 => decide +kernel))
    | (with_reducible apply Frame.after (fr_showSquelchAll ..); (on_goal 2 => decide +kernel))
    | (with_reducible apply Frame.after (fr_endSession ..); (on_goal 2 => decide +kernel))
    | dsimp -zeta only
    | split
    | (rw [mk_put]; with_reducible apply Frame.upd)

def m_showTamper : Nat := 0x100000000000
theorem fr_showTamper (s : State) : Frame m_showTamper s (State.showTamper s) := by
  unfold State.showTamper
  repeat' first
    | with_reducible assumption
    | with_reducible exact Frame.refl _ _
    | lift_lets -underBinder
    | (with_reducible apply Frame.setS; (on_goal 2 => decide +kernel))

def m_effTamperAssert : Nat := 0x10000000000000000000400007fffe00100000000000000180006480380
theorem fr_effTamperAssert (k : Nat) (s : State) : Frame m_effTamperAssert s (effTamperAssert k s) := by
  unfold effTamperAssert
  repeat' first
    | with_reducible assumption
    | with_reducible exact Frame.refl _ _
    | (with_reducible exact .inl rfl)
    | exact .inr (by decide +kernel)
    | (intro x; first
        | (refine Frame.cut (w := m_effTamperAssert) (s := s) x ?_ ?_
           on_goal 2 => intro hx; clear_value x
           on_goal 1 => unfold x; clear x)
        | clear_value x
        | skip)
    | lift_lets -underBinder
    | (with_reducible apply Frame.setBS; (on_goal 2 => decide +kernel))
    | (with_reducible apply Frame.after (fr_tamperAct ..); (on_goal 2 => decide +kernel))
    | (with_reducible apply Frame.after (fr_showTamper ..); (on_goal 2 => decide +kernel))
    | dsimp -zeta only
    | split
    | (rw [mk_put]; with_reducible apply Frame.upd)

def m_effTamperDeassert : Nat := 0x100000400000
theorem fr_effTamperDeassert (k : Nat) (s : State) : Frame m_effTamperDeassert s (effTamperDeassert k s) := by
  unfold effTamperDeassert
  repeat' first
    | with_reducible assumption
    | with_reducible exact Frame.refl _ _
    | (with_reducible exact .inl rfl)
    | exact .inr (by decide +kernel)
    | (intro x; first
        | (refine Frame.cut (w := m_effTamperDeassert) (s := s) x ?_ ?_
           on_goal 2 => intro hx; clear_value x
           on_goal 1 => unfold x; clear x)
        | clear_value x
        | skip)
    | lift_lets -underBinder
    | (with_reducible apply Frame.after (fr_showTamper ..); (on_goal 2 => decide +kernel))
    | dsimp -zeta only
    | split
    | (rw [mk_put]; with_reducible apply Frame.upd)

def m_porst : Nat := 0x1000000000000000000000001000000800000000000000018872afbf3ff
theorem fr_porst (s : State) (gasp : Bool) : Frame m_porst s (State.porst s gasp) := by
  have h : Frame m_porst s { s with regs := s.regs.filter fun p => domainOfKey [] p.1 == 1 } :=
    (Frame.refl _ _).regsAny (by decide +kernel) (twf_filter _ _ _)
  unfold State.porst
  dsimp only
  refine Frame.step (Frame.step ?_ (fr_showFuses ..) ?_) (fr_showSquelchAll ..) ?_
  · refine Frame.setBS (Frame.setBS ?_ ?_) ?_
    · rw [mk_put]
      exact Frame.upd h (.inr (by decide +kernel)) (.inr (by decide +kernel)) (.inr (by decide +kernel))
        (.inr (by decide +kernel)) (.inr (by decide +kernel)) (.inr (by decide +kernel)) (.inr (by decide +kernel))
        (.inr (by decide +kernel)) (.inr (by decide +kernel)) (.inr (by decide +kernel)) (.inl rfl) (.inl rfl)
        (.inr (by decide +kernel)) (.inr (by decide +kernel)) (.inr (by decide +kernel)) (.inr (by decide +kernel))
        (.inr (by decide +kernel)) (.inr (by decide +kernel)) (.inl rfl) (.inr (by decide +kernel)) (.inr (by decide +kernel))
        (.inr (by decide +kernel)) (.inr (by decide +kernel)) (.inr (by decide +kernel)) (.inl rfl)
        (.inr ⟨by decide +kernel, fun _ => rfl⟩) (.inl rfl) (.inr (by decide +kernel))
    · decide +kernel
    · decide +kernel
  · decide +kernel
  · decide +kernel

def m_linkDown : Nat := 0x400010000008000000000000000000006000380
theorem fr_linkDown (s : State) : Frame m_linkDown s (State.linkDown s) := by
  unfold State.linkDown
  repeat' first
    | with_reducible assumption
    | with_reducible exact Frame.refl _ _
    | (intro x; first
        | (refine Frame.cut (w := m_linkDown) (s := s) x ?_ ?_
           on_goal 2 => intro hx; clear_value x
           on_goal 1 => unfold x; clear x)
        | clear_value x
        | skip)
    | lift_lets -underBinder
    | (with_reducible apply Frame.setBS; (on_goal 2 => decide +kernel))
    | (with_reducible apply Frame.setS; (on_goal 2 => decide +kernel))
    | (with_reducible apply Frame.incS; (on_goal 2 => decide +kernel))
    | (with_reducible apply Frame.after (fr_report ..); (on_goal 2 => decide +kernel))
    | (with_reducible apply Frame.after (fr_restBank ..); (on_goal 2 => decide +kernel))
    | (with_reducible apply Frame.after (fr_irqSet ..); (on_goal 2 => decide +kernel))
    | dsimp -zeta only
    | split

def m_resetEndpoint : Nat := 0x10000000000000000000000000010000100
theorem fr_resetEndpoint (s : State) : Frame m_resetEndpoint s (State.resetEndpoint s) := by
  unfold State.resetEndpoint
  repeat' first
    | with_reducible assumption
    | with_reducible exact Frame.refl _ _
    | (with_reducible exact .inl rfl)
    | exact .inr (by decide +kernel)
    | (intro x; first
        | (refine Frame.cut (w := m_resetEndpoint) (s := s) x ?_ ?_
           on_goal 2 => intro hx; clear_value x
           on_goal 1 => unfold x; clear x)
        | clear_value x
        | skip)
    | lift_lets -underBinder
    | (with_reducible apply Frame.setBS; (on_goal 2 => decide +kernel))
    | (with_reducible apply Frame.resetRangeS; (on_goal 2 => decide +kernel))
    | dsimp -zeta only
    | split
    | (rw [mk_put]; with_reducible apply Frame.upd)

def m_senderReset : Nat := 0x4000000000000000000000000000000000
theorem fr_senderReset (s : State) (chans : List Nat) : Frame m_senderReset s (State.senderReset s chans) := by
  unfold State.senderReset
  repeat' first
    | with_reducible assumption
    | with_reducible exact Frame.refl _ _
    | lift_lets -underBinder
    | (with_reducible apply Frame.setBS; (on_goal 2 => decide +kernel))
    | (with_reducible apply Frame.forEach; on_goal 2 => intro t a hs)
    | dsimp -zeta only
    | split

def m_sysReset : Nat := 0x1840000000010000000000000000000400017fffe0818000000401d000a88f3efbf3ff
theorem fr_sysReset (s : State) (cause : Nat) : Frame m_sysReset s (State.sysReset s cause) := by
  unfold State.sysReset
  repeat' first
    | with_reducible assumption
    | with_reducible exact Frame.refl _ _
    | (with_reducible exact .inl rfl)
    | exact .inr (by decide +kernel)
    | exact .inr ⟨by decide +kernel, twf_filter _ _ _⟩
    | exact .inr ⟨by decide +kernel, twf_tset _ _ _ _⟩
    | exact .inr ⟨by decide +kernel, twf_foldl _ _ _ _⟩
    | exact .inr ⟨by decide +kernel, fun _ => rfl⟩
    | (intro x; first
        | (refine Frame.cut (w := m_sysReset) (s := s) x ?_ ?_
           on_goal 2 => intro hx; clear_value x
           on_goal 1 => unfold x; clear x)
        | skip)
    | lift_lets -underBinder
    | (with_reducible apply Frame.setBS; (on_goal 2 => decide +kernel))
    | (with_reducible apply Frame.setS; (on_goal 2 => decide +kernel))
    | (with_reducible apply fr_resetRegs; (on_goal 2 => decide +kernel); (on_goal 2 => decide +kernel); (on_goal 2 => decide +kernel))
    | (with_reducible apply Frame.incWS; (on_goal 2 => decide +kernel))
    | (with_reducible apply Frame.after (fr_haltReset ..); (on_goal 2 => decide +kernel))
    | (with_reducible apply Frame.after (fr_linkDown ..); (on_goal 2 => decide +kernel))
    | (with_reducible apply Frame.after (fr_showFuses ..); (on_goal 2 => decide +kernel))
    | (with_reducible apply Frame.after (fr_senderReset ..); (on_goal 2 => decide +kernel))
    | (with_reducible apply Frame.after (fr_resetEndpoint ..); (on_goal 2 => decide +kernel))
    | (with_reducible apply Frame.after (fr_wipeSecure ..); (on_goal 2 => decide +kernel))
    | (with_reducible apply Frame.after (fr_showSquelchAll ..); (on_goal 2 => decide +kernel))
    | (with_reducible apply Frame.forEach; on_goal 2 => intro t a hs)
    | dsimp -zeta only
    | split
    | (rw [mk_put]; with_reducible apply Frame.upd)

def m_cpRestart : Nat := 0x100000000000000000000000000000040000400010808000000401d000a008063803c0
theorem fr_cpRestart (s : State) (rst : Nat) (run : Nat) : Frame m_cpRestart s (State.cpRestart s rst run) := by
  unfold State.cpRestart
  repeat' first
    | with_reducible assumption
    | with_reducible exact Frame.refl _ _
    | (with_reducible exact .inl rfl)
    | exact .inr (by decide +kernel)
    | (intro x; first
        | (refine Frame.cut (w := m_cpRestart) (s := s) x ?_ ?_
           on_goal 2 => intro hx; clear_value x
           on_goal 1 => unfold x; clear x)
        | skip)
    | lift_lets -underBinder
    | (with_reducible apply Frame.setS; (on_goal 2 => decide +kernel))
    | (with_reducible apply Frame.incS; (on_goal 2 => decide +kernel))
    | (with_reducible apply Frame.incWS; (on_goal 2 => decide +kernel))
    | (with_reducible apply Frame.after (fr_haltReset ..); (on_goal 2 => decide +kernel))
    | (with_reducible apply Frame.after (fr_senderReset ..); (on_goal 2 => decide +kernel))
    | (with_reducible apply Frame.after (fr_masterReset ..); (on_goal 2 => decide +kernel))
    | (with_reducible apply Frame.after (fr_dropBytes ..); (on_goal 2 => decide +kernel))
    | dsimp -zeta only
    | split
    | (rw [mk_put]; with_reducible apply Frame.upd)

def m_effUndervoltage : Nat := 0x1000000000000000000000001000000800000000000000018872afbf3ff
theorem fr_effUndervoltage (s : State) : Frame m_effUndervoltage s (effUndervoltage s) := by
  unfold effUndervoltage
  repeat' first
    | with_reducible assumption
    | with_reducible exact Frame.refl _ _
    | (with_reducible exact .inl rfl)
    | exact .inr (by decide +kernel)
    | lift_lets -underBinder
    | (with_reducible apply Frame.after (fr_porst ..); (on_goal 2 => decide +kernel))
    | dsimp -zeta only
    | split
    | (rw [mk_put]; with_reducible apply Frame.upd)

def m_effSupplySwitchVbat : Nat := 0x1000000000000000000000001000000800000000000000018872afbf3ff
theorem fr_effSupplySwitchVbat (s : State) : Frame m_effSupplySwitchVbat s (effSupplySwitchVbat s) := by
  unfold effSupplySwitchVbat
  repeat' first
    | with_reducible assumption
    | with_reducible exact Frame.refl _ _
    | (with_reducible exact .inl rfl)
    | exact .inr (by decide +kernel)
    | lift_lets -underBinder
    | (with_reducible apply Frame.after (fr_porst ..); (on_goal 2 => decide +kernel))
    | dsimp -zeta only
    | split
    | (rw [mk_put]; with_reducible apply Frame.upd)

def m_effMainSupplyRestore : Nat := 0x20000
theorem fr_effMainSupplyRestore (s : State) : Frame m_effMainSupplyRestore s (effMainSupplyRestore s) := by
  unfold effMainSupplyRestore
  repeat' first
    | with_reducible assumption
    | with_reducible exact Frame.refl _ _
    | (with_reducible exact .inl rfl)
    | exact .inr (by decide +kernel)
    | (intro x; first
        | (refine Frame.cut (w := m_effMainSupplyRestore) (s := s) x ?_ ?_
           on_goal 2 => intro hx; clear_value x
           on_goal 1 => unfold x; clear x)
        | skip)
    | lift_lets -underBinder
    | (with_reducible apply Frame.forEach; on_goal 2 => intro t a hs)
    | dsimp -zeta only
    | split
    | (rw [mk_put]; with_reducible apply Frame.upd)

def m_effVbatLoss : Nat := 0x100020880000
theorem fr_effVbatLoss (s : State) : Frame m_effVbatLoss s (effVbatLoss s) := by
  have h : Frame m_effVbatLoss s { s with regs := s.regs.filter fun p => domainOfKey s.img p.1 != 1 } :=
    (Frame.refl _ _).regsAny (by decide +kernel) (twf_filter _ _ _)
  unfold effVbatLoss
  split
  · exact Frame.refl _ _
  · refine Frame.setBS ?_ (by decide +kernel)
    rw [mk_put]
    exact Frame.upd h (.inl rfl) (.inl rfl) (.inl rfl) (.inl rfl) (.inl rfl) (.inl rfl) (.inl rfl) (.inl rfl) (.inl rfl)
      (.inl rfl) (.inl rfl) (.inl rfl) (.inl rfl) (.inl rfl) (.inl rfl) (.inl rfl) (.inl rfl) (.inl rfl) (.inl rfl)
      (.inr (by decide +kernel)) (.inl rfl) (.inl rfl) (.inl rfl) (.inr (by decide +kernel)) (.inl rfl) (.inl rfl) (.inl rfl)
      (.inl rfl)

def m_effResetNAssert : Nat := 0x1840000000010000000000000000000400017ffff0818000000401d000a88f3efbf3ff
theorem fr_effResetNAssert (s : State) : Frame m_effResetNAssert s (effResetNAssert s) := by
  unfold effResetNAssert
  repeat' first
    | with_reducible assumption
    | with_reducible exact Frame.refl _ _
    | lift_lets -underBinder
    | (with_reducible apply Frame.after (fr_cpRestart ..); (on_goal 2 => decide +kernel))
    | (with_reducible apply Frame.after (fr_sysReset ..); (on_goal 2 => decide +kernel))
    | dsimp -zeta only
    | split

def m_effThermalTrip : Nat := 0x1840000000010000000000000000000400017fffe0818000000401d000a88f3efbf3ff
theorem fr_effThermalTrip (s : State) : Frame m_effThermalTrip s (effThermalTrip s) := by
  unfold effThermalTrip
  repeat' first
    | with_reducible assumption
    | with_reducible exact Frame.refl _ _
    | (with_reducible exact .inl rfl)
    | exact .inr (by decide +kernel)
    | lift_lets -underBinder
    | (with_reducible apply Frame.after (fr_sysReset ..); (on_goal 2 => decide +kernel))
    | dsimp -zeta only
    | split
    | (rw [mk_put]; with_reducible apply Frame.upd)

def m_effThermalTripEnd : Nat := 0x20000
theorem fr_effThermalTripEnd (s : State) : Frame m_effThermalTripEnd s (effThermalTripEnd s) := by
  unfold effThermalTripEnd
  repeat' first
    | with_reducible assumption
    | with_reducible exact Frame.refl _ _
    | (with_reducible exact .inl rfl)
    | exact .inr (by decide +kernel)
    | (intro x; first
        | (refine Frame.cut (w := m_effThermalTripEnd) (s := s) x ?_ ?_
           on_goal 2 => intro hx; clear_value x
           on_goal 1 => unfold x; clear x)
        | skip)
    | lift_lets -underBinder
    | (with_reducible apply Frame.forEach; on_goal 2 => intro t a hs)
    | dsimp -zeta only
    | split
    | (rw [mk_put]; with_reducible apply Frame.upd)

def m_effLockstepFault : Nat := 0x100000000000000000000000000000040000400010808000000401d000a008063803c0
theorem fr_effLockstepFault (pc : Nat) (out : Nat) (s : State) : Frame m_effLockstepFault s (effLockstepFault pc out s) := by
  unfold effLockstepFault
  repeat' first
    | with_reducible assumption
    | with_reducible exact Frame.refl _ _
    | lift_lets -underBinder
    | (with_reducible apply Frame.incS; (on_goal 2 => decide +kernel))
    | (with_reducible apply Frame.after (fr_cpRestart ..); (on_goal 2 => decide +kernel))
    | (with_reducible apply Frame.after (fr_report ..); (on_goal 2 => decide +kernel))
    | dsimp -zeta only
    | split

def m_effCpWatchdogExpiry : Nat := 0x100000000000000000000000000000040000400014c08000000401d000a008063803c0
theorem fr_effCpWatchdogExpiry (s : State) : Frame m_effCpWatchdogExpiry s (effCpWatchdogExpiry s) := by
  unfold effCpWatchdogExpiry
  repeat' first
    | with_reducible assumption
    | with_reducible exact Frame.refl _ _
    | (intro x; first
        | (refine Frame.cut (w := m_effCpWatchdogExpiry) (s := s) x ?_ ?_
           on_goal 2 => intro hx; clear_value x
           on_goal 1 => unfold x; clear x)
        | clear_value x
        | skip)
    | lift_lets -underBinder
    | (with_reducible apply Frame.incS; (on_goal 2 => decide +kernel))
    | (with_reducible apply Frame.after (fr_cpRestart ..); (on_goal 2 => decide +kernel))
    | (with_reducible apply Frame.after (fr_report ..); (on_goal 2 => decide +kernel))
    | (with_reducible apply Frame.after (fr_masterExpired ..); (on_goal 2 => decide +kernel))
    | dsimp -zeta only
    | split

def m_bootLoad : Nat := 0x4014c0000000000000000000000000030004080380
theorem fr_bootLoad (s : State) (h : Header) : Frame m_bootLoad s (State.bootLoad s h).1 := by
  unfold State.bootLoad
  repeat' first
    | with_reducible assumption
    | with_reducible exact Frame.refl _ _
    | (intro x; first
        | (refine Frame.cut (w := m_bootLoad) (s := s) x ?_ ?_
           on_goal 2 => intro hx; clear_value x
           on_goal 1 => unfold x; clear x)
        | (refine Frame.cut (w := m_bootLoad) (s := s) x.1 ?_ ?_
           on_goal 2 => intro hx; clear_value x
           on_goal 1 => unfold x; clear x)
        | (refine Frame.cut (w := m_bootLoad) (s := s) x.2 ?_ ?_
           on_goal 2 => intro hx; clear_value x
           on_goal 1 => unfold x; clear x)
        | clear_value x
        | skip)
    | lift_lets -underBinder
    | (with_reducible apply Frame.setS; (on_goal 2 => decide +kernel))
    | (with_reducible apply Frame.after (fr_noteLoad ..); (on_goal 2 => decide +kernel))
    | (with_reducible apply Frame.after (fr_report ..); (on_goal 2 => decide +kernel))
    | (with_reducible apply Frame.after (fr_loadClamps ..); (on_goal 2 => decide +kernel))
    | dsimp -zeta only
    | split

def m_securityTaken : Nat := 0x48100000000000000000000000000
theorem fr_securityTaken (s : State) : Frame m_securityTaken s (State.securityTaken s) := by
  unfold State.securityTaken
  repeat' first
    | with_reducible assumption
    | with_reducible exact Frame.refl _ _
    | (intro x; first
        | (refine Frame.cut (w := m_securityTaken) (s := s) x ?_ ?_
           on_goal 2 => intro hx; clear_value x
           on_goal 1 => unfold x; clear x)
        | clear_value x
        | skip)
    | lift_lets -underBinder
    | (with_reducible apply Frame.setBS; (on_goal 2 => decide +kernel))
    | (with_reducible apply Frame.setS; (on_goal 2 => decide +kernel))
    | (with_reducible apply Frame.forEach; on_goal 2 => intro t a hs)

def m_patchTaken : Nat := 0x80000000000000000000200000
theorem fr_patchTaken (s : State) : Frame m_patchTaken s (State.patchTaken s) := by
  unfold State.patchTaken
  repeat' first
    | with_reducible assumption
    | with_reducible exact Frame.refl _ _
    | (with_reducible exact .inl rfl)
    | exact .inr (by decide +kernel)
    | (intro x; first
        | (refine Frame.cut (w := m_patchTaken) (s := s) x ?_ ?_
           on_goal 2 => intro hx; clear_value x
           on_goal 1 => unfold x; clear x)
        | clear_value x
        | skip)
    | lift_lets -underBinder
    | (with_reducible apply Frame.setS; (on_goal 2 => decide +kernel))
    | dsimp -zeta only
    | split
    | (rw [mk_put]; with_reducible apply Frame.upd)

def m_regionShort : Nat := 0x400000000000000000000000000000004000380
theorem fr_regionShort (s : State) : Frame m_regionShort s (State.regionShort s) := by
  unfold State.regionShort
  repeat' first
    | with_reducible assumption
    | with_reducible exact Frame.refl _ _
    | (intro x; first
        | (refine Frame.cut (w := m_regionShort) (s := s) x ?_ ?_
           on_goal 2 => intro hx; clear_value x
           on_goal 1 => unfold x; clear x)
        | clear_value x
        | skip)
    | lift_lets -underBinder
    | (with_reducible apply Frame.after (fr_report ..); (on_goal 2 => decide +kernel))
    | (with_reducible apply Frame.forEach; on_goal 2 => intro t a hs)
    | dsimp -zeta only
    | split

def m_bootTaken : Nat := 0x87fffd0020301fffffffff467e0a00400000000049dfc7ff804f80011400006a3f3fc
theorem fr_bootTaken (s : State) (img : List Section) : Frame m_bootTaken s (State.bootTaken s img) := by
  unfold State.bootTaken
  repeat' first
    | with_reducible assumption
    | with_reducible exact Frame.refl _ _
    | (with_reducible exact .inl rfl)
    | exact .inr (by decide +kernel)
    | (intro x; first
        | (refine Frame.cut (w := m_bootTaken) (s := s) x ?_ ?_
           on_goal 2 => intro hx; clear_value x
           on_goal 1 => unfold x; clear x)
        | skip)
    | lift_lets -underBinder
    | (with_reducible apply Frame.setS; (on_goal 2 => decide +kernel))
    | (with_reducible apply Frame.after (fr_setWants ..); (on_goal 2 => decide +kernel))
    | (with_reducible apply Frame.after (fr_restMb1 ..); (on_goal 2 => decide +kernel))
    | (with_reducible apply Frame.after (fr_resetTime ..); (on_goal 2 => decide +kernel))
    | (with_reducible apply Frame.after (fr_securityTaken ..); (on_goal 2 => decide +kernel))
    | (with_reducible apply Frame.after (fr_sectionTaken ..); (on_goal 2 => decide +kernel))
    | (with_reducible apply Frame.after (fr_ddrConfig ..); (on_goal 2 => decide +kernel))
    | (with_reducible apply Frame.after (fr_settle ..); (on_goal 2 => decide +kernel))
    | (with_reducible apply Frame.after (fr_routeCheck ..); (on_goal 2 => decide +kernel))
    | (with_reducible apply Frame.after (fr_restBank ..); (on_goal 2 => decide +kernel))
    | (with_reducible apply Frame.after (fr_restartCoppice ..); (on_goal 2 => decide +kernel))
    | (with_reducible apply Frame.after (fr_patchTaken ..); (on_goal 2 => decide +kernel))
    | (with_reducible apply Frame.forEach; on_goal 2 => intro t a hs)
    | dsimp -zeta only
    | split
    | (rw [mk_put]; with_reducible apply Frame.upd)

def m_fixEpoch : Nat := 0x1001080080
theorem fr_fixEpoch (s : State) (cs : Nat) : Frame m_fixEpoch s (State.fixEpoch s cs) := by
  unfold State.fixEpoch
  repeat' first
    | with_reducible assumption
    | with_reducible exact Frame.refl _ _
    | (with_reducible exact .inl rfl)
    | exact .inr (by decide +kernel)
    | (intro x; first
        | (refine Frame.cut (w := m_fixEpoch) (s := s) x ?_ ?_
           on_goal 2 => intro hx; clear_value x
           on_goal 1 => unfold x; clear x)
        | (refine Frame.cut (w := m_fixEpoch) (s := s) x.1 ?_ ?_
           on_goal 2 => intro hx; clear_value x
           on_goal 1 => unfold x; clear x)
        | (refine Frame.cut (w := m_fixEpoch) (s := s) x.2 ?_ ?_
           on_goal 2 => intro hx; clear_value x
           on_goal 1 => unfold x; clear x)
        | skip)
    | lift_lets -underBinder
    | (with_reducible apply Frame.setS; (on_goal 2 => decide +kernel))
    | (with_reducible apply Frame.after (fr_putDir ..); (on_goal 2 => decide +kernel))
    | dsimp -zeta only
    | split
    | (rw [mk_put]; with_reducible apply Frame.upd)

def m_slotFails : Nat := 0x805000300
theorem fr_slotFails (s : State) (cs : Nat) (k : Nat) (cause : Nat) : Frame m_slotFails s (State.slotFails s cs k cause) := by
  unfold State.slotFails
  repeat' first
    | with_reducible assumption
    | with_reducible exact Frame.refl _ _
    | (intro x; first
        | (refine Frame.cut (w := m_slotFails) (s := s) x ?_ ?_
           on_goal 2 => intro hx; clear_value x
           on_goal 1 => unfold x; clear x)
        | clear_value x
        | skip)
    | lift_lets -underBinder
    | (with_reducible apply Frame.setBS; (on_goal 2 => decide +kernel))
    | (with_reducible apply Frame.setS; (on_goal 2 => decide +kernel))
    | (with_reducible apply Frame.after (fr_markSlot ..); (on_goal 2 => decide +kernel))
    | (with_reducible apply Frame.after (fr_irqSet ..); (on_goal 2 => decide +kernel))

def m_showImage : Nat := 0xcc800080000
theorem fr_showImage (s : State) (cs : Nat) (k : Nat) (h : Header) : Frame m_showImage s (State.showImage s cs k h) := by
  unfold State.showImage
  repeat' first
    | with_reducible assumption
    | with_reducible exact Frame.refl _ _
    | (with_reducible exact .inl rfl)
    | exact .inr (by decide +kernel)
    | (intro x; first
        | (refine Frame.cut (w := m_showImage) (s := s) x ?_ ?_
           on_goal 2 => intro hx; clear_value x
           on_goal 1 => unfold x; clear x)
        | skip)
    | lift_lets -underBinder
    | (with_reducible apply Frame.setS; (on_goal 2 => decide +kernel))
    | (with_reducible apply Frame.forEach; on_goal 2 => intro t a hs)
    | dsimp -zeta only
    | split
    | (rw [mk_put]; with_reducible apply Frame.upd)

def m_advanceSvn : Nat := 0x80000000000000000887000c0000
theorem fr_advanceSvn (s : State) : Frame m_advanceSvn s (State.advanceSvn s) := by
  unfold State.advanceSvn
  repeat' first
    | with_reducible assumption
    | with_reducible exact Frame.refl _ _
    | (intro x; first
        | (refine Frame.cut (w := m_advanceSvn) (s := s) x ?_ ?_
           on_goal 2 => intro hx; clear_value x
           on_goal 1 => unfold x; clear x)
        | skip)
    | lift_lets -underBinder
    | ((with_reducible apply fr_setFuse); (on_goal 2 => decide +kernel); (on_goal 2 => refine ⟨?_, ?_, ?_, ?_, ?_⟩ <;> first | exact le_rfl | exact Nat.le_max_left _ _ | exact fun _ hi => hi | exact Nat.le_of_lt (And.right ‹_ ∧ _›) | exact fun _ hi => List.mem_append_left _ hi))
    | (with_reducible apply Frame.forEach; on_goal 2 => intro t a hs)
    | dsimp -zeta only
    | split

def m_trySlot : Nat := 0x87fffd0020301fffffffff467e0e014c0000000049dfc7ff804f800114fdf07aff3fc
theorem fr_trySlot (s : State) (cs : Nat) (k : Nat) : Frame m_trySlot s (State.trySlot s cs k).1 := by
  unfold State.trySlot
  repeat' first
    | with_reducible assumption
    | with_reducible exact Frame.refl _ _
    | (intro x; first
        | (refine Frame.cut (w := m_trySlot) (s := s) x ?_ ?_
           on_goal 2 => intro hx; clear_value x
           on_goal 1 => unfold x; clear x)
        | clear_value x
        | skip)
    | lift_lets -underBinder
    | (with_reducible apply Frame.setBS; (on_goal 2 => decide +kernel))
    | (with_reducible apply Frame.after (fr_markSlot ..); (on_goal 2 => decide +kernel))
    | (with_reducible apply Frame.after (fr_advanceSvn ..); (on_goal 2 => decide +kernel))
    | (with_reducible apply Frame.after (fr_bootLoad ..); (on_goal 2 => decide +kernel))
    | (with_reducible apply Frame.after (fr_bootTaken ..); (on_goal 2 => decide +kernel))
    | (with_reducible apply Frame.after (fr_slotFails ..); (on_goal 2 => decide +kernel))
    | (with_reducible apply Frame.after (fr_showImage ..); (on_goal 2 => decide +kernel))
    | (with_reducible apply Frame.after (fr_fixEpoch ..); (on_goal 2 => decide +kernel))
    | dsimp -zeta only
    | split

def m_trySlots : Nat := 0x87fffd0020301fffffffff467e0e014c0000000049dfc7ff804f800114fdf07aff3fc
theorem fr_trySlots (l : List (Nat × Nat)) (s : State) : Frame m_trySlots s (trySlots l s).1 := by
  induction l generalizing s with
  | nil => exact Frame.refl _ _
  | cons x t ih =>
    unfold trySlots
    have h : Frame m_trySlots s (s.trySlot x.1 x.2).1 := (fr_trySlot ..).mono (by decide +kernel)
    dsimp only
    split
    · exact h
    · exact h.step (ih _) (Nat.or_self _)

def m_reply : Nat := 0x27fffe00000000000000000000004400000
theorem fr_reply (s : State) (n : Nat) (hdr : Nat) (r : Reply) : Frame m_reply s (State.reply s n hdr r) := by
  unfold State.reply
  repeat' first
    | with_reducible assumption
    | with_reducible exact Frame.refl _ _
    | (with_reducible exact .inl rfl)
    | exact .inr (by decide +kernel)
    | (intro x; first
        | (refine Frame.cut (w := m_reply) (s := s) x ?_ ?_
           on_goal 2 => intro hx; clear_value x
           on_goal 1 => unfold x; clear x)
        | (refine Frame.cut (w := m_reply) (s := s) x.1 ?_ ?_
           on_goal 2 => intro hx; clear_value x
           on_goal 1 => unfold x; clear x)
        | (refine Frame.cut (w := m_reply) (s := s) x.2 ?_ ?_
           on_goal 2 => intro hx; clear_value x
           on_goal 1 => unfold x; clear x)
        | clear_value x
        | skip)
    | lift_lets -underBinder
    | (with_reducible apply Frame.setBS; (on_goal 2 => decide +kernel))
    | (with_reducible apply Frame.setMsgS; (on_goal 2 => decide +kernel))
    | (with_reducible apply Frame.incS; (on_goal 2 => decide +kernel))
    | (with_reducible apply Frame.after (fr_post ..); (on_goal 2 => decide +kernel))
    | dsimp -zeta only
    | split
    | (rw [mk_put]; with_reducible apply Frame.upd)

def m_answerRestarted : Nat := 0x27fffe00000000000000000000004400000
theorem fr_answerRestarted (s : State) : Frame m_answerRestarted s (State.answerRestarted s) := by
  unfold State.answerRestarted
  repeat' first
    | with_reducible assumption
    | with_reducible exact Frame.refl _ _
    | (with_reducible exact .inl rfl)
    | exact .inr (by decide +kernel)
    | (intro x; first
        | (refine Frame.cut (w := m_answerRestarted) (s := s) x ?_ ?_
           on_goal 2 => intro hx; clear_value x
           on_goal 1 => unfold x; clear x)
        | (refine Frame.cut (w := m_answerRestarted) (s := s) x.1 ?_ ?_
           on_goal 2 => intro hx; clear_value x
           on_goal 1 => unfold x; clear x)
        | (refine Frame.cut (w := m_answerRestarted) (s := s) x.2 ?_ ?_
           on_goal 2 => intro hx; clear_value x
           on_goal 1 => unfold x; clear x)
        | clear_value x
        | skip)
    | lift_lets -underBinder
    | (with_reducible apply Frame.after (fr_reply ..); (on_goal 2 => decide +kernel))
    | (with_reducible apply Frame.forEach; on_goal 2 => intro t a hs)
    | dsimp -zeta only
    | split
    | (rw [mk_put]; with_reducible apply Frame.upd)

def m_bootEnd : Nat := 0x8000000000100000000000000000004000000000000000000040000000028042203c0
theorem fr_bootEnd (s : State) (st : Nat) (ms : Nat) : Frame m_bootEnd s (State.bootEnd s st ms) := by
  unfold State.bootEnd
  repeat' first
    | with_reducible assumption
    | with_reducible exact Frame.refl _ _
    | (with_reducible exact .inl rfl)
    | exact .inr (by decide +kernel)
    | (intro x; first
        | (refine Frame.cut (w := m_bootEnd) (s := s) x ?_ ?_
           on_goal 2 => intro hx; clear_value x
           on_goal 1 => unfold x; clear x)
        | clear_value x
        | skip)
    | lift_lets -underBinder
    | (with_reducible apply Frame.setS; (on_goal 2 => decide +kernel))
    | (with_reducible apply Frame.after (fr_setWants ..); (on_goal 2 => decide +kernel))
    | (with_reducible apply Frame.after (fr_showFlashOwn ..); (on_goal 2 => decide +kernel))
    | (with_reducible apply Frame.after (fr_report ..); (on_goal 2 => decide +kernel))
    | dsimp -zeta only
    | split
    | (rw [mk_put]; with_reducible apply Frame.upd)

def m_bootTamper : Nat := 0x10000000000000000000400007fffe00100000000000000180006480b80
theorem fr_bootTamper (s : State) : Frame m_bootTamper s (State.bootTamper s) := by
  unfold State.bootTamper
  repeat' first
    | with_reducible assumption
    | with_reducible exact Frame.refl _ _
    | (intro x; first
        | (refine Frame.cut (w := m_bootTamper) (s := s) x ?_ ?_
           on_goal 2 => intro hx; clear_value x
           on_goal 1 => unfold x; clear x)
        | clear_value x
        | skip)
    | lift_lets -underBinder
    | (with_reducible apply Frame.setBS; (on_goal 2 => decide +kernel))
    | (with_reducible apply Frame.after (fr_draw ..); (on_goal 2 => decide +kernel))
    | (with_reducible apply Frame.after (fr_tamperAct ..); (on_goal 2 => decide +kernel))
    | (with_reducible apply Frame.after (fr_showTamper ..); (on_goal 2 => decide +kernel))
    | (with_reducible apply Frame.forEach; on_goal 2 => intro t a hs)
    | dsimp -zeta only
    | split

def m_bootImage : Nat := 0x87fffd0020301fffffffff467e0e014c0007fffe49dfc7ff804f800115fff07effbfc
theorem fr_bootImage (s : State) (ms : Nat) : Frame m_bootImage s (State.bootImage s ms) := by
  unfold State.bootImage
  repeat' first
    | with_reducible assumption
    | with_reducible exact Frame.refl _ _
    | (with_reducible exact .inl rfl)
    | exact .inr (by decide +kernel)
    | (intro x; first
        | (refine Frame.cut (w := m_bootImage) (s := s) x ?_ ?_
           on_goal 2 => intro hx; clear_value x
           on_goal 1 => unfold x; clear x)
        | (refine Frame.cut (w := m_bootImage) (s := s) x.1 ?_ ?_
           on_goal 2 => intro hx; clear_value x
           on_goal 1 => unfold x; clear x)
        | (refine Frame.cut (w := m_bootImage) (s := s) x.2 ?_ ?_
           on_goal 2 => intro hx; clear_value x
           on_goal 1 => unfold x; clear x)
        | skip)
    | lift_lets -underBinder
    | (with_reducible apply Frame.setS; (on_goal 2 => decide +kernel))
    | (with_reducible apply Frame.after (fr_bootTamper ..); (on_goal 2 => decide +kernel))
    | (with_reducible apply Frame.after (fr_regionShort ..); (on_goal 2 => decide +kernel))
    | (with_reducible apply Frame.after (fr_trySlots ..); (on_goal 2 => decide +kernel))
    | (with_reducible apply Frame.after (fr_bootEnd ..); (on_goal 2 => decide +kernel))
    | (with_reducible apply Frame.foldl1; on_goal 2 => intro t b hs)
    | dsimp -zeta only
    | split
    | (rw [mk_put]; with_reducible apply Frame.upd)

def m_bootStart : Nat := 0x840000000000000000000100000000400027fffe081000000040001180b8f064c2380
theorem fr_bootStart (s : State) (x : Sys2Proof.BootIn) (osc : Nat) : Frame m_bootStart s (State.bootStart s x osc) := by
  unfold State.bootStart
  repeat' first
    | with_reducible assumption
    | with_reducible exact Frame.refl _ _
    | (with_reducible exact .inl rfl)
    | exact .inr (by decide +kernel)
    | exact .inr ⟨by decide +kernel, twf_filter _ _ _⟩
    | exact .inr ⟨by decide +kernel, twf_tset _ _ _ _⟩
    | exact .inr ⟨by decide +kernel, twf_foldl _ _ _ _⟩
    | exact .inr ⟨by decide +kernel, fun _ => rfl⟩
    | (intro x; first
        | (refine Frame.cut (w := m_bootStart) (s := s) x ?_ ?_
           on_goal 2 => intro hx; clear_value x
           on_goal 1 => unfold x; clear x)
        | skip)
    | lift_lets -underBinder
    | (with_reducible apply Frame.setBS; (on_goal 2 => decide +kernel))
    | (with_reducible apply Frame.setS; (on_goal 2 => decide +kernel))
    | (with_reducible apply Frame.incWS; (on_goal 2 => decide +kernel))
    | (with_reducible apply Frame.after (fr_answerRestarted ..); (on_goal 2 => decide +kernel))
    | (with_reducible apply Frame.after (fr_completeBurns ..); (on_goal 2 => decide +kernel))
    | (with_reducible apply Frame.after (fr_ddrConfig ..); (on_goal 2 => decide +kernel))
    | (with_reducible apply Frame.after (fr_fabricTest ..); (on_goal 2 => decide +kernel))
    | (with_reducible apply Frame.forEach; on_goal 2 => intro t a hs)
    | dsimp -zeta only
    | split
    | (rw [mk_put]; with_reducible apply Frame.upd)

def m_effResetReleaseBoot : Nat := 0x87fffd0020301fffffffff467e0e014c0027fffe49dfc7ff804f801195fff07effbfc
theorem fr_effResetReleaseBoot (x : Sys2Proof.BootIn) (s : State) : Frame m_effResetReleaseBoot s (effResetReleaseBoot x s) := by
  unfold effResetReleaseBoot
  repeat' first
    | with_reducible assumption
    | with_reducible exact Frame.refl _ _
    | (with_reducible exact .inl rfl)
    | exact .inr (by decide +kernel)
    | (intro x; first
        | (refine Frame.cut (w := m_effResetReleaseBoot) (s := s) x ?_ ?_
           on_goal 2 => intro hx; clear_value x
           on_goal 1 => unfold x; clear x)
        | skip)
    | lift_lets -underBinder
    | (with_reducible apply Frame.after (fr_bootStart ..); (on_goal 2 => decide +kernel))
    | (with_reducible apply Frame.after (fr_bootImage ..); (on_goal 2 => decide +kernel))
    | (with_reducible apply Frame.forEach; on_goal 2 => intro t a hs)
    | dsimp -zeta only
    | split
    | (rw [mk_put]; with_reducible apply Frame.upd)

def m_effImageConfirm : Nat := 0x8000000000000000088f050c0300
theorem fr_effImageConfirm (s : State) : Frame m_effImageConfirm s (effImageConfirm s) := by
  unfold effImageConfirm
  repeat' first
    | with_reducible assumption
    | with_reducible exact Frame.refl _ _
    | (intro x; first
        | (refine Frame.cut (w := m_effImageConfirm) (s := s) x ?_ ?_
           on_goal 2 => intro hx; clear_value x
           on_goal 1 => unfold x; clear x)
        | clear_value x
        | skip)
    | lift_lets -underBinder
    | (with_reducible apply Frame.setBS; (on_goal 2 => decide +kernel))
    | (with_reducible apply Frame.after (fr_markSlot ..); (on_goal 2 => decide +kernel))
    | (with_reducible apply Frame.after (fr_advanceSvn ..); (on_goal 2 => decide +kernel))
    | (with_reducible apply Frame.after (fr_irqSet ..); (on_goal 2 => decide +kernel))
    | dsimp -zeta only
    | split

def m_effProcessorResume : Nat := 0x400027fffe081000000000000000887066c03c0
theorem fr_effProcessorResume (s : State) : Frame m_effProcessorResume s (effProcessorResume s) := by
  unfold effProcessorResume
  repeat' first
    | with_reducible assumption
    | with_reducible exact Frame.refl _ _
    | (with_reducible exact .inl rfl)
    | exact .inr (by decide +kernel)
    | (intro x; first
        | (refine Frame.cut (w := m_effProcessorResume) (s := s) x ?_ ?_
           on_goal 2 => intro hx; clear_value x
           on_goal 1 => unfold x; clear x)
        | clear_value x
        | skip)
    | lift_lets -underBinder
    | (with_reducible apply Frame.after (fr_answerRestarted ..); (on_goal 2 => decide +kernel))
    | (with_reducible apply Frame.after (fr_completeBurns ..); (on_goal 2 => decide +kernel))
    | (with_reducible apply Frame.after (fr_report ..); (on_goal 2 => decide +kernel))
    | dsimp -zeta only
    | split
    | (rw [mk_put]; with_reducible apply Frame.upd)

def m_effFlashReqChange : Nat := 0x4000000000000000040
theorem fr_effFlashReqChange (level : Bool) (s : State) : Frame m_effFlashReqChange s (effFlashReqChange level s) := by
  unfold effFlashReqChange
  repeat' first
    | with_reducible assumption
    | with_reducible exact Frame.refl _ _
    | (with_reducible exact .inl rfl)
    | exact .inr (by decide +kernel)
    | (intro x; first
        | (refine Frame.cut (w := m_effFlashReqChange) (s := s) x ?_ ?_
           on_goal 2 => intro hx; clear_value x
           on_goal 1 => unfold x; clear x)
        | clear_value x
        | skip)
    | lift_lets -underBinder
    | (with_reducible apply Frame.after (fr_arbitrate ..); (on_goal 2 => decide +kernel))
    | dsimp -zeta only
    | split
    | (rw [mk_put]; with_reducible apply Frame.upd)

def m_effFlashGntChange : Nat := 0x87fffd0020301fffffffff467e0e014c0007fffe49dfc7ff804f800115fff07effbfc
theorem fr_effFlashGntChange (level : Bool) (ms : Nat) (s : State) : Frame m_effFlashGntChange s (effFlashGntChange level ms s) := by
  unfold effFlashGntChange
  repeat' first
    | with_reducible assumption
    | with_reducible exact Frame.refl _ _
    | (with_reducible exact .inl rfl)
    | exact .inr (by decide +kernel)
    | (intro x; first
        | (refine Frame.cut (w := m_effFlashGntChange) (s := s) x ?_ ?_
           on_goal 2 => intro hx; clear_value x
           on_goal 1 => unfold x; clear x)
        | clear_value x
        | skip)
    | lift_lets -underBinder
    | (with_reducible apply Frame.after (fr_showFlashOwn ..); (on_goal 2 => decide +kernel))
    | (with_reducible apply Frame.after (fr_bootImage ..); (on_goal 2 => decide +kernel))
    | dsimp -zeta only
    | split
    | (rw [mk_put]; with_reducible apply Frame.upd)

end Sys2Proof.Laws
end

