-- ==== Sys2Proof/Laws/FrameHost.lean ====
section
/-!
SUPPORT. Sys2Proof/Laws/FrameHost.lean: what each operation of Machine/Host.lean leaves unchanged.
-/
namespace Sys2Proof.Laws

set_option Elab.async false
set_option linter.unusedTactic false
set_option linter.unreachableTactic false

open Sys2Proof.Machine

def m_effPerstAssert : Nat := 0x400014000108100000000000000000016200380
theorem fr_effPerstAssert (s : State) : Frame m_effPerstAssert s (effPerstAssert s) := by
  unfold effPerstAssert
  repeat' first
    | with_reducible assumption
    | with_reducible exact Frame.refl _ _
    | (intro x; first
        | (refine Frame.cut (w := m_effPerstAssert) (s := s) x ?_ ?_
           on_goal 2 => intro hx; clear_value x
           on_goal 1 => unfold x; clear x)
        | clear_value x
        | skip)
    | lift_lets -underBinder
    | (with_reducible apply Frame.setBS; (on_goal 2 => decide +kernel))
    | (with_reducible apply Frame.setWordS; (on_goal 2 => decide +kernel))
    | (with_reducible apply Frame.after (fr_linkDown ..); (on_goal 2 => decide +kernel))
    | (with_reducible apply Frame.after (fr_senderReset ..); (on_goal 2 => decide +kernel))
    | (with_reducible apply Frame.after (fr_masterReset ..); (on_goal 2 => decide +kernel))
    | (with_reducible apply Frame.after (fr_resetEndpoint ..); (on_goal 2 => decide +kernel))
    | (with_reducible apply Frame.after (fr_endSession ..); (on_goal 2 => decide +kernel))
    | dsimp -zeta only
    | split

def m_returnMb6 : Nat := 0x400000000048000000000000000000004000380
theorem fr_returnMb6 (s : State) : Frame m_returnMb6 s (State.returnMb6 s) := by
  unfold State.returnMb6
  repeat' first
    | with_reducible assumption
    | with_reducible exact Frame.refl _ _
    | lift_lets -underBinder
    | (with_reducible apply Frame.after (fr_giveBank ..); (on_goal 2 => decide +kernel))
    | (with_reducible apply Frame.after (fr_report ..); (on_goal 2 => decide +kernel))
    | dsimp -zeta only
    | split

def m_effPcieLinkUp : Nat := 0x400010000048000000000000000000004000380
theorem fr_effPcieLinkUp (speed : Nat) (width : Nat) (bme : Bool) (s : State) : Frame m_effPcieLinkUp s (effPcieLinkUp speed width bme s) := by
  unfold effPcieLinkUp
  repeat' first
    | with_reducible assumption
    | with_reducible exact Frame.refl _ _
    | (intro x; first
        | (refine Frame.cut (w := m_effPcieLinkUp) (s := s) x ?_ ?_
           on_goal 2 => intro hx; clear_value x
           on_goal 1 => unfold x; clear x)
        | clear_value x
        | skip)
    | lift_lets -underBinder
    | (with_reducible apply Frame.setBS; (on_goal 2 => decide +kernel))
    | (with_reducible apply Frame.setS; (on_goal 2 => decide +kernel))
    | (with_reducible apply Frame.after (fr_returnMb6 ..); (on_goal 2 => decide +kernel))
    | (with_reducible apply Frame.after (fr_report ..); (on_goal 2 => decide +kernel))
    | (with_reducible apply Frame.after (fr_wakeBank ..); (on_goal 2 => decide +kernel))
    | (with_reducible apply Frame.after (fr_sendPending ..); (on_goal 2 => decide +kernel))
    | dsimp -zeta only
    | split

def m_effMsixEnable : Nat := 0x10000000000000000000000000004000100
theorem fr_effMsixEnable (on : Bool) (s : State) : Frame m_effMsixEnable s (effMsixEnable on s) := by
  unfold effMsixEnable
  repeat' first
    | with_reducible assumption
    | with_reducible exact Frame.refl _ _
    | (intro x; first
        | (refine Frame.cut (w := m_effMsixEnable) (s := s) x ?_ ?_
           on_goal 2 => intro hx; clear_value x
           on_goal 1 => unfold x; clear x)
        | clear_value x
        | skip)
    | lift_lets -underBinder
    | (with_reducible apply Frame.setBS; (on_goal 2 => decide +kernel))
    | (with_reducible apply Frame.after (fr_sendPending ..); (on_goal 2 => decide +kernel))
    | dsimp -zeta only
    | split

def m_effSessionIdleTimeout : Nat := 0x400000000000100000000000000000004000380
theorem fr_effSessionIdleTimeout (s : State) : Frame m_effSessionIdleTimeout s (effSessionIdleTimeout s) := by
  unfold effSessionIdleTimeout
  repeat' first
    | with_reducible assumption
    | with_reducible exact Frame.refl _ _
    | lift_lets -underBinder
    | (with_reducible apply Frame.after (fr_report ..); (on_goal 2 => decide +kernel))
    | (with_reducible apply Frame.after (fr_endSession ..); (on_goal 2 => decide +kernel))
    | dsimp -zeta only
    | split

def m_effMailboxPost : Nat := 0xf9800a1f400006000009c00000000000000000024200b82
theorem fr_effMailboxPost (src : Sys2Proof.Src) (n : Nat) (s : State) : Frame m_effMailboxPost s (effMailboxPost src n s) := by
  unfold effMailboxPost
  repeat' first
    | with_reducible assumption
    | with_reducible exact Frame.refl _ _
    | lift_lets -underBinder
    | (with_reducible apply Frame.after (fr_writeBar ..); (on_goal 2 => decide +kernel))
    | dsimp -zeta only
    | split

def m_effMailboxAbort : Nat := 0xf9800a1f400006000009c00000000000000000024200b82
theorem fr_effMailboxAbort (src : Sys2Proof.Src) (n : Nat) (s : State) : Frame m_effMailboxAbort s (effMailboxAbort src n s) := by
  unfold effMailboxAbort
  repeat' first
    | with_reducible assumption
    | with_reducible exact Frame.refl _ _
    | lift_lets -underBinder
    | (with_reducible apply Frame.after (fr_writeBar ..); (on_goal 2 => decide +kernel))
    | dsimp -zeta only
    | split

def m_effMailboxReplyClear : Nat := 0xf9800a1f400006000009c00000000000000000024200b82
theorem fr_effMailboxReplyClear (src : Sys2Proof.Src) (n : Nat) (s : State) : Frame m_effMailboxReplyClear s (effMailboxReplyClear src n s) := by
  unfold effMailboxReplyClear
  repeat' first
    | with_reducible assumption
    | with_reducible exact Frame.refl _ _
    | lift_lets -underBinder
    | (with_reducible apply Frame.after (fr_writeBar ..); (on_goal 2 => decide +kernel))
    | dsimp -zeta only
    | split

def m_effMailboxTake : Nat := 0x27fffe00000000000000000000004400000
theorem fr_effMailboxTake (s : State) : Frame m_effMailboxTake s (effMailboxTake s) := by
  unfold effMailboxTake
  repeat' first
    | with_reducible assumption
    | with_reducible exact Frame.refl _ _
    | (with_reducible exact .inl rfl)
    | exact .inr (by decide +kernel)
    | (intro x; first
        | (refine Frame.cut (w := m_effMailboxTake) (s := s) x ?_ ?_
           on_goal 2 => intro hx; clear_value x
           on_goal 1 => unfold x; clear x)
        | clear_value x
        | skip)
    | lift_lets -underBinder
    | (with_reducible apply Frame.setBS; (on_goal 2 => decide +kernel))
    | (with_reducible apply Frame.incS; (on_goal 2 => decide +kernel))
    | (with_reducible apply Frame.after (fr_reply ..); (on_goal 2 => decide +kernel))
    | dsimp -zeta only
    | split
    | (rw [mk_put]; with_reducible apply Frame.upd)

def m_smbReturns : Nat := 0x4000000
theorem fr_smbReturns (s : State) (l : List Sys2Proof.Byte) : Frame m_smbReturns s (State.smbReturns s l) := by
  unfold State.smbReturns
  repeat' first
    | with_reducible assumption
    | with_reducible exact Frame.refl _ _
    | (with_reducible exact .inl rfl)
    | exact .inr (by decide +kernel)
    | (intro x; first
        | (refine Frame.cut (w := m_smbReturns) (s := s) x ?_ ?_
           on_goal 2 => intro hx; clear_value x
           on_goal 1 => unfold x; clear x)
        | clear_value x
        | skip)
    | lift_lets -underBinder
    | dsimp -zeta only
    | split
    | (rw [mk_put]; with_reducible apply Frame.upd)

def m_badPec : Nat := 0x40000000000000000000000000004000300
theorem fr_badPec (s : State) : Frame m_badPec s (State.badPec s) := by
  unfold State.badPec
  repeat' first
    | with_reducible assumption
    | with_reducible exact Frame.refl _ _
    | lift_lets -underBinder
    | (with_reducible apply Frame.incS; (on_goal 2 => decide +kernel))
    | (with_reducible apply Frame.after (fr_irqSet ..); (on_goal 2 => decide +kernel))

def m_smbWord : Nat := 0x7c00000000000000000000f9800e3f70200600013bc0000b800000000000026230b93
theorem fr_smbWord (s : State) (off : Nat) : Frame m_smbWord s (State.smbWord s off).2 := by
  unfold State.smbWord
  repeat' first
    | with_reducible assumption
    | with_reducible exact Frame.refl _ _
    | (with_reducible exact .inl rfl)
    | exact .inr (by decide +kernel)
    | (intro x; first
        | (refine Frame.cut (w := m_smbWord) (s := s) x ?_ ?_
           on_goal 2 => intro hx; clear_value x
           on_goal 1 => unfold x; clear x)
        | clear_value x
        | skip)
    | lift_lets -underBinder
    | (with_reducible apply Frame.after (fr_access ..); (on_goal 2 => decide +kernel))
    | (with_reducible apply Frame.after (fr_readBar ..); (on_goal 2 => decide +kernel))
    | dsimp -zeta only
    | split
    | (rw [mk_put]; with_reducible apply Frame.upd)

def m_effSmbSetAddr : Nat := 0x40000000000000000000000000004400300
theorem fr_effSmbSetAddr (addr : Nat) (pec : Bool) (s : State) : Frame m_effSmbSetAddr s (effSmbSetAddr addr pec s) := by
  unfold effSmbSetAddr
  repeat' first
    | with_reducible assumption
    | with_reducible exact Frame.refl _ _
    | (with_reducible exact .inl rfl)
    | exact .inr (by decide +kernel)
    | (intro x; first
        | (refine Frame.cut (w := m_effSmbSetAddr) (s := s) x ?_ ?_
           on_goal 2 => intro hx; clear_value x
           on_goal 1 => unfold x; clear x)
        | clear_value x
        | skip)
    | lift_lets -underBinder
    | (with_reducible apply Frame.after (fr_badPec ..); (on_goal 2 => decide +kernel))
    | dsimp -zeta only
    | split
    | (rw [mk_put]; with_reducible apply Frame.upd)

def m_effSmbRead : Nat := 0x7c00000000000000000000f9800e3f70200600013bc0000b800000000000026630b93
theorem fr_effSmbRead (s : State) : Frame m_effSmbRead s (effSmbRead s) := by
  unfold effSmbRead
  repeat' first
    | with_reducible assumption
    | with_reducible exact Frame.refl _ _
    | (with_reducible exact .inl rfl)
    | exact .inr (by decide +kernel)
    | (intro x; first
        | (refine Frame.cut (w := m_effSmbRead) (s := s) x ?_ ?_
           on_goal 2 => intro hx; clear_value x
           on_goal 1 => unfold x; clear x)
        | clear_value x
        | skip)
    | lift_lets -underBinder
    | (with_reducible apply Frame.after (fr_smbWord ..); (on_goal 2 => decide +kernel))
    | (with_reducible apply Frame.after (fr_smbReturns ..); (on_goal 2 => decide +kernel))
    | (with_reducible apply Frame.forEach; on_goal 2 => intro t a hs)
    | dsimp -zeta only
    | split
    | (rw [mk_put]; with_reducible apply Frame.upd)

def m_effSmbWrite : Nat := 0x7c00000000000000000000f9800e3f70204600013bc0000b800000000000026630b93
theorem fr_effSmbWrite (data : Sys2Proof.Word) (pec : Bool) (s : State) : Frame m_effSmbWrite s (effSmbWrite data pec s) := by
  unfold effSmbWrite
  repeat' first
    | with_reducible assumption
    | with_reducible exact Frame.refl _ _
    | (with_reducible exact .inl rfl)
    | exact .inr (by decide +kernel)
    | (intro x; first
        | (refine Frame.cut (w := m_effSmbWrite) (s := s) x ?_ ?_
           on_goal 2 => intro hx; clear_value x
           on_goal 1 => unfold x; clear x)
        | clear_value x
        | skip)
    | lift_lets -underBinder
    | (with_reducible apply Frame.after (fr_writeBar ..); (on_goal 2 => decide +kernel))
    | (with_reducible apply Frame.after (fr_badPec ..); (on_goal 2 => decide +kernel))
    | (with_reducible apply Frame.after (fr_access ..); (on_goal 2 => decide +kernel))
    | dsimp -zeta only
    | split
    | (rw [mk_put]; with_reducible apply Frame.upd)

def m_effSmbAlertMask : Nat := 0x40000000000000000000000000004400300
theorem fr_effSmbAlertMask (write : Option Nat) (pec : Bool) (s : State) : Frame m_effSmbAlertMask s (effSmbAlertMask write pec s) := by
  unfold effSmbAlertMask
  repeat' first
    | with_reducible assumption
    | with_reducible exact Frame.refl _ _
    | (with_reducible exact .inl rfl)
    | exact .inr (by decide +kernel)
    | (intro x; first
        | (refine Frame.cut (w := m_effSmbAlertMask) (s := s) x ?_ ?_
           on_goal 2 => intro hx; clear_value x
           on_goal 1 => unfold x; clear x)
        | clear_value x
        | skip)
    | lift_lets -underBinder
    | (with_reducible apply Frame.after (fr_smbReturns ..); (on_goal 2 => decide +kernel))
    | (with_reducible apply Frame.after (fr_badPec ..); (on_goal 2 => decide +kernel))
    | dsimp -zeta only
    | split
    | (rw [mk_put]; with_reducible apply Frame.upd)

def m_effSmbAlertResponse : Nat := 0x4000000
theorem fr_effSmbAlertResponse (s : State) : Frame m_effSmbAlertResponse s (effSmbAlertResponse s) := by
  unfold effSmbAlertResponse
  repeat' first
    | with_reducible assumption
    | with_reducible exact Frame.refl _ _
    | lift_lets -underBinder
    | (with_reducible apply Frame.after (fr_smbReturns ..); (on_goal 2 => decide +kernel))
    | dsimp -zeta only
    | split

end Sys2Proof.Laws
end

