-- ==== Sys2Proof/Laws/FrameCommands.lean ====
section
/-!
SUPPORT. Sys2Proof/Laws/FrameCommands.lean: what each operation of Machine/Commands.lean leaves unchanged.
-/
namespace Sys2Proof.Laws

set_option Elab.async false
set_option linter.unusedTactic false
set_option linter.unreachableTactic false

open Sys2Proof.Machine

def m_refuse : Nat := 0x0
theorem fr_refuse (st : Nat) (s : State) : Frame m_refuse s (refuse st s).2 := by
  unfold refuse
  repeat' first
    | with_reducible assumption
    | with_reducible exact Frame.refl _ _

def m_serve : Nat := 0x27fffe00000000000000000000004400000
theorem fr_serve {v : Nat} {s x : State} {n op : Nat} {act : State → List Nat → Option (List Byte) → Answer} (h : Frame v s x)
    (hb : (m_serve ||| v) = v) (ha : ∀ y m nn, Frame v s y → Frame v s (act y m nn).2) : Frame v s (x.serve n op act) := by
  have b22 : m_serve.testBit 22 = true := by decide +kernel
  have hr : ∀ (y : State) (hdr : Nat) (r : Reply), Frame v s y → Frame v s (y.reply n hdr r) := by
    intro y hdr r hy
    refine hy.step ((fr_reply ..).mono (v := m_serve) (by decide +kernel)) hb
  unfold State.serve
  split
  · exact h
  · dsimp only
    split
    · exact h
    · have h1 : Frame v s (if carriesToken op then
          { x with host := { x.host with nonces := x.host.nonces.filter fun p => p.1 != n } } else x) := by
        split
        · rw [mk_put]
          apply Frame.upd h <;> first
            | exact .inl rfl
            | exact .inr (testBit_up hb b22)
        · exact h
      dsimp only at h1
      generalize (@ite _ (carriesToken op = true) _ _ x) = y at h1 ⊢
      repeat' split
      · exact hr _ _ _ h1
      · exact hr _ _ _ h1
      · exact hr _ _ _ h1
      · next m _ _ _ _ _ _ r t he => exact hr _ _ _ (by have := ha _ m (x.nonceOf n) h1; rw [he] at this; exact this)
      · next m _ _ _ _ _ _ t he => have := ha _ m (x.nonceOf n) h1; rw [he] at this; exact this

def m_toBackground : Nat := 0x400000
theorem fr_toBackground (s : State) (n : Nat) (op : Nat) (m : List Nat) (data : List Sys2Proof.Byte) (out : Reply) : Frame m_toBackground s (State.toBackground s n op m data out) := by
  unfold State.toBackground
  repeat' first
    | with_reducible assumption
    | with_reducible exact Frame.refl _ _
    | (with_reducible exact .inl rfl)
    | exact .inr (by decide +kernel)
    | (intro x; first
        | (refine Frame.cut (w := m_toBackground) (s := s) x ?_ ?_
           on_goal 2 => intro hx; clear_value x
           on_goal 1 => unfold x; clear x)
        | clear_value x
        | skip)
    | lift_lets -underBinder
    | dsimp -zeta only
    | split
    | (rw [mk_put]; with_reducible apply Frame.upd)

def m_putBulk : Nat := 0x2000000
theorem fr_putBulk (s : State) (m : List Nat) (l : List Sys2Proof.Byte) : Frame m_putBulk s (State.putBulk s m l) := by
  unfold State.putBulk
  repeat' first
    | with_reducible assumption
    | with_reducible exact Frame.refl _ _
    | lift_lets -underBinder
    | (with_reducible apply Frame.after (fr_putByte ..); (on_goal 2 => decide +kernel))
    | (with_reducible apply Frame.forEach; on_goal 2 => intro t a hs)
    | dsimp -zeta only
    | split

def m_deliver : Nat := 0x2000000
theorem fr_deliver (s : State) (m : List Nat) (ok : Bool) (r : Reply) : Frame m_deliver s (State.deliver s m ok r).2 := by
  unfold State.deliver
  repeat' first
    | with_reducible assumption
    | with_reducible exact Frame.refl _ _
    | lift_lets -underBinder
    | (with_reducible apply Frame.after (fr_putBulk ..); (on_goal 2 => decide +kernel))
    | dsimp -zeta only
    | split

theorem fr_withToken {v : Nat} {s x : State} {m : List Nat} {b : BulkIn} {op arg : Nat} {nonce : Option (List Byte)}
    {go : List Byte → Answer} (h : Frame v s x) (hg : ∀ t, Frame v s (go t).2) :
    Frame v s (x.withToken m b op arg nonce go).2 := by
  unfold State.withToken
  split
  · exact h
  · exact h
  · dsimp only
    split
    · exact hg _
    · exact h

def m_query : Nat := 0x2000000
theorem fr_query (s : State) (n : Nat) (m : List Nat) (x : Sys2Proof.BulkIn) : Frame m_query s (State.query s n m x).2 := by
  unfold State.query
  repeat' first
    | with_reducible assumption
    | with_reducible exact Frame.refl _ _
    | (intro x; first
        | (refine Frame.cut (w := m_query) (s := s) x ?_ ?_
           on_goal 2 => intro hx; clear_value x
           on_goal 1 => unfold x; clear x)
        | clear_value x
        | skip)
    | lift_lets -underBinder
    | (with_reducible apply Frame.after (fr_deliver ..); (on_goal 2 => decide +kernel))
    | dsimp -zeta only
    | split

def m_effQuery : Nat := 0x27fffe00000000000000000000006400000
theorem fr_effQuery (n : Nat) (x : Sys2Proof.BulkIn) (s : State) : Frame m_effQuery s (effQuery n x s) := by
  unfold effQuery
  repeat' first
    | with_reducible assumption
    | with_reducible exact Frame.refl _ _
    | lift_lets -underBinder
    | (unfold answer; dsimp -zeta only)
    | (with_reducible apply fr_serve; (on_goal 2 => decide +kernel); on_goal 2 => intro t m nn hs)
    | (with_reducible apply Frame.after (fr_query ..); (on_goal 2 => decide +kernel))

def m_nonce : Nat := 0x400800
theorem fr_nonce (s : State) (n : Nat) : Frame m_nonce s (State.nonce s n).2 := by
  unfold State.nonce
  repeat' first
    | with_reducible assumption
    | with_reducible exact Frame.refl _ _
    | (with_reducible exact .inl rfl)
    | exact .inr (by decide +kernel)
    | (intro x; first
        | (refine Frame.cut (w := m_nonce) (s := s) x ?_ ?_
           on_goal 2 => intro hx; clear_value x
           on_goal 1 => unfold x; clear x)
        | clear_value x
        | skip)
    | lift_lets -underBinder
    | (with_reducible apply Frame.after (fr_draw ..); (on_goal 2 => decide +kernel))
    | dsimp -zeta only
    | split
    | (rw [mk_put]; with_reducible apply Frame.upd)

def m_effNonce : Nat := 0x27fffe00000000000000000000004400800
theorem fr_effNonce (n : Nat) (s : State) : Frame m_effNonce s (effNonce n s) := by
  unfold effNonce
  repeat' first
    | with_reducible assumption
    | with_reducible exact Frame.refl _ _
    | lift_lets -underBinder
    | (unfold answer; dsimp -zeta only)
    | (with_reducible apply fr_serve; (on_goal 2 => decide +kernel); on_goal 2 => intro t m nn hs)
    | (with_reducible apply Frame.after (fr_nonce ..); (on_goal 2 => decide +kernel))

def m_effSession : Nat := 0x400027fffe00100000000000000000004400380
theorem fr_effSession (n : Nat) (x : Sys2Proof.BulkIn) (s : State) : Frame m_effSession s (effSession n x s) := by
  unfold effSession
  repeat' first
    | with_reducible assumption
    | with_reducible exact Frame.refl _ _
    | lift_lets -underBinder
    | (with_reducible apply Frame.setBS; (on_goal 2 => decide +kernel))
    | (with_reducible apply fr_serve; (on_goal 2 => decide +kernel); on_goal 2 => intro t m nn hs)
    | (with_reducible apply Frame.after (fr_report ..); (on_goal 2 => decide +kernel))
    | (with_reducible apply fr_withToken; on_goal 2 => intro t)

def m_effSessionEnd : Nat := 0x400027fffe00100000000000000000004400380
theorem fr_effSessionEnd (n : Nat) (s : State) : Frame m_effSessionEnd s (effSessionEnd n s) := by
  unfold effSessionEnd
  repeat' first
    | with_reducible assumption
    | with_reducible exact Frame.refl _ _
    | (intro x; first
        | (refine Frame.cut (w := m_effSessionEnd) (s := s) x ?_ ?_
           on_goal 2 => intro hx; clear_value x
           on_goal 1 => unfold x; clear x)
        | clear_value x
        | skip)
    | lift_lets -underBinder
    | (with_reducible apply fr_serve; (on_goal 2 => decide +kernel); on_goal 2 => intro t m nn hs)
    | (with_reducible apply Frame.after (fr_report ..); (on_goal 2 => decide +kernel))
    | (with_reducible apply Frame.after (fr_endSession ..); (on_goal 2 => decide +kernel))
    | dsimp -zeta only
    | split

def m_effApply : Nat := 0xf98004014c0027fffe0800000000002d000a00004500380
theorem fr_effApply (n : Nat) (s : State) : Frame m_effApply s (effApply n s) := by
  unfold effApply
  repeat' first
    | with_reducible assumption
    | with_reducible exact Frame.refl _ _
    | lift_lets -underBinder
    | (unfold answer; dsimp -zeta only)
    | (with_reducible apply fr_serve; (on_goal 2 => decide +kernel); on_goal 2 => intro t m nn hs)
    | (with_reducible apply Frame.after (fr_cmdApply ..); (on_goal 2 => decide +kernel))

def m_effApplyPlan : Nat := 0xf98004014c0027fffe0800000000403f000a100065003c0
theorem fr_effApplyPlan (n : Nat) (s : State) : Frame m_effApplyPlan s (effApplyPlan n s) := by
  unfold effApplyPlan
  repeat' first
    | with_reducible assumption
    | with_reducible exact Frame.refl _ _
    | (intro x; first
        | (refine Frame.cut (w := m_effApplyPlan) (s := s) x ?_ ?_
           on_goal 2 => intro hx; clear_value x
           on_goal 1 => unfold x; clear x)
        | clear_value x
        | skip)
    | lift_lets -underBinder
    | (unfold answer; dsimp -zeta only)
    | (with_reducible apply fr_serve; (on_goal 2 => decide +kernel); on_goal 2 => intro t m nn hs)
    | (with_reducible apply Frame.after (fr_cmdApplyPlan ..); (on_goal 2 => decide +kernel))

def m_effHaltPlan : Nat := 0x400027fffe0800000000401d000a000065003c0
theorem fr_effHaltPlan (n : Nat) (s : State) : Frame m_effHaltPlan s (effHaltPlan n s) := by
  unfold effHaltPlan
  repeat' first
    | with_reducible assumption
    | with_reducible exact Frame.refl _ _
    | lift_lets -underBinder
    | (unfold answer; dsimp -zeta only)
    | (with_reducible apply fr_serve; (on_goal 2 => decide +kernel); on_goal 2 => intro t m nn hs)
    | (with_reducible apply Frame.after (fr_cmdHaltPlan ..); (on_goal 2 => decide +kernel))

def m_effForceSwitch : Nat := 0x400027fffe000000000001800000000044003a0
theorem fr_effForceSwitch (n : Nat) (s : State) : Frame m_effForceSwitch s (effForceSwitch n s) := by
  unfold effForceSwitch
  repeat' first
    | with_reducible assumption
    | with_reducible exact Frame.refl _ _
    | lift_lets -underBinder
    | (unfold answer; dsimp -zeta only)
    | (with_reducible apply Frame.after (fr_cmdForceSwitch ..); (on_goal 2 => decide +kernel))
    | (with_reducible apply fr_serve; (on_goal 2 => decide +kernel); on_goal 2 => intro t m nn hs)

def m_effClearForce : Nat := 0x400027fffe000000000001800000000044003a0
theorem fr_effClearForce (n : Nat) (s : State) : Frame m_effClearForce s (effClearForce n s) := by
  unfold effClearForce
  repeat' first
    | with_reducible assumption
    | with_reducible exact Frame.refl _ _
    | lift_lets -underBinder
    | (unfold answer; dsimp -zeta only)
    | (with_reducible apply fr_serve; (on_goal 2 => decide +kernel); on_goal 2 => intro t m nn hs)
    | (with_reducible apply Frame.after (fr_cmdClearForce ..); (on_goal 2 => decide +kernel))

def m_effMateRole : Nat := 0x10000000000000000000400027fffe000000000040000000000044003c0
theorem fr_effMateRole (n : Nat) (s : State) : Frame m_effMateRole s (effMateRole n s) := by
  unfold effMateRole
  repeat' first
    | with_reducible assumption
    | with_reducible exact Frame.refl _ _
    | lift_lets -underBinder
    | (unfold answer; dsimp -zeta only)
    | (with_reducible apply fr_serve; (on_goal 2 => decide +kernel); on_goal 2 => intro t m nn hs)
    | (with_reducible apply Frame.after (fr_cmdMateRole ..); (on_goal 2 => decide +kernel))

def m_effFreeze : Nat := 0x2027fffe00000000000000000000004400880
theorem fr_effFreeze (n : Nat) (s : State) : Frame m_effFreeze s (effFreeze n s) := by
  unfold effFreeze
  repeat' first
    | with_reducible assumption
    | with_reducible exact Frame.refl _ _
    | lift_lets -underBinder
    | (unfold answer; dsimp -zeta only)
    | (with_reducible apply fr_serve; (on_goal 2 => decide +kernel); on_goal 2 => intro t m nn hs)
    | (with_reducible apply Frame.after (fr_cmdFreeze ..); (on_goal 2 => decide +kernel))

def m_effThaw : Nat := 0x401402027fffe00000000000000000000004400380
theorem fr_effThaw (n : Nat) (s : State) : Frame m_effThaw s (effThaw n s) := by
  unfold effThaw
  repeat' first
    | with_reducible assumption
    | with_reducible exact Frame.refl _ _
    | lift_lets -underBinder
    | (unfold answer; dsimp -zeta only)
    | (with_reducible apply fr_serve; (on_goal 2 => decide +kernel); on_goal 2 => intro t m nn hs)
    | (with_reducible apply Frame.after (fr_cmdThaw ..); (on_goal 2 => decide +kernel))

def m_effClearEvt : Nat := 0x61f4c2027fffe00000000000000000000004400b80
theorem fr_effClearEvt (n : Nat) (x : Sys2Proof.BulkIn) (s : State) : Frame m_effClearEvt s (effClearEvt n x s) := by
  unfold effClearEvt
  repeat' first
    | with_reducible assumption
    | with_reducible exact Frame.refl _ _
    | lift_lets -underBinder
    | (unfold answer; dsimp -zeta only)
    | (with_reducible apply fr_serve; (on_goal 2 => decide +kernel); on_goal 2 => intro t m nn hs)
    | (with_reducible apply Frame.after (fr_refuse ..); (on_goal 2 => decide +kernel))
    | (with_reducible apply fr_withToken; on_goal 2 => intro t)
    | (with_reducible apply Frame.after (fr_cmdClearEvt ..); (on_goal 2 => decide +kernel))
    | dsimp -zeta only
    | split

def m_effHarvestEvt : Nat := 0x27fffe00000000000000000000004400000
theorem fr_effHarvestEvt (n : Nat) (s : State) : Frame m_effHarvestEvt s (effHarvestEvt n s) := by
  unfold effHarvestEvt
  repeat' first
    | with_reducible assumption
    | with_reducible exact Frame.refl _ _
    | (intro x; first
        | (refine Frame.cut (w := m_effHarvestEvt) (s := s) x ?_ ?_
           on_goal 2 => intro hx; clear_value x
           on_goal 1 => unfold x; clear x)
        | clear_value x
        | skip)
    | lift_lets -underBinder
    | (with_reducible apply fr_serve; (on_goal 2 => decide +kernel); on_goal 2 => intro t m nn hs)
    | (with_reducible apply Frame.after (fr_toBackground ..); (on_goal 2 => decide +kernel))
    | (with_reducible apply Frame.after (fr_refuse ..); (on_goal 2 => decide +kernel))
    | dsimp -zeta only
    | split

def m_effHarvestPm : Nat := 0x27fffe00000000000000000000004400000
theorem fr_effHarvestPm (n : Nat) (s : State) : Frame m_effHarvestPm s (effHarvestPm n s) := by
  unfold effHarvestPm
  repeat' first
    | with_reducible assumption
    | with_reducible exact Frame.refl _ _
    | lift_lets -underBinder
    | (with_reducible apply fr_serve; (on_goal 2 => decide +kernel); on_goal 2 => intro t m nn hs)
    | (with_reducible apply Frame.after (fr_toBackground ..); (on_goal 2 => decide +kernel))
    | (with_reducible apply Frame.after (fr_refuse ..); (on_goal 2 => decide +kernel))
    | dsimp -zeta only
    | split

def m_cmdSetRtc : Nat := 0x5e00000000000000000400000000000000000000000000000004000380
theorem fr_cmdSetRtc (s : State) (m : List Nat) : Frame m_cmdSetRtc s (State.cmdSetRtc s m).2 := by
  unfold State.cmdSetRtc
  repeat' first
    | with_reducible assumption
    | with_reducible exact Frame.refl _ _
    | (intro x; first
        | (refine Frame.cut (w := m_cmdSetRtc) (s := s) x ?_ ?_
           on_goal 2 => intro hx; clear_value x
           on_goal 1 => unfold x; clear x)
        | clear_value x
        | skip)
    | lift_lets -underBinder
    | (with_reducible apply Frame.setBS; (on_goal 2 => decide +kernel))
    | (with_reducible apply Frame.incWS; (on_goal 2 => decide +kernel))
    | (with_reducible apply Frame.after (fr_report ..); (on_goal 2 => decide +kernel))
    | (with_reducible apply Frame.after (fr_setRtc ..); (on_goal 2 => decide +kernel))
    | dsimp -zeta only
    | split

def m_effSetRtc : Nat := 0x5e00000000000000000400027fffe00000000000000000000004400380
theorem fr_effSetRtc (n : Nat) (s : State) : Frame m_effSetRtc s (effSetRtc n s) := by
  unfold effSetRtc
  repeat' first
    | with_reducible assumption
    | with_reducible exact Frame.refl _ _
    | lift_lets -underBinder
    | (unfold answer; dsimp -zeta only)
    | (with_reducible apply fr_serve; (on_goal 2 => decide +kernel); on_goal 2 => intro t m nn hs)
    | (with_reducible apply Frame.after (fr_cmdSetRtc ..); (on_goal 2 => decide +kernel))

def m_flashWrite : Nat := 0x400040
theorem fr_flashWrite (s : State) (n : Nat) (m : List Nat) (x : Sys2Proof.BulkIn) : Frame m_flashWrite s (State.flashWrite s n m x).2 := by
  unfold State.flashWrite
  repeat' first
    | with_reducible assumption
    | with_reducible exact Frame.refl _ _
    | (with_reducible exact .inl rfl)
    | exact .inr (by decide +kernel)
    | (intro x; first
        | (refine Frame.cut (w := m_flashWrite) (s := s) x ?_ ?_
           on_goal 2 => intro hx; clear_value x
           on_goal 1 => unfold x; clear x)
        | clear_value x
        | skip)
    | lift_lets -underBinder
    | (with_reducible apply Frame.after (fr_toBackground ..); (on_goal 2 => decide +kernel))
    | (with_reducible apply Frame.after (fr_refuse ..); (on_goal 2 => decide +kernel))
    | dsimp -zeta only
    | split
    | (rw [mk_put]; with_reducible apply Frame.upd)

def m_effFlashWrite : Nat := 0x27fffe00000000000000000000004400040
theorem fr_effFlashWrite (n : Nat) (x : Sys2Proof.BulkIn) (s : State) : Frame m_effFlashWrite s (effFlashWrite n x s) := by
  unfold effFlashWrite
  repeat' first
    | with_reducible assumption
    | with_reducible exact Frame.refl _ _
    | lift_lets -underBinder
    | (with_reducible apply fr_serve; (on_goal 2 => decide +kernel); on_goal 2 => intro t m nn hs)
    | (with_reducible apply Frame.after (fr_flashWrite ..); (on_goal 2 => decide +kernel))

def m_programSlot : Nat := 0x1000000
theorem fr_programSlot (s : State) (cs : Nat) (k : Nat) (off : Nat) (l : List Sys2Proof.Byte) : Frame m_programSlot s (State.programSlot s cs k off l) := by
  unfold State.programSlot
  repeat' first
    | with_reducible assumption
    | with_reducible exact Frame.refl _ _
    | (intro x; first
        | (refine Frame.cut (w := m_programSlot) (s := s) x ?_ ?_
           on_goal 2 => intro hx; clear_value x
           on_goal 1 => unfold x; clear x)
        | clear_value x
        | skip)
    | lift_lets -underBinder
    | (with_reducible apply Frame.after (fr_putFlash ..); (on_goal 2 => decide +kernel))
    | (with_reducible apply Frame.after (fr_markSlot ..); (on_goal 2 => decide +kernel))
    | (with_reducible apply Frame.after (fr_eraseFlash ..); (on_goal 2 => decide +kernel))
    | (with_reducible apply Frame.forEach; on_goal 2 => intro t a hs)
    | dsimp -zeta only
    | split

def m_flashDone : Nat := 0x1000000
theorem fr_flashDone (s : State) (b : BgCmd) (x : Sys2Proof.DoneIn) : Frame m_flashDone s (State.flashDone s b x).2.2 := by
  unfold State.flashDone
  repeat' first
    | with_reducible assumption
    | with_reducible exact Frame.refl _ _
    | (intro x; first
        | (refine Frame.cut (w := m_flashDone) (s := s) x ?_ ?_
           on_goal 2 => intro hx; clear_value x
           on_goal 1 => unfold x; clear x)
        | clear_value x
        | skip)
    | lift_lets -underBinder
    | (with_reducible apply Frame.after (fr_markSlot ..); (on_goal 2 => decide +kernel))
    | (with_reducible apply Frame.after (fr_programSlot ..); (on_goal 2 => decide +kernel))
    | dsimp -zeta only
    | split

def m_provision : Nat := 0x80000000000000000887004c0800
theorem fr_provision (s : State) (n : Nat) (m : List Nat) (x : Sys2Proof.BulkIn) : Frame m_provision s (State.provision s n m x).2 := by
  unfold State.provision
  repeat' first
    | with_reducible assumption
    | with_reducible exact Frame.refl _ _
    | (intro x; first
        | (refine Frame.cut (w := m_provision) (s := s) x ?_ ?_
           on_goal 2 => intro hx; clear_value x
           on_goal 1 => unfold x; clear x)
        | skip)
    | lift_lets -underBinder
    | (with_reducible apply Frame.after (fr_draw ..); (on_goal 2 => decide +kernel))
    | ((with_reducible apply fr_setFuse); (on_goal 2 => decide +kernel); (on_goal 2 => refine ⟨?_, ?_, ?_, ?_, ?_⟩ <;> first | exact le_rfl | exact Nat.le_max_left _ _ | exact fun _ hi => hi | exact Nat.le_of_lt (And.right ‹_ ∧ _›) | exact fun _ hi => List.mem_append_left _ hi))
    | (with_reducible apply Frame.after (fr_toBackground ..); (on_goal 2 => decide +kernel))
    | (with_reducible apply Frame.after (fr_refuse ..); (on_goal 2 => decide +kernel))
    | (with_reducible apply Frame.forEach; on_goal 2 => intro t a hs)
    | dsimp -zeta only
    | split

def m_effProvision : Nat := 0x27fffe080000000000000000887044c0800
theorem fr_effProvision (n : Nat) (x : Sys2Proof.BulkIn) (s : State) : Frame m_effProvision s (effProvision n x s) := by
  unfold effProvision
  repeat' first
    | with_reducible assumption
    | with_reducible exact Frame.refl _ _
    | lift_lets -underBinder
    | (with_reducible apply Frame.after (fr_provision ..); (on_goal 2 => decide +kernel))
    | (with_reducible apply fr_serve; (on_goal 2 => decide +kernel); on_goal 2 => intro t m nn hs)

def m_lcAdvance : Nat := 0x80000000000000000887004c0000
theorem fr_lcAdvance (s : State) (n : Nat) (m : List Nat) (x : Sys2Proof.BulkIn) : Frame m_lcAdvance s (State.lcAdvance s n m x).2 := by
  unfold State.lcAdvance
  repeat' first
    | with_reducible assumption
    | with_reducible exact Frame.refl _ _
    | (intro x; first
        | (refine Frame.cut (w := m_lcAdvance) (s := s) x ?_ ?_
           on_goal 2 => intro hx; clear_value x
           on_goal 1 => unfold x; clear x)
        | skip)
    | lift_lets -underBinder
    | ((with_reducible apply fr_setFuse); (on_goal 2 => decide +kernel); (on_goal 2 => refine ⟨?_, ?_, ?_, ?_, ?_⟩ <;> first | exact le_rfl | exact Nat.le_max_left _ _ | exact fun _ hi => hi | exact Nat.le_of_lt (And.right ‹_ ∧ _›) | exact fun _ hi => List.mem_append_left _ hi))
    | (with_reducible apply Frame.after (fr_toBackground ..); (on_goal 2 => decide +kernel))
    | (with_reducible apply Frame.after (fr_refuse ..); (on_goal 2 => decide +kernel))
    | (with_reducible apply fr_withToken; on_goal 2 => intro t)
    | dsimp -zeta only
    | split

def m_effLcAdvance : Nat := 0x27fffe080000000000000000887044c0000
theorem fr_effLcAdvance (n : Nat) (x : Sys2Proof.BulkIn) (s : State) : Frame m_effLcAdvance s (effLcAdvance n x s) := by
  unfold effLcAdvance
  repeat' first
    | with_reducible assumption
    | with_reducible exact Frame.refl _ _
    | lift_lets -underBinder
    | (with_reducible apply fr_serve; (on_goal 2 => decide +kernel); on_goal 2 => intro t m nn hs)
    | (with_reducible apply Frame.after (fr_lcAdvance ..); (on_goal 2 => decide +kernel))

def m_keyRevoke : Nat := 0x4000000000080000000000000000887040c0380
theorem fr_keyRevoke (s : State) (m : List Nat) (x : Sys2Proof.BulkIn) : Frame m_keyRevoke s (State.keyRevoke s m x).2 := by
  unfold State.keyRevoke
  repeat' first
    | with_reducible assumption
    | with_reducible exact Frame.refl _ _
    | (intro x; first
        | (refine Frame.cut (w := m_keyRevoke) (s := s) x ?_ ?_
           on_goal 2 => intro hx; clear_value x
           on_goal 1 => unfold x; clear x)
        | skip)
    | lift_lets -underBinder
    | ((with_reducible apply fr_setFuse); (on_goal 2 => decide +kernel); (on_goal 2 => refine ⟨?_, ?_, ?_, ?_, ?_⟩ <;> first | exact le_rfl | exact Nat.le_max_left _ _ | exact fun _ hi => hi | exact Nat.le_of_lt (And.right ‹_ ∧ _›) | exact fun _ hi => List.mem_append_left _ hi))
    | (with_reducible apply Frame.after (fr_report ..); (on_goal 2 => decide +kernel))
    | (with_reducible apply Frame.after (fr_refuse ..); (on_goal 2 => decide +kernel))
    | (with_reducible apply fr_withToken; on_goal 2 => intro t)
    | dsimp -zeta only
    | split

def m_effKeyRevoke : Nat := 0x400027fffe080000000000000000887044c0380
theorem fr_effKeyRevoke (n : Nat) (x : Sys2Proof.BulkIn) (s : State) : Frame m_effKeyRevoke s (effKeyRevoke n x s) := by
  unfold effKeyRevoke
  repeat' first
    | with_reducible assumption
    | with_reducible exact Frame.refl _ _
    | lift_lets -underBinder
    | (with_reducible apply Frame.after (fr_keyRevoke ..); (on_goal 2 => decide +kernel))
    | (with_reducible apply fr_serve; (on_goal 2 => decide +kernel); on_goal 2 => intro t m nn hs)

def m_effDebugUnlock : Nat := 0x27fffe00000000000000000080004400000
theorem fr_effDebugUnlock (n : Nat) (x : Sys2Proof.BulkIn) (s : State) : Frame m_effDebugUnlock s (effDebugUnlock n x s) := by
  unfold effDebugUnlock
  repeat' first
    | with_reducible assumption
    | with_reducible exact Frame.refl _ _
    | lift_lets -underBinder
    | (with_reducible apply Frame.setBS; (on_goal 2 => decide +kernel))
    | (with_reducible apply fr_serve; (on_goal 2 => decide +kernel); on_goal 2 => intro t m nn hs)
    | (with_reducible apply Frame.after (fr_refuse ..); (on_goal 2 => decide +kernel))
    | (with_reducible apply fr_withToken; on_goal 2 => intro t)
    | dsimp -zeta only
    | split

def m_attestRecord : Nat := 0x4014c0000000000000000000000000000004000b80
theorem fr_attestRecord (s : State) : Frame m_attestRecord s (State.attestRecord s).2 := by
  unfold State.attestRecord
  repeat' first
    | with_reducible assumption
    | with_reducible exact Frame.refl _ _
    | (intro x; first
        | (refine Frame.cut (w := m_attestRecord) (s := s) x ?_ ?_
           on_goal 2 => intro hx; clear_value x
           on_goal 1 => unfold x; clear x)
        | clear_value x
        | skip)
    | lift_lets -underBinder
    | (with_reducible apply Frame.after (fr_draw ..); (on_goal 2 => decide +kernel))
    | (with_reducible apply Frame.after (fr_irqSet ..); (on_goal 2 => decide +kernel))
    | (with_reducible apply Frame.after (fr_acceptAll ..); (on_goal 2 => decide +kernel))
    | (with_reducible apply Frame.after (fr_acceptOffer ..); (on_goal 2 => decide +kernel))
    | dsimp -zeta only
    | split

def m_attest : Nat := 0x4014c0000000000000000000000000000004400b80
theorem fr_attest (s : State) (n : Nat) (m : List Nat) (x : Sys2Proof.BulkIn) : Frame m_attest s (State.attest s n m x).2 := by
  unfold State.attest
  repeat' first
    | with_reducible assumption
    | with_reducible exact Frame.refl _ _
    | (intro x; first
        | (refine Frame.cut (w := m_attest) (s := s) x ?_ ?_
           on_goal 2 => intro hx; clear_value x
           on_goal 1 => unfold x; clear x)
        | (refine Frame.cut (w := m_attest) (s := s) x.1 ?_ ?_
           on_goal 2 => intro hx; clear_value x
           on_goal 1 => unfold x; clear x)
        | (refine Frame.cut (w := m_attest) (s := s) x.2 ?_ ?_
           on_goal 2 => intro hx; clear_value x
           on_goal 1 => unfold x; clear x)
        | clear_value x
        | skip)
    | lift_lets -underBinder
    | (with_reducible apply Frame.after (fr_toBackground ..); (on_goal 2 => decide +kernel))
    | (with_reducible apply Frame.after (fr_attestRecord ..); (on_goal 2 => decide +kernel))
    | (with_reducible apply Frame.after (fr_refuse ..); (on_goal 2 => decide +kernel))
    | dsimp -zeta only
    | split

def m_effAttest : Nat := 0x4014c0027fffe00000000000000000000004400b80
theorem fr_effAttest (n : Nat) (x : Sys2Proof.BulkIn) (s : State) : Frame m_effAttest s (effAttest n x s) := by
  unfold effAttest
  repeat' first
    | with_reducible assumption
    | with_reducible exact Frame.refl _ _
    | lift_lets -underBinder
    | (with_reducible apply fr_serve; (on_goal 2 => decide +kernel); on_goal 2 => intro t m nn hs)
    | (with_reducible apply Frame.after (fr_attest ..); (on_goal 2 => decide +kernel))

def m_bgEnd : Nat := 0x400007fffe081000000000000000887074c0380
theorem fr_bgEnd (s : State) (b : BgCmd) (x : Sys2Proof.DoneIn) : Frame m_bgEnd s (State.bgEnd s b x).2.2 := by
  unfold State.bgEnd
  repeat' first
    | with_reducible assumption
    | with_reducible exact Frame.refl _ _
    | (intro x; first
        | (refine Frame.cut (w := m_bgEnd) (s := s) x ?_ ?_
           on_goal 2 => intro hx; clear_value x
           on_goal 1 => unfold x; clear x)
        | (refine Frame.cut (w := m_bgEnd) (s := s) x.1 ?_ ?_
           on_goal 2 => intro hx; clear_value x
           on_goal 1 => unfold x; clear x)
        | (refine Frame.cut (w := m_bgEnd) (s := s) x.2 ?_ ?_
           on_goal 2 => intro hx; clear_value x
           on_goal 1 => unfold x; clear x)
        | clear_value x
        | skip)
    | lift_lets -underBinder
    | (with_reducible apply Frame.after (fr_completeBurns ..); (on_goal 2 => decide +kernel))
    | (with_reducible apply Frame.after (fr_deliver ..); (on_goal 2 => decide +kernel))
    | (with_reducible apply Frame.after (fr_cmdHarvestPm ..); (on_goal 2 => decide +kernel))
    | (with_reducible apply Frame.after (fr_cmdHarvestEvt ..); (on_goal 2 => decide +kernel))
    | (with_reducible apply Frame.after (fr_flashDone ..); (on_goal 2 => decide +kernel))
    | dsimp -zeta only
    | split

def m_effBackgroundCommandDone : Nat := 0x87fffd0020301fffffffff467e0e014c0027fffe49dfc7ff804f800115fff07effbfc
theorem fr_effBackgroundCommandDone (n : Nat) (x : Sys2Proof.DoneIn) (s : State) : Frame m_effBackgroundCommandDone s (effBackgroundCommandDone n x s) := by
  unfold effBackgroundCommandDone
  repeat' first
    | with_reducible assumption
    | with_reducible exact Frame.refl _ _
    | (with_reducible exact .inl rfl)
    | exact .inr (by decide +kernel)
    | (intro x; first
        | (refine Frame.cut (w := m_effBackgroundCommandDone) (s := s) x ?_ ?_
           on_goal 2 => intro hx; clear_value x
           on_goal 1 => unfold x; clear x)
        | clear_value x
        | skip)
    | lift_lets -underBinder
    | (with_reducible apply Frame.after (fr_reply ..); (on_goal 2 => decide +kernel))
    | (with_reducible apply Frame.after (fr_bgEnd ..); (on_goal 2 => decide +kernel))
    | (with_reducible apply Frame.after (fr_arbitrate ..); (on_goal 2 => decide +kernel))
    | (with_reducible apply Frame.after (fr_bootImage ..); (on_goal 2 => decide +kernel))
    | dsimp -zeta only
    | split
    | (rw [mk_put]; with_reducible apply Frame.upd)

end Sys2Proof.Laws
end

