-- ==== Sys2Proof/Laws/FrameGrid.lean ====
section
/-!
SUPPORT. Sys2Proof/Laws/FrameGrid.lean: what each operation of Machine/Grid.lean leaves unchanged.
-/
namespace Sys2Proof.Laws

set_option Elab.async false
set_option linter.unusedTactic false
set_option linter.unreachableTactic false

open Sys2Proof.Machine

def m_oduPeriod : Nat := 0x3000000000000000000000000000400000000000000000000000000000004000b90
theorem fr_oduPeriod (s : State) (x : Sys2Proof.GridIn) (e : Entry) : Frame m_oduPeriod s (State.oduPeriod s x e).2 := by
  unfold State.oduPeriod
  repeat' first
    | with_reducible assumption
    | with_reducible exact Frame.refl _ _
    | (intro x; first
        | (refine Frame.cut (w := m_oduPeriod) (s := s) x ?_ ?_
           on_goal 2 => intro hx; clear_value x
           on_goal 1 => unfold x; clear x)
        | clear_value x
        | skip)
    | lift_lets -underBinder
    | (with_reducible apply Frame.setS; (on_goal 2 => decide +kernel))
    | (with_reducible apply Frame.after (fr_setMapSt ..); (on_goal 2 => decide +kernel))
    | (with_reducible apply Frame.after (fr_pull ..); (on_goal 2 => decide +kernel))
    | (with_reducible apply Frame.after (fr_adaptOvf ..); (on_goal 2 => decide +kernel))
    | dsimp -zeta only
    | split

def m_oduPeriods : Nat := 0x3000000000000000000000000000400000000000000000000000000000004000b90
theorem fr_oduPeriods (s : State) (x : Sys2Proof.GridIn) : Frame m_oduPeriods s (State.oduPeriods s x).2 := by
  unfold State.oduPeriods
  repeat' first
    | with_reducible assumption
    | with_reducible exact Frame.refl _ _
    | (intro x; first
        | (refine Frame.cut (w := m_oduPeriods) (s := s) x ?_ ?_
           on_goal 2 => intro hx; clear_value x
           on_goal 1 => unfold x; clear x)
        | (refine Frame.cut (w := m_oduPeriods) (s := s) x.1 ?_ ?_
           on_goal 2 => intro hx; clear_value x
           on_goal 1 => unfold x; clear x)
        | (refine Frame.cut (w := m_oduPeriods) (s := s) x.2 ?_ ?_
           on_goal 2 => intro hx; clear_value x
           on_goal 1 => unfold x; clear x)
        | clear_value x
        | skip)
    | lift_lets -underBinder
    | (with_reducible apply Frame.after (fr_oduPeriod ..); (on_goal 2 => decide +kernel))
    | (with_reducible apply Frame.foldl2; on_goal 2 => intro t b hs)

def m_engineBlocks : Nat := 0x10000
theorem fr_engineBlocks (s : State) (odus : List OduPeriod) : Frame m_engineBlocks s (State.engineBlocks s odus).2 := by
  unfold State.engineBlocks
  repeat' first
    | with_reducible assumption
    | with_reducible exact Frame.refl _ _
    | (intro x; first
        | (refine Frame.cut (w := m_engineBlocks) (s := s) x ?_ ?_
           on_goal 2 => intro hx; clear_value x
           on_goal 1 => unfold x; clear x)
        | (refine Frame.cut (w := m_engineBlocks) (s := s) x.1 ?_ ?_
           on_goal 2 => intro hx; clear_value x
           on_goal 1 => unfold x; clear x)
        | (refine Frame.cut (w := m_engineBlocks) (s := s) x.2 ?_ ?_
           on_goal 2 => intro hx; clear_value x
           on_goal 1 => unfold x; clear x)
        | clear_value x
        | skip)
    | lift_lets -underBinder
    | (with_reducible apply Frame.after (fr_mergePeriod ..); (on_goal 2 => decide +kernel))
    | (with_reducible apply Frame.after (fr_wrapPeriod ..); (on_goal 2 => decide +kernel))
    | (with_reducible apply Frame.foldl2; on_goal 2 => intro t b hs)

def m_ctxBlock : Nat := 0x4000
theorem fr_ctxBlock (s : State) (streams : List (Nat × List W66)) (odus : List OduPeriod) (e : Entry) (j : Nat) : Frame m_ctxBlock s (State.ctxBlock s streams odus e j).1 := by
  unfold State.ctxBlock
  repeat' first
    | with_reducible assumption
    | with_reducible exact Frame.refl _ _
    | (intro x; first
        | (refine Frame.cut (w := m_ctxBlock) (s := s) x ?_ ?_
           on_goal 2 => intro hx; clear_value x
           on_goal 1 => unfold x; clear x)
        | (refine Frame.cut (w := m_ctxBlock) (s := s) x.1 ?_ ?_
           on_goal 2 => intro hx; clear_value x
           on_goal 1 => unfold x; clear x)
        | (refine Frame.cut (w := m_ctxBlock) (s := s) x.2 ?_ ?_
           on_goal 2 => intro hx; clear_value x
           on_goal 1 => unfold x; clear x)
        | clear_value x
        | skip)
    | lift_lets -underBinder
    | (with_reducible apply Frame.after (fr_assemble ..); (on_goal 2 => decide +kernel))
    | dsimp -zeta only
    | split

def m_slotBlock : Nat := 0xc000
theorem fr_slotBlock (s : State) (streams : List (Nat × List W66)) (odus : List OduPeriod) (eng : List (Nat × Blk)) (slot : Nat) : Frame m_slotBlock s (State.slotBlock s streams odus eng slot).1 := by
  unfold State.slotBlock
  repeat' first
    | with_reducible assumption
    | with_reducible exact Frame.refl _ _
    | (intro x; first
        | (refine Frame.cut (w := m_slotBlock) (s := s) x ?_ ?_
           on_goal 2 => intro hx; clear_value x
           on_goal 1 => unfold x; clear x)
        | (refine Frame.cut (w := m_slotBlock) (s := s) x.1 ?_ ?_
           on_goal 2 => intro hx; clear_value x
           on_goal 1 => unfold x; clear x)
        | (refine Frame.cut (w := m_slotBlock) (s := s) x.2 ?_ ?_
           on_goal 2 => intro hx; clear_value x
           on_goal 1 => unfold x; clear x)
        | clear_value x
        | skip)
    | lift_lets -underBinder
    | (with_reducible apply Frame.after (fr_tagBlock ..); (on_goal 2 => decide +kernel))
    | (with_reducible apply Frame.after (fr_ctxBlock ..); (on_goal 2 => decide +kernel))
    | dsimp -zeta only
    | split

def m_writeAll : Nat := 0x30000000000000000000f980000040000000000000000000000008000000401eb90
theorem fr_writeAll (s : State) (x : Sys2Proof.GridIn) : Frame m_writeAll s (State.writeAll s x) := by
  unfold State.writeAll
  repeat' first
    | with_reducible assumption
    | with_reducible exact Frame.refl _ _
    | (intro x; first
        | (refine Frame.cut (w := m_writeAll) (s := s) x ?_ ?_
           on_goal 2 => intro hx; clear_value x
           on_goal 1 => unfold x; clear x)
        | (refine Frame.cut (w := m_writeAll) (s := s) x.1 ?_ ?_
           on_goal 2 => intro hx; clear_value x
           on_goal 1 => unfold x; clear x)
        | (refine Frame.cut (w := m_writeAll) (s := s) x.2 ?_ ?_
           on_goal 2 => intro hx; clear_value x
           on_goal 1 => unfold x; clear x)
        | clear_value x
        | skip)
    | lift_lets -underBinder
    | (with_reducible apply Frame.incS; (on_goal 2 => decide +kernel))
    | (with_reducible apply Frame.after (fr_slotBlock ..); (on_goal 2 => decide +kernel))
    | (with_reducible apply Frame.after (fr_writeBlk ..); (on_goal 2 => decide +kernel))
    | (with_reducible apply Frame.after (fr_irqSet ..); (on_goal 2 => decide +kernel))
    | (with_reducible apply Frame.after (fr_cvuFeed ..); (on_goal 2 => decide +kernel))
    | (with_reducible apply Frame.after (fr_streamPeriods ..); (on_goal 2 => decide +kernel))
    | (with_reducible apply Frame.after (fr_oduPeriods ..); (on_goal 2 => decide +kernel))
    | (with_reducible apply Frame.after (fr_engineBlocks ..); (on_goal 2 => decide +kernel))
    | (with_reducible apply Frame.forEach; on_goal 2 => intro t a hs)
    | dsimp -zeta only
    | split

def m_sendStream : Nat := 0x2000000000000000000000000000400000000000000000000000000000004000390
theorem fr_sendStream (s : State) (e : Entry) (l : List Blk) : Frame m_sendStream s (State.sendStream s e l) := by
  unfold State.sendStream
  repeat' first
    | with_reducible assumption
    | with_reducible exact Frame.refl _ _
    | (with_reducible exact .inl rfl)
    | exact .inr (by decide +kernel)
    | (intro x; first
        | (refine Frame.cut (w := m_sendStream) (s := s) x ?_ ?_
           on_goal 2 => intro hx; clear_value x
           on_goal 1 => unfold x; clear x)
        | clear_value x
        | skip)
    | lift_lets -underBinder
    | (with_reducible apply Frame.after (fr_feed ..); (on_goal 2 => decide +kernel))
    | (with_reducible apply Frame.after (fr_adaptIn ..); (on_goal 2 => decide +kernel))
    | (with_reducible apply Frame.forEach; on_goal 2 => intro t a hs)
    | dsimp -zeta only
    | split
    | (rw [mk_put]; with_reducible apply Frame.upd)

def m_sendOdu : Nat := 0x1000000000000000000000000000000000000000000000000000000000000000010
theorem fr_sendOdu (s : State) (e : Entry) (l : List Blk) : Frame m_sendOdu s (State.sendOdu s e l) := by
  unfold State.sendOdu
  repeat' first
    | with_reducible assumption
    | with_reducible exact Frame.refl _ _
    | (intro x; first
        | (refine Frame.cut (w := m_sendOdu) (s := s) x ?_ ?_
           on_goal 2 => intro hx; clear_value x
           on_goal 1 => unfold x; clear x)
        | (refine Frame.cut (w := m_sendOdu) (s := s) x.1 ?_ ?_
           on_goal 2 => intro hx; clear_value x
           on_goal 1 => unfold x; clear x)
        | (refine Frame.cut (w := m_sendOdu) (s := s) x.2 ?_ ?_
           on_goal 2 => intro hx; clear_value x
           on_goal 1 => unfold x; clear x)
        | clear_value x
        | skip)
    | lift_lets -underBinder
    | (with_reducible apply Frame.setS; (on_goal 2 => decide +kernel))
    | (with_reducible apply Frame.after (fr_feed ..); (on_goal 2 => decide +kernel))
    | (with_reducible apply Frame.forEach; on_goal 2 => intro t a hs)
    | dsimp -zeta only
    | split

def m_sendHost : Nat := 0x4000000000000000000000000000000000000000000000000000000000004000010
theorem fr_sendHost (s : State) (e : Entry) (b : Blk) : Frame m_sendHost s (State.sendHost s e b) := by
  unfold State.sendHost
  repeat' first
    | with_reducible assumption
    | with_reducible exact Frame.refl _ _
    | (with_reducible exact .inl rfl)
    | exact .inr (by decide +kernel)
    | (intro x; first
        | (refine Frame.cut (w := m_sendHost) (s := s) x ?_ ?_
           on_goal 2 => intro hx; clear_value x
           on_goal 1 => unfold x; clear x)
        | clear_value x
        | skip)
    | lift_lets -underBinder
    | (with_reducible apply Frame.setS; (on_goal 2 => decide +kernel))
    | (with_reducible apply Frame.after (fr_feed ..); (on_goal 2 => decide +kernel))
    | dsimp -zeta only
    | split
    | (rw [mk_put]; with_reducible apply Frame.upd)

def m_egressTake : Nat := 0x7000000000000000000000000000400000000000000000000000000000004000390
theorem fr_egressTake (s : State) (e : Entry) : Frame m_egressTake s (State.egressTake s e) := by
  unfold State.egressTake
  repeat' first
    | with_reducible assumption
    | with_reducible exact Frame.refl _ _
    | (intro x; first
        | (refine Frame.cut (w := m_egressTake) (s := s) x ?_ ?_
           on_goal 2 => intro hx; clear_value x
           on_goal 1 => unfold x; clear x)
        | clear_value x
        | skip)
    | lift_lets -underBinder
    | (with_reducible apply Frame.after (fr_setEgSt ..); (on_goal 2 => decide +kernel))
    | (with_reducible apply Frame.after (fr_sendHost ..); (on_goal 2 => decide +kernel))
    | (with_reducible apply Frame.after (fr_sendOdu ..); (on_goal 2 => decide +kernel))
    | (with_reducible apply Frame.after (fr_sendStream ..); (on_goal 2 => decide +kernel))
    | dsimp -zeta only
    | split

def m_mateSend : Nat := 0x2840
theorem fr_mateSend (s : State) (late : List (Nat × Nat)) (j : Nat) : Frame m_mateSend s (State.mateSend s late j) := by
  unfold State.mateSend
  repeat' first
    | with_reducible assumption
    | with_reducible exact Frame.refl _ _
    | (with_reducible exact .inl rfl)
    | exact .inr (by decide +kernel)
    | (intro x; first
        | (refine Frame.cut (w := m_mateSend) (s := s) x ?_ ?_
           on_goal 2 => intro hx; clear_value x
           on_goal 1 => unfold x; clear x)
        | (refine Frame.cut (w := m_mateSend) (s := s) x.1 ?_ ?_
           on_goal 2 => intro hx; clear_value x
           on_goal 1 => unfold x; clear x)
        | (refine Frame.cut (w := m_mateSend) (s := s) x.2 ?_ ?_
           on_goal 2 => intro hx; clear_value x
           on_goal 1 => unfold x; clear x)
        | skip)
    | lift_lets -underBinder
    | (with_reducible apply Frame.after (fr_draw ..); (on_goal 2 => decide +kernel))
    | (with_reducible apply Frame.after (fr_setMateLane ..); (on_goal 2 => decide +kernel))
    | dsimp -zeta only
    | split
    | (rw [mk_put]; with_reducible apply Frame.upd)

def m_noteResidence : Nat := 0x2000
theorem fr_noteResidence (s : State) : Frame m_noteResidence s (State.noteResidence s) := by
  unfold State.noteResidence
  repeat' first
    | with_reducible assumption
    | with_reducible exact Frame.refl _ _
    | (with_reducible exact .inl rfl)
    | exact .inr (by decide +kernel)
    | (intro x; first
        | (refine Frame.cut (w := m_noteResidence) (s := s) x ?_ ?_
           on_goal 2 => intro hx; clear_value x
           on_goal 1 => unfold x; clear x)
        | skip)
    | lift_lets -underBinder
    | (with_reducible apply Frame.forEach; on_goal 2 => intro t a hs)
    | (with_reducible apply Frame.foldl; on_goal 2 => intro t a hs)
    | (with_reducible apply Frame.foldl1; on_goal 2 => intro t b hs)
    | (with_reducible apply Frame.foldl2; on_goal 2 => intro t b hs)
    | dsimp -zeta only
    | split
    | (rw [mk_put]; with_reducible apply Frame.upd)

def m_deliverAll : Nat := 0x70000000000000000000f98000004000000000000000000000006c000000410abd0
theorem fr_deliverAll (s : State) (x : Sys2Proof.GridIn) : Frame m_deliverAll s (State.deliverAll s x) := by
  unfold State.deliverAll
  repeat' first
    | with_reducible assumption
    | with_reducible exact Frame.refl _ _
    | (with_reducible exact .inl rfl)
    | exact .inr (by decide +kernel)
    | (intro x; first
        | (refine Frame.cut (w := m_deliverAll) (s := s) x ?_ ?_
           on_goal 2 => intro hx; clear_value x
           on_goal 1 => unfold x; clear x)
        | skip)
    | lift_lets -underBinder
    | (with_reducible apply Frame.after (fr_readAll ..); (on_goal 2 => decide +kernel))
    | (with_reducible apply Frame.after (fr_egressTake ..); (on_goal 2 => decide +kernel))
    | (with_reducible apply Frame.after (fr_noteResidence ..); (on_goal 2 => decide +kernel))
    | (with_reducible apply Frame.after (fr_measureSlots ..); (on_goal 2 => decide +kernel))
    | (with_reducible apply Frame.after (fr_checkerTake ..); (on_goal 2 => decide +kernel))
    | (with_reducible apply Frame.after (fr_mateSend ..); (on_goal 2 => decide +kernel))
    | (with_reducible apply Frame.after (fr_cvuFeed ..); (on_goal 2 => decide +kernel))
    | (with_reducible apply Frame.forEach; on_goal 2 => intro t a hs)
    | dsimp -zeta only
    | split
    | (rw [mk_put]; with_reducible apply Frame.upd)

def m_laneRx : Nat := 0x602fc0000000000000000000000000000000000000000000000000000000008
theorem fr_laneRx (s : State) (x : Sys2Proof.LaneRx) : Frame m_laneRx s (State.laneRx s x) := by
  unfold State.laneRx
  repeat' first
    | with_reducible assumption
    | with_reducible exact Frame.refl _ _
    | (intro x; first
        | (refine Frame.cut (w := m_laneRx) (s := s) x ?_ ?_
           on_goal 2 => intro hx; clear_value x
           on_goal 1 => unfold x; clear x)
        | clear_value x
        | skip)
    | lift_lets -underBinder
    | (with_reducible apply Frame.inc64S; (on_goal 2 => decide +kernel); (on_goal 2 => decide +kernel))
    | (with_reducible apply Frame.setS; (on_goal 2 => decide +kernel))
    | (with_reducible apply Frame.set64S; (on_goal 2 => decide +kernel); (on_goal 2 => decide +kernel))
    | (with_reducible apply Frame.incS; (on_goal 2 => decide +kernel))
    | (with_reducible apply Frame.after (fr_setLaneSt ..); (on_goal 2 => decide +kernel))
    | dsimp -zeta only
    | split

def m_mapperEvents : Nat := 0x3d3fc00000000000000000000000040000000000000400b80058000000000401c3b0
theorem fr_mapperEvents (s : State) (x : Sys2Proof.GridIn) : Frame m_mapperEvents s (State.mapperEvents s x) := by
  unfold State.mapperEvents
  repeat' first
    | with_reducible assumption
    | with_reducible exact Frame.refl _ _
    | (intro x; first
        | (refine Frame.cut (w := m_mapperEvents) (s := s) x ?_ ?_
           on_goal 2 => intro hx; clear_value x
           on_goal 1 => unfold x; clear x)
        | clear_value x
        | skip)
    | lift_lets -underBinder
    | (with_reducible apply Frame.after (fr_ctxEcc ..); (on_goal 2 => decide +kernel))
    | (with_reducible apply Frame.after (fr_ctxCorr ..); (on_goal 2 => decide +kernel))
    | (with_reducible apply Frame.forEach; on_goal 2 => intro t a hs)

def m_countBase : Nat := 0x200
theorem fr_countBase (s : State) (what : Nat) (n : Nat) : Frame m_countBase s (State.countBase s what n) := by
  unfold State.countBase
  repeat' first
    | with_reducible assumption
    | with_reducible exact Frame.refl _ _
    | lift_lets -underBinder
    | (with_reducible apply Frame.after (fr_count ..); (on_goal 2 => decide +kernel))

def m_effGridPeriod : Nat := 0x3f3fc602fc1c00000003cf980000040000000000000400b8005806c000000c93fbf8
theorem fr_effGridPeriod (x : Sys2Proof.GridIn) (s : State) : Frame m_effGridPeriod s (effGridPeriod x s) := by
  unfold effGridPeriod
  repeat' first
    | with_reducible assumption
    | with_reducible exact Frame.refl _ _
    | (with_reducible exact .inl rfl)
    | exact .inr (by decide +kernel)
    | (intro x; first
        | (refine Frame.cut (w := m_effGridPeriod) (s := s) x ?_ ?_
           on_goal 2 => intro hx; clear_value x
           on_goal 1 => unfold x; clear x)
        | skip)
    | lift_lets -underBinder
    | (with_reducible apply Frame.after (fr_countBase ..); (on_goal 2 => decide +kernel))
    | (with_reducible apply Frame.after (fr_deliverAll ..); (on_goal 2 => decide +kernel))
    | (with_reducible apply Frame.after (fr_laneRx ..); (on_goal 2 => decide +kernel))
    | (with_reducible apply Frame.after (fr_mapperEvents ..); (on_goal 2 => decide +kernel))
    | (with_reducible apply Frame.after (fr_writeAll ..); (on_goal 2 => decide +kernel))
    | (with_reducible apply Frame.after (fr_tickRtc ..); (on_goal 2 => decide +kernel))
    | (with_reducible apply Frame.after (fr_tickTime ..); (on_goal 2 => decide +kernel))
    | (with_reducible apply Frame.forEach; on_goal 2 => intro t a hs)
    | dsimp -zeta only
    | split
    | (rw [mk_put]; with_reducible apply Frame.upd)

def m_coppiceTick : Nat := 0x10000000002000
theorem fr_coppiceTick (s : State) : Frame m_coppiceTick s (State.coppiceTick s) := by
  unfold State.coppiceTick
  repeat' first
    | with_reducible assumption
    | with_reducible exact Frame.refl _ _
    | (with_reducible exact .inl rfl)
    | exact .inr (by decide +kernel)
    | (intro x; first
        | (refine Frame.cut (w := m_coppiceTick) (s := s) x ?_ ?_
           on_goal 2 => intro hx; clear_value x
           on_goal 1 => unfold x; clear x)
        | skip)
    | lift_lets -underBinder
    | (with_reducible apply Frame.setS; (on_goal 2 => decide +kernel))
    | (with_reducible apply Frame.forEach; on_goal 2 => intro t a hs)
    | dsimp -zeta only
    | split
    | (rw [mk_put]; with_reducible apply Frame.upd)

def m_flagHits : Nat := 0x100000
theorem fr_flagHits (s : State) (n : Nat) (moved : Nat → Bool) (steered : Bool) : Frame m_flagHits s (State.flagHits s n moved steered) := by
  unfold State.flagHits
  repeat' first
    | with_reducible assumption
    | with_reducible exact Frame.refl _ _
    | (with_reducible exact .inl rfl)
    | exact .inr (by decide +kernel)
    | (intro x; first
        | (refine Frame.cut (w := m_flagHits) (s := s) x ?_ ?_
           on_goal 2 => intro hx; clear_value x
           on_goal 1 => unfold x; clear x)
        | clear_value x
        | skip)
    | lift_lets -underBinder
    | dsimp -zeta only
    | split
    | (rw [mk_put]; with_reducible apply Frame.upd)

def m_effGridMultiframeBoundary : Nat := 0x83fffd00203008041d8641467e0e014c0000000009c7d7ff82c7fdd7fe00006b3fbfc
theorem fr_effGridMultiframeBoundary (x : Sys2Proof.BoundaryIn) (s : State) : Frame m_effGridMultiframeBoundary s (effGridMultiframeBoundary x s) := by
  unfold effGridMultiframeBoundary
  repeat' first
    | with_reducible assumption
    | with_reducible exact Frame.refl _ _
    | (with_reducible exact .inl rfl)
    | exact .inr (by decide +kernel)
    | (intro x; first
        | (refine Frame.cut (w := m_effGridMultiframeBoundary) (s := s) x ?_ ?_
           on_goal 2 => intro hx; clear_value x
           on_goal 1 => unfold x; clear x)
        | (refine Frame.cut (w := m_effGridMultiframeBoundary) (s := s) x.1 ?_ ?_
           on_goal 2 => intro hx; clear_value x
           on_goal 1 => unfold x; clear x)
        | (refine Frame.cut (w := m_effGridMultiframeBoundary) (s := s) x.2 ?_ ?_
           on_goal 2 => intro hx; clear_value x
           on_goal 1 => unfold x; clear x)
        | skip)
    | lift_lets -underBinder
    | (with_reducible apply Frame.set64S; (on_goal 2 => decide +kernel); (on_goal 2 => decide +kernel))
    | (with_reducible apply Frame.after (fr_takeTerms ..); (on_goal 2 => decide +kernel))
    | (with_reducible apply Frame.after (fr_countBase ..); (on_goal 2 => decide +kernel))
    | (with_reducible apply Frame.after (fr_tagRow ..); (on_goal 2 => decide +kernel))
    | (with_reducible apply Frame.after (fr_coppiceTick ..); (on_goal 2 => decide +kernel))
    | (with_reducible apply Frame.after (fr_mateRow ..); (on_goal 2 => decide +kernel))
    | (with_reducible apply Frame.after (fr_flagHits ..); (on_goal 2 => decide +kernel))
    | (with_reducible apply Frame.after (fr_changeRow ..); (on_goal 2 => decide +kernel))
    | (with_reducible apply Frame.after (fr_quicksetRow ..); (on_goal 2 => decide +kernel))
    | (with_reducible apply Frame.after (fr_standbyRow ..); (on_goal 2 => decide +kernel))
    | (with_reducible apply Frame.after (fr_declareAllDue ..); (on_goal 2 => decide +kernel))
    | (with_reducible apply Frame.after (fr_coppiceRow ..); (on_goal 2 => decide +kernel))
    | dsimp -zeta only
    | split
    | (rw [mk_put]; with_reducible apply Frame.upd)

end Sys2Proof.Laws
end

