-- ==== Sys2Proof/Laws/Exec.lean ====
section
/-!
SUPPORT. Sys2Proof/Laws/Exec.lean: what a command may change: one mask per command, and the frame that holds from the state
after the latching of its cycle (`State.newCycle`) to the state that the command answers.
-/
namespace Sys2Proof.Laws

set_option Elab.async false
set_option linter.unusedTactic false
set_option linter.unreachableTactic false

open Sys2Proof.Machine

/-- What a command may change after `State.newCycle`. -/
def maskOf : Instr → Nat
  | .registerWrite _ _ _ _ _ => m_effRegisterWrite
  | .registerReadClear _ _ _ => m_readShown
  | .lowWordRead _ _ => m_readShown
  | .highWordWrite _ _ _ => m_writeBar
  | .lnTsSecRead _ _ => m_readShown
  | .tmcSecLoRead _ => m_readShown
  | .rtcSecLoRead _ => m_readShown
  | .gridPeriod _ => m_effGridPeriod
  | .gridMultiframeBoundary _ => m_effGridMultiframeBoundary
  | .mateLost => m_effMateLost
  | .flashSeize => m_effFlashSeize
  | .flashReqChange _ => m_effFlashReqChange
  | .mateFrameReceived _ _ => m_effMateFrameReceived
  | .mateAliveInChange => m_effMateAliveInChange
  | .gaspDetected => m_effGaspDetected
  | .roleResolve => m_effRoleResolve
  | .generationCommitReceived _ => m_effGenerationCommitReceived
  | .mateRole _ => m_effMateRole
  | .planStepDue => m_effPlanStepDue
  | .hitWindowEnd => m_effHitWindowEnd
  | .apply _ => m_effApply
  | .applyPlan _ => m_effApplyPlan
  | .haltPlan _ => m_effHaltPlan
  | .applyLoadComplete _ => m_effApplyLoadComplete
  | .twigFrameBoundary => m_effTwigFrameBoundary
  | .twigFrameReceived _ _ => m_effTwigFrameReceived
  | .hostSlip _ _ _ => m_effHostSlip
  | .twigRoundEnd _ => m_effTwigRoundEnd
  | .evergreenBlockBoundary => m_effEvergreenBlockBoundary
  | .evgFrameArrival _ _ _ _ _ _ => m_effEvgFrameArrival
  | .evgPlayout _ _ _ _ => m_effEvgPlayout
  | .evgAcqTimeout _ => m_effEvgAcqTimeout
  | .evgReanchor _ _ => m_effEvgReanchor
  | .evgNoUsableTimeout _ => m_effEvgNoUsableTimeout
  | .evgFlush _ => m_effEvgFlush
  | .pmSecondEnd _ => m_effPmSecondEnd
  | .pmSecondCommit => m_effPmSecondCommit
  | .pmBinClose _ => m_effPmBinClose
  | .refclkLoss _ => m_effRefclkLoss
  | .refclkValid _ => m_effRefclkValid
  | .synthLock _ => m_effSynthLock
  | .synthUnlock _ => m_effSynthUnlock
  | .cdrLock _ => m_effCdrLock
  | .adaptConverged _ => m_effAdaptConverged
  | .fecAlignLock _ => m_effFecAlignLock
  | .deskewComplete _ _ _ _ => m_effDeskewComplete
  | .acqAttemptTimeout _ => m_effAcqAttemptTimeout
  | .losEntry _ _ => m_laneFault
  | .losExit _ => m_effLosExit
  | .cdrUnlock _ _ => m_laneFault
  | .fecLoss _ _ => m_laneFault
  | .alignLoss _ _ => m_laneFault
  | .ebSlip _ => m_effEbSlip
  | .laneTermMeasure _ _ _ => m_effLaneTermMeasure
  | .modIntEdge _ => m_effModIntEdge
  | .alignWindowEnd _ _ _ => m_effAlignWindowEnd
  | .frameReceived _ _ => m_effFrameReceived
  | .flexeCalSwitch _ => m_effFlexeCalSwitch
  | .flexeCaTimeout _ => m_effFlexeCaTimeout
  | .lofDeclare _ => m_effLofDeclare
  | .lofClear _ => m_effLofClear
  | .lomDeclare _ => m_effLomDeclare
  | .lomClear _ => m_effLomClear
  | .egressFrameBoundary _ => m_effEgressFrameBoundary
  | .spareSelfTestPass _ => m_effSpareSelfTestPass
  | .coppiceDue => m_effCoppiceDue
  | .fabricResetSelfTest _ => m_effFabricResetSelfTest
  | .holdoffExpiry _ _ => m_effHoldoffExpiry
  | .wtrExpiry _ => m_effWtrExpiry
  | .forcePinEdge _ _ => m_effForcePinEdge
  | .forceSwitch _ => m_effForceSwitch
  | .clearForce _ => m_effClearForce
  | .apsReceived _ _ _ _ => m_effApsReceived
  | .fopNrDeclare _ => m_effFopNrDeclare
  | .pathTagCheck _ => m_effPathTagCheck
  | .cvuWindowClose _ => m_effCvuWindowClose
  | .cvuValWrite _ _ _ _ _ _ _ => m_effCvuValWrite
  | .cvuResHiRead _ _ => m_readShown
  | .secdedScrub _ => m_effSecdedScrub
  | .osciLoss => m_effOsciLoss
  | .osciRestore => m_effOsciRestore
  | .servoCrossCheck _ => m_effServoCrossCheck
  | .timerefEdge _ _ _ => m_effTimerefEdge
  | .candLos _ => m_effCandLos
  | .candLosClear _ => m_effCandLosClear
  | .chatterClear _ => m_effChatterClear
  | .candQualified _ => m_effCandQualified
  | .selectorEvaluation => m_effSelectorEvaluation
  | .ppsEpoch _ => m_effPpsEpoch
  | .historyValid => m_effHistoryValid
  | .holdoverExpiry _ => m_effHoldoverExpiry
  | .tchMessageSend _ _ => m_effTchMessageSend
  | .tchMessageReceived _ _ => m_effTchMessageReceived
  | .todSentenceSend _ => m_effTodSentenceSend
  | .todSentenceReceived _ _ _ _ => m_effTodSentenceReceived
  | .ptpIngressCorrect _ _ _ _ => m_effPtpIngressCorrect
  | .ptpEgressCorrect _ _ _ => m_effPtpEgressCorrect
  | .rtcHoldEnd => m_effRtcHoldEnd
  | .rtcXtalFail => m_effRtcXtalFail
  | .vbatLoss => m_effVbatLoss
  | .setRtc _ => m_effSetRtc
  | .resetReleaseBoot _ => m_effResetReleaseBoot
  | .imageConfirm => m_effImageConfirm
  | .flashWrite _ _ => m_effFlashWrite
  | .keyRevoke _ _ => m_effKeyRevoke
  | .provision _ _ => m_effProvision
  | .lcAdvance _ _ => m_effLcAdvance
  | .debugUnlock _ _ => m_effDebugUnlock
  | .attest _ _ => m_effAttest
  | .nonce _ => m_effNonce
  | .session _ _ => m_effSession
  | .sessionEnd _ => m_effSessionEnd
  | .sessionIdleTimeout => m_effSessionIdleTimeout
  | .query _ _ => m_effQuery
  | .tamperAssert _ => m_effTamperAssert
  | .lockstepFault _ _ => m_effLockstepFault
  | .cpWatchdogExpiry => m_effCpWatchdogExpiry
  | .watchdogKick _ => m_effWatchdogKick
  | .processorResume => m_effProcessorResume
  | .busAccess _ => m_effBusAccess
  | .lockTimeout _ => m_effLockTimeout
  | .semaphoreRead _ _ => m_effSemaphoreRead
  | .semaphoreRelease _ _ _ => m_effSemaphoreRelease
  | .bankOwnerWrite _ _ _ _ => m_writeBar
  | .bankHandover _ => m_effBankHandover
  | .masterWatchdogExpiry _ => m_effMasterWatchdogExpiry
  | .bankWakeDone _ => m_effBankWakeDone
  | .perstAssert => m_effPerstAssert
  | .perstDeassert => 0x10000000000000000000000000000000000
  | .pcieLinkUp _ _ _ => m_effPcieLinkUp
  | .pcieLinkDown => m_linkDown
  | .mailboxPost _ _ => m_effMailboxPost
  | .mailboxTake => m_effMailboxTake
  | .mailboxReplyClear _ _ => m_effMailboxReplyClear
  | .mailboxAbort _ _ => m_effMailboxAbort
  | .smbSetAddr _ _ => m_effSmbSetAddr
  | .smbRead => m_effSmbRead
  | .smbWrite _ _ => m_effSmbWrite
  | .smbTemp _ => m_smbReturns
  | .smbStatus => m_smbReturns
  | .smbAlertMask _ _ => m_effSmbAlertMask
  | .smbAlertResponse => m_effSmbAlertResponse
  | .smbClockTimeout => 0x40000000000000000000000000004000300
  | .recordAccept _ => m_effRecordAccept
  | .recordArchive => m_effRecordArchive
  | .flashCopyProgram _ => m_effFlashCopyProgram
  | .freeze _ => m_effFreeze
  | .thaw _ => m_effThaw
  | .freezeExpiry => m_effFreezeExpiry
  | .clearEvt _ _ => m_effClearEvt
  | .harvestEvt _ => m_effHarvestEvt
  | .harvestPm _ => m_effHarvestPm
  | .cursorNext => m_curNext
  | .cursorPrev => m_curPrev
  | .cursorMark => m_curMark
  | .cursorRewind => m_curCommand
  | .cursorOldest => m_curOldest
  | .cursorNewest => m_curNewest
  | .cursorSeek _ => m_curSeek
  | .cursorStateRead => m_effCursorStateRead
  | .hqFlushRequest _ => m_flushReq
  | .hqFlush _ => m_effHqFlush
  | .pcSnap _ => m_pcCtl
  | .pcClear => m_pcCtl
  | .irqStkClear _ _ _ => m_stkClear
  | .msixSpacingExpiry _ => m_effMsixSpacingExpiry
  | .ddrTrainingComplete _ _ => m_effDdrTrainingComplete
  | .ddrRetrain => m_effDdrRetrain
  | .ddrRefresh => m_effDdrRefresh
  | .ddrDqsRecentre => m_effDdrDqsRecentre
  | .ddrPatrolScrub _ _ => m_effDdrPatrolScrub
  | .ddrEccCorr => m_effDdrEccCorr
  | .pwrDomainTransitionDone _ _ => m_effPwrDomainTransitionDone
  | .pwrSeqFault _ => m_effPwrSeqFault
  | .powerOnReset => m_porst
  | .resetNAssert => m_effResetNAssert
  | .thermalTrip => m_effThermalTrip
  | .thermalTripEnd => m_effThermalTripEnd
  | .undervoltage => m_effUndervoltage
  | .supplySwitchVbat => m_effSupplySwitchVbat
  | .trstAssert => m_masterReset
  | .mainSupplyRestore => m_effMainSupplyRestore
  | .flashGntChange _ _ => m_effFlashGntChange
  | .backgroundCommandDone _ _ => m_effBackgroundCommandDone
  | .tamperDeassert _ => m_effTamperDeassert
  | .msixEnable _ => m_effMsixEnable
  | .junctionTempThreshold _ => m_effJunctionTempThreshold
  | .frequencyFault _ _ => m_effFrequencyFault

/-- Every command answers a next state, and changes what its mask allows. -/
theorem exec_frame (c : Instr) (s : State) : ∃ t, exec c s = .next t ∧ Frame (maskOf c) s.newCycle t := by
  cases c with
  | registerWrite _ _ _ _ _ => exact ⟨_, rfl, fr_effRegisterWrite ..⟩
  | registerReadClear _ _ _ => exact ⟨_, rfl, fr_readShown ..⟩
  | lowWordRead _ _ => exact ⟨_, rfl, fr_readShown ..⟩
  | highWordWrite _ _ _ => exact ⟨_, rfl, fr_writeBar ..⟩
  | lnTsSecRead _ _ => exact ⟨_, rfl, fr_readShown ..⟩
  | tmcSecLoRead _ => exact ⟨_, rfl, fr_readShown ..⟩
  | rtcSecLoRead _ => exact ⟨_, rfl, fr_readShown ..⟩
  | gridPeriod _ => exact ⟨_, rfl, fr_effGridPeriod ..⟩
  | gridMultiframeBoundary _ => exact ⟨_, rfl, fr_effGridMultiframeBoundary ..⟩
  | mateLost => exact ⟨_, rfl, fr_effMateLost ..⟩
  | flashSeize => exact ⟨_, rfl, fr_effFlashSeize ..⟩
  | flashReqChange _ => exact ⟨_, rfl, fr_effFlashReqChange ..⟩
  | mateFrameReceived _ _ => exact ⟨_, rfl, fr_effMateFrameReceived ..⟩
  | mateAliveInChange => exact ⟨_, rfl, fr_effMateAliveInChange ..⟩
  | gaspDetected => exact ⟨_, rfl, fr_effGaspDetected ..⟩
  | roleResolve => exact ⟨_, rfl, fr_effRoleResolve ..⟩
  | generationCommitReceived _ => exact ⟨_, rfl, fr_effGenerationCommitReceived ..⟩
  | mateRole _ => exact ⟨_, rfl, fr_effMateRole ..⟩
  | planStepDue => exact ⟨_, rfl, fr_effPlanStepDue ..⟩
  | hitWindowEnd => exact ⟨_, rfl, fr_effHitWindowEnd ..⟩
  | apply _ => exact ⟨_, rfl, fr_effApply ..⟩
  | applyPlan _ => exact ⟨_, rfl, fr_effApplyPlan ..⟩
  | haltPlan _ => exact ⟨_, rfl, fr_effHaltPlan ..⟩
  | applyLoadComplete _ => exact ⟨_, rfl, fr_effApplyLoadComplete ..⟩
  | twigFrameBoundary => exact ⟨_, rfl, fr_effTwigFrameBoundary ..⟩
  | twigFrameReceived _ _ => exact ⟨_, rfl, fr_effTwigFrameReceived ..⟩
  | hostSlip _ _ _ => exact ⟨_, rfl, fr_effHostSlip ..⟩
  | twigRoundEnd _ => exact ⟨_, rfl, fr_effTwigRoundEnd ..⟩
  | evergreenBlockBoundary => exact ⟨_, rfl, fr_effEvergreenBlockBoundary ..⟩
  | evgFrameArrival _ _ _ _ _ _ => exact ⟨_, rfl, fr_effEvgFrameArrival ..⟩
  | evgPlayout _ _ _ _ => exact ⟨_, rfl, fr_effEvgPlayout ..⟩
  | evgAcqTimeout _ => exact ⟨_, rfl, fr_effEvgAcqTimeout ..⟩
  | evgReanchor _ _ => exact ⟨_, rfl, fr_effEvgReanchor ..⟩
  | evgNoUsableTimeout _ => exact ⟨_, rfl, fr_effEvgNoUsableTimeout ..⟩
  | evgFlush _ => exact ⟨_, rfl, fr_effEvgFlush ..⟩
  | pmSecondEnd _ => exact ⟨_, rfl, fr_effPmSecondEnd ..⟩
  | pmSecondCommit => exact ⟨_, rfl, fr_effPmSecondCommit ..⟩
  | pmBinClose _ => exact ⟨_, rfl, fr_effPmBinClose ..⟩
  | refclkLoss _ => exact ⟨_, rfl, fr_effRefclkLoss ..⟩
  | refclkValid _ => exact ⟨_, rfl, fr_effRefclkValid ..⟩
  | synthLock _ => exact ⟨_, rfl, fr_effSynthLock ..⟩
  | synthUnlock _ => exact ⟨_, rfl, fr_effSynthUnlock ..⟩
  | cdrLock _ => exact ⟨_, rfl, fr_effCdrLock ..⟩
  | adaptConverged _ => exact ⟨_, rfl, fr_effAdaptConverged ..⟩
  | fecAlignLock _ => exact ⟨_, rfl, fr_effFecAlignLock ..⟩
  | deskewComplete _ _ _ _ => exact ⟨_, rfl, fr_effDeskewComplete ..⟩
  | acqAttemptTimeout _ => exact ⟨_, rfl, fr_effAcqAttemptTimeout ..⟩
  | losEntry _ _ => exact ⟨_, rfl, fr_laneFault ..⟩
  | losExit _ => exact ⟨_, rfl, fr_effLosExit ..⟩
  | cdrUnlock _ _ => exact ⟨_, rfl, fr_laneFault ..⟩
  | fecLoss _ _ => exact ⟨_, rfl, fr_laneFault ..⟩
  | alignLoss _ _ => exact ⟨_, rfl, fr_laneFault ..⟩
  | ebSlip _ => exact ⟨_, rfl, fr_effEbSlip ..⟩
  | laneTermMeasure _ _ _ => exact ⟨_, rfl, fr_effLaneTermMeasure ..⟩
  | modIntEdge _ => exact ⟨_, rfl, fr_effModIntEdge ..⟩
  | alignWindowEnd _ _ _ => exact ⟨_, rfl, fr_effAlignWindowEnd ..⟩
  | frameReceived _ _ => exact ⟨_, rfl, fr_effFrameReceived ..⟩
  | flexeCalSwitch _ => exact ⟨_, rfl, fr_effFlexeCalSwitch ..⟩
  | flexeCaTimeout _ => exact ⟨_, rfl, fr_effFlexeCaTimeout ..⟩
  | lofDeclare _ => exact ⟨_, rfl, fr_effLofDeclare ..⟩
  | lofClear _ => exact ⟨_, rfl, fr_effLofClear ..⟩
  | lomDeclare _ => exact ⟨_, rfl, fr_effLomDeclare ..⟩
  | lomClear _ => exact ⟨_, rfl, fr_effLomClear ..⟩
  | egressFrameBoundary _ => exact ⟨_, rfl, fr_effEgressFrameBoundary ..⟩
  | spareSelfTestPass _ => exact ⟨_, rfl, fr_effSpareSelfTestPass ..⟩
  | coppiceDue => exact ⟨_, rfl, fr_effCoppiceDue ..⟩
  | fabricResetSelfTest _ => exact ⟨_, rfl, fr_effFabricResetSelfTest ..⟩
  | holdoffExpiry _ _ => exact ⟨_, rfl, fr_effHoldoffExpiry ..⟩
  | wtrExpiry _ => exact ⟨_, rfl, fr_effWtrExpiry ..⟩
  | forcePinEdge _ _ => exact ⟨_, rfl, fr_effForcePinEdge ..⟩
  | forceSwitch _ => exact ⟨_, rfl, fr_effForceSwitch ..⟩
  | clearForce _ => exact ⟨_, rfl, fr_effClearForce ..⟩
  | apsReceived _ _ _ _ => exact ⟨_, rfl, fr_effApsReceived ..⟩
  | fopNrDeclare _ => exact ⟨_, rfl, fr_effFopNrDeclare ..⟩
  | pathTagCheck _ => exact ⟨_, rfl, fr_effPathTagCheck ..⟩
  | cvuWindowClose _ => exact ⟨_, rfl, fr_effCvuWindowClose ..⟩
  | cvuValWrite _ _ _ _ _ _ _ => exact ⟨_, rfl, fr_effCvuValWrite ..⟩
  | cvuResHiRead _ _ => exact ⟨_, rfl, fr_readShown ..⟩
  | secdedScrub _ => exact ⟨_, rfl, fr_effSecdedScrub ..⟩
  | osciLoss => exact ⟨_, rfl, fr_effOsciLoss ..⟩
  | osciRestore => exact ⟨_, rfl, fr_effOsciRestore ..⟩
  | servoCrossCheck _ => exact ⟨_, rfl, fr_effServoCrossCheck ..⟩
  | timerefEdge _ _ _ => exact ⟨_, rfl, fr_effTimerefEdge ..⟩
  | candLos _ => exact ⟨_, rfl, fr_effCandLos ..⟩
  | candLosClear _ => exact ⟨_, rfl, fr_effCandLosClear ..⟩
  | chatterClear _ => exact ⟨_, rfl, fr_effChatterClear ..⟩
  | candQualified _ => exact ⟨_, rfl, fr_effCandQualified ..⟩
  | selectorEvaluation => exact ⟨_, rfl, fr_effSelectorEvaluation ..⟩
  | ppsEpoch _ => exact ⟨_, rfl, fr_effPpsEpoch ..⟩
  | historyValid => exact ⟨_, rfl, fr_effHistoryValid ..⟩
  | holdoverExpiry _ => exact ⟨_, rfl, fr_effHoldoverExpiry ..⟩
  | tchMessageSend _ _ => exact ⟨_, rfl, fr_effTchMessageSend ..⟩
  | tchMessageReceived _ _ => exact ⟨_, rfl, fr_effTchMessageReceived ..⟩
  | todSentenceSend _ => exact ⟨_, rfl, fr_effTodSentenceSend ..⟩
  | todSentenceReceived _ _ _ _ => exact ⟨_, rfl, fr_effTodSentenceReceived ..⟩
  | ptpIngressCorrect _ _ _ _ => exact ⟨_, rfl, fr_effPtpIngressCorrect ..⟩
  | ptpEgressCorrect _ _ _ => exact ⟨_, rfl, fr_effPtpEgressCorrect ..⟩
  | rtcHoldEnd => exact ⟨_, rfl, fr_effRtcHoldEnd ..⟩
  | rtcXtalFail => exact ⟨_, rfl, fr_effRtcXtalFail ..⟩
  | vbatLoss => exact ⟨_, rfl, fr_effVbatLoss ..⟩
  | setRtc _ => exact ⟨_, rfl, fr_effSetRtc ..⟩
  | resetReleaseBoot _ => exact ⟨_, rfl, fr_effResetReleaseBoot ..⟩
  | imageConfirm => exact ⟨_, rfl, fr_effImageConfirm ..⟩
  | flashWrite _ _ => exact ⟨_, rfl, fr_effFlashWrite ..⟩
  | keyRevoke _ _ => exact ⟨_, rfl, fr_effKeyRevoke ..⟩
  | provision _ _ => exact ⟨_, rfl, fr_effProvision ..⟩
  | lcAdvance _ _ => exact ⟨_, rfl, fr_effLcAdvance ..⟩
  | debugUnlock _ _ => exact ⟨_, rfl, fr_effDebugUnlock ..⟩
  | attest _ _ => exact ⟨_, rfl, fr_effAttest ..⟩
  | nonce _ => exact ⟨_, rfl, fr_effNonce ..⟩
  | session _ _ => exact ⟨_, rfl, fr_effSession ..⟩
  | sessionEnd _ => exact ⟨_, rfl, fr_effSessionEnd ..⟩
  | sessionIdleTimeout => exact ⟨_, rfl, fr_effSessionIdleTimeout ..⟩
  | query _ _ => exact ⟨_, rfl, fr_effQuery ..⟩
  | tamperAssert _ => exact ⟨_, rfl, fr_effTamperAssert ..⟩
  | lockstepFault _ _ => exact ⟨_, rfl, fr_effLockstepFault ..⟩
  | cpWatchdogExpiry => exact ⟨_, rfl, fr_effCpWatchdogExpiry ..⟩
  | watchdogKick _ => exact ⟨_, rfl, fr_effWatchdogKick ..⟩
  | processorResume => exact ⟨_, rfl, fr_effProcessorResume ..⟩
  | busAccess _ => exact ⟨_, rfl, fr_effBusAccess ..⟩
  | lockTimeout _ => exact ⟨_, rfl, fr_effLockTimeout ..⟩
  | semaphoreRead _ _ => exact ⟨_, rfl, fr_effSemaphoreRead ..⟩
  | semaphoreRelease _ _ _ => exact ⟨_, rfl, fr_effSemaphoreRelease ..⟩
  | bankOwnerWrite _ _ _ _ => exact ⟨_, rfl, fr_writeBar ..⟩
  | bankHandover _ => exact ⟨_, rfl, fr_effBankHandover ..⟩
  | masterWatchdogExpiry _ => exact ⟨_, rfl, fr_effMasterWatchdogExpiry ..⟩
  | bankWakeDone _ => exact ⟨_, rfl, fr_effBankWakeDone ..⟩
  | perstAssert => exact ⟨_, rfl, fr_effPerstAssert ..⟩
  | perstDeassert => exact ⟨_, rfl, Frame.setBS (Frame.refl _ _) (by decide +kernel)⟩
  | pcieLinkUp _ _ _ => exact ⟨_, rfl, fr_effPcieLinkUp ..⟩
  | pcieLinkDown => exact ⟨_, rfl, fr_linkDown ..⟩
  | mailboxPost _ _ => exact ⟨_, rfl, fr_effMailboxPost ..⟩
  | mailboxTake => exact ⟨_, rfl, fr_effMailboxTake ..⟩
  | mailboxReplyClear _ _ => exact ⟨_, rfl, fr_effMailboxReplyClear ..⟩
  | mailboxAbort _ _ => exact ⟨_, rfl, fr_effMailboxAbort ..⟩
  | smbSetAddr _ _ => exact ⟨_, rfl, fr_effSmbSetAddr ..⟩
  | smbRead => exact ⟨_, rfl, fr_effSmbRead ..⟩
  | smbWrite _ _ => exact ⟨_, rfl, fr_effSmbWrite ..⟩
  | smbTemp _ => exact ⟨_, rfl, fr_smbReturns ..⟩
  | smbStatus => exact ⟨_, rfl, fr_smbReturns ..⟩
  | smbAlertMask _ _ => exact ⟨_, rfl, fr_effSmbAlertMask ..⟩
  | smbAlertResponse => exact ⟨_, rfl, fr_effSmbAlertResponse ..⟩
  | smbClockTimeout => exact ⟨_, rfl, (Frame.incS (Frame.refl _ _) (by decide +kernel)).step (fr_irqSet ..) (by decide +kernel)⟩
  | recordAccept _ => exact ⟨_, rfl, fr_effRecordAccept ..⟩
  | recordArchive => exact ⟨_, rfl, fr_effRecordArchive ..⟩
  | flashCopyProgram _ => exact ⟨_, rfl, fr_effFlashCopyProgram ..⟩
  | freeze _ => exact ⟨_, rfl, fr_effFreeze ..⟩
  | thaw _ => exact ⟨_, rfl, fr_effThaw ..⟩
  | freezeExpiry => exact ⟨_, rfl, fr_effFreezeExpiry ..⟩
  | clearEvt _ _ => exact ⟨_, rfl, fr_effClearEvt ..⟩
  | harvestEvt _ => exact ⟨_, rfl, fr_effHarvestEvt ..⟩
  | harvestPm _ => exact ⟨_, rfl, fr_effHarvestPm ..⟩
  | cursorNext => exact ⟨_, rfl, fr_curNext ..⟩
  | cursorPrev => exact ⟨_, rfl, fr_curPrev ..⟩
  | cursorMark => exact ⟨_, rfl, fr_curMark ..⟩
  | cursorRewind => exact ⟨_, rfl, fr_curCommand ..⟩
  | cursorOldest => exact ⟨_, rfl, fr_curOldest ..⟩
  | cursorNewest => exact ⟨_, rfl, fr_curNewest ..⟩
  | cursorSeek _ => exact ⟨_, rfl, fr_curSeek ..⟩
  | cursorStateRead => exact ⟨_, rfl, fr_effCursorStateRead ..⟩
  | hqFlushRequest _ => exact ⟨_, rfl, fr_flushReq ..⟩
  | hqFlush _ => exact ⟨_, rfl, fr_effHqFlush ..⟩
  | pcSnap _ => exact ⟨_, rfl, fr_pcCtl ..⟩
  | pcClear => exact ⟨_, rfl, fr_pcCtl ..⟩
  | irqStkClear _ _ _ => exact ⟨_, rfl, fr_stkClear ..⟩
  | msixSpacingExpiry _ => exact ⟨_, rfl, fr_effMsixSpacingExpiry ..⟩
  | ddrTrainingComplete _ _ => exact ⟨_, rfl, fr_effDdrTrainingComplete ..⟩
  | ddrRetrain => exact ⟨_, rfl, fr_effDdrRetrain ..⟩
  | ddrRefresh => exact ⟨_, rfl, fr_effDdrRefresh ..⟩
  | ddrDqsRecentre => exact ⟨_, rfl, fr_effDdrDqsRecentre ..⟩
  | ddrPatrolScrub _ _ => exact ⟨_, rfl, fr_effDdrPatrolScrub ..⟩
  | ddrEccCorr => exact ⟨_, rfl, fr_effDdrEccCorr ..⟩
  | pwrDomainTransitionDone _ _ => exact ⟨_, rfl, fr_effPwrDomainTransitionDone ..⟩
  | pwrSeqFault _ => exact ⟨_, rfl, fr_effPwrSeqFault ..⟩
  | powerOnReset => exact ⟨_, rfl, fr_porst ..⟩
  | resetNAssert => exact ⟨_, rfl, fr_effResetNAssert ..⟩
  | thermalTrip => exact ⟨_, rfl, fr_effThermalTrip ..⟩
  | thermalTripEnd => exact ⟨_, rfl, fr_effThermalTripEnd ..⟩
  | undervoltage => exact ⟨_, rfl, fr_effUndervoltage ..⟩
  | supplySwitchVbat => exact ⟨_, rfl, fr_effSupplySwitchVbat ..⟩
  | trstAssert => exact ⟨_, rfl, fr_masterReset ..⟩
  | mainSupplyRestore => exact ⟨_, rfl, fr_effMainSupplyRestore ..⟩
  | flashGntChange _ _ => exact ⟨_, rfl, fr_effFlashGntChange ..⟩
  | backgroundCommandDone _ _ => exact ⟨_, rfl, fr_effBackgroundCommandDone ..⟩
  | tamperDeassert _ => exact ⟨_, rfl, fr_effTamperDeassert ..⟩
  | msixEnable _ => exact ⟨_, rfl, fr_effMsixEnable ..⟩
  | junctionTempThreshold _ => exact ⟨_, rfl, fr_effJunctionTempThreshold ..⟩
  | frequencyFault _ _ => exact ⟨_, rfl, fr_effFrequencyFault ..⟩

end Sys2Proof.Laws
end

