-- ==== Sys2Proof/Laws/State.lean ====
section
/-!
SUPPORT. Sys2Proof/Laws/State.lean: the parts of State that each named update leaves as they are, one lemma per part.
-/
namespace Sys2Proof.Machine

variable (s : State) (k n v b : Nat) (w : Word) (f g : Fld)

@[simp] theorem State.setReg_regs : (s.setReg k w).regs = tset resetWord s.regs k w := rfl
@[simp] theorem State.setReg_latch : (s.setReg k w).latch = s.latch := rfl
@[simp] theorem State.setReg_stage : (s.setReg k w).stage = s.stage := rfl
@[simp] theorem State.setReg_img : (s.setReg k w).img = s.img := rfl
@[simp] theorem State.setReg_ln : (s.setReg k w).ln = s.ln := rfl
@[simp] theorem State.setReg_fr : (s.setReg k w).fr = s.fr := rfl
@[simp] theorem State.setReg_qs : (s.setReg k w).qs = s.qs := rfl
@[simp] theorem State.setReg_mate : (s.setReg k w).mate = s.mate := rfl
@[simp] theorem State.setReg_rcd : (s.setReg k w).rcd = s.rcd := rfl
@[simp] theorem State.setReg_irq : (s.setReg k w).irq = s.irq := rfl
@[simp] theorem State.setReg_perf : (s.setReg k w).perf = s.perf := rfl
@[simp] theorem State.setReg_cyc : (s.setReg k w).cyc = s.cyc := rfl
@[simp] theorem State.setReg_free : (s.setReg k w).free = s.free := rfl
@[simp] theorem State.setReg_fab : (s.setReg k w).fab = s.fab := rfl
@[simp] theorem State.setReg_tw : (s.setReg k w).tw = s.tw := rfl
@[simp] theorem State.setReg_tag : (s.setReg k w).tag = s.tag := rfl
@[simp] theorem State.setReg_evg : (s.setReg k w).evg = s.evg := rfl
@[simp] theorem State.setReg_pwr : (s.setReg k w).pwr = s.pwr := rfl
@[simp] theorem State.setReg_boot : (s.setReg k w).boot = s.boot := rfl
@[simp] theorem State.setReg_chg : (s.setReg k w).chg = s.chg := rfl
@[simp] theorem State.setReg_bus : (s.setReg k w).bus = s.bus := rfl
@[simp] theorem State.setReg_host : (s.setReg k w).host = s.host := rfl
@[simp] theorem State.setReg_tim : (s.setReg k w).tim = s.tim := rfl
@[simp] theorem State.setReg_flash : (s.setReg k w).flash = s.flash := rfl
@[simp] theorem State.setReg_mem : (s.setReg k w).mem = s.mem := rfl
@[simp] theorem State.setReg_out : (s.setReg k w).out = s.out := rfl
@[simp] theorem State.setReg_pending : (s.setReg k w).pending = s.pending := rfl

@[simp] theorem State.set_latch : (s.set f v n).latch = s.latch := by unfold State.set; split <;> rfl
@[simp] theorem State.set_stage : (s.set f v n).stage = s.stage := by unfold State.set; split <;> rfl
@[simp] theorem State.set_img : (s.set f v n).img = s.img := by unfold State.set; split <;> rfl
@[simp] theorem State.set_ln : (s.set f v n).ln = s.ln := by unfold State.set; split <;> rfl
@[simp] theorem State.set_fr : (s.set f v n).fr = s.fr := by unfold State.set; split <;> rfl
@[simp] theorem State.set_qs : (s.set f v n).qs = s.qs := by unfold State.set; split <;> rfl
@[simp] theorem State.set_mate : (s.set f v n).mate = s.mate := by unfold State.set; split <;> rfl
@[simp] theorem State.set_rcd : (s.set f v n).rcd = s.rcd := by unfold State.set; split <;> rfl
@[simp] theorem State.set_irq : (s.set f v n).irq = s.irq := by unfold State.set; split <;> rfl
@[simp] theorem State.set_perf : (s.set f v n).perf = s.perf := by unfold State.set; split <;> rfl
@[simp] theorem State.set_cyc : (s.set f v n).cyc = s.cyc := by unfold State.set; split <;> rfl
@[simp] theorem State.set_free : (s.set f v n).free = s.free := by unfold State.set; split <;> rfl
@[simp] theorem State.set_fab : (s.set f v n).fab = s.fab := by unfold State.set; split <;> rfl
@[simp] theorem State.set_tw : (s.set f v n).tw = s.tw := by unfold State.set; split <;> rfl
@[simp] theorem State.set_tag : (s.set f v n).tag = s.tag := by unfold State.set; split <;> rfl
@[simp] theorem State.set_evg : (s.set f v n).evg = s.evg := by unfold State.set; split <;> rfl
@[simp] theorem State.set_pwr : (s.set f v n).pwr = s.pwr := by unfold State.set; split <;> rfl
@[simp] theorem State.set_boot : (s.set f v n).boot = s.boot := by unfold State.set; split <;> rfl
@[simp] theorem State.set_chg : (s.set f v n).chg = s.chg := by unfold State.set; split <;> rfl
@[simp] theorem State.set_bus : (s.set f v n).bus = s.bus := by unfold State.set; split <;> rfl
@[simp] theorem State.set_host : (s.set f v n).host = s.host := by unfold State.set; split <;> rfl
@[simp] theorem State.set_tim : (s.set f v n).tim = s.tim := by unfold State.set; split <;> rfl
@[simp] theorem State.set_flash : (s.set f v n).flash = s.flash := by unfold State.set; split <;> rfl
@[simp] theorem State.set_mem : (s.set f v n).mem = s.mem := by unfold State.set; split <;> rfl
@[simp] theorem State.set_out : (s.set f v n).out = s.out := by unfold State.set; split <;> rfl
@[simp] theorem State.set_pending : (s.set f v n).pending = s.pending := by unfold State.set; split <;> rfl

@[simp] theorem State.setB_latch (c : Bool) : (s.setB f c n).latch = s.latch := s.set_latch n _ f
@[simp] theorem State.setB_stage (c : Bool) : (s.setB f c n).stage = s.stage := s.set_stage n _ f
@[simp] theorem State.setB_img (c : Bool) : (s.setB f c n).img = s.img := s.set_img n _ f
@[simp] theorem State.setB_ln (c : Bool) : (s.setB f c n).ln = s.ln := s.set_ln n _ f
@[simp] theorem State.setB_fr (c : Bool) : (s.setB f c n).fr = s.fr := s.set_fr n _ f
@[simp] theorem State.setB_qs (c : Bool) : (s.setB f c n).qs = s.qs := s.set_qs n _ f
@[simp] theorem State.setB_mate (c : Bool) : (s.setB f c n).mate = s.mate := s.set_mate n _ f
@[simp] theorem State.setB_rcd (c : Bool) : (s.setB f c n).rcd = s.rcd := s.set_rcd n _ f
@[simp] theorem State.setB_irq (c : Bool) : (s.setB f c n).irq = s.irq := s.set_irq n _ f
@[simp] theorem State.setB_perf (c : Bool) : (s.setB f c n).perf = s.perf := s.set_perf n _ f
@[simp] theorem State.setB_cyc (c : Bool) : (s.setB f c n).cyc = s.cyc := s.set_cyc n _ f
@[simp] theorem State.setB_free (c : Bool) : (s.setB f c n).free = s.free := s.set_free n _ f
@[simp] theorem State.setB_fab (c : Bool) : (s.setB f c n).fab = s.fab := s.set_fab n _ f
@[simp] theorem State.setB_tw (c : Bool) : (s.setB f c n).tw = s.tw := s.set_tw n _ f
@[simp] theorem State.setB_tag (c : Bool) : (s.setB f c n).tag = s.tag := s.set_tag n _ f
@[simp] theorem State.setB_evg (c : Bool) : (s.setB f c n).evg = s.evg := s.set_evg n _ f
@[simp] theorem State.setB_pwr (c : Bool) : (s.setB f c n).pwr = s.pwr := s.set_pwr n _ f
@[simp] theorem State.setB_boot (c : Bool) : (s.setB f c n).boot = s.boot := s.set_boot n _ f
@[simp] theorem State.setB_chg (c : Bool) : (s.setB f c n).chg = s.chg := s.set_chg n _ f
@[simp] theorem State.setB_bus (c : Bool) : (s.setB f c n).bus = s.bus := s.set_bus n _ f
@[simp] theorem State.setB_host (c : Bool) : (s.setB f c n).host = s.host := s.set_host n _ f
@[simp] theorem State.setB_tim (c : Bool) : (s.setB f c n).tim = s.tim := s.set_tim n _ f
@[simp] theorem State.setB_flash (c : Bool) : (s.setB f c n).flash = s.flash := s.set_flash n _ f
@[simp] theorem State.setB_mem (c : Bool) : (s.setB f c n).mem = s.mem := s.set_mem n _ f
@[simp] theorem State.setB_out (c : Bool) : (s.setB f c n).out = s.out := s.set_out n _ f
@[simp] theorem State.setB_pending (c : Bool) : (s.setB f c n).pending = s.pending := s.set_pending n _ f

@[simp] theorem State.inc_latch : (s.inc f n b).latch = s.latch := s.set_latch n _ f
@[simp] theorem State.inc_stage : (s.inc f n b).stage = s.stage := s.set_stage n _ f
@[simp] theorem State.inc_img : (s.inc f n b).img = s.img := s.set_img n _ f
@[simp] theorem State.inc_ln : (s.inc f n b).ln = s.ln := s.set_ln n _ f
@[simp] theorem State.inc_fr : (s.inc f n b).fr = s.fr := s.set_fr n _ f
@[simp] theorem State.inc_qs : (s.inc f n b).qs = s.qs := s.set_qs n _ f
@[simp] theorem State.inc_mate : (s.inc f n b).mate = s.mate := s.set_mate n _ f
@[simp] theorem State.inc_rcd : (s.inc f n b).rcd = s.rcd := s.set_rcd n _ f
@[simp] theorem State.inc_irq : (s.inc f n b).irq = s.irq := s.set_irq n _ f
@[simp] theorem State.inc_perf : (s.inc f n b).perf = s.perf := s.set_perf n _ f
@[simp] theorem State.inc_cyc : (s.inc f n b).cyc = s.cyc := s.set_cyc n _ f
@[simp] theorem State.inc_free : (s.inc f n b).free = s.free := s.set_free n _ f
@[simp] theorem State.inc_fab : (s.inc f n b).fab = s.fab := s.set_fab n _ f
@[simp] theorem State.inc_tw : (s.inc f n b).tw = s.tw := s.set_tw n _ f
@[simp] theorem State.inc_tag : (s.inc f n b).tag = s.tag := s.set_tag n _ f
@[simp] theorem State.inc_evg : (s.inc f n b).evg = s.evg := s.set_evg n _ f
@[simp] theorem State.inc_pwr : (s.inc f n b).pwr = s.pwr := s.set_pwr n _ f
@[simp] theorem State.inc_boot : (s.inc f n b).boot = s.boot := s.set_boot n _ f
@[simp] theorem State.inc_chg : (s.inc f n b).chg = s.chg := s.set_chg n _ f
@[simp] theorem State.inc_bus : (s.inc f n b).bus = s.bus := s.set_bus n _ f
@[simp] theorem State.inc_host : (s.inc f n b).host = s.host := s.set_host n _ f
@[simp] theorem State.inc_tim : (s.inc f n b).tim = s.tim := s.set_tim n _ f
@[simp] theorem State.inc_flash : (s.inc f n b).flash = s.flash := s.set_flash n _ f
@[simp] theorem State.inc_mem : (s.inc f n b).mem = s.mem := s.set_mem n _ f
@[simp] theorem State.inc_out : (s.inc f n b).out = s.out := s.set_out n _ f
@[simp] theorem State.inc_pending : (s.inc f n b).pending = s.pending := s.set_pending n _ f

@[simp] theorem State.incW_latch : (s.incW f n b).latch = s.latch := s.set_latch n _ f
@[simp] theorem State.incW_stage : (s.incW f n b).stage = s.stage := s.set_stage n _ f
@[simp] theorem State.incW_img : (s.incW f n b).img = s.img := s.set_img n _ f
@[simp] theorem State.incW_ln : (s.incW f n b).ln = s.ln := s.set_ln n _ f
@[simp] theorem State.incW_fr : (s.incW f n b).fr = s.fr := s.set_fr n _ f
@[simp] theorem State.incW_qs : (s.incW f n b).qs = s.qs := s.set_qs n _ f
@[simp] theorem State.incW_mate : (s.incW f n b).mate = s.mate := s.set_mate n _ f
@[simp] theorem State.incW_rcd : (s.incW f n b).rcd = s.rcd := s.set_rcd n _ f
@[simp] theorem State.incW_irq : (s.incW f n b).irq = s.irq := s.set_irq n _ f
@[simp] theorem State.incW_perf : (s.incW f n b).perf = s.perf := s.set_perf n _ f
@[simp] theorem State.incW_cyc : (s.incW f n b).cyc = s.cyc := s.set_cyc n _ f
@[simp] theorem State.incW_free : (s.incW f n b).free = s.free := s.set_free n _ f
@[simp] theorem State.incW_fab : (s.incW f n b).fab = s.fab := s.set_fab n _ f
@[simp] theorem State.incW_tw : (s.incW f n b).tw = s.tw := s.set_tw n _ f
@[simp] theorem State.incW_tag : (s.incW f n b).tag = s.tag := s.set_tag n _ f
@[simp] theorem State.incW_evg : (s.incW f n b).evg = s.evg := s.set_evg n _ f
@[simp] theorem State.incW_pwr : (s.incW f n b).pwr = s.pwr := s.set_pwr n _ f
@[simp] theorem State.incW_boot : (s.incW f n b).boot = s.boot := s.set_boot n _ f
@[simp] theorem State.incW_chg : (s.incW f n b).chg = s.chg := s.set_chg n _ f
@[simp] theorem State.incW_bus : (s.incW f n b).bus = s.bus := s.set_bus n _ f
@[simp] theorem State.incW_host : (s.incW f n b).host = s.host := s.set_host n _ f
@[simp] theorem State.incW_tim : (s.incW f n b).tim = s.tim := s.set_tim n _ f
@[simp] theorem State.incW_flash : (s.incW f n b).flash = s.flash := s.set_flash n _ f
@[simp] theorem State.incW_mem : (s.incW f n b).mem = s.mem := s.set_mem n _ f
@[simp] theorem State.incW_out : (s.incW f n b).out = s.out := s.set_out n _ f
@[simp] theorem State.incW_pending : (s.incW f n b).pending = s.pending := s.set_pending n _ f

@[simp] theorem State.setWord_latch : (s.setWord f n w).latch = s.latch := by unfold State.setWord; split <;> rfl
@[simp] theorem State.setWord_stage : (s.setWord f n w).stage = s.stage := by unfold State.setWord; split <;> rfl
@[simp] theorem State.setWord_img : (s.setWord f n w).img = s.img := by unfold State.setWord; split <;> rfl
@[simp] theorem State.setWord_ln : (s.setWord f n w).ln = s.ln := by unfold State.setWord; split <;> rfl
@[simp] theorem State.setWord_fr : (s.setWord f n w).fr = s.fr := by unfold State.setWord; split <;> rfl
@[simp] theorem State.setWord_qs : (s.setWord f n w).qs = s.qs := by unfold State.setWord; split <;> rfl
@[simp] theorem State.setWord_mate : (s.setWord f n w).mate = s.mate := by unfold State.setWord; split <;> rfl
@[simp] theorem State.setWord_rcd : (s.setWord f n w).rcd = s.rcd := by unfold State.setWord; split <;> rfl
@[simp] theorem State.setWord_irq : (s.setWord f n w).irq = s.irq := by unfold State.setWord; split <;> rfl
@[simp] theorem State.setWord_perf : (s.setWord f n w).perf = s.perf := by unfold State.setWord; split <;> rfl
@[simp] theorem State.setWord_cyc : (s.setWord f n w).cyc = s.cyc := by unfold State.setWord; split <;> rfl
@[simp] theorem State.setWord_free : (s.setWord f n w).free = s.free := by unfold State.setWord; split <;> rfl
@[simp] theorem State.setWord_fab : (s.setWord f n w).fab = s.fab := by unfold State.setWord; split <;> rfl
@[simp] theorem State.setWord_tw : (s.setWord f n w).tw = s.tw := by unfold State.setWord; split <;> rfl
@[simp] theorem State.setWord_tag : (s.setWord f n w).tag = s.tag := by unfold State.setWord; split <;> rfl
@[simp] theorem State.setWord_evg : (s.setWord f n w).evg = s.evg := by unfold State.setWord; split <;> rfl
@[simp] theorem State.setWord_pwr : (s.setWord f n w).pwr = s.pwr := by unfold State.setWord; split <;> rfl
@[simp] theorem State.setWord_boot : (s.setWord f n w).boot = s.boot := by unfold State.setWord; split <;> rfl
@[simp] theorem State.setWord_chg : (s.setWord f n w).chg = s.chg := by unfold State.setWord; split <;> rfl
@[simp] theorem State.setWord_bus : (s.setWord f n w).bus = s.bus := by unfold State.setWord; split <;> rfl
@[simp] theorem State.setWord_host : (s.setWord f n w).host = s.host := by unfold State.setWord; split <;> rfl
@[simp] theorem State.setWord_tim : (s.setWord f n w).tim = s.tim := by unfold State.setWord; split <;> rfl
@[simp] theorem State.setWord_flash : (s.setWord f n w).flash = s.flash := by unfold State.setWord; split <;> rfl
@[simp] theorem State.setWord_mem : (s.setWord f n w).mem = s.mem := by unfold State.setWord; split <;> rfl
@[simp] theorem State.setWord_out : (s.setWord f n w).out = s.out := by unfold State.setWord; split <;> rfl
@[simp] theorem State.setWord_pending : (s.setWord f n w).pending = s.pending := by unfold State.setWord; split <;> rfl

@[simp] theorem State.set64_latch : (s.set64 f g v n).latch = s.latch := by unfold State.set64; rw [State.set_latch, State.set_latch]
@[simp] theorem State.set64_stage : (s.set64 f g v n).stage = s.stage := by unfold State.set64; rw [State.set_stage, State.set_stage]
@[simp] theorem State.set64_img : (s.set64 f g v n).img = s.img := by unfold State.set64; rw [State.set_img, State.set_img]
@[simp] theorem State.set64_ln : (s.set64 f g v n).ln = s.ln := by unfold State.set64; rw [State.set_ln, State.set_ln]
@[simp] theorem State.set64_fr : (s.set64 f g v n).fr = s.fr := by unfold State.set64; rw [State.set_fr, State.set_fr]
@[simp] theorem State.set64_qs : (s.set64 f g v n).qs = s.qs := by unfold State.set64; rw [State.set_qs, State.set_qs]
@[simp] theorem State.set64_mate : (s.set64 f g v n).mate = s.mate := by unfold State.set64; rw [State.set_mate, State.set_mate]
@[simp] theorem State.set64_rcd : (s.set64 f g v n).rcd = s.rcd := by unfold State.set64; rw [State.set_rcd, State.set_rcd]
@[simp] theorem State.set64_irq : (s.set64 f g v n).irq = s.irq := by unfold State.set64; rw [State.set_irq, State.set_irq]
@[simp] theorem State.set64_perf : (s.set64 f g v n).perf = s.perf := by unfold State.set64; rw [State.set_perf, State.set_perf]
@[simp] theorem State.set64_cyc : (s.set64 f g v n).cyc = s.cyc := by unfold State.set64; rw [State.set_cyc, State.set_cyc]
@[simp] theorem State.set64_free : (s.set64 f g v n).free = s.free := by unfold State.set64; rw [State.set_free, State.set_free]
@[simp] theorem State.set64_fab : (s.set64 f g v n).fab = s.fab := by unfold State.set64; rw [State.set_fab, State.set_fab]
@[simp] theorem State.set64_tw : (s.set64 f g v n).tw = s.tw := by unfold State.set64; rw [State.set_tw, State.set_tw]
@[simp] theorem State.set64_tag : (s.set64 f g v n).tag = s.tag := by unfold State.set64; rw [State.set_tag, State.set_tag]
@[simp] theorem State.set64_evg : (s.set64 f g v n).evg = s.evg := by unfold State.set64; rw [State.set_evg, State.set_evg]
@[simp] theorem State.set64_pwr : (s.set64 f g v n).pwr = s.pwr := by unfold State.set64; rw [State.set_pwr, State.set_pwr]
@[simp] theorem State.set64_boot : (s.set64 f g v n).boot = s.boot := by unfold State.set64; rw [State.set_boot, State.set_boot]
@[simp] theorem State.set64_chg : (s.set64 f g v n).chg = s.chg := by unfold State.set64; rw [State.set_chg, State.set_chg]
@[simp] theorem State.set64_bus : (s.set64 f g v n).bus = s.bus := by unfold State.set64; rw [State.set_bus, State.set_bus]
@[simp] theorem State.set64_host : (s.set64 f g v n).host = s.host := by unfold State.set64; rw [State.set_host, State.set_host]
@[simp] theorem State.set64_tim : (s.set64 f g v n).tim = s.tim := by unfold State.set64; rw [State.set_tim, State.set_tim]
@[simp] theorem State.set64_flash : (s.set64 f g v n).flash = s.flash := by unfold State.set64; rw [State.set_flash, State.set_flash]
@[simp] theorem State.set64_mem : (s.set64 f g v n).mem = s.mem := by unfold State.set64; rw [State.set_mem, State.set_mem]
@[simp] theorem State.set64_out : (s.set64 f g v n).out = s.out := by unfold State.set64; rw [State.set_out, State.set_out]
@[simp] theorem State.set64_pending : (s.set64 f g v n).pending = s.pending := by unfold State.set64; rw [State.set_pending, State.set_pending]

@[simp] theorem State.resetRange_latch : (s.resetRange k n).latch = s.latch := rfl
@[simp] theorem State.resetRange_stage : (s.resetRange k n).stage = s.stage := rfl
@[simp] theorem State.resetRange_img : (s.resetRange k n).img = s.img := rfl
@[simp] theorem State.resetRange_ln : (s.resetRange k n).ln = s.ln := rfl
@[simp] theorem State.resetRange_fr : (s.resetRange k n).fr = s.fr := rfl
@[simp] theorem State.resetRange_qs : (s.resetRange k n).qs = s.qs := rfl
@[simp] theorem State.resetRange_mate : (s.resetRange k n).mate = s.mate := rfl
@[simp] theorem State.resetRange_rcd : (s.resetRange k n).rcd = s.rcd := rfl
@[simp] theorem State.resetRange_irq : (s.resetRange k n).irq = s.irq := rfl
@[simp] theorem State.resetRange_perf : (s.resetRange k n).perf = s.perf := rfl
@[simp] theorem State.resetRange_cyc : (s.resetRange k n).cyc = s.cyc := rfl
@[simp] theorem State.resetRange_free : (s.resetRange k n).free = s.free := rfl
@[simp] theorem State.resetRange_fab : (s.resetRange k n).fab = s.fab := rfl
@[simp] theorem State.resetRange_tw : (s.resetRange k n).tw = s.tw := rfl
@[simp] theorem State.resetRange_tag : (s.resetRange k n).tag = s.tag := rfl
@[simp] theorem State.resetRange_evg : (s.resetRange k n).evg = s.evg := rfl
@[simp] theorem State.resetRange_pwr : (s.resetRange k n).pwr = s.pwr := rfl
@[simp] theorem State.resetRange_boot : (s.resetRange k n).boot = s.boot := rfl
@[simp] theorem State.resetRange_chg : (s.resetRange k n).chg = s.chg := rfl
@[simp] theorem State.resetRange_bus : (s.resetRange k n).bus = s.bus := rfl
@[simp] theorem State.resetRange_host : (s.resetRange k n).host = s.host := rfl
@[simp] theorem State.resetRange_tim : (s.resetRange k n).tim = s.tim := rfl
@[simp] theorem State.resetRange_flash : (s.resetRange k n).flash = s.flash := rfl
@[simp] theorem State.resetRange_mem : (s.resetRange k n).mem = s.mem := rfl
@[simp] theorem State.resetRange_out : (s.resetRange k n).out = s.out := rfl
@[simp] theorem State.resetRange_pending : (s.resetRange k n).pending = s.pending := rfl

@[simp] theorem State.draw_fst : s.draw.1 = Config.freeValue s.free := rfl
@[simp] theorem State.draw_latch : s.draw.2.latch = s.latch := rfl
@[simp] theorem State.draw_stage : s.draw.2.stage = s.stage := rfl
@[simp] theorem State.draw_img : s.draw.2.img = s.img := rfl
@[simp] theorem State.draw_ln : s.draw.2.ln = s.ln := rfl
@[simp] theorem State.draw_fr : s.draw.2.fr = s.fr := rfl
@[simp] theorem State.draw_qs : s.draw.2.qs = s.qs := rfl
@[simp] theorem State.draw_mate : s.draw.2.mate = s.mate := rfl
@[simp] theorem State.draw_rcd : s.draw.2.rcd = s.rcd := rfl
@[simp] theorem State.draw_irq : s.draw.2.irq = s.irq := rfl
@[simp] theorem State.draw_perf : s.draw.2.perf = s.perf := rfl
@[simp] theorem State.draw_cyc : s.draw.2.cyc = s.cyc := rfl
@[simp] theorem State.draw_fab : s.draw.2.fab = s.fab := rfl
@[simp] theorem State.draw_tw : s.draw.2.tw = s.tw := rfl
@[simp] theorem State.draw_tag : s.draw.2.tag = s.tag := rfl
@[simp] theorem State.draw_evg : s.draw.2.evg = s.evg := rfl
@[simp] theorem State.draw_pwr : s.draw.2.pwr = s.pwr := rfl
@[simp] theorem State.draw_boot : s.draw.2.boot = s.boot := rfl
@[simp] theorem State.draw_chg : s.draw.2.chg = s.chg := rfl
@[simp] theorem State.draw_bus : s.draw.2.bus = s.bus := rfl
@[simp] theorem State.draw_host : s.draw.2.host = s.host := rfl
@[simp] theorem State.draw_tim : s.draw.2.tim = s.tim := rfl
@[simp] theorem State.draw_flash : s.draw.2.flash = s.flash := rfl
@[simp] theorem State.draw_mem : s.draw.2.mem = s.mem := rfl
@[simp] theorem State.draw_out : s.draw.2.out = s.out := rfl
@[simp] theorem State.draw_pending : s.draw.2.pending = s.pending := rfl
@[simp] theorem State.draw_regs : s.draw.2.regs = s.regs := rfl
@[simp] theorem State.draw_free : s.draw.2.free = s.free + 1 := rfl

end Sys2Proof.Machine
end

