-- ==== Sys2Proof/WellFormed.lean ====
section
/-!
DEFINITION. Sys2Proof/WellFormed.lean: which commands name things that the Heset 128 has: a lane, a context, a channel, a bank
of the numbers that the spec gives. exec takes every command; an ill-formed one names nothing and comes from no sender.
-/
namespace Sys2Proof

/-- A source of accesses: a bus matrix master by a code of Table 13-1, or a path of the host. -/
def Src.wf : Src → Bool
  | .pcie | .smbus => true
  | .master c _ => decide (1 ≤ c) && decide (c ≤ 8)

/-- A list of numbers below `n`. -/
def below (n : Nat) (l : List Nat) : Bool := l.all fun x => decide (x < n)

/-- A command channel of a mailbox command (Table 14-3): a host channel, or that of the mate. -/
def cmdChan (n : Nat) : Bool := decide (n < 16) && n % 2 == 0 && n != 12

/-- An access of a register: a BAR offset (R366) and byte enables. -/
def regAccess (src : Src) (off be : Nat) : Bool :=
  src.wf && decide (off < 2 ^ 24) && off % 4 == 0 && decide (be < 16)

/-- A request at the bus matrix: 1 to 512 bytes (R345) of a 40-bit address space. -/
def BusReq.wf (q : BusReq) : Bool :=
  q.src.wf && decide (q.addr < 2 ^ 40) && decide (1 ≤ q.len) && decide (q.len ≤ 512) &&
    (!q.write || q.data.length == q.len)

/-- A frame of a monitored layer: field widths of Table 3-5. -/
def FrameIn.wf (f : FrameIn) : Bool := decide (f.mfas < 256) && decide (f.pt < 256) && decide (f.stat < 8)

/-- A 66B block of two sync bits and 64 data bits. -/
def blkOk (b : Machine.W66) : Bool := decide (b.sync < 4) && decide (b.data < 2 ^ 64)

/-- The operands of a grid period. -/
def GridIn.wf (x : GridIn) : Bool :=
  (x.streams.all fun p => decide (p.1 < 262144) && p.2.all blkOk) &&
    (x.flexe.all fun p => decide (p.1 < 262144) && decide (p.2.1 < 640) && blkOk p.2.2) &&
    (x.odus.all fun o => decide (o.ctx < 262144)) && below 262144 (x.eccCorr ++ x.ecc) &&
    below 2560 ((x.corr ++ x.corrP).map (·.1) ++ x.uncorr ++ x.uncorrP ++ x.chk ++ x.chkP ++ x.diff) &&
    (x.late.all fun p => decide (p.1 < 16) && decide (p.2 < 20)) && (x.lanes.all fun l => decide (l.lane < 144))

/-- Whether a command names things that exist. -/
def Instr.wf : Instr → Bool
  | .registerWrite src off be _ _ | .registerReadClear src off be => regAccess src off be
  | .lowWordRead src off | .highWordWrite src off _ => regAccess src off 15
  | .lnTsSecRead src n => src.wf && decide (n < 144)
  | .tmcSecLoRead src | .rtcSecLoRead src | .watchdogKick src => src.wf
  | .gridPeriod x => x.wf
  | .gridMultiframeBoundary x => below 1024 x.disagree
  | .mateFrameReceived j _ => decide (j < 16)
  | .mateRole n | .apply n | .applyPlan n | .haltPlan n | .forceSwitch n | .clearForce n | .setRtc n | .nonce n
  | .sessionEnd n | .freeze n | .thaw n | .harvestEvt n | .harvestPm n => cmdChan n
  | .flashWrite n _ | .keyRevoke n _ | .provision n _ | .lcAdvance n _ | .debugUnlock n _ | .attest n _ | .session n _
  | .query n _ | .clearEvt n _ => cmdChan n
  | .backgroundCommandDone n _ => cmdChan n
  | .mailboxPost src n | .mailboxAbort src n => src.wf && decide (n < 16) && n % 2 == 0
  | .mailboxReplyClear src n => src.wf && decide (n < 16) && n % 2 == 1
  | .applyLoadComplete bad => bad.all fun p => decide (p.1 ≤ 16) && decide (p.2 < 256)
  | .twigRoundEnd h => decide (h < 320)
  | .twigFrameReceived h bytes => decide (h < 320) && decide (bytes.length ≤ 16000)
  | .hostSlip h _ past => decide (h < 320) && decide (1 ≤ past) && decide (past ≤ 16000)
  | .evgFrameArrival i _ _ frame _ _ => decide (i < 4096) && decide (frame < 2 ^ 33280)
  | .evgPlayout i _ _ _ | .evgAcqTimeout i | .evgReanchor i _ | .evgNoUsableTimeout i | .evgFlush i => decide (i < 4096)
  | .pmSecondEnd bad => below 4 bad
  | .refclkLoss r | .refclkValid r => decide (r < 8)
  | .synthLock q | .synthUnlock q => decide (q < 36)
  | .modIntEdge q => decide (q < 32)
  | .cdrLock n | .adaptConverged n | .fecAlignLock n | .acqAttemptTimeout n | .losExit n | .ebSlip n => decide (n < 144)
  | .deskewComplete n _ _ _ => decide (n < 144)
  | .losEntry n also | .cdrUnlock n also | .fecLoss n also | .alignLoss n also =>
    decide (n < 144) && also.all fun r => decide (1 ≤ r) && decide (r ≤ 8)
  | .laneTermMeasure n _ _ => decide (n < 144)
  | .alignWindowEnd c _ term => decide (c < 262144) && decide (term < 16000)
  | .frameReceived c f => decide (c < 262144) && f.wf
  | .flexeCalSwitch c | .flexeCaTimeout c | .lofDeclare c | .lofClear c | .lomDeclare c | .lomClear c
  | .egressFrameBoundary c | .pathTagCheck c => decide (c < 262144)
  | .fabricResetSelfTest bad => below 21 bad
  | .holdoffExpiry g t => decide (g < 1024) && decide (t < 4)
  | .wtrExpiry g | .fopNrDeclare g => decide (g < 1024)
  | .apsReceived g b1 b2 b3 => decide (g < 1024) && below 256 [b1, b2, b3]
  | .forcePinEdge k _ => decide (k < 4)
  | .cvuWindowClose u => decide (u < 64)
  | .cvuValWrite src u off be _ _ _ => src.wf && decide (u < 64) && decide (off < 64) && decide (be < 16)
  | .cvuResHiRead src u => src.wf && decide (u < 64)
  | .secdedScrub x => (x.corr.all fun p => decide (p.1 < 8)) && (x.sliceCorr.all fun p => decide (p.1 < 21))
  | .timerefEdge c _ _ | .candLos c | .candLosClear c | .chatterClear c | .candQualified c | .frequencyFault c _ =>
    decide (c < 56)
  | .ppsEpoch freq => freq.all fun p => decide (p.1 < 56)
  | .tchMessageSend k _ | .tchMessageReceived k _ => decide (k < 32)
  | .todSentenceSend k | .todSentenceReceived k _ _ _ => decide (k < 4)
  | .ptpIngressCorrect c _ _ _ => decide (c < 262144)
  | .ptpEgressCorrect slot _ _ => decide (slot < 2560)
  | .resetReleaseBoot x => decide (x.src < 4) && below 21 x.bad
  | .tamperAssert k | .tamperDeassert k => decide (k < 2)
  | .lockstepFault pc out => decide (pc < 2 ^ 32) && decide (out < 2 ^ 32)
  | .busAccess reqs => !reqs.isEmpty && reqs.all BusReq.wf
  | .lockTimeout m | .masterWatchdogExpiry m => decide (1 ≤ m) && decide (m ≤ 8)
  | .semaphoreRead n srcs => decide (n < 64) && srcs.all Src.wf
  | .semaphoreRelease n src _ => decide (n < 64) && src.wf
  | .bankOwnerWrite src n be _ => src.wf && decide (n < 8) && decide (be < 16)
  | .bankHandover n | .bankWakeDone n => decide (n < 8)
  | .pcieLinkUp speed width _ => decide (1 ≤ speed) && decide (speed ≤ 4) && [1, 2, 4].contains width
  | .smbSetAddr addr _ => decide (addr < 2 ^ 32)
  | .smbAlertMask w _ => match w with | some v => decide (v < 256) | none => true
  | .cursorSeek n => decide (n < 2 ^ 64)
  | .hqFlushRequest q | .hqFlush q => decide (q < 5)
  | .irqStkClear g mask _ => decide (g < 16) && decide (mask < 2 ^ 32)
  | .msixSpacingExpiry v => decide (v < 64)
  | .ddrTrainingComplete _ bad => bad.all fun p => decide (p.1 < 8)
  | .ddrPatrolScrub corr _ => corr.all fun p => decide (p.1 < 8)
  | .pwrDomainTransitionDone d _ | .pwrSeqFault d => decide (d < 24)
  | .mateLost | .flashSeize | .flashReqChange _ | .mateAliveInChange | .gaspDetected | .roleResolve
  | .generationCommitReceived _ | .planStepDue | .hitWindowEnd | .twigFrameBoundary | .evergreenBlockBoundary
  | .pmSecondCommit | .pmBinClose _ | .spareSelfTestPass _ | .coppiceDue | .osciLoss | .osciRestore | .servoCrossCheck _
  | .selectorEvaluation | .historyValid | .holdoverExpiry _ | .rtcHoldEnd | .rtcXtalFail | .vbatLoss | .imageConfirm
  | .sessionIdleTimeout | .cpWatchdogExpiry | .processorResume | .perstAssert | .perstDeassert | .pcieLinkDown
  | .mailboxTake | .smbRead | .smbWrite _ _ | .smbTemp _ | .smbStatus | .smbAlertResponse | .smbClockTimeout
  | .recordAccept _ | .recordArchive | .flashCopyProgram _ | .freezeExpiry | .cursorNext | .cursorPrev | .cursorMark
  | .cursorRewind | .cursorOldest | .cursorNewest | .cursorStateRead | .pcSnap _ | .pcClear | .ddrRetrain | .ddrRefresh
  | .ddrDqsRecentre | .ddrEccCorr | .powerOnReset | .resetNAssert | .thermalTrip | .thermalTripEnd | .undervoltage
  | .supplySwitchVbat | .trstAssert | .mainSupplyRestore | .flashGntChange _ _ | .msixEnable _
  | .junctionTempThreshold _ => true

end Sys2Proof
end

