-- ==== Sys2Proof/Tests/Slice0.lean ====
section
/-!
SUPPORT. Sys2Proof/Tests/Slice0.lean: ill-formed commands that WellFormed refuses, and for each statement with hypotheses
concrete states and operands, at boundary values, that meet the hypotheses of each of its clauses together.
-/
namespace Sys2Proof.Tests

open Sys2Proof Sys2Proof.Machine Sys2Proof.Safety

set_option Elab.async false

/-! ### WellFormed refuses each ill-formed command -/

/-- One ill-formed command or part for each check of WellFormed. -/
theorem test_ill_formed_parts :
    (Src.master 0 true).wf = false ∧ (Src.master 9 true).wf = false ∧ below 4 [3, 4] = false ∧ cmdChan 12 = false ∧
    cmdChan 9 = false ∧ cmdChan 16 = false ∧ regAccess .pcie 0x1000000 15 = false ∧ regAccess .pcie 2 15 = false ∧
    regAccess .pcie 0 16 = false ∧ ({ src := .pcie, addr := 2 ^ 40 } : BusReq).wf = false ∧
    ({ src := .pcie, addr := 0, len := 0 } : BusReq).wf = false ∧ ({ src := .pcie, addr := 0, len := 513 } : BusReq).wf = false ∧
    ({ src := .pcie, addr := 0, write := true } : BusReq).wf = false ∧ ({ mfas := 256 } : FrameIn).wf = false ∧
    ({ pt := 256 } : FrameIn).wf = false ∧ ({ stat := 8 } : FrameIn).wf = false ∧
    ({ streams := [(262144, [])] } : GridIn).wf = false ∧ ({ flexe := [(0, 640, ⟨2, 0⟩)] } : GridIn).wf = false ∧
    ({ odus := [⟨262144, 0⟩] } : GridIn).wf = false ∧ ({ eccCorr := [262144] } : GridIn).wf = false ∧ ({ corr := [(2560, 1)] } : GridIn).wf = false ∧
    ({ ecc := [262144] } : GridIn).wf = false ∧ ({ uncorr := [2560] } : GridIn).wf = false ∧
    ({ late := [(16, 0)] } : GridIn).wf = false ∧ ({ lanes := [{ lane := 144, cw := 0 }] } : GridIn).wf = false := by decide +kernel

/-- One ill-formed command for each arm of WellFormed: registers, grid, mate, mailboxes and changes. -/
theorem test_ill_formed_commands :
    ([.registerWrite .pcie 1 15 0 false, .registerReadClear .pcie 0 16, .lowWordRead (.master 0 true) 0,
      .highWordWrite .pcie 0x1000000 0, .lnTsSecRead .pcie 144, .tmcSecLoRead (.master 9 true), .rtcSecLoRead (.master 9 true),
      .watchdogKick (.master 0 true), .gridPeriod { chk := [2560] }, .gridMultiframeBoundary { disagree := [1024] },
      .mateFrameReceived 16 {}, .mateRole 1, .apply 12, .harvestPm 16, .flashWrite 3 {}, .clearEvt 12 {},
      .backgroundCommandDone 5 {}, .mailboxPost .pcie 1, .mailboxAbort .pcie 16, .mailboxReplyClear .pcie 2,
      .applyLoadComplete [(17, 0)], .applyLoadComplete [(1, 256)], .twigFrameReceived 320 [], .twigFrameReceived 0 (List.replicate 16001 0),
      .hostSlip 320 false 1, .hostSlip 0 false 0, .hostSlip 0 false 16001, .twigRoundEnd 320] : List Instr).all (fun i => !i.wf) = true := by decide +kernel

/-- Evergreen, lanes, framing, protection and integrity. -/
theorem test_ill_formed_paths :
    ([.evgFrameArrival 4096 false 0 0 [] false, .evgFrameArrival 0 false 0 (2 ^ 33280) [] false, .evgAcqTimeout 4096, .evgFlush 4096,
      .pmSecondEnd [4], .refclkLoss 8, .refclkValid 8, .synthLock 36, .synthUnlock 36, .modIntEdge 32, .cdrLock 144, .ebSlip 144,
      .losEntry 144 [], .losEntry 0 [0], .alignLoss 0 [9], .alignWindowEnd 262144 [] 0, .frameReceived 262144 {},
      .frameReceived 0 { stat := 8 }, .flexeCalSwitch 262144, .pathTagCheck 262144, .fabricResetSelfTest [21], .holdoffExpiry 1024 0,
      .holdoffExpiry 0 4, .wtrExpiry 1024, .fopNrDeclare 1024, .apsReceived 1024 0 0 0, .apsReceived 0 0 256 0, .forcePinEdge 4 true,
      .cvuWindowClose 64, .cvuResHiRead .pcie 64, .secdedScrub { corr := [(8, 1)] }, .secdedScrub { sliceCorr := [(21, 1)] }] :
      List Instr).all (fun i => !i.wf) = true := by decide +kernel

/-- Timing, boot, bus, host, records, memory and power. -/
theorem test_ill_formed_control :
    ([.candLos 56, .candQualified 56, .tchMessageSend 32 0, .todSentenceSend 4, .resetReleaseBoot { src := 4 },
      .resetReleaseBoot { bad := [21] }, .tamperAssert 2, .tamperDeassert 2, .lockstepFault (2 ^ 32) 0, .lockstepFault 0 (2 ^ 32),
      .busAccess [], .busAccess [{ src := .pcie, addr := 0, len := 0 }], .lockTimeout 0, .masterWatchdogExpiry 9,
      .semaphoreRead 64 [], .semaphoreRead 0 [.master 0 true], .semaphoreRelease 64 .pcie 0, .bankOwnerWrite .pcie 8 15 0,
      .bankOwnerWrite .pcie 0 16 0, .bankHandover 8, .bankWakeDone 8, .pcieLinkUp 0 1 true, .pcieLinkUp 5 1 true,
      .pcieLinkUp 1 3 true, .smbSetAddr (2 ^ 32) true, .smbAlertMask (some 256) true, .cursorSeek (2 ^ 64), .hqFlushRequest 5,
      .hqFlush 5, .irqStkClear 16 0 true, .irqStkClear 0 (2 ^ 32) true, .msixSpacingExpiry 64, .ddrTrainingComplete 0 [(8, 0, 0)],
      .ddrPatrolScrub [(8, 1)] [], .pwrDomainTransitionDone 24 0, .pwrSeqFault 24] : List Instr).all (fun i => !i.wf) = true := by
  decide +kernel

/-! ### States of the witnesses -/

/-- A state with register fields set: field, value, instance. -/
def put (l : List (Fld × Nat × Nat)) (s : State := {}) : State := l.foldl (fun s p => s.set p.1 p.2.1 p.2.2) s

/-- An entry with fields at values, of the kind of its first field. -/
def ent (l : List (ImgFld × Int)) (idx : Nat := 0) : Entry :=
  { kind := match l with | p :: _ => p.1.kind | [] => 0, idx := idx, fields := l.map fun p => (p.1.fid, 0, p.2) }

/-- The section that a field is in, with entries. -/
def sect (f : ImgFld) (l : List Entry) : Section := { sec := f.sec, entries := l }

/-- The register at a key, and its instance. -/
def regOf (k : Nat) : RegDef × Nat := (regAt k).getD (⟨0, 0, 0, []⟩, 0)

/-- The state that a command answers. -/
def next (c : Instr) (s : State) : State := match Machine.exec c s with | .next t => t | _ => s


/-- A state made from another. -/
def der (f : State → State) (s : State) : State := f s

/-- MSI-X enabled and the link up, source 511 enabled; its vector plain, masked, and in its spacing. -/
def sIrq : State := { put [(MBX_LINK_up, 1, 0), (MBX_LINK_msix_en, 1, 0)] with irq := { en := [(15, 2 ^ 31)] } }
def sIrqMasked : State := sIrq.setReg (0x2F000 + 16 * sIrq.vectorOf 511 + 12) 1
def sIrqSpace : State := { sIrq with irq := { en := [(15, 2 ^ 31)], space := [sIrq.vectorOf 511] } }

/-- Lane 143 enabled with a format, alone in its bond, and the bond of lanes 124 to 127. -/
def laneImg : List Section :=
  [sect LANES_enable [ent [(LANES_enable, 1), (LANES_format, 5), (LANES_width, 1)] 143,
     ent [(LANES_enable, 1), (LANES_format, 2), (LANES_width, 4)] 124, ent [(LANES_enable, 1), (LANES_format, 2), (LANES_width, 4)] 125,
     ent [(LANES_enable, 1), (LANES_format, 2), (LANES_width, 4)] 126, ent [(LANES_enable, 1), (LANES_format, 2), (LANES_width, 4)] 127]]

/-- Lane 143 in a state, and the members of the bond of lane 124 in a state. -/
def sLane (n : Nat) : State := put [(LN_STATE_state, n, 143)] { img := laneImg, ln := { synthOk := [35] } }
def sAcq (n : Nat) : State := { sLane n with ln := { synthOk := [35], lanes := [(143, { acq := true })] } }
def sBond (n : Nat) : State := put [(LN_STATE_state, n, 124), (LN_STATE_state, n, 125), (LN_STATE_state, n, 126), (LN_STATE_state, n, 127)]
  { img := laneImg }

/-- A FlexO group of two lanes that deskews, with a group and two instance ids. -/
def sFlexo : State := put [(LN_STATE_state, 5, 4), (LN_STATE_state, 5, 5)]
  { img := [sect LANES_enable [ent [(LANES_enable, 1), (LANES_format, 1), (LANES_width, 2)] 4, ent [(LANES_enable, 1), (LANES_format, 1), (LANES_width, 2)] 5],
      sect FRAMING_lead [{ kind := 1, fields := [(FRAMING_lead.fid, 0, 4), (FRAMING_flexo_gid.fid, 0, 9), (FRAMING_flexo_iid.fid, 0, 7), (FRAMING_flexo_iid.fid, 1, 8)] }]]
    ln := { lanes := [(4, { acq := true })] } }

/-- A receive context 262143 of kind 2, and a transmit context 262142, on a path each. -/
def pathImg (layer kind : Int) : List Section :=
  [sect MAPPING_ctx [ent [(MAPPING_ctx, 262143), (MAPPING_kind, kind), (MAPPING_dir, 0)], ent [(MAPPING_ctx, 262142), (MAPPING_kind, kind), (MAPPING_dir, 1)]],
   sect FRAMING_ctx [ent [(FRAMING_ctx, 262143), (FRAMING_layer, layer), (FRAMING_pm, 1)]]]
def sPath (l : List (Fld × Nat × Nat) := []) : State := put l { img := pathImg 2 2 }
def sHost (n : Nat) : State := { img := pathImg 2 7, fr := { align := [(262143, { n := 2, held := false })], map := [(262143, { q := ⟨n, 0⟩ })] } }
def sSearch (cands : List (Nat × Nat)) : State :=
  { img := pathImg 2 2, fr := { align := [(262143, { n := 2, cands := cands, held := false })] } }

/-- A read entry of output 2559 of logical slice 19, and the block that was written for it in grid period 2^20. -/
def rd : Entry := ent [(FABRIC_PAGE_out, 2559), (FABRIC_PAGE_rd_slice, 19), (FABRIC_PAGE_src_wc, 127), (FABRIC_PAGE_lag, 2)]
def sSlice : State := ({ fab := { gp := 2 ^ 20 } } : State).writeBlk (pairOf 19 127) ⟨2 ^ 512 - 1, 1⟩ false
def sRead : State := { sSlice with fab := { sSlice.fab with gp := 2 ^ 20 + 2 } }
def sRunning : State := put [(CP_BOOT_ST_state, 4, 0)]

/-- Cursor-free registers for accesses: LN_FEC_CW_LO and LN_FEC_CORR_HI of lane 143 with a word latched. -/
def sLatched : State := { latch := [(0x80000 + 0x100 * 143 + 0x14, 0xFFFFFFFF)] }

/-- Unit 63 with a window, in native mode with a result that differs from what it expects, and in read mode. -/
def sNative : State := put [(CVU_CTL_win, 1, 63), (CVU_CTL_enable, 1, 63), (CVU_CTL_mode, 0, 63), (CVU_EXP_LO_exp_lo, 1, 63), (CVU_CTL_poly, 1, 63)]
def sReadMode : State := put [(CVU_CTL_mode, 1, 63), (CVU_ST_ready, 1, 63), (CVU_MIS_CNT_mis, 0xFFFFFFFF, 63)] sNative
def sPosted : State := put [(MBX_CTL_go, 1, 10)]

/-- The bond with its reference clock lost, an egress that got a fail-marked block, and a read of what 34 grid periods overwrote. -/
def sBondLost : State := { sBond 1 with ln := { refLost := [7] } }
def sPathFail : State := { sPath with fr := { egress := [(262142, { fail := true, last := 1 })] } }
def sReadLate : State := { sSlice with fab := { sSlice.fab with gp := 2 ^ 20 + 34 } }

/-- The mate pair: mode, role and rank of this device. -/
def sMate (mode role rank : Nat) (m : MateBlock := {}) : State :=
  put [(MATE_ST_mode, mode, 0), (MATE_ST_role, role, 0), (MATE_ST_rank, rank, 0)] { mate := m }

/-- Mate lane 15 in UP, in frame, with errored frame words in a row. -/
def sMateLane (errs : Nat) : State :=
  put [(LN_STATE_state, 6, 143), (MATE_ST_mode, 1, 0), (MATE_ST_role, 2, 0)] { mate := { lanes := [(15, { inFrame := true, align := { errs := errs } })] } }

/-- RUNNING, the words of a command taken on a channel. -/
def takenAt (n : Nat) (m : List Nat) (s : State := {}) : State :=
  put [(CP_BOOT_ST_state, 4, 0)] { s with host := { s.host with taken := [(n, m)] } }

/-- A plan or APPLY in progress: kind, state, and its boundary. -/
def sChg (kind st due : Nat) (c : ChgBlock := {}) (s : State := {}) : State :=
  put [(PLN_STATE_kind, kind, 0), (PLN_STATE_state, st, 0), (PLN_DUE_LO_due_lo, due, 0), (PLN_DUE_HI_due_hi, due / 2 ^ 32, 0)] { s with chg := c }

/-- A flash whose container at offset 0 has one section, LANES instance 7. -/
def oneSection : List (Nat × Byte) := [(12, 1), (13, 0), (0x100, 2), (0x101, 7)]

/-- A receive host 319 of context 262143, and a circuit of its twigs 471 to 479, context 262142. -/
def hostCtxE : Entry := ent [(MAPPING_ctx, 262143), (MAPPING_kind, 7), (MAPPING_dir, 0), (MAPPING_host, 319), (MAPPING_host_label_tx, 2 ^ 64 - 1)]
def circE : Entry := ent [(MAPPING_ctx, 262142), (MAPPING_kind, 8), (MAPPING_dir, 0), (MAPPING_host, 319), (MAPPING_twig_first, 471), (MAPPING_twig_n, 9)]
def twigImg : List Section := [sect MAPPING_ctx [hostCtxE, circE], sect INTEGRITY_twig_en [ent [(INTEGRITY_twig_en, 1)]]]

/-- A twig frame with a good host label check and fnum 255: the first 20 bytes. -/
def twigFrame : Nat :=
  leNat (twigWord ++ beBytes 8 5 ++ [0xFF, 0] ++ beBytes 2 (crc16 (beBytes 8 5 ++ [0xFF, 0])))
def sHostF (v : Nat) (al : Nat := 1) : State :=
  put [(FRM_ALIGN_state, al, 262143), (LN_STATE_bond_up, 1, 0)]
    { img := twigImg, fr := { align := [(262143, { held := false })], map := [(262143, { q := { n := 63992, v := v } })] } }
def frm (v : Nat) : Nat := v % 2 ^ 64000
def feedW (s : State) : State := ((s.newCycle.feed 262143 8 0).nextFrame 262143).2
def sRound (err : List Nat) (l : List (Fld × Nat × Nat)) : State :=
  put l { img := twigImg, tw := { recv := [(319, { fnum := some 255, rOut := false, rErr := err })] } }

/-- Merge 4095 of two copies, and its state. -/
def mergeE : Entry := ent [(EVERGREEN_merge, 4095), (EVERGREEN_m_trib, 7), (EVERGREEN_m_size, 1), (EVERGREEN_m_copy_a, 1), (EVERGREEN_m_copy_b, 2), (EVERGREEN_m_dmax, 4096), (EVERGREEN_m_reanchor, 1)]
def sMerge (m : EvgMerge) : State := { img := [sect EVERGREEN_merge [mergeE, ent [(EVERGREEN_wrap, 1023)]]], evg := { merges := [(4095, m)], wraps := [(1023, { seq := 2 ^ 32 - 1, idx := 3, jump := 2 })] } }
def inCopy : EvgCopy := { inFrame := true, off := some 640 }
def heldF (k : Nat) (b good : Bool) : EvgHeld := { seq := 9, idx := k, copyB := b, good := good, srcFail := false, arr := 100, inst := 740, data := 5 }
def heldM (k : Nat) (b good : Bool) : EvgHeld := { heldF k b good with part := 1, mark := some ((heldF k b good).endMark) }

/-- An evergreen frame of merge 4095's trib, sequence 9, index 1: its number. Its payload is four bytes 0xFF, then zeros. -/
def evgIn : Nat :=
  let t := evgWord ++ beBytes 4 9 ++ beBytes 1 1 ++ beBytes 1 0 ++ beBytes 2 0 ++ beBytes 4 7 ++ beBytes 36 0 ++ beBytes 4 0xFFFFFFFF
  leNat (t ++ beBytes 4 (crc32c t)) + 0xFFFFFFFF * 2 ^ 512

/-- A rank-low device that waits for the flash and has been granted it. -/
def sMateWait : State := { sMate 1 1 0 { flashGnt := true } with boot := { waitGnt := true } }

/-- An APPLY of LANES instance 7 that loads from the container, where this device drives the flash. -/
def sBad : State := put [(MATE_ST_rank, 1, 0)] (sChg 1 1 0 { names := [(2, 7)] } { flash := oneSection })
def sFar (m : EvgMerge) : State := let s := sMerge m; put [(DC_ST_state, 5, 0)] { s with evg := { s.evg with mids := [(4095, 0, 3)] } }

/-- A monitored receive path 262143 in a PM state, system second 5. -/
def monE : Entry := ent [(FRAMING_ctx, 262143), (FRAMING_layer, 2), (FRAMING_pm, 1), (FRAMING_tca_prof, 1)]
def sMon (l : List (Fld × Nat × Nat)) (p : PmSt) : State :=
  put ((DC_ST_state, 2, 0) :: (TMC_SEC_LO_sec_lo, 2000, 0) :: l)
    { img := [sect MAPPING_ctx [ent [(MAPPING_ctx, 262143), (MAPPING_kind, 2), (MAPPING_dir, 0)]],
        sect FRAMING_ctx [monE, { kind := 0, fields := [(FRAMING_prof_bbe15.fid, 1, 5)] }]]
      fr := { pm := [(262143, p)] } }
def sec9 : PmSec := ⟨1000, true, false, 5, false, false, false, 0, false, false⟩

/-- Slice 20 is the SPARE slice, and failed its last self-test pass. -/
def sSpare (bad : List Nat) : State := put [(FAB_COPPICE_state, 0, 0), (FAB_COPPICE_spare, 20, 0)] { fab := { testBad := bad } }

/-- Group 1023, and its state. -/
def grpE : Entry := ent [(PROTECTION_grp, 1023), (PROTECTION_aps, 1), (PROTECTION_type, 1), (PROTECTION_p_ctx, 5)]
def sGrp (q : QsGrp) (s : State := {}) : State := { s with img := [sect PROTECTION_grp [grpE]], qs := { grps := [(1023, q)] } }

/-- A checker context 262143 whose first output slot is read, with a tag block that has arrived. -/
def chkE : Entry := ent [(MAPPING_ctx, 262143), (MAPPING_kind, 4), (MAPPING_dir, 1), (MAPPING_lead, 127), (MAPPING_server, 262143)]
def sTag (t : TagChk) (l : List (Fld × Nat × Nat) := []) : State :=
  put l
    { img := [sect MAPPING_ctx [chkE], sect LANES_enable [ent [(LANES_enable, 1), (LANES_format, 2), (LANES_width, 1)] 127],
      sect FABRIC_PAGE_out [ent [(FABRIC_PAGE_out, 2540), (FABRIC_PAGE_rd_slice, 19), (FABRIC_PAGE_src_wc, 127)]], sect INTEGRITY_pit_en [ent [(INTEGRITY_pit_en, 1)]]]
      tag := { chks := [(262143, t)] } }

/-- Candidate 15 enabled and qualified. -/
def sCand (l : List (Fld × Nat × Nat)) (t : TimeBlock := {}) : State :=
  put ((TMC_CAND_ST_enabled, 1, 15) :: l) { tim := t }

/-- Time channel 31 over host 319 and twig 479, its round of a message, and its departures and arrivals. -/
def tchE : Entry := ent [(TIMEXFER_tch, 31), (TIMEXFER_tch_host, 319), (TIMEXFER_tch_twig, 479), (TIMEXFER_tch_id, 7)]
def tchMsg (id : Nat) : List Byte :=
  let m := beBytes 4 0x11000000 ++ beBytes 4 id ++ beBytes 4 5 ++ beBytes 4 3 ++ List.replicate 44 0
  m ++ beBytes 4 (crc32c m)
def frameOf (m : List Byte) (q : Nat) : Nat := leNat ((m.drop (16 * q)).take 16) * 2 ^ (8 * (320 + 16 * 479))
def sTch (m : List Byte) : State :=
  { img := [sect TIMEXFER_tch [tchE, ent [(TIMEXFER_tcor_en, 1)]]]
    tim := { tch := [(31, { tx := [(3, 10)], rx := [(4, 20)] })] }
    tw := { recv := [(319, { fnum := some 255, hist := [frameOf m 3, frameOf m 2, frameOf m 1, frameOf m 0] })] } }

/-- ToD: output 3 enabled. -/
def sTod : State := { img := [sect TIMEXFER_todo_en [{ kind := 0, fields := [(TIMEXFER_todo_en.fid, 3, 1)] }]] }
def todIn : List Byte := todSentence 5 37 0 1 0

/-- A Sync frame over Ethernet of 78 bytes with its FCS. -/
def ptpSync (corr : Nat) : List Byte :=
  let m := List.replicate 12 0 ++ beBytes 2 0x88F7 ++ [0x00, 0x02] ++ List.replicate 6 0 ++ beBytes 8 corr ++ List.replicate 44 0
  m ++ leBytes 4 (crcOf 1 m)
def sPtp (en : Int) : State :=
  { img := [sect MAPPING_ctx [ent [(MAPPING_ctx, 262143), (MAPPING_kind, 4), (MAPPING_dir, 0), (MAPPING_server, 262143)], ent [(MAPPING_ctx, 262142), (MAPPING_kind, 4), (MAPPING_dir, 1), (MAPPING_lead, 127), (MAPPING_server, 262142)]],
     sect LANES_enable [ent [(LANES_enable, 1), (LANES_format, 2), (LANES_width, 1)] 127],
     sect FABRIC_PAGE_out [ent [(FABRIC_PAGE_out, 2540), (FABRIC_PAGE_rd_slice, 19), (FABRIC_PAGE_src_wc, 127)]],
     sect TIMEXFER_tcor_en [ent [(TIMEXFER_tcor_en, en)]]] }

/-- Candidate 15 qualified, with revertive selection. -/
def sRevert : State := { sCand [(TMC_CAND_ST_qualified, 1, 15)] with img := [sect TIMING_revert [ent [(TIMING_revert, 1), (TIMING_sel_mode, 1)]]] }
def recNo (n : Nat) (sev : Nat := 3) : Rec := ⟨0x0C05, sev, false, false, false, false, 1, n, 9, 0, List.replicate 7 1⟩

/-- A command taken on channel 10 of a RUNNING device. -/
def msg (op : Nat) (l : List (Nat × Nat)) : List Nat :=
  (List.range 16).map fun i => if i = 0 then op * 2 ^ 16 else ((l.find? fun p => p.1 == i).map (·.2)).getD 0

/-- A token of key slot 3, and what a device needs for its bulk to arrive. -/
def tokOf (op arg : Nat) (nonce : List Byte) : List Byte :=
  leBytes 4 0x4E4B4F54 ++ leBytes 2 op ++ [3, 0] ++ leBytes 8 0 ++ leBytes 4 arg ++ leBytes 4 0 ++ nonce ++ List.replicate 4640 0
def zeros : List Byte := List.replicate 32 0
def keyed : State := { boot := { fuse := { prov := 8, keys := [(1, [1]), (2, [2]), (3, [3])] } } }
def linked (l : List (Fld × Nat × Nat)) (s : State := keyed) : State :=
  put ((MBX_LINK_up, 1, 0) :: (MBX_LINK_bme, 1, 0) :: (CP_LC_state, 1, 0) :: l) s
def tokMsg (op arg : Nat) : List Nat := msg op [(1, arg), (12, 2), (15, 4696)]

/-- Flash 0 with slot A at 1 MiB in a state, and slot B. -/
def dirOf (st : Nat) : Dir := { a := { base := 0x100000, size := 0x100000, seq := 2, state := st }, b := { base := 0x200000, size := 0x100000, seq := 1, state := 3 } }
def flashed (st : Nat) (s : State := {}) : State := s.putDir 0 (dirOf st)
def dirNow (s : State) (cs : Nat := 0) : Dir := (s.dir cs).getD {}
def provisioned (s : State := {}) : State := put [(CP_LC_state, 1, 0)] { s with boot := { s.boot with fuse := { prov := 8, keys := [(3, [3])] } } }
def secImg (l : List (Nat × Int)) (act : List (Nat × Int) := []) : List Section :=
  [sect SECURITY_tamper_en [{ kind := 0, fields := l.map (fun p => (SECURITY_tamper_en.fid, p.1, p.2)) ++ act.map (fun p => (SECURITY_tamper_act.fid, p.1, p.2)) }]]
def withPwr (p : PwrBlock) (s : State := {}) : State := { s with pwr := p }
def bgd (b : BgCmd) (s : State := {}) : State := put [(CP_BOOT_ST_state, 4, 0)] { s with host := { s.host with bg := [b] } }
def page : List Byte := List.replicate 256 7

/-- A DEPLOYED device in a session with TAMPER_N input 1 active, and a device that has issued a nonce on channel 10. -/
def sTamper : State :=
  put [(CP_LC_state, 1, 0), (BM_HOST_WORLD_pcie_sec, 1, 0), (MBX_CTL_go, 1, 8), (LN_STATE_state, 5, 143)]
    { img := secImg [(1, 1)] [(1, 2)], mem := [(0x3480000, 1), (0x34C0000, 1)], host := { taken := [(10, [0]), (0, [0])] } }
def nonced : State := { keyed with host := { nonces := [(10, 0, List.replicate 32 9)] }, rcd := { nextSeq := 2 ^ 40, mb3 := [recNo 5], copies := [(1, recNo 4)] } }

/-- The last word of MB7, which CP owns, and of MB5. -/
def q7 : BusReq := { src := .master 1 true, addr := 0x3FFFFFC, write := true, data := [some 1, none, some 3, some 4] }
def q7r : BusReq := { src := .master 1 true, addr := 0x3FFFE00, len := 512 }
def bank7 (l : List (Fld × Nat × Nat)) : State := put ((MB_ST_owner, 1, 7) :: (MB_ST_power, 0, 7) :: (MB_ST_share, 0, 7) :: l)
def qn : BusReq := { src := .master 2 false, addr := 0x34BFFFC }
def qx : BusReq := { src := .master 1 true, addr := 0x60000000 }
def qLo : BusReq := { src := .master 6 true, addr := 0x3FFFFFC }
def qHi : BusReq := { src := .master 7 true, addr := 0x3FFFE00, waited := 511 }
def qPc : BusReq := { src := .pcie, addr := 0x10400000, waited := 511 }
def qCp : BusReq := { src := .master 1 true, addr := 0x3800000 }

/-- A locked sequence of master 3 on MB7. -/
def locked7 (b : Bool := false) : State := { bus := { locks := [(3, { target := 7, broken := b })] } }
def sem (n m : Nat) : State := put [(BM_SEM_lock, 1, n), (BM_SEM_holder, m, n)]

/-- The link up with MSI-X off, and three sources pending: one with its vector masked, one in its spacing, one plain. -/
def sUp : State := put [(MBX_LINK_up, 1, 0)]
def sPend : State := { sUp with irq := { en := [(15, 2 ^ 31), (14, 1), (3, 2 ^ 8)], stk := [(15, 2 ^ 31), (14, 1), (3, 2 ^ 8)] } }
def sPendMasked : State := sPend.setReg (0x2F000 + 16 * sPend.vectorOf 511 + 12) 1
def sPendSpace : State := { sPend with irq := { sPend.irq with space := [sPend.vectorOf 448] } }
def posted (n : Nat) (l : List (Fld × Nat × Nat)) : State := put ((CP_BOOT_ST_state, 4, 0) :: (MBX_CTL_go, 1, n) :: (MBX_MSG_data 0, 0x00020000, n) :: l)
def q6 : BusReq := { q7 with src := .master 2 false, addr := 0x107FFFFC }

/-- A read of BM_CONF.conf of master 7 by CP, beside an access of master 7 to the same range. -/
def qConf : BusReq := { src := .master 1 true, addr := 0x10000000 + at_ BM_CONF_conf 6, len := 4 }
def rConf : BusReq := { src := .master 7 true, addr := 0x10000000 }

/-- The 64 bytes of context 262143 in MB2. -/
def sMb2 : State := { put [(MB_ST_owner, 1, 2), (MB_ST_power, 0, 2)] with img := [sect MAPPING_ctx [ent [(MAPPING_ctx, 262143), (MAPPING_kind, 4), (MAPPING_dir, 0)]]] }
def q2r : BusReq := { src := .master 1 true, addr := (bankPlace 2).1 + 0xFFFFC0, len := 64 }
def qn5 : BusReq := { qn with src := .master 5 false }
def off1 : Offer := ⟨5, 0x0C05, 1, false, [1]⟩
def off2 : Offer := ⟨5, 0x0105, 7, false, [2]⟩
def rcds (r : Recorder) (l : List (Fld × Nat × Nat) := []) : State := put l { rcd := r }
def ringed (r : Recorder) : State := rcds { r with epochOk := true } [(DC_ST_state, 2, 0), (DC_ST_cap_gib, 8, 0)]
def full (n : Nat) (sev : Nat := 3) : List Rec := List.replicate n (recNo 5 sev)
def flashRec (r : Recorder) : State := rcds { r with epochOk := true } [(MATE_ST_rank, 1, 0)]
def cur (n st : Nat) (l : List (Fld × Nat × Nat) := []) : State :=
  rcds { mb3 := [recNo (2 ^ 32 - 1), recNo (2 ^ 32), recNo (2 ^ 32 + 5)] }
    ((EVR_FILT_sev_max, 7, 0) :: (EVR_FILT_grp, 65535, 0) :: (EVR_CUR_LO_seq_lo, n % 2 ^ 32, 0) :: (EVR_CUR_HI_seq_hi, n / 2 ^ 32, 0) :: (EVR_CUR_ST_state, st, 0) :: l)

/-- DDR5 with all channels fitted, in a state. -/
def ddr (st ch : Nat) (l : List (Fld × Nat × Nat)) (s : State := {}) : State :=
  put ([(DC_ST_state, st, 0), (DC_ST_chan, 3, 0), (DC_ST_cap_gib, 8, 0)] ++ ((List.range 8).map fun c => (DC_CH_ST_state, ch, c)) ++ l)
    { s with mem := [(0x100000, 1), (0x8000000000, 2)], fr := { pm := [(5, { hist := [{ day := false, start := 900 }] })] } }
def sysState : State := put [(CP_BOOT_ST_state, 4, 0), (MBX_CTL_go, 1, 8), (MBX_CTL_go, 1, 6), (LN_STATE_state, 6, 143), (PWR_DOM_state, 2, 23), (PWR_RST_sys, 255, 0), (BM_HOST_WORLD_pcie_sec, 1, 0), (BM_SEM_lock, 1, 63), (BM_SEM_holder, 1, 63), (CP_TAMPER_bat, 1, 0), (RTC_SEC_LO_sec_lo, 7, 0), (EVR_FAULT_0_word, 0x52454346, 0)]
  { img := [sect DEVICE_rst_scope [ent [(DEVICE_rst_scope, 0)]]], mem := [(0x100000, 1), (0x8000000000, 2)], flash := [(5, 6)],
    boot := { tampered := true, batEpoch := 4, fuse := { prov := 8, keys := [(0, [1])] } }, rcd := { mb3 := [recNo 5], copies := [(1, recNo 4)], epochOk := true },
    irq := { en := [(3, 7)] }, host := { taken := [(10, [0])] }, bus := { locks := [(8, {})] } }
def ctlScope : State := { sysState with img := [sect DEVICE_rst_scope [ent [(DEVICE_rst_scope, 1)]]] }

/-- The records accepted where a CLEAR_EVT on channel 10 takes its nonce. -/
def clrA (s : State) : State := ({ s.newCycle with host := { s.host with nonces := s.host.nonces.filter fun p => p.1 != 10 } } : State).acceptAll

/-! ### Lemmas about the witnesses -/

/-- A record of a higher severity than every stored one finds none to give up. -/
theorem dropLowest_full {sev k : Nat} (n : Nat) (h : k < sev) : dropLowest sev (full n k) = none := by
  induction n with
  | zero => rfl
  | succ n ih =>
    rw [full, List.replicate_succ, dropLowest, if_neg (show ¬ sev ≤ (recNo 5 k).sev from Nat.not_le.2 h)]
    exact congrArg (Option.map _) ih

/-- The end mark of a frame in the middle is the frame's own. -/
theorem taken_heldM (k : Nat) (b g : Bool) : (heldM k b g).taken false = true := by
  show (!false && (heldF k b g).endMark == (heldF k b g).endMark) = true
  rw [beq_self_eq_true]; rfl

/-- A bound on the copies' offsets where copy B alone has one. -/
theorem offsets_at_most {A : Bool → Prop} {f : Bool → Option Int} {x d k : Int} (hf : f false = none) (ht : f true = some x)
    (hp : x + d ≤ k) : ∀ (c : Bool) (o : Int), A c → f c = some o → o + d ≤ k := by
  intro c o _ h
  cases c
  · cases hf.symm.trans h
  · cases ht.symm.trans h; exact hp

/-- Bytes 0 leave a CRC-32C register of 0 as it is. -/
theorem crcFeed_zeros (n : Nat) : crcFeed 0 0 (leBytes n 0) = 0 := by
  induction n with
  | zero => rfl
  | succ n ih =>
    have h : crcByte 0 0 (BitVec.ofNat 8 0) = 0 := by decide
    show crcFeed 0 (crcByte 0 0 (BitVec.ofNat 8 0)) (leBytes n 0) = 0
    rw [h]; exact ih

/-- The payload of the frame has the check value that its tag block gives. -/
theorem evgIn_payload : crc32c (bytesAt evgIn 64 4096) = beNat (bytesAt evgIn 56 4) := by
  have h : bytesAt evgIn 64 4096 = [0xFF, 0xFF, 0xFF, 0xFF] ++ leBytes 4092 0 := by
    have e : evgIn / 2 ^ (8 * 64) = 0xFFFFFFFF := by decide +kernel
    rw [bytesAt, e]; rfl
  have k : crcFeed 0 (crcInit 0) [0xFF, 0xFF, 0xFF, 0xFF] = 0 := by decide +kernel
  rw [crc32c, crcOf, h, crcFeed, List.foldl_append]
  rw [crcFeed] at k
  rw [k]
  have z := crcFeed_zeros 4092
  rw [crcFeed] at z
  rw [z]; decide +kernel

/-- Where the copy is up, in frame and on its trib, a merge accepts the frame. -/
theorem accepts_evgIn {s : State} {b : Bool} (h1 : s.copyDown mergeE b = false)
    (h2 : ((s.evgMerge 4095).copy b).inFrame = true) (h3 : ((s.evgMerge 4095).copy b).wrong = false)
    (h4 : 0 < s.gl EVERGREEN_al_m) : Accepts s mergeE 4095 b evgIn :=
  ⟨h1, h2, h3, h4, by decide +kernel, by decide +kernel, evgIn_payload, by decide +kernel⟩

/-! ### Tokens -/

/-- ML-DSA-87 accepts, by the key of slot 3, the token that a command carries as bulk. Config.tokenVerify is opaque, so that
a witness can only assume it. -/
def TokenVerifies (s : State) (m : List Nat) (x : BulkIn) : Prop :=
  Config.tokenVerify [3] (sha512 (((s.bulkBytes m x).take tokenBytes).take 64)) (ascii "TOKEN")
    ((((s.bulkBytes m x).take tokenBytes).drop 64).take 4627) = true

/-- A token whose plain fields match and that verifies authorises its command. -/
theorem tokenGiven_of {s : State} {m : List Nat} {x : BulkIn} {op arg : Nat} {nonce : List Byte}
    (h0 : s.bulkFault m x.ok tokenBytes = none)
    (h1 : (let t := (s.bulkBytes m x).take tokenBytes
      leNat ((t.drop 0).take 4) == 0x4E4B4F54 && leNat ((t.drop 4).take 2) == op &&
      leNat ((t.drop 8).take 8) == s.get64 CP_SERIAL_LO_serial_lo CP_SERIAL_HI_serial_hi && leNat ((t.drop 16).take 4) == arg &&
      (t.drop 24).take 32 == nonce) = true)
    (h2 : s.keyHash (tokenSlot ((s.bulkBytes m x).take tokenBytes)) = some [3]) (h : TokenVerifies s m x) :
    TokenGiven s m x op arg nonce := by
  refine ⟨h0, ?_⟩
  rw [State.tokenOk]
  simp only [h2]
  rw [show Config.tokenVerify [3] _ _ _ = true from h, Bool.and_true]
  exact h1

/-! ### The hypotheses of each statement hold together somewhere, clause by clause -/

theorem witness_PendingBitSendsMessage :
    (bit (sIrq.stk (511 / 32)) (511 % 32) = false ∧ bit (sIrq.irqEn (511 / 32)) (511 % 32) = true ∧ sIrq.msixReady =
      true ∧ sIrq.msixMasked (sIrq.vectorOf 511) = false ∧ sIrq.irq.space.contains (sIrq.vectorOf 511) = false) ∧
    (sIrqMasked.msixReady = true ∧ sIrqMasked.msixMasked (sIrqMasked.vectorOf 511) = true) ∧
    (sIrqSpace.msixMasked (sIrqSpace.vectorOf 511) = false ∧ sIrqSpace.irq.space.contains (sIrqSpace.vectorOf 511) =
      true) ∧ State.reset.msixReady = false := by decide +kernel

theorem witness_RegisterWriteByAccessCode :
    (∃ s : State, s = put [(LN_STICKY_los, 1, 143)] ∧
     524288 + 256 * 143 + 8 = s.barKey ((524288 + 256 * 143 + 8) / 4 * 4) ∧
     regAt (524288 + 256 * 143 + 8) = some ((regOf (524288 + 256 * 143 + 8)).fst, 143) ∧
     plainKey (524288 + 256 * 143 + 8) = true ∧
     (s.secureKey (524288 + 256 * 143 + 8) = true → s.secureSrc Src.pcie (524288 + 256 * 143 + 8) = true)) ∧
    (69632 = State.reset.barKey (69632 / 4 * 4) ∧ regAt 69632 = some ((regOf 69632).fst, 0) ∧ plainKey 69632 = true ∧
     (State.reset.secureKey 69632 = true → State.reset.secureSrc Src.pcie 69632 = true)) ∧
    (NoBusUnit State.reset) := by
  refine ⟨?_, ?_, ?_⟩
  · exact ⟨_, rfl, by decide +kernel⟩
  · decide +kernel
  · unfold NoBusUnit
    decide +kernel

theorem witness_RefusedAndPoisonedWrites :
    (53628 = State.reset.barKey (53628 / 4 * 4) ∧ State.reset.secureKey 53628 = true ∧
     State.reset.secureSrc Src.pcie 53628 = false) ∧
    (53628 = State.reset.barKey (53628 / 4 * 4) ∧ State.reset.secureKey 53628 = true ∧
     State.reset.secureSrc Src.pcie 53628 = false) := by
  refine ⟨?_, ?_⟩
  · decide +kernel
  · decide +kernel

theorem witness_ReadsClearOnlyWholeFields :
    (State.reset.cyclePlace (Instr.refclkLoss 7) = 2 ∧
     State.reset.cyclePlace (Instr.registerReadClear Src.pcie 16460 15) < 2) ∧
    (State.reset.cyclePlace (Instr.refclkLoss 7) = 2 ∧
     2 < State.reset.cyclePlace (Instr.registerWrite Src.pcie 197636 15 1 false)) ∧
    (regAt (State.reset.barKey (197636 / 4 * 4)) = some ((regOf 197636).fst, 0) ∧
     chanOf (State.reset.barKey (197636 / 4 * 4)) = none) ∧
    (∃ s : State, s = put [(FAB_ERR_stale, 9, 0)] ∧ 16460 = s.barKey (16460 / 4 * 4) ∧
     regAt 16460 = some ((regOf 16460).fst, 0) ∧ (s.secureKey 16460 = true → s.secureSrc Src.pcie 16460 = true) ∧
     latchedAt s 16460 = none ∧ latchedBy 16460 = [] ∧ cvuAt 16460 = none) ∧
    (∃ s : State, s = put [(FAB_ERR_stale, 9, 0)] ∧ 16460 = s.barKey (16460 / 4 * 4) ∧
     regAt 16460 = some ((regOf 16460).fst, 0) ∧ (s.secureKey 16460 = true → s.secureSrc Src.pcie 16460 = true) ∧
     latchedAt s 16460 = none ∧ latchedBy 16460 = [] ∧ cvuAt 16460 = none) := by
  refine ⟨?_, ?_, ?_, ?_, ?_⟩
  · decide +kernel
  · decide +kernel
  · decide +kernel
  · exact ⟨_, rfl, by decide +kernel⟩
  · exact ⟨_, rfl, by decide +kernel⟩

theorem witness_SixtyFourBitPairs :
    (524288 + 256 * 143 + 16 = State.reset.barKey ((524288 + 256 * 143 + 16) / 4 * 4) ∧
     regAt (524288 + 256 * 143 + 16) = some ((regOf (524288 + 256 * 143 + 16)).fst, 143) ∧
     latchedBy (524288 + 256 * 143 + 16) ≠ [] ∧
     (State.reset.secureKey (524288 + 256 * 143 + 16) = true → State.reset.secureSrc Src.pcie (524288 + 256 * 143 + 16)
       = true) ∧ latchedAt State.reset (524288 + 256 * 143 + 16) = none) ∧
    (∃ s : State, s = put [(LN_FEC_CORR_HI_corr_hi, 3, 143), (LN_FEC_CORR_LO_corr_lo, 3, 143)] ∧
     524288 + 256 * 143 + 24 = s.barKey ((524288 + 256 * 143 + 24) / 4 * 4) ∧
     regAt (524288 + 256 * 143 + 24) = some ((regOf (524288 + 256 * 143 + 24)).fst, 143) ∧
     latchedBy (524288 + 256 * 143 + 24) ≠ [] ∧
     (s.secureKey (524288 + 256 * 143 + 24) = true → s.secureSrc Src.pcie (524288 + 256 * 143 + 24) = true) ∧
     latchedAt s (524288 + 256 * 143 + 24) = none) ∧
    (524288 + 256 * 143 + 20 = sLatched.barKey ((524288 + 256 * 143 + 20) / 4 * 4) ∧
     regAt (524288 + 256 * 143 + 20) = some ((regOf (524288 + 256 * 143 + 20)).fst, 143) ∧
     latchedAt sLatched (524288 + 256 * 143 + 20) = some 4294967295 ∧
     (sLatched.secureKey (524288 + 256 * 143 + 20) = true → sLatched.secureSrc Src.pcie (524288 + 256 * 143 + 20) =
       true) ∧ latchedBy (0x80000 + 0x100 * 143 + 0x14) = []) ∧
    (latchedAt State.reset (at_ LN_TS_SEC_sec 143) = none) ∧
    (latchedAt State.reset (at_ TMC_SEC_LO_sec_lo) = none) ∧
    (latchedAt State.reset (at_ RTC_SEC_LO_sec_lo) = none) ∧
    (∃ s : State, s = put [(CVU_CTL_enable, 1, 63)] ∧
     (s.cvuOwner 63 = 2 → s.secureSrc Src.pcie (at_ CVU_VAL_LO_val_lo 63) = true) ∧
     (s.on CVU_CTL_enable 63 = true → s.cvuRefused 63 = false)) ∧
    (∃ s : State, s = put [(CVU_CTL_enable, 1, 63)] ∧
     (s.cvuOwner 63 = 2 → s.secureSrc Src.pcie (at_ CVU_VAL_LO_val_lo 63) = true) ∧
     (s.on CVU_CTL_enable 63 = true → s.cvuRefused 63 = false)) := by
  refine ⟨?_, ?_, ?_, ?_, ?_, ?_, ?_, ?_⟩
  · decide +kernel
  · exact ⟨_, rfl, by decide +kernel⟩
  · decide +kernel
  · decide +kernel
  · decide +kernel
  · decide +kernel
  · exact ⟨_, rfl, by decide +kernel⟩
  · exact ⟨_, rfl, by decide +kernel⟩

theorem witness_SecureFieldAccesses :
    (53628 = State.reset.barKey (53628 / 4 * 4) ∧ regAt 53628 = some ((regOf 53628).fst, 7) ∧
     (∃ f, f ∈ (regOf 53628).fst.fields ∧ f.snd.snd = Acc.srw) ∧ State.reset.secureSrc Src.pcie 53628 = false) ∧
    (53628 = State.reset.barKey (53628 / 4 * 4) ∧ regAt 53628 = some ((regOf 53628).fst, 7) ∧
     (∃ f, f ∈ (regOf 53628).fst.fields ∧ f.snd.snd = Acc.srw) ∧ State.reset.secureSrc Src.pcie 53628 = false) := by
  refine ⟨?_, ?_⟩
  · decide +kernel
  · decide +kernel

theorem witness_CheckValueUnits :
    (sNative.get CVU_CTL_win 63 ≠ 0 ∧
     (sNative.get CVU_CTL_win 63 = 3 → 0 < sNative.get CVU_LEN_len 63 ∧ sNative.get CVU_LEN_len 63 ≤ sNative.get
       CVU_CNT_cnt 63) ∧
     (sNative.on CVU_CTL_mode 63 = false ∧ sNative.cvuVal 63 ^^^ crcFinal (sNative.get CVU_CTL_poly 63) ≠ sNative.get64
       CVU_EXP_LO_exp_lo CVU_EXP_HI_exp_hi 63)) ∧
    (sReadMode.get CVU_CTL_win 63 ≠ 0 ∧
     (sReadMode.get CVU_CTL_win 63 = 3 → 0 < sReadMode.get CVU_LEN_len 63 ∧ sReadMode.get CVU_LEN_len 63 ≤ sReadMode.get
       CVU_CNT_cnt 63) ∧ sReadMode.on CVU_CTL_mode 63 = true) ∧
    (sNative.on CVU_CTL_enable 63 = true ∧ sNative.cvuOwner 63 ≠ 2 ∧ sNative.get CVU_CTL_src 63 ≠ 5 ∧
     (sNative.get CVU_CTL_win 63 = 3 → sNative.get CVU_LEN_len 63 = 0)) ∧
    ((sReadMode.cvuOwner 63 = 2 → sReadMode.secureSrc Src.pcie (at_ CVU_RES_HI_res_hi 63) = true)) := by
  refine ⟨?_, ?_, ?_, ?_⟩
  · decide +kernel
  · decide +kernel
  · decide +kernel
  · decide +kernel

theorem witness_SecurityVersionOnlyAdvances :
    exec (Instr.refclkLoss 7) State.reset = Host.Outcome.next (next (Instr.refclkLoss 7) State.reset) ∧
    State.reset.boot.fuse.svn ≤ 64 ∧ State.reset.get CP_IMG_SVN_img_svn ≤ 64 := by and_intros <;> first | rfl | decide +kernel

theorem witness_MailboxAborts :
    (∃ s : State, s = put [(BM_HOST_WORLD_pcie_sec, 1, 0)] sPosted ∧ 10 % 2 = 0 ∧
     (8 ≤ 10 → s.secureSrc Src.pcie (65600 + 256 * 10) = true ∧ s.tamperHeld = false) ∧ s.on MBX_CTL_go 10 = true) ∧
    (∃ s : State, s = put [(BM_HOST_WORLD_pcie_sec, 1, 0)] ∧ 10 % 2 = 0 ∧
     (8 ≤ 10 → s.secureSrc Src.pcie (65600 + 256 * 10) = true ∧ s.tamperHeld = false) ∧ s.on MBX_CTL_go 10 = false) := by
  refine ⟨?_, ?_⟩
  · exact ⟨_, rfl, by decide +kernel⟩
  · exact ⟨_, rfl, by decide +kernel⟩

theorem witness_LaneAcquires :
    ((sLane 2).get LN_STATE_state 143 = 2 ∧ ((sLane 2).laneSt 143).losOn = false) ∧
    ((sLane 3).get LN_STATE_state 143 = 3) ∧
    ((sLane 4).get LN_STATE_state 143 = 4) ∧
    (((sAcq 3).get LN_STATE_state 143 = 2 ∨ (sAcq 3).get LN_STATE_state 143 = 3) ∧ ((sAcq 3).laneSt 143).acq = true) ∧
    (((sAcq 5).get LN_STATE_state 143 = 4 ∨ (sAcq 5).get LN_STATE_state 143 = 5) ∧ ((sAcq 5).laneSt 143).acq = true) ∧
    (((sAcq 4).get LN_STATE_state 143 = 4 ∨ (sAcq 4).get LN_STATE_state 143 = 5) ∧ ((sAcq 4).laneSt 143).acq = true) := by
  refine ⟨?_, ?_, ?_, ?_, ?_, ?_⟩
  · decide +kernel
  · decide +kernel
  · decide +kernel
  · decide +kernel
  · decide +kernel
  · decide +kernel

theorem witness_BondComesUp :
    (laneOn (sBond 5).img 127 = true ∧
     (∀ (m : Nat), m ∈ bondOf (sBond 5).img 127 → (sBond 5).get LN_STATE_state m = 5) ∧
     (((sBond 5).lane (leadOf (sBond 5).img 127)).n LANES_format = 1 → 0 = ((sBond 5).frGroup (leadOf (sBond 5).img
       127)).n FRAMING_flexo_gid ∧ ∀ (i : Nat), i < (bondOf (sBond 5).img 127).length → (List.map DeskewIn.iid [{ skew := 0, iid := 0 }]).getD
       i 0 = ((sBond 5).frGroup (leadOf (sBond 5).img 127)).n FRAMING_flexo_iid i) ∧
     (∀ (p : DeskewIn), p ∈ [{ skew := 0, iid := 0 }] → p.skew.natAbs ≤ ((sBond 5).lane (leadOf (sBond 5).img 127)).n
       LANES_skew_max * 40)) ∧
    (laneOn sFlexo.img 5 = true ∧ (∀ (m : Nat), m ∈ bondOf sFlexo.img 5 → sFlexo.get LN_STATE_state m = 5) ∧
     ((sFlexo.lane (leadOf sFlexo.img 5)).n LANES_format = 1 → 9 = (sFlexo.frGroup (leadOf sFlexo.img 5)).n
       FRAMING_flexo_gid ∧ ∀ (i : Nat), i < (bondOf sFlexo.img 5).length → (List.map DeskewIn.iid [{ skew := 0, iid := 7, later := 3 },
       { skew := 1, iid := 8 }]).getD i 0 = (sFlexo.frGroup (leadOf sFlexo.img 5)).n FRAMING_flexo_iid i) ∧
     (∀ (p : DeskewIn), p ∈ [{ skew := 0, iid := 7, later := 3 }, { skew := 1, iid := 8 }] → p.skew.natAbs ≤
       (sFlexo.lane (leadOf sFlexo.img 5)).n LANES_skew_max * 40) ∧
     (sFlexo.lane (leadOf sFlexo.img 5)).n LANES_format = 1 ∧
     ((bondOf sFlexo.img 5)[0]? = some 4 ∧ (sFlexo.laneSt 4).acq = true)) := by
  refine ⟨?_, ?_⟩
  · decide +kernel
  · decide +kernel

theorem witness_LaneFaultLeavesUp :
    ((sBond 6).get LN_STATE_state 127 = 6 ∧ 127 ∈ bondOf (sBond 6).img 127) ∧
    ((sBond 6).get LN_STATE_state 127 = 6 ∧ 127 ∈ bondOf (sBond 6).img 127) ∧
    ((sBond 6).get LN_STATE_state 127 = 6 ∧ 127 ∈ bondOf (sBond 6).img 127) ∧
    ((sBond 6).get LN_STATE_state 127 = 6 ∧ 127 ∈ bondOf (sBond 6).img 127) := by
  refine ⟨?_, ?_, ?_, ?_⟩
  · decide +kernel
  · decide +kernel
  · decide +kernel
  · decide +kernel

theorem witness_LaneEvents :
    ((({ ln := { lanes := [(143, { losOn := true })] } : State }).laneSt 143).losOn = true) ∧
    (2 ≤ (sLane 2).get LN_STATE_state 143) ∧
    (∃ s : State, s = put [(LN_STATE_align, 1, 127)] (sBond 6) ∧ s.on LN_STATE_align 127 = true ∧
     (s.lane 127).n LANES_format ≠ 5) ∧
    (tget (fun _ => 0) ({ img := laneImg } : State).ln.modEdges 31 < 1000) ∧
    (1000 ≤ tget (fun _ => 0) ({ img := laneImg, ln := { modEdges := [(31, 1000)] } } : State).ln.modEdges 31) := by
  refine ⟨?_, ?_, ?_, ?_, ?_⟩
  · decide +kernel
  · decide +kernel
  · exact ⟨_, rfl, by decide +kernel⟩
  · decide +kernel
  · decide +kernel

theorem witness_LaneClocks :
    7 ∈ sBondLost.ln.refLost := by decide +kernel

theorem witness_AlignmentSearch :
    ((sHost 5).mapE 262143 = some (ent [(MAPPING_ctx, 262143), (MAPPING_kind, 7), (MAPPING_dir, 0)]) ∧
     ownAlign ((ent [(MAPPING_ctx, 262143), (MAPPING_kind, 7), (MAPPING_dir, 0)]).n MAPPING_kind) = true ∧
     (ent [(MAPPING_ctx, 262143), (MAPPING_kind, 7), (MAPPING_dir, 0)]).n MAPPING_dir = 0 ∧
     ((sHost 5).alignSt 262143).held = false ∧ (sHost 5).on FRM_ALIGN_state 262143 = false ∧
     ((sHost 5).window 262143 (ent [(MAPPING_ctx, 262143), (MAPPING_kind, 7), (MAPPING_dir, 0)]) []).fst = none) ∧
    ((sHost 64056).mapE 262143 = some (ent [(MAPPING_ctx, 262143), (MAPPING_kind, 7), (MAPPING_dir, 0)]) ∧
     ownAlign ((ent [(MAPPING_ctx, 262143), (MAPPING_kind, 7), (MAPPING_dir, 0)]).n MAPPING_kind) = true ∧
     (ent [(MAPPING_ctx, 262143), (MAPPING_kind, 7), (MAPPING_dir, 0)]).n MAPPING_dir = 0 ∧
     ((sHost 64056).alignSt 262143).held = false ∧ (sHost 64056).on FRM_ALIGN_state 262143 = false ∧
     ((sHost 64056).window 262143 (ent [(MAPPING_ctx, 262143), (MAPPING_kind, 7), (MAPPING_dir, 0)]) []).fst = some []) ∧
    ((sSearch []).mapE 262143 = some (ent [(MAPPING_ctx, 262143), (MAPPING_kind, 2), (MAPPING_dir, 0)]) ∧
     ownAlign ((ent [(MAPPING_ctx, 262143), (MAPPING_kind, 2), (MAPPING_dir, 0)]).n MAPPING_kind) = true ∧
     (ent [(MAPPING_ctx, 262143), (MAPPING_kind, 2), (MAPPING_dir, 0)]).n MAPPING_dir = 0 ∧
     ((sSearch []).alignSt 262143).held = false ∧ (sSearch []).on FRM_ALIGN_state 262143 = false ∧
     ((sSearch []).window 262143 (ent [(MAPPING_ctx, 262143), (MAPPING_kind, 2), (MAPPING_dir, 0)]) [5, 5]).fst = some
       [5]) ∧
    ((sSearch []).mapE 262143 = some (ent [(MAPPING_ctx, 262143), (MAPPING_kind, 2), (MAPPING_dir, 0)]) ∧
     ownAlign ((ent [(MAPPING_ctx, 262143), (MAPPING_kind, 2), (MAPPING_dir, 0)]).n MAPPING_kind) = true ∧
     (ent [(MAPPING_ctx, 262143), (MAPPING_kind, 2), (MAPPING_dir, 0)]).n MAPPING_dir = 0 ∧
     ((sSearch []).alignSt 262143).held = false ∧ (sSearch []).on FRM_ALIGN_state 262143 = false ∧
     ((sSearch []).window 262143 (ent [(MAPPING_ctx, 262143), (MAPPING_kind, 2), (MAPPING_dir, 0)]) []).fst = some [] ∧
     hitsOf (sSearch []) 262143 [] = []) ∧
    (∃ s : State, s = sSearch [(5, 1)] ∧
     s.mapE 262143 = some (ent [(MAPPING_ctx, 262143), (MAPPING_kind, 2), (MAPPING_dir, 0)]) ∧
     ownAlign ((ent [(MAPPING_ctx, 262143), (MAPPING_kind, 2), (MAPPING_dir, 0)]).n MAPPING_kind) = true ∧
     (ent [(MAPPING_ctx, 262143), (MAPPING_kind, 2), (MAPPING_dir, 0)]).n MAPPING_dir = 0 ∧
     (s.alignSt 262143).held = false ∧ s.on FRM_ALIGN_state 262143 = false ∧
     (s.window 262143 (ent [(MAPPING_ctx, 262143), (MAPPING_kind, 2), (MAPPING_dir, 0)]) [5]).fst = some [5] ∧
     hitsOf s 262143 [5] = [(5, 2)]) ∧
    (∃ s : State, s = sSearch [(5, 1), (7, 1)] ∧
     s.mapE 262143 = some (ent [(MAPPING_ctx, 262143), (MAPPING_kind, 2), (MAPPING_dir, 0)]) ∧
     ownAlign ((ent [(MAPPING_ctx, 262143), (MAPPING_kind, 2), (MAPPING_dir, 0)]).n MAPPING_kind) = true ∧
     (ent [(MAPPING_ctx, 262143), (MAPPING_kind, 2), (MAPPING_dir, 0)]).n MAPPING_dir = 0 ∧
     (s.alignSt 262143).held = false ∧ s.on FRM_ALIGN_state 262143 = false ∧
     (s.window 262143 (ent [(MAPPING_ctx, 262143), (MAPPING_kind, 2), (MAPPING_dir, 0)]) [5, 7]).fst = some [5, 7] ∧
     2 ≤ (hitsOf s 262143 [5, 7]).length) := by
  refine ⟨?_, ?_, ?_, ?_, ?_, ?_⟩
  · decide +kernel
  · decide +kernel
  · decide +kernel
  · decide +kernel
  · exact ⟨_, rfl, by decide +kernel⟩
  · exact ⟨_, rfl, by decide +kernel⟩

theorem witness_FramesCount :
    ∃ s : State, s = sPath [(FRM_ALIGN_state, 1, 262143), (FRM_EB_CUR_eb, 2 ^ 32 - 1, 262143)] ∧
    s.mapE 262143 = some (ent [(MAPPING_ctx, 262143), (MAPPING_kind, 2), (MAPPING_dir, 0)]) ∧
    (ent [(MAPPING_ctx, 262143), (MAPPING_kind, 2), (MAPPING_dir, 0)]).n MAPPING_dir = 0 ∧
    s.aligned 262143 ((ent [(MAPPING_ctx, 262143), (MAPPING_kind, 2), (MAPPING_dir, 0)]).n MAPPING_kind) (ent
      [(MAPPING_ctx, 262143), (MAPPING_kind, 2), (MAPPING_dir, 0)]) = true ∧
    s.path 262143 = some (ent [(FRAMING_ctx, 262143), (FRAMING_layer, 2), (FRAMING_pm, 1)]) ∧
    (ent [(FRAMING_ctx, 262143), (FRAMING_layer, 2), (FRAMING_pm, 1)]).n FRAMING_pm ≠ 0 := ⟨_, rfl, by decide +kernel⟩

theorem witness_TimedDefects :
    (∃ s : State, s = sPath [(FRM_DEF_oof, 1, 262143)] ∧ ownAlign (s.layerOf 262143) = true ∧
     s.on FRM_DEF_oof 262143 = true ∧ s.on FRM_DEF_ssf 262143 = false) ∧
    (∃ s : State, s = sPath [(FRM_ALIGN_state, 1, 262143)] ∧ ownAlign (s.layerOf 262143) = true ∧
     s.on FRM_ALIGN_state 262143 = true) ∧
    (∃ s : State, s = sPath [(FRM_ALIGN_state, 1, 262143)] ∧ bit (defectLayers 3) (s.layerOf 262143) = true ∧
     s.on FRM_ALIGN_state 262143 = true ∧ s.on FRM_ALIGN_im 262143 = false ∧ s.on FRM_DEF_ssf 262143 = false ∧
     s.on FRM_DEF_oof 262143 = false ∧ s.on FRM_DEF_lof 262143 = false) ∧
    (∃ s : State, s = sPath [(FRM_ALIGN_im, 1, 262143)] ∧ bit (defectLayers 3) (s.layerOf 262143) = true ∧
     s.on FRM_ALIGN_im 262143 = true) := by
  refine ⟨?_, ?_, ?_, ?_⟩
  · exact ⟨_, rfl, by decide +kernel⟩
  · exact ⟨_, rfl, by decide +kernel⟩
  · exact ⟨_, rfl, by decide +kernel⟩
  · exact ⟨_, rfl, by decide +kernel⟩

theorem witness_FlexeCalendarsAndEgress :
    (∃ s : State, s = { fr := { cal := [(262143, { crNew := some 1, caGot := true })] } : State } ∧
     (s.calSt 262143).caGot = true ∧ (s.calSt 262143).crNew = some 1) ∧
    (∃ s : State, s = put [(MAP_STATE_cr_pend, 1, 262143)] ∧ s.on MAP_STATE_cr_pend 262143 = true ∧
     (s.calSt 262143).caGot = false) ∧
    (sPathFail.mapE 262142 = some (ent [(MAPPING_ctx, 262142), (MAPPING_kind, 2), (MAPPING_dir, 1)]) ∧
     (ent [(MAPPING_ctx, 262142), (MAPPING_kind, 2), (MAPPING_dir, 1)]).n MAPPING_dir = 1) := by
  refine ⟨?_, ?_, ?_⟩
  · exact ⟨_, rfl, by decide +kernel⟩
  · exact ⟨_, rfl, by decide +kernel⟩
  · decide +kernel

theorem witness_GridPeriodAdvances :
    ((put [(LN_STATE_state, 6, 143), (LN_STATE_test, 1, 143), (TMC_SEC_LO_sec_lo, 5, 0)] sRunning).bootState = 4 ∧
     5 * (sRunning.sysTime : Int) + sRunning.tim.rem5 + 128 * (2 ^ 34 + 5 * sRunning.getI TMC_INC_inc_adj) < 5 * 2 ^ 48
       * (secUnits : Int)) ∧
    (State.reset.bootState ≠ 4) := by
  refine ⟨?_, ?_⟩
  · decide +kernel
  · decide +kernel

theorem witness_SlotBlocksPassThroughSlices :
    (19 ∈ ({ fab := { gp := 2 ^ 20 } : State }).writers 19) ∧
    (sRead.bridgeOff rd = false ∧ (sRead.sourceOf rd).snd ≤ sRead.fab.gp ∧
     sRead.stored (sRead.physOf (rd.n FABRIC_PAGE_rd_slice)) (pairOf (rd.n FABRIC_PAGE_rd_slice) (sRead.sourceOf
       rd).fst) (sRead.fab.gp - (sRead.sourceOf rd).snd) = some { body := 2 ^ 512 - 1, side := 1 }) ∧
    (sRead.bridgeOff rd = false ∧ (sRead.sourceOf rd).snd ≤ sRead.fab.gp ∧
     sRead.stored (sRead.physOf (rd.n FABRIC_PAGE_rd_slice)) (pairOf (rd.n FABRIC_PAGE_rd_slice) (sRead.sourceOf
       rd).fst) (sRead.fab.gp - (sRead.sourceOf rd).snd) = some { body := 2 ^ 512 - 1, side := 1 } ∧
     (¬rd.n FABRIC_PAGE_out ∈ ({ : GridIn }).chk) ∧ (¬rd.n FABRIC_PAGE_out ∈ ({ : GridIn }).uncorr) ∧
     sRead.get FAB_COPPICE_state ≠ 1 ∧ (∀ (p : Nat × Nat), p ∈ ({ : GridIn }).corr → p.fst ≠ rd.n FABRIC_PAGE_out)) ∧
    (sRead.bridgeOff rd = false ∧ (sRead.sourceOf rd).snd ≤ sRead.fab.gp ∧
     sRead.stored (sRead.physOf (rd.n FABRIC_PAGE_rd_slice)) (pairOf (rd.n FABRIC_PAGE_rd_slice) (sRead.sourceOf
       rd).fst) (sRead.fab.gp - (sRead.sourceOf rd).snd) = some { body := 2 ^ 512 - 1, side := 1 } ∧
     (rd.n FABRIC_PAGE_out ∈ ({ chk := [2559] : GridIn }).chk ∨ rd.n FABRIC_PAGE_out ∈ ({ chk := [2559] : GridIn }).uncorr)) ∧
    (sReadLate.bridgeOff rd = false ∧ (sReadLate.sourceOf rd).snd ≤ sReadLate.fab.gp ∧
     sReadLate.stored (sReadLate.physOf (rd.n FABRIC_PAGE_rd_slice)) (pairOf (rd.n FABRIC_PAGE_rd_slice)
       (sReadLate.sourceOf rd).fst) (sReadLate.fab.gp - (sReadLate.sourceOf rd).snd) = none) ∧
    (({ img := [sect PROTECTION_grp [ent [(PROTECTION_grp, 1023)], ent [(PROTECTION_br_out, 2559), (PROTECTION_br_grp, 1023)]]] : State }).bridgeOff
       (ent [(FABRIC_PAGE_out, 2559), (FABRIC_PAGE_qs_group, 1023)]) = true) := by
  refine ⟨?_, ?_, ?_, ?_, ?_, ?_⟩
  · decide +kernel
  · decide +kernel
  · decide +kernel
  · decide +kernel
  · decide +kernel
  · decide +kernel

theorem witness_BoundaryCounts :
    ((put [(FAB_GMF_LO_gmf_lo, 5, 0)] sRunning).bootState = 4) ∧
    (State.reset.bootState ≠ 4) := by
  refine ⟨?_, ?_⟩
  · decide +kernel
  · decide +kernel

theorem witness_MateLoss :
    (∃ s : State, s = put [(MATE_ST_mode, 1, 0), (MATE_ST_role, 2, 0), (MATE_ST_rank, 1, 0), (MATE_CNT_takeovers, 65535,
       0)] { mate := { lostDue := true, last := some { gen := 5, grps := [(1, { hold := 1 })] } } } ∧
     s.mate.lostDue = true ∧ s.get MATE_ST_mode = 1 ∧ s.get MATE_ST_role = 2 ∧
     (s.on MATE_ST_rank || s.mate.byGasp) = true) ∧
    (∃ s : State, s = put [(MATE_ST_mode, 1, 0), (MATE_ST_role, 2, 0)] { mate := { lostDue := true } } ∧
     s.mate.lostDue = true ∧
     (¬(s.get MATE_ST_mode = 1 ∧ s.get MATE_ST_role = 2 ∧ (s.on MATE_ST_rank || s.mate.byGasp) = true))) ∧
    (∃ s : State, s = put [(MATE_ST_mode, 2, 0), (MATE_ST_role, 1, 0)] { mate := { lostDue := true } } ∧
     s.mate.lostDue = true ∧
     (¬(s.get MATE_ST_mode = 1 ∧ s.get MATE_ST_role = 2 ∧ (s.on MATE_ST_rank || s.mate.byGasp) = true))) := by
  refine ⟨?_, ?_, ?_⟩
  · exact ⟨_, rfl, by decide +kernel⟩
  · exact ⟨_, rfl, by decide +kernel⟩
  · exact ⟨_, rfl, by decide +kernel⟩

theorem witness_MateBeatsAndFrames :
    ((sMate 1 2 0).get MATE_ST_mode ≠ 0) ∧
    ((sMate 1 2 0).get MATE_ST_mode ≠ 0) ∧
    ((sMate 0 0 0).get MATE_ST_mode = 0) ∧
    ((sMate 0 0 0).get MATE_ST_mode = 0) ∧
    ((sMate 0 0 0).get MATE_ST_mode = 0) ∧
    ((sMateLane 3).get LN_STATE_state (128 + 15) = 6 ∧ (sMateLane 3).get MATE_ST_mode ≠ 0 ∧
     ((sMateLane 3).mateLane 15).inFrame = true ∧ ({ beat := some { }, gen := some { } : MateFrameIn }).wordOk = true) ∧
    ((sMateLane 0).get LN_STATE_state (128 + 15) = 6 ∧ (sMateLane 0).get MATE_ST_mode ≠ 0 ∧
     ((sMateLane 0).mateLane 15).inFrame = true ∧ ({ : MateFrameIn }).wordOk = true) ∧
    ((sMateLane 3).get LN_STATE_state (128 + 15) = 6 ∧ (sMateLane 3).get MATE_ST_mode ≠ 0 ∧
     ((sMateLane 3).mateLane 15).inFrame = true ∧ ({ wordOk := false : MateFrameIn }).wordOk = false ∧
     ((sMateLane 3).mateLane 15).align.errs = 3) ∧
    (∃ s : State, s = sMate 1 2 0 { rx := some { gen := 65535, hist := some 5 } } ∧ s.get MATE_ST_mode = 1 ∧
     s.get MATE_ST_role = 2 ∧ s.mate.rx = some { gen := 65535, hist := some 5 }) ∧
    (∃ s : State, s = sMate 1 2 0 { rx := some { } } ∧ s.get MATE_ST_mode = 1 ∧ s.get MATE_ST_role = 2 ∧
     s.mate.rx = some { }) ∧
    (∃ s : State, s = sMate 1 2 0 { rx := some { gen := 65535 } } ∧ s.get MATE_ST_mode = 1 ∧ s.get MATE_ST_role = 2 ∧
     s.mate.rx = some { gen := 65535 }) := by
  refine ⟨?_, ?_, ?_, ?_, ?_, ?_, ?_, ?_, ?_, ?_, ?_⟩
  · decide +kernel
  · decide +kernel
  · decide +kernel
  · decide +kernel
  · decide +kernel
  · decide +kernel
  · decide +kernel
  · decide +kernel
  · exact ⟨_, rfl, by decide +kernel⟩
  · exact ⟨_, rfl, by decide +kernel⟩
  · exact ⟨_, rfl, by decide +kernel⟩

theorem witness_MateRoles :
    (∃ s : State, s = sMate 2 0 1 { beats := 8, seen := true, mMode := 2 } ∧ s.get MATE_ST_role = 0 ∧
     s.get MATE_ST_mode ≠ 0 ∧ 8 ≤ s.mate.beats ∧ s.mate.seen = true ∧ s.on MATE_ST_rank ≠ s.on MATE_ST_mate_rank ∧
     s.mate.mMode = s.get MATE_ST_mode) ∧
    (∃ s : State, s = sMate 1 0 1 { beats := 8, seen := true, mRole := 1, mMode := 1 } ∧ s.get MATE_ST_role = 0 ∧
     s.get MATE_ST_mode ≠ 0 ∧ 8 ≤ s.mate.beats ∧ s.mate.seen = true ∧ s.on MATE_ST_rank ≠ s.on MATE_ST_mate_rank ∧
     s.mate.mMode = s.get MATE_ST_mode) ∧
    (∃ s : State, s = put [(MATE_ST_mate_rank, 1, 0)] (sMate 1 0 0 { beats := 9, seen := true, mMode := 1 }) ∧
     s.get MATE_ST_role = 0 ∧ s.get MATE_ST_mode ≠ 0 ∧ 8 ≤ s.mate.beats ∧ s.mate.seen = true ∧
     s.on MATE_ST_rank ≠ s.on MATE_ST_mate_rank ∧ s.mate.mMode = s.get MATE_ST_mode) ∧
    (∃ s : State, s = sMate 1 0 0 { beats := 8, seen := true, mMode := 1 } ∧ s.get MATE_ST_role = 0 ∧
     s.get MATE_ST_mode ≠ 0 ∧ 8 ≤ s.mate.beats ∧ s.mate.seen = true ∧
     (s.on MATE_ST_rank = s.on MATE_ST_mate_rank ∨ s.mate.mMode ≠ s.get MATE_ST_mode) ∧ s.mate.cfgRec = false) ∧
    (∃ s : State, s = sMate 1 0 1 { beats := 8, seen := true, mMode := 2 } ∧ s.get MATE_ST_role = 0 ∧
     s.get MATE_ST_mode ≠ 0 ∧ 8 ≤ s.mate.beats ∧ s.mate.seen = true ∧
     (s.on MATE_ST_rank = s.on MATE_ST_mate_rank ∨ s.mate.mMode ≠ s.get MATE_ST_mode) ∧ s.mate.cfgRec = false) ∧
    (∃ s : State, s = put [(MATE_ST_role, 3, 0)] (takenAt 10 [1793 * 2 ^ 16 + 5, 1]) ∧
     Served s 10 1793 [1793 * 2 ^ 16 + 5, 1] ∧ msgWord [1793 * 2 ^ 16 + 5, 1] 1 = 1 ∧ s.get MATE_ST_role = 3) ∧
    (∃ s : State, s = takenAt 0 [1793 * 2 ^ 16 + 5, 1] ∧ Served s 0 1793 [1793 * 2 ^ 16 + 5, 1] ∧
     msgWord [1793 * 2 ^ 16 + 5, 1] 1 = 1 ∧ s.get MATE_ST_role ≠ 3) := by
  refine ⟨?_, ?_, ?_, ?_, ?_, ?_, ?_⟩
  · exact ⟨_, rfl, by decide +kernel⟩
  · exact ⟨_, rfl, by decide +kernel⟩
  · exact ⟨_, rfl, by decide +kernel⟩
  · exact ⟨_, rfl, by decide +kernel⟩
  · exact ⟨_, rfl, by decide +kernel⟩
  · exact ⟨_, rfl, by unfold Served; decide +kernel⟩
  · exact ⟨_, rfl, by unfold Served; decide +kernel⟩

theorem witness_SharedFlashArbitration :
    ((sMate 1 1 1).on MATE_ST_rank = true ∧ (sMate 1 1 1).on MATE_ST_lost = false) ∧
    (∃ s : State, s = sMate 1 1 1 { flashUse := true } ∧ s.on MATE_ST_rank = true ∧ s.on MATE_ST_lost = false) ∧
    (∃ s : State, s = sMate 1 1 1 { flashReq := true, flashGnt := true } ∧ s.on MATE_ST_rank = true ∧
     s.on MATE_ST_lost = false) ∧
    (∃ s : State, s = put [(MATE_ST_lost, 1, 0)] (sMate 1 1 1) ∧ s.on MATE_ST_rank = true ∧ s.on MATE_ST_lost = true) ∧
    ((sMate 1 1 0).on MATE_ST_rank = false ∧ (true = false ∨ (sMate 1 1 0).boot.waitGnt = false)) ∧
    (sMateWait.on MATE_ST_rank = false ∧ (false = false ∨ sMateWait.boot.waitGnt = false)) ∧
    (∃ s : State, s = put [(MATE_ST_lost, 1, 0)] (sMate 1 1 0) ∧ s.on MATE_ST_lost = true ∧
     s.on MATE_ST_flash_seized = false ∧ s.get MATE_ST_role ≠ 3) := by
  refine ⟨?_, ?_, ?_, ?_, ?_, ?_, ?_⟩
  · decide +kernel
  · exact ⟨_, rfl, by decide +kernel⟩
  · exact ⟨_, rfl, by decide +kernel⟩
  · exact ⟨_, rfl, by decide +kernel⟩
  · decide +kernel
  · decide +kernel
  · exact ⟨_, rfl, by decide +kernel⟩

theorem witness_ChangesAreAccepted :
    ∃ s : State, s = put [(MATE_ST_role, 1, 0), (PLN_STATE_state, 1, 0)] (takenAt 0 [16842752, 256, 2]) ∧
    Served s 0 257 [16842752, 256, 2] ∧ s.roleTakes = true ∧ msgWord [16842752, 256, 2] 1 % 4 ≤ 2 ∧
    namesOk (applyNames [16842752, 256, 2]) = true ∧ s.changing = true := ⟨_, rfl, by unfold Served; decide +kernel⟩

theorem witness_LoadsEndArmedOrFailed :
    ((sChg 1 1 0).get PLN_STATE_state = 1 ∧ (sChg 1 1 0).chg.ready = none ∧ (sChg 1 1 0).flashFree = false) ∧
    (∃ s : State, s = put [(MATE_ST_rank, 1, 0)] (sChg 1 1 0) ∧ s.get PLN_STATE_state = 1 ∧ s.chg.ready = none ∧
     s.flashFree = true) ∧
    (sBad.get PLN_STATE_state = 1 ∧ sBad.chg.ready = none ∧ sBad.flashFree = true ∧ sBad.chg.names = [(2, 7)] ∧
     List.find? (fun x => x.id == (2, 7).fst && x.inst == (2, 7).snd) (sBad.secTable (sBad.header sBad.chg.cs
       sBad.chg.base)) = some ((sBad.secTable (sBad.header 0 0)).headD { }) ∧ (2, 7) ∈ [(2, 7)]) ∧
    (∃ s : State, s = put [(MATE_ST_rank, 1, 0)] (sChg 1 1 0) ∧ s.get PLN_STATE_state = 1 ∧ s.get PLN_STATE_kind = 1 ∧
     s.chg.ready = none ∧ s.flashFree = true ∧
     (der (fun s => if s.get MB_ST_power 1 = 3 then s.newCycle.set MB_ST_power 0 1 else s.newCycle) s = if s.get
       MB_ST_power 1 = 3 then s.newCycle.set MB_ST_power 0 1 else s.newCycle) ∧
     ((der (fun s => if s.get MB_ST_power 1 = 3 then s.newCycle.set MB_ST_power 0 1 else s.newCycle) s).loadNames
       (s.header s.chg.cs s.chg.base) [] s.chg.names = ([], [], none)) ∧
     (((der (fun s => if s.get MB_ST_power 1 = 3 then s.newCycle.set MB_ST_power 0 1 else s.newCycle) s).loaderReads
       []).checkLoad s.chg.names ([]) = ([], none, none))) := by
  refine ⟨?_, ?_, ?_, ?_⟩
  · decide +kernel
  · exact ⟨_, rfl, by decide +kernel⟩
  · decide +kernel
  · exact ⟨_, rfl, by and_intros <;> decide +kernel⟩

theorem witness_StepsTakeEffectWhole :
    (∃ s : State, s = sChg 2 2 1 { ready := some [{ sec := 3 }], step := 255, haltAt := true } ∧
     s.get PLN_STATE_kind = 2 ∧ s.changing = true ∧ s.due = s.gmf + 1 ∧ s.chg.start = none ∧
     s.chg.ready = some [{ sec := 3 }] ∧ s.stepCommitted = true ∧ s.chg.step < 2 ^ 8) ∧
    ((sChg 2 2 1).get PLN_STATE_kind = 2 ∧ (sChg 2 2 1).changing = true ∧ (sChg 2 2 1).due = (sChg 2 2 1).gmf + 1 ∧
     (sChg 2 2 1).chg.start = none ∧ (sChg 2 2 1).chg.ready = none) := by
  refine ⟨?_, ?_⟩
  · exact ⟨_, rfl, by decide +kernel⟩
  · decide +kernel

theorem witness_HaltsAndHits :
    (∃ s : State, s = takenAt 10 [16973824] ∧ Served s 10 259 [16973824] ∧
     (s.changing = false ∨ s.get PLN_STATE_kind = 1 ∧ s.get PLN_STATE_state = 2)) ∧
    (∃ s : State, s = sChg 1 2 1 { } (takenAt 10 [16973824]) ∧ Served s 10 259 [16973824] ∧
     (s.changing = false ∨ s.get PLN_STATE_kind = 1 ∧ s.get PLN_STATE_state = 2)) ∧
    (∃ s : State, s = sChg 2 2 1 { } (takenAt 10 [16973824]) ∧ Served s 10 259 [16973824] ∧ s.changing = true ∧
     s.get PLN_STATE_kind ≠ 1 ∧ s.due = s.gmf + 1 ∧ s.chg.start = none) ∧
    (∃ s : State, s = sChg 2 2 2 { } (takenAt 10 [16973824]) ∧ Served s 10 259 [16973824] ∧ s.changing = true ∧
     (s.get PLN_STATE_kind = 1 ∧ s.get PLN_STATE_state = 1 ∨ s.get PLN_STATE_kind ≠ 1 ∧ (s.due ≠ s.gmf + 1 ∨
       s.chg.start.isSome = true))) ∧
    (∃ s : State, s = sChg 1 1 1 { } (takenAt 10 [16973824]) ∧ Served s 10 259 [16973824] ∧ s.changing = true ∧
     (s.get PLN_STATE_kind = 1 ∧ s.get PLN_STATE_state = 1 ∨ s.get PLN_STATE_kind ≠ 1 ∧ (s.due ≠ s.gmf + 1 ∨
       s.chg.start.isSome = true))) ∧
    ((sChg 2 2 0 { win := [{ kind := 0, key := 1, cls := 0, bound := 1, count := 2 }], winOpen := true, winTw := 5 } { fab := { gp := 32 } }).windowDone
       = true ∧
     ((fun s : State => s.get PLN_STATE_kind = 2 ∧ s.get PLN_STATE_state = 2 ∧ s.chg.winStep = s.get PLN_STATE_steps)
       (sChg 2 2 0 { winOpen := true, winTw := 5, win := [{ kind := 0, key := 1, cls := 0, bound := 1, count := 2 }] } { fab := { gp := 32 } }))) := by
  refine ⟨?_, ?_, ?_, ?_, ?_, ?_⟩
  · exact ⟨_, rfl, by unfold Served; decide +kernel⟩
  · exact ⟨_, rfl, by unfold Served; decide +kernel⟩
  · exact ⟨_, rfl, by unfold Served; decide +kernel⟩
  · exact ⟨_, rfl, by unfold Served; decide +kernel⟩
  · exact ⟨_, rfl, by unfold Served; decide +kernel⟩
  · decide +kernel

theorem witness_TwigFrames :
    (({ img := twigImg, tw := { recv := [(319, { wait := [3, 4], frames := [1, 2] })], out := [(319, { fnum := 255 })] } : State }).hosts.Nodup) ∧
    (∃ s : State, s = sHostF twigFrame ∧ hostCtx s.img 319 = some hostCtxE ∧ hostCtxE.n MAPPING_ctx < 262144 ∧
     s.on FRM_ALIGN_state (hostCtxE.n MAPPING_ctx) = true ∧
     (s.mapSt 262143).q.push 8 0 = (s.mapSt (hostCtxE.n MAPPING_ctx)).q.push (8 * [0].length) (leNat [0]) ∧
     8 * ((s.mapSt (hostCtxE.n MAPPING_ctx)).skip + 8000) ≤ ((s.mapSt 262143).q.push 8 0).n ∧
     ((s.mapSt 262143).q.push 8 0).v / 2 ^ 0 % 2 ^ 64000 = ((s.mapSt 262143).q.push 8 0).v / 2 ^ (8 * (s.mapSt
       (hostCtxE.n MAPPING_ctx)).skip) % 2 ^ 64000 ∧
     der feedW s = ((s.newCycle.feed (hostCtxE.n MAPPING_ctx) (8 * [0].length) (leNat [0])).nextFrame (hostCtxE.n
       MAPPING_ctx)).snd ∧ true = (bytesAt (((s.mapSt 262143).q.push 8 0).v / 2 ^ 0 % 2 ^ 64000) 0 8 == twigWord) ∧
     true = (crc16 (bytesAt (((s.mapSt 262143).q.push 8 0).v / 2 ^ 0 % 2 ^ 64000) 8 10) == beNat (bytesAt (((s.mapSt
       262143).q.push 8 0).v / 2 ^ 0 % 2 ^ 64000) 18 2)) ∧
     (some 5 = if true = true then some (beNat (bytesAt (((s.mapSt 262143).q.push 8 0).v / 2 ^ 0 % 2 ^ 64000) 8 8)) else
       none) ∧
     ((der feedW s).frameIn (hostCtxE.n MAPPING_ctx) { label := some 5 }).on FRM_ALIGN_state (hostCtxE.n MAPPING_ctx) =
       true) ∧
    (∃ s : State, s = sHostF (twigFrame + 2 ^ 64) ∧ hostCtx s.img 319 = some hostCtxE ∧
     hostCtxE.n MAPPING_ctx < 262144 ∧ s.on FRM_ALIGN_state (hostCtxE.n MAPPING_ctx) = true ∧
     (s.mapSt 262143).q.push 8 0 = (s.mapSt (hostCtxE.n MAPPING_ctx)).q.push (8 * [0].length) (leNat [0]) ∧
     8 * ((s.mapSt (hostCtxE.n MAPPING_ctx)).skip + 8000) ≤ ((s.mapSt 262143).q.push 8 0).n ∧
     ((s.mapSt 262143).q.push 8 0).v / 2 ^ 0 % 2 ^ 64000 = ((s.mapSt 262143).q.push 8 0).v / 2 ^ (8 * (s.mapSt
       (hostCtxE.n MAPPING_ctx)).skip) % 2 ^ 64000 ∧
     der feedW s = ((s.newCycle.feed (hostCtxE.n MAPPING_ctx) (8 * [0].length) (leNat [0])).nextFrame (hostCtxE.n
       MAPPING_ctx)).snd ∧ true = (bytesAt (((s.mapSt 262143).q.push 8 0).v / 2 ^ 0 % 2 ^ 64000) 0 8 == twigWord) ∧
     false = (crc16 (bytesAt (((s.mapSt 262143).q.push 8 0).v / 2 ^ 0 % 2 ^ 64000) 8 10) == beNat (bytesAt (((s.mapSt
       262143).q.push 8 0).v / 2 ^ 0 % 2 ^ 64000) 18 2)) ∧
     (none = if false = true then some (beNat (bytesAt (((s.mapSt 262143).q.push 8 0).v / 2 ^ 0 % 2 ^ 64000) 8 8)) else
       none) ∧ ((der feedW s).frameIn (hostCtxE.n MAPPING_ctx) { }).on FRM_ALIGN_state (hostCtxE.n MAPPING_ctx) = true) ∧
    (∃ s : State, s = put [(FRM_ALIGN_state, 1, 262143)] { img := twigImg } ∧ hostCtx s.img 319 = some hostCtxE ∧
     ({ : BitQ }).push 8 1 = (s.mapSt (hostCtxE.n MAPPING_ctx)).q.push (8 * [1].length) (leNat [1]) ∧
     (s.on FRM_ALIGN_state (hostCtxE.n MAPPING_ctx) = false ∨ (({ : BitQ }).push 8 1).n < 8 * ((s.mapSt (hostCtxE.n
       MAPPING_ctx)).skip + 8000))) ∧
    (∃ s : State, s = sHostF twigFrame 0 ∧ hostCtx s.img 319 = some hostCtxE ∧
     (s.mapSt 262143).q.push 8 0 = (s.mapSt (hostCtxE.n MAPPING_ctx)).q.push (8 * [0].length) (leNat [0]) ∧
     (s.on FRM_ALIGN_state (hostCtxE.n MAPPING_ctx) = false ∨ ((s.mapSt 262143).q.push 8 0).n < 8 * ((s.mapSt
       (hostCtxE.n MAPPING_ctx)).skip + 8000))) ∧
    (∃ s : State, s = put [(MAP_HOST_TERM_term_valid, 1, 262143)] { img := twigImg } ∧
     hostCtx s.img 319 = some hostCtxE ∧ hostCtxE.n MAPPING_ctx < 262144 ∧
     s.on MAP_HOST_TERM_term_valid (hostCtxE.n MAPPING_ctx) = true) ∧
    (∃ s : State, s = put [(MAP_HOST_TERM_term_valid, 1, 262143)] { img := twigImg, tw := { recv := [(319, { wait := [7] })] } }
       ∧ hostCtx s.img 319 = some hostCtxE ∧ hostCtxE.n MAPPING_ctx < 262144 ∧
     s.on MAP_HOST_TERM_term_valid (hostCtxE.n MAPPING_ctx) = true) := by
  refine ⟨?_, ?_, ?_, ?_, ?_, ?_, ?_⟩
  · decide +kernel
  · exact ⟨_, rfl, by decide +kernel⟩
  · exact ⟨_, rfl, by decide +kernel⟩
  · exact ⟨_, rfl, by decide +kernel⟩
  · exact ⟨_, rfl, by decide +kernel⟩
  · exact ⟨_, rfl, by decide +kernel⟩
  · exact ⟨_, rfl, by decide +kernel⟩

theorem witness_TwigRounds :
    (∃ s : State, s = sRound [] [(PIT_CTX_ST_faulty, 1, 262142), (PIT_CTX_ST_ok_run, 255, 262142)] ∧
     (s.hostSt 319).rOut = false ∧ Option.map (fun x => x % 4) (s.hostSt 319).fnum = some 3 ∧
     s.gl INTEGRITY_twig_en = 1 ∧ s.circuits 319 = [circE] ∧ circE.n MAPPING_ctx = 262142 ∧
     (∀ x ∈ twigsOf circE, x ∉ ((sRound [] []).hostSt 319).rErr)) ∧
    (∃ s : State, s = sRound [479] [(PIT_CTX_ST_err_run, 7, 262142)] ∧ (s.hostSt 319).rOut = false ∧
     Option.map (fun x => x % 4) (s.hostSt 319).fnum = some 3 ∧ s.gl INTEGRITY_twig_en = 1 ∧ s.circuits 319 = [circE] ∧
     circE.n MAPPING_ctx = 262142 ∧ (∃ x ∈ twigsOf circE, x ∈ ((sRound [479] []).hostSt 319).rErr)) := by
  refine ⟨?_, ?_⟩
  · exact ⟨_, rfl, by decide +kernel⟩
  · exact ⟨_, rfl, by decide +kernel⟩

theorem witness_EvergreenArrivals :
    ((List.map (fun x => x.n EVERGREEN_wrap) ((sMerge { }).entries EVERGREEN_wrap)).Nodup) ∧
    (∃ s : State, s = sMerge { b := { align := { n := 2, cands := [(33, 1)] } } } ∧
     s.entry EVERGREEN_merge 4095 = some mergeE ∧ s.copyDown mergeE true = false ∧
     ((s.evgMerge 4095).copy true).inFrame = false ∧ 0 < ((s.evgMerge 4095).copy true).align.n ∧
     List.filter (fun x => decide (((s.evgMerge 4095).copy true).align.n ≤ x.snd)) (nextCands ((s.evgMerge 4095).copy
       true).align.cands (dedup [33])) = [(33, 2)]) ∧
    (∃ s : State, s = sMerge { b := inCopy, anchored := true } ∧ s.entry EVERGREEN_merge 4095 = some mergeE ∧
     (s.evgMerge 4095).anchored = true ∧ Accepts s mergeE 4095 true evgIn ∧
     ((s.evgMerge 4095).copy true).off = some 640 ∧ heldOf true 5 evgIn 640 = heldOf true 5 evgIn 640 ∧
     9 = (heldOf true 5 evgIn 640).seq ∧ 1 = (heldOf true 5 evgIn 640).idx ∧
     ((fun m : EvgMerge => m.behind 9 1 = false ∧ m.inWindow 9 = true ∧ m.instOf true 9 1 = none ∧ (m.held.any fun x =>
       x.good && x.seq == 9 && x.idx == 1) = false ∧ m.held.length < 16 + (sMerge { }).middleSlots mergeE) { anchored := true, b := inCopy })) ∧
    (∃ s : State, s = sMerge { b := inCopy, anchored := true } ∧ s.entry EVERGREEN_merge 4095 = some mergeE ∧
     (s.evgMerge 4095).anchored = true ∧ Accepts s mergeE 4095 true evgIn ∧
     ((s.evgMerge 4095).copy true).off = some 640 ∧ heldOf true 5 evgIn 640 = heldOf true 5 evgIn 640 ∧
     9 = (heldOf true 5 evgIn 640).seq ∧ 1 = (heldOf true 5 evgIn 640).idx) ∧
    (∃ s : State, s = sMerge { b := inCopy, anchored := true, last := some (9, 1) } ∧
     s.entry EVERGREEN_merge 4095 = some mergeE ∧ (s.evgMerge 4095).anchored = true ∧ Accepts s mergeE 4095 true evgIn ∧
     ((s.evgMerge 4095).copy true).off = some 640 ∧ heldOf true 5 evgIn 640 = heldOf true 5 evgIn 640 ∧
     9 = (heldOf true 5 evgIn 640).seq ∧ 1 = (heldOf true 5 evgIn 640).idx ∧
     ({ last := some (9, 1) } : EvgMerge).behind 9 1 = true) ∧
    (∃ s : State, s = sMerge { b := inCopy, anchored := true, held := [heldF 1 false true] } ∧
     s.entry EVERGREEN_merge 4095 = some mergeE ∧ (s.evgMerge 4095).anchored = true ∧ Accepts s mergeE 4095 true evgIn ∧
     ((s.evgMerge 4095).copy true).off = some 640 ∧ heldOf true 5 evgIn 640 = heldOf true 5 evgIn 640 ∧
     9 = (heldOf true 5 evgIn 640).seq ∧ 1 = (heldOf true 5 evgIn 640).idx ∧
     ((fun m : EvgMerge => m.inWindow 9 = true ∧ (m.held.any fun x => x.good && x.seq == 9 && x.idx == 1) = true) { held := [heldF 1 false true] })) ∧
    (∃ s : State, s = sFar { b := { inFrame := true, off := some 5000000 }, anchored := true } ∧
     s.entry EVERGREEN_merge 4095 = some mergeE ∧ (s.evgMerge 4095).anchored = true ∧ Accepts s mergeE 4095 true evgIn ∧
     ((s.evgMerge 4095).copy true).off = some 5000000 ∧ heldOf true 5 evgIn 5000000 = heldOf true 5 evgIn 5000000 ∧
     9 = (heldOf true 5 evgIn 5000000).seq ∧ 1 = (heldOf true 5 evgIn 5000000).idx) ∧
    (∃ s : State, s = sMerge { b := { inFrame := true, off := some 5000000 }, anchored := true } ∧
     s.entry EVERGREEN_merge 4095 = some mergeE ∧ (s.evgMerge 4095).anchored = true ∧ Accepts s mergeE 4095 true evgIn ∧
     ((s.evgMerge 4095).copy true).off = some 5000000 ∧ heldOf true 5 evgIn 5000000 = heldOf true 5 evgIn 5000000 ∧
     9 = (heldOf true 5 evgIn 5000000).seq ∧ 1 = (heldOf true 5 evgIn 5000000).idx) := by
  refine ⟨?_, ?_, ?_, ?_, ?_, ?_, ?_, ?_⟩
  · decide +kernel
  · exact ⟨_, rfl, by decide +kernel⟩
  · exact ⟨_, rfl, by decide +kernel, by decide +kernel, accepts_evgIn (by decide +kernel) (by decide +kernel) (by decide +kernel) (by decide +kernel), by decide +kernel, by decide +kernel, by decide +kernel, by decide +kernel, by decide +kernel⟩
  · exact ⟨_, rfl, by decide +kernel, by decide +kernel, accepts_evgIn (by decide +kernel) (by decide +kernel) (by decide +kernel) (by decide +kernel), by decide +kernel, by decide +kernel, by decide +kernel, by decide +kernel⟩
  · exact ⟨_, rfl, by decide +kernel, by decide +kernel, accepts_evgIn (by decide +kernel) (by decide +kernel) (by decide +kernel) (by decide +kernel), by decide +kernel, by decide +kernel, by decide +kernel, by decide +kernel, by decide +kernel⟩
  · exact ⟨_, rfl, by decide +kernel, by decide +kernel, accepts_evgIn (by decide +kernel) (by decide +kernel) (by decide +kernel) (by decide +kernel), by decide +kernel, by decide +kernel, by decide +kernel, by decide +kernel, by decide +kernel⟩
  · exact ⟨_, rfl, by decide +kernel, by decide +kernel, accepts_evgIn (by decide +kernel) (by decide +kernel) (by decide +kernel) (by decide +kernel), by decide +kernel, by decide +kernel, by decide +kernel, by decide +kernel⟩
  · exact ⟨_, rfl, by decide +kernel, by decide +kernel, accepts_evgIn (by decide +kernel) (by decide +kernel) (by decide +kernel) (by decide +kernel), by decide +kernel, by decide +kernel, by decide +kernel, by decide +kernel⟩

theorem witness_EvergreenPlayout :
    ((sMerge { }).entry EVERGREEN_merge 4095 = some mergeE ∧ ((sMerge { }).evgMerge 4095).anchored = false) ∧
    (∃ s : State, s = sMerge { anchored := true, held := [heldF 1 true true] } ∧
     s.entry EVERGREEN_merge 4095 = some mergeE ∧ (s.evgMerge 4095).anchored = true ∧
     (s.evgMerge 4095).held = [heldF 1 true true] ∧ (heldF 1 true true).placed = true ∧
     (heldF 1 true true).inst ≤ ↑740 ∧ (heldF 1 true true).taken false = true) ∧
    (∃ s : State, s = sMerge { anchored := true, held := [heldF 1 true false] } ∧
     s.entry EVERGREEN_merge 4095 = some mergeE ∧ (s.evgMerge 4095).anchored = true ∧
     (s.evgMerge 4095).held = [heldF 1 true false] ∧ (heldF 1 true false).placed = true ∧
     (heldF 1 true false).inst ≤ ↑740 ∧ (heldF 1 true false).taken false = true) ∧
    (∃ s : State, s = sMerge { anchored := true, held := [heldM 1 true true] } ∧
     s.entry EVERGREEN_merge 4095 = some mergeE ∧ (s.evgMerge 4095).anchored = true ∧
     (s.evgMerge 4095).held = [heldM 1 true true] ∧ (heldM 1 true true).placed = true ∧
     (heldM 1 true true).inst ≤ ↑740 ∧ (heldM 1 true true).taken false = true) ∧
    (∃ s : State, s = sMerge { anchored := true, held := [heldM 1 true true] } ∧
     s.entry EVERGREEN_merge 4095 = some mergeE ∧ (s.evgMerge 4095).anchored = true ∧
     (s.evgMerge 4095).held = [heldM 1 true true] ∧ (heldM 1 true true).placed = true ∧
     (heldM 1 true true).inst ≤ ↑740 ∧ (heldM 1 true true).mark.isSome = true ∧ (true = true ∨ false = true)) ∧
    (∃ s : State, s = sMerge { anchored := true, held := [heldM 1 true true] } ∧
     s.entry EVERGREEN_merge 4095 = some mergeE ∧ (s.evgMerge 4095).anchored = true ∧
     (s.evgMerge 4095).held = [heldM 1 true true] ∧ (heldM 1 true true).placed = true ∧
     (heldM 1 true true).inst ≤ ↑740 ∧ (heldM 1 true true).mark.isSome = true ∧ (false = true ∨ true = true)) ∧
    (∃ s : State, s = sMerge { anchored := true, held := [heldF 1 false false, heldF 1 true true] } ∧
     s.entry EVERGREEN_merge 4095 = some mergeE ∧ (s.evgMerge 4095).anchored = true ∧
     (s.evgMerge 4095).held = [heldF 1 false false, heldF 1 true true] ∧
     (heldF 1 false false).seq = (heldF 1 true true).seq ∧ (heldF 1 false false).idx = (heldF 1 true true).idx ∧
     (heldF 1 false false).placed = true ∧ (heldF 1 true true).placed = true ∧ (heldF 1 false false).inst ≤ ↑740 ∧
     (heldF 1 true true).inst ≤ ↑740 ∧ (heldF 1 true true).taken false = true ∧ (heldF 1 false false).good = false ∧
     (heldF 1 true true).good = true ∧ (heldF 1 true true).srcFail = false) ∧
    (∃ s : State, s = sMerge { anchored := true, held := [heldF 1 true false, heldF 1 false true] } ∧
     s.entry EVERGREEN_merge 4095 = some mergeE ∧ (s.evgMerge 4095).anchored = true ∧
     (s.evgMerge 4095).held = [heldF 1 true false, heldF 1 false true] ∧
     (heldF 1 true false).seq = (heldF 1 false true).seq ∧ (heldF 1 true false).idx = (heldF 1 false true).idx ∧
     (heldF 1 true false).placed = true ∧ (heldF 1 false true).placed = true ∧ (heldF 1 true false).inst ≤ ↑740 ∧
     (heldF 1 false true).inst ≤ ↑740 ∧ (heldF 1 false true).taken false = true ∧ (heldF 1 true false).good = false ∧
     (heldF 1 false true).good = true ∧ (heldF 1 false true).srcFail = false) ∧
    (∃ s : State, s = sMerge { anchored := true } ∧ s.entry EVERGREEN_merge 4095 = some mergeE ∧
     (s.evgMerge 4095).anchored = true ∧
     (∀ (f : EvgHeld), f ∈ (s.evgMerge 4095).held → f.placed = true → ↑(((sMerge { }).evgMerge 4095).spacing mergeE +
       128) < f.inst) ∧
     (s.evgMerge 4095).lastP + ↑((s.evgMerge 4095).spacing mergeE) + 128 ≤ ↑(((sMerge { }).evgMerge 4095).spacing mergeE
       + 128)) ∧
    (∃ s : State, s = sMerge { anchored := true } ∧ s.entry EVERGREEN_merge 4095 = some mergeE ∧
     (s.evgMerge 4095).anchored = true ∧
     (∀ (f : EvgHeld), f ∈ (s.evgMerge 4095).held → f.placed = true → ↑(((sMerge { }).evgMerge 4095).spacing mergeE +
       127) < f.inst) ∧
     ↑(((sMerge { }).evgMerge 4095).spacing mergeE + 127) < (s.evgMerge 4095).lastP + ↑((s.evgMerge 4095).spacing
       mergeE) + 128) := by
  refine ⟨?_, ?_, ?_, ?_, ?_, ?_, ?_, ?_, ?_, ?_⟩
  · decide +kernel
  · exact ⟨_, rfl, by decide +kernel⟩
  · exact ⟨_, rfl, by decide +kernel⟩
  · exact ⟨_, rfl, by and_intros <;> first | exact taken_heldM _ _ _ | rfl | decide +kernel⟩
  · exact ⟨_, rfl, by and_intros <;> first | exact taken_heldM _ _ _ | rfl | decide +kernel⟩
  · exact ⟨_, rfl, by and_intros <;> first | exact taken_heldM _ _ _ | rfl | decide +kernel⟩
  · exact ⟨_, rfl, by decide +kernel⟩
  · exact ⟨_, rfl, by decide +kernel⟩
  · exact ⟨_, rfl, by decide +kernel⟩
  · exact ⟨_, rfl, by decide +kernel⟩

theorem witness_EvergreenAnchors :
    (∃ s : State, s = sMerge { b := { inFrame := true }, held := [heldF 1 false true, heldF 1 true true] } ∧
     s.entry EVERGREEN_merge 4095 = some mergeE ∧ (s.evgMerge 4095).anchored = false ∧
     (¬(s.copyState mergeE (s.evgMerge 4095) false = 3 ∧ s.copyState mergeE (s.evgMerge 4095) true = 3)) ∧
     true = (s.copyState mergeE (s.evgMerge 4095) false != 3) ∧
     (List.filter (fun x => x.copyB == true && x.good) (s.evgMerge 4095).held).getLast? = some (heldF 1 true true)) ∧
    (∃ s : State, s = sMerge { a := { inFrame := true, off := some 3 }, held := [heldF 1 false true, heldF 1 true true] }
       ∧ s.entry EVERGREEN_merge 4095 = some mergeE ∧ (s.evgMerge 4095).anchored = false ∧
     (¬(s.copyState mergeE (s.evgMerge 4095) false = 3 ∧ s.copyState mergeE (s.evgMerge 4095) true = 3)) ∧
     false = (s.copyState mergeE (s.evgMerge 4095) false != 3) ∧
     (List.filter (fun x => x.copyB == false && x.good) (s.evgMerge 4095).held).getLast? = some (heldF 1 false true)) ∧
    (∃ s : State, s = sMerge { a := inCopy, b := inCopy } ∧ s.entry EVERGREEN_merge 4095 = some mergeE ∧
     s.copyState mergeE (s.evgMerge 4095) false = 3 ∧ s.copyState mergeE (s.evgMerge 4095) true = 3) ∧
    (∃ s : State, s = sMerge { b := { inFrame := true, off := some (-1) }, anchored := true } ∧
     s.entry EVERGREEN_merge 4095 = some mergeE ∧ (s.evgMerge 4095).anchored = true ∧
     s.copyState mergeE (s.evgMerge 4095) true = 2 ∧ ((s.evgMerge 4095).copy true).off = some (-1) ∧
     (mergeE.b EVERGREEN_m_reanchor = true ∨ (s.copyState mergeE (s.evgMerge 4095) !true) < 2) ∧
     128 * (mergeE.n EVERGREEN_m_margin : Int) + 1 = 128 * (mergeE.n EVERGREEN_m_margin : Int) - -1 ∧
     (∀ (c : Bool) (o' : Int), 2 ≤ s.copyState mergeE (s.evgMerge 4095) c → ((s.evgMerge 4095).copy c).off = some o' →
       o' + (128 * (mergeE.n EVERGREEN_m_margin : Int) + 1) ≤ 1250 * (mergeE.n EVERGREEN_m_dmax : Int))) ∧
    (∃ s : State, s = sMerge { a := { inFrame := true, off := some 5120000 }, b := { inFrame := true, off := some (-1) }, anchored := true }
       ∧ s.entry EVERGREEN_merge 4095 = some mergeE ∧ (s.evgMerge 4095).anchored = true ∧
     s.copyState mergeE (s.evgMerge 4095) true = 2 ∧ ((s.evgMerge 4095).copy true).off = some (-1) ∧
     (mergeE.b EVERGREEN_m_reanchor = true ∨ (s.copyState mergeE (s.evgMerge 4095) !true) < 2) ∧
     128 * (mergeE.n EVERGREEN_m_margin : Int) + 1 = 128 * (mergeE.n EVERGREEN_m_margin : Int) - -1 ∧
     2 ≤ s.copyState mergeE (s.evgMerge 4095) false ∧ ((s.evgMerge 4095).copy false).off = some 5120000 ∧
     1250 * (mergeE.n EVERGREEN_m_dmax : Int) < 5120000 + (128 * (mergeE.n EVERGREEN_m_margin : Int) + 1)) ∧
    (∃ s : State, s = sMerge { anchored := true } ∧ s.entry EVERGREEN_merge 4095 = some mergeE ∧
     (s.evgMerge 4095).anchored = true ∧ s.copyState mergeE (s.evgMerge 4095) false ≠ 3 ∧
     s.copyState mergeE (s.evgMerge 4095) true ≠ 3) ∧
    (∃ s : State, s = sMerge { a := inCopy, anchored := true, held := [heldF 1 true true], flush := true } ∧
     s.entry EVERGREEN_merge 4095 = some mergeE ∧ (s.evgMerge 4095).flush = true) := by
  refine ⟨?_, ?_, ?_, ?_, ?_, ?_, ?_⟩
  · exact ⟨_, rfl, by decide +kernel⟩
  · exact ⟨_, rfl, by decide +kernel⟩
  · exact ⟨_, rfl, by decide +kernel⟩
  · exact ⟨_, rfl, by and_intros <;> first | decide +kernel | (apply offsets_at_most (x := -1) <;> decide +kernel)⟩
  · exact ⟨_, rfl, by decide +kernel⟩
  · exact ⟨_, rfl, by decide +kernel⟩
  · exact ⟨_, rfl, by decide +kernel⟩

theorem witness_PmSecondsAndBins :
    (∃ s : State, s = sMon [(FRM_PM_ne_run, 9, 262143)] { blocks := 100, eb := 15 } ∧ s.pmPaths = [monE] ∧
     monE.n FRAMING_ctx = 262143 ∧ s.ddrUp = true ∧
     true = ((s.pmSt 262143).defSec || decide (15 * (s.pmSt 262143).blocks ≤ 100 * (s.pmSt 262143).eb))) ∧
    (∃ s : State, s = sMon [(FRM_PM_ne_run, 8, 262143), (FRM_PM_ne_unavail, 1, 262143)] { blocks := 100, eb := 14 } ∧
     s.pmPaths = [monE] ∧ monE.n FRAMING_ctx = 262143 ∧ s.ddrUp = true ∧
     false = ((s.pmSt 262143).defSec || decide (15 * (s.pmSt 262143).blocks ≤ 100 * (s.pmSt 262143).eb))) ∧
    (∃ s : State, s = sMon [(FRM_PM_ne_unavail, 1, 262143)] { blocks := 100, defSec := true } ∧ s.pmPaths = [monE] ∧
     monE.n FRAMING_ctx = 262143 ∧ s.ddrUp = true ∧
     true = ((s.pmSt 262143).defSec || decide (15 * (s.pmSt 262143).blocks ≤ 100 * (s.pmSt 262143).eb))) ∧
    (∃ s : State, s = sMon [] { held := List.replicate 10 sec9, open15 := [{ day := false, start := 900 }], open24 := [{ day := true, start := 0 }] }
       ∧ s.pmPaths = [monE] ∧ monE.n FRAMING_ctx = 262143 ∧ (s.pmSt 262143).held = sec9 :: List.replicate 9 sec9 ∧
     9 ≤ (List.replicate 9 sec9).length) ∧
    (∃ s : State, s = sMon [] { held := List.replicate 9 sec9 } ∧ s.pmPaths = [monE] ∧
     (s.pmSt (monE.n FRAMING_ctx)).held.length < 10) ∧
    (∃ s : State, s = put [(DC_ST_cap_gib, 127, 0)] (sMon [] { open15 := [{ day := false, start := 900 }, { day := false, start := 1800 }] })
       ∧ s.pmPaths = [monE] ∧ monE.n FRAMING_ctx = 262143 ∧ s.historyOk 262143 = true) ∧
    (∃ s : State, s = sMon [] { held := List.replicate 10 sec9, open15 := [{ day := false, start := 900 }] } ∧
     s.pmPaths = [monE] ∧ monE.n FRAMING_ctx = 262143 ∧ (s.pmSt 262143).held = sec9 :: List.replicate 9 sec9 ∧
     9 ≤ (List.replicate 9 sec9).length ∧ (s.pmSt 262143).open15 = [{ day := false, start := 900 }] ∧
     (s.pmSt 262143).open24 = [] ∧ ({ day := false, start := 900 : PmBin }).start = sec9.sec - sec9.sec % 900 ∧
     ({ day := false, start := 900 : PmBin }).day = false ∧ monE.n FRAMING_tca_prof ≠ 0 ∧
     s.tcaThr false (monE.n FRAMING_tca_prof) = [0, 0, 5, 0] ∧ sec9.neUn = false ∧
     5 ≤ ({ day := false, start := 900 : PmBin }).ne.snd.snd.fst + sec9.neBbe ∧
     (({ day := false, start := 900 : PmBin }).add sec9).far.snd.snd.fst < 5 ∧
     2 ∉ ({ day := false, start := 900 } : PmBin).tca) ∧
    (∃ s : State, s = sMon [] { held := List.replicate 10 sec9, open15 := [{ day := false, start := 900, tca := [2] }] }
       ∧ s.pmPaths = [monE] ∧ monE.n FRAMING_ctx = 262143 ∧ (s.pmSt 262143).held = sec9 :: List.replicate 9 sec9 ∧
     9 ≤ (List.replicate 9 sec9).length ∧ (s.pmSt 262143).open15 = [{ day := false, start := 900, tca := [2] }] ∧
     (s.pmSt 262143).open24 = [] ∧
     ({ day := false, start := 900, tca := [2] : PmBin }).start = sec9.sec - sec9.sec % 900 ∧
     ({ day := false, start := 900, tca := [2] : PmBin }).day = false ∧ monE.n FRAMING_tca_prof ≠ 0 ∧
     s.tcaThr false (monE.n FRAMING_tca_prof) = [0, 0, 5, 0] ∧ sec9.neUn = false ∧
     5 ≤ ({ day := false, start := 900, tca := [2] : PmBin }).ne.snd.snd.fst + sec9.neBbe ∧
     (({ day := false, start := 900, tca := [2] : PmBin }).add sec9).far.snd.snd.fst < 5 ∧
     2 ∈ ({ day := false, start := 900, tca := [2] } : PmBin).tca) := by
  refine ⟨?_, ?_, ?_, ?_, ?_, ?_, ?_, ?_⟩
  · exact ⟨_, rfl, by decide +kernel⟩
  · exact ⟨_, rfl, by decide +kernel⟩
  · exact ⟨_, rfl, by decide +kernel⟩
  · exact ⟨_, rfl, by decide +kernel⟩
  · exact ⟨_, rfl, by decide +kernel⟩
  · exact ⟨_, rfl, by decide +kernel⟩
  · exact ⟨_, rfl, by decide +kernel⟩
  · exact ⟨_, rfl, by decide +kernel⟩

theorem witness_FabricSelfTests :
    ((sSpare []).get FAB_COPPICE_state = 0 ∧ (sSpare []).get FAB_COPPICE_spare = 20) ∧
    ((sSpare []).get FAB_COPPICE_state = 0 ∧ (sSpare []).get FAB_COPPICE_spare = 20 ∧ (¬20 ∈ (sSpare []).fab.testBad)) ∧
    ((sSpare [20]).get FAB_COPPICE_state = 0 ∧ (sSpare [20]).get FAB_COPPICE_spare = 20 ∧ 20 ∈ (sSpare [20]).fab.testBad) ∧
    (List.range 21 = List.filter (fun ph => State.reset.get FAB_SLICE_ST_state ph != 3 && ! [].contains ph) (List.range
       21) ∧ 20 ≤ (List.range 21).length) ∧
    (List.range 20 = List.filter (fun ph => State.reset.get FAB_SLICE_ST_state ph != 3 && ! [20].contains ph)
       (List.range 21)) ∧
    (List.filter (fun x => x != 3) (List.range 20) = List.filter (fun ph => State.reset.get FAB_SLICE_ST_state ph != 3
       && ! [20, 3].contains ph) (List.range 21) ∧ ((List.range 20).filter (· != 3)).length < 20) ∧
    (State.reset.get FAB_COPPICE_state = 0 ∧ State.reset.fab.on = true) := by
  refine ⟨?_, ?_, ?_, ?_, ?_, ?_, ?_⟩
  · decide +kernel
  · decide +kernel
  · decide +kernel
  · decide +kernel
  · decide +kernel
  · decide +kernel
  · decide +kernel

theorem witness_QuicksetTimersAndPins :
    (∃ s : State, s = { qs := { grps := [(1023, { hoRun := 8 })] } : State } ∧ bit (s.grp 1023).hoRun 3 = true ∧
     bit (s.grp 1023).due 3 = false) ∧
    (∃ s : State, s = put [(QS_GRP_ST_wtr, 1, 1023)] (sGrp { hold := 1 }) ∧ s.entry PROTECTION_grp 1023 = some grpE ∧
     s.on QS_GRP_ST_wtr 1023 = true ∧ grpE.b PROTECTION_bidir = false ∧ (s.grp 1023).decl % 16 = 0 ∧
     s.pinCode 1023 = 0 ∧ mbxCode (s.get QS_GRP_TRIG_mbx_cmd 1023) = 0) ∧
    (bit ({ qs := { edges := [(3, 999)] } : State }).qs.raw 3 ≠ true ∧
     tget (fun _ => 0) ({ edges := [(3, 999)] } : QsBlock).edges 3 < 1000) ∧
    (bit ({ qs := { edges := [(3, 1000)] } : State }).qs.raw 3 ≠ true ∧
     1000 ≤ tget (fun _ => 0) ({ edges := [(3, 1000)] } : QsBlock).edges 3) := by
  refine ⟨?_, ?_, ?_, ?_⟩
  · exact ⟨_, rfl, by decide +kernel⟩
  · exact ⟨_, rfl, by decide +kernel⟩
  · decide +kernel
  · decide +kernel

theorem witness_ForcedSwitches :
    (∃ s : State, s = sGrp { } (takenAt 10 [33619968, 1023, 1]) ∧ Served s 10 513 [33619968, 1023, 1] ∧
     s.entry PROTECTION_grp (msgWord [33619968, 1023, 1] 1) = some grpE ∧ msgWord [33619968, 1023, 1] 1 < 1024 ∧
     (1 ≤ msgWord [33619968, 1023, 1] 2 ∧ msgWord [33619968, 1023, 1] 2 ≤ 2 ∨ 3 ≤ msgWord [33619968, 1023, 1] 2 ∧
       msgWord [33619968, 1023, 1] 2 ≤ 4 ∧ (s.topRequest grpE (s.grp (msgWord [33619968, 1023, 1] 1)).hold).fst ≤ 5)) ∧
    (∃ s : State, s = sGrp { } (takenAt 10 [33619968, 1023, 4]) ∧ Served s 10 513 [33619968, 1023, 4] ∧
     s.entry PROTECTION_grp (msgWord [33619968, 1023, 4] 1) = some grpE ∧ msgWord [33619968, 1023, 4] 1 < 1024 ∧
     (1 ≤ msgWord [33619968, 1023, 4] 2 ∧ msgWord [33619968, 1023, 4] 2 ≤ 2 ∨ 3 ≤ msgWord [33619968, 1023, 4] 2 ∧
       msgWord [33619968, 1023, 4] 2 ≤ 4 ∧ (s.topRequest grpE (s.grp (msgWord [33619968, 1023, 4] 1)).hold).fst ≤ 5)) ∧
    (∃ s : State, s = sGrp { } (takenAt 10 [33619968, 1023, 5]) ∧ Served s 10 513 [33619968, 1023, 5] ∧
     s.entry PROTECTION_grp (msgWord [33619968, 1023, 5] 1) = some grpE ∧ msgWord [33619968, 1023, 5] 1 < 1024 ∧
     (msgWord [33619968, 1023, 5] 2 = 0 ∨ 4 < msgWord [33619968, 1023, 5] 2)) ∧
    (∃ s : State, s = sGrp { decl := 4 } (takenAt 10 [33619968, 1023, 3]) ∧ Served s 10 513 [33619968, 1023, 3] ∧
     s.entry PROTECTION_grp (msgWord [33619968, 1023, 3] 1) = some grpE ∧ msgWord [33619968, 1023, 3] 1 < 1024 ∧
     3 ≤ msgWord [33619968, 1023, 3] 2 ∧ msgWord [33619968, 1023, 3] 2 ≤ 4 ∧
     5 < (s.topRequest grpE (s.grp (msgWord [33619968, 1023, 3] 1)).hold).fst) ∧
    (∃ s : State, s = sGrp { } (takenAt 10 [33619968, 1024, 1]) ∧ Served s 10 513 [33619968, 1024, 1] ∧
     s.entry PROTECTION_grp (msgWord [33619968, 1024, 1] 1) = none) ∧
    (∃ s : State, s = put [(QS_GRP_TRIG_mbx_cmd, 2, 1023)] (sGrp { } (takenAt 10 [33685504, 1023])) ∧
     Served s 10 514 [33685504, 1023] ∧ s.entry PROTECTION_grp (msgWord [33685504, 1023] 1) = some grpE ∧
     msgWord [33685504, 1023] 1 < 1024) ∧
    (∃ s : State, s = sGrp { } (takenAt 10 [33685504, 1024]) ∧ Served s 10 514 [33685504, 1024] ∧
     s.entry PROTECTION_grp (msgWord [33685504, 1024] 1) = none) := by
  refine ⟨?_, ?_, ?_, ?_, ?_, ?_, ?_⟩
  · exact ⟨_, rfl, by unfold Served; decide +kernel⟩
  · exact ⟨_, rfl, by unfold Served; decide +kernel⟩
  · exact ⟨_, rfl, by unfold Served; decide +kernel⟩
  · exact ⟨_, rfl, by unfold Served; decide +kernel⟩
  · exact ⟨_, rfl, by unfold Served; decide +kernel⟩
  · exact ⟨_, rfl, by unfold Served; decide +kernel⟩
  · exact ⟨_, rfl, by unfold Served; decide +kernel⟩

theorem witness_ApsValues :
    (∃ s : State, s = sGrp { apsCand := [252, 1, 1], apsRun := 2 } ∧ s.entry PROTECTION_grp 1023 = some grpE ∧
     grpE.b PROTECTION_aps = true ∧ s.on FRM_DEF_tsf (grpE.n PROTECTION_p_ctx) = false ∧
     [252, 1, 1] = [252#8, 1#8, 1#8] ∧ (s.grp 1023).apsCand = [252, 1, 1] ∧ (s.grp 1023).apsRun = 2 ∧
     apsCode (252 / 16 % 16) (1 % 256) = some 11) ∧
    (∃ s : State, s = sGrp { apsCand := [204, 1, 1], apsRun := 2 } ∧ s.entry PROTECTION_grp 1023 = some grpE ∧
     grpE.b PROTECTION_aps = true ∧ s.on FRM_DEF_tsf (grpE.n PROTECTION_p_ctx) = false ∧
     [204, 1, 1] = [204#8, 1#8, 1#8] ∧ (s.grp 1023).apsCand = [204, 1, 1] ∧ (s.grp 1023).apsRun = 2 ∧
     apsCode (204 / 16 % 16) (1 % 256) = none) ∧
    (∃ s : State, s = sGrp { apsCand := [252, 1, 1], apsRun := 1 } ∧ s.entry PROTECTION_grp 1023 = some grpE ∧
     grpE.b PROTECTION_aps = true ∧ s.on FRM_DEF_tsf (grpE.n PROTECTION_p_ctx) = false ∧
     [252, 1, 1] = [252#8, 1#8, 1#8] ∧ ((s.grp 1023).apsCand ≠ [252, 1, 1] ∨ (s.grp 1023).apsRun < 2)) ∧
    (∃ s : State, s = sGrp { apsAcc := some (0, 0, 5) } ∧ s.entry PROTECTION_grp 1023 = some grpE ∧
     grpE.b PROTECTION_aps = true ∧ (grpE.b PROTECTION_bidir = true ∨ grpE.b PROTECTION_type = true) ∧
     s.bridgeDiffers grpE = true) := by
  refine ⟨?_, ?_, ?_, ?_⟩
  · exact ⟨_, rfl, by decide +kernel⟩
  · exact ⟨_, rfl, by decide +kernel⟩
  · exact ⟨_, rfl, by decide +kernel⟩
  · exact ⟨_, rfl, by decide +kernel⟩

theorem witness_PathTags :
    (∃ s : State, s = sTag { due := some (0, 5) } ∧ s.mapE 262143 = some chkE ∧ (s.tagChk 262143).due = some (0, 5) ∧
     s.gl INTEGRITY_pit_en ≠ 0 ∧ s.isChecker chkE = true ∧ TagVerdict (s.tagChk 262143) 0 5 (s.expectedCtx chkE) 4) ∧
    (∃ s : State, s = sTag { due := some (2 ^ 78, 0) } [(PIT_CTX_ST_faulty, 1, 262143), (PIT_CTX_ST_ok_run, 255,
       262143)] ∧ s.mapE 262143 = some chkE ∧ (s.tagChk 262143).due = some (2 ^ 78, 0) ∧ s.gl INTEGRITY_pit_en ≠ 0 ∧
     s.isChecker chkE = true ∧ TagVerdict (s.tagChk 262143) (2 ^ 78) 0 (s.expectedCtx chkE) 0) ∧
    (∃ s : State, s = sTag { due := some (2 ^ 78, 5) } [(PIT_CTX_ST_err_run, 2, 262143)] ∧ s.mapE 262143 = some chkE ∧
     (s.tagChk 262143).due = some (2 ^ 78, 5) ∧ s.gl INTEGRITY_pit_en ≠ 0 ∧ s.isChecker chkE = true ∧
     TagVerdict (s.tagChk 262143) (2 ^ 78) 5 (s.expectedCtx chkE) 1) ∧
    (∃ s : State, s = sTag { due := some (2 ^ 78, 5), alive := 7, take := false } ∧ s.mapE 262143 = some chkE ∧
     (s.tagChk 262143).due = some (2 ^ 78, 5) ∧ s.gl INTEGRITY_pit_en ≠ 0 ∧ s.isChecker chkE = true ∧
     TagVerdict (s.tagChk 262143) (2 ^ 78) 5 (s.expectedCtx chkE) 2) := by
  refine ⟨?_, ?_, ?_, ?_⟩
  · exact ⟨_, rfl, by unfold TagVerdict; decide +kernel⟩
  · exact ⟨_, rfl, by unfold TagVerdict; decide +kernel⟩
  · exact ⟨_, rfl, by unfold TagVerdict; decide +kernel⟩
  · exact ⟨_, rfl, by unfold TagVerdict; decide +kernel⟩

theorem witness_ScrubbedErrors :
    (State.reset.targetAt 67108863 = Target.bank 7 4194303) ∧
    ((sMon [] { eb := 3, open15 := [{ day := false, start := 900 }] }).mapE 262143 = some (ent [(MAPPING_ctx, 262143),
        (MAPPING_kind, 2), (MAPPING_dir, 0)])) ∧
    ((sMon [] { eb := 3, open15 := [{ day := false, start := 900 }] }).mapE 262143 = some (ent [(MAPPING_ctx, 262143),
        (MAPPING_kind, 2), (MAPPING_dir, 0)])) := by
  refine ⟨?_, ?_, ?_⟩
  · decide +kernel
  · decide +kernel
  · decide +kernel

theorem witness_ClockReferences :
    ((sCand [(TMC_CAND_ST_qualified, 1, 15), (TMC_ST_fstate, 2, 0), (TMC_ST_hist_valid, 1, 0)]).on TMC_ST_osc_loss =
       false) ∧
    ((sCand [(TMC_ST_osc_loss, 1, 0)]).on TMC_ST_osc_loss = true) ∧
    ((sCand [(TMC_ST_fstate, 2, 0)] { runaways := [0, 0] }).on TMC_ST_osc_loss = false) ∧
    ((sCand [(TMC_ST_fstate, 2, 0)]).on TMC_ST_osc_loss = false) ∧
    ((sCand []).on TMC_CAND_ST_enabled 15 = true ∧ isPps 15 ((sCand []).candE 15) = true) ∧
    (∃ s : State, s = sCand [(TMC_SEL_fsel, 15, 0), (TMC_ST_fstate, 2, 0), (TMC_CAND_ST_qualified, 1, 15)] { cand := [(15, { edges := [3, 2, 1, 0] })] }
       ∧ s.on TMC_CAND_ST_enabled 15 = true ∧ isPps 15 (s.candE 15) = true ∧
     (({ edges := [3, 2, 1, 0] } : CandSt).edges[3]? = some 0 ∧ 40000000 - 0 ≤ 40000000)) ∧
    (∃ s : State, s = sCand [(TMC_CAND_ST_los, 1, 15)] { cand := [(15, { edges := [3, 2, 1, 0] })] } ∧
     s.on TMC_CAND_ST_enabled 15 = true ∧ isPps 15 (s.candE 15) = true) ∧
    (∃ s : State, s = sCand [(TMC_SEL_fsel, 15, 0), (TMC_SEL_tsel, 15, 0), (TMC_ST_fstate, 1, 0), (TMC_ST_tstate, 2, 0),
       (TMC_CAND_ST_qualified, 1, 15)] ∧ s.on TMC_CAND_ST_enabled 15 = true ∧ s.on TMC_CAND_ST_los 15 = false ∧
     (15 < 16 ∨ s.srcOk 15 = false)) ∧
    (∃ s : State, s = put [(TMC_CAND_ST_enabled, 1, 55)] ∧ s.on TMC_CAND_ST_enabled 55 = true ∧
     s.on TMC_CAND_ST_los 55 = false ∧ (55 < 16 ∨ s.srcOk 55 = false)) ∧
    (∃ s : State, s = sCand [(TMC_CAND_ST_los, 1, 15)] ∧ s.on TMC_CAND_ST_los 15 = true ∧ s.srcOk 15 = true) ∧
    (∃ s : State, s = sCand [(TMC_CAND_ST_chatter, 1, 15)] ∧ s.on TMC_CAND_ST_chatter 15 = true ∧
     s.on TMC_CAND_ST_los 15 = false) ∧
    ((sCand [(TMC_CAND_ST_qualified, 1, 15), (TMC_SEL_tsel, 15, 0), (TMC_ST_tstate, 1, 0)]).on TMC_CAND_ST_enabled 15 =
       true) ∧
    ((sCand [(TMC_CAND_ST_freq_fault, 1, 15)]).on TMC_CAND_ST_enabled 15 = true) ∧
    ((sCand []).faultFree 15 = true) ∧
    (State.reset.faultFree 55 = false) ∧
    (sRevert.eligible false 15 = true ∧
     (∀ (d : Nat), d < 56 → d ≠ 15 → sRevert.eligible false d = true → sRevert.candKey 15 < sRevert.candKey d) ∧
     sRevert.gl TIMING_revert = 1 ∧ sRevert.on TMC_ST_fpend = false ∧ sRevert.get TMC_SEL_fsel ≠ 15) ∧
    ((∀ (c : Nat), c < 56 → State.reset.eligible false c = false)) ∧
    (∃ s : State, s = put [(TMC_ST_fstate, 2, 0)] { tim := { hist := some 5 } } ∧ s.get TMC_ST_fstate = 2 ∧
     s.on TMC_ST_hist_valid = false) ∧
    ((put [(TMC_ST_fstate, 3, 0)]).get TMC_ST_fstate = 3) ∧
    ((put [(TMC_ST_tstate, 3, 0), (TMC_INC_inc_adj, 5, 0)]).get TMC_ST_tstate = 3) := by
  refine ⟨?_, ?_, ?_, ?_, ?_, ?_, ?_, ?_, ?_, ?_, ?_, ?_, ?_, ?_, ?_, ?_, ?_, ?_, ?_, ?_⟩
  · decide +kernel
  · decide +kernel
  · decide +kernel
  · decide +kernel
  · decide +kernel
  · exact ⟨_, rfl, by decide +kernel⟩
  · exact ⟨_, rfl, by decide +kernel⟩
  · exact ⟨_, rfl, by decide +kernel⟩
  · exact ⟨_, rfl, by decide +kernel⟩
  · exact ⟨_, rfl, by decide +kernel⟩
  · exact ⟨_, rfl, by decide +kernel⟩
  · decide +kernel
  · decide +kernel
  · decide +kernel
  · decide +kernel
  · decide +kernel
  · decide +kernel
  · exact ⟨_, rfl, by decide +kernel⟩
  · decide +kernel
  · decide +kernel

theorem witness_TimeTransfers :
    (∃ s : State, s = sCand [(TMC_ST_fpend, 1, 0), (TMC_SEL_fnext, 15, 0), (TMC_CAND_ST_qualified, 1, 15)] { tod := [3] }
       ∧ s.entries TIMEXFER_tch = [] ∧ s.on TMC_ST_fpend = true ∧ s.get TMC_SEL_fnext = 15) ∧
    (∃ s : State, s = put [(TMC_ST_fstate, 1, 0), (TMC_SEL_fsel, 15, 0)] { tim := { fGood := 15 } } ∧
     s.entries TIMEXFER_tch = [] ∧ s.on TMC_ST_fpend = false ∧ s.get TMC_ST_fstate = 1 ∧
     (s.getI TMC_CAND_FREQ_freq (s.get TMC_SEL_fsel) - s.limitF.getI TMC_FREQ_freq).natAbs ≤ s.gl TIMING_lock_ppb ∧
     15 ≤ s.tim.fGood) ∧
    ((sTch []).entry TIMEXFER_tch 31 = some tchE) ∧
    (∃ s : State, s = sTch ((tchMsg 7).set 63 0) ∧ s.entry TIMEXFER_tch 31 = some tchE ∧
     s.roundOf (tchE.n TIMEXFER_tch_host) (tchE.n TIMEXFER_tch_twig) = some ((tchMsg 7).set 63 0) ∧
     ((tchMsg 7).set 63 0).head? = some 17 ∧
     crc32c (List.take 60 ((tchMsg 7).set 63 0)) ≠ field ((tchMsg 7).set 63 0) 60 63) ∧
    (∃ s : State, s = sTch (tchMsg 8) ∧ s.entry TIMEXFER_tch 31 = some tchE ∧
     s.roundOf (tchE.n TIMEXFER_tch_host) (tchE.n TIMEXFER_tch_twig) = some (tchMsg 8) ∧ (tchMsg 8).head? = some 17 ∧
     crc32c (List.take 60 (tchMsg 8)) = field (tchMsg 8) 60 63 ∧ field (tchMsg 8) 4 7 ≠ tchE.n TIMEXFER_tch_id) ∧
    (∃ s : State, s = sTch (tchMsg 7) ∧ s.entry TIMEXFER_tch 31 = some tchE ∧
     s.roundOf (tchE.n TIMEXFER_tch_host) (tchE.n TIMEXFER_tch_twig) = some (tchMsg 7) ∧ (tchMsg 7).head? = some 17 ∧
     crc32c (List.take 60 (tchMsg 7)) = field (tchMsg 7) 60 63 ∧ field (tchMsg 7) 4 7 = tchE.n TIMEXFER_tch_id ∧
     ((sTch []).tchSt 31).tx.find? (fun p => p.1 == field (tchMsg 7) 12 15) = some (field (tchMsg 7) 12 15, 10)) ∧
    (sTod.gl TIMEXFER_todo_en 3 = 1) ∧
    (readTod todIn = some (5, 37, 0, 1, 0) ∧ 5 ≤ sTod.gl TIMEXFER_todi_win * 1000000 ∧ 4 = sTod.gl TIMEXFER_todi_baud 3) ∧
    ((readTod todIn = none ∨ sTod.gl TIMEXFER_todi_win * 1000000 < 5 ∨ 3 ≠ sTod.gl TIMEXFER_todi_baud 3)) ∧
    (inspected (sPtp 1).img 262143 0 = some (ent [(MAPPING_ctx, 262143), (MAPPING_kind, 4), (MAPPING_dir, 0),
       (MAPPING_server, 262143)]) ∧ (sPtp 1).gl TIMEXFER_tcor_en = 1 ∧
     ptpClass (sPtp 1).tpids (ptpSync 0) = PtpClass.event 14 none ∧
     262144 = signedOf 64 (field (ptpSync 0) (14 + 8) (14 + 15)) + (((sPtp 1).termOf (leadOfCtx (sPtp 1).img (ent
       [(MAPPING_ctx, 262143), (MAPPING_kind, 4), (MAPPING_dir, 0), (MAPPING_server, 262143)])) false + 800 * ↑5) *
       65536 + 500) / 1000) ∧
    (inspected (sPtp 1).img 262143 0 = some (ent [(MAPPING_ctx, 262143), (MAPPING_kind, 4), (MAPPING_dir, 0),
       (MAPPING_server, 262143)]) ∧ (sPtp 1).gl TIMEXFER_tcor_en = 1 ∧
     ptpClass (sPtp 1).tpids (ptpSync (2 ^ 63 - 1)) = PtpClass.event 14 none ∧
     2 ^ 63 - 1 + 262144 = signedOf 64 (field (ptpSync (2 ^ 63 - 1)) (14 + 8) (14 + 15)) + (((sPtp 1).termOf (leadOfCtx
       (sPtp 1).img (ent [(MAPPING_ctx, 262143), (MAPPING_kind, 4), (MAPPING_dir, 0), (MAPPING_server, 262143)])) false
       + 800 * ↑5) * 65536 + 500) / 1000) ∧
    (((sPtp 0).gl TIMEXFER_tcor_en = 0 ∨ ptpClass (sPtp 0).tpids (ptpSync 0) = PtpClass.other)) ∧
    ((sPtp 1).entry FABRIC_PAGE_mate_slot 2540 = none ∧
     ownerOf (sPtp 1).img 1 2540 = some (ent [(MAPPING_ctx, 262142), (MAPPING_kind, 4), (MAPPING_dir, 1), (MAPPING_lead,
       127), (MAPPING_server, 262142)], 0) ∧
     inspected (sPtp 1).img ((ent [(MAPPING_ctx, 262142), (MAPPING_kind, 4), (MAPPING_dir, 1), (MAPPING_lead, 127),
       (MAPPING_server, 262142)], 0).fst.n MAPPING_ctx) 1 = some (ent [(MAPPING_ctx, 262142), (MAPPING_kind, 4),
       (MAPPING_dir, 1), (MAPPING_lead, 127), (MAPPING_server, 262142)]) ∧
     (sPtp 1).readOf 2540 = some (ent [(FABRIC_PAGE_out, 2540), (FABRIC_PAGE_rd_slice, 19), (FABRIC_PAGE_src_wc, 127)])
       ∧ (sPtp 1).gl TIMEXFER_tcor_en = 1 ∧ ptpClass (sPtp 1).tpids (ptpSync 0) = PtpClass.event 14 none) ∧
    ((sPtp 1).entry FABRIC_PAGE_mate_slot 2540 = none ∧
     ownerOf (sPtp 1).img 1 2540 = some (ent [(MAPPING_ctx, 262142), (MAPPING_kind, 4), (MAPPING_dir, 1), (MAPPING_lead,
       127), (MAPPING_server, 262142)], 0) ∧
     inspected (sPtp 1).img ((ent [(MAPPING_ctx, 262142), (MAPPING_kind, 4), (MAPPING_dir, 1), (MAPPING_lead, 127),
       (MAPPING_server, 262142)], 0).fst.n MAPPING_ctx) 1 = some (ent [(MAPPING_ctx, 262142), (MAPPING_kind, 4),
       (MAPPING_dir, 1), (MAPPING_lead, 127), (MAPPING_server, 262142)]) ∧
     (sPtp 1).readOf 2540 = some (ent [(FABRIC_PAGE_out, 2540), (FABRIC_PAGE_rd_slice, 19), (FABRIC_PAGE_src_wc, 127)])
       ∧ (sPtp 1).gl TIMEXFER_tcor_en = 1 ∧
     ptpClass (sPtp 1).tpids (List.replicate 12 0 ++ [136, 229]) = PtpClass.macsec) ∧
    (State.reset.on RTC_ST_xtal_fail = false) ∧
    ((put [(RTC_ST_valid, 1, 0)] { pwr := { main := false } }).pwr.main = false) ∧
    (∃ s : State, s = put [(TMC_ST_tstate, 2, 0)] (takenAt 10 [67174400, 5, 6, 7]) ∧
     Served s 10 1025 [67174400, 5, 6, 7] ∧ s.get TMC_ST_tstate = 2) ∧
    (∃ s : State, s = takenAt 10 [67174400, 2 ^ 32 - 1, 6, 7] ∧ Served s 10 1025 [67174400, 2 ^ 32 - 1, 6, 7] ∧
     s.get TMC_ST_tstate ≠ 2 ∧ msgWord [67174400, 2 ^ 32 - 1, 6, 7] 1 < 2 ^ 32) := by
  refine ⟨?_, ?_, ?_, ?_, ?_, ?_, ?_, ?_, ?_, ?_, ?_, ?_, ?_, ?_, ?_, ?_, ?_, ?_⟩
  · exact ⟨_, rfl, by decide +kernel⟩
  · exact ⟨_, rfl, by decide +kernel⟩
  · decide +kernel
  · exact ⟨_, rfl, by decide +kernel⟩
  · exact ⟨_, rfl, by decide +kernel⟩
  · exact ⟨_, rfl, by decide +kernel⟩
  · decide +kernel
  · decide +kernel
  · decide +kernel
  · decide +kernel
  · decide +kernel
  · decide +kernel
  · decide +kernel
  · decide +kernel
  · decide +kernel
  · decide +kernel
  · exact ⟨_, rfl, by unfold Served; decide +kernel⟩
  · exact ⟨_, rfl, by unfold Served; decide +kernel⟩

theorem witness_BootAndLifecycle :
    (∃ s : State, s = put [(CP_BOOT_ST_state, 4, 0)] ∧
     (s.bootState ≠ 0 ∨ s.pwr.trip = true ∨ s.pwr.under = true ∨ s.pwr.main = false)) ∧
    (∃ s : State, s = withPwr { trip := true } ∧
     (s.bootState ≠ 0 ∨ s.pwr.trip = true ∨ s.pwr.under = true ∨ s.pwr.main = false)) ∧
    (∃ s : State, s = withPwr { main := false } ∧
     (s.bootState ≠ 0 ∨ s.pwr.trip = true ∨ s.pwr.under = true ∨ s.pwr.main = false)) ∧
    (State.reset.bootState = 0 ∧ State.reset.pwr.trip = false ∧ State.reset.pwr.under = false ∧
     State.reset.pwr.main = true ∧ oscCode ({ osc := 24000000 : BootIn }).osc = none) ∧
    (State.reset.bootState = 0 ∧ State.reset.pwr.trip = false ∧ State.reset.pwr.under = false ∧
     State.reset.pwr.main = true ∧ oscCode ({ src := 3 : BootIn }).osc = some 4 ∧
     (({ src := 3 : BootIn }).src % 4 = 3 ∨ WholeGroups State.reset.boot.fuse ∧ State.reset.get CP_LC_state = 0)) ∧
    (State.reset.bootState = 0 ∧ State.reset.pwr.trip = false ∧ State.reset.pwr.under = false ∧
     State.reset.pwr.main = true ∧ oscCode ({ : BootIn }).osc = some 4 ∧
     (({ : BootIn }).src % 4 = 3 ∨ WholeGroups State.reset.boot.fuse ∧ State.reset.get CP_LC_state = 0)) ∧
    (provisioned.bootState = 0 ∧ provisioned.pwr.trip = false ∧ provisioned.pwr.under = false ∧
     provisioned.pwr.main = true ∧ oscCode ({ rank := false : BootIn }).osc = some 4 ∧
     ({ rank := false : BootIn }).src % 4 ≠ 3 ∧ WholeGroups provisioned.boot.fuse ∧ provisioned.get CP_LC_state ≠ 0 ∧
     ({ rank := false : BootIn }).rank = false ∧ provisioned.mate.flashGnt = false) ∧
    (provisioned.bootState = 0 ∧ provisioned.pwr.trip = false ∧ provisioned.pwr.under = false ∧
     provisioned.pwr.main = true ∧ oscCode ({ : BootIn }).osc = some 4 ∧ ({ : BootIn }).src % 4 ≠ 3 ∧
     WholeGroups provisioned.boot.fuse ∧ provisioned.get CP_LC_state ≠ 0 ∧
     (({ : BootIn }).rank = true ∨ provisioned.mate.flashGnt = true) ∧
     (∀ (cs : Nat), cs ∈ bootSources (({ : BootIn }).src % 4) → provisioned.dir cs = none)) ∧
    (∃ s : State, s = provisioned { mate := { flashGnt := true } } ∧ s.bootState = 0 ∧ s.pwr.trip = false ∧
     s.pwr.under = false ∧ s.pwr.main = true ∧ oscCode ({ rank := false : BootIn }).osc = some 4 ∧
     ({ rank := false : BootIn }).src % 4 ≠ 3 ∧ WholeGroups s.boot.fuse ∧ s.get CP_LC_state ≠ 0 ∧
     (({ rank := false : BootIn }).rank = true ∨ s.mate.flashGnt = true) ∧
     (∀ (cs : Nat), cs ∈ bootSources (({ rank := false : BootIn }).src % 4) → s.dir cs = none)) ∧
    (∃ s : State, s = put [(CP_BOOT_ST_state, 4, 0), (MATE_ST_rank, 1, 0)] (flashed 2) ∧ s.bootState = 4 ∧
     s.on CP_BOOT_ST_confirmed = false ∧ s.boot.noTrial = false ∧
     s.dir (s.get CP_BOOT_ST_cs) = some (dirNow (flashed 2)) ∧
     ((dirNow (flashed 2)).slot (s.get CP_BOOT_ST_slot)).state = 2 ∧ s.flashFree = true) ∧
    (∃ s : State, s = put [(CP_BOOT_ST_confirmed, 1, 0)] ∧ (s.on CP_BOOT_ST_confirmed = true ∨ s.boot.noTrial = true)) ∧
    (∃ s : State, s = { boot := { noTrial := true } : State } ∧
     (s.on CP_BOOT_ST_confirmed = true ∨ s.boot.noTrial = true)) ∧
    (∃ s : State, s = takenAt 10 (msg 1538 [(1, 4), (12, 1), (15, 2592)]) ∧
     Served s 10 1538 (msg 1538 [(1, 4), (12, 1), (15, 2592)]) ∧
     1 ≤ msgWord (msg 1538 [(1, 4), (12, 1), (15, 2592)]) 1 ∧ msgWord (msg 1538 [(1, 4), (12, 1), (15, 2592)]) 1 ≤ 4 ∧
     s.bulkFault (msg 1538 [(1, 4), (12, 1), (15, 2592)]) ({ : BulkIn }).ok (max (64 * msgWord (msg 1538 [(1, 4), (12,
       1), (15, 2592)]) 1) 2592) = none ∧ s.get CP_LC_state = 0 ∧ s.inBackground 1538 = false) ∧
    (Served (takenAt 10 (msg 1538 [(1, 0)])) 10 1538 (msg 1538 [(1, 0)]) ∧
     (msgWord (msg 1538 [(1, 0)]) 1 = 0 ∨ 4 < msgWord (msg 1538 [(1, 0)]) 1)) ∧
    (Served (takenAt 10 (msg 1538 [(1, 5)])) 10 1538 (msg 1538 [(1, 5)]) ∧
     (msgWord (msg 1538 [(1, 5)]) 1 = 0 ∨ 4 < msgWord (msg 1538 [(1, 5)]) 1)) ∧
    (∃ s : State, s = takenAt 8 (msg 1538 [(1, 4), (12, 1), (15, 2592)]) (put [(CP_LC_state, 1, 0)]) ∧
     Served s 8 1538 (msg 1538 [(1, 4), (12, 1), (15, 2592)]) ∧ 1 ≤ msgWord (msg 1538 [(1, 4), (12, 1), (15, 2592)]) 1 ∧
     msgWord (msg 1538 [(1, 4), (12, 1), (15, 2592)]) 1 ≤ 4 ∧
     s.bulkFault (msg 1538 [(1, 4), (12, 1), (15, 2592)]) ({ : BulkIn }).ok (max (64 * msgWord (msg 1538 [(1, 4), (12,
       1), (15, 2592)]) 1) 2592) = none ∧ s.get CP_LC_state ≠ 0) ∧
    (∃ s : State, s = takenAt 10 (tokMsg 1539 2) (linked []) ∧
     (TokenVerifies s (tokMsg 1539 2) { data := tokOf 1539 2 zeros } → Served s 10 1539 (tokMsg 1539 2) ∧ (s.get
       CP_LC_state = 1 ∧ (msgWord (tokMsg 1539 2) 1 = 2 ∨ msgWord (tokMsg 1539 2) 1 = 3) ∨ s.get CP_LC_state = 2 ∧
       msgWord (tokMsg 1539 2) 1 = 3) ∧ s.inBackground 1539 = false ∧ TokenGiven s (tokMsg 1539 2) { data := tokOf 1539 2 zeros }
       1539 (msgWord (tokMsg 1539 2) 1) (List.replicate 32 0))) ∧
    (∃ s : State, s = takenAt 8 (tokMsg 1539 3) (linked [(CP_LC_state, 2, 0)]) ∧
     (TokenVerifies s (tokMsg 1539 3) { data := tokOf 1539 3 zeros } → Served s 8 1539 (tokMsg 1539 3) ∧ (s.get
       CP_LC_state = 1 ∧ (msgWord (tokMsg 1539 3) 1 = 2 ∨ msgWord (tokMsg 1539 3) 1 = 3) ∨ s.get CP_LC_state = 2 ∧
       msgWord (tokMsg 1539 3) 1 = 3) ∧ s.inBackground 1539 = false ∧ TokenGiven s (tokMsg 1539 3) { data := tokOf 1539 3 zeros }
       1539 (msgWord (tokMsg 1539 3) 1) (List.replicate 32 0))) ∧
    (∃ s : State, s = takenAt 10 (tokMsg 1539 2) (linked [(CP_LC_state, 2, 0)]) ∧ Served s 10 1539 (tokMsg 1539 2) ∧
     msgWord (tokMsg 1539 2) 1 = 2 ∧ s.get CP_LC_state = 2) ∧
    (∃ s : State, s = takenAt 10 (tokMsg 1540 1) (linked []) ∧
     (TokenVerifies s (tokMsg 1540 1) { data := tokOf 1540 1 zeros } → Served s 10 1540 (tokMsg 1540 1) ∧ msgWord
       (tokMsg 1540 1) 1 < 4 ∧ s.get CP_LC_state ≠ 0 ∧ List.filter (fun i => !s.boot.fuse.revoked.contains i) (List.map
       (fun x => x.fst) s.boot.fuse.keys) ≠ [msgWord (tokMsg 1540 1) 1] ∧ s.get CP_LC_key_used ≠ msgWord (tokMsg 1540 1)
       1 ∧ TokenGiven s (tokMsg 1540 1) { data := tokOf 1540 1 zeros } 1540 (msgWord (tokMsg 1540 1) 1) (List.replicate
       32 0) ∧ tokenSlot (List.take tokenBytes (s.bulkBytes (tokMsg 1540 1) { data := tokOf 1540 1 zeros })) ≠ msgWord
       (tokMsg 1540 1) 1)) ∧
    (∃ s : State, s = takenAt 10 (tokMsg 1540 0) (linked []) ∧ Served s 10 1540 (tokMsg 1540 0) ∧
     msgWord (tokMsg 1540 0) 1 < 4 ∧ s.get CP_LC_key_used = msgWord (tokMsg 1540 0) 1) ∧
    (∃ s : State, s = takenAt 10 (tokMsg 1541 0) (linked [(CP_LC_boot_state, 1, 0)]) ∧
     (TokenVerifies s (tokMsg 1541 0) { data := tokOf 1541 0 zeros } → Served s 10 1541 (tokMsg 1541 0) ∧ s.get
       CP_LC_boot_state = 1 ∧ TokenGiven s (tokMsg 1541 0) { data := tokOf 1541 0 zeros } 1541 0 (List.replicate 32 0))) ∧
    (∃ s : State, s = takenAt 10 (tokMsg 1541 0) ∧ Served s 10 1541 (tokMsg 1541 0) ∧ s.get CP_LC_boot_state ≠ 1) ∧
    (∃ s : State, s = withPwr { main := false } ∧ bit s.host.hold 1 = false ∧ s.pwr.main = false) ∧
    (bit sTamper.host.hold 1 = false ∧ sTamper.pwr.main = true ∧ sTamper.gl SECURITY_tamper_en 1 = 1) ∧
    (∃ s : State, s = { img := secImg [(0, 1)] : State } ∧ bit s.host.hold 0 = false ∧ s.pwr.main = true ∧
     s.gl SECURITY_tamper_en = 1) ∧
    (bit State.reset.host.hold 1 = false ∧ State.reset.pwr.main = true ∧ State.reset.gl SECURITY_tamper_en 1 ≠ 1) ∧
    (bit (put [(CP_TAMPER_level, 3, 0)] { img := secImg [(0, 1), (1, 1)], host := { hold := 3 } }).host.hold 1 = true) ∧
    ((put [(CP_BOOT_ST_state, 4, 0), (CP_RUN_lockstep, 65535, 0), (BM_SEM_lock, 1, 63), (BM_SEM_holder, 1, 63)] { mem := [(1048576, 1), (2097152, 1)] }).cpRuns
       = true) ∧
    (∃ s : State, s = put [(CP_BOOT_ST_state, 4, 0)] (withPwr { up := 976563 }) ∧ s.cpRuns = true ∧
     s.bus.kickAt + ceilDiv (s.gl SECURITY_cp_wdog_ms * 10000000) 1024 ≤ s.pwr.up) ∧
    (∃ s : State, s = withPwr { up := 976562 } ∧
     s.pwr.up < s.bus.kickAt + ceilDiv (s.gl SECURITY_cp_wdog_ms * 10000000) 1024) ∧
    (srcMaster (Src.master 1 true) ≠ 2 ∧ State.reset.issues { src := Src.master 1 true, addr := 0 } = true ∧
     State.reset.secureSrc (Src.master 1 true) 285212672 = true) ∧
    (srcMaster (Src.master 1 false) ≠ 2 ∧ State.reset.issues { src := Src.master 1 false, addr := 0 } = true ∧
     State.reset.secureSrc (Src.master 1 false) 285212672 = false) ∧
    (({ bus := { cpHalt := true }, host := { taken := [(10, [0])] } : State }).bus.cpHalt = true) ∧
    (State.reset.bus.cpHalt = false) := by
  refine ⟨?_, ?_, ?_, ?_, ?_, ?_, ?_, ?_, ?_, ?_, ?_, ?_, ?_, ?_, ?_, ?_, ?_, ?_, ?_, ?_, ?_, ?_, ?_, ?_, ?_, ?_, ?_, ?_, ?_, ?_, ?_, ?_, ?_, ?_, ?_⟩
  · exact ⟨_, rfl, by decide +kernel⟩
  · exact ⟨_, rfl, by decide +kernel⟩
  · exact ⟨_, rfl, by decide +kernel⟩
  · decide +kernel
  · unfold WholeGroups
    decide +kernel
  · unfold WholeGroups
    decide +kernel
  · unfold WholeGroups
    decide +kernel
  · unfold WholeGroups
    decide +kernel
  · exact ⟨_, rfl, by unfold WholeGroups; decide +kernel⟩
  · exact ⟨_, rfl, by decide +kernel⟩
  · exact ⟨_, rfl, by decide +kernel⟩
  · exact ⟨_, rfl, by decide +kernel⟩
  · exact ⟨_, rfl, by unfold Served; decide +kernel⟩
  · unfold Served
    decide +kernel
  · unfold Served
    decide +kernel
  · exact ⟨_, rfl, by unfold Served; decide +kernel⟩
  · exact ⟨_, rfl, fun h => ⟨by unfold Served; decide +kernel, by decide +kernel, by decide +kernel, tokenGiven_of (by decide +kernel) (by decide +kernel) (by decide +kernel) h⟩⟩
  · exact ⟨_, rfl, fun h => ⟨by unfold Served; decide +kernel, by decide +kernel, by decide +kernel, tokenGiven_of (by decide +kernel) (by decide +kernel) (by decide +kernel) h⟩⟩
  · exact ⟨_, rfl, by unfold Served; decide +kernel⟩
  · exact ⟨_, rfl, fun h => ⟨by unfold Served; decide +kernel, by decide +kernel, by decide +kernel, by decide +kernel, by decide +kernel, tokenGiven_of (by decide +kernel) (by decide +kernel) (by decide +kernel) h, by decide +kernel⟩⟩
  · exact ⟨_, rfl, by unfold Served; decide +kernel⟩
  · exact ⟨_, rfl, fun h => ⟨by unfold Served; decide +kernel, by decide +kernel, tokenGiven_of (by decide +kernel) (by decide +kernel) (by decide +kernel) h⟩⟩
  · exact ⟨_, rfl, by unfold Served; decide +kernel⟩
  · exact ⟨_, rfl, by decide +kernel⟩
  · decide +kernel
  · exact ⟨_, rfl, by decide +kernel⟩
  · decide +kernel
  · decide +kernel
  · decide +kernel
  · exact ⟨_, rfl, by decide +kernel⟩
  · exact ⟨_, rfl, by decide +kernel⟩
  · decide +kernel
  · decide +kernel
  · decide +kernel
  · decide +kernel

theorem witness_SessionsAndQueries :
    (Served (takenAt 10 (msg 2 [])) 10 2 (msg 2 [])) ∧
    (∃ s : State, s = takenAt 10 (tokMsg 3 0) (linked [] nonced) ∧
     (TokenVerifies s (tokMsg 3 0) { data := tokOf 3 0 (List.replicate 32 9) } → Served s 10 3 (tokMsg 3 0) ∧ s.nonceOf
       10 = some (List.replicate 32 9) ∧ TokenGiven s (tokMsg 3 0) { data := tokOf 3 0 (List.replicate 32 9) } 3 0
       (List.replicate 32 9))) ∧
    (∃ s : State, s = takenAt 10 (tokMsg 3 0) (linked []) ∧ Served s 10 3 (tokMsg 3 0) ∧ s.nonceOf 10 = none ∧
     s.bulkFault (tokMsg 3 0) ({ data := tokOf 3 0 zeros : BulkIn }).ok tokenBytes = none) ∧
    (∃ s : State, s = takenAt 0 (msg 4 []) (put [(CP_LC_state, 1, 0), (BM_HOST_WORLD_pcie_sec, 1, 0)]) ∧
     Served s 0 4 (msg 4 []) ∧ s.get CP_LC_state ≠ 0) ∧
    (∃ s : State, s = takenAt 0 (msg 4 []) (put [(BM_HOST_WORLD_pcie_sec, 1, 0)]) ∧ Served s 0 4 (msg 4 []) ∧
     s.get CP_LC_state = 0) ∧
    (∃ s : State, s = put [(CP_LC_state, 1, 0), (BM_HOST_WORLD_pcie_sec, 1, 0)] ∧ s.on BM_HOST_WORLD_pcie_sec = true ∧
     s.get CP_LC_state ≠ 0) ∧
    (∃ s : State, s = put [(BM_HOST_WORLD_pcie_sec, 1, 0)] ∧
     (s.on BM_HOST_WORLD_pcie_sec = false ∨ s.get CP_LC_state = 0)) ∧
    (Served (takenAt 10 (msg 1 [])) 10 1 (msg 1 []) ∧ msgWord (msg 1 []) 1 = 0) ∧
    (Served (takenAt 10 (msg 1 [(1, 1), (2, 16)])) 10 1 (msg 1 [(1, 1), (2, 16)]) ∧
     msgWord (msg 1 [(1, 1), (2, 16)]) 1 = 1 ∧ 1 ≤ msgWord (msg 1 [(1, 1), (2, 16)]) 2 ∧
     msgWord (msg 1 [(1, 1), (2, 16)]) 2 ≤ 16) ∧
    (Served (takenAt 10 (msg 1 [(1, 1), (2, 1)])) 10 1 (msg 1 [(1, 1), (2, 1)]) ∧
     msgWord (msg 1 [(1, 1), (2, 1)]) 1 = 1 ∧ 1 ≤ msgWord (msg 1 [(1, 1), (2, 1)]) 2 ∧
     msgWord (msg 1 [(1, 1), (2, 1)]) 2 ≤ 16) ∧
    (∃ s : State, s = takenAt 10 (msg 1 [(1, 6)]) (flashed 2) ∧ Served s 10 1 (msg 1 [(1, 6)]) ∧
     msgWord (msg 1 [(1, 6)]) 1 = 6 ∧ s.dir (s.get CP_BOOT_ST_cs) = some (dirNow (flashed 2))) ∧
    (Served (takenAt 10 (msg 1 [(1, 7)])) 10 1 (msg 1 [(1, 7)]) ∧
     (6 < msgWord (msg 1 [(1, 7)]) 1 ∨ msgWord (msg 1 [(1, 7)]) 1 = 1 ∧ (msgWord (msg 1 [(1, 7)]) 2 = 0 ∨ 16 < msgWord
       (msg 1 [(1, 7)]) 2))) ∧
    (Served (takenAt 10 (msg 1 [(1, 1), (2, 17)])) 10 1 (msg 1 [(1, 1), (2, 17)]) ∧
     (6 < msgWord (msg 1 [(1, 1), (2, 17)]) 1 ∨ msgWord (msg 1 [(1, 1), (2, 17)]) 1 = 1 ∧ (msgWord (msg 1 [(1, 1), (2,
       17)]) 2 = 0 ∨ 16 < msgWord (msg 1 [(1, 1), (2, 17)]) 2))) ∧
    (∃ s : State, s = takenAt 10 (msg 1537 [(1, 5), (8, 6), (12, 2), (15, 4888)]) (linked [(CP_LC_id_key, 1, 0)]) ∧
     Served s 10 1537 (msg 1537 [(1, 5), (8, 6), (12, 2), (15, 4888)]) ∧
     (s.get CP_LC_state = 1 ∨ s.get CP_LC_state = 2) ∧ s.on CP_LC_id_key = true ∧
     s.bulkFault (msg 1537 [(1, 5), (8, 6), (12, 2), (15, 4888)]) ({ : BulkIn }).ok 4888 = none) ∧
    (∃ s : State, s = takenAt 10 (msg 1537 []) ∧ Served s 10 1537 (msg 1537 []) ∧
     (s.get CP_LC_state = 0 ∨ s.get CP_LC_state = 3 ∨ s.on CP_LC_id_key = false)) ∧
    (∃ s : State, s = takenAt 10 (msg 1537 []) (linked []) ∧ Served s 10 1537 (msg 1537 []) ∧
     (s.get CP_LC_state = 0 ∨ s.get CP_LC_state = 3 ∨ s.on CP_LC_id_key = false)) ∧
    (∃ s : State, s = takenAt 10 (msg 1281 [(1, 2), (2, 256), (12, 2), (15, 1048320)]) (linked [(CP_BOOT_ST_slot, 1, 0)]
       (flashed 3)) ∧ Served s 10 1281 (msg 1281 [(1, 2), (2, 256), (12, 2), (15, 1048320)]) ∧
     slice (msgWord (msg 1281 [(1, 2), (2, 256), (12, 2), (15, 1048320)]) 1) 2 1 ≤ 1 ∧
     msgWord (msg 1281 [(1, 2), (2, 256), (12, 2), (15, 1048320)]) 2 % 256 = 0 ∧
     msgWord (msg 1281 [(1, 2), (2, 256), (12, 2), (15, 1048320)]) 15 % 256 = 0 ∧
     0 < msgWord (msg 1281 [(1, 2), (2, 256), (12, 2), (15, 1048320)]) 15 ∧
     msgWord (msg 1281 [(1, 2), (2, 256), (12, 2), (15, 1048320)]) 15 ≤ 1048576 ∧
     s.dir (msgWord (msg 1281 [(1, 2), (2, 256), (12, 2), (15, 1048320)]) 1 % 2) = some (dirNow (flashed 3)) ∧
     msgWord (msg 1281 [(1, 2), (2, 256), (12, 2), (15, 1048320)]) 2 + msgWord (msg 1281 [(1, 2), (2, 256), (12, 2),
       (15, 1048320)]) 15 ≤ ((dirNow (flashed 3)).slot (slice (msgWord (msg 1281 [(1, 2), (2, 256), (12, 2), (15,
       1048320)]) 1) 2 1)).size ∧
     s.bulkFault (msg 1281 [(1, 2), (2, 256), (12, 2), (15, 1048320)]) ({ : BulkIn }).ok 0 = none ∧ s.bootState = 4 ∧
     s.get CP_BOOT_ST_cs = msgWord (msg 1281 [(1, 2), (2, 256), (12, 2), (15, 1048320)]) 1 % 2 ∧
     s.get CP_BOOT_ST_slot = slice (msgWord (msg 1281 [(1, 2), (2, 256), (12, 2), (15, 1048320)]) 1) 2 1) ∧
    (∃ s : State, s = takenAt 10 (msg 1281 [(1, 2), (2, 256), (12, 2), (15, 1048320)]) (linked [(MATE_ST_rank, 1, 0)]
       (flashed 3)) ∧ Served s 10 1281 (msg 1281 [(1, 2), (2, 256), (12, 2), (15, 1048320)]) ∧
     slice (msgWord (msg 1281 [(1, 2), (2, 256), (12, 2), (15, 1048320)]) 1) 2 1 ≤ 1 ∧
     msgWord (msg 1281 [(1, 2), (2, 256), (12, 2), (15, 1048320)]) 2 % 256 = 0 ∧
     msgWord (msg 1281 [(1, 2), (2, 256), (12, 2), (15, 1048320)]) 15 % 256 = 0 ∧
     0 < msgWord (msg 1281 [(1, 2), (2, 256), (12, 2), (15, 1048320)]) 15 ∧
     msgWord (msg 1281 [(1, 2), (2, 256), (12, 2), (15, 1048320)]) 15 ≤ 1048576 ∧
     s.dir (msgWord (msg 1281 [(1, 2), (2, 256), (12, 2), (15, 1048320)]) 1 % 2) = some (dirNow (flashed 3)) ∧
     msgWord (msg 1281 [(1, 2), (2, 256), (12, 2), (15, 1048320)]) 2 + msgWord (msg 1281 [(1, 2), (2, 256), (12, 2),
       (15, 1048320)]) 15 ≤ ((dirNow (flashed 3)).slot (slice (msgWord (msg 1281 [(1, 2), (2, 256), (12, 2), (15,
       1048320)]) 1) 2 1)).size ∧
     s.bulkFault (msg 1281 [(1, 2), (2, 256), (12, 2), (15, 1048320)]) ({ : BulkIn }).ok 0 = none ∧
     (¬(s.bootState = 4 ∧ s.get CP_BOOT_ST_cs = msgWord (msg 1281 [(1, 2), (2, 256), (12, 2), (15, 1048320)]) 1 % 2 ∧
       s.get CP_BOOT_ST_slot = slice (msgWord (msg 1281 [(1, 2), (2, 256), (12, 2), (15, 1048320)]) 1) 2 1)) ∧
     s.protects (msgWord (msg 1281 [(1, 2), (2, 256), (12, 2), (15, 1048320)]) 1 % 2) (((dirNow (flashed 3)).slot (slice
       (msgWord (msg 1281 [(1, 2), (2, 256), (12, 2), (15, 1048320)]) 1) 2 1)).base + msgWord (msg 1281 [(1, 2), (2,
       256), (12, 2), (15, 1048320)]) 2) (msgWord (msg 1281 [(1, 2), (2, 256), (12, 2), (15, 1048320)]) 15) = false ∧
     s.inBackground 1281 = false) ∧
    (Served (takenAt 10 (msg 1281 [])) 10 1281 (msg 1281 []) ∧
     (msgWord (msg 1281 []) 15 = 0 ∨ msgWord (msg 1281 []) 15 % 256 ≠ 0 ∨ 1048576 < msgWord (msg 1281 []) 15 ∨ msgWord
       (msg 1281 []) 2 % 256 ≠ 0)) ∧
    (Served (takenAt 10 (msg 1281 [(15, 1048832)])) 10 1281 (msg 1281 [(15, 1048832)]) ∧
     (msgWord (msg 1281 [(15, 1048832)]) 15 = 0 ∨ msgWord (msg 1281 [(15, 1048832)]) 15 % 256 ≠ 0 ∨ 1048576 < msgWord
       (msg 1281 [(15, 1048832)]) 15 ∨ msgWord (msg 1281 [(15, 1048832)]) 2 % 256 ≠ 0)) ∧
    (∃ s : State, s = takenAt 10 (msg 769 [(1, 8), (12, 1)]) ∧ Served s 10 769 (msg 769 [(1, 8), (12, 1)]) ∧
     (msgWord (msg 769 [(1, 8), (12, 1)]) 1 < 4 ∨ msgWord (msg 769 [(1, 8), (12, 1)]) 1 = 8) ∧
     s.bulkFault (msg 769 [(1, 8), (12, 1)]) true 0 = none ∧ s.inBackground 769 = false) ∧
    (∃ s : State, s = takenAt 10 (msg 769 [(1, 3), (12, 1)]) { host := { bg := [{ chan := 0, op := 769, msg := [] }] } }
       ∧ Served s 10 769 (msg 769 [(1, 3), (12, 1)]) ∧
     (msgWord (msg 769 [(1, 3), (12, 1)]) 1 < 4 ∨ msgWord (msg 769 [(1, 3), (12, 1)]) 1 = 8) ∧
     s.bulkFault (msg 769 [(1, 3), (12, 1)]) true 0 = none ∧ s.inBackground 769 = true) ∧
    (Served (takenAt 10 (msg 769 [(1, 4), (12, 1)])) 10 769 (msg 769 [(1, 4), (12, 1)]) ∧
     4 ≤ msgWord (msg 769 [(1, 4), (12, 1)]) 1 ∧ msgWord (msg 769 [(1, 4), (12, 1)]) 1 ≠ 8) ∧
    (Served (takenAt 10 (msg 769 [(1, 9), (12, 1)])) 10 769 (msg 769 [(1, 9), (12, 1)]) ∧
     4 ≤ msgWord (msg 769 [(1, 9), (12, 1)]) 1 ∧ msgWord (msg 769 [(1, 9), (12, 1)]) 1 ≠ 8) ∧
    (∃ s : State, s = takenAt 10 (msg 770 [(12, 1)]) ∧ Served s 10 770 (msg 770 [(12, 1)]) ∧
     s.bulkFault (msg 770 [(12, 1)]) true 0 = none ∧ s.inBackground 770 = false) ∧
    (∃ s : State, s = takenAt 10 (msg 770 [(12, 1)]) { host := { bg := [{ chan := 0, op := 770, msg := [] }] } } ∧
     Served s 10 770 (msg 770 [(12, 1)]) ∧ s.bulkFault (msg 770 [(12, 1)]) true 0 = none ∧ s.inBackground 770 = true) ∧
    (∃ s : State, s = bgd { chan := 10, op := 1537, msg := msg 1537 [], mark := 1 } ∧ s.cpRuns = true ∧
     s.bgOf 10 = some { chan := 10, op := 1537, msg := msg 1537 [], mark := 1 } ∧
     ({ chan := 10, op := 1537, msg := msg 1537 [], mark := 1 : BgCmd }).mark = 1 ∧
     ({ chan := 10, op := 1537, msg := msg 1537 [], mark := 1 : BgCmd }).op = 1537) ∧
    (∃ s : State, s = bgd { chan := 10, op := 1539, msg := msg 1539 [(1, 2)] } { boot := { fuse := { depl := 1 } } } ∧
     s.cpRuns = true ∧ s.bgOf 10 = some { chan := 10, op := 1539, msg := msg 1539 [(1, 2)] } ∧
     ({ chan := 10, op := 1539, msg := msg 1539 [(1, 2)] : BgCmd }).mark = 0 ∧
     ({ chan := 10, op := 1539, msg := msg 1539 [(1, 2)] : BgCmd }).op = 1539) ∧
    (∃ s : State, s = bgd { chan := 10, op := 1281, msg := msg 1281 [(1, 2), (2, 256), (12, 2), (15, 256)], data := page }
       (put [(MATE_ST_rank, 1, 0)] (flashed 3)) ∧ s.cpRuns = true ∧
     s.bgOf 10 = some { chan := 10, op := 1281, msg := msg 1281 [(1, 2), (2, 256), (12, 2), (15, 256)], data := page } ∧
     ({ chan := 10, op := 1281, msg := msg 1281 [(1, 2), (2, 256), (12, 2), (15, 256)], data := page : BgCmd }).mark = 0
       ∧
     ({ chan := 10, op := 1281, msg := msg 1281 [(1, 2), (2, 256), (12, 2), (15, 256)], data := page : BgCmd }).op =
       1281 ∧ ({ : DoneIn }).err = false ∧ s.flashFree = true ∧
     bit (msgWord ({ chan := 10, op := 1281, msg := msg 1281 [(1, 2), (2, 256), (12, 2), (15, 256)], data := page : BgCmd }).msg
       3) 0 = false ∧
     s.dir (msgWord ({ chan := 10, op := 1281, msg := msg 1281 [(1, 2), (2, 256), (12, 2), (15, 256)], data := page : BgCmd }).msg
       1 % 2) = some (dirNow (flashed 3))) ∧
    (∃ s : State, s = bgd { chan := 10, op := 770, msg := msg 770 [(1, 1), (12, 1), (15, 64)] } { rcd := { hq := [(4, { pm := [List.replicate 64 5, [6]], disc := 3, mark := 2 })] } }
       ∧ s.cpRuns = true ∧ s.bgOf 10 = some { chan := 10, op := 770, msg := msg 770 [(1, 1), (12, 1), (15, 64)] } ∧
     ({ chan := 10, op := 770, msg := msg 770 [(1, 1), (12, 1), (15, 64)] : BgCmd }).mark = 0 ∧
     ({ chan := 10, op := 770, msg := msg 770 [(1, 1), (12, 1), (15, 64)] : BgCmd }).op = 770 ∧
     s.bulkFault ({ chan := 10, op := 770, msg := msg 770 [(1, 1), (12, 1), (15, 64)] : BgCmd }).msg ({ : DoneIn }).ok 0
       = none ∧
     takeFit (msgWord ({ chan := 10, op := 770, msg := msg 770 [(1, 1), (12, 1), (15, 64)] : BgCmd }).msg 1) (msgWord ({ chan := 10, op := 770, msg := msg 770 [(1, 1), (12, 1), (15, 64)] : BgCmd }).msg
       15) (s.hqSt 4).pm = [List.replicate 64 5] ∧ [List.replicate 64 5] ≠ []) ∧
    ((State.reset.cpRuns = false ∨ State.reset.bgOf 10 = none)) ∧
    (∃ s : State, s = put [(CP_BOOT_ST_state, 4, 0)] ∧ (s.cpRuns = false ∨ s.bgOf 10 = none)) := by
  refine ⟨?_, ?_, ?_, ?_, ?_, ?_, ?_, ?_, ?_, ?_, ?_, ?_, ?_, ?_, ?_, ?_, ?_, ?_, ?_, ?_, ?_, ?_, ?_, ?_, ?_, ?_, ?_, ?_, ?_, ?_, ?_, ?_⟩
  · unfold Served
    decide +kernel
  · exact ⟨_, rfl, fun h => ⟨by unfold Served; decide +kernel, by decide +kernel, tokenGiven_of (by decide +kernel) (by decide +kernel) (by decide +kernel) h⟩⟩
  · exact ⟨_, rfl, by unfold Served; decide +kernel⟩
  · exact ⟨_, rfl, by unfold Served; decide +kernel⟩
  · exact ⟨_, rfl, by unfold Served; decide +kernel⟩
  · exact ⟨_, rfl, by decide +kernel⟩
  · exact ⟨_, rfl, by decide +kernel⟩
  · unfold Served
    decide +kernel
  · unfold Served
    decide +kernel
  · unfold Served
    decide +kernel
  · exact ⟨_, rfl, by unfold Served; decide +kernel⟩
  · unfold Served
    decide +kernel
  · unfold Served
    decide +kernel
  · exact ⟨_, rfl, by unfold Served; decide +kernel⟩
  · exact ⟨_, rfl, by unfold Served; decide +kernel⟩
  · exact ⟨_, rfl, by unfold Served; decide +kernel⟩
  · exact ⟨_, rfl, by unfold Served; decide +kernel⟩
  · exact ⟨_, rfl, by unfold Served; decide +kernel⟩
  · unfold Served
    decide +kernel
  · unfold Served
    decide +kernel
  · exact ⟨_, rfl, by unfold Served; decide +kernel⟩
  · exact ⟨_, rfl, by unfold Served; decide +kernel⟩
  · unfold Served
    decide +kernel
  · unfold Served
    decide +kernel
  · exact ⟨_, rfl, by unfold Served; decide +kernel⟩
  · exact ⟨_, rfl, by unfold Served; decide +kernel⟩
  · exact ⟨_, rfl, by decide +kernel⟩
  · exact ⟨_, rfl, by decide +kernel⟩
  · exact ⟨_, rfl, by decide +kernel⟩
  · exact ⟨_, rfl, by decide +kernel⟩
  · decide +kernel
  · exact ⟨_, rfl, by decide +kernel⟩

theorem witness_BusAccesses :
    ((bank7 []).issues q7 = true ∧ q7.lock = LockMark.plain ∧ q7.cut = none ∧ 1 ≤ q7.len ∧ q7.len ≤ 512 ∧
     (∀ (i : Nat), i < q7.len → (bank7 []).targetAt (q7.addr + i) = Target.bank 7 (4194300 + i)) ∧
     (srcMaster q7.src = 2 → 268435456 ≤ q7.addr) ∧ (bank7 []).lockedOut (srcMaster q7.src) 7 = false ∧
     ((bank7 []).secureTarget (Target.bank 7 4194300) = false ∨ (bank7 []).secureSrc q7.src 0 = true) ∧
     (bank7 []).get MB_ST_power 7 = 0 ∧ (bank7 []).mayUse (srcMaster q7.src) 7 = true ∧ q7.write = true ∧
     q7.data.length = q7.len ∧ (7 = 5 → (bank7 []).tamperHeld = false)) ∧
    ((bank7 []).issues q7r = true ∧ q7r.lock = LockMark.plain ∧ q7r.cut = none ∧ 1 ≤ q7r.len ∧ q7r.len ≤ 512 ∧
     (∀ (i : Nat), i < q7r.len → (bank7 []).targetAt (q7r.addr + i) = Target.bank 7 (4193792 + i)) ∧
     (srcMaster q7r.src = 2 → 268435456 ≤ q7r.addr) ∧ (bank7 []).lockedOut (srcMaster q7r.src) 7 = false ∧
     ((bank7 []).secureTarget (Target.bank 7 4193792) = false ∨ (bank7 []).secureSrc q7r.src 0 = true) ∧
     (bank7 []).get MB_ST_power 7 = 0 ∧ (bank7 []).mayUse (srcMaster q7r.src) 7 = true ∧ q7r.write = false) ∧
    (∃ s : State, s = put [(MB_ST_power, 3, 7)] ∧ s.issues q7 = true ∧ q7.lock = LockMark.plain ∧ q7.cut = none ∧
     1 ≤ q7.len ∧ q7.len ≤ 512 ∧ (∀ (i : Nat), i < q7.len → s.targetAt (q7.addr + i) = Target.bank 7 (4194300 + i)) ∧
     (srcMaster q7.src = 2 → 268435456 ≤ q7.addr) ∧ s.lockedOut (srcMaster q7.src) 7 = false ∧
     (s.secureTarget (Target.bank 7 4194300) = false ∨ s.secureSrc q7.src 0 = true) ∧ s.get MB_ST_power 7 ≠ 0) ∧
    (∃ s : State, s = put [(MB_ST_power, 1, 7)] ∧ s.issues q7r = true ∧ q7r.lock = LockMark.plain ∧ q7r.cut = none ∧
     1 ≤ q7r.len ∧ q7r.len ≤ 512 ∧
     (∀ (i : Nat), i < q7r.len → s.targetAt (q7r.addr + i) = Target.bank 7 (4193792 + i)) ∧
     (srcMaster q7r.src = 2 → 268435456 ≤ q7r.addr) ∧ s.lockedOut (srcMaster q7r.src) 7 = false ∧
     (s.secureTarget (Target.bank 7 4193792) = false ∨ s.secureSrc q7r.src 0 = true) ∧ s.get MB_ST_power 7 ≠ 0) ∧
    (∃ s : State, s = put [(MB_ST_owner, 3, 7), (MB_ST_share, 0, 7), (MB_ACC_deny, 65535, 7)] ∧ s.issues q7 = true ∧
     q7.lock = LockMark.plain ∧ q7.cut = none ∧ 1 ≤ q7.len ∧ q7.len ≤ 512 ∧
     (∀ (i : Nat), i < q7.len → s.targetAt (q7.addr + i) = Target.bank 7 (4194300 + i)) ∧
     (srcMaster q7.src = 2 → 268435456 ≤ q7.addr) ∧ s.lockedOut (srcMaster q7.src) 7 = false ∧
     (s.secureTarget (Target.bank 7 4194300) = false ∨ s.secureSrc q7.src 0 = true) ∧ s.get MB_ST_power 7 = 0 ∧
     s.mayUse (srcMaster q7.src) 7 = false) ∧
    (State.reset.issues q6 = true ∧ q6.lock = LockMark.plain ∧ q6.cut = none ∧ 1 ≤ q6.len ∧ q6.len ≤ 512 ∧
     (∀ (i : Nat), i < q6.len → State.reset.targetAt (q6.addr + i) = Target.bank 6 (4194300 + i)) ∧
     (srcMaster q6.src = 2 → 268435456 ≤ q6.addr) ∧ State.reset.lockedOut (srcMaster q6.src) 6 = false ∧
     (State.reset.secureTarget (Target.bank 6 4194300) = false ∨ State.reset.secureSrc q6.src 0 = true) ∧
     State.reset.get MB_ST_power 6 = 0 ∧ State.reset.mayUse (srcMaster q6.src) 6 = true ∧ q6.write = true ∧
     q6.data.length = q6.len ∧ (6 = 5 → State.reset.tamperHeld = false)) ∧
    (sMb2.issues q2r = true ∧ q2r.lock = LockMark.plain ∧ q2r.cut = none ∧ 1 ≤ q2r.len ∧ q2r.len ≤ 512 ∧
     (∀ (i : Nat), i < q2r.len → sMb2.targetAt (q2r.addr + i) = Target.bank 2 (16777152 + i)) ∧
     (srcMaster q2r.src = 2 → 268435456 ≤ q2r.addr) ∧ sMb2.lockedOut (srcMaster q2r.src) 2 = false ∧
     (sMb2.secureTarget (Target.bank 2 16777152) = false ∨ sMb2.secureSrc q2r.src 0 = true) ∧
     sMb2.get MB_ST_power 2 = 0 ∧ sMb2.mayUse (srcMaster q2r.src) 2 = true ∧ q2r.write = false) ∧
    (State.reset.issues qn5 = true ∧ qn5.lock = LockMark.plain ∧ qn5.cut = none ∧ 1 ≤ qn5.len ∧ qn5.len ≤ 512 ∧
     (∀ (i : Nat), i < qn5.len → State.reset.targetAt (qn5.addr + i) = Target.bank 5 (262140 + i)) ∧
     (srcMaster qn5.src = 2 → 268435456 ≤ qn5.addr) ∧ State.reset.lockedOut (srcMaster qn5.src) 5 = false ∧
     State.reset.secureTarget (Target.bank 5 262140) = true ∧ State.reset.secureSrc qn5.src 0 = false ∧
     qn5.fetch = false ∧ qn5.len ≤ 32) ∧
    (State.reset.issues qx = true ∧ qx.lock = LockMark.plain ∧ State.reset.targetAt qx.addr = Target.none ∧
     State.reset.lockedOut (srcMaster qx.src) 13 = false) ∧
    (State.reset.issues qLo = true ∧ State.reset.issues qHi = true ∧ srcMaster qLo.src < srcMaster qHi.src ∧
     qLo.lock = LockMark.plain ∧ State.reset.targetAt qLo.addr = Target.bank 7 4194300 ∧
     (State.reset.targetAt qHi.addr).range = 7 ∧ (srcMaster qHi.src = 2 → qHi.waited < 512) ∧
     State.reset.lockedOut (srcMaster qLo.src) 7 = false ∧ State.reset.lockedOut (srcMaster qHi.src) 7 = false) ∧
    (State.reset.issues qCp = true ∧ State.reset.issues qPc = true ∧ srcMaster qCp.src < srcMaster qPc.src ∧
     qCp.lock = LockMark.plain ∧ State.reset.targetAt qCp.addr = Target.bank 6 0 ∧
     (State.reset.targetAt qPc.addr).range = 6 ∧ (srcMaster qPc.src = 2 → qPc.waited < 512) ∧
     State.reset.lockedOut (srcMaster qCp.src) 6 = false ∧ State.reset.lockedOut (srcMaster qPc.src) 6 = false) ∧
    (∃ s : State, s = put [(BM_CONF_conf, 5, 6)] ∧ 6 = srcMaster rConf.src - 1 ∧
     at_ BM_CONF_conf 6 = at_ BM_CONF_conf 6 ∧ s.issues qConf = true ∧ s.issues rConf = true ∧
     srcMaster qConf.src < srcMaster rConf.src ∧ qConf.lock = LockMark.plain ∧ qConf.write = false ∧ qConf.cut = none ∧
     qConf.len = 4 ∧ qConf.addr = 268435456 + at_ BM_CONF_conf 6 ∧ latchedAt s (at_ BM_CONF_conf 6) = none ∧
     (s.targetAt rConf.addr).range = 9 ∧ (srcMaster rConf.src = 2 → rConf.waited < 512) ∧
     s.lockedOut (srcMaster qConf.src) 9 = false ∧ s.lockedOut (srcMaster rConf.src) 9 = false) ∧
    (locked7.issues q7 = true ∧ (locked7.targetAt q7.addr).range = 7 ∧ locked7.lockedOut (srcMaster q7.src) 7 = true) ∧
    (locked7.lockOf 3 = some { target := 7 } ∧ ({ target := 7 : LockSt }).broken = false) ∧
    (locked7.lockOf 2 = none) ∧
    (srcMaster (Src.master 1 true) ≠ 2 ∧ State.reset.issues { src := Src.master 1 true, addr := 0 } = true ∧
     (63 < 48 ∨ State.reset.secureSrc (Src.master 1 true) (285216768 + 4 * 63) = true) ∧
     State.reset.on BM_SEM_lock 63 = false) ∧
    (srcMaster (Src.master 5 false) ≠ 2 ∧ State.reset.issues { src := Src.master 5 false, addr := 0 } = true ∧
     (47 < 48 ∨ State.reset.secureSrc (Src.master 5 false) (285216768 + 4 * 47) = true) ∧
     State.reset.on BM_SEM_lock 47 = false) ∧
    (srcMaster (Src.master 1 true) ≠ 2 ∧ (sem 63 5).issues { src := Src.master 1 true, addr := 0 } = true ∧
     (63 < 48 ∨ (sem 63 5).secureSrc (Src.master 1 true) (285216768 + 4 * 63) = true) ∧
     (sem 63 5).on BM_SEM_lock 63 = true) ∧
    (srcMaster (Src.master 1 true) ≠ 2 ∧ (sem 63 1).issues { src := Src.master 1 true, addr := 0 } = true ∧
     (63 < 48 ∨ (sem 63 1).secureSrc (Src.master 1 true) (285216768 + 4 * 63) = true) ∧
     (sem 63 1).get BM_SEM_holder 63 = srcMaster (Src.master 1 true) ∧ bit ((4294967294 : Word).toNat) 0 = false) ∧
    (srcMaster (Src.master 1 true) ≠ 2 ∧ (sem 63 1).issues { src := Src.master 1 true, addr := 0 } = true ∧
     (63 < 48 ∨ (sem 63 1).secureSrc (Src.master 1 true) (285216768 + 4 * 63) = true) ∧
     ((sem 63 1).get BM_SEM_holder 63 ≠ srcMaster (Src.master 1 true) ∨ bit ((1 : Word).toNat) 0 = true)) ∧
    (srcMaster (Src.master 1 true) ≠ 2 ∧ (sem 63 5).issues { src := Src.master 1 true, addr := 0 } = true ∧
     (63 < 48 ∨ (sem 63 5).secureSrc (Src.master 1 true) (285216768 + 4 * 63) = true) ∧
     ((sem 63 5).get BM_SEM_holder 63 ≠ srcMaster (Src.master 1 true) ∨ bit ((0 : Word).toNat) 0 = true)) ∧
    (srcMaster (Src.master 5 false) ≠ 2 ∧ (sem 48 1).issues { src := Src.master 5 false, addr := 0 } = true ∧
     (sem 48 1).secureSrc (Src.master 5 false) (285216768 + 4 * 48) = false) ∧
    (State.reset.secureSrc (Src.master 1 true) (53516 + 16 * 7) = true ∧ 15 % 16 = 15) ∧
    ((put [(BM_HOST_WORLD_pcie_sec, 1, 0)]).secureSrc Src.pcie (53516 + 16 * 7) = false) ∧
    (∃ s : State, s = put [(MB_ST_pending, 1, 7)] { bus := { newOwn := [(7, 15)] } } ∧ s.on MB_ST_pending 7 = true ∧
     List.find? (fun p => p.fst == 7) s.bus.newOwn = some (7, 15)) ∧
    (State.reset.on MB_ST_pending 7 = false) ∧
    (∃ s : State, s = put [(MB_ST_owner, 3, 7), (BM_SEM_lock, 1, 63), (BM_SEM_holder, 3, 63), (BM_SEM_lock, 1, 0),
       (BM_SEM_holder, 4, 0)] ∧
     (3 ≤ 3 ∧ 3 ≤ 7 ∨ 3 = 2 ∧ (s.on MBX_LINK_up = false ∨ s.on MBX_LINK_perst = true) ∨ 3 = 8 ∧ s.on CP_LC_debug =
       false) ∧ ((2 : Nat) < 8 ∧ State.reset.get MB_ST_owner 2 = 5 ∧ ∀ k < 2, State.reset.get MB_ST_owner k ≠ 5)) ∧
    ((3 ≤ 7 ∧ 7 ≤ 7 ∨ 7 = 2 ∧ (State.reset.on MBX_LINK_up = false ∨ State.reset.on MBX_LINK_perst = true) ∨ 7 = 8 ∧
      State.reset.on CP_LC_debug = false)) ∧
    ((3 ≤ 2 ∧ 2 ≤ 7 ∨ 2 = 2 ∧ (State.reset.on MBX_LINK_up = false ∨ State.reset.on MBX_LINK_perst = true) ∨ 2 = 8 ∧
      State.reset.on CP_LC_debug = false)) ∧
    ((3 ≤ 8 ∧ 8 ≤ 7 ∨ 8 = 2 ∧ (State.reset.on MBX_LINK_up = false ∨ State.reset.on MBX_LINK_perst = true) ∨ 8 = 8 ∧
      State.reset.on CP_LC_debug = false)) ∧
    ((1 < 2 ∨ 8 < 1 ∨ 1 = 2 ∧ State.reset.on MBX_LINK_up = true ∧ State.reset.on MBX_LINK_perst = false ∨ 1 = 8 ∧
      State.reset.on CP_LC_debug = true)) ∧
    ((9 < 2 ∨ 8 < 9 ∨ 9 = 2 ∧ State.reset.on MBX_LINK_up = true ∧ State.reset.on MBX_LINK_perst = false ∨ 9 = 8 ∧
      State.reset.on CP_LC_debug = true)) ∧
    ((2 < 2 ∨ 8 < 2 ∨ 2 = 2 ∧ sUp.on MBX_LINK_up = true ∧ sUp.on MBX_LINK_perst = false ∨ 2 = 8 ∧
      sUp.on CP_LC_debug = true)) ∧
    ((put [(MB_ST_power, 3, 7)]).get MB_ST_power 7 = 3) ∧
    ((put [(MB_ST_power, 2, 7)]).get MB_ST_power 7 ≠ 3) := by
  refine ⟨?_, ?_, ?_, ?_, ?_, ?_, ?_, ?_, ?_, ?_, ?_, ?_, ?_, ?_, ?_, ?_, ?_, ?_, ?_, ?_, ?_, ?_, ?_, ?_, ?_, ?_, ?_, ?_, ?_, ?_, ?_, ?_, ?_, ?_, ?_⟩
  · decide +kernel
  · decide +kernel
  · exact ⟨_, rfl, by decide +kernel⟩
  · exact ⟨_, rfl, by decide +kernel⟩
  · exact ⟨_, rfl, by decide +kernel⟩
  · decide +kernel
  · decide +kernel
  · decide +kernel
  · decide +kernel
  · decide +kernel
  · decide +kernel
  · exact ⟨_, rfl, by decide +kernel⟩
  · decide +kernel
  · decide +kernel
  · decide +kernel
  · decide +kernel
  · decide +kernel
  · decide +kernel
  · decide +kernel
  · decide +kernel
  · decide +kernel
  · decide +kernel
  · decide +kernel
  · decide +kernel
  · exact ⟨_, rfl, by decide +kernel⟩
  · decide +kernel
  · exact ⟨_, rfl, by decide +kernel⟩
  · decide +kernel
  · decide +kernel
  · decide +kernel
  · decide +kernel
  · decide +kernel
  · decide +kernel
  · decide +kernel
  · decide +kernel

theorem witness_HostLinkMailboxesSmbus :
    ((put [(MBX_LINK_perst, 0, 0), (MBX_LINK_up, 1, 0), (CP_LC_state, 1, 0), (BM_HOST_WORLD_pcie_sec, 1, 0),
       (BM_SEM_lock, 1, 63), (BM_SEM_holder, 2, 63), (MBX_CTL_go, 1, 10)] { irq := { space := [6], due := [6], pba := [5] }, bus := { locks := [(2, { })] } }).on
       MBX_LINK_perst = false) ∧
    ((put [(MBX_LINK_perst, 1, 0)]).on MBX_LINK_perst = true) ∧
    (∃ s : State, s = put [(MBX_LINK_perst, 0, 0), (PWR_DOM_state, 2, 22), (MB_ST_power, 1, 6), (MB_ST_owner, 1, 6),
       (BM_MWD_expired, 2, 0), (CP_BOOT_ST_state, 4, 0)] ∧ s.on MBX_LINK_perst = false ∧ s.on MBX_LINK_up = false ∧
     s.get PWR_DOM_state 22 = 2 ∧ (4 = 1 ∨ 4 = 2 ∨ 4 = 4)) ∧
    (∃ s : State, s = put [(MBX_LINK_perst, 0, 0), (PWR_DOM_state, 2, 22)] ∧ s.on MBX_LINK_perst = false ∧
     s.on MBX_LINK_up = false ∧ s.get PWR_DOM_state 22 = 2 ∧ (1 = 1 ∨ 1 = 2 ∨ 1 = 4)) ∧
    ((sUp.on MBX_LINK_perst = true ∨ sUp.on MBX_LINK_up = true)) ∧
    ((put [(MBX_LINK_up, 1, 0), (MBX_LINK_speed, 4, 0), (MBX_LINK_downs, 255, 0)]).on MBX_LINK_up = true) ∧
    (State.reset.on MBX_LINK_up = false) ∧
    (sPend.on MBX_LINK_up = true ∧ sPend.on MBX_LINK_msix_en = false ∧
     ((448 : Nat) < 512 ∧ bit (sPend.newCycle.irqPend (448 / 32)) (448 % 32) = true ∧ sPend.msixMasked (sPend.vectorOf
       448) = false ∧ sPend.irq.space.contains (sPend.vectorOf 448) = false)) ∧
    (sPendMasked.on MBX_LINK_up = true ∧ sPendMasked.on MBX_LINK_msix_en = false ∧
     (bit (sPendMasked.newCycle.irqPend (511 / 32)) (511 % 32) = true ∧ sPendMasked.msixMasked (sPendMasked.vectorOf
       511) = true)) ∧
    (sPendSpace.on MBX_LINK_up = true ∧ sPendSpace.on MBX_LINK_msix_en = false ∧
     (bit (sPendSpace.newCycle.irqPend (448 / 32)) (448 % 32) = true ∧ sPendSpace.msixMasked (sPendSpace.vectorOf 448) =
       false ∧ sPendSpace.irq.space.contains (sPendSpace.vectorOf 448) = true)) ∧
    (sPend.on MBX_LINK_up = true) ∧
    (∃ s : State, s = put [(MBX_ST_posted, 255, 14)] ∧
     (14 < 8 ∨ s.secureSrc (Src.master 1 true) (65600 + 256 * 14) = true) ∧
     (srcMaster (Src.master 1 true) = 2 → 14 < 12) ∧ (8 ≤ 14 → 14 < 12 → s.tamperHeld = false) ∧ 14 % 2 = 0 ∧
     s.on MBX_CTL_go 14 = false) ∧
    (∃ s : State, s = put [(MBX_CTL_go, 1, 6)] ∧ (6 < 8 ∨ s.secureSrc Src.pcie (65600 + 256 * 6) = true) ∧
     (srcMaster Src.pcie = 2 → 6 < 12) ∧ (8 ≤ 6 → 6 < 12 → s.tamperHeld = false) ∧ 6 % 2 = 0 ∧ s.on MBX_CTL_go 6 = true) ∧
    (∃ s : State, s = put [(MBX_CTL_go, 1, 7)] ∧ (7 < 8 ∨ s.secureSrc Src.pcie (65600 + 256 * 7) = true) ∧
     (srcMaster Src.pcie = 2 → 7 < 12) ∧ (8 ≤ 7 → 7 < 12 → s.tamperHeld = false) ∧ 7 % 2 = 1) ∧
    (∃ s : State, s = put [(MBX_CTL_go, 1, 11)] ∧ (11 < 8 ∨ s.secureSrc (Src.master 1 true) (65600 + 256 * 11) = true) ∧
     (srcMaster (Src.master 1 true) = 2 → 11 < 12) ∧ (8 ≤ 11 → 11 < 12 → s.tamperHeld = false) ∧ 11 % 2 = 1) ∧
    (∃ s : State, s = posted 10 [(MBX_CTL_go, 1, 0)] ∧ 4 ≤ s.bootState ∧ s.cpRuns = true ∧ s.host.taken = [] ∧
     s.nextChannel = some 10 ∧ opcodes.contains ((s.msgWords 10).headD 0 / 2 ^ 16) = true) ∧
    (4 ≤ (posted 14 []).bootState ∧ (posted 14 []).cpRuns = true ∧ (posted 14 []).host.taken = [] ∧
     (posted 14 []).nextChannel = some 14 ∧ opcodes.contains (((posted 14 []).msgWords 14).headD 0 / 2 ^ 16) = true) ∧
    (∃ s : State, s = posted 10 [(MBX_CTL_go, 1, 0)] ∧ 4 ≤ s.bootState ∧ s.cpRuns = true ∧ s.host.taken = [] ∧
     s.nextChannel = some 10) ∧
    (∃ s : State, s = posted 14 [(MBX_MSG_data 0, 327687, 14)] ∧ 4 ≤ s.bootState ∧ s.cpRuns = true ∧ s.host.taken = [] ∧
     s.nextChannel = some 14 ∧ opcodes.contains ((s.msgWords 14).headD 0 / 2 ^ 16) = false) ∧
    ((State.reset.bootState < 4 ∨ State.reset.cpRuns = false ∨ State.reset.host.taken ≠ [] ∨ State.reset.nextChannel =
        none)) ∧
    (∃ s : State, s = put [(CP_BOOT_ST_state, 4, 0)] ∧
     (s.bootState < 4 ∨ s.cpRuns = false ∨ s.host.taken ≠ [] ∨ s.nextChannel = none)) ∧
    (State.reset.chanHeld 14 = false) ∧
    (State.reset.bootState = 0) ∧
    ((put [(CP_BOOT_ST_state, 6, 0)]).bootState ≠ 0 ∧
     (0x1000000 ≤ ({ smbAddr := 2 ^ 32 - 32 } : HostBlock).smbAddr ∧ ({ smbAddr := 2 ^ 32 - 32 } : HostBlock).smbAddr +
       32 ≤ 2 ^ 32)) ∧
    (∃ s : State, s = put [(CP_BOOT_ST_state, 6, 0)] { host := { smbAddr := 2 ^ 32 - 32 } } ∧ s.bootState ≠ 0 ∧
     16777216 ≤ s.host.smbAddr) ∧
    (∃ s : State, s = put [(CP_BOOT_ST_state, 6, 0)] { host := { smbAddr := 2 ^ 32 - 4 } } ∧ s.bootState ≠ 0 ∧
     16777216 ≤ s.host.smbAddr) ∧
    (∃ s : State, s = put [(CP_BOOT_ST_state, 6, 0), (MB_ST_power, 0, 6), (MB_ST_owner, 2, 6)] { host := { smbAddr := 8388604 } }
       ∧ s.bootState ≠ 0 ∧ 4194304 ≤ s.host.smbAddr ∧ s.host.smbAddr < 8388608 ∧ s.get MB_ST_power 6 = 0 ∧
     s.mayUse 2 6 = true ∧ s.on MB_ST_world 6 = false ∧ s.host.smbAddr % 4 = 0) ∧
    (∃ s : State, s = put [(CP_BOOT_ST_state, 6, 0)] { host := { smbAddr := 8388608 } } ∧ s.bootState ≠ 0 ∧
     (s.host.smbAddr < 4194304 ∨ 8388608 ≤ s.host.smbAddr) ∧ s.host.smbAddr < 16777216) ∧
    ((put [(CP_BOOT_ST_state, 6, 0)] { host := { smbAddr := 2 ^ 32 - 32 } }).bootState ≠ 0) ∧
    (∃ s : State, s = put [(CP_BOOT_ST_state, 6, 0)] { host := { smbAddr := 4194300 } } ∧ s.bootState ≠ 0 ∧
     (s.host.smbAddr < 4194304 ∨ 8388608 ≤ s.host.smbAddr) ∧ s.host.smbAddr < 16777216) ∧
    ((put [(CP_BOOT_ST_state, 6, 0)] { host := { smbAddr := 4194300 } }).bootState ≠ 0) := by
  refine ⟨?_, ?_, ?_, ?_, ?_, ?_, ?_, ?_, ?_, ?_, ?_, ?_, ?_, ?_, ?_, ?_, ?_, ?_, ?_, ?_, ?_, ?_, ?_, ?_, ?_, ?_, ?_, ?_, ?_, ?_, ?_⟩
  · decide +kernel
  · decide +kernel
  · exact ⟨_, rfl, by decide +kernel⟩
  · exact ⟨_, rfl, by decide +kernel⟩
  · decide +kernel
  · decide +kernel
  · decide +kernel
  · decide +kernel
  · decide +kernel
  · decide +kernel
  · decide +kernel
  · exact ⟨_, rfl, by decide +kernel⟩
  · exact ⟨_, rfl, by decide +kernel⟩
  · exact ⟨_, rfl, by decide +kernel⟩
  · exact ⟨_, rfl, by decide +kernel⟩
  · exact ⟨_, rfl, by decide +kernel⟩
  · decide +kernel
  · exact ⟨_, rfl, by decide +kernel⟩
  · exact ⟨_, rfl, by decide +kernel⟩
  · decide +kernel
  · exact ⟨_, rfl, by decide +kernel⟩
  · decide +kernel
  · decide +kernel
  · decide +kernel
  · exact ⟨_, rfl, by decide +kernel⟩
  · exact ⟨_, rfl, by decide +kernel⟩
  · exact ⟨_, rfl, by decide +kernel⟩
  · exact ⟨_, rfl, by decide +kernel⟩
  · decide +kernel
  · exact ⟨_, rfl, by decide +kernel⟩
  · decide +kernel

theorem witness_RecordsAndFreeze :
    (∃ s : State, s = rcds { offers := [off1, off2] } ∧ firstOffer s.rcd.offers = some off2 ∧
     (s.on EVR_ST_frozen = false ∧ s.on EVR_ST_degraded = false ∧ s.rcd.mb3.length < 7710)) ∧
    (firstOffer (rcds { offers := [off1], mb3 := full 7709 }).rcd.offers = some off1 ∧ (full 7709).length < 7710) ∧
    (firstOffer (rcds { offers := [off1], mb3 := full 7710 }).rcd.offers = some off1 ∧
     (7710 ≤ (full 7710).length ∧ (dropLowest off1.sev (full 7710)).isSome = true ∧ (recNo 5).sev < 8)) ∧
    (firstOffer (rcds { offers := [off2], mb3 := full 7710 }).rcd.offers = some off2 ∧
     dropLowest off2.sev (full 7710) = none) ∧
    (firstOffer (rcds { offers := [off2], hold := full 63 } [(EVR_ST_frozen, 1, 0)]).rcd.offers = some off2 ∧
     (full 63).length < 64) ∧
    (firstOffer (rcds { offers := [off2], hold := full 64 } [(EVR_ST_frozen, 1, 0), (EVR_HOLD_ovf, 65535,
       0)]).rcd.offers = some off2 ∧ 64 ≤ (full 64).length) ∧
    (firstOffer (rcds { offers := [off1], staging := full 15, flashBuf := full 63 } [(EVR_ST_degraded, 1,
       0)]).rcd.offers = some off1 ∧ (full 15).length < 16) ∧
    (firstOffer (rcds { offers := [off1], staging := full 16, flashBuf := full 64 } [(EVR_ST_degraded, 1,
       0)]).rcd.offers = some off1) ∧
    (State.reset.rcd.offers = []) ∧
    (∃ s : State, s = ringed { mb3 := [recNo 5, recNo 6], ringW := 2 ^ 28 - 32 } ∧ s.ringOk = true ∧
     s.on EVR_ST_frozen = false ∧ s.rcd.epochOk = true ∧ s.rcd.ringW < 2 ^ 28 ∧ (recNo 5).len < 2 ^ 28 ∧
     (s.rcd.mb3 = [recNo 5, recNo 6] ∨ s.rcd.mb3 = [] ∧ s.rcd.staging = [recNo 5, recNo 6]) ∧
     (2 : Nat) ^ 28 - 32 + (recNo 5).len ≤ 2 ^ 28) ∧
    (∃ s : State, s = ringed { ring := [{ off := 0, len := 32, pad := false, body := recNo 1 }, { off := 32, len := 32, pad := false, body := recNo 2 }], ringW := 2 ^ 28 - 24, staging := [recNo 5, recNo 6] }
       ∧ s.ringOk = true ∧ s.on EVR_ST_frozen = false ∧ s.rcd.epochOk = true ∧ s.rcd.ringW < 2 ^ 28 ∧
     (recNo 5).len < 2 ^ 28 ∧ (s.rcd.mb3 = [recNo 5, recNo 6] ∨ s.rcd.mb3 = [] ∧ s.rcd.staging = [recNo 5, recNo 6]) ∧
     (2 : Nat) ^ 28 < 2 ^ 28 - 24 + (recNo 5).len) ∧
    ((State.reset.ringOk = false ∨ State.reset.on EVR_ST_frozen = true ∨ State.reset.rcd.epochOk = false ∨
        State.reset.rcd.mb3 = [] ∧ State.reset.rcd.staging = [])) ∧
    (∃ s : State, s = flashRec { flashBuf := [recNo 5, recNo 6], copies := List.replicate 239 (0, recNo 1) } ∧
     s.rcd.flashBuf = [recNo 5, recNo 6] ∧ s.rcd.epochOk = true ∧ s.flashFree = true ∧
     (flashRec { }).nextSector 0 = s.nextSector s.rcd.wrSec ∧
     (List.filter (fun p => p.fst == s.rcd.wrSec) s.rcd.copies).length < 240) ∧
    (∃ s : State, s = flashRec { flashBuf := [recNo 5, recNo 6], copies := List.replicate 239 (0, recNo 1) } ∧
     s.rcd.flashBuf = [recNo 5, recNo 6] ∧ s.rcd.epochOk = true ∧ s.flashFree = true ∧
     (flashRec { }).nextSector 0 = s.nextSector s.rcd.wrSec ∧
     (List.filter (fun p => p.fst == s.rcd.wrSec) s.rcd.copies).length < 240) ∧
    (∃ s : State, s = flashRec { flashBuf := [recNo 5, recNo 6], copies := List.replicate 240 (0, recNo 1) } ∧
     s.rcd.flashBuf = [recNo 5, recNo 6] ∧ s.rcd.epochOk = true ∧ s.flashFree = true ∧
     (flashRec { }).nextSector 0 = s.nextSector s.rcd.wrSec ∧
     240 ≤ (List.filter (fun p => p.fst == s.rcd.wrSec) s.rcd.copies).length) ∧
    (State.reset.rcd.flashBuf = []) ∧
    (∃ s : State, s = rcds { flashBuf := [recNo 5] } ∧ s.rcd.flashBuf ≠ [] ∧ s.flashFree = false) ∧
    (Served (takenAt 10 (msg 771 [(1, 60)]) (rcds { nextSeq := 2 ^ 40, mb3 := [recNo 5] })) 10 771 (msg 771 [(1, 60)]) ∧
     msgWord (msg 771 [(1, 60)]) 1 ≤ 60) ∧
    (Served (takenAt 10 (msg 771 [])) 10 771 (msg 771 []) ∧ msgWord (msg 771 []) 1 ≤ 60) ∧
    (Served (takenAt 10 (msg 771 [(1, 61)])) 10 771 (msg 771 [(1, 61)]) ∧ 60 < msgWord (msg 771 [(1, 61)]) 1) ∧
    (∃ s : State, s = takenAt 10 (msg 772 []) (rcds { mb3 := full 5, hold := full 64, ovf := 3 } [(EVR_ST_frozen, 1,
       0)]) ∧ Served s 10 772 (msg 772 []) ∧ s.on EVR_ST_frozen = true) ∧
    (∃ s : State, s = takenAt 10 (msg 772 []) ∧ Served s 10 772 (msg 772 []) ∧ s.on EVR_ST_frozen = false) ∧
    ((rcds { mb3 := full 7646, hold := full 64 } [(EVR_ST_frozen, 1, 0)]).on EVR_ST_frozen = true ∧
     (full 7646).length + (full 64).length ≤ 7710) ∧
    (∃ s : State, s = rcds { } [(EVR_ST_frozen, 1, 0)] ∧ s.on EVR_ST_frozen = true ∧ s.rcd.hold = []) ∧
    (State.reset.on EVR_ST_frozen = false) ∧
    (∃ s : State, s = takenAt 10 (tokMsg 773 0) (linked [] nonced) ∧
     (TokenVerifies s (tokMsg 773 0) { data := tokOf 773 0 (List.replicate 32 9) } → Served s 10 773 (tokMsg 773 0) ∧
       s.on EVR_ST_frozen = false ∧ s.on EVR_ST_degraded = false ∧ s.nonceOf 10 = some (List.replicate 32 9) ∧
       TokenGiven s (tokMsg 773 0) { data := tokOf 773 0 (List.replicate 32 9) } 773 0 (List.replicate 32 9) ∧ der clrA
       s = clrA s ∧ 0 < (der clrA s).rcd.nextSeq ∧ (der clrA s).rcd.nextSeq < 2 ^ 64)) ∧
    (∃ s : State, s = takenAt 10 (tokMsg 773 0) (rcds { } [(EVR_ST_frozen, 1, 0)]) ∧ Served s 10 773 (tokMsg 773 0) ∧
     s.on EVR_ST_frozen = true) ∧
    ((rcds { hq := [(4, { pm := [[1], [2]], mark := 1 })] } [(HQ_CTL_flush, 1, 4)]).on HQ_CTL_flush 4 = true) ∧
    (State.reset.on HQ_CTL_flush 4 = false) := by
  refine ⟨?_, ?_, ?_, ?_, ?_, ?_, ?_, ?_, ?_, ?_, ?_, ?_, ?_, ?_, ?_, ?_, ?_, ?_, ?_, ?_, ?_, ?_, ?_, ?_, ?_, ?_, ?_, ?_, ?_⟩
  · exact ⟨_, rfl, by decide +kernel⟩
  · decide +kernel
  · decide +kernel
  · and_intros <;> first | decide +kernel | exact dropLowest_full _ (by decide)
  · decide +kernel
  · decide +kernel
  · decide +kernel
  · decide +kernel
  · decide +kernel
  · exact ⟨_, rfl, by decide +kernel⟩
  · exact ⟨_, rfl, by decide +kernel⟩
  · decide +kernel
  · exact ⟨_, rfl, by decide +kernel⟩
  · exact ⟨_, rfl, by decide +kernel⟩
  · exact ⟨_, rfl, by decide +kernel⟩
  · decide +kernel
  · exact ⟨_, rfl, by decide +kernel⟩
  · unfold Served
    decide +kernel
  · unfold Served
    decide +kernel
  · unfold Served
    decide +kernel
  · exact ⟨_, rfl, by unfold Served; decide +kernel⟩
  · exact ⟨_, rfl, by unfold Served; decide +kernel⟩
  · decide +kernel
  · exact ⟨_, rfl, by decide +kernel⟩
  · decide +kernel
  · exact ⟨_, rfl, fun h => ⟨by unfold Served; decide +kernel, by decide +kernel, by decide +kernel, by decide +kernel, tokenGiven_of (by decide +kernel) (by decide +kernel) (by decide +kernel) h, by decide +kernel, by decide +kernel, by decide +kernel⟩⟩
  · exact ⟨_, rfl, by unfold Served; decide +kernel⟩
  · decide +kernel
  · decide +kernel

theorem witness_CursorsCountersInterrupts :
    (∃ s : State, s = cur (2 ^ 32 - 1) 0 ∧ recNo (2 ^ 32) ∈ s.heldRecs ∧ Ahead s (recNo (2 ^ 32)) ∧
     (∀ (x : Rec), x ∈ s.heldRecs → Ahead s x → (recNo (2 ^ 32)).seq ≤ x.seq) ∧ (recNo (2 ^ 32)).seq < 2 ^ 64) ∧
    (∃ s : State, s = cur (2 ^ 32 - 1) 1 ∧ recNo (2 ^ 32 - 1) ∈ s.heldRecs ∧ Ahead s (recNo (2 ^ 32 - 1)) ∧
     (∀ (x : Rec), x ∈ s.heldRecs → Ahead s x → (recNo (2 ^ 32 - 1)).seq ≤ x.seq) ∧ (recNo (2 ^ 32 - 1)).seq < 2 ^ 64) ∧
    (∃ s : State, s = cur (2 ^ 32 + 5) 0 ∧ recNo (2 ^ 32 + 5) ∈ s.heldRecs ∧
     (∀ (x : Rec), x ∈ s.heldRecs → ¬Ahead s x ∧ x.seq ≤ (recNo (2 ^ 32 + 5)).seq) ∧
     (recNo (2 ^ 32 + 5)).seq + 1 < 2 ^ 64) ∧
    (∃ s : State, s = cur (2 ^ 32 + 5) 0 ∧ recNo (2 ^ 32) ∈ s.heldRecs ∧ s.passes (recNo (2 ^ 32)) = true ∧
     (recNo (2 ^ 32)).seq < s.cur ∧
     (∀ (x : Rec), x ∈ s.heldRecs → s.passes x = true → x.seq < s.cur → x.seq ≤ (recNo (2 ^ 32)).seq)) ∧
    (∃ s : State, s = cur (2 ^ 32 - 1) 0 ∧ (∀ (x : Rec), x ∈ s.heldRecs → s.passes x = true → s.cur ≤ x.seq)) ∧
    (recNo (2 ^ 32 - 1) ∈ (cur (2 ^ 32) 0).heldRecs ∧
     (∀ (x : Rec), x ∈ (cur (2 ^ 32) 0).heldRecs → (recNo (2 ^ 32 - 1)).seq ≤ x.seq) ∧ (recNo (2 ^ 32 - 1)).seq < 2 ^ 64) ∧
    (recNo (2 ^ 32 + 5) ∈ (cur (2 ^ 32) 0).heldRecs ∧
     (∀ (x : Rec), x ∈ (cur (2 ^ 32) 0).heldRecs → x.seq ≤ (recNo (2 ^ 32 + 5)).seq) ∧ (recNo (2 ^ 32 + 5)).seq < 2 ^ 64) ∧
    (∃ s : State, s = cur 7 0 [(EVR_MARK_LO_seq_lo, 1, 0), (EVR_MARK_HI_seq_hi, 1, 0)] ∧
     recNo (2 ^ 32 + 5) ∈ s.heldRecs ∧ 2 ^ 32 + 1 ≤ (recNo (2 ^ 32 + 5)).seq ∧
     (∀ (x : Rec), x ∈ s.heldRecs → 2 ^ 32 + 1 ≤ x.seq → (recNo (2 ^ 32 + 5)).seq ≤ x.seq) ∧
     (recNo (2 ^ 32 + 5)).seq < 2 ^ 64 ∧ 2 ^ 32 + 1 = s.mark) ∧
    (recNo (2 ^ 32) ∈ (cur 7 0).heldRecs ∧ 2 ^ 32 ≤ (recNo (2 ^ 32)).seq ∧
     (∀ (x : Rec), x ∈ (cur 7 0).heldRecs → 2 ^ 32 ≤ x.seq → (recNo (2 ^ 32)).seq ≤ x.seq) ∧
     (recNo (2 ^ 32)).seq < 2 ^ 64) ∧
    (2 ^ 32 + 6 < 2 ^ 64 ∧ (cur 7 0).heldRecs ≠ [] ∧ (∀ (x : Rec), x ∈ (cur 7 0).heldRecs → x.seq < 2 ^ 32 + 6)) ∧
    (2 ^ 64 - 1 < 2 ^ 64 ∧ (cur 7 0).heldRecs ≠ [] ∧ (∀ (x : Rec), x ∈ (cur 7 0).heldRecs → x.seq < 2 ^ 64 - 1)) ∧
    ((cur (2 ^ 32) 1).get EVR_CUR_ST_state ≠ 2) ∧
    (∃ s : State, s = cur 3 2 [(EVR_MARK_LO_seq_lo, 2, 0)] ∧ recNo (2 ^ 32 - 1) ∈ s.heldRecs ∧
     s.get EVR_CUR_ST_state = 2 ∧ (∀ (x : Rec), x ∈ s.heldRecs → (recNo (2 ^ 32 - 1)).seq ≤ x.seq) ∧
     (recNo (2 ^ 32 - 1)).seq < 2 ^ 64) ∧
    (∃ s : State, s = rcds { mb3 := [recNo (2 ^ 40)] } [(EVR_CUR_ST_state, 2, 0)] ∧ recNo (2 ^ 40) ∈ s.heldRecs ∧
     s.get EVR_CUR_ST_state = 2 ∧ (∀ (x : Rec), x ∈ s.heldRecs → (recNo (2 ^ 40)).seq ≤ x.seq) ∧
     (recNo (2 ^ 40)).seq < 2 ^ 64) ∧
    (bit (({ put [(MBX_LINK_up, 1, 0), (MBX_LINK_msix_en, 1, 0), (MATE_ST_lost, 1, 0)] with irq := { stk := [(2, 2 ^ 5)], en := [(2, 2 ^ 5)] } }
       : State).rawLevel 2) 5 = true) ∧
    ((8 * (State.reset.gl RECORDS_temp_warn : Int) < 8 * (State.reset.gl RECORDS_temp_warn : Int) + 1 ∧
      State.reset.pwr.warm = false)) := by
  refine ⟨?_, ?_, ?_, ?_, ?_, ?_, ?_, ?_, ?_, ?_, ?_, ?_, ?_, ?_, ?_, ?_⟩
  · exact ⟨_, rfl, by unfold Ahead; decide +kernel⟩
  · exact ⟨_, rfl, by unfold Ahead; decide +kernel⟩
  · exact ⟨_, rfl, by unfold Ahead; decide +kernel⟩
  · exact ⟨_, rfl, by decide +kernel⟩
  · exact ⟨_, rfl, by decide +kernel⟩
  · decide +kernel
  · decide +kernel
  · exact ⟨_, rfl, by decide +kernel⟩
  · decide +kernel
  · decide +kernel
  · decide +kernel
  · decide +kernel
  · exact ⟨_, rfl, by decide +kernel⟩
  · exact ⟨_, rfl, by decide +kernel⟩
  · decide +kernel
  · decide +kernel

theorem witness_PowerAndMemory :
    (fittedChannels ((ddr 1 1 []).get DC_ST_chan) ≠ [] ∧
     (∀ (c : Nat), c ∈ fittedChannels ((ddr 1 1 []).get DC_ST_chan) → (ddr 1 1 []).get DC_CH_ST_state c = 1) ∧
     (∀ (c : Nat), c ∈ fittedChannels ((ddr 1 1 []).get DC_ST_chan) → ∀ (b : Nat × Nat × Nat), b ∈ [] → b.fst ≠ c)) ∧
    (fittedChannels ((ddr 1 1 []).get DC_ST_chan) ≠ [] ∧
     (∀ (c : Nat), c ∈ fittedChannels ((ddr 1 1 []).get DC_ST_chan) → (ddr 1 1 []).get DC_CH_ST_state c = 1) ∧
     7 ∈ fittedChannels ((ddr 1 1 []).get DC_ST_chan) ∧ (∃ b, b ∈ [(7, 0, 1), (2, 1, 2)] ∧ b.fst = 7)) ∧
    (∃ s : State, s = ddr 3 3 [(DC_CH_ST_retrains, 255, 7), (DC_ST_ch_up, 3, 0)] ∧ s.get DC_ST_state = 3 ∧
     s.pwr.retrain = false) ∧
    ((State.reset.get DC_ST_state ≠ 3 ∨ State.reset.pwr.retrain = true)) ∧
    ((ddr 2 2 []).get DC_ST_state = 2 ∧ 7 ∈ fittedChannels ((ddr 2 2 []).get DC_ST_chan)) ∧
    (∃ s : State, s = ddr 2 2 [(DC_ST_ch_up, 255, 0)] ∧ s.get DC_ST_state = 2 ∧
     (ddr 2 2 []).channelOf (2 ^ 40 - 1) = s.channelOf (2 ^ 40 - 1) ∧ 2 ^ 40 - 1 < 2 ^ 40) ∧
    (∃ s : State, s = ddr 2 2 [(DC_ST_ch_up, 255, 0)] { bus := { ueMs := List.replicate 14 (0, 0) } } ∧
     s.get DC_ST_state = 2 ∧ (ddr 2 2 []).channelOf (2 ^ 39) = s.channelOf (2 ^ 39) ∧ 2 ^ 39 < 2 ^ 40 ∧
     ((List.replicate 14 (0, 0)).filter fun p : Nat × Nat => decide (0 < p.2 + 9766) && p.1 == (ddr 2 2 []).channelOf (2
       ^ 39)).length < 15) ∧
    (∃ s : State, s = ddr 2 2 [(DC_ST_ch_up, 255, 0)] { bus := { ueMs := List.replicate 15 (0, 0) } } ∧
     s.get DC_ST_state = 2 ∧ (ddr 2 2 []).channelOf (2 ^ 39) = s.channelOf (2 ^ 39) ∧ 2 ^ 39 < 2 ^ 40 ∧
     15 ≤ ((List.replicate 15 (0, 0)).filter fun p : Nat × Nat => decide (0 < p.2 + 9766) && p.1 == (ddr 2 2
       []).channelOf (2 ^ 39)).length) ∧
    (∃ s : State, s = ddr 2 2 [(DC_ST_ch_up, 255, 0)] { fab := { gp := 9766 }, bus := { ueMs := List.replicate 15 (0, 0) } }
       ∧ s.get DC_ST_state = 2 ∧ (ddr 2 2 []).channelOf (2 ^ 39) = s.channelOf (2 ^ 39) ∧ 2 ^ 39 < 2 ^ 40) ∧
    (State.reset.get DC_ST_state ≠ 2) ∧
    ((put [(PWR_DOM_state, 1, 7), (PWR_DOM_want, 1, 7), (PWR_DOM_cycles, 255, 7)]).get PWR_DOM_state 7 = 1) ∧
    ((ddr 1 0 [(PWR_DOM_state, 1, 21), (PWR_DOM_want, 0, 21)]).get PWR_DOM_state 21 = 1) ∧
    ((put [(PWR_DOM_state, 1, 23)]).get PWR_DOM_state 23 = 1) ∧
    ((put [(PWR_DOM_state, 3, 7), (PWR_DOM_want, 0, 7)]).get PWR_DOM_state 7 = 3) ∧
    ((ddr 2 2 [(PWR_DOM_state, 3, 21), (PWR_DOM_want, 1, 21)]).get PWR_DOM_state 21 = 3) ∧
    ((put [(PWR_DOM_state, 3, 22), (MBX_CTL_go, 1, 0)]).get PWR_DOM_state 22 = 3) ∧
    ((put [(PWR_DOM_state, 3, 15)]).get PWR_DOM_state 15 = 3) ∧
    (∃ s : State, s = put [(PWR_DOM_state, 3, 23)] ∧ (s.get PWR_DOM_state 23 = 1 ∨ s.get PWR_DOM_state 23 = 3)) ∧
    (∃ s : State, s = put [(PWR_DOM_state, 1, 7)] ∧ (s.get PWR_DOM_state 7 = 1 ∨ s.get PWR_DOM_state 7 = 3)) ∧
    (∃ s : State, s = ddr 2 2 [(PWR_DOM_state, 3, 20)] ∧ (s.get PWR_DOM_state 20 = 1 ∨ s.get PWR_DOM_state 20 = 3)) ∧
    (State.reset.get PWR_DOM_state 7 ≠ 1 ∧ State.reset.get PWR_DOM_state 7 ≠ 3) ∧
    (ctlScope.pwr.main = true ∧ ctlScope.gl DEVICE_rst_scope = 1) ∧
    (sysState.pwr.main = true ∧ sysState.gl DEVICE_rst_scope ≠ 1) ∧
    (sysState.pwr.main = true ∧ sysState.pwr.trip = false) ∧
    (({ pwr := { main := false } : State }).pwr.main = false) ∧
    (∃ s : State, s = { pwr := { trip := true } : State } ∧ (s.pwr.main = false ∨ s.pwr.trip = true)) := by
  refine ⟨?_, ?_, ?_, ?_, ?_, ?_, ?_, ?_, ?_, ?_, ?_, ?_, ?_, ?_, ?_, ?_, ?_, ?_, ?_, ?_, ?_, ?_, ?_, ?_, ?_, ?_⟩
  · decide +kernel
  · decide +kernel
  · exact ⟨_, rfl, by decide +kernel⟩
  · decide +kernel
  · decide +kernel
  · exact ⟨_, rfl, by decide +kernel⟩
  · exact ⟨_, rfl, by decide +kernel⟩
  · exact ⟨_, rfl, by decide +kernel⟩
  · exact ⟨_, rfl, by decide +kernel⟩
  · decide +kernel
  · decide +kernel
  · decide +kernel
  · decide +kernel
  · decide +kernel
  · decide +kernel
  · decide +kernel
  · decide +kernel
  · exact ⟨_, rfl, by decide +kernel⟩
  · exact ⟨_, rfl, by decide +kernel⟩
  · exact ⟨_, rfl, by decide +kernel⟩
  · decide +kernel
  · decide +kernel
  · decide +kernel
  · decide +kernel
  · decide +kernel
  · exact ⟨_, rfl, by decide +kernel⟩

/-! ### Runs -/

/-- A step of a state with commands waiting, and a command of none of the kinds that a rule names. -/
theorem witness_StepTakesFront :
    (∃ s : State, s.pending = [.gaspDetected, .mateLost]) ∧ State.reset.pending = [] :=
  ⟨⟨{ pending := [.gaspDetected, .mateLost] }, rfl⟩, rfl⟩

theorem witness_StepKeepsCanonicalForm :
    ∃ s t : State, Canonical s ∧ step s = .next t ∧ s.pending = [.refclkLoss 7] :=
  ⟨{ pending := [.refclkLoss 7] }, next (.refclkLoss 7) {}, by unfold Canonical; decide +kernel, rfl, rfl⟩

theorem witness_FusesOnlyBlow :
    (∃ s t : State, step s = .next t ∧ s.pending = [.refclkLoss 7]) ∧
    (∃ s t : State, exec (.refclkLoss 7) s = .next t) ∧ blows (.refclkLoss 7) = false :=
  ⟨⟨{ pending := [.refclkLoss 7] }, next (.refclkLoss 7) {}, rfl, rfl⟩, ⟨{}, next (.refclkLoss 7) {}, rfl⟩, rfl⟩

theorem witness_OnlyLoadsChangeTheImage :
    (∃ s t : State, exec (.refclkLoss 7) s = .next t) ∧ loads (.refclkLoss 7) = false := ⟨⟨{}, next (.refclkLoss 7) {}, rfl⟩, rfl⟩

theorem witness_OnlyTheseRowsTouchTheFlash :
    (∃ s t : State, exec (.refclkLoss 7) s = .next t) ∧ touchesFlash (.refclkLoss 7) = false := ⟨⟨{}, next (.refclkLoss 7) {}, rfl⟩, rfl⟩

theorem witness_GridPeriodsCountUp :
    (∃ s t : State, exec (.refclkLoss 7) s = .next t) ∧ movesGrid (.refclkLoss 7) = false := ⟨⟨{}, next (.refclkLoss 7) {}, rfl⟩, rfl⟩

/-! ### A container that verifies -/

/-- A public key, and the bodies of DEVICE, SECURITY, LANES and of a PLAN of one step that names LANES instance 7. -/
def pk : List Byte := List.replicate 2592 0xFF
def tlv (fid : Byte) (l : List Byte) : List Byte := [fid, BitVec.ofNat 8 l.length, 0, 0] ++ l ++ List.replicate ((4 - l.length % 4) % 4) 0
def rawEnt (kind : Byte) (l : List Byte) : List Byte := [kind, 0] ++ leBytes 2 (l.length + 4) ++ l
def bodyOf (id : Nat) : List Byte :=
  leBytes 1 id ++ [1, 0, 0] ++
    if id = 16 then leBytes 4 2 ++ rawEnt 0 (tlv 1 (leBytes 4 77) ++ tlv 2 [1]) ++
      rawEnt 1 (tlv 3 [1] ++ tlv 4 (leBytes 3 9) ++ tlv 5 [2] ++ tlv 6 [7] ++ tlv 7 [0] ++ tlv 8 (leBytes 4 0) ++ tlv 9 (leBytes 4 0))
    else leBytes 4 0

/-- The digest that stands in the table and in the key slot. -/
def dig : List Byte := List.replicate 64 0xFF
def tabEnt (id inst boot off : Nat) : List Byte :=
  leBytes 1 id ++ leBytes 1 inst ++ leBytes 1 boot ++ [0] ++ leBytes 4 off ++ leBytes 4 (bodyOf id).length ++ leBytes 4 0 ++ dig

/-- A container: its header and section table, and its bodies; its key and its signature are bytes 0xFF. -/
def contHead : List Byte :=
  leBytes 4 0x31524B41 ++ leBytes 2 1 ++ leBytes 2 256 ++ leBytes 4 9216 ++ leBytes 2 4 ++ [3, 0] ++ leBytes 4 5 ++ List.replicate 8 0 ++
  leBytes 4 576 ++ leBytes 4 3168 ++ List.replicate 220 0xFF ++ tabEnt 1 0 1 7936 ++ tabEnt 13 0 1 8192 ++ tabEnt 2 7 0 8448 ++ tabEnt 16 3 0 8704

/-- The listed bytes of a run at an offset of flash 0, a directory, and the flash and the DEPLOYED device that hold both. -/
def at0 (off : Nat) (l : List Byte) : List (Nat × Byte) := ((List.range l.length).map (off + ·)).zip l |>.filter fun p => p.2 != 0xFF
def dirGood : Dir :=
  { copy := 0, count := 1, epoch := 7, a := { base := 0x100000, size := 0x100000, seq := 2, state := 3 },
    b := { base := 0x200000, size := 0x100000, seq := 1, state := 3 } }
def goodFlash : List (Nat × Byte) :=
  at0 0 dirGood.bytes ++ at0 0x100000 contHead ++ at0 (0x100000 + 7936) (bodyOf 1) ++ at0 (0x100000 + 8192) (bodyOf 13) ++
  at0 (0x100000 + 8448) (bodyOf 2) ++ at0 (0x100000 + 8704) (bodyOf 16)
def good (l : List (Fld × Nat × Nat) := []) : State :=
  put ((CP_LC_state, 1, 0) :: l) { flash := goodFlash, boot := { batEpoch := 9, base := some (0, 0x100000), fuse := { prov := 8, svn := 5, keys := [(3, dig)] } } }

/-- SHA3-512 gives the key and the bodies the digests that the container and the fuses hold, and ML-DSA-87 accepts what that key signs. -/
def CryptoAccepts : Prop :=
  (∀ l ∈ [pk, bodyOf 1, bodyOf 13, bodyOf 16], Config.sha3 l = 2 ^ 512 - 1) ∧
  ∀ m g, Config.verify pk m (ascii "ACKAR") g = true

/-- The header and the section table that it spells. -/
def hdr : Header := ⟨0, 0x100000, 0x31524B41, 1, 256, 9216, 4, 3, 5, 576, 3168⟩

/-- Its header, the directory that lists its slot, and its section table. -/
theorem header_good : good.header 0 0x100000 = hdr := by decide +kernel
theorem dir_good : good.dir 0 = some dirGood := by decide +kernel
def tab : List SecEnt := [⟨1, 0, true, 7936, 8, dig⟩, ⟨13, 0, true, 8192, 8, dig⟩, ⟨2, 7, false, 8448, 8, dig⟩, ⟨16, 3, false, 8704, (bodyOf 16).length, dig⟩]
theorem table_good : good.secTable hdr = tab := by decide +kernel

/-- What a flash 0 holds from 1 MiB on. -/
def upper (s : State) : List (Nat × Byte) := s.flash.filter fun p => decide (0x100000 ≤ p.1)

/-- A key from 1 MiB on is found in the upper part alone. -/
theorem tget_filter {d : Nat → Byte} (l : List (Nat × Byte)) {k : Nat} (h : 0x100000 ≤ k) :
    tget d (l.filter fun p => decide (0x100000 ≤ p.1)) k = tget d l k := by
  induction l with
  | nil => rfl
  | cons p l ih =>
    by_cases hp : 0x100000 ≤ p.1
    · rw [List.filter_cons_of_pos (by simpa using hp), tget, tget, ih]
    · rw [List.filter_cons_of_neg (by simpa using hp), tget, ih, if_neg (by omega)]

/-- Bytes, header and section table of flash 0 from 1 MiB on depend on the upper part alone. -/
theorem flashBytes_up {s t : State} (h : upper t = upper s) {a : Nat} (ha : 0x100000 ≤ a) (n : Nat) :
    t.flashBytes 0 a n = s.flashBytes 0 a n := by
  refine List.map_congr_left fun i _ => ?_
  rw [State.flashByte, State.flashByte, ← tget_filter t.flash (by omega), ← tget_filter s.flash (by omega)]
  exact congrArg (tget _ · _) h
theorem header_up {s t : State} (h : upper t = upper s) : t.header 0 0x100000 = s.header 0 0x100000 := by
  simp (disch := omega) only [State.header, State.flashNat, flashBytes_up h]
theorem secTable_up {s t : State} (h : upper t = upper s) : t.secTable hdr = s.secTable hdr := by
  refine List.map_congr_left fun i _ => ?_
  simp (disch := omega) only [State.flashNat, hdr, flashBytes_up h]

/-- The boot as it comes to choose its image. -/
def sBoot : State := stepsDone good {} 4

/-- The steps before the image is chosen, and fixing the epoch, leave the container as it is. -/
theorem upper_steps : upper sBoot = upper good := by decide +kernel
theorem upper_epoch : upper (sBoot.fixEpoch 0) = upper good := by decide +kernel

/-- An unlisted key has the default; a run of unlisted flash bytes reads 0xFF. -/
theorem tget_none {d : Nat → Byte} {l : List (Nat × Byte)} {k : Nat} (h : ∀ p ∈ l, p.1 ≠ k) : tget d l k = d k := by
  induction l with
  | nil => rfl
  | cons p l ih =>
    rw [tget, if_neg (fun e => h p (by simp) e.symm)]
    exact ih fun q hq => h q (by simp [hq])
theorem flashBytes_none {s : State} {cs a n : Nat} (h : ∀ p ∈ s.flash, p.1 < 2 ^ 32 * cs + a ∨ 2 ^ 32 * cs + a + n ≤ p.1) :
    s.flashBytes cs a n = List.replicate n 0xFF := by
  refine List.ext_getElem (by simp [State.flashBytes]) fun i h1 h2 => ?_
  simp only [State.flashBytes, List.length_map, List.length_range] at h1
  simp only [State.flashBytes, State.flashByte, List.getElem_map, List.getElem_range, List.getElem_replicate]
  exact tget_none fun p hp => by have := h p hp; omega

/-- The key in the container. -/
theorem pk_good : good.flashBytes 0 (0x100000 + 576) 2592 = pk := flashBytes_none (by decide +kernel)
theorem sha_leBytes : leBytes 64 (2 ^ 512 - 1) = dig := by decide +kernel

/-- The container verifies wherever flash, key slot and security version are these. -/
theorem verify_good {s : State} {n : Nat} (hn : 9216 ≤ n) (hc : CryptoAccepts) (hf : upper s = upper good) (hk : s.keyHash 3 = some (dig))
    (hv : s.boot.fuse.svn = 5) : s.verify hdr n = 0 := by
  have hp : s.flashBytes hdr.cs (hdr.base + hdr.pkOff) 2592 = pk := (flashBytes_up hf (by decide) _).trans pk_good
  have ht : s.secTable hdr = tab := (secTable_up hf).trans table_good
  have hs : sha512 pk = dig := by rw [sha512, hc.1 pk (by simp), sha_leBytes]
  have hq : s.keyHash hdr.keySlot = some (dig) := hk
  have g : tableOk hdr tab = true := by decide +kernel
  have hz : decide (hdr.size ≤ n) = true := decide_eq_true hn
  simp only [State.verify, hp, ht, hq, hs, hc.2, hv, g, hz]
  decide +kernel

/-- The bodies, their digests, and what the boot and APPLY_PLAN load of them. -/
theorem body_good : good.flashBytes 0 (0x100000 + 7936) 8 = bodyOf 1 ∧ good.flashBytes 0 (0x100000 + 8192) 8 = bodyOf 13 ∧
    good.flashBytes 0 (0x100000 + 8704) (bodyOf 16).length = bodyOf 16 := by decide +kernel

theorem digest_good (hc : CryptoAccepts) {l : List Byte} (h : l ∈ [pk, bodyOf 1, bodyOf 13, bodyOf 16]) : sha512 l = dig := by
  rw [sha512, hc.1 l h, sha_leBytes]

theorem bootPass_good {s : State} (hc : CryptoAccepts) (hf : upper s = upper good) :
    s.bootPass hdr [⟨1, 0, true, 7936, 8, dig⟩, ⟨13, 0, true, 8192, 8, dig⟩] =
      [(loadBody 1 0 (bodyOf 1), dig, true), (loadBody 13 0 (bodyOf 13), dig, true)] := by
  have h1 : s.body hdr ⟨1, 0, true, 7936, 8, dig⟩ = bodyOf 1 := (flashBytes_up hf (by decide) _).trans body_good.1
  have h2 : s.body hdr ⟨13, 0, true, 8192, 8, dig⟩ = bodyOf 13 := (flashBytes_up hf (by decide) _).trans body_good.2.1
  have d1 := digest_good hc (l := bodyOf 1) (by simp)
  have d2 := digest_good hc (l := bodyOf 13) (by simp)
  have l1 : (loadBody 1 0 (bodyOf 1)).rej.isSome = false := by decide +kernel
  have l2 : (loadBody 13 0 (bodyOf 13)).rej.isSome = false := by decide +kernel
  simp [State.bootPass, h1, h2, d1, d2, l1, l2]

theorem bootLoad_good (hc : CryptoAccepts) : ((sBoot.fixEpoch 0).bootLoad hdr).2.isSome = true := by
  have ht : (sBoot.fixEpoch 0).secTable hdr = tab := (secTable_up upper_epoch).trans table_good
  have hb : ((tab.filter fun e => e.boot && decide (e.id < 16)).foldr insertSec []) =
    [⟨1, 0, true, 7936, 8, dig⟩, ⟨13, 0, true, 8192, 8, dig⟩] := by decide +kernel
  rw [State.bootLoad, ht, hb, bootPass_good hc upper_epoch]
  decide +kernel

theorem planOf_good {s : State} (hc : CryptoAccepts) (hf : upper s = upper good) :
    s.planOf hdr 3 = some (checkPlan (loadBody 16 3 (bodyOf 16))).entries := by
  have ht : s.secTable hdr = tab := (secTable_up hf).trans table_good
  have hx : (tab.find? fun x => x.id == 16 && x.inst == 3) = some ⟨16, 3, false, 8704, (bodyOf 16).length, dig⟩ := by decide +kernel
  have h1 : s.body hdr ⟨16, 3, false, 8704, (bodyOf 16).length, dig⟩ = bodyOf 16 := (flashBytes_up hf (by decide) _).trans body_good.2.2
  have d1 := digest_good hc (l := bodyOf 16) (by simp)
  simp only [State.planOf, ht, hx, h1, d1]
  decide +kernel

/-- An APPLY and an APPLY_PLAN taken on channel 10. -/
def sApply : State := takenAt 10 (msg 0x0101 [(1, 0x100), (2, 0x702)]) good
def sPlan : State := takenAt 10 (msg 0x0102 [(2, 3)]) good

/-- Where nothing else has come, a command may use the container in force. -/
theorem usable_good (s : State) (hf : upper s = upper good) (hc : CryptoAccepts) (hb : s.boot = good.boot) :
    s.usable 0 = some hdr := by
  have hh : s.header 0 0x100000 = hdr := (header_up hf).trans header_good
  have hk : s.keyHash 3 = some dig := by rw [State.keyHash, hb]; decide +kernel
  have hv : s.boot.fuse.svn = 5 := by rw [hb]; decide +kernel
  have hs : s.sourceHeader 0 = some (hdr, 9216) := by
    have : s.boot.base = some (0, 0x100000) := by rw [hb]; decide +kernel
    simp only [State.sourceHeader, State.inForce, this, Option.map_some, hh]; rfl
  simp only [State.usable, hs, verify_good (Nat.le_refl 9216) hc hf hk hv, if_true]

/-- An APPLY of LANES instance 7 that ChangesAreAccepted accepts; crypto is opaque, so that it accepts is assumed. -/
theorem witness_ChangesAreAccepted_apply (hc : CryptoAccepts) :
    Served sApply 10 0x0101 (msg 0x0101 [(1, 0x100), (2, 0x702)]) ∧ sApply.roleTakes = true ∧
    namesOk (applyNames (msg 0x0101 [(1, 0x100), (2, 0x702)])) = true ∧ sApply.changing = false ∧ sApply.usable 0 = some hdr ∧
    (∀ p ∈ applyNames (msg 0x0101 [(1, 0x100), (2, 0x702)]), ∃ x ∈ sApply.secTable hdr, x.id = p.1 ∧ x.inst = p.2) := by
  have hf : upper sApply = upper good := by decide +kernel
  refine ⟨by unfold Served; decide +kernel, by decide +kernel, by decide +kernel, by decide +kernel,
    usable_good _ hf hc (by decide +kernel), ?_⟩
  rw [(secTable_up hf).trans table_good]; decide +kernel

/-- The plan that PLAN instance 3 spells. -/
def plan1 : List Entry := (checkPlan (loadBody 16 3 (bodyOf 16))).entries

/-- An APPLY_PLAN of PLAN instance 3 from its first step. -/
theorem witness_ChangesAreAccepted_plan (hc : CryptoAccepts) :
    Served sPlan 10 0x0102 (msg 0x0102 [(2, 3)]) ∧ sPlan.roleTakes = true ∧ sPlan.changing = false ∧
    sPlan.usable 0 = some hdr ∧ (∃ x ∈ sPlan.secTable hdr, x.id = 16 ∧ x.inst = 3) ∧ sPlan.planOf hdr 3 = some plan1 ∧
    1 ≤ globalOf [({ sec := 16, entries := plan1 } : Section)] PLAN_steps ∧
    (∀ y ∈ plan1, y.kind = 1 → ∀ p ∈ stepNames y, ∃ x ∈ sPlan.secTable hdr, x.id = p.1 ∧ x.inst = p.2) ∧
    (({ sPlan with chg := { sPlan.chg with plan := plan1 } } : State).planStep 1).b PLAN_pre_check = false := by
  have hf : upper sPlan = upper good := by decide +kernel
  refine ⟨by unfold Served; decide +kernel, by decide +kernel, by decide +kernel, usable_good _ hf hc (by decide +kernel), ?_,
    planOf_good hc hf, by decide +kernel, ?_, by decide +kernel⟩ <;>
  (rw [(secTable_up hf).trans table_good]; decide +kernel)

/-- A boot of the GOOD slot of highest sequence. -/
theorem witness_BootAndLifecycle_good (hc : CryptoAccepts) :
    oscCode 25000000 = some 4 ∧ good.bootState = 0 ∧ good.pwr.trip = false ∧ good.pwr.under = false ∧ good.pwr.main = true ∧ WholeGroups good.boot.fuse ∧
    good.get CP_LC_state ≠ 0 ∧ good.dir 0 = some dirGood ∧ (good.slotOrder 0).head? = some (0, 0) ∧ (dirGood.slot 0).state = 3 ∧
    sBoot.verify (sBoot.header 0 (dirGood.slot 0).base) (dirGood.slot 0).size = 0 ∧
    (∃ l, ((sBoot.fixEpoch 0).bootLoad (sBoot.header 0 (dirGood.slot 0).base)).2 = some l) ∧ good.rcd.epochOk = false := by
  have hh : sBoot.header 0 (dirGood.slot 0).base = hdr := (header_up upper_steps).trans header_good
  refine ⟨by decide +kernel, by decide +kernel, by decide +kernel, by decide +kernel, by decide +kernel, by unfold WholeGroups; decide +kernel,
    by decide +kernel, dir_good, ?_, by decide +kernel, ?_, ?_, by decide +kernel⟩
  · rw [State.slotOrder, dir_good]; decide +kernel
  · rw [hh]; exact verify_good (by decide) hc upper_steps (by decide +kernel) (by decide +kernel)
  · rw [hh]; exact Option.isSome_iff_exists.1 (bootLoad_good hc)

end Sys2Proof.Tests
end

section
/-!
The rules of a register access: what the start of a command's cycle leaves as it is, and the places of the register map.
-/
namespace Sys2Proof.Scope

open Sys2Proof.Machine Sys2Proof.Safety
open Sys2Proof.Laws hiding maskOf put

/-! ### The start of a cycle -/

/-- A loop keeps what each of its rounds keeps. -/
theorem forEach_keeps {α σ β : Type} (p : σ → β) {f : σ → α → σ} (h : ∀ s a, p (f s a) = p s) :
    ∀ (l : List α) (s : σ), p (forEach l s f) = p s
  | [], _ => rfl
  | a :: l, s => (forEach_keeps p h l (f s a)).trans (h s a)

@[simp] theorem sendMsix_regs (s : State) (v : Nat) : (s.sendMsix v).regs = s.regs := by
  unfold State.sendMsix; split_ifs <;> rfl

@[simp] theorem sendMsix_rdata (s : State) (v : Nat) : (s.sendMsix v).out.rdata = s.out.rdata := by
  unfold State.sendMsix; split_ifs <;> rfl

@[simp] theorem irqSet_regs (s : State) (src : Nat) : (s.irqSet src).regs = s.regs := by
  unfold State.irqSet; dsimp only; split
  · exact sendMsix_regs _ _
  · rfl

@[simp] theorem irqSet_rdata (s : State) (src : Nat) : (s.irqSet src).out.rdata = s.out.rdata := by
  unfold State.irqSet; dsimp only; split
  · exact sendMsix_rdata _ _
  · rfl

/-- The latching of the level sources keeps what the setting of a source keeps. -/
theorem latchLevels_keeps {β : Type} (p : State → β) (h : ∀ s src, p (s.irqSet src) = p s) (s : State) :
    p s.latchLevels = p s := by
  refine forEach_keeps p (fun s g => ?_) _ s
  dsimp only
  split
  · rfl
  · exact forEach_keeps p (fun s b => h s _) _ s

@[simp] theorem newCycle_regs (s : State) : s.newCycle.regs = s.regs := latchLevels_keeps (·.regs) irqSet_regs _

@[simp] theorem newCycle_rdata (s : State) : s.newCycle.out.rdata = [] := latchLevels_keeps (·.out.rdata) irqSet_rdata _

@[simp] theorem newCycle_latch (s : State) : s.newCycle.latch = s.latch := (fr_newCycle s).latch (by decide)

@[simp] theorem newCycle_stage (s : State) : s.newCycle.stage = s.stage := (fr_newCycle s).stage (by decide)

@[simp] theorem newCycle_img (s : State) : s.newCycle.img = s.img := (fr_newCycle s).img (by decide)

@[simp] theorem newCycle_reg (s : State) (k : Nat) : s.newCycle.reg k = s.reg k := by
  simp only [State.reg, newCycle_regs]

@[simp] theorem newCycle_get (s : State) (f : Fld) (n : Nat) : s.newCycle.get f n = s.get f n :=
  State.get_of_reg (newCycle_reg s _)

@[simp] theorem newCycle_on (s : State) (f : Fld) (n : Nat) : s.newCycle.on f n = s.on f n :=
  State.on_of_reg (newCycle_reg s _)

@[simp] theorem newCycle_barKey (s : State) (off : Nat) : s.newCycle.barKey off = s.barKey off := by
  simp only [State.barKey, newCycle_get]

@[simp] theorem newCycle_cvuOwner (s : State) (u : Nat) : s.newCycle.cvuOwner u = s.cvuOwner u := by
  simp only [State.cvuOwner, State.entry, newCycle_img]

@[simp] theorem newCycle_secureKey (s : State) (k : Nat) : s.newCycle.secureKey k = s.secureKey k := by
  simp only [State.secureKey, newCycle_cvuOwner, State.gl, newCycle_img]

@[simp] theorem newCycle_secureSrc (s : State) (src : Src) (k : Nat) : s.newCycle.secureSrc src k = s.secureSrc src k := by
  simp only [State.secureSrc, State.masterSecure, newCycle_on]

@[simp] theorem newCycle_latchedAt (s : State) (k : Nat) : latchedAt s.newCycle k = latchedAt s k := by
  simp only [latchedAt, newCycle_latch]

end Sys2Proof.Scope
end

section
/-!
The fields of a register, bit by bit: what a read masks and clears, and what a write leaves (Table 0-3).
-/
namespace Sys2Proof.Scope

open Sys2Proof.Machine Sys2Proof.Safety

/-! ### The fields of the register map -/

/-- A bit lies in a field. -/
def InField (f : Nat × Nat × Acc) (i : Nat) : Prop := f.2.1 ≤ i ∧ i ≤ f.1

/-- The fields of a register are 32 bits at most, and no two share a bit. -/
def fieldsApart : List (Nat × Nat × Acc) → Bool
  | [] => true
  | f :: l => decide (f.1 < 32) && (l.all fun g => decide (f.1 < g.2.1) || decide (g.1 < f.2.1)) && fieldsApart l

theorem fieldsApart_regMap : ∀ r ∈ regMap, fieldsApart r.fields = true := by decide +kernel

theorem regAt_mem {k n : Nat} {r : RegDef} (h : regAt k = some (r, n)) : r ∈ regMap ∧ r.instanceAt k = some n := by
  obtain ⟨r', hr, hn⟩ := List.exists_of_findSome?_eq_some h
  obtain ⟨m, hm, e⟩ := Option.map_eq_some_iff.1 hn
  cases e
  exact ⟨hr, hm⟩

theorem instanceAt_key {r : RegDef} {k n : Nat} (h : r.instanceAt k = some n) :
    k = r.base + r.stride * n ∧ (r.stride = 0 ∧ n = 0 ∨ n < r.count) := by
  unfold RegDef.instanceAt at h
  split_ifs at h with h1 h2 h3 h4
  · cases h; simp [h2, h3]
  · simp only [Bool.and_eq_true, decide_eq_true_eq] at h4
    cases h
    refine ⟨?_, .inr h4.2⟩
    rw [Nat.mul_div_cancel' (Nat.dvd_of_mod_eq_zero h4.1)]
    omega

theorem fieldsApart_of_regAt {k n : Nat} {r : RegDef} (h : regAt k = some (r, n)) : fieldsApart r.fields = true :=
  fieldsApart_regMap r (regAt_mem h).1

theorem lt_of_fieldsApart : ∀ {l : List (Nat × Nat × Acc)}, fieldsApart l = true → ∀ f ∈ l, f.1 < 32
  | g :: l, h, f, hf => by
    simp only [fieldsApart, Bool.and_eq_true, decide_eq_true_eq] at h
    rcases List.mem_cons.1 hf with rfl | hf
    · exact h.1.1
    · exact lt_of_fieldsApart h.2 f hf

/-! ### A fold over the fields -/

/-- An update of a word by one field acts on every bit of the field by a rule and on no other bit. -/
def ActsBy (F : Word → Nat × Nat × Acc → Word) (rule : Nat × Nat × Acc → Nat → Bool → Bool) : Prop :=
  ∀ w f i, f.1 < 32 → (InField f i → (F w f).getLsbD i = rule f i (w.getLsbD i)) ∧
    (¬ InField f i → (F w f).getLsbD i = w.getLsbD i)

section
variable {F : Word → Nat × Nat × Acc → Word} {rule : Nat × Nat × Acc → Nat → Bool → Bool}

/-- Bits of no field stay. -/
theorem ActsBy.foldl_outside (hF : ActsBy F rule) {i : Nat} : ∀ (l : List (Nat × Nat × Acc)) (w : Word),
    fieldsApart l = true → (∀ f ∈ l, ¬ InField f i) → (l.foldl F w).getLsbD i = w.getLsbD i
  | [], _, _, _ => rfl
  | f :: l, w, h, hi => by
    simp only [fieldsApart, Bool.and_eq_true, decide_eq_true_eq] at h
    have hf := (hF w f i h.1.1).2 (hi f List.mem_cons_self)
    exact (hF.foldl_outside l (F w f) h.2 fun g hg => hi g (List.mem_cons_of_mem _ hg)).trans hf

/-- A bit of a field changes by the rule of that field alone. -/
theorem ActsBy.foldl_inside (hF : ActsBy F rule) {i : Nat} {f : Nat × Nat × Acc} (hi : InField f i) :
    ∀ (l : List (Nat × Nat × Acc)) (w : Word), fieldsApart l = true → f ∈ l →
      (l.foldl F w).getLsbD i = rule f i (w.getLsbD i)
  | g :: l, w, h, hf => by
    simp only [fieldsApart, Bool.and_eq_true, decide_eq_true_eq, List.all_eq_true, Bool.or_eq_true] at h
    obtain ⟨⟨h32, hapart⟩, hl⟩ := h
    rcases List.mem_cons.1 hf with rfl | hf
    · have hout : ∀ g ∈ l, ¬ InField g i := by
        intro g hg
        have := hapart g hg
        unfold InField at hi ⊢
        omega
      exact (hF.foldl_outside l _ hl hout).trans ((hF w f i h32).1 hi)
    · have hg : ¬ InField g i := by
        have := hapart f hf
        unfold InField at hi ⊢
        omega
      rw [List.foldl_cons, hF.foldl_inside hi l (F w g) hl hf, (hF w g i h32).2 hg]

end

/-! ### Byte enables and masks -/

theorem getLsbD_beMask (be i : Nat) (hi : i < 32) : (beMask be).getLsbD i = be.testBit (i / 8) := by
  have h : ∀ b < 4, (decide (8 * b ≤ i) && decide (i ≤ 8 * b + 7)) = decide (i / 8 = b) := by
    intro b _
    rw [← Bool.decide_and, decide_eq_decide]
    omega
  have hb : ∀ (m : Word) b, b < 4 → ((if bit be b then m ||| Machine.maskOf (8 * b + 7) (8 * b) else m) : Word).getLsbD i =
      (m.getLsbD i || (be.testBit b && decide (i / 8 = b))) := by
    intro m b hlt
    unfold bit
    split
    · next hbit => rw [BitVec.getLsbD_or, testBit_maskOf _ _ _ (by omega), h b hlt, hbit, Bool.true_and]
    · next hbit => simp [hbit]
  have hi4 : i / 8 = 0 ∨ i / 8 = 1 ∨ i / 8 = 2 ∨ i / 8 = 3 := by omega
  unfold beMask
  simp only [show List.range 4 = [0, 1, 2, 3] from rfl, List.foldl_cons, List.foldl_nil]
  rw [hb _ 3 (by decide), hb _ 2 (by decide), hb _ 1 (by decide), hb _ 0 (by decide)]
  rcases hi4 with e | e | e | e <;> simp [e]

theorem getLsbD_maskOf {f : Nat × Nat × Acc} (h : f.1 < 32) (i : Nat) :
    (Machine.maskOf f.1 f.2.1).getLsbD i = true ↔ InField f i := by
  rw [testBit_maskOf _ _ _ h, Bool.and_eq_true, decide_eq_true_eq, decide_eq_true_eq]; rfl

theorem getLsbD_maskOf_false {f : Nat × Nat × Acc} (h : f.1 < 32) (i : Nat) :
    (Machine.maskOf f.1 f.2.1).getLsbD i = false ↔ ¬ InField f i := by
  rw [← getLsbD_maskOf h, Bool.not_eq_true]

theorem getLsbD_andNot (w e : Word) (i : Nat) : (w &&& ~~~ e).getLsbD i = (w.getLsbD i && !e.getLsbD i) := by
  rw [BitVec.getLsbD_and, BitVec.getLsbD_not]
  by_cases hlt : i < 32
  · rw [decide_eq_true hlt, Bool.true_and]
  · rw [BitVec.getLsbD_of_ge w i (by omega), Bool.false_and, Bool.false_and]

/-! ### A write -/

/-- A word takes the written bits under a mask. -/
theorem getLsbD_replace (w data e : Word) (i : Nat) :
    ((w &&& ~~~ e) ||| (data &&& e)).getLsbD i = if e.getLsbD i then data.getLsbD i else w.getLsbD i := by
  rw [BitVec.getLsbD_or, getLsbD_andNot, BitVec.getLsbD_and]
  cases e.getLsbD i <;> simp

theorem getLsbD_clear (w data e : Word) (i : Nat) :
    (w &&& ~~~ (data &&& e)).getLsbD i = (w.getLsbD i && !(e.getLsbD i && data.getLsbD i)) := by
  rw [getLsbD_andNot, BitVec.getLsbD_and, Bool.and_comm (data.getLsbD i)]

theorem getLsbD_raise (w data e : Word) (i : Nat) :
    (w ||| (data &&& e)).getLsbD i = (w.getLsbD i || (e.getLsbD i && data.getLsbD i)) := by
  rw [BitVec.getLsbD_or, BitVec.getLsbD_and, Bool.and_comm (data.getLsbD i)]

/-- A write acts on a bit by the access code of a field (Table 0-3), enabled where the field's enabled bytes are. -/
theorem getLsbD_writeField (sec : Bool) (m data w : Word) (f : Nat × Nat × Acc) (i : Nat) :
    (writeField sec m data w f).getLsbD i =
      accBit f.2.2 sec ((Machine.maskOf f.1 f.2.1 &&& m).getLsbD i) (data.getLsbD i) (w.getLsbD i) := by
  obtain ⟨hi, lo, a⟩ := f
  cases a with
  | ro | rc | wo => rfl
  | rw => exact getLsbD_replace ..
  | w1c => exact getLsbD_clear ..
  | w1s => exact getLsbD_raise ..
  | srw =>
    cases sec with
    | false => rfl
    | true => exact getLsbD_replace ..

/-- A bit that is not enabled stays. -/
theorem accBit_disabled (a : Acc) (sec data old : Bool) : accBit a sec false data old = old := by
  cases a <;> simp [accBit]

theorem writeField_actsBy (sec : Bool) (be : Nat) (data : Word) :
    ActsBy (writeField sec (beMask be) data) fun f i old => accBit f.2.2 sec (be.testBit (i / 8)) (data.getLsbD i) old := by
  intro w f i h32
  rw [getLsbD_writeField, BitVec.getLsbD_and]
  constructor
  · intro hin
    rw [(getLsbD_maskOf h32 i).2 hin, getLsbD_beMask be i (lt_of_le_of_lt hin.2 h32), Bool.true_and]
  · intro hout
    rw [(getLsbD_maskOf_false h32 i).2 hout, Bool.false_and, accBit_disabled]

theorem getLsbD_written_inside {r : RegDef} (h : fieldsApart r.fields = true) (sec : Bool) (be : Nat) (data w : Word)
    {f : Nat × Nat × Acc} (hf : f ∈ r.fields) {i : Nat} (hi : InField f i) :
    (written sec r be data w).getLsbD i = accBit f.2.2 sec (be.testBit (i / 8)) (data.getLsbD i) (w.getLsbD i) :=
  (writeField_actsBy sec be data).foldl_inside hi r.fields w h hf

theorem getLsbD_written_outside {r : RegDef} (h : fieldsApart r.fields = true) (sec : Bool) (be : Nat) (data w : Word)
    {i : Nat} (hi : ∀ f ∈ r.fields, ¬ InField f i) : (written sec r be data w).getLsbD i = w.getLsbD i :=
  (writeField_actsBy sec be data).foldl_outside r.fields w h hi

/-! ### A read -/

/-- The bytes of a read that return bits: WO fields read 0. -/
def readMask (r : RegDef) (be : Nat) : Word :=
  r.fields.foldl (fun m f => if f.2.2 = .wo then m &&& ~~~ Machine.maskOf f.1 f.2.1 else m) (beMask be)

/-- The word that a read of a register returns for its value. -/
def readWord (r : RegDef) (be : Nat) (w : Word) : Word := w &&& fieldMask r &&& readMask r be

theorem fieldMask_actsBy : ActsBy (fun m f => m ||| Machine.maskOf f.1 f.2.1) fun _ _ _ => true := by
  intro w f i h32
  rw [BitVec.getLsbD_or]
  constructor
  · intro hin; rw [(getLsbD_maskOf h32 i).2 hin, Bool.or_true]
  · intro hout; rw [(getLsbD_maskOf_false h32 i).2 hout, Bool.or_false]

theorem readMask_actsBy : ActsBy (fun m f => if f.2.2 = .wo then m &&& ~~~ Machine.maskOf f.1 f.2.1 else m)
    fun f _ old => decide (f.2.2 ≠ .wo) && old := by
  intro w f i h32
  dsimp only
  split
  · next hwo =>
    rw [getLsbD_andNot]
    constructor
    · intro hin; simp [hwo, (getLsbD_maskOf h32 i).2 hin]
    · intro hout; rw [(getLsbD_maskOf_false h32 i).2 hout, Bool.not_false, Bool.and_true]
  · next hwo => simp [hwo]

theorem readKeeps_actsBy (be : Nat) :
    ActsBy (fun w f => if f.2.2 = .rc && covers be f.1 f.2.1 then withBits w f.1 f.2.1 0 else w)
      fun f _ old => old && !(decide (f.2.2 = .rc) && covers be f.1 f.2.1) := by
  intro w f i h32
  dsimp only
  split
  · next hrc =>
    rw [getLsbD_withBits _ _ _ _ _ h32]
    constructor
    · intro hin; rw [if_pos ⟨hin.1, hin.2⟩, hrc]; simp
    · intro hout; rw [if_neg fun h => hout ⟨h.1, h.2⟩]
  · next hrc => simp [hrc]

theorem getLsbD_readWord_inside {r : RegDef} (h : fieldsApart r.fields = true) (be : Nat) (w : Word)
    {f : Nat × Nat × Acc} (hf : f ∈ r.fields) {i : Nat} (hi : InField f i) :
    (readWord r be w).getLsbD i = (decide (f.2.2 ≠ .wo) && be.testBit (i / 8) && w.getLsbD i) := by
  have hlt : i < 32 := lt_of_le_of_lt hi.2 (lt_of_fieldsApart h f hf)
  have h1 : (fieldMask r).getLsbD i = true := fieldMask_actsBy.foldl_inside hi r.fields 0 h hf
  have h2 : (readMask r be).getLsbD i = (decide (f.2.2 ≠ .wo) && be.testBit (i / 8)) := by
    rw [← getLsbD_beMask be i hlt]
    exact readMask_actsBy.foldl_inside hi r.fields (beMask be) h hf
  rw [readWord, BitVec.getLsbD_and, BitVec.getLsbD_and, h1, h2, Bool.and_true, Bool.and_comm]

theorem getLsbD_readWord_outside {r : RegDef} (h : fieldsApart r.fields = true) (be : Nat) (w : Word)
    {i : Nat} (hi : ∀ f ∈ r.fields, ¬ InField f i) : (readWord r be w).getLsbD i = false := by
  have h1 : (fieldMask r).getLsbD i = false :=
    (fieldMask_actsBy.foldl_outside r.fields 0 h hi).trans BitVec.getLsbD_zero
  rw [readWord, BitVec.getLsbD_and, BitVec.getLsbD_and, h1, Bool.and_false, Bool.false_and]

theorem getLsbD_readKeeps_inside {r : RegDef} (h : fieldsApart r.fields = true) (be : Nat) (w : Word)
    {f : Nat × Nat × Acc} (hf : f ∈ r.fields) {i : Nat} (hi : InField f i) :
    (readKeeps r be w).getLsbD i = (w.getLsbD i && !(decide (f.2.2 = .rc) && covers be f.1 f.2.1)) :=
  (readKeeps_actsBy be).foldl_inside hi r.fields w h hf

theorem getLsbD_readKeeps_outside {r : RegDef} (h : fieldsApart r.fields = true) (be : Nat) (w : Word)
    {i : Nat} (hi : ∀ f ∈ r.fields, ¬ InField f i) : (readKeeps r be w).getLsbD i = w.getLsbD i :=
  (readKeeps_actsBy be).foldl_outside r.fields w h hi

end Sys2Proof.Scope
end

section
/-!
Refused and poisoned accesses (R7, R357, R364).
-/
namespace Sys2Proof.Scope

open Sys2Proof.Machine Sys2Proof.Safety
open Sys2Proof.Laws hiding maskOf put

/-! ### What an update leaves as it is -/

theorem keep_refl (s : State) (l : List Part) : Keep s s l := ⟨fun p _ => by cases p <;> rfl, rfl⟩

theorem keep_trans {s t u : State} {l : List Part} (h : Keep s t l) (g : Keep t u l) : Keep s u l := by
  refine ⟨fun p hp => ?_, g.2.trans h.2⟩
  have a := h.1 p hp
  have b := g.1 p hp
  cases p <;> exact b.trans a

theorem keep_mono {s t : State} {l m : List Part} (h : Keep s t l) (hs : ∀ p ∈ l, p ∈ m) : Keep s t m :=
  ⟨fun p hp => h.1 p fun hl => hp (hs p hl), h.2⟩

/-- Every part of State. -/
def allParts : List Part :=
  [.latch, .stage, .img, .ln, .fr, .qs, .mate, .rcd, .irq, .perf, .cyc, .free, .gp, .fab, .tw, .tag, .evg, .pwr, .fuse, .boot,
    .chg, .bus, .host, .tim, .flash, .mem, .out, .up]

theorem mem_allParts (p : Part) : p ∈ allParts := by cases p <;> decide

/-- The parts that a frame keeps, by a check of its mask. -/
theorem frame_keep {w : Nat} {s t : State} (h : Frame w s t) {parts : List Part}
    (hw : (allParts.all fun p => parts.contains p || !w.testBit (bitOf p)) = true) : Keep s t parts := by
  refine h.keep fun p hp => ?_
  have hb := List.all_eq_true.1 hw p (mem_allParts p)
  simpa only [Bool.or_eq_true, List.contains_iff_mem, hp, false_or, Bool.not_eq_true'] using hb

theorem keep_setReg (s : State) (k : Nat) (w : Word) : Keep s (s.setReg k w) [] :=
  ⟨fun p _ => by cases p <;> rfl, rfl⟩

theorem keep_set (s : State) (f : Fld) (v n : Nat) : Keep s (s.set f v n) [] := by
  unfold State.set
  split
  · exact keep_setReg ..
  · exact keep_refl ..

theorem keep_stage (s : State) (l : List (Nat × Word)) : Keep s { s with stage := l } [.stage] := by
  refine ⟨fun p hp => ?_, rfl⟩
  cases p
  case stage => exact absurd List.mem_cons_self hp
  all_goals rfl

theorem keep_showWords (s : State) (l : List Word) : Keep s (s.showWords l) [.out] :=
  frame_keep (fr_showWords s l) (by decide)

@[simp] theorem showWords_reg (s : State) (l : List Word) (k : Nat) : (s.showWords l).reg k = s.reg k := rfl

@[simp] theorem showWords_rdata (s : State) (l : List Word) : (s.showWords l).out.rdata = s.out.rdata ++ l := rfl

@[simp] theorem showWords_latchedAt (s : State) (l : List Word) (k : Nat) :
    latchedAt (s.showWords l) k = latchedAt s k := rfl

/-! ### Counters -/

theorem bitsOf_lt (w : Word) (hi lo : Nat) : bitsOf w hi lo < 2 ^ (hi + 1 - lo) := Nat.mod_lt _ (Nat.two_pow_pos _)

theorem get_lt (s : State) (f : Fld) (n : Nat) : s.get f n < 2 ^ (f.hi + 1 - f.lo) := by
  rw [State.get_eq]
  split
  · exact bitsOf_lt ..
  · exact Nat.two_pow_pos _

/-- A counter counts one, and holds at its all-ones value (R10). -/
theorem get_inc (s : State) (f : Fld) (n : Nat) (hn : n < f.count) (h32 : f.hi < 32) :
    (s.inc f n).get f n = min (s.get f n + 1) (top f) := by
  have hlt := get_lt s f n
  unfold State.inc satN top
  rw [State.get_set_same _ _ _ _ hn h32]
  split
  · rw [Nat.mod_eq_of_lt] <;> omega
  · rw [Nat.mod_eq_of_lt] <;> omega

/-! ### A refusal on the world -/

/-- The world violation registers after a refusal. -/
def violRegsSet (s : State) (master a : Nat) (write : Bool) : State :=
  (((s.inc BM_WV_count).set BM_WV_master master).setB BM_WV_write write).set64 BM_WV_ADDR_LO_addr_lo BM_WV_ADDR_HI_addr_hi a

theorem violRegsSet_shows (s : State) (master a : Nat) (write : Bool) (ha : a < 2 ^ 40) :
    wvShown s (violRegsSet s master a write) master write a := by
  unfold wvShown violRegsSet State.on State.get64 State.set64 State.setB
  simp (disch := decide) only [State.get_set_apart, State.get_set_same, get_inc]
  refine ⟨trivial, rfl, ?_, ?_⟩
  · cases write <;> rfl
  · show a % 2 ^ 32 + 2 ^ 32 * (a / 2 ^ 32 % 2 ^ 8) = a
    omega

theorem violation_eq (s : State) (master a : Nat) (write : Bool) :
    s.violation master a write = violRegsSet s master a write ∨
      ∃ b fields, s.violation master a write =
        ({ violRegsSet s master a write with bus := b } : State).report kWORLD_VIOLATION fields := by
  unfold State.violation
  dsimp only
  split
  · exact .inl rfl
  · exact .inr ⟨_, _, rfl⟩

@[simp] theorem offerRec_rdata (s : State) (k : RecKind) (l : List Byte) : (s.offerRec k l).out.rdata = s.out.rdata := by
  unfold State.offerRec State.inc
  split
  · rfl
  · split
    · rw [irqSet_rdata, State.set_out]
    · rfl

@[simp] theorem report_rdata (s : State) (k : RecKind) (l : List (Nat × Nat)) : (s.report k l).out.rdata = s.out.rdata := by
  unfold State.report
  cases k.src with
  | none => exact offerRec_rdata ..
  | some src => exact (offerRec_rdata ..).trans (irqSet_rdata ..)

@[simp] theorem violRegsSet_out (s : State) (master a : Nat) (write : Bool) : (violRegsSet s master a write).out = s.out := by
  simp only [violRegsSet, State.set64_out, State.setB_out, State.set_out, State.inc]

/-- A refusal returns no word of its own. -/
@[simp] theorem violation_rdata (s : State) (master a : Nat) (write : Bool) :
    (s.violation master a write).out.rdata = s.out.rdata := by
  obtain e | ⟨b, fields, e⟩ := violation_eq s master a write
  · rw [e, violRegsSet_out]
  · rw [e, report_rdata, violRegsSet_out]

/-- The record of a refusal leaves the world violation registers as the refusal set them. -/
theorem violation_shows (s : State) (master a : Nat) (write : Bool) (ha : a < 2 ^ 40) :
    wvShown s (s.violation master a write) master write a := by
  have h := violRegsSet_shows s master a write ha
  obtain e | ⟨b, fields, e⟩ := violation_eq s master a write
  · rwa [e]
  · have hr := fr_report { violRegsSet s master a write with bus := b } kWORLD_VIOLATION fields
    unfold wvShown State.get64 at h ⊢
    rw [e, hr.get (f := BM_WV_count) (by decide +kernel), hr.get (f := BM_WV_master) (by decide +kernel),
      hr.on (f := BM_WV_write) (by decide +kernel), hr.get (f := BM_WV_ADDR_LO_addr_lo) (by decide +kernel),
      hr.get (f := BM_WV_ADDR_HI_addr_hi) (by decide +kernel)]
    exact h

theorem violation_keep (s : State) (master a : Nat) (write : Bool) :
    Keep s (s.violation master a write) [.rcd, .irq, .perf, .bus, .out] :=
  frame_keep (fr_violation s master a write) (by decide +kernel)

theorem violation_keepRegs (s : State) (master a : Nat) (write : Bool) :
    KeepRegs s (s.violation master a write) [] violRegs :=
  (fr_violation s master a write).keepRegs (by decide +kernel)

/-! ### A refused access -/

theorem readShown_refused {s : State} {src : Src} {off k : Nat} (be : Nat) (hk : k = s.barKey (off / 4 * 4))
    (hs : s.secureKey k = true) (hw : s.secureSrc src k = false) :
    s.readShown src off be = (s.violation (srcMaster src) (0x10000000 + off / 4 * 4) false).showWords [0] := by
  subst hk
  simp only [State.readShown, State.readBar, State.readAs, hs, hw, Bool.not_false, Bool.and_self, if_true]

theorem writeBar_refused {s : State} {src : Src} {off k : Nat} (be : Nat) (data : Word) (hk : k = s.barKey (off / 4 * 4))
    (hs : s.secureKey k = true) (hw : s.secureSrc src k = false) :
    s.writeBar src off be data = s.violation (srcMaster src) (0x10000000 + off / 4 * 4) true := by
  subst hk
  simp only [State.writeBar, State.writeAs, hs, hw, Bool.not_false, Bool.and_self, if_true]

/-- A secure register lies below the end of the internal-only registers. -/
theorem secureKey_lt {s : State} {k : Nat} (h : s.secureKey k = true) : k < 0x11002000 := by
  by_contra hge
  have h1 : chanOf k = none := if_neg (by omega)
  have h2 : ownerAt k = none := if_neg (by omega)
  have h3 : cvuAt k = none := if_neg (by omega)
  have h4 : pcSelAt k = none := if_neg (by omega)
  have h5 : (k == 0x11000000) = false := by rw [beq_eq_false_iff_ne]; omega
  have h6 : decide (k < 0x11001100) = false := by rw [decide_eq_false_iff_not]; omega
  simp only [State.secureKey, h1, h2, h3, h4, h5, h6, Option.isSome_none, Bool.and_false, Bool.false_and, Bool.or_false] at h
  exact absurd h (by decide)

/-- A window offset is below the end of the windows, and any other offset is its own key. -/
theorem barKey_eq_or_lt (s : State) (off : Nat) : s.barKey off = off ∨ off < 0x400000 := by
  unfold State.barKey
  split_ifs <;> omega

/-- The internal address of a secure register has 40 bits. -/
theorem secure_address_lt {s : State} {off : Nat} (h : s.secureKey (s.barKey (off / 4 * 4)) = true) :
    0x10000000 + off / 4 * 4 < 2 ^ 40 := by
  have h1 := secureKey_lt h
  have h2 := barKey_eq_or_lt s (off / 4 * 4)
  omega

/-- A non-secure write of a secure register is refused. -/
theorem execRegisterWrite_refused (src : Src) (off be : Nat) (data : Word) (s : State) {k : Nat}
    (hk : k = s.barKey (off / 4 * 4)) (hs : s.secureKey k = true) (hw : s.secureSrc src k = false) :
    ∃ t, exec (.registerWrite src off be data false) s = .next t ∧
      wvShown s t (srcMaster src) true (0x10000000 + off / 4 * 4) ∧
      Keep s.newCycle t [.rcd, .irq, .perf, .bus, .out] ∧ KeepRegs s.newCycle t [] violRegs := by
  refine ⟨_, rfl, ?_⟩
  have ha := secure_address_lt (hk ▸ hs)
  have e : effRegisterWrite src off be data false s.newCycle = _ :=
    writeBar_refused (s := s.newCycle) (k := k) be data (by rw [newCycle_barKey]; exact hk) (by rw [newCycle_secureKey]; exact hs)
      (by rw [newCycle_secureSrc]; exact hw)
  rw [e]
  refine ⟨?_, violation_keep .., violation_keepRegs _ _ _ _⟩
  have h := violation_shows s.newCycle (srcMaster src) (0x10000000 + off / 4 * 4) true ha
  unfold wvShown at h ⊢
  rwa [newCycle_get] at h

/-- A non-secure read of a secure register is refused, and returns 0. -/
theorem execRegisterReadClear_refused (src : Src) (off be : Nat) (s : State) {k : Nat}
    (hk : k = s.barKey (off / 4 * 4)) (hs : s.secureKey k = true) (hw : s.secureSrc src k = false) :
    ∃ t, exec (.registerReadClear src off be) s = .next t ∧ t.out.rdata = [0] ∧
      wvShown s t (srcMaster src) false (0x10000000 + off / 4 * 4) ∧
      Keep s.newCycle t [.rcd, .irq, .perf, .bus, .out] ∧ KeepRegs s.newCycle t [] violRegs := by
  refine ⟨_, rfl, ?_⟩
  have ha := secure_address_lt (hk ▸ hs)
  rw [readShown_refused (s := s.newCycle) (k := k) be (by rw [newCycle_barKey]; exact hk) (by rw [newCycle_secureKey]; exact hs)
    (by rw [newCycle_secureSrc]; exact hw)]
  refine ⟨?_, ?_, ?_, ?_⟩
  · rw [showWords_rdata, violation_rdata, newCycle_rdata]; rfl
  · have h := violation_shows s.newCycle (srcMaster src) (0x10000000 + off / 4 * 4) false ha
    unfold wvShown at h ⊢
    rwa [newCycle_get] at h
  · exact keep_trans (violation_keep ..) (keep_mono (keep_showWords ..) (by decide))
  · exact violation_keepRegs s.newCycle _ _ _

/-! ### A poisoned write -/

theorem keepRegs_set (s : State) (f : Fld) (v n : Nat) : KeepRegs s (s.set f v n) [at_ f n] [] := by
  intro k _ hk _
  rw [State.reg_set, if_neg]
  rintro ⟨-, e⟩
  exact hk (List.mem_singleton.2 e)

theorem keepBits_set (s : State) (f : Fld) (v n : Nat) (h32 : f.hi < 32) : KeepBits s (s.set f v n) (at_ f n) [f] := by
  intro i hi
  rw [State.reg_set]
  split
  · rw [getLsbD_withBits _ _ _ _ _ h32, if_neg (hi f List.mem_cons_self)]
  · rfl

/-- A poisoned write is dropped and counted (R364). -/
theorem execRegisterWrite_poisoned (src : Src) (off be : Nat) (data : Word) (s : State) :
    ∃ t, exec (.registerWrite src off be data true) s = .next t ∧
      t.get MBX_HOSTERR_poisoned = min (s.get MBX_HOSTERR_poisoned + 1) (top MBX_HOSTERR_poisoned) ∧
      KeepBits s t (at_ MBX_HOSTERR_poisoned) [MBX_HOSTERR_poisoned] ∧
      Keep s.newCycle t [] ∧ KeepRegs s.newCycle t [at_ MBX_HOSTERR_poisoned] [] := by
  refine ⟨s.newCycle.inc MBX_HOSTERR_poisoned, rfl, ?_, ?_, keep_set .., keepRegs_set _ _ _ _⟩
  · rw [get_inc _ _ _ (by decide) (by decide), newCycle_get]
  · intro i hi
    exact (keepBits_set s.newCycle _ _ 0 (by decide) i hi).trans (by rw [newCycle_reg])

/-- Settles O13: the refusals by the rule of a refused access, the poisoned write by that of a counter. -/
theorem refusedAndPoisonedWrites : Obligations.RefusedAndPoisonedWrites := by
  unfold Obligations.RefusedAndPoisonedWrites
  exact ⟨fun src off be data s k hk hs hw =>
    ⟨execRegisterWrite_refused src off be data s hk hs hw, execRegisterReadClear_refused src off be s hk hs hw⟩,
    execRegisterWrite_poisoned⟩

/-! ### A register with an SRW field -/

/-- MB_OWNER alone has SRW fields (Table 13-7). -/
theorem srw_is_owner : ∀ r ∈ regMap, (∃ f ∈ r.fields, f.2.2 = .srw) → r.base = 0xD10C ∧ r.stride = 0x10 ∧ r.count = 8 := by
  decide +kernel

theorem owner_key_of_srw {k n : Nat} {r : RegDef} (h : regAt k = some (r, n)) (hf : ∃ f ∈ r.fields, f.2.2 = .srw) :
    n < 8 ∧ k = 0xD10C + 0x10 * n := by
  obtain ⟨hr, hn⟩ := regAt_mem h
  obtain ⟨hb, hs, hc⟩ := srw_is_owner r hr hf
  obtain ⟨hk, hlt⟩ := instanceAt_key hn
  rw [hb, hs] at hk
  omega

theorem secureKey_owner (s : State) {n : Nat} (hn : n < 8) : s.secureKey (0xD10C + 0x10 * n) = true := by
  have h : ownerAt (0xD10C + 0x10 * n) = some n := by
    unfold ownerAt
    rw [if_pos (by omega)]
    congr 1
    omega
  simp only [State.secureKey, h, Option.isSome_some, Bool.or_true, Bool.true_or]

theorem known_of_regAt {k n : Nat} {r : RegDef} (h : regAt k = some (r, n)) (hc : n < r.count) : Known k := by
  obtain ⟨hr, hn⟩ := regAt_mem h
  exact .inl ⟨r, hr, n, hc, (instanceAt_key hn).1⟩

/-- A refusal leaves MB_OWNER as it is. -/
theorem owner_kept {s t : State} (h : KeepRegs s.newCycle t [] violRegs) {n : Nat} (hn : n < 8)
    (hk : Known (0xD10C + 0x10 * n)) : t.reg (0xD10C + 0x10 * n) = s.reg (0xD10C + 0x10 * n) := by
  rw [h _ hk List.not_mem_nil ?_, newCycle_reg]
  intro f hf m hm
  simp only [violRegs, List.mem_cons, List.not_mem_nil, or_false] at hf
  rcases hf with rfl | rfl | rfl | rfl <;> simp only [at_, BM_WV_count, BM_WV_ADDR_LO_addr_lo, BM_WV_ADDR_HI_addr_hi,
    EVR_LOSS_drop] at hm ⊢ <;> omega

/-- Settles O16: MB_OWNER, the one register with SRW fields, is secure, and the access is refused as any other. -/
theorem secureFieldAccesses : Obligations.SecureFieldAccesses := by
  unfold Obligations.SecureFieldAccesses
  intro src off be data s k r n hk hr hf hw
  obtain ⟨hn, e⟩ := owner_key_of_srw hr hf
  have hknown : Known k := known_of_regAt hr (by
    obtain ⟨hmem, -⟩ := regAt_mem hr
    rw [(srw_is_owner r hmem hf).2.2]; exact hn)
  have hs : s.secureKey k = true := by rw [e]; exact secureKey_owner s hn
  rw [e] at hknown
  obtain ⟨t, ht, hdata, hwv, hkeep, hregs⟩ := execRegisterReadClear_refused src off be s hk hs hw
  obtain ⟨t', ht', hwv', hkeep', hregs'⟩ := execRegisterWrite_refused src off be data s hk hs hw
  refine ⟨⟨t, ht, hdata, ?_, hwv, hkeep, hregs⟩, ⟨t', ht', ?_, hwv', hkeep', hregs'⟩⟩
  · rw [e]; exact owner_kept hregs hn hknown
  · rw [e]; exact owner_kept hregs' hn hknown

end Sys2Proof.Scope
end

section
/-!
Writes by the access codes of a register's fields (R5, R6, R364).
-/
namespace Sys2Proof.Scope

open Sys2Proof.Machine Sys2Proof.Safety
open Sys2Proof.Laws hiding maskOf put

theorem keepRegs_setReg (s : State) (k : Nat) (w : Word) : KeepRegs s (s.setReg k w) [k] [] := by
  intro j _ hj _
  rw [State.reg_setReg, if_neg]
  exact fun e => hj (List.mem_singleton.2 e)

/-- A write that is not refused is done, and then absorbed from the bus matrix. -/
theorem writeBar_taken {s : State} {src : Src} {off k : Nat} (be : Nat) (data : Word) (hk : k = s.barKey (off / 4 * 4))
    (hw : s.secureKey k = true → s.secureSrc src k = true) :
    s.writeBar src off be data =
      (s.writeKey (srcMaster src == 2) (s.secureSrc src k) (srcMaster src) k be data).cvuWord (srcMaster src)
        (0x10000000 + off / 4 * 4) be data := by
  subst hk
  unfold State.writeBar State.writeAs
  refine if_neg fun h => ?_
  rw [Bool.and_eq_true, Bool.not_eq_true'] at h
  exact absurd ((hw h.1).symm.trans h.2) (by decide)

/-- What a plain key is not: a mailbox register, MB_OWNER, PC_SEL, a register of a check-value unit, a word of a 64-bit
quantity, or a register with a command of its own. -/
theorem plainKey_iff {k : Nat} : plainKey k = true ↔ chanOf k = none ∧ ownerAt k = none ∧ pcSelAt k = none ∧ cvuAt k = none ∧
    lowOf k = none ∧ k ≠ 0x30080 ∧ k ≠ 0x30088 ∧ k ≠ 0x40800 ∧ ¬ (0x20000 ≤ k ∧ k < 0x20100) ∧
    ¬ (0x30400 ≤ k ∧ k < 0x30450 ∧ k % 0x10 = 4) := by
  simp only [plainKey, Bool.and_eq_true, Option.isNone_iff_eq_none, bne_iff_ne, ne_eq, Bool.not_eq_true',
    Bool.and_eq_false_iff, decide_eq_false_iff_not, beq_eq_false_iff_ne, and_assoc]
  constructor
  · rintro ⟨h1, h2, h3, h4, h5, h6, h7, h8, h9, h10⟩
    exact ⟨h1, h2, h3, h4, h5, h6, h7, h8, by omega, by omega⟩
  · rintro ⟨h1, h2, h3, h4, h5, h6, h7, h8, h9, h10⟩
    exact ⟨h1, h2, h3, h4, h5, h6, h7, h8, by omega, by omega⟩

/-- A write of a plain key sets its register by its access codes. -/
theorem writeKey_plain {k n : Nat} {r : RegDef} (hr : regAt k = some (r, n)) (hp : plainKey k = true) (s : State)
    (host sec : Bool) (m be : Nat) (data : Word) :
    s.writeKey host sec m k be data = s.setReg k (written sec r be data (s.reg k)) := by
  obtain ⟨h1, h2, h3, h4, h5, h6, h7, h8, h9, h10⟩ := plainKey_iff.1 hp
  simp only [State.writeKey, hr, h1, h2, h3, h4, h5, h6, h7, h8, h9, h10, if_false, Option.isSome_none,
    Bool.false_eq_true, false_and, or_false]

theorem cvusOf_eq_nil {s : State} (h : NoBusUnit s) : s.cvusOf 5 = [] := by
  unfold State.cvusOf
  rw [List.filter_eq_nil_iff]
  intro u hu hc
  rw [Bool.and_eq_true, beq_iff_eq] at hc
  exact h u (List.mem_range.1 hu) hc.1 hc.2

theorem cvuWord_of_noBusUnit {s : State} (h : NoBusUnit s) (m a be : Nat) (data : Word) : s.cvuWord m a be data = s := by
  unfold State.cvuWord State.cvuBus
  rw [cvusOf_eq_nil h]
  rfl

/-- What the units of source 5 may change when they absorb a write. -/
theorem cvuWord_keep (s : State) (m a be : Nat) (data : Word) : Keep s (s.cvuWord m a be data) [.rcd, .irq, .perf, .out] :=
  frame_keep (fr_cvuWord s m a be data) (by decide +kernel)

theorem cvuWord_keepRegs (s : State) (m a be : Nat) (data : Word) : KeepRegs s (s.cvuWord m a be data) [] absorbRegs :=
  (fr_cvuWord s m a be data).keepRegs (by decide +kernel)

/-- Settles O12: on a plain key the write is the fold of its fields' access codes, which share no bit. -/
theorem registerWriteByAccessCode : Obligations.RegisterWriteByAccessCode := by
  unfold Obligations.RegisterWriteByAccessCode
  refine ⟨fun src off be data s k r n hk hr hp hw => ?_, fun t m a be data =>
    ⟨cvuWord_keep t m a be data, cvuWord_keepRegs t m a be data, fun h => cvuWord_of_noBusUnit h m a be data⟩⟩
  have hfields := fieldsApart_of_regAt hr
  refine ⟨s.newCycle.setReg k (written (s.secureSrc src k) r be data (s.reg k)), ?_, ?_, ?_, keep_setReg ..,
    keepRegs_setReg _ _ _⟩
  · have e : effRegisterWrite src off be data false s.newCycle = _ :=
      writeBar_taken (s := s.newCycle) (k := k) be data (by rw [newCycle_barKey]; exact hk)
        (by rw [newCycle_secureKey, newCycle_secureSrc]; exact hw)
    rw [writeKey_plain hr hp, newCycle_reg, newCycle_secureSrc] at e
    exact congrArg Host.Outcome.next e
  · intro f hf i hlo hhi
    rw [State.reg_setReg_same]
    exact getLsbD_written_inside hfields _ _ _ _ hf ⟨hlo, hhi⟩
  · intro i hi
    rw [State.reg_setReg_same]
    exact getLsbD_written_outside hfields _ _ _ _ hi

end Sys2Proof.Scope
end

section
/-!
Reads by the access codes of a register's fields, and the order of the commands of a cycle (R5, R8, R9, R364).
-/
namespace Sys2Proof.Scope

open Sys2Proof.Machine Sys2Proof.Safety
open Sys2Proof.Laws hiding maskOf put

/-! ### What a read does -/

/-- A register after a read has cleared its RC fields. -/
def rcCleared (s : State) (r : RegDef) (k be : Nat) : State :=
  if readKeeps r be (s.reg k) = s.reg k then s else s.setReg k (readKeeps r be (s.reg k))

theorem rcCleared_reg (s : State) (r : RegDef) (k be j : Nat) :
    (rcCleared s r k be).reg j = if j = k then readKeeps r be (s.reg k) else s.reg j := by
  unfold rcCleared
  split
  · next h =>
    split
    · next e => rw [e, h]
    · rfl
  · exact State.reg_setReg ..

theorem keep_rcCleared (s : State) (r : RegDef) (k be : Nat) : Keep s (rcCleared s r k be) [] := by
  unfold rcCleared
  split
  · exact keep_refl ..
  · exact keep_setReg ..

theorem keepRegs_rcCleared (s : State) (r : RegDef) (k be : Nat) : KeepRegs s (rcCleared s r k be) [k] [] := by
  intro j _ hj _
  rw [rcCleared_reg, if_neg fun e => hj (List.mem_singleton.2 e)]

@[simp] theorem rcCleared_out (s : State) (r : RegDef) (k be : Nat) : (rcCleared s r k be).out = s.out :=
  (keep_rcCleared s r k be).1 .out List.not_mem_nil

/-- Whether a read enables the whole low word of LN_FEC_CORR, which clears its high word too. -/
def ClearsFecHigh (k be : Nat) : Prop := 0x80000 ≤ k ∧ k < 0x89000 ∧ k % 0x100 = 0x18 ∧ be % 16 = 15

/-- The read of a register other than EVR_CUR_ST and CVU_RES_HI clears RC fields, and LN_FEC_CORR_HI with its low word. -/
theorem readActs_eq (s : State) (r : RegDef) {k : Nat} (be : Nat) (hcur : k ≠ 0x30084)
    (hcvu : ∀ u, cvuAt k = some u → k % 0x40 ≠ 0x2C) :
    (¬ ClearsFecHigh k be → s.readActs r k be = rcCleared s r k be) ∧
      (ClearsFecHigh k be → s.readActs r k be = (rcCleared s r k be).setReg (k + 4) 0) := by
  unfold State.readActs ClearsFecHigh
  dsimp only
  rw [if_neg fun h => hcur h.1]
  cases hu : cvuAt k with
  | none => exact ⟨fun h => if_neg h, fun h => if_pos h⟩
  | some u =>
    have hk : ¬ 0x80000 ≤ k := by
      unfold cvuAt at hu
      split at hu
      · omega
      · cases hu
    exact ⟨fun _ => if_neg (hcvu u hu), fun h => absurd h.1 hk⟩

/-- A read within a register: its word, and what the read does. -/
theorem readKey_of_regAt {k n : Nat} {r : RegDef} (hr : regAt k = some (r, n)) (s : State) (sec : Bool) (be : Nat) :
    s.readKey sec k be = (readWord r be (s.takeLatch sec k).1, ((s.takeLatch sec k).2.latchHigh sec k).readActs r k be) := by
  simp only [State.readKey, hr]
  rfl

/-- A read that is not refused. -/
theorem readShown_taken {s : State} {src : Src} {off k n : Nat} {r : RegDef} (be : Nat) (hk : k = s.barKey (off / 4 * 4))
    (hr : regAt k = some (r, n)) (hw : s.secureKey k = true → s.secureSrc src k = true) :
    s.readShown src off be =
      (((s.takeLatch (s.secureSrc src k) k).2.latchHigh (s.secureSrc src k) k).readActs r k be).showWords
        [readWord r be (s.takeLatch (s.secureSrc src k) k).1] := by
  subst hk
  unfold State.readShown State.readBar State.readAs
  dsimp only
  rw [if_neg, readKey_of_regAt hr]
  intro h
  rw [Bool.and_eq_true, Bool.not_eq_true'] at h
  exact absurd ((hw h.1).symm.trans h.2) (by decide)

theorem latchedAt_eq_none {s : State} {k : Nat} : latchedAt s k = none ↔ s.latch.find? (fun p => p.1 == k) = none :=
  Option.map_eq_none_iff

/-- Without a latched word a read returns what the register shows. -/
theorem takeLatch_of_none {s : State} {k : Nat} (h : latchedAt s k = none) (sec : Bool) :
    s.takeLatch sec k = (s.shown sec k, s) := by
  simp only [State.takeLatch, latchedAt_eq_none.1 h]

theorem latchHigh_of_nil {k : Nat} (h : latchedBy k = []) (s : State) (sec : Bool) : s.latchHigh sec k = s := by
  simp only [State.latchHigh, h, List.isEmpty_nil, if_true]

/-- A read of LN_FEC_CORR_LO latches. -/
theorem latchedBy_fecLow {k be : Nat} (h : ClearsFecHigh k be) : latchedBy k = [k + 4] := by
  obtain ⟨h1, h2, h3, -⟩ := h
  unfold latchedBy
  rw [if_neg (by omega), if_neg (by omega), if_pos ⟨h1, h2⟩, h3]; rfl

/-! ### The order of a cycle -/

theorem b2n_le (b : Bool) : b2n b ≤ 1 := by cases b <;> decide

theorem cyclePlace_lt (s : State) (c : Instr) : s.cyclePlace c < 5 := by
  have hb := fun src : Src => b2n_le (src == .smbus)
  cases c with
  | registerWrite src | highWordWrite src =>
    have := hb src
    unfold State.cyclePlace
    dsimp only
    split <;> omega
  | registerReadClear src | lowWordRead src | lnTsSecRead src | tmcSecLoRead src | rtcSecLoRead src =>
    have := hb src
    unfold State.cyclePlace
    dsimp only
    omega
  | busAccess => unfold State.cyclePlace; dsimp only; split <;> decide
  | _ => exact (by decide : 2 < 5)

theorem cyclePlace_registerWrite (s : State) (src : Src) (off be : Nat) (data : Word) (p : Bool) :
    s.cyclePlace (.registerWrite src off be data p) =
      (if lateWrite (s.barKey (off / 4 * 4)) then 3 else 0) + b2n (src == .smbus) := rfl

/-- A write comes after what the hardware does in its cycle exactly if it is a late one. -/
theorem lt_cyclePlace_registerWrite (s : State) (src : Src) (off be : Nat) (data : Word) (p : Bool) :
    2 < s.cyclePlace (.registerWrite src off be data p) ↔ lateWrite (s.barKey (off / 4 * 4)) = true := by
  have := b2n_le (src == .smbus)
  rw [cyclePlace_registerWrite]
  split
  · next h => exact iff_of_true (by omega) h
  · next h => exact iff_of_false (by omega) h

/-- A register outside the mailboxes is written late where it has a W1S field. -/
theorem lateWrite_iff {k n : Nat} {r : RegDef} (hr : regAt k = some (r, n)) (hc : chanOf k = none) :
    lateWrite k = true ↔ ∃ f ∈ r.fields, f.2.2 = .w1s := by
  simp only [lateWrite, hc, setsBits, hr, List.any_eq_true, beq_iff_eq]

/-- A command joins the queue before or after what the hardware does in its cycle, by its place. -/
theorem cycleOrder_hardware {s : State} {h c : Instr} (hh : s.cyclePlace h = 2) :
    (s.cyclePlace c < 2 → s.cycleOrder [h, c] = [c, h]) ∧ (2 < s.cyclePlace c → s.cycleOrder [h, c] = [h, c]) := by
  have h5 := cyclePlace_lt s c
  generalize hc : s.cyclePlace c = x at h5 ⊢
  have horder : s.cycleOrder [h, c] = ([0, 1, 2, 3, 4] : List Nat).flatMap fun p => [h, c].filter fun e => s.cyclePlace e == p := rfl
  simp only [horder, List.flatMap_cons, List.flatMap_nil, List.filter_cons, List.filter_nil, hh, hc]
  interval_cases x <;> simp

/-- Settles O14: a read clears by the rule of its fields, and the place of a command decides its order. -/
theorem readsClearOnlyWholeFields : Obligations.ReadsClearOnlyWholeFields := by
  unfold Obligations.ReadsClearOnlyWholeFields
  refine ⟨fun s c h hh => ?_, fun s src off be => ?_, fun s src off be data p => ?_, fun s src off be data p r n hr hc => ?_,
    fun src off be s k r n hk hr hw hl hby hcur hcvu => ?_⟩
  · obtain ⟨hlt, hgt⟩ := cycleOrder_hardware (c := c) hh
    exact ⟨fun hc => congrArg (s.pending ++ ·) (hlt hc), fun hc => congrArg (s.pending ++ ·) (hgt hc)⟩
  · exact Nat.lt_of_le_of_lt (b2n_le _) (by decide)
  · have := b2n_le (src == .smbus)
    rw [cyclePlace_registerWrite]
    split <;> omega
  · exact (lt_cyclePlace_registerWrite ..).trans (lateWrite_iff hr hc)
  · have hfields := fieldsApart_of_regAt hr
    have hfec : ¬ ClearsFecHigh k be := fun h => by simp [latchedBy_fecLow h] at hby
    have hacts := (readActs_eq s.newCycle r be hcur (by rw [hcvu]; exact fun _ h => nomatch h)).1 hfec
    have hshown := readShown_taken (s := s.newCycle) be (by rw [newCycle_barKey]; exact hk) hr
      (by rw [newCycle_secureKey, newCycle_secureSrc]; exact hw)
    rw [takeLatch_of_none (by rw [newCycle_latchedAt]; exact hl), latchHigh_of_nil hby, hacts, newCycle_secureSrc] at hshown
    refine ⟨_, congrArg Host.Outcome.next hshown, ?_, ?_, ?_, ?_, ?_⟩
    · refine ⟨_, by rw [showWords_rdata, rcCleared_out, newCycle_rdata]; rfl, fun f hf i hlo hhi => ?_, fun i hi => ?_⟩
      · exact getLsbD_readWord_inside hfields _ _ hf ⟨hlo, hhi⟩
      · exact getLsbD_readWord_outside hfields _ _ hi
    · intro f hf i hlo hhi
      rw [showWords_reg, rcCleared_reg, if_pos rfl, newCycle_reg]
      exact getLsbD_readKeeps_inside hfields _ _ hf ⟨hlo, hhi⟩
    · intro i hi
      rw [showWords_reg, rcCleared_reg, if_pos rfl, newCycle_reg]
      exact getLsbD_readKeeps_outside hfields _ _ hi
    · exact keep_trans (keep_mono (keep_rcCleared ..) (by decide)) (keep_showWords ..)
    · exact keepRegs_rcCleared s.newCycle r k be

end Sys2Proof.Scope
end

section
/-!
The latched words of 64-bit quantities and time stamps (R11, R60, R282, R306).
-/
namespace Sys2Proof.Scope

open Sys2Proof.Machine Sys2Proof.Safety
open Sys2Proof.Laws hiding maskOf put

/-! ### A table looked up by key -/

theorem find?_filter_key {α : Type} (q : Nat → Bool) (h : Nat) (l : List (Nat × α)) :
    (l.filter fun p => q p.1).find? (fun p => p.1 == h) = if q h then l.find? fun p => p.1 == h else none := by
  rw [List.find?_filter]
  split
  · next hq =>
    congr 1
    funext p
    by_cases e : p.1 = h <;> simp [e, hq]
  · next hq =>
    rw [List.find?_eq_none]
    rintro p - hp
    simp only [decide_eq_true_eq, Bool.decide_and, Bool.and_eq_true, beq_iff_eq] at hp
    exact hq (hp.2 ▸ hp.1)

theorem find?_map_key {α : Type} (v : Nat → α) (h : Nat) : ∀ l : List Nat,
    (l.map fun j => (j, v j)).find? (fun p => p.1 == h) = if h ∈ l then some (h, v h) else none
  | [] => rfl
  | j :: l => by
    have ih := find?_map_key v h l
    by_cases e : j = h
    · simp [e]
    · have e' : h ≠ j := fun x => e x.symm
      simp [e, e', ih]

/-! ### Latching and taking a word -/

/-- LN_FEC_CORR_HI, whose latched word stays until its low word is read again. -/
abbrev FecHigh (k : Nat) : Prop := 0x80000 ≤ k ∧ k < 0x89000 ∧ k % 0x100 = 0x1C

/-- The word that the read of a low word latches of a high one. -/
def latchVal (s : State) (sec : Bool) (h : Nat) : Word := if FecHigh h then s.reg h else s.shown sec h

theorem latchHigh_eq {k : Nat} (hk : latchedBy k ≠ []) (s : State) (sec : Bool) :
    s.latchHigh sec k = { s with latch :=
      (s.latch.filter fun p => !(latchedBy k).contains p.1) ++ (latchedBy k).map (fun h => (h, latchVal s sec h)) } :=
  if_neg (by rwa [List.isEmpty_iff])

/-- The read of a low word latches its high words. -/
theorem latchedAt_latchHigh {k h : Nat} (hh : h ∈ latchedBy k) (s : State) (sec : Bool) :
    latchedAt (s.latchHigh sec k) h = some (latchVal s sec h) := by
  rw [latchHigh_eq (List.ne_nil_of_mem hh)]
  unfold latchedAt
  dsimp only
  rw [List.find?_append, find?_filter_key (fun j => !(latchedBy k).contains j), find?_map_key, if_pos hh, if_neg (by simp [hh])]
  rfl

theorem latchedAt_latchHigh_other {k h : Nat} (hh : h ∉ latchedBy k) (s : State) (sec : Bool) :
    latchedAt (s.latchHigh sec k) h = latchedAt s h := by
  by_cases hk : latchedBy k = []
  · rw [latchHigh_of_nil hk]
  · rw [latchHigh_eq hk]
    unfold latchedAt
    dsimp only
    rw [List.find?_append, find?_filter_key (fun j => !(latchedBy k).contains j), find?_map_key, if_neg hh, if_pos (by simp [hh]),
      Option.or_none]

theorem latchHigh_reg (s : State) (sec : Bool) (k j : Nat) : (s.latchHigh sec k).reg j = s.reg j := by
  by_cases hk : latchedBy k = []
  · rw [latchHigh_of_nil hk]
  · rw [latchHigh_eq hk]; rfl

theorem keep_latchHigh (s : State) (sec : Bool) (k : Nat) : Keep s (s.latchHigh sec k) [.latch] :=
  frame_keep (fr_latchHigh s sec k) (by decide)

@[simp] theorem latchHigh_out (s : State) (sec : Bool) (k : Nat) : (s.latchHigh sec k).out = s.out :=
  (fr_latchHigh s sec k).out (by decide)

@[simp] theorem readActs_out (s : State) (r : RegDef) (k be : Nat) : (s.readActs r k be).out = s.out :=
  (fr_readActs s r k be).out (by decide +kernel)

@[simp] theorem readActs_latchedAt (s : State) (r : RegDef) (k be h : Nat) :
    latchedAt (s.readActs r k be) h = latchedAt s h := by
  unfold latchedAt
  rw [(fr_readActs s r k be).latch (by decide +kernel)]

@[simp] theorem takeLatch_out (s : State) (sec : Bool) (k : Nat) : (s.takeLatch sec k).2.out = s.out :=
  (fr_takeLatch s sec k).out (by decide)

/-- A latched word is returned in place of what the register shows. -/
theorem takeLatch_fst {s : State} {k : Nat} {v : Word} (h : latchedAt s k = some v) (sec : Bool) :
    (s.takeLatch sec k).1 = v := by
  obtain ⟨p, hp, rfl⟩ := Option.map_eq_some_iff.1 h
  unfold State.takeLatch
  rw [hp]
  dsimp only
  split <;> rfl

/-- A latched word is taken from the latch. -/
theorem takeLatch_takes (s : State) (sec : Bool) {k : Nat} (hf : ¬ FecHigh k) :
    latchedAt (s.takeLatch sec k).2 k = none := by
  unfold State.takeLatch
  split
  · rw [if_neg hf]
    unfold latchedAt
    dsimp only
    rw [find?_filter_key (fun j => j != k), if_neg (by simp)]
    rfl
  · next h => exact latchedAt_eq_none.2 h

/-! ### The read of a low word -/

/-- The read of a low word only clears RC fields of it, and of LN_FEC_CORR_HI with its low word. -/
theorem readActs_low {k : Nat} (hk : latchedBy k ≠ []) (s : State) (r : RegDef) (be : Nat) :
    s.readActs r k be = rcCleared s r k be ∨ s.readActs r k be = (rcCleared s r k be).setReg (k + 4) 0 := by
  have hcur : k ≠ 0x30084 := by rintro rfl; exact hk (by decide)
  have hcvu : ∀ u, cvuAt k = some u → k % 0x40 ≠ 0x2C := by
    intro u hu e
    have hr : 0x50000 ≤ k ∧ k < 0x51000 := by
      by_contra hn
      rw [cvuAt, if_neg hn] at hu
      cases hu
    apply hk
    unfold latchedBy
    rw [if_neg (by omega), if_neg (by omega), if_neg (by omega), if_neg, if_neg (by omega), if_pos (by rw [hu]; rfl), e]
    · rfl
    · simp only [List.contains_cons, List.contains_nil, Bool.or_eq_true, beq_iff_eq, Bool.false_eq_true, or_false]
      omega
  obtain ⟨h1, h2⟩ := readActs_eq s r be hcur hcvu
  by_cases hf : ClearsFecHigh k be
  · exact .inr (h2 hf)
  · exact .inl (h1 hf)

theorem keep_readActs_low {k : Nat} (hk : latchedBy k ≠ []) (s : State) (r : RegDef) (be : Nat) :
    Keep s (s.readActs r k be) [] := by
  obtain e | e := readActs_low hk s r be <;> rw [e]
  · exact keep_rcCleared ..
  · exact keep_trans (keep_rcCleared ..) (keep_setReg ..)

theorem keepRegs_readActs_low {k : Nat} (hk : latchedBy k ≠ []) (s : State) (r : RegDef) (be : Nat) :
    KeepRegs s (s.readActs r k be) [k, k + 4] [] := by
  intro j _ hj _
  simp only [List.mem_cons, List.not_mem_nil, or_false, not_or] at hj
  obtain e | e := readActs_low hk s r be <;> rw [e]
  · rw [rcCleared_reg, if_neg hj.1]
  · rw [State.reg_setReg, if_neg hj.2, rcCleared_reg, if_neg hj.1]

theorem testBit_fifteen {i : Nat} (h : i < 32) : (15 : Nat).testBit (i / 8) = true := by
  have h4 : i / 8 < 4 := by omega
  interval_cases i / 8 <;> decide

/-- A read of all four bytes returns the bits of the fields that are not WO. -/
theorem getLsbD_readWord_all {r : RegDef} (h : fieldsApart r.fields = true) (w : Word) {f : Nat × Nat × Acc}
    (hf : f ∈ r.fields) (hwo : f.2.2 ≠ .wo) {i : Nat} (hi : InField f i) : (readWord r 15 w).getLsbD i = w.getLsbD i := by
  rw [getLsbD_readWord_inside h _ _ hf hi, testBit_fifteen (lt_of_le_of_lt hi.2 (lt_of_fieldsApart h f hf)), decide_eq_true hwo]
  rfl

/-- The read of a low word with nothing latched for it. -/
theorem readShown_low {s : State} {src : Src} {off k n : Nat} {r : RegDef} (hk : k = s.barKey (off / 4 * 4))
    (hr : regAt k = some (r, n)) (hw : s.secureKey k = true → s.secureSrc src k = true) (hl : latchedAt s k = none) :
    s.newCycle.readShown src off 15 =
      ((s.newCycle.latchHigh (s.secureSrc src k) k).readActs r k 15).showWords
        [readWord r 15 (s.newCycle.shown (s.secureSrc src k) k)] := by
  have h := readShown_taken (s := s.newCycle) 15 (by rw [newCycle_barKey]; exact hk) hr
    (by rw [newCycle_secureKey, newCycle_secureSrc]; exact hw)
  rwa [takeLatch_of_none (by rw [newCycle_latchedAt]; exact hl), newCycle_secureSrc] at h

/-- LOW_WORD_READ returns the low word and latches its high words (R11). -/
theorem execLowWordRead_latches (src : Src) (off : Nat) (s : State) {k n : Nat} {r : RegDef}
    (hk : k = s.barKey (off / 4 * 4)) (hr : regAt k = some (r, n)) (hlow : latchedBy k ≠ [])
    (hw : s.secureKey k = true → s.secureSrc src k = true) (hl : latchedAt s k = none) :
    ∃ t, exec (.lowWordRead src off) s = .next t ∧
      (∃ w, t.out.rdata = [w] ∧ ∀ f ∈ r.fields, f.2.2 ≠ .wo → ∀ i, f.2.1 ≤ i → i ≤ f.1 →
        w.getLsbD i = (s.newCycle.shown (s.secureSrc src k) k).getLsbD i) ∧
      (∀ h ∈ latchedBy k, latchedAt t h = some (latchVal s.newCycle (s.secureSrc src k) h)) ∧
      (∀ h, h ∉ latchedBy k → latchedAt t h = latchedAt s h) ∧
      Keep s.newCycle t [.latch, .out] ∧ KeepRegs s.newCycle t [k, k + 4] [] := by
  refine ⟨_, congrArg Host.Outcome.next (readShown_low hk hr hw hl), ?_, fun h hh => ?_, fun h hh => ?_, ?_, ?_⟩
  · exact ⟨_, by simp, fun f hf hwo i hlo hhi => getLsbD_readWord_all (fieldsApart_of_regAt hr) _ hf hwo ⟨hlo, hhi⟩⟩
  · rw [showWords_latchedAt, readActs_latchedAt, latchedAt_latchHigh hh]
  · rw [showWords_latchedAt, readActs_latchedAt, latchedAt_latchHigh_other hh, newCycle_latchedAt]
  · exact keep_trans (keep_trans (keep_mono (keep_latchHigh ..) (by decide)) (keep_mono (keep_readActs_low hlow ..) (by decide)))
      (keep_mono (keep_showWords ..) (by decide))
  · intro j hj hne hf
    rw [showWords_reg, keepRegs_readActs_low hlow _ _ _ j hj hne hf, latchHigh_reg]

/-- A read of a register with a latched word returns that word, and takes it (R11). -/
theorem execRegisterReadClear_latched (src : Src) (off : Nat) (s : State) {k n : Nat} {r : RegDef} {v : Word}
    (hk : k = s.barKey (off / 4 * 4)) (hr : regAt k = some (r, n)) (hl : latchedAt s k = some v)
    (hw : s.secureKey k = true → s.secureSrc src k = true) :
    ∃ t, exec (.registerReadClear src off 15) s = .next t ∧
      (∃ w, t.out.rdata = [w] ∧ ∀ f ∈ r.fields, f.2.2 ≠ .wo → ∀ i, f.2.1 ≤ i → i ≤ f.1 → w.getLsbD i = v.getLsbD i) ∧
      (latchedBy k = [] → ¬ FecHigh k → latchedAt t k = none) := by
  have h := readShown_taken (s := s.newCycle) 15 (by rw [newCycle_barKey]; exact hk) hr
    (by rw [newCycle_secureKey, newCycle_secureSrc]; exact hw)
  rw [takeLatch_fst (v := v) (by rw [newCycle_latchedAt]; exact hl)] at h
  refine ⟨_, congrArg Host.Outcome.next h, ?_, fun hby hfec => ?_⟩
  · exact ⟨_, by simp, fun f hf hwo i hlo hhi => getLsbD_readWord_all (fieldsApart_of_regAt hr) _ hf hwo ⟨hlo, hhi⟩⟩
  · rw [showWords_latchedAt, readActs_latchedAt, latchHigh_of_nil hby, takeLatch_takes _ _ hfec]

/-! ### Registers that show what they hold -/

/-- Registers of the time core and the calendar clock, and of the time stamps of a lane: they show what they hold. -/
def TimeKey (k : Nat) : Prop := 0x60000 ≤ k ∧ k < 0x80000 ∨ 0x80000 ≤ k ∧ k < 0x89000 ∧ 0x40 ≤ k % 0x100

section
variable {k : Nat} (hk : TimeKey k)
include hk

theorem TimeKey.not_fecHigh : ¬ FecHigh k := by unfold TimeKey at hk; unfold FecHigh; omega

theorem TimeKey.not_clearsFecHigh (be : Nat) : ¬ ClearsFecHigh k be := by unfold TimeKey at hk; unfold ClearsFecHigh; omega

theorem TimeKey.chanOf : chanOf k = none := if_neg (by unfold TimeKey at hk; omega)

theorem TimeKey.cvuAt : cvuAt k = none := if_neg (by unfold TimeKey at hk; omega)

theorem TimeKey.shown (s : State) (sec : Bool) : s.shown sec k = s.reg k := by
  have hc := hk.chanOf
  have hv := hk.cvuAt
  unfold TimeKey at hk
  unfold State.shown
  dsimp only
  rw [if_neg (by omega), if_neg (by omega), if_neg (by omega), if_neg (by omega), if_neg (by omega), if_neg (by omega),
    if_neg (by omega)]
  split
  · split
    iterate 3 omega
    rfl
  · rw [if_neg (by omega), if_neg (by omega), if_neg (by omega), hc, hv]

theorem TimeKey.latchVal (s : State) (sec : Bool) : latchVal s sec k = s.reg k := by
  rw [Scope.latchVal, if_neg hk.not_fecHigh, hk.shown]

theorem TimeKey.barKey (s : State) : s.barKey k = k := by
  unfold TimeKey at hk
  unfold State.barKey
  rw [if_neg (by omega), if_neg (by omega), if_neg (by omega)]

theorem TimeKey.secureKey (s : State) : s.secureKey k = false := by
  have hc := hk.chanOf
  have hv := hk.cvuAt
  unfold TimeKey at hk
  have ho : ownerAt k = none := if_neg (by omega)
  have hp : pcSelAt k = none := if_neg (by omega)
  have h5 : (k == 0x11000000) = false := by rw [beq_eq_false_iff_ne]; omega
  have h6 : decide (0x110010C0 ≤ k) = false := by rw [decide_eq_false_iff_not]; omega
  simp only [State.secureKey, hc, hv, ho, hp, h5, h6, Option.isSome_none, Bool.false_and, Bool.or_false]

end

end Sys2Proof.Scope
end

section
/-!
The reads of time stamps (R60, R282, R306).
-/
namespace Sys2Proof.Scope

open Sys2Proof.Machine Sys2Proof.Safety
open Sys2Proof.Laws hiding maskOf put

/-! ### The registers of the map share no key -/

/-- Two registers of the map share no key. -/
def keysApart (q r : RegDef) : Bool :=
  decide (q.base + q.stride * (q.count - 1) < r.base) || decide (r.base + r.stride * (r.count - 1) < q.base) ||
    (q.stride == r.stride && decide (q.base % r.stride ≠ r.base % r.stride))

theorem not_instanceAt_of_keysApart {q r : RegDef} (h : keysApart q r = true) {n m : Nat} (hn : n < r.count) :
    q.instanceAt (r.base + r.stride * n) ≠ some m := by
  intro hm
  obtain ⟨e, hlt⟩ := instanceAt_key hm
  have hq : q.stride * m ≤ q.stride * (q.count - 1) := by
    rcases hlt with ⟨h0, -⟩ | hlt
    · rw [h0, Nat.zero_mul]; exact Nat.zero_le _
    · exact Nat.mul_le_mul_left _ (by omega)
  have hr : r.stride * n ≤ r.stride * (r.count - 1) := Nat.mul_le_mul_left _ (by omega)
  simp only [keysApart, Bool.or_eq_true, Bool.and_eq_true, decide_eq_true_eq, beq_iff_eq] at h
  rcases h with (h | h) | ⟨hs, h⟩
  · omega
  · omega
  · apply h
    have e' := congrArg (· % r.stride) e
    rw [hs] at e'
    simpa only [Nat.add_mul_mod_self_left] using e'.symm

/-- The register at a key of a register of the map is that register. -/
theorem regAt_key {r : RegDef} (hr : r ∈ regMap) (hs : 0 < r.stride)
    (hu : (regMap.all fun q => q == r || keysApart q r) = true) {n : Nat} (hn : n < r.count) :
    regAt (r.base + r.stride * n) = some (r, n) := by
  have hself : r.instanceAt (r.base + r.stride * n) = some n := by
    unfold RegDef.instanceAt
    rw [if_neg (by omega), if_neg (by omega), Nat.add_sub_cancel_left, Nat.mul_mod_right, Nat.mul_div_cancel_left n hs,
      if_pos (by simp [hn])]
  cases h : regAt (r.base + r.stride * n) with
  | none =>
    have := List.findSome?_eq_none_iff.1 h r hr
    rw [hself] at this
    cases this
  | some p =>
    obtain ⟨q, m⟩ := p
    obtain ⟨hq, hm⟩ := regAt_mem h
    have hqr := List.all_eq_true.1 hu q hq
    rw [Bool.or_eq_true, beq_iff_eq] at hqr
    rcases hqr with rfl | hqr
    · rw [hself] at hm
      cases hm
      rfl
    · exact absurd hm (not_instanceAt_of_keysApart hqr hn)

/-! ### Time stamps -/

/-- A register of one read-only word. -/
def ReadOnlyWord (r : RegDef) : Prop := r.fields = [(31, 0, .ro)]

theorem readWord_readOnlyWord {r : RegDef} (h : ReadOnlyWord r) (w : Word) : readWord r 15 w = w := by
  have hfields : fieldsApart r.fields = true := by rw [h]; decide
  refine BitVec.eq_of_getLsbD_eq fun i hi => ?_
  exact getLsbD_readWord_all hfields w (f := (31, 0, .ro)) (by rw [h]; exact List.mem_cons_self) (by decide)
    ⟨Nat.zero_le i, Nat.le_of_lt_succ hi⟩

theorem rcCleared_readOnlyWord {r : RegDef} (h : ReadOnlyWord r) (s : State) (k be : Nat) : rcCleared s r k be = s := by
  have hk : readKeeps r be (s.reg k) = s.reg k := by rw [readKeeps, h]; rfl
  exact if_pos hk

/-- The read of a time stamp's first word returns it and latches the other words as they stand (R60, R282, R306). -/
theorem readShown_time {k n : Nat} {r : RegDef} (s : State) (src : Src) (h4 : k / 4 * 4 = k) (hr : regAt k = some (r, n))
    (hro : ReadOnlyWord r) (ht : ∀ h ∈ k :: latchedBy k, TimeKey h) (hlow : latchedBy k ≠ []) (hl : latchedAt s k = none) :
    (s.newCycle.readShown src k 15).out.rdata = [s.reg k] ∧
      (∀ h ∈ latchedBy k, latchedAt (s.newCycle.readShown src k 15) h = some (s.reg h)) ∧
      Keep s.newCycle (s.newCycle.readShown src k 15) [.latch, .out] ∧ (s.newCycle.readShown src k 15).regs = s.regs := by
  have hk := ht k List.mem_cons_self
  have hread := readShown_low (src := src) (off := k) (by rw [h4, hk.barKey]) hr
    (by rw [hk.secureKey]; exact fun h => absurd h (by decide)) hl
  rw [hk.shown, newCycle_reg, readWord_readOnlyWord hro] at hread
  rw [hread]
  refine ⟨by simp, fun h hh => ?_, ?_, ?_⟩
  · rw [showWords_latchedAt, readActs_latchedAt, latchedAt_latchHigh hh, (ht h (List.mem_cons_of_mem _ hh)).latchVal, newCycle_reg]
  · exact keep_trans (keep_trans (keep_mono (keep_latchHigh ..) (by decide)) (keep_mono (keep_readActs_low hlow ..) (by decide)))
      (keep_mono (keep_showWords ..) (by decide))
  · have hcur : k ≠ 0x30084 := by unfold TimeKey at hk; omega
    have hacts : ∀ x : State, x.readActs r k 15 = x := fun x =>
      ((readActs_eq x r 15 hcur (by rw [hk.cvuAt]; exact fun _ h => nomatch h)).1 (hk.not_clearsFecHigh 15)).trans
        (rcCleared_readOnlyWord hro x k 15)
    rw [hacts, latchHigh_eq hlow]
    exact newCycle_regs s

/-- LN_TS_SEC of a lane is a read-only word of the register map. -/
theorem regAt_lnTsSec {n : Nat} (hn : n < 144) :
    regAt (at_ LN_TS_SEC_sec n) = some (⟨0x080040, 0x100, 144, [(31, 0, .ro)]⟩, n) :=
  regAt_key (r := ⟨0x080040, 0x100, 144, [(31, 0, .ro)]⟩) (by decide +kernel) (by decide) (by decide +kernel) hn

theorem latchedBy_lnTsSec {n : Nat} (hn : n < 144) :
    latchedBy (at_ LN_TS_SEC_sec n) = [at_ LN_TS_NS_ns n, at_ LN_TS_SUB_sub n] := by
  show latchedBy (0x80040 + 0x100 * n) = [0x80044 + 0x100 * n, 0x80048 + 0x100 * n]
  have h : (0x80040 + 0x100 * n) % 0x100 = 0x40 := by omega
  unfold latchedBy
  rw [if_neg (by omega), if_neg (by omega), if_pos (by omega), h]
  show [0x80040 + 0x100 * n + 4, 0x80040 + 0x100 * n + 8] = _
  rw [Nat.add_right_comm, Nat.add_right_comm _ _ 8]

theorem execLnTsSecRead_latches (src : Src) (n : Nat) (s : State) (hn : n < 144)
    (hl : latchedAt s (at_ LN_TS_SEC_sec n) = none) :
    ∃ t, exec (.lnTsSecRead src n) s = .next t ∧
      t.out.rdata = [s.reg (at_ LN_TS_SEC_sec n)] ∧ latchedAt t (at_ LN_TS_NS_ns n) = some (s.reg (at_ LN_TS_NS_ns n)) ∧
      latchedAt t (at_ LN_TS_SUB_sub n) = some (s.reg (at_ LN_TS_SUB_sub n)) ∧
      Keep s.newCycle t [.latch, .out] ∧ t.regs = s.regs := by
  have hby := latchedBy_lnTsSec hn
  have ht : ∀ h ∈ at_ LN_TS_SEC_sec n :: latchedBy (at_ LN_TS_SEC_sec n), TimeKey h := by
    rw [hby]
    simp only [List.mem_cons, List.not_mem_nil, or_false]
    rintro h (rfl | rfl | rfl) <;> simp only [TimeKey, at_, LN_TS_SEC_sec, LN_TS_NS_ns, LN_TS_SUB_sub] <;> omega
  obtain ⟨hdata, hlatch, hkeep, hregs⟩ := readShown_time s src (by simp only [at_, LN_TS_SEC_sec]; omega) (regAt_lnTsSec hn) rfl ht
    (by rw [hby]; exact List.cons_ne_nil _ _) hl
  refine ⟨s.newCycle.readShown src (at_ LN_TS_SEC_sec n) 15, ?_, hdata, hlatch _ (by simp [hby]), hlatch _ (by simp [hby]), hkeep, hregs⟩
  show Host.Outcome.next (s.newCycle.readShown src (0x80040 + 0x100 * (n % 144)) 15) = _
  rw [Nat.mod_eq_of_lt hn]
  rfl

theorem execTmcSecLoRead_latches (src : Src) (s : State) (hl : latchedAt s (at_ TMC_SEC_LO_sec_lo) = none) :
    ∃ t, exec (.tmcSecLoRead src) s = .next t ∧
      t.out.rdata = [s.reg (at_ TMC_SEC_LO_sec_lo)] ∧
      latchedAt t (at_ TMC_SEC_HI_sec_hi) = some (s.reg (at_ TMC_SEC_HI_sec_hi)) ∧
      latchedAt t (at_ TMC_NS_ns) = some (s.reg (at_ TMC_NS_ns)) ∧
      latchedAt t (at_ TMC_FRAC_frac) = some (s.reg (at_ TMC_FRAC_frac)) ∧
      Keep s.newCycle t [.latch, .out] ∧ t.regs = s.regs := by
  have hr : regAt 0x60008 = some (⟨0x060008, 0x0, 1, [(31, 0, .ro)]⟩, 0) := by decide +kernel
  obtain ⟨hdata, hlatch, hkeep, hregs⟩ := readShown_time s src (by decide) hr rfl (by unfold TimeKey; decide) (by decide) hl
  exact ⟨_, rfl, hdata, hlatch _ (by decide), hlatch _ (by decide), hlatch _ (by decide), hkeep, hregs⟩

theorem execRtcSecLoRead_latches (src : Src) (s : State) (hl : latchedAt s (at_ RTC_SEC_LO_sec_lo) = none) :
    ∃ t, exec (.rtcSecLoRead src) s = .next t ∧
      t.out.rdata = [s.reg (at_ RTC_SEC_LO_sec_lo)] ∧
      latchedAt t (at_ RTC_SEC_HI_sec_hi) = some (s.reg (at_ RTC_SEC_HI_sec_hi)) ∧
      latchedAt t (at_ RTC_TICK_tick) = some (s.reg (at_ RTC_TICK_tick)) ∧
      Keep s.newCycle t [.latch, .out] ∧ t.regs = s.regs := by
  have hr : regAt 0x61304 = some (⟨0x061304, 0x0, 1, [(31, 0, .ro)]⟩, 0) := by decide +kernel
  obtain ⟨hdata, hlatch, hkeep, hregs⟩ := readShown_time s src (by decide) hr rfl (by unfold TimeKey; decide) (by decide) hl
  exact ⟨_, rfl, hdata, hlatch _ (by decide), hlatch _ (by decide), hkeep, hregs⟩

end Sys2Proof.Scope
end

section
/-!
The writes of the working register of a check-value unit (R11, R246, R250).
-/
namespace Sys2Proof.Scope

open Sys2Proof.Machine Sys2Proof.Safety
open Sys2Proof.Laws hiding maskOf put

/-! ### The registers of a check-value unit -/

/-- A register of check-value unit `u`. -/
def CvuKey (u k : Nat) : Prop := u < 64 ∧ 0x50000 + 0x40 * u ≤ k ∧ k < 0x50040 + 0x40 * u

section
variable {u k : Nat} (hk : CvuKey u k)
include hk

theorem CvuKey.cvuAt : cvuAt k = some u := by
  unfold CvuKey at hk
  unfold Machine.cvuAt
  rw [if_pos (by omega)]
  congr 1
  omega

theorem CvuKey.chanOf : chanOf k = none := if_neg (by unfold CvuKey at hk; omega)

theorem CvuKey.ownerAt : ownerAt k = none := if_neg (by unfold CvuKey at hk; omega)

theorem CvuKey.pcSelAt : pcSelAt k = none := if_neg (by unfold CvuKey at hk; omega)

theorem CvuKey.barKey (s : State) : s.barKey k = k := by
  unfold CvuKey at hk
  unfold State.barKey
  rw [if_neg (by omega), if_neg (by omega), if_neg (by omega)]

/-- The registers of a unit are secure where its owner is 2. -/
theorem CvuKey.secureKey (s : State) : s.secureKey k = (s.cvuOwner u == 2) := by
  have hv := hk.cvuAt
  have hc := hk.chanOf
  have ho := hk.ownerAt
  have hp := hk.pcSelAt
  unfold CvuKey at hk
  have h5 : (k == 0x11000000) = false := by rw [beq_eq_false_iff_ne]; omega
  have h6 : decide (0x110010C0 ≤ k) = false := by rw [decide_eq_false_iff_not]; omega
  simp only [State.secureKey, hv, hc, ho, hp, h5, h6, Option.isSome_none, Bool.false_and, Bool.or_false, Bool.false_or]

/-- The world of an access does not depend on which of these registers it names. -/
theorem CvuKey.secureSrc {j : Nat} (hj : CvuKey u j) (s : State) (src : Src) : s.secureSrc src k = s.secureSrc src j := by
  simp only [State.secureSrc, hk.chanOf, hj.chanOf]

end

/-! ### What a refusal of a unit depends on -/

/-- The fields that decide whether a unit selects a secure bus region. -/
def regionFlds : List Fld :=
  [CVU_CTL_enable, CVU_CTL_src, CVU_BASE_LO_base_lo, CVU_BASE_HI_base_hi, CVU_SIZE_size, MB_ST_world, DC_ST_cap_gib]

section
variable {s t : State}

theorem cvuOwner_congr (himg : t.img = s.img) (u : Nat) : t.cvuOwner u = s.cvuOwner u := by
  unfold State.cvuOwner State.entry
  rw [himg]

theorem secureDdr_congr (himg : t.img = s.img) (a : Nat) : t.secureDdr a = s.secureDdr a := by
  unfold State.secureDdr State.regionOf State.region
  rw [himg]

theorem secureRange_congr (himg : t.img = s.img) (hget : ∀ f ∈ regionFlds, ∀ n, t.get f n = s.get f n) (base size : Nat) :
    t.secureRange base size = s.secureRange base size := by
  have hworld := hget MB_ST_world (by decide)
  have hcap := hget DC_ST_cap_gib (by decide)
  simp only [State.secureRange, cvuOwner_congr himg, secureDdr_congr himg, State.gl, himg, State.on, State.ddrUnits, hworld, hcap]

theorem cvuRefused_congr (himg : t.img = s.img) (hget : ∀ f ∈ regionFlds, ∀ n, t.get f n = s.get f n) (u : Nat) :
    t.cvuRefused u = s.cvuRefused u := by
  have hsrc := hget CVU_CTL_src (by decide)
  have hlo := hget CVU_BASE_LO_base_lo (by decide)
  have hhi := hget CVU_BASE_HI_base_hi (by decide)
  have hsize := hget CVU_SIZE_size (by decide)
  simp only [State.cvuRefused, State.cvuSecure, cvuOwner_congr himg, secureRange_congr himg hget, State.get64, hsrc, hlo, hhi,
    hsize]

end

theorem cvuCheck_of_not_refused {s : State} {u : Nat} (h : s.on CVU_CTL_enable u = true → s.cvuRefused u = false) (m : Nat) :
    s.cvuCheck u m = s := by
  refine if_neg fun hc => ?_
  rw [Bool.and_eq_true] at hc
  exact absurd ((h hc.1).symm.trans hc.2) (by decide)

/-! ### The working register -/

theorem cvuKey_valLo {u : Nat} (hu : u < 64) : CvuKey u (at_ CVU_VAL_LO_val_lo u) := by
  simp only [CvuKey, at_, CVU_VAL_LO_val_lo]; omega

theorem cvuKey_valHi {u : Nat} (hu : u < 64) : CvuKey u (at_ CVU_VAL_HI_val_hi u) := by
  simp only [CvuKey, at_, CVU_VAL_HI_val_hi]; omega

/-- The register CVU_VAL_LO, and CVU_VAL_HI. -/
def valLoReg : RegDef := ⟨0x050018, 0x40, 64, [(31, 0, .rw)]⟩
def valHiReg : RegDef := ⟨0x05001C, 0x40, 64, [(31, 0, .rw)]⟩

theorem regAt_valLo {u : Nat} (hu : u < 64) : regAt (at_ CVU_VAL_LO_val_lo u) = some (valLoReg, u) :=
  regAt_key (r := valLoReg) (by decide +kernel) (by decide) (by decide +kernel) hu

theorem regAt_valHi {u : Nat} (hu : u < 64) : regAt (at_ CVU_VAL_HI_val_hi u) = some (valHiReg, u) :=
  regAt_key (r := valHiReg) (by decide +kernel) (by decide) (by decide +kernel) hu

/-- A write of the low word of CVU_VAL waits. -/
theorem writeKey_valLo {u : Nat} (hu : u < 64) (s : State) (host sec : Bool) (m be : Nat) (data : Word) :
    s.writeKey host sec m (at_ CVU_VAL_LO_val_lo u) be data = s.stageLow (at_ CVU_VAL_LO_val_lo u) be data := by
  have hk := cvuKey_valLo hu
  have hoff : at_ CVU_VAL_LO_val_lo u % 0x40 = 0x18 := by simp only [at_, CVU_VAL_LO_val_lo]; omega
  have hw : s.cvuWritable u (at_ CVU_VAL_LO_val_lo u) 31 = true := by simp [State.cvuWritable, hoff]
  have hr := regAt_valLo hu
  have hv := hk.cvuAt
  have hc := hk.chanOf
  have ho := hk.ownerAt
  have hp := hk.pcSelAt
  unfold CvuKey at hk
  generalize at_ CVU_VAL_LO_val_lo u = k at *
  unfold State.writeKey
  simp only [hr, hv, hc, ho, hp, hoff, hw]
  rw [if_neg (by omega), if_neg (by omega), if_neg (by omega), if_neg (by omega)]
  simp

/-- A write of the high word of CVU_VAL puts the whole in force. -/
theorem writeKey_valHi {u : Nat} (hu : u < 64) (s : State) (host sec : Bool) (m be : Nat) (data : Word) :
    s.writeKey host sec m (at_ CVU_VAL_HI_val_hi u) be data =
      (s.commit (at_ CVU_VAL_LO_val_lo u) (at_ CVU_VAL_HI_val_hi u) valHiReg be data).cvuCheck u m := by
  have hk := cvuKey_valHi hu
  have hoff : at_ CVU_VAL_HI_val_hi u % 0x40 = 0x1C := by simp only [at_, CVU_VAL_HI_val_hi]; omega
  have hw : s.cvuWritable u (at_ CVU_VAL_HI_val_hi u) 31 = true := by simp [State.cvuWritable, hoff]
  have hr := regAt_valHi hu
  have hv := hk.cvuAt
  have hc := hk.chanOf
  have ho := hk.ownerAt
  have hp := hk.pcSelAt
  have hlo : lowOf (at_ CVU_VAL_HI_val_hi u) = some (at_ CVU_VAL_LO_val_lo u) := by
    unfold lowOf
    rw [if_neg (by simp only [at_, CVU_VAL_HI_val_hi]; omega), if_pos ⟨by rw [hv]; rfl, by omega⟩]
    simp only [at_, CVU_VAL_HI_val_hi, CVU_VAL_LO_val_lo, Option.some.injEq]
    omega
  unfold CvuKey at hk
  generalize at_ CVU_VAL_HI_val_hi u = k at *
  unfold State.writeKey
  simp only [hr, hv, hc, ho, hp, hoff, hw, hlo]
  rw [if_neg (by omega), if_neg (by omega), if_neg (by omega), if_neg (by omega), if_neg (by omega)]
  simp

/-- The low word that a commit of CVU_VAL takes: the one that waits, or the register's. -/
def waitingLow (s : State) (k : Nat) : Word := ((s.stage.find? fun p => p.1 == k).map (·.2)).getD (s.reg k)

theorem stageLow_all (s : State) (k : Nat) (data : Word) :
    s.stageLow k 15 data = { s with stage := (s.stage.filter fun p => p.1 != k) ++ [(k, data)] } := by
  have hmask : beMask 15 = BitVec.allOnes 32 := by decide
  unfold State.stageLow
  dsimp only
  rw [hmask, BitVec.and_allOnes, BitVec.not_allOnes, BitVec.and_zero, BitVec.zero_or]

theorem find?_staged (l : List (Nat × Word)) (k : Nat) (w : Word) :
    ((l.filter fun p => p.1 != k) ++ [(k, w)]).find? (fun p => p.1 == k) = some (k, w) := by
  rw [List.find?_append, find?_filter_key (fun j => j != k), if_neg (by simp)]
  simp

/-- The commit of a quantity other than the cursor's sets its two registers. -/
theorem commit_eq {lo : Nat} (hlo : lo ≠ 0x30088) (s : State) (hi : Nat) (r : RegDef) (be : Nat) (data : Word) :
    s.commit lo hi r be data =
      (({ s with stage := s.stage.filter fun p => p.1 != lo } : State).setReg lo (waitingLow s lo)).setReg hi
        (written true r be data (s.reg hi)) := by
  unfold State.commit waitingLow
  dsimp only
  rw [if_neg hlo]
  cases s.stage.find? fun p => p.1 == lo <;> rfl

/-- A write of all four bytes of an RW word takes the written word. -/
theorem written_valHi (w data : Word) : written true valHiReg 15 data w = data := by
  refine BitVec.eq_of_getLsbD_eq fun i hi => ?_
  rw [getLsbD_written_inside (f := (31, 0, .rw)) (by decide) _ _ _ _ (by decide) ⟨Nat.zero_le i, Nat.le_of_lt_succ hi⟩,
    testBit_fifteen hi]
  rfl

section
variable {u : Nat}

/-- The working register of a unit holds no field that decides whether the unit is refused. -/
theorem regionFlds_apart {f : Fld} (hf : f ∈ regionFlds) {n : Nat} (hn : n < f.count) :
    f.key n ≠ at_ CVU_VAL_LO_val_lo u ∧ f.key n ≠ at_ CVU_VAL_HI_val_hi u := by
  simp only [regionFlds, List.mem_cons, List.not_mem_nil, or_false] at hf
  simp only [Fld.key, at_, CVU_VAL_LO_val_lo, CVU_VAL_HI_val_hi]
  rcases hf with rfl | rfl | rfl | rfl | rfl | rfl | rfl <;>
    simp only [CVU_CTL_enable, CVU_CTL_src, CVU_BASE_LO_base_lo, CVU_BASE_HI_base_hi, CVU_SIZE_size, MB_ST_world,
      DC_ST_cap_gib] at hn ⊢ <;> omega

theorem commit_reg (s : State) (be : Nat) (data : Word) (k : Nat) :
    (s.commit (at_ CVU_VAL_LO_val_lo u) (at_ CVU_VAL_HI_val_hi u) valHiReg be data).reg k =
      if k = at_ CVU_VAL_HI_val_hi u then written true valHiReg be data (s.reg (at_ CVU_VAL_HI_val_hi u))
      else if k = at_ CVU_VAL_LO_val_lo u then waitingLow s (at_ CVU_VAL_LO_val_lo u) else s.reg k := by
  rw [commit_eq (by simp only [at_, CVU_VAL_LO_val_lo]; omega), State.reg_setReg, State.reg_setReg]
  rfl

theorem commit_get (s : State) (be : Nat) (data : Word) {f : Fld} (hf : f ∈ regionFlds) (n : Nat) :
    (s.commit (at_ CVU_VAL_LO_val_lo u) (at_ CVU_VAL_HI_val_hi u) valHiReg be data).get f n = s.get f n := by
  rw [State.get_eq, State.get_eq]
  split
  · next hn =>
    obtain ⟨h1, h2⟩ := regionFlds_apart hf hn
    rw [commit_reg, if_neg h2, if_neg h1]
  · rfl

theorem keep_commit (s : State) (be : Nat) (data : Word) :
    Keep s (s.commit (at_ CVU_VAL_LO_val_lo u) (at_ CVU_VAL_HI_val_hi u) valHiReg be data) [.stage] := by
  rw [commit_eq (by simp only [at_, CVU_VAL_LO_val_lo]; omega)]
  exact keep_trans (keep_trans (keep_stage ..) (keep_mono (keep_setReg ..) (by decide))) (keep_mono (keep_setReg ..) (by decide))

/-- A commit of CVU_VAL does not change whether the unit is refused. -/
theorem cvuCheck_commit {s : State} (h : s.on CVU_CTL_enable u = true → s.cvuRefused u = false) (be m : Nat) (data : Word) :
    (s.commit (at_ CVU_VAL_LO_val_lo u) (at_ CVU_VAL_HI_val_hi u) valHiReg be data).cvuCheck u m =
      s.commit (at_ CVU_VAL_LO_val_lo u) (at_ CVU_VAL_HI_val_hi u) valHiReg be data := by
  refine cvuCheck_of_not_refused (fun hon => ?_) m
  rw [cvuRefused_congr ((keep_commit s be data).1 .img (by decide)) fun f hf => commit_get s be data hf]
  unfold State.on at h hon
  rw [commit_get s be data (by decide)] at hon
  exact h hon

variable {s : State} {src : Src} (hu : u < 64)
include hu

/-- The write of a register of the unit is not refused. -/
theorem writeBar_cvu {k : Nat} (hk : CvuKey u k) (h4 : k / 4 * 4 = k)
    (hw : s.cvuOwner u = 2 → s.secureSrc src (at_ CVU_VAL_LO_val_lo u) = true) (data : Word) :
    s.newCycle.writeBar src k 15 data =
      (s.newCycle.writeKey (srcMaster src == 2) (s.secureSrc src k) (srcMaster src) k 15 data).cvuWord (srcMaster src)
        (0x10000000 + k) 15 data := by
  have h := writeBar_taken (s := s.newCycle) (src := src) (off := k) (k := k) 15 data (by rw [h4, hk.barKey]) (by
    rw [newCycle_secureKey, hk.secureKey, newCycle_secureSrc, hk.secureSrc (cvuKey_valLo hu), beq_iff_eq]
    exact hw)
  rwa [h4, newCycle_secureSrc] at h

variable (hw : s.cvuOwner u = 2 → s.secureSrc src (at_ CVU_VAL_LO_val_lo u) = true)
include hw

/-- The write of the low word waits, and leaves the registers as they are (R11, R250). -/
theorem execRegisterWrite_valLo (data : Word) :
    ∃ t, exec (.registerWrite src (at_ CVU_VAL_LO_val_lo u) 15 data false) s =
        .next (t.cvuWord (srcMaster src) (0x10000000 + at_ CVU_VAL_LO_val_lo u) 15 data) ∧
      t.regs = s.regs ∧ (t.stage.find? fun p => p.1 == at_ CVU_VAL_LO_val_lo u).map (·.2) = some data ∧
      Keep s.newCycle t [.stage] := by
  have h := writeBar_cvu hu (cvuKey_valLo hu) (by simp only [at_, CVU_VAL_LO_val_lo]; omega) hw data
  rw [writeKey_valLo hu, stageLow_all] at h
  refine ⟨_, congrArg Host.Outcome.next h, newCycle_regs s, ?_, keep_stage ..⟩
  rw [find?_staged]
  rfl

/-- The write of the high word puts the quantity in force (R11, R250). -/
theorem execHighWordWrite_valHi (hen : s.on CVU_CTL_enable u = true → s.cvuRefused u = false) (data : Word) :
    ∃ t, exec (.highWordWrite src (at_ CVU_VAL_HI_val_hi u) data) s =
        .next (t.cvuWord (srcMaster src) (0x10000000 + at_ CVU_VAL_HI_val_hi u) 15 data) ∧
      t.reg (at_ CVU_VAL_HI_val_hi u) = data ∧
      t.reg (at_ CVU_VAL_LO_val_lo u) = waitingLow s (at_ CVU_VAL_LO_val_lo u) ∧
      (t.stage.find? fun p => p.1 == at_ CVU_VAL_LO_val_lo u) = none ∧ Keep s.newCycle t [.stage] ∧
      KeepRegs s.newCycle t [at_ CVU_VAL_LO_val_lo u, at_ CVU_VAL_HI_val_hi u] [] := by
  have hne : at_ CVU_VAL_LO_val_lo u ≠ at_ CVU_VAL_HI_val_hi u := by
    simp only [at_, CVU_VAL_LO_val_lo, CVU_VAL_HI_val_hi]; omega
  have hen' : s.newCycle.on CVU_CTL_enable u = true → s.newCycle.cvuRefused u = false := by
    rw [newCycle_on, cvuRefused_congr (newCycle_img s) fun f _ n => newCycle_get s f n]
    exact hen
  have h := writeBar_cvu hu (cvuKey_valHi hu) (by simp only [at_, CVU_VAL_HI_val_hi]; omega) hw data
  rw [writeKey_valHi hu, cvuCheck_commit hen'] at h
  refine ⟨_, congrArg Host.Outcome.next h, ?_, ?_, ?_, keep_commit .., ?_⟩
  · rw [commit_reg, if_pos rfl, written_valHi]
  · rw [commit_reg, if_neg hne, if_pos rfl]
    simp only [waitingLow, newCycle_stage, newCycle_reg]
  · rw [commit_eq (by simp only [at_, CVU_VAL_LO_val_lo]; omega), State.setReg_stage, State.setReg_stage]
    dsimp only
    rw [find?_filter_key (fun j => j != at_ CVU_VAL_LO_val_lo u), if_neg (by simp)]
  · intro k _ hk _
    simp only [List.mem_cons, List.not_mem_nil, or_false, not_or] at hk
    rw [commit_reg, if_neg hk.2, if_neg hk.1]

end

/-- Settles O15: what each read latches, what a latched word gives, and what each write of CVU_VAL puts in force. -/
theorem sixtyFourBitPairs : Obligations.SixtyFourBitPairs := by
  unfold Obligations.SixtyFourBitPairs
  refine ⟨fun src off s k r n hk hr hlow hw hl => ?_, fun src off s k r n v hk hr hl hw =>
      execRegisterReadClear_latched src off s hk hr hl hw,
    fun src n s hn hl => execLnTsSecRead_latches src n s hn hl, fun src s hl => execTmcSecLoRead_latches src s hl,
    fun src s hl => execRtcSecLoRead_latches src s hl,
    fun src u data s hu hw hen => ⟨execRegisterWrite_valLo hu hw data, execHighWordWrite_valHi hu hw hen data⟩⟩
  obtain ⟨t, ht, hdata, hlatch, hother, hkeep, hregs⟩ := execLowWordRead_latches src off s hk hr hlow hw hl
  refine ⟨t, ht, hdata, fun h hh => ?_, hother, hkeep, hregs⟩
  rw [hlatch h hh, latchVal, newCycle_reg]

end Sys2Proof.Scope
end

section
/-!
What each command may change of the sections in force and of the grid period count (R19, R20, R32, R312).
-/
namespace Sys2Proof.Architecture

open Sys2Proof.Machine Sys2Proof.Safety Sys2Proof.Scope
open Sys2Proof.Laws hiding maskOf put

/-! ### The masks of the commands -/

/-- The sections in force lie in the mask of a row exactly if it is one of `loads`. -/
theorem maskOf_img (c : Instr) : (Laws.maskOf c).testBit (bitOf .img) = loads c := by
  cases c <;> dsimp only [Laws.maskOf, loads] <;> decide +kernel

/-- The grid period count lies in the mask of a row exactly if it is one of `movesGrid`. -/
theorem maskOf_gp (c : Instr) : (Laws.maskOf c).testBit (bitOf .gp) = movesGrid c := by
  cases c <;> dsimp only [Laws.maskOf, movesGrid] <;> decide +kernel

/-- What a command answers differs from the start of its cycle by its mask alone. -/
theorem frame_of_exec {c : Instr} {s t : State} (h : exec c s = .next t) : Frame (Laws.maskOf c) s.newCycle t := by
  obtain ⟨u, hu, hframe⟩ := exec_frame c s
  cases hu.symm.trans h
  exact hframe

theorem newCycle_gp (s : State) : s.newCycle.fab.gp = s.fab.gp := (fr_newCycle s).gp (by decide)

/-- Settles O9: only the rows of `loads` have the sections in their mask. -/
theorem onlyLoadsChangeTheImage : Obligations.OnlyLoadsChangeTheImage := by
  unfold Obligations.OnlyLoadsChangeTheImage
  intro c s t hexec hc
  exact ((frame_of_exec hexec).img ((maskOf_img c).trans hc)).trans (newCycle_img s)

/-- Settles O11: only the rows of `movesGrid` have the count in their mask. -/
theorem gridPeriodsCountUp : Obligations.GridPeriodsCountUp := by
  unfold Obligations.GridPeriodsCountUp
  intro c s t hexec hc
  exact ((frame_of_exec hexec).gp ((maskOf_gp c).trans hc)).trans (newCycle_gp s)

end Sys2Proof.Architecture
end

section
/-!
The grid period (R19, R20, R126, R280, Table 2-12): its parts, and what each of them moves.
-/
namespace Sys2Proof.Architecture

open Sys2Proof.Machine Sys2Proof.Safety Sys2Proof.Scope
open Sys2Proof.Laws hiding maskOf put

/-! ### The start of a cycle -/

theorem newCycle_up (s : State) : s.newCycle.pwr.up = s.pwr.up := (fr_newCycle s).up (by decide)

theorem newCycle_tim (s : State) : s.newCycle.tim = s.tim := (fr_newCycle s).tim (by decide)

theorem newCycle_bootState (s : State) : s.newCycle.bootState = s.bootState := newCycle_get ..

theorem newCycle_getI (s : State) (f : Fld) (n : Nat) : s.newCycle.getI f n = s.getI f n := by
  unfold State.getI
  rw [newCycle_get]

theorem newCycle_sysTime (s : State) : s.newCycle.sysTime = s.sysTime := by
  simp only [State.sysTime, State.sysSec, State.get64, newCycle_get]

/-! ### Fields of one block of registers -/

/-- A field of another register of the same block keeps its value. -/
theorem get_set_sibling {f g : Fld} (h : f.hi < 32 ∧ f.stride = g.stride ∧ f.base ≠ g.base) (s : State) (v n : Nat) :
    (s.set f v n).get g n = s.get g n := by
  obtain ⟨h32, hstride, hbase⟩ := h
  refine State.get_set_apart s f g v n n h32 (.inl fun e => hbase ?_)
  unfold Fld.key at e
  rw [hstride] at e
  omega

/-- A counter that counts several saturates at its all-ones value (R10). -/
theorem get_inc_by (s : State) (f : Fld) (n k : Nat) (hn : n < f.count) (h32 : f.hi < 32) :
    (s.inc f n k).get f n = min (s.get f n + k) (top f) := by
  unfold State.inc satN top
  rw [State.get_set_same _ _ _ _ hn h32]
  have hpos := Nat.two_pow_pos (f.hi + 1 - f.lo)
  split
  · rw [Nat.mod_eq_of_lt] <;> omega
  · rw [Nat.mod_eq_of_lt] <;> omega

theorem satN_eq_min (w v : Nat) : satN w v = min v (2 ^ w - 1) := by
  unfold satN
  split <;> omega

/-- A quantity in two registers, the low one of 32 bits. -/
theorem mod_two_words (v w : Nat) : v % 2 ^ 32 + 2 ^ 32 * (v / 2 ^ 32 % 2 ^ w) = v % 2 ^ (32 + w) := by
  rw [pow_add, Nat.mod_mul]

/-! ### The lanes -/

@[simp] theorem setLaneSt_get (s : State) (m : Nat) (v : LaneSt) (f : Fld) (n : Nat) :
    (s.setLaneSt m v).get f n = s.get f n := rfl

/-- What the registers of a lane show after a grid period. -/
structure LaneCounts (s t : State) (l : LaneRx) : Prop where
  cw : t.get64 LN_FEC_CW_LO_cw_lo LN_FEC_CW_HI_cw_hi l.lane =
    (s.get64 LN_FEC_CW_LO_cw_lo LN_FEC_CW_HI_cw_hi l.lane + l.cw) % 2 ^ 64
  corr : t.get64 LN_FEC_CORR_LO_corr_lo LN_FEC_CORR_HI_corr_hi l.lane =
    min (s.get64 LN_FEC_CORR_LO_corr_lo LN_FEC_CORR_HI_corr_hi l.lane + l.corr) (2 ^ 64 - 1)
  uncorr : t.get LN_FEC_UNCORR_uncorr l.lane = min (s.get LN_FEC_UNCORR_uncorr l.lane + l.uncorr) (top LN_FEC_UNCORR_uncorr)
  sym : t.get LN_FEC_SYM_sym l.lane = min (s.get LN_FEC_SYM_sym l.lane + l.sym) (top LN_FEC_SYM_sym)
  prbs : t.get LN_PRBS_ERR_errs l.lane = (if s.on LN_STATE_test l.lane then
    min (s.get LN_PRBS_ERR_errs l.lane + l.prbs) (top LN_PRBS_ERR_errs) else s.get LN_PRBS_ERR_errs l.lane)

theorem get_ite (c : Prop) [Decidable c] (s t : State) (f : Fld) (n : Nat) :
    (if c then s else t).get f n = if c then s.get f n else t.get f n := by
  split <;> rfl

/-- A field of a lane reads back what was written to it, cut to its width. -/
theorem get_set_lane {n : Nat} (hn : n < 144) {f : Fld} (h : f.count = 144 ∧ f.hi < 32) (s : State) (v : Nat) :
    (s.set f v n).get f n = v % 2 ^ (f.hi + 1 - f.lo) :=
  State.get_set_same s f v n (by omega) h.2

theorem get_inc_lane {n : Nat} (hn : n < 144) {f : Fld} (h : f.count = 144 ∧ f.hi < 32) (s : State) (k : Nat) :
    (s.inc f n k).get f n = min (s.get f n + k) (top f) :=
  get_inc_by s f n k (by omega) h.2

theorem get_inc_sibling {f g : Fld} (h : f.hi < 32 ∧ f.stride = g.stride ∧ f.base ≠ g.base) (s : State) (n k : Nat) :
    (s.inc f n k).get g n = s.get g n := get_set_sibling h ..

/-- A lane that is not DISABLED counts what its pipe decodes (Table 2-12). -/
theorem laneRx_counts {s : State} {x : LaneRx} (hon : s.get LN_STATE_state x.lane ≠ 0) (hn : x.lane < 144) :
    LaneCounts s (s.laneRx x) x := by
  unfold State.laneRx
  rw [if_neg hon]
  constructor <;> simp (disch := decide) only [State.on, State.get64, State.set64, State.inc64, setLaneSt_get,
    get_set_sibling, get_inc_sibling, get_set_lane hn, get_inc_lane hn, get_ite, ite_self]
  case cw => exact mod_two_words _ 32
  case corr =>
    rw [satN_eq_min]
    refine (mod_two_words _ 32).trans (Nat.mod_eq_of_lt ?_)
    omega
  case prbs => rfl

/-- The fields that tell what a lane counted. -/
def laneFlds : List Fld :=
  [LN_STATE_test, LN_FEC_CW_LO_cw_lo, LN_FEC_CW_HI_cw_hi, LN_FEC_CORR_LO_corr_lo, LN_FEC_CORR_HI_corr_hi, LN_FEC_UNCORR_uncorr,
    LN_FEC_SYM_sym, LN_PRBS_ERR_errs]

theorem LaneCounts.congr {s s' t t' : State} {l : LaneRx} (h : LaneCounts s t l)
    (hs : ∀ f ∈ laneFlds, s.get f l.lane = s'.get f l.lane) (ht : ∀ f ∈ laneFlds, t.get f l.lane = t'.get f l.lane) :
    LaneCounts s' t' l := by
  simp only [laneFlds, List.forall_mem_cons] at hs ht
  obtain ⟨stest, scwLo, scwHi, scorrLo, scorrHi, suncorr, ssym, sprbs, -⟩ := hs
  obtain ⟨-, tcwLo, tcwHi, tcorrLo, tcorrHi, tuncorr, tsym, tprbs, -⟩ := ht
  obtain ⟨cw, corr, uncorr, sym, prbs⟩ := h
  simp only [State.get64, State.on, stest, scwLo, scwHi, scorrLo, scorrHi, suncorr, ssym, sprbs, tcwLo, tcwHi, tcorrLo, tcorrHi,
    tuncorr, tsym, tprbs] at cw corr uncorr sym prbs
  exact ⟨cw, corr, uncorr, sym, prbs⟩

/-! ### The system time -/

theorem sysTime_of_get {s t : State}
    (h : ∀ f ∈ [TMC_SEC_LO_sec_lo, TMC_SEC_HI_sec_hi, TMC_NS_ns, TMC_FRAC_frac], t.get f = s.get f) :
    t.sysTime = s.sysTime := by
  simp only [List.forall_mem_cons, List.not_mem_nil, false_implies, implies_true, and_true] at h
  obtain ⟨hlo, hhi, hns, hfrac⟩ := h
  simp only [State.sysTime, State.sysSec, State.get64, hlo, hhi, hns, hfrac]

/-- The counter reads back what it was loaded with, below its 2^48 seconds (R280). -/
theorem sysTime_setSysTime (s : State) {v : Nat} (hv : v < 2 ^ 48 * secUnits) : (s.setSysTime v).sysTime = v := by
  have hsec : v / secUnits % 2 ^ 32 + 2 ^ 32 * (v / secUnits / 2 ^ 32 % 2 ^ 16) = v / secUnits :=
    (mod_two_words _ 16).trans (Nat.mod_eq_of_lt (Nat.div_lt_of_lt_mul (by rwa [Nat.mul_comm])))
  have hread : (s.setSysTime v).sysTime = (v / secUnits % 2 ^ 32 + 2 ^ 32 * (v / secUnits / 2 ^ 32 % 2 ^ 16)) * secUnits +
      v % secUnits / 2 ^ 32 % 2 ^ 30 * 2 ^ 32 + v % 2 ^ 32 % 2 ^ 32 := by
    unfold State.sysTime State.sysSec State.get64 State.setSysTime State.set64
    simp (disch := decide) only [State.get_set_apart, State.get_set_same]
    rfl
  rw [hread, hsec]
  unfold secUnits
  omega

/-- The counter advances by its increments, the fifths carried (R280). -/
theorem tickTime_time (s : State) (n : Nat) {v : Int}
    (hv : v = 5 * (s.sysTime : Int) + s.tim.rem5 + n * (2 ^ 34 + 5 * s.getI TMC_INC_inc_adj)) (h0 : 0 ≤ v)
    (hlt : v < 5 * 2 ^ 48 * (secUnits : Int)) : 5 * ((s.tickTime n).sysTime : Int) + (s.tickTime n).tim.rem5 = v := by
  have htick : s.tickTime n = { s.setSysTime (v.toNat / 5) with
      tim := { (s.setSysTime (v.toNat / 5)).tim with rem5 := v.toNat % 5 } } := by
    rw [hv]; rfl
  have htime : (s.tickTime n).sysTime = v.toNat / 5 := by
    rw [htick]
    exact sysTime_setSysTime s (by omega)
  have hrem : (s.tickTime n).tim.rem5 = v.toNat % 5 := by rw [htick]
  rw [htime, hrem]
  omega

/-! ### The parts of a grid period -/

/-- The clocks that run in every state: the grid periods since reset, and the calendar clock (R302). -/
def calendarTicked (x : GridIn) (s : State) : State :=
  ({ s with pwr := { s.pwr with up := s.pwr.up + 1 } } : State).tickRtc x.ticks

/-- The slot blocks of the grid period, written and read (R126). -/
def blocksMoved (x : GridIn) (s : State) : State := ((s.writeAll x).deliverAll x).mapperEvents x

/-- A grid period up to the events of the time base. -/
def lanesDecoded (x : GridIn) (s : State) : State := forEach x.lanes (blocksMoved x (calendarTicked x s)) State.laneRx

/-- The events of the time base. -/
def baseCounted (s : State) : State := (s.countBase 0 32).countBase 1 1

/-- The events of the time base, and the system time. -/
def timeTicked (s : State) : State := (baseCounted s).tickTime 128

/-- The next grid period begins. -/
def gridAdvanced (s : State) : State :=
  { s with fab := { s.fab with
    gp := s.fab.gp + 1, mateIn := s.fab.mateIn.filter fun p => decide (s.fab.gp + 1 ≤ p.1 / 512) } }

/-- A grid period of a device that is RUNNING. -/
def periodRun (x : GridIn) (s : State) : State := gridAdvanced (timeTicked (lanesDecoded x s))

/-! ### What each part leaves as it is -/

theorem calendarTicked_frame (x : GridIn) (s : State) :
    Frame m_tickRtc { s with pwr := { s.pwr with up := s.pwr.up + 1 } } (calendarTicked x s) := fr_tickRtc ..

theorem calendarTicked_get (x : GridIn) (s : State) {f : Fld} (hf : Laws.apart m_tickRtc f = true) (n : Nat) :
    (calendarTicked x s).get f n = s.get f n := (calendarTicked_frame x s).get hf n

theorem calendarTicked_up (x : GridIn) (s : State) : (calendarTicked x s).pwr.up = s.pwr.up + 1 :=
  (calendarTicked_frame x s).up (by decide)

theorem calendarTicked_gp (x : GridIn) (s : State) : (calendarTicked x s).fab.gp = s.fab.gp :=
  (calendarTicked_frame x s).gp (by decide)

theorem calendarTicked_rem5 (x : GridIn) (s : State) : (calendarTicked x s).tim.rem5 = s.tim.rem5 := by
  unfold calendarTicked State.tickRtc State.setRtc
  split
  · rfl
  · simp only [State.set_tim, State.set64_tim]

/-- The calendar clock counts in every state, the rest runs while the device is RUNNING. -/
theorem effGridPeriod_eq (x : GridIn) (s : State) :
    effGridPeriod x s = if s.bootState ≠ 4 then calendarTicked x s else periodRun x s := by
  have hboot : (calendarTicked x s).bootState = s.bootState := calendarTicked_get x s (by decide +kernel) 0
  rw [← hboot]
  rfl

/-- What the slot blocks of a grid period may change. -/
def m_blocksMoved : Nat := m_writeAll ||| m_deliverAll ||| m_mapperEvents

theorem blocksMoved_frame (x : GridIn) (s : State) : Frame m_blocksMoved s (blocksMoved x s) :=
  (((fr_writeAll s x).mono (by decide)).step (fr_deliverAll ..) (by decide)).step (fr_mapperEvents ..) (by decide)

/-- What the slot blocks and the lanes may change. -/
def m_lanesDecoded : Nat := m_blocksMoved ||| m_laneRx

theorem lanesDecoded_frame (x : GridIn) (s : State) : Frame m_lanesDecoded (calendarTicked x s) (lanesDecoded x s) :=
  Frame.forEach x.lanes ((blocksMoved_frame x _).mono (by decide)) fun _ _ h => h.step (fr_laneRx ..) (by decide)

theorem baseCounted_frame (s : State) : Frame m_countBase s (baseCounted s) :=
  (fr_countBase s 0 32).step (fr_countBase ..) (Nat.or_self _)

/-- What the events of the time base and the system time may change. -/
def m_timeTicked : Nat := m_countBase ||| m_tickTime

theorem timeTicked_frame (s : State) : Frame m_timeTicked s (timeTicked s) :=
  ((baseCounted_frame s).mono (by decide)).step (fr_tickTime ..) (by decide)

/-! ### What a grid period moves -/

section
variable (x : GridIn) (s : State)

theorem periodRun_gp : (periodRun x s).fab.gp = s.fab.gp + 1 := by
  have htime := (timeTicked_frame (lanesDecoded x s)).gp (by decide)
  have hlanes := (lanesDecoded_frame x s).gp (by decide)
  exact congrArg (· + 1) ((htime.trans hlanes).trans (calendarTicked_gp x s))

theorem periodRun_up : (periodRun x s).pwr.up = s.pwr.up + 1 := by
  have htime := (timeTicked_frame (lanesDecoded x s)).up (by decide)
  have hlanes := (lanesDecoded_frame x s).up (by decide)
  exact (htime.trans hlanes).trans (calendarTicked_up x s)

/-- A field that neither the blocks, the lanes nor the clocks write. -/
theorem lanesDecoded_get {f : Fld} (hc : Laws.apart m_tickRtc f = true) (hl : Laws.apart m_lanesDecoded f = true) (n : Nat) :
    (lanesDecoded x s).get f n = s.get f n :=
  ((lanesDecoded_frame x s).get hl n).trans (calendarTicked_get x s hc n)

theorem periodRun_time {v : Int}
    (hv : v = 5 * (s.sysTime : Int) + s.tim.rem5 + 128 * (2 ^ 34 + 5 * s.getI TMC_INC_inc_adj)) (h0 : 0 ≤ v)
    (hlt : v < 5 * 2 ^ 48 * (secUnits : Int)) : 5 * ((periodRun x s).sysTime : Int) + (periodRun x s).tim.rem5 = v := by
  have hapart : ∀ f ∈ [TMC_SEC_LO_sec_lo, TMC_SEC_HI_sec_hi, TMC_NS_ns, TMC_FRAC_frac, TMC_INC_inc_adj],
      Laws.apart m_countBase f = true ∧ Laws.apart m_tickRtc f = true ∧ Laws.apart m_lanesDecoded f = true := by
    decide +kernel
  have hget : ∀ f ∈ [TMC_SEC_LO_sec_lo, TMC_SEC_HI_sec_hi, TMC_NS_ns, TMC_FRAC_frac, TMC_INC_inc_adj],
      (baseCounted (lanesDecoded x s)).get f = s.get f := by
    intro f hf
    obtain ⟨hbase, hcalendar, hlanes⟩ := hapart f hf
    exact ((baseCounted_frame _).get hbase 0).trans (lanesDecoded_get x s hcalendar hlanes 0)
  have htime := sysTime_of_get (s := s) fun f hf => hget f (List.mem_append_left [TMC_INC_inc_adj] hf)
  have hrem : (baseCounted (lanesDecoded x s)).tim.rem5 = s.tim.rem5 := by
    rw [(baseCounted_frame _).tim (by decide), (lanesDecoded_frame x s).tim (by decide), calendarTicked_rem5]
  have hinc : (baseCounted (lanesDecoded x s)).getI TMC_INC_inc_adj = s.getI TMC_INC_inc_adj := by
    unfold State.getI
    rw [hget TMC_INC_inc_adj (by decide)]
  refine tickTime_time (baseCounted (lanesDecoded x s)) 128 ?_ h0 hlt
  rw [htime, hrem, hinc]
  exact hv

theorem periodRun_lane {l : LaneRx} (hx : x.lanes = [l]) (hn : l.lane < 144) (hon : s.get LN_STATE_state l.lane ≠ 0) :
    LaneCounts s (periodRun x s) l := by
  have hapart : ∀ f ∈ LN_STATE_state :: laneFlds,
      Laws.apart m_tickRtc f = true ∧ Laws.apart m_blocksMoved f = true ∧ Laws.apart m_timeTicked f = true := by
    decide +kernel
  have hbase : ∀ f ∈ LN_STATE_state :: laneFlds, (blocksMoved x (calendarTicked x s)).get f l.lane = s.get f l.lane := by
    intro f hf
    obtain ⟨hcalendar, hblocks, -⟩ := hapart f hf
    exact ((blocksMoved_frame x _).get hblocks _).trans (calendarTicked_get x s hcalendar _)
  have hrx : lanesDecoded x s = (blocksMoved x (calendarTicked x s)).laneRx l := by
    unfold lanesDecoded
    rw [hx]
    rfl
  have hon' : (blocksMoved x (calendarTicked x s)).get LN_STATE_state l.lane ≠ 0 := by
    rwa [hbase _ List.mem_cons_self]
  refine (laneRx_counts hon' hn).congr (fun f hf => hbase f (List.mem_cons_of_mem _ hf)) fun f hf => ?_
  obtain ⟨-, -, htime⟩ := hapart f (List.mem_cons_of_mem _ hf)
  rw [← hrx]
  exact ((timeTicked_frame (lanesDecoded x s)).get htime l.lane).symm

end

/-! ### The whole row -/

theorem keep_up (s : State) (n : Nat) : Keep s { s with pwr := { s.pwr with up := n } } [.pwr, .up] := by
  refine ⟨fun p hp => ?_, rfl⟩
  cases p
  case pwr => exact absurd List.mem_cons_self hp
  case up => exact absurd (List.mem_cons_of_mem _ List.mem_cons_self) hp
  all_goals rfl

theorem execGridPeriod_stopped (x : GridIn) {s : State} (h : s.bootState ≠ 4) :
    ∃ t, exec (.gridPeriod x) s = .next t ∧ t.pwr.up = s.pwr.up + 1 ∧ Keep s.newCycle t [.pwr, .up, .tim] ∧
      KeepRegs s.newCycle t [] [RTC_SEC_LO_sec_lo, RTC_SEC_HI_sec_hi, RTC_TICK_tick] := by
  have he : effGridPeriod x s.newCycle = calendarTicked x s.newCycle := by
    rw [effGridPeriod_eq, if_pos (by rwa [newCycle_bootState])]
  refine ⟨calendarTicked x s.newCycle, congrArg Host.Outcome.next he, ?_, ?_, ?_⟩
  · rw [calendarTicked_up, newCycle_up]
  · exact keep_trans (keep_mono (keep_up s.newCycle _) (by decide)) (frame_keep (calendarTicked_frame x _) (by decide))
  · exact (calendarTicked_frame x s.newCycle).keepRegs (by decide +kernel)

/-- Settles O29: what the blocks, the lanes and the clocks move in turn. -/
theorem gridPeriodAdvances : Obligations.GridPeriodAdvances := by
  unfold Obligations.GridPeriodAdvances
  refine ⟨fun x s hrun => ?_, fun x s hstop => execGridPeriod_stopped x hstop⟩
  have he : effGridPeriod x s.newCycle = periodRun x s.newCycle := by
    rw [effGridPeriod_eq, if_neg (by rw [newCycle_bootState]; exact not_not.2 hrun)]
  have hframe := he ▸ fr_effGridPeriod x s.newCycle
  refine ⟨_, congrArg Host.Outcome.next he, ?_, ?_, fun v hv h0 hlt => ?_, fun l hl hn hon => ?_, ?_, ?_⟩
  · rw [periodRun_gp, newCycle_gp]
  · rw [periodRun_up, newCycle_up]
  · refine periodRun_time x s.newCycle ?_ h0 hlt
    rw [newCycle_sysTime, newCycle_tim, newCycle_getI]
    exact hv
  · obtain ⟨cw, corr, uncorr, sym, prbs⟩ := (periodRun_lane x s.newCycle hl hn (by rwa [newCycle_get])).congr
      (fun f _ => newCycle_get s f l.lane) fun _ _ => rfl
    exact ⟨cw, corr, uncorr, sym, prbs⟩
  · exact frame_keep hframe (by decide)
  · exact hframe.keepRegs (by decide +kernel)

end Sys2Proof.Architecture
end

section
/-!
The grid multiframe boundary (R20, R21, R151, Table 1-4): its row of changes, and the rows after it.
-/
namespace Sys2Proof.Architecture

open Sys2Proof.Machine Sys2Proof.Safety Sys2Proof.Scope
open Sys2Proof.Laws hiding maskOf put

/-! ### The grid period count in a change -/

section
variable (s : State)

@[simp] theorem takeEffect_gp (new : List Section) : (s.takeEffect new).fab.gp = s.fab.gp := (fr_takeEffect s new).gp (by decide)

@[simp] theorem endChange_gp (st : Nat) : (s.endChange st).fab.gp = s.fab.gp := (fr_endChange s st).gp (by decide)

@[simp] theorem restMb1_gp : s.restMb1.fab.gp = s.fab.gp := (fr_restMb1 s).gp (by decide)

@[simp] theorem report_gp (k : RecKind) (l : List (Nat × Nat)) : (s.report k l).fab.gp = s.fab.gp :=
  (fr_report s k l).gp (by decide)

@[simp] theorem closeWindow_gp : s.closeWindow.fab.gp = s.fab.gp := (fr_closeWindow s).gp (by decide)

@[simp] theorem openWindow_gp (k n : Nat) : (s.openWindow k n).fab.gp = s.fab.gp := (fr_openWindow s k n).gp (by decide)

@[simp] theorem stopChange_gp (cause sec key : Nat) : (s.stopChange cause sec key).fab.gp = s.fab.gp :=
  (fr_stopChange s cause sec key).gp (by decide)

@[simp] theorem setDue_gp (n : Nat) : (s.setDue n).fab.gp = s.fab.gp := (fr_setDue s n).gp (by decide)

@[simp] theorem startStep_gp (k : Nat) : (s.startStep k).fab.gp = s.fab.gp := (fr_startStep s k).gp (by decide)

@[simp] theorem fixStart_gp (n : Nat) : (s.fixStart n).fab.gp = s.fab.gp := (fr_fixStart s n).gp (by decide)

/-- A change in force at boundary `n` brings the count to that boundary (log entry 71). -/
theorem changeNow_gp (n : Nat) (secs : List Section) : (s.changeNow n secs).fab.gp = max s.fab.gp (1024 * n) := by
  unfold State.changeNow
  dsimp only
  split
  · simp
  · split
    · simp
    · split <;> simp

/-- At boundary `n` the row of changes leaves the count where the boundary brought it. -/
theorem changeRow_gp {n : Nat} (h : 1024 * n ≤ s.fab.gp) : (s.changeRow n).fab.gp = s.fab.gp := by
  unfold State.changeRow
  dsimp only
  split
  · rfl
  · split
    · split
      · rw [changeNow_gp, Nat.max_eq_left h]
      · rfl
    · split
      · exact fixStart_gp s n
      · split
        · split
          · rw [setDue_gp, fixStart_gp]
          · rw [changeNow_gp, fixStart_gp, Nat.max_eq_left h]
        · rw [stopChange_gp, fixStart_gp]

end

/-! ### The grid multiframe count -/

theorem gmf_of_get {s t : State} (hlo : t.get FAB_GMF_LO_gmf_lo = s.get FAB_GMF_LO_gmf_lo)
    (hhi : t.get FAB_GMF_HI_gmf_hi = s.get FAB_GMF_HI_gmf_hi) : t.gmf = s.gmf := by
  simp only [State.gmf, State.get64, hlo, hhi]

theorem newCycle_gmf (s : State) : s.newCycle.gmf = s.gmf := gmf_of_get (newCycle_get ..) (newCycle_get ..)

/-! ### The parts of a boundary -/

/-- The boundary counts itself, and the grid period count comes to it. -/
def boundaryCounted (s : State) : State :=
  ({ s with fab := { s.fab with gp := max s.fab.gp (1024 * (s.gmf + 1)) } } : State).set64 FAB_GMF_LO_gmf_lo FAB_GMF_HI_gmf_hi
    (s.gmf + 1)

/-- What a boundary does before row 1. -/
def boundaryBegun (s : State) : State := (((boundaryCounted s).countBase 2 1).takeTerms).coppiceTick

/-- Rows 2 to 5 of Table 1-4, with the flags of R171. -/
def laterRows (x : BoundaryIn) (n : Nat) (s : State) : State :=
  let sel := s.selectors
  let s := (s.quicksetRow s.chg.swap x.disagree).declareAllDue
  let now := s.selectors
  let steer := s.steering
  let s := s.coppiceRow s.chg.swap.isSome
  let lost := (steer.zip s.steering).any fun p => p.1 != p.2 && s.get FAB_SLICE_ST_state p.1 == 3
  let s := s.flagHits n (fun g => sel.contains g != now.contains g) lost
  s.tagRow.mateRow x.genBytes

/-- The swap of a boundary ends with it. -/
def swapEnded (s : State) : State := { s with chg := { s.chg with swap := none } }

/-- Rows 1 to 5 at boundary `n`. -/
def allRows (x : BoundaryIn) (n : Nat) (s : State) : State := laterRows x n (s.changeRow n).standbyRow

/-- A boundary of a device that is RUNNING. -/
def boundaryRun (x : BoundaryIn) (s : State) : State := swapEnded (allRows x (s.gmf + 1) (boundaryBegun s))

theorem effGridMultiframeBoundary_eq (x : BoundaryIn) (s : State) :
    effGridMultiframeBoundary x s = if s.bootState ≠ 4 then s else boundaryRun x s := rfl

/-! ### What each part leaves as it is -/

/-- What a boundary may change between its count and row 1. -/
def m_boundaryBegun : Nat := m_countBase ||| m_takeTerms ||| m_coppiceTick

theorem boundaryBegun_frame (s : State) : Frame m_boundaryBegun (boundaryCounted s) (boundaryBegun s) :=
  (((fr_countBase (boundaryCounted s) 2 1).mono (by decide)).step (fr_takeTerms ..) (by decide)).step (fr_coppiceTick ..)
    (by decide)

/-- What rows 2 to 5 may change. -/
def m_laterRows : Nat :=
  m_quicksetRow ||| m_declareAllDue ||| m_coppiceRow ||| m_flagHits ||| m_tagRow ||| m_mateRow

theorem laterRows_frame (x : BoundaryIn) (n : Nat) (s : State) : Frame m_laterRows s (laterRows x n s) := by
  have hquick := (fr_quicksetRow s s.chg.swap x.disagree).mono (v := m_laterRows) (by decide)
  have hdeclared := hquick.step (fr_declareAllDue ..) (by decide)
  unfold laterRows
  dsimp only
  refine .after (fr_mateRow ..) ?_ (by decide)
  refine .after (fr_tagRow ..) ?_ (by decide)
  refine .after (fr_flagHits ..) ?_ (by decide)
  exact .after (fr_coppiceRow ..) hdeclared (by decide)

/-! ### What a boundary moves -/

section
variable (x : BoundaryIn) (s : State)

/-- A field outside the count of grid multiframes, before row 1. -/
theorem boundaryBegun_get {f : Fld} (hf : Laws.apart m_boundaryBegun f = true)
    (hne : f.key 0 ≠ FAB_GMF_LO_gmf_lo.key 0 ∧ f.key 0 ≠ FAB_GMF_HI_gmf_hi.key 0) : (boundaryBegun s).get f = s.get f := by
  rw [(boundaryBegun_frame s).get hf]
  unfold boundaryCounted State.set64
  rw [State.get_set_apart _ _ _ _ _ _ (by decide) (.inl hne.2), State.get_set_apart _ _ _ _ _ _ (by decide) (.inl hne.1)]
  rfl

/-- The count of grid multiframes goes on by one, in 64 bits. -/
theorem boundaryCounted_gmf : (boundaryCounted s).gmf = (s.gmf + 1) % 2 ^ 64 := by
  unfold boundaryCounted State.gmf State.get64 State.set64
  simp (disch := decide) only [State.get_set_apart, State.get_set_same]
  exact mod_two_words _ 32

theorem changeRow_of_not_changing (h : s.changing = false) (n : Nat) : s.changeRow n = s := by
  unfold State.changeRow
  rw [h]
  rfl

theorem boundaryBegun_gmf : (boundaryBegun s).gmf = (s.gmf + 1) % 2 ^ 64 := by
  have h := boundaryBegun_frame s
  rw [← boundaryCounted_gmf]
  exact gmf_of_get (h.get (by decide +kernel) 0) (h.get (by decide +kernel) 0)

/-- No row counts a grid multiframe. -/
theorem allRows_gmf (n : Nat) : (allRows x n s).gmf = s.gmf := by
  have hapart : ∀ f ∈ [FAB_GMF_LO_gmf_lo, FAB_GMF_HI_gmf_hi], Laws.apart m_changeRow f = true ∧
      Laws.apart m_standbyRow f = true ∧ Laws.apart m_laterRows f = true := by decide +kernel
  have hget : ∀ f ∈ [FAB_GMF_LO_gmf_lo, FAB_GMF_HI_gmf_hi], (allRows x n s).get f = s.get f := by
    intro f hf
    obtain ⟨hchange, hstandby, hlater⟩ := hapart f hf
    rw [allRows, (laterRows_frame x n _).get hlater, (fr_standbyRow _).get hstandby, (fr_changeRow s n).get hchange]
  exact gmf_of_get (hget _ (by decide)) (hget _ (by decide))

theorem boundaryBegun_gp : (boundaryBegun s).fab.gp = max s.fab.gp (1024 * (s.gmf + 1)) := by
  rw [(boundaryBegun_frame s).gp (by decide), boundaryCounted, State.set64_fab]

/-- No row moves the grid period count past the boundary. -/
theorem allRows_gp {n : Nat} (h : 1024 * n ≤ s.fab.gp) : (allRows x n s).fab.gp = s.fab.gp := by
  rw [allRows, (laterRows_frame x n _).gp (by decide), (fr_standbyRow _).gp (by decide), changeRow_gp s h]

theorem boundaryBegun_img : (boundaryBegun s).img = s.img := by
  rw [(boundaryBegun_frame s).img (by decide), boundaryCounted, State.set64_img]

/-- A device that follows no active mate has no part of a standby in row 1. -/
theorem standbyRow_of_not_standby (h : ¬ (s.get MATE_ST_mode = 1 ∧ s.get MATE_ST_role = 2)) : s.standbyRow = s := if_neg h

/-- Without a change in progress and a mate to follow, no row changes a section. -/
theorem allRows_img (n : Nat) (hchange : s.changing = false) (hmate : ¬ (s.get MATE_ST_mode = 1 ∧ s.get MATE_ST_role = 2)) :
    (allRows x n s).img = s.img := by
  rw [allRows, changeRow_of_not_changing s hchange, standbyRow_of_not_standby s hmate, (laterRows_frame x n s).img (by decide)]

theorem boundaryBegun_changing : (boundaryBegun s).changing = s.changing := by
  unfold State.changing
  rw [boundaryBegun_get s (by decide +kernel) (by decide)]

end

/-! ### The whole row -/

/-- A device that is not RUNNING has no boundary. -/
theorem execGridMultiframeBoundary_stopped (x : BoundaryIn) {s : State} (h : s.bootState ≠ 4) :
    exec (.gridMultiframeBoundary x) s = .next s.newCycle := by
  refine congrArg Host.Outcome.next (?_ : effGridMultiframeBoundary x s.newCycle = s.newCycle)
  rw [effGridMultiframeBoundary_eq, if_pos (by rwa [newCycle_bootState])]

/-- Settles O31: the boundary counts itself before its rows, and only row 1 changes sections. -/
theorem boundaryCounts : Obligations.BoundaryCounts := by
  unfold Obligations.BoundaryCounts
  refine ⟨fun x s hrun => ?_, fun x s hstop => execGridMultiframeBoundary_stopped x hstop⟩
  have he : effGridMultiframeBoundary x s.newCycle = boundaryRun x s.newCycle := by
    rw [effGridMultiframeBoundary_eq, if_neg (by rw [newCycle_bootState]; exact not_not.2 hrun)]
  have hframe := he ▸ fr_effGridMultiframeBoundary x s.newCycle
  refine ⟨_, congrArg Host.Outcome.next he, ?_, ?_, rfl, fun hchange hmate => ?_, ?_, ?_⟩
  · calc _ = (boundaryBegun s.newCycle).gmf := allRows_gmf x _ _
      _ = (s.gmf + 1) % 2 ^ 64 := by rw [boundaryBegun_gmf, newCycle_gmf]
  · have hgp := boundaryBegun_gp s.newCycle
    calc _ = (boundaryBegun s.newCycle).fab.gp := allRows_gp x _ (by rw [hgp]; exact Nat.le_max_right _ _)
      _ = max s.fab.gp (1024 * (s.gmf + 1)) := by rw [hgp, newCycle_gp, newCycle_gmf]
  · have hchange' : (boundaryBegun s.newCycle).changing = false := by
      rw [boundaryBegun_changing, State.changing, newCycle_get]
      exact hchange
    have hmate' : ¬ ((boundaryBegun s.newCycle).get MATE_ST_mode = 1 ∧ (boundaryBegun s.newCycle).get MATE_ST_role = 2) := by
      rwa [boundaryBegun_get _ (by decide +kernel) (by decide), boundaryBegun_get _ (by decide +kernel) (by decide),
        newCycle_get, newCycle_get]
    calc _ = (boundaryBegun s.newCycle).img := allRows_img x _ _ hchange' hmate'
      _ = s.img := by rw [boundaryBegun_img, newCycle_img]
  · exact frame_keep hframe (by decide)
  · exact hframe.keepRegs (by decide +kernel)

end Sys2Proof.Architecture
end

section
/-!
The frame block (chapter 3): what a write of one of its tables leaves in the others, what the start of a cycle leaves of it, and how
frames of updates compose.
-/
namespace Sys2Proof.Framing

open Sys2Proof.Machine Sys2Proof.Safety Sys2Proof.Scope Sys2Proof.Architecture
open Sys2Proof.Laws hiding maskOf put

/-! ### The start of a cycle -/

@[simp] theorem newCycle_fr (s : State) : s.newCycle.fr = s.fr := (fr_newCycle s).fr (by decide)

@[simp] theorem newCycle_alignSt (s : State) (c : Nat) : s.newCycle.alignSt c = s.alignSt c := by
  unfold State.alignSt
  rw [newCycle_fr]

@[simp] theorem newCycle_defSt (s : State) (c : Nat) : s.newCycle.defSt c = s.defSt c := by
  unfold State.defSt
  rw [newCycle_fr]

@[simp] theorem newCycle_mapSt (s : State) (c : Nat) : s.newCycle.mapSt c = s.mapSt c := by
  unfold State.mapSt
  rw [newCycle_fr]

@[simp] theorem newCycle_pmSt (s : State) (c : Nat) : s.newCycle.pmSt c = s.pmSt c := by
  unfold State.pmSt
  rw [newCycle_fr]

@[simp] theorem newCycle_mapE (s : State) (c : Nat) : s.newCycle.mapE c = s.mapE c := by
  unfold State.mapE
  rw [newCycle_img]

@[simp] theorem newCycle_path (s : State) (c : Nat) : s.newCycle.path c = s.path c := by
  unfold State.path State.entry
  rw [newCycle_img]

@[simp] theorem newCycle_layerOf (s : State) (c : Nat) : s.newCycle.layerOf c = s.layerOf c := by
  unfold State.layerOf
  rw [newCycle_mapE, newCycle_path]

/-! ### The tables by context -/

theorem alignSt_setAlignSt (s : State) (c d : Nat) (v : AlignSt) :
    (s.setAlignSt c v).alignSt d = if d = c then v else s.alignSt d := tget_tset ..

theorem defSt_setDefSt (s : State) (c d : Nat) (v : DefSt) :
    (s.setDefSt c v).defSt d = if d = c then v else s.defSt d := tget_tset ..

theorem pmSt_setPmSt (s : State) (c d : Nat) (v : PmSt) :
    (s.setPmSt c v).pmSt d = if d = c then v else s.pmSt d := tget_tset ..

/-- A context's alignment is a part of the frame block. -/
theorem alignSt_of_fr {s t : State} (h : t.fr = s.fr) (c : Nat) : t.alignSt c = s.alignSt c := by
  unfold State.alignSt
  rw [h]

/-- A context's performance monitoring is a part of the frame block. -/
theorem pmSt_of_fr {s t : State} (h : t.fr = s.fr) (c : Nat) : t.pmSt c = s.pmSt c := by
  unfold State.pmSt
  rw [h]

/-! ### Composition of what updates leave as it is -/

theorem keep_step {s t u : State} {l m : List Part} (h : Keep s t l) (g : Keep t u m) (hm : ∀ p ∈ m, p ∈ l) : Keep s u l :=
  keep_trans h (keep_mono g hm)

theorem keepRegs_of_regs {s t : State} (h : t.regs = s.regs) (keys : List Nat) (flds : List Fld) : KeepRegs s t keys flds :=
  fun k _ _ _ => by unfold State.reg; rw [h]

theorem keepRegs_trans {s t u : State} {keys : List Nat} {flds : List Fld} (h : KeepRegs s t keys flds)
    (g : KeepRegs t u keys flds) : KeepRegs s u keys flds :=
  fun k hk hkeys hf => (g k hk hkeys hf).trans (h k hk hkeys hf)

theorem keepRegs_mono {s t : State} {keys keys' : List Nat} {flds flds' : List Fld} (h : KeepRegs s t keys flds)
    (hkeys : ∀ k ∈ keys, k ∈ keys') (hflds : ∀ f ∈ flds, f ∈ flds') : KeepRegs s t keys' flds' :=
  fun k hk hn hf => h k hk (fun hm => hn (hkeys k hm)) fun f hm => hf f (hflds f hm)

/-- One more field written in a register that may change, which is named by a field of its own. -/
theorem keepRegs_after_set {s t : State} {keys : List Nat} {flds : List Fld} (h : KeepRegs s t keys flds) {f : Fld} (g : Fld)
    {v n : Nat} (hfg : f.base = g.base ∧ f.stride = g.stride) (hk : at_ g n ∈ keys) : KeepRegs s (t.set f v n) keys flds := by
  have hf : at_ f n = at_ g n := by unfold at_; rw [hfg.1, hfg.2]
  exact keepRegs_trans h (keepRegs_mono (keepRegs_set t f v n) (by simpa [hf] using hk) (by simp))

end Sys2Proof.Framing
end

section
/-!
LOF and LOM (R83, Table 3-7): the latch of one timed defect.
-/
namespace Sys2Proof.Framing

open Sys2Proof.Machine Sys2Proof.Safety Sys2Proof.Scope
open Sys2Proof.Laws hiding maskOf put

/-! ### One bit of a number -/

theorem testBit_add_two_pow {x k : Nat} (h : x.testBit k = false) (i : Nat) :
    (x + 2 ^ k).testBit i = (x.testBit i || decide (i = k)) := by
  induction k generalizing x i with
  | zero =>
    cases i with
    | zero => simp_all [Nat.testBit_zero]; omega
    | succ i =>
      have hhalf : (x + 1) / 2 = x / 2 := by simp [Nat.testBit_zero] at h; omega
      simp [Nat.testBit_succ, hhalf]
  | succ k ih =>
    have hhalf : (x + 2 ^ (k + 1)) / 2 = x / 2 + 2 ^ k := by rw [pow_succ]; omega
    cases i with
    | zero => simp [Nat.testBit_zero, pow_succ, Nat.add_mod]
    | succ i => simpa [Nat.testBit_succ, hhalf] using ih (by simpa [Nat.testBit_succ] using h) i

theorem testBit_sub_two_pow {x k : Nat} (h : x.testBit k = true) (i : Nat) :
    (x - 2 ^ k).testBit i = (x.testBit i && !decide (i = k)) := by
  have hx : 2 ^ k + (x - 2 ^ k) = x := Nat.add_sub_cancel' (Nat.ge_two_pow_of_testBit h)
  have hk : (x - 2 ^ k).testBit k = false := by
    simpa [hx, h] using Nat.testBit_two_pow_add_eq (x - 2 ^ k) k
  have hi := testBit_add_two_pow hk i
  rw [Nat.add_comm, hx] at hi
  by_cases e : i = k
  · subst e; simp [hk]
  · simp [hi, e]

/-- A number with one bit set or cleared, as the latch of a defect takes it. -/
def withBit (v k : Nat) (on : Bool) : Nat :=
  if on then (if bit v k then v else v + 2 ^ k) else (if bit v k then v - 2 ^ k else v)

theorem bit_withBit (v k i : Nat) (on : Bool) : bit (withBit v k on) i = if i = k then on else bit v i := by
  unfold withBit bit
  cases on <;> cases h : v.testBit k <;> by_cases e : i = k <;>
    simp [e, h, testBit_add_two_pow, testBit_sub_two_pow]

/-! ### The latch of a defect -/

/-- A context with a defect latched or not. -/
def defectLatched (s : State) (c k : Nat) (on : Bool) : State :=
  s.setDefSt c { s.defSt c with lat := withBit (s.defSt c).lat k on }

theorem latched_defectLatched (s : State) (c k : Nat) (on : Bool) : latched s (defectLatched s.newCycle c k on) c k on := by
  have hframe : Frame m_setDefSt s.newCycle (defectLatched s.newCycle c k on) := fr_setDefSt ..
  refine ⟨?_, fun i hi => ?_, fun d hd => ?_, frame_keep hframe (by decide), hframe.keepRegs (by decide +kernel)⟩
  · rw [defectLatched, defSt_setDefSt, if_pos rfl, bit_withBit, if_pos rfl]
  · rw [defectLatched, defSt_setDefSt, if_pos rfl, bit_withBit, if_neg hi, newCycle_defSt]
  · rw [defectLatched, defSt_setDefSt, if_neg hd, newCycle_defSt]

/-- A row that latches a defect settles what follows. -/
theorem latched_of_latchDefect {s : State} {c k : Nat} {on : Bool} {o : Host.Outcome State Fault Refusal}
    (h : o = .next (s.newCycle.latchDefect c k on)) : ∃ u : State, o = .next u.settle ∧ latched s u c k on :=
  ⟨_, h, latched_defectLatched s c k on⟩

/-- Settles O27: each row latches its defect, since its guard is what the statement supposes. -/
theorem timedDefects : Obligations.TimedDefects := by
  unfold Obligations.TimedDefects
  refine ⟨fun c s hlayer hoof hssf => latched_of_latchDefect (congrArg Host.Outcome.next (if_pos ?_)),
    fun c s hlayer hstate => latched_of_latchDefect (congrArg Host.Outcome.next (if_pos ?_)),
    fun c s hlayer hstate him hssf hoof hlof => latched_of_latchDefect (congrArg Host.Outcome.next (if_pos ?_)),
    fun c s hlayer him => latched_of_latchDefect (congrArg Host.Outcome.next (if_pos ?_)),
    fun u => ⟨frame_keep (fr_settle u) (by decide), (fr_settle u).keepRegs (by decide +kernel)⟩⟩
  · simp [hlayer, hoof, hssf]
  · simp [hlayer, hstate]
  · simp [hlayer, hstate, him, hssf, hoof, hlof]
  · simp [hlayer, him]

end Sys2Proof.Framing
end

section
/-!
A received frame as a block of its layer (R91, Table 3-1): only the count of the block moves the errored blocks that FRM_EB_CUR
shows.
-/
namespace Sys2Proof.Framing

open Sys2Proof.Machine Sys2Proof.Safety Sys2Proof.Scope Sys2Proof.Architecture
open Sys2Proof.Laws hiding maskOf put

theorem get_le_top (s : State) (f : Fld) (n : Nat) : s.get f n ≤ top f := Nat.le_sub_one_of_lt (get_lt s f n)

/-- A field of two instances of a register lies at two keys. -/
theorem get_set_instance {f : Fld} (h : f.hi < 32 ∧ 0 < f.stride) (s : State) (v : Nat) {n m : Nat} (hm : m ≠ n) :
    (s.set f v n).get f m = s.get f m := by
  obtain ⟨h32, hstride⟩ := h
  refine State.get_set_apart s f f v n m h32 (.inl fun e => hm ?_)
  unfold Fld.key at e
  exact Nat.eq_of_mul_eq_mul_left hstride (by omega)

/-- FRM_EB_CUR of context `c` rises by `k` from `s` to `t`, and that of no other context changes. -/
def EbRises (s t : State) (c k : Nat) : Prop :=
  t.get FRM_EB_CUR_eb c = min (s.get FRM_EB_CUR_eb c + k) (top FRM_EB_CUR_eb) ∧
    ∀ d, d ≠ c → t.get FRM_EB_CUR_eb d = s.get FRM_EB_CUR_eb d

/-- Operations before and after the count that leave FRM_EB_CUR as it is. -/
theorem EbRises.between {s s' t t' : State} {c k : Nat} (h : EbRises s' t' c k)
    (hs : ∀ d, s'.get FRM_EB_CUR_eb d = s.get FRM_EB_CUR_eb d) (ht : ∀ d, t.get FRM_EB_CUR_eb d = t'.get FRM_EB_CUR_eb d) :
    EbRises s t c k := by
  obtain ⟨hc, hd⟩ := h
  refine ⟨?_, fun d hne => ?_⟩
  · rw [ht, hc, hs]
  · rw [ht, hd d hne, hs]

@[simp] theorem setPmSt_get (s : State) (c : Nat) (v : PmSt) (f : Fld) (n : Nat) : (s.setPmSt c v).get f n = s.get f n := rfl

theorem countBlock_ebRises {s : State} {c : Nat} (layer : Nat) {p : Entry} (f : FrameIn) (hc : c < 262144)
    (hpm : p.n FRAMING_pm ≠ 0) : EbRises s (s.countBlock c layer p f) c (b2n (frameErrored layer f)) := by
  unfold State.countBlock
  rw [if_neg hpm]
  dsimp only
  cases frameErrored layer f with
  | false => exact ⟨(Nat.min_eq_left (get_le_top s FRM_EB_CUR_eb c)).symm, fun _ _ => rfl⟩
  | true =>
    refine ⟨?_, fun d hd => ?_⟩
    · rw [if_pos rfl, get_inc _ _ _ hc (by decide), setPmSt_get]
      rfl
    · rw [if_pos rfl, State.inc, get_set_instance (by decide) _ _ hd, setPmSt_get]

/-- A frame of a monitored context is counted whether or not it loses the alignment. -/
theorem takeFrame_ebRises {s : State} {c : Nat} (e : Entry) {p : Entry} (f : FrameIn) (hc : c < 262144)
    (hpm : p.n FRAMING_pm ≠ 0) : EbRises s (s.takeFrame c e p f) c (b2n (frameErrored (p.n FRAMING_layer) f)) := by
  have hsettle (u : State) (d : Nat) : u.settle.get FRM_EB_CUR_eb d = u.get FRM_EB_CUR_eb d :=
    (fr_settle u).get (by decide +kernel) d
  have hword : ∀ d, (if ownAlign (p.n FRAMING_layer) then s.checkWord c e f.wordOk else s).get FRM_EB_CUR_eb d =
      s.get FRM_EB_CUR_eb d := by
    intro d
    split
    · exact (fr_checkWord ..).get (by decide +kernel) d
    · rfl
  unfold State.takeFrame
  dsimp only
  generalize (if ownAlign (p.n FRAMING_layer) then s.checkWord c e f.wordOk else s) = w at hword ⊢
  split
  · exact (countBlock_ebRises (p.n FRAMING_layer) f hc hpm).between hword fun d => hsettle _ d
  · have hmf (d : Nat) : (w.takeMf c (p.n FRAMING_layer) f).get FRM_EB_CUR_eb d = s.get FRM_EB_CUR_eb d :=
      ((fr_takeMf ..).get (by decide +kernel) d).trans (hword d)
    refine (countBlock_ebRises (p.n FRAMING_layer) f hc hpm).between hmf fun d => ?_
    rw [hsettle, (fr_compareLabels ..).get (by decide +kernel), (fr_takeMapOh ..).get (by decide +kernel),
      (fr_takeOverhead ..).get (by decide +kernel)]

@[simp] theorem newCycle_groupUp (s : State) (lead : Nat) : s.newCycle.groupUp lead = s.groupUp lead := by
  unfold State.groupUp State.lane
  rw [newCycle_img]
  simp only [newCycle_on]

@[simp] theorem newCycle_aligned (s : State) (c layer : Nat) (e : Entry) : s.newCycle.aligned c layer e = s.aligned c layer e := by
  unfold State.aligned
  rw [newCycle_img, newCycle_on]
  cases serverOf s.img e with
  | none => dsimp only; rw [newCycle_groupUp]
  | some sv => dsimp only; rw [newCycle_on]

/-- A frame of an aligned receive context with a path entry is taken. -/
theorem frameIn_monitored {s : State} {c : Nat} {e p : Entry} (f : FrameIn) (he : s.mapE c = some e) (hdir : e.n MAPPING_dir = 0)
    (haligned : s.aligned c (e.n MAPPING_kind) e = true) (hp : s.path c = some p) : s.frameIn c f = s.takeFrame c e p f := by
  unfold State.frameIn
  simp [he, hdir, haligned, hp]

/-- Settles O26: a frame that is taken is counted once. -/
theorem framesCount : Obligations.FramesCount := by
  unfold Obligations.FramesCount
  intro c f s e p hc he hdir haligned hp hpm
  have hframe := fr_effFrameReceived c f s.newCycle
  have hcount : EbRises s (effFrameReceived c f s.newCycle) c (b2n (frameErrored (p.n FRAMING_layer) f)) := by
    have htaken : effFrameReceived c f s.newCycle = s.newCycle.takeFrame c e p f :=
      frameIn_monitored f (by simpa using he) hdir (by simpa using haligned) (by simpa using hp)
    rw [htaken]
    exact (takeFrame_ebRises e f hc hpm).between (fun d => newCycle_get ..) fun _ => rfl
  obtain ⟨hsame, hother⟩ := hcount
  exact ⟨_, rfl, hsame, hother, frame_keep hframe (by decide), hframe.keepRegs (by decide +kernel)⟩

end Sys2Proof.Framing
end

section
/-!
An alignment search (R70 to R72, R119): what a window shows, and the three outcomes of its candidates.
-/
namespace Sys2Proof.Framing

open Sys2Proof.Machine Sys2Proof.Safety Sys2Proof.Scope Sys2Proof.Architecture
open Sys2Proof.Laws hiding maskOf put

/-! ### Fields of one context -/

/-- A field of a context reads back what was written to it, cut to its width. -/
theorem get_set_context {c : Nat} (hc : c < 262144) {f : Fld} (h : f.count = 262144 ∧ f.hi < 32) (s : State) (v : Nat) :
    (s.set f v c).get f c = v % 2 ^ (f.hi + 1 - f.lo) :=
  State.get_set_same s f v c (by omega) h.2

/-- A field in other bits of the register written keeps its value. -/
theorem get_set_bits {f g : Fld} (h : f.hi < 32 ∧ (f.hi < g.lo ∨ g.hi < f.lo)) (s : State) (v n m : Nat) :
    (s.set f v n).get g m = s.get g m :=
  State.get_set_apart s f g v n m h.1 (.inr h.2)

@[simp] theorem setAlignSt_get (s : State) (c : Nat) (v : AlignSt) (f : Fld) (n : Nat) :
    (s.setAlignSt c v).get f n = s.get f n := rfl

/-! ### The window -/

/-- The positions that a hunt finds are those at which the alignment word stands. -/
theorem wordsAt_eq (n i v : Nat) :
    wordsAt n i v = ((List.range n).filter fun j => v / 2 ^ (8 * j) % 2 ^ 64 == twigNum).map (· + i) := by
  induction n generalizing i v with
  | zero => rfl
  | succ n ih =>
    have hshift : ∀ j, v / 256 / 2 ^ (8 * j) = v / 2 ^ (8 * (j + 1)) := by
      intro j
      rw [Nat.div_div_eq_div_mul, Nat.mul_succ, pow_add, Nat.mul_comm 256]
      rfl
    have hrest : ((List.range n).filter fun j => v / 256 / 2 ^ (8 * j) % 2 ^ 64 == twigNum).map (· + (i + 1)) =
        (((List.range n).map Nat.succ).filter fun j => v / 2 ^ (8 * j) % 2 ^ 64 == twigNum).map (· + i) := by
      simp only [List.filter_map, List.map_map, hshift]
      congr 1
      funext j
      simp only [Function.comp, Nat.succ_eq_add_one]
      omega
    rw [wordsAt, ih, hrest, List.range_succ_eq_map, List.filter_cons]
    simp only [Nat.mul_zero, pow_zero, Nat.div_one, beq_iff_eq]
    split <;> simp

theorem window_line {e : Entry} (h : e.n MAPPING_kind ≠ 7) (s : State) (c : Nat) (found : List Nat) :
    s.window c e found = (some (dedup found), s) := if_pos h

theorem window_host_short {e : Entry} (h : e.n MAPPING_kind = 7) {s : State} {c : Nat} (hq : (s.mapSt c).q.n < 64056)
    (found : List Nat) : s.window c e found = (none, s) := by
  unfold State.window
  rw [if_neg (not_not.2 h)]
  exact if_pos hq

theorem window_host_full {e : Entry} (h : e.n MAPPING_kind = 7) {s : State} {c : Nat} (hq : 64056 ≤ (s.mapSt c).q.n)
    (found : List Nat) : s.window c e found = (some (wordsAt 8000 0 (s.mapSt c).q.v),
      s.setMapSt c { s.mapSt c with q := (s.mapSt c).q.drop 64000 }) := by
  unfold State.window
  rw [if_neg (not_not.2 h)]
  exact if_neg (Nat.not_lt.2 hq)

/-- What a window can be: that of a line, an incomplete one of a twig host, or a complete one. -/
theorem window_cases (s : State) (c : Nat) (e : Entry) (found : List Nat) :
    (e.n MAPPING_kind ≠ 7 ∧ s.window c e found = (some (dedup found), s)) ∨
    (e.n MAPPING_kind = 7 ∧ (s.mapSt c).q.n < 64056 ∧ s.window c e found = (none, s)) ∨
    (e.n MAPPING_kind = 7 ∧ 64056 ≤ (s.mapSt c).q.n ∧ s.window c e found = (some (wordsAt 8000 0 (s.mapSt c).q.v),
      s.setMapSt c { s.mapSt c with q := (s.mapSt c).q.drop 64000 })) := by
  by_cases h : e.n MAPPING_kind = 7
  · rcases Nat.lt_or_ge (s.mapSt c).q.n 64056 with hq | hq
    · exact .inr (.inl ⟨h, hq, window_host_short h hq found⟩)
    · exact .inr (.inr ⟨h, hq, window_host_full h hq found⟩)
  · exact .inl ⟨h, window_line h s c found⟩

/-- A window that is not complete changes nothing. -/
theorem window_of_none {s : State} {c : Nat} {e : Entry} {found : List Nat} (h : (s.window c e found).1 = none) :
    s.window c e found = (none, s) := by
  obtain ⟨-, hw⟩ | ⟨-, -, hw⟩ | ⟨-, -, hw⟩ := window_cases s c e found <;> rw [hw] at h ⊢ <;> cases h

theorem window_pos {s : State} {c : Nat} {e : Entry} {found pos : List Nat} (h : (s.window c e found).1 = some pos) :
    (e.n MAPPING_kind = 7 ∧ 64056 ≤ (s.mapSt c).q.n ∧
      pos = (List.range 8000).filter fun i => (s.mapSt c).q.v / 2 ^ (8 * i) % 2 ^ 64 == twigNum) ∨
    (e.n MAPPING_kind ≠ 7 ∧ pos = dedup found) := by
  obtain ⟨hk, hw⟩ | ⟨hk, hq, hw⟩ | ⟨hk, hq, hw⟩ := window_cases s c e found
  · rw [hw] at h
    exact .inr ⟨hk, (Option.some.inj h).symm⟩
  · rw [hw] at h
    cases h
  · rw [hw, wordsAt_eq, funext Nat.add_zero, List.map_id'] at h
    exact .inl ⟨hk, hq, (Option.some.inj h).symm⟩

/-- What a window leaves of the state: the registers and the alignments. -/
theorem window_keeps (s : State) (c : Nat) (e : Entry) (found : List Nat) :
    (s.window c e found).2.regs = s.regs ∧ ∀ d, (s.window c e found).2.alignSt d = s.alignSt d := by
  obtain ⟨-, hw⟩ | ⟨-, -, hw⟩ | ⟨-, -, hw⟩ := window_cases s c e found <;> rw [hw] <;> exact ⟨rfl, fun _ => rfl⟩

theorem newCycle_window_fst (s : State) (c : Nat) (e : Entry) (found : List Nat) :
    (s.newCycle.window c e found).1 = (s.window c e found).1 := by
  unfold State.window
  rw [newCycle_mapSt]
  split
  · rfl
  · dsimp only
    split <;> rfl

/-! ### The outcomes of a window -/

/-- A context that goes on with its search shows its open candidates. -/
def candidatesShown (w : State) (c : Nat) (cands : List (Nat × Nat)) : State :=
  (w.setAlignSt c { w.alignSt c with cands := cands }).set FRM_ALIGN_cands (min cands.length 255) c

/-- A context in frame at a position. -/
def inFrameAt (w : State) (c pos : Nat) : State :=
  (((w.setAlignSt c { n := (w.alignSt c).n, pos := pos, held := false }).setB FRM_ALIGN_state true c).setB FRM_ALIGN_im
    false c).set FRM_ALIGN_cands 0 c

/-- The record of the ambiguities of a search that has ended. -/
def ambiguityTold (w : State) (c amb : Nat) (seen : Bool) : State :=
  if amb = 0 || !seen then w else w.report kALIGN_AMBIGUOUS [(3, c), (2, amb)]

/-- A context that its search has aligned, before what follows is settled. -/
def aligned (w : State) (c pos term : Nat) (e : Entry) (seen : Bool) : State :=
  (ambiguityTold (inFrameAt w c pos) c (w.alignSt c).amb seen).hostAligned c pos term e

/-- A search that starts again after an ambiguous attempt (R72). -/
def searchRaised (w : State) (c : Nat) : State :=
  (((w.setAlignSt c { n := min ((w.alignSt c).n + 2) 7, amb := (w.alignSt c).amb + 1, held := false }).inc
    FRM_ALIGN_amb_cnt c).set FRM_ALIGN_cands 0 c).set FRM_ALIGN_n_cur (min ((w.alignSt c).n + 2) 7) c

section
variable {s : State} {c term : Nat} {e : Entry} {found : List Nat}

/-- A context that searches takes what its window shows. -/
structure Searching (s : State) (c : Nat) (e : Entry) : Prop where
  entry : s.mapE c = some e
  own : ownAlign (e.n MAPPING_kind) = true
  dir : e.n MAPPING_dir = 0
  held : (s.alignSt c).held = false
  state : s.on FRM_ALIGN_state c = false

theorem Searching.newCycle (h : Searching s c e) : Searching s.newCycle c e where
  entry := by rw [newCycle_mapE, h.entry]
  own := h.own
  dir := h.dir
  held := by rw [newCycle_alignSt, h.held]
  state := by rw [newCycle_on, h.state]

theorem effAlignWindowEnd_of_none (h : Searching s c e) (hw : (s.window c e found).1 = none) :
    effAlignWindowEnd c found term s = s := by
  unfold effAlignWindowEnd
  simp only [h.entry, h.own, h.dir, h.held, h.state, window_of_none hw, Bool.not_true, bne_self_eq_false, Bool.or_self,
    Bool.false_eq_true, if_false]

/-- What a complete window makes of a search. -/
def windowTaken (w : State) (c term : Nat) (e : Entry) (seen : Bool) (pos : List Nat) : State :=
  match hitsOf w c pos with
  | [] => candidatesShown w c (nextCands (w.alignSt c).cands pos)
  | [x] => (aligned w c x.1 term e seen).settle
  | _ => searchRaised w c

theorem effAlignWindowEnd_of_some (h : Searching s c e) {pos : List Nat} (hw : (s.window c e found).1 = some pos) :
    effAlignWindowEnd c found term s = windowTaken (s.window c e found).2 c term e (s.path c).isSome pos := by
  unfold effAlignWindowEnd
  simp only [h.entry, h.own, h.dir, h.held, h.state, hw, Bool.not_true, bne_self_eq_false, Bool.or_self,
    Bool.false_eq_true, if_false]
  rfl

end

/-! ### What each outcome shows and leaves -/

section
variable (w : State) (c : Nat)

theorem candidatesShown_alignSt (cands : List (Nat × Nat)) (d : Nat) : (candidatesShown w c cands).alignSt d =
    if d = c then { w.alignSt c with cands := cands } else w.alignSt d := by
  unfold candidatesShown
  rw [alignSt_of_fr (State.set_fr ..), alignSt_setAlignSt]

theorem candidatesShown_get (cands : List (Nat × Nat)) (hc : c < 262144) :
    (candidatesShown w c cands).get FRM_ALIGN_cands c = min cands.length 255 := by
  unfold candidatesShown
  rw [get_set_context hc (by decide)]
  exact Nat.mod_eq_of_lt (Nat.lt_succ_of_le (Nat.min_le_right ..))

theorem candidatesShown_keepBits (cands : List (Nat × Nat)) :
    KeepBits w (candidatesShown w c cands) (at_ FRM_ALIGN_cands c) [FRM_ALIGN_cands] :=
  keepBits_set (w.setAlignSt c { w.alignSt c with cands := cands }) _ _ _ (by decide)

theorem candidatesShown_keep (cands : List (Nat × Nat)) : Keep w (candidatesShown w c cands) [.fr] :=
  keep_trans (frame_keep (fr_setAlignSt ..) (by decide)) (keep_mono (keep_set ..) (by simp))

theorem candidatesShown_keepRegs (cands : List (Nat × Nat)) :
    KeepRegs w (candidatesShown w c cands) [at_ FRM_ALIGN_cands c] [] :=
  keepRegs_after_set (keepRegs_of_regs rfl _ _) FRM_ALIGN_cands (by decide) List.mem_cons_self

theorem searchRaised_gets (hc : c < 262144) : (searchRaised w c).get FRM_ALIGN_n_cur c = min ((w.alignSt c).n + 2) 7 ∧
    (searchRaised w c).get FRM_ALIGN_cands c = 0 ∧ (searchRaised w c).on FRM_ALIGN_state c = w.on FRM_ALIGN_state c ∧
    (searchRaised w c).get FRM_ALIGN_amb_cnt c = min (w.get FRM_ALIGN_amb_cnt c + 1) (top FRM_ALIGN_amb_cnt) := by
  unfold searchRaised State.on
  refine ⟨?_, ?_, ?_, ?_⟩
  · rw [get_set_context hc (by decide)]
    exact Nat.mod_eq_of_lt (Nat.lt_succ_of_le (Nat.min_le_right ..))
  · rw [get_set_bits (by decide), get_set_context hc (by decide)]
    rfl
  · rw [get_set_bits (by decide), get_set_bits (by decide), State.inc, get_set_bits (by decide), setAlignSt_get]
  · rw [get_set_bits (by decide), get_set_bits (by decide), get_inc _ _ _ hc (by decide), setAlignSt_get]

theorem searchRaised_keep : Keep w (searchRaised w c) [.fr] :=
  keep_trans (frame_keep (fr_setAlignSt ..) (by decide)) (keep_mono
    (keep_trans (keep_trans (keep_set ..) (keep_set ..)) (keep_set ..)) (by simp))

theorem searchRaised_keepRegs : KeepRegs w (searchRaised w c) [at_ FRM_ALIGN_state c] [] := by
  unfold searchRaised State.inc
  refine keepRegs_after_set (keepRegs_after_set (keepRegs_after_set ?_ FRM_ALIGN_state (by decide) List.mem_cons_self)
    FRM_ALIGN_state (by decide) List.mem_cons_self) FRM_ALIGN_state (by decide) List.mem_cons_self
  exact keepRegs_of_regs rfl _ _

theorem inFrameAt_alignSt (pos d : Nat) : (inFrameAt w c pos).alignSt d =
    if d = c then { n := (w.alignSt c).n, pos := pos, held := false } else w.alignSt d := by
  unfold inFrameAt
  rw [alignSt_of_fr (State.set_fr ..), alignSt_of_fr (State.setB_fr ..), alignSt_of_fr (State.setB_fr ..), alignSt_setAlignSt]

theorem inFrameAt_gets (pos : Nat) (hc : c < 262144) : (inFrameAt w c pos).on FRM_ALIGN_state c = true ∧
    (inFrameAt w c pos).on FRM_ALIGN_im c = false ∧ (inFrameAt w c pos).get FRM_ALIGN_cands c = 0 := by
  unfold inFrameAt State.on State.setB
  refine ⟨?_, ?_, ?_⟩
  · rw [get_set_bits (by decide), get_set_bits (by decide), get_set_context hc (by decide)]
    rfl
  · rw [get_set_bits (by decide), get_set_context hc (by decide)]
    rfl
  · rw [get_set_context hc (by decide)]
    rfl

theorem inFrameAt_keep (pos : Nat) : Keep w (inFrameAt w c pos) [.fr] :=
  keep_trans (frame_keep (fr_setAlignSt ..) (by decide)) (keep_mono
    (keep_trans (keep_trans (keep_set ..) (keep_set ..)) (keep_set ..)) (by simp))

theorem inFrameAt_keepRegs (pos : Nat) : KeepRegs w (inFrameAt w c pos) [at_ FRM_ALIGN_state c] [] := by
  unfold inFrameAt State.setB
  refine keepRegs_after_set (keepRegs_after_set (keepRegs_after_set ?_ FRM_ALIGN_state (by decide) List.mem_cons_self)
    FRM_ALIGN_state (by decide) List.mem_cons_self) FRM_ALIGN_state (by decide) List.mem_cons_self
  exact keepRegs_of_regs rfl _ _

theorem ambiguityTold_frame (amb : Nat) (seen : Bool) : Frame m_report w (ambiguityTold w c amb seen) :=
  Frame.ite (Frame.refl ..) (fr_report ..)

theorem hostAligned_alignSt (pos term : Nat) (e : Entry) (d : Nat) : (w.hostAligned c pos term e).alignSt d = w.alignSt d := by
  unfold State.hostAligned
  split
  · calc _ = ((w.setB MAP_HOST_TERM_term_valid true c).set MAP_HOST_TERM_term (term % 16000) c).alignSt d := rfl
      _ = w.alignSt d := alignSt_of_fr (by simp) d
  · rfl

theorem hostAligned_keepRegs (pos term : Nat) (e : Entry) :
    KeepRegs w (w.hostAligned c pos term e) [at_ MAP_HOST_TERM_term c] [] := by
  unfold State.hostAligned
  split
  · refine keepRegs_trans (t := (w.setB MAP_HOST_TERM_term_valid true c).set MAP_HOST_TERM_term (term % 16000) c) ?_
      (keepRegs_of_regs rfl _ _)
    refine keepRegs_after_set (keepRegs_after_set ?_ MAP_HOST_TERM_term (by decide) List.mem_cons_self) MAP_HOST_TERM_term
      (by decide) List.mem_cons_self
    exact keepRegs_of_regs rfl _ _
  · exact keepRegs_of_regs rfl _ _

variable (pos term : Nat) (e : Entry) (seen : Bool)

theorem aligned_alignSt (d : Nat) : (aligned w c pos term e seen).alignSt d =
    if d = c then { n := (w.alignSt c).n, pos := pos, held := false } else w.alignSt d := by
  unfold aligned
  rw [hostAligned_alignSt, alignSt_of_fr ((ambiguityTold_frame ..).fr (by decide)), inFrameAt_alignSt]

theorem aligned_gets (hc : c < 262144) : (aligned w c pos term e seen).on FRM_ALIGN_state c = true ∧
    (aligned w c pos term e seen).on FRM_ALIGN_im c = false ∧ (aligned w c pos term e seen).get FRM_ALIGN_cands c = 0 := by
  have hget : ∀ f ∈ [FRM_ALIGN_state, FRM_ALIGN_im, FRM_ALIGN_cands],
      (aligned w c pos term e seen).get f c = (inFrameAt w c pos).get f c := by
    have hapart : ∀ f ∈ [FRM_ALIGN_state, FRM_ALIGN_im, FRM_ALIGN_cands],
        Laws.apart m_hostAligned f = true ∧ Laws.apart m_report f = true := by decide +kernel
    exact fun f hf => ((fr_hostAligned ..).get (hapart f hf).1 c).trans ((ambiguityTold_frame ..).get (hapart f hf).2 c)
  unfold State.on
  rw [hget _ (by decide), hget _ (by decide), hget _ (by decide)]
  exact inFrameAt_gets w c pos hc

theorem aligned_keep : Keep w (aligned w c pos term e seen) [.fr, .tw, .rcd, .irq, .perf, .out] := by
  have htold : Keep _ _ [.rcd, .irq, .perf, .out] :=
    frame_keep (ambiguityTold_frame (inFrameAt w c pos) c (w.alignSt c).amb seen) (by decide)
  have hhost : Keep _ (aligned w c pos term e seen) [.fr, .tw] := frame_keep (fr_hostAligned ..) (by decide)
  exact keep_step (keep_step (keep_mono (inFrameAt_keep w c pos) (by decide)) htold (by decide)) hhost (by decide)

theorem aligned_keepRegs : KeepRegs w (aligned w c pos term e seen) [at_ FRM_ALIGN_state c, at_ MAP_HOST_TERM_term c]
    [EVR_LOSS_drop] := by
  have htold : KeepRegs _ _ [] [EVR_LOSS_drop] :=
    (ambiguityTold_frame (inFrameAt w c pos) c (w.alignSt c).amb seen).keepRegs (by decide +kernel)
  exact keepRegs_trans (keepRegs_trans (keepRegs_mono (inFrameAt_keepRegs w c pos) (by simp) (by simp))
    (keepRegs_mono htold (by simp) (by simp))) (keepRegs_mono (hostAligned_keepRegs _ c pos term e) (by simp) (by simp))

end

/-! ### The whole row -/

section
variable {s : State} {c term : Nat} {e : Entry} {found pos : List Nat}

/-- The state after the window of a command, from which its outcome is taken. -/
abbrev seenBy (s : State) (c : Nat) (e : Entry) (found : List Nat) : State := (s.newCycle.window c e found).2

theorem seenBy_keep : Keep s.newCycle (seenBy s c e found) [.fr] := frame_keep (fr_window ..) (by decide)

theorem seenBy_keepRegs (keys : List Nat) (flds : List Fld) : KeepRegs s.newCycle (seenBy s c e found) keys flds :=
  keepRegs_of_regs (window_keeps ..).1 _ _

theorem seenBy_reg (k : Nat) : (seenBy s c e found).reg k = s.reg k := by
  unfold State.reg
  rw [(window_keeps ..).1, newCycle_regs]

theorem seenBy_alignSt (d : Nat) : (seenBy s c e found).alignSt d = s.alignSt d := by
  rw [(window_keeps ..).2, newCycle_alignSt]

theorem seenBy_hitsOf : hitsOf (seenBy s c e found) c pos = hitsOf s c pos := by
  unfold hitsOf
  rw [seenBy_alignSt]

theorem execAlignWindowEnd_of_some (h : Searching s c e) (hw : (s.window c e found).1 = some pos) :
    exec (.alignWindowEnd c found term) s = .next (windowTaken (seenBy s c e found) c term e (s.path c).isSome pos) := by
  refine congrArg Host.Outcome.next ((effAlignWindowEnd_of_some h.newCycle ?_).trans (by rw [newCycle_path]))
  rw [newCycle_window_fst, hw]

/-- No candidate has matched often enough. -/
theorem execAlignWindowEnd_open (h : Searching s c e) (hw : (s.window c e found).1 = some pos) (hits : hitsOf s c pos = []) :
    exec (.alignWindowEnd c found term) s =
      .next (candidatesShown (seenBy s c e found) c (nextCands (s.alignSt c).cands pos)) := by
  rw [execAlignWindowEnd_of_some h hw, windowTaken, seenBy_hitsOf, hits, seenBy_alignSt]

/-- One candidate has matched often enough. -/
theorem execAlignWindowEnd_found (h : Searching s c e) (hw : (s.window c e found).1 = some pos) {x : Nat × Nat}
    (hits : hitsOf s c pos = [x]) : exec (.alignWindowEnd c found term) s =
      .next (aligned (seenBy s c e found) c x.1 term e (s.path c).isSome).settle := by
  rw [execAlignWindowEnd_of_some h hw, windowTaken, seenBy_hitsOf, hits]

/-- Several candidates have matched often enough. -/
theorem execAlignWindowEnd_ambiguous (h : Searching s c e) (hw : (s.window c e found).1 = some pos)
    (hits : 2 ≤ (hitsOf s c pos).length) :
    exec (.alignWindowEnd c found term) s = .next (searchRaised (seenBy s c e found) c) := by
  rw [execAlignWindowEnd_of_some h hw, windowTaken, seenBy_hitsOf]
  match hl : hitsOf s c pos, hits with
  | _ :: _ :: _, _ => rfl

end

/-- Settles O25: the three outcomes of a complete window. -/
theorem alignmentSearch : Obligations.AlignmentSearch := by
  unfold Obligations.AlignmentSearch
  intro c found term s e hc hentry hown hdir hheld hstate
  have h : Searching s c e := ⟨hentry, hown, hdir, hheld, hstate⟩
  refine ⟨fun hw => ?_, fun pos hw => window_pos hw, fun pos hw => ⟨fun hits => ?_, fun x hits => ?_, fun hits => ?_⟩⟩
  · have heff : effAlignWindowEnd c found term s.newCycle = s.newCycle :=
      effAlignWindowEnd_of_none h.newCycle (by rw [newCycle_window_fst, hw])
    exact ⟨s.newCycle, congrArg Host.Outcome.next heff, keep_refl .., newCycle_regs s⟩
  · refine ⟨_, execAlignWindowEnd_open h hw hits, candidatesShown_get _ c _ hc, ?_, fun d hd => ?_, fun i hi => ?_,
      keep_trans seenBy_keep (candidatesShown_keep ..), keepRegs_trans (seenBy_keepRegs _ _) (candidatesShown_keepRegs _ c _)⟩
    · rw [candidatesShown_alignSt, if_pos rfl, seenBy_alignSt]
    · rw [candidatesShown_alignSt, if_neg hd, seenBy_alignSt]
    · rw [candidatesShown_keepBits _ c _ i hi, seenBy_reg]
  · obtain ⟨hin, him, hcands⟩ := aligned_gets (seenBy s c e found) c x.1 term e (s.path c).isSome hc
    refine ⟨_, execAlignWindowEnd_found h hw hits, hin, him, hcands, ?_, fun d hd => ?_,
      keep_trans (keep_mono seenBy_keep (by decide)) (aligned_keep ..),
      keepRegs_trans (seenBy_keepRegs _ _) (aligned_keepRegs _ c x.1 term e _)⟩
    · rw [aligned_alignSt, if_pos rfl, seenBy_alignSt]
    · rw [aligned_alignSt, if_neg hd, seenBy_alignSt]
  · obtain ⟨hn, hcands, hst, hamb⟩ := searchRaised_gets (seenBy s c e found) c hc
    refine ⟨_, execAlignWindowEnd_ambiguous h hw hits, ?_, hcands, ?_, ?_, keep_trans seenBy_keep (searchRaised_keep ..),
      keepRegs_trans (seenBy_keepRegs _ _) (searchRaised_keepRegs _ c)⟩
    · rw [hn, seenBy_alignSt]
    · rw [hst, State.on_of_reg (seenBy_reg _), hstate]
    · rw [hamb, State.get_of_reg (seenBy_reg _)]

end Sys2Proof.Framing
end

section
/-!
The commit of a second and the closing of bins (R93 to R96): what each bin takes, and the TCA of a counter.
-/
namespace Sys2Proof.Framing

open Sys2Proof.Machine Sys2Proof.Safety Sys2Proof.Scope Sys2Proof.Architecture
open Sys2Proof.Laws hiding maskOf put

/-- The monitored paths are a part of the sections in force. -/
theorem pmPaths_of_img {s t : State} (h : t.img = s.img) : t.pmPaths = s.pmPaths := by
  unfold State.pmPaths State.entries State.mapE
  rw [h]

@[simp] theorem newCycle_pmPaths (s : State) : s.newCycle.pmPaths = s.pmPaths := pmPaths_of_img (newCycle_img s)

@[simp] theorem newCycle_tcaThr (s : State) (day : Bool) (prof : Nat) : s.newCycle.tcaThr day prof = s.tcaThr day prof := by
  unfold State.tcaThr State.gl
  rw [newCycle_img]

theorem newCycle_rcd (s : State) : s.newCycle.rcd = s.rcd := (fr_newCycle s).rcd (by decide)

theorem newCycle_cyc (s : State) : s.newCycle.cyc = s.cyc + 1 :=
  latchLevels_keeps (·.cyc) (fun s src => (fr_irqSet s src).cyc (by decide)) _

/-! ### A TCA -/

/-- A record whose severity is kept and whose port has room is offered (R384). -/
theorem report_recorded (s : State) (k : RecKind) (fields : List (Nat × Nat)) :
    Recorded s (s.newCycle.report k fields) k (payloadOf fields) := by
  intro hsev hroom
  have hoffer : ∀ t : State, t.rcd = s.rcd → t.img = s.img → t.cyc = s.cyc + 1 →
      (t.offerRec k (payloadOf fields)).rcd.offers = s.rcd.offers ++ [⟨s.cyc + 1, k.typ, k.sev, k.sec, payloadOf fields⟩] := by
    intro t hrcd himg hcyc
    have hgl : t.gl RECORDS_keep_sev = s.gl RECORDS_keep_sev := by unfold State.gl; rw [himg]
    unfold State.offerRec
    rw [hgl, if_neg (Nat.not_lt.2 hsev), hrcd, if_neg (Nat.not_le.2 hroom)]
    dsimp only
    rw [hcyc]
  unfold State.report
  cases k.src with
  | none => exact hoffer _ (newCycle_rcd s) (newCycle_img s) (newCycle_cyc s)
  | some src =>
    have hset := fr_irqSet s.newCycle src
    exact hoffer _ ((hset.rcd (by decide)).trans (newCycle_rcd s)) ((hset.img (by decide)).trans (newCycle_img s))
      ((hset.cyc (by decide)).trans (newCycle_cyc s))

/-- The threshold of counter `k` in a profile, and its count in a bin (R96). -/
def thrOf (thr : List Nat) (k : Nat) : Nat := (thr[k % 4]?).getD 0
def countOf (b : PmBin) (k : Nat) : Nat := (b.counts[k]?).getD 0

/-- The TCA of counter `k` of bin `b`: the record, and the counter among those of the bin that have raised theirs. -/
def tcaStep (c : Nat) (thr : List Nat) (b : PmBin) (r : State × PmBin) (k : Nat) : State × PmBin :=
  if thrOf thr k = 0 ∨ countOf b k < thrOf thr k ∨ r.2.tca.contains k then r
  else (r.1.report kTCA [(3, c), (1, k), (1, b2n b.day), (6, b.start), (6, countOf b k), (4, thrOf thr k)],
    { r.2 with tca := r.2.tca ++ [k] })

theorem tcaCheck_eq (s : State) (c : Nat) {prof : Nat} (h : prof ≠ 0) (b : PmBin) :
    s.tcaCheck c prof b = (List.range 8).foldl (tcaStep c (s.tcaThr b.day prof) b) (s, b) := by
  unfold State.tcaCheck
  rw [if_neg h]
  rfl

/-- A check of the TCAs changes nothing of a bin but the counters that have raised theirs. -/
theorem tcaCheck_bin {β : Type} (q : PmBin → β) (hq : ∀ b l, q { b with tca := l } = q b) (s : State) (c prof : Nat) (b : PmBin) :
    q (s.tcaCheck c prof b).2 = q b := by
  by_cases h : prof = 0
  · unfold State.tcaCheck
    rw [if_pos h]
  · rw [tcaCheck_eq s c h]
    refine forEach_keeps (fun r : State × PmBin => q r.2) (fun r k => ?_) (List.range 8) (s, b)
    unfold tcaStep
    split
    · rfl
    · exact hq _ _

section
variable {thr : List Nat} {b : PmBin} {k : Nat} {r : State × PmBin} (c : Nat)

theorem tcaStep_of_zero (h : thrOf thr k = 0) : tcaStep c thr b r k = r := if_pos (.inl h)

theorem tcaStep_of_lt (h : countOf b k < thrOf thr k) : tcaStep c thr b r k = r := if_pos (.inr (.inl h))

theorem tcaStep_of_mem (h : k ∈ r.2.tca) : tcaStep c thr b r k = r := if_pos (.inr (.inr (List.contains_iff_mem.2 h)))

theorem tcaStep_raises (h0 : 0 < thrOf thr k) (hle : thrOf thr k ≤ countOf b k) (hk : k ∉ r.2.tca) :
    tcaStep c thr b r k =
      (r.1.report kTCA [(3, c), (1, k), (1, b2n b.day), (6, b.start), (6, countOf b k), (4, thrOf thr k)],
        { r.2 with tca := r.2.tca ++ [k] }) := by
  refine if_neg ?_
  rintro (h | h | h)
  · omega
  · omega
  · exact hk (List.contains_iff_mem.1 h)

end

/-- With a threshold for BBE alone, which the far end stays below, the check is that of the near-end BBE. -/
theorem tcaCheck_bbe {s : State} {prof thr : Nat} {b : PmBin} (hprof : prof ≠ 0)
    (hthr : s.tcaThr b.day prof = [0, 0, thr, 0]) (hfar : b.far.2.2.1 < thr) (c : Nat) :
    s.tcaCheck c prof b = tcaStep c [0, 0, thr, 0] b (s, b) 2 := by
  have hrange : List.range 8 = [0, 1, 2, 3, 4, 5, 6, 7] := by decide
  have hzero : ∀ k ∈ [0, 1, 3, 4, 5, 7], ∀ r, tcaStep c [0, 0, thr, 0] b r k = r := by
    intro k hk r
    fin_cases hk <;> exact tcaStep_of_zero c rfl
  have hlast : ∀ r, tcaStep c [0, 0, thr, 0] b r 6 = r := fun r => tcaStep_of_lt c hfar
  rw [tcaCheck_eq s c hprof, hthr, hrange]
  simp only [List.foldl, hzero 0 (by decide), hzero 1 (by decide), hzero 3 (by decide), hzero 4 (by decide),
    hzero 5 (by decide), hlast, hzero 7 (by decide)]

/-! ### The commit of a second -/

/-- What a bin shows of a near-end count: its start, and its counts. -/
def nearOf (b : PmBin) : Nat × Nat × Nat × Nat × Nat := (b.start, b.ne)

/-- The same of the bin after a commit of second `x`, of bins of `len` seconds. -/
def nearAfter (x : PmSec) (len : Nat) (b : PmBin) : Nat × Nat × Nat × Nat × Nat :=
  (b.start, if b.start = x.sec - x.sec % len then addEnd b.ne x.neEs x.neSes x.neUn x.neBbe else b.ne)

/-- A commit of second `x` to one more bin. -/
def commitStep (c prof : Nat) (x : PmSec) (len : Nat) (r : State × List PmBin) (b : PmBin) : State × List PmBin :=
  if b.start = x.sec - x.sec % len then
    ((r.1.tcaCheck c prof (b.add x)).1, r.2 ++ [(r.1.tcaCheck c prof (b.add x)).2])
  else (r.1, r.2 ++ [b])

theorem commitBin_eq (s : State) (c prof : Nat) (x : PmSec) (l : List PmBin) (len : Nat) :
    s.commitBin c prof x l len = l.foldl (commitStep c prof x len) (s, []) := rfl

theorem commitStep_near (c prof : Nat) (x : PmSec) (len : Nat) (r : State × List PmBin) (b : PmBin) :
    (commitStep c prof x len r b).2.map nearOf = r.2.map nearOf ++ [nearAfter x len b] := by
  unfold commitStep nearAfter
  split
  · rw [List.map_append, List.map_singleton, tcaCheck_bin nearOf (fun _ _ => rfl)]
    rfl
  · rw [List.map_append, List.map_singleton]
    rfl

theorem foldl_commitStep_near (c prof : Nat) (x : PmSec) (len : Nat) (l : List PmBin) (r : State × List PmBin) :
    (l.foldl (commitStep c prof x len) r).2.map nearOf = r.2.map nearOf ++ l.map (nearAfter x len) := by
  induction l generalizing r with
  | nil => rw [List.foldl_nil, List.map_nil, List.append_nil]
  | cons b l ih => rw [List.foldl_cons, ih, commitStep_near, List.append_assoc, List.map_cons, List.singleton_append]

theorem commitBin_near (s : State) (c prof : Nat) (x : PmSec) (l : List PmBin) (len : Nat) :
    (s.commitBin c prof x l len).2.map nearOf = l.map (nearAfter x len) := by
  rw [commitBin_eq, foldl_commitStep_near]
  rfl

/-- The commit of second `x` of a context, of which `rest` still wait. -/
def committed (s : State) (c prof : Nat) (x : PmSec) (rest : List PmSec) : State :=
  let short := s.commitBin c prof x (s.pmSt c).open15 900
  let long := short.1.commitBin c prof x (s.pmSt c).open24 86400
  long.1.setPmSt c { long.1.pmSt c with held := rest, open15 := short.2, open24 := long.2 }

section
variable {s : State} {p : Entry} {c : Nat}

/-- A loop over the one monitored path. -/
theorem forEach_one_path {u : State} (f : State → Entry → State) (hp : s.pmPaths = [p]) :
    forEach s.newCycle.pmPaths u f = f u p := by
  rw [newCycle_pmPaths, hp]
  rfl

theorem execPmSecondCommit_held {x : PmSec} {rest : List PmSec} (hp : s.pmPaths = [p]) (hc : p.n FRAMING_ctx = c)
    (hheld : (s.pmSt c).held = x :: rest) (hrest : 9 ≤ rest.length) :
    exec .pmSecondCommit s = .next (committed s.newCycle c (p.n FRAMING_tca_prof) x rest) := by
  refine congrArg Host.Outcome.next ((forEach_one_path _ hp).trans ?_)
  subst hc
  dsimp only
  rw [newCycle_pmSt, hheld]
  dsimp only
  rw [if_neg (Nat.not_lt.2 hrest), committed, newCycle_pmSt]

theorem execPmSecondCommit_short (hp : s.pmPaths = [p]) (hheld : (s.pmSt (p.n FRAMING_ctx)).held.length < 10) :
    exec .pmSecondCommit s = .next s.newCycle := by
  refine congrArg Host.Outcome.next ((forEach_one_path _ hp).trans ?_)
  dsimp only
  rw [newCycle_pmSt]
  cases h : (s.pmSt (p.n FRAMING_ctx)).held with
  | nil => rfl
  | cons x rest =>
    rw [h, List.length_cons] at hheld
    exact if_pos (by omega)

end

theorem committed_pmSt (s : State) (c prof : Nat) (x : PmSec) (rest : List PmSec) :
    ((committed s c prof x rest).pmSt c).held = rest ∧
    ((committed s c prof x rest).pmSt c).open15.map nearOf = (s.pmSt c).open15.map (nearAfter x 900) ∧
    ((committed s c prof x rest).pmSt c).open24.map nearOf = (s.pmSt c).open24.map (nearAfter x 86400) := by
  unfold committed
  dsimp only
  rw [pmSt_setPmSt, if_pos rfl]
  exact ⟨rfl, commitBin_near .., commitBin_near ..⟩

/-- A commit to a single bin of 15 minutes, and none of 24 hours. -/
theorem committed_single {s : State} {c : Nat} {b : PmBin} {x : PmSec} (h15 : (s.pmSt c).open15 = [b])
    (h24 : (s.pmSt c).open24 = []) (hb : b.start = x.sec - x.sec % 900) (prof : Nat) (rest : List PmSec) :
    (committed s c prof x rest).rcd = (s.tcaCheck c prof (b.add x)).1.rcd ∧
    ((committed s c prof x rest).pmSt c).open15 = [(s.tcaCheck c prof (b.add x)).2] := by
  have hshort : s.commitBin c prof x (s.pmSt c).open15 900 =
      ((s.tcaCheck c prof (b.add x)).1, [(s.tcaCheck c prof (b.add x)).2]) := by
    rw [h15, commitBin_eq, List.foldl_cons, List.foldl_nil, commitStep, if_pos hb]
    rfl
  unfold committed
  rw [hshort, h24]
  refine ⟨rfl, ?_⟩
  dsimp only
  rw [pmSt_setPmSt, if_pos rfl]

/-! ### The closing of bins -/

/-- The bins of a kind that wait to close. -/
def openBins (day : Bool) (m : PmSt) : List PmBin := if day then m.open24 else m.open15

/-- The seconds of a bin. -/
def binLen (day : Bool) : Nat := if day then 86400 else 900

/-- The bins of a kind whose nominal end lies 10 s back, and the others. -/
def dueBins (now : Nat) (day : Bool) (m : PmSt) : List PmBin :=
  (openBins day m).filter fun b => decide (b.start + binLen day + 10 ≤ now)
def laterBins (now : Nat) (day : Bool) (m : PmSt) : List PmBin :=
  (openBins day m).filter fun b => decide (now < b.start + binLen day + 10)

/-- The performance monitoring of a context whose history is held, after the bins of a kind have closed. -/
def binsClosed (now : Nat) (day : Bool) (m : PmSt) : PmSt :=
  { m with
    hist := trimHist ((dueBins now day m).reverse ++ m.hist)
    open15 := if day then m.open15 else laterBins now day m
    open24 := if day then laterBins now day m else m.open24 }

@[simp] theorem newCycle_sysSec (s : State) : s.newCycle.sysSec = s.sysSec := by
  simp only [State.sysSec, State.get64, newCycle_get]

@[simp] theorem newCycle_historyOk (s : State) (c : Nat) : s.newCycle.historyOk c = s.historyOk c := by
  unfold State.historyOk State.ddrUp State.regionHeld State.region State.ddrUnits
  rw [newCycle_img, newCycle_get, newCycle_get]

/-- The loop that hands the closed bins to HQ_PM leaves the frame block. -/
theorem forEach_pushPm_fr (f : PmBin → List Byte) (l : List PmBin) (t : State) :
    (forEach l t fun t b => t.pushPm (f b)).fr = t.fr :=
  forEach_keeps State.fr (fun t b => (fr_pushPm t (f b)).fr (by decide)) l t

/-- The bins of a kind close, and HQ_PM takes them without touching the frame block. -/
theorem effPmBinClose_fr {s : State} {p : Entry} {c : Nat} (hp : s.pmPaths = [p]) (hc : p.n FRAMING_ctx = c)
    (hkeep : s.historyOk c = true) (day : Bool) :
    (effPmBinClose day s.newCycle).fr = (s.newCycle.setPmSt c (binsClosed s.sysSec day (s.pmSt c))).fr := by
  subst hc
  have hlater : ∀ l : List PmBin, (l.filter fun b => decide (s.sysSec < b.start + binLen day + 10)) =
      l.filter fun b => !decide (b.start + binLen day + 10 ≤ s.sysSec) := by
    intro l
    simp only [← decide_not, Nat.not_le]
  unfold effPmBinClose
  dsimp only
  rw [forEach_one_path _ hp, binsClosed, laterBins, hlater]
  simp only [newCycle_pmSt, newCycle_historyOk, newCycle_sysSec, hkeep, Bool.not_true, Bool.or_false, if_true, List.map_id']
  refine (apply_ite State.fr _ _ _).trans ?_
  rw [forEach_pushPm_fr, ite_self]
  rfl

theorem effPmBinClose_pmSt {s : State} {p : Entry} {c : Nat} (hp : s.pmPaths = [p]) (hc : p.n FRAMING_ctx = c)
    (hkeep : s.historyOk c = true) (day : Bool) :
    (effPmBinClose day s.newCycle).pmSt c = binsClosed s.sysSec day (s.pmSt c) := by
  rw [pmSt_of_fr (effPmBinClose_fr hp hc hkeep day), pmSt_setPmSt, if_pos rfl]

/-! ### The rows of the commit and of the closing -/

/-- The second that has waited longest is committed to the bins that hold it. -/
theorem pmSecondCommit_held {p : Entry} {c : Nat} {x : PmSec} {rest : List PmSec} {s : State} (hp : s.pmPaths = [p])
    (hc : p.n FRAMING_ctx = c) (hheld : (s.pmSt c).held = x :: rest) (hrest : 9 ≤ rest.length) :
    ∃ t, exec .pmSecondCommit s = .next t ∧ (t.pmSt c).held = rest ∧
      (t.pmSt c).open15.map nearOf = (s.pmSt c).open15.map (nearAfter x 900) ∧
      (t.pmSt c).open24.map nearOf = (s.pmSt c).open24.map (nearAfter x 86400) ∧
      Keep s.newCycle t [.fr, .rcd, .irq, .perf, .out] ∧ KeepRegs s.newCycle t [] [EVR_LOSS_drop] := by
  have hexec := execPmSecondCommit_held hp hc hheld hrest
  have hframe : Frame m_effPmSecondCommit s.newCycle _ := frame_of_exec hexec
  obtain ⟨hrest, h15, h24⟩ := committed_pmSt s.newCycle c (p.n FRAMING_tca_prof) x rest
  rw [newCycle_pmSt] at h15 h24
  exact ⟨_, hexec, hrest, h15, h24, frame_keep hframe (by decide), hframe.keepRegs (by decide +kernel)⟩

/-- The bins that are due move to the history. -/
theorem pmBinClose_closes {p : Entry} {c : Nat} (day : Bool) {s : State} (hp : s.pmPaths = [p]) (hc : p.n FRAMING_ctx = c)
    (hkeep : s.historyOk c = true) : ∃ t, exec (.pmBinClose day) s = .next t ∧
      t.pmSt c = binsClosed s.sysSec day (s.pmSt c) ∧ Keep s.newCycle t [.fr, .rcd, .irq, .perf, .out] ∧
      KeepRegs s.newCycle t [] [EVR_LOSS_drop, HQ_LOST_lost] := by
  have hframe := fr_effPmBinClose day s.newCycle
  exact ⟨_, rfl, effPmBinClose_pmSt hp hc hkeep day, frame_keep hframe (by decide), hframe.keepRegs (by decide +kernel)⟩

/-- The record of a near-end BBE that reaches its threshold in a bin of 15 minutes. -/
theorem payloadOf_tca (c start v thr : Nat) : payloadOf [(3, c), (1, 2), (1, 0), (6, start), (6, v), (4, thr)] =
    leBytes 3 c ++ leBytes 1 2 ++ leBytes 1 0 ++ leBytes 6 start ++ leBytes 6 v ++ leBytes 4 thr := by
  simp only [payloadOf, List.flatMap_cons, List.flatMap_nil, List.append_nil, List.append_assoc]

section
variable {p : Entry} {c : Nat} {x : PmSec} {rest : List PmSec} {b : PmBin} {thr : Nat} {s : State}

/-- The commit that brings the near-end BBE of the one open bin to its threshold checks that counter alone. -/
theorem committed_bbe (h15 : (s.pmSt c).open15 = [b]) (h24 : (s.pmSt c).open24 = []) (hb : b.start = x.sec - x.sec % 900)
    (hday : b.day = false) (hprof : p.n FRAMING_tca_prof ≠ 0) (hthr : s.tcaThr false (p.n FRAMING_tca_prof) = [0, 0, thr, 0])
    (hfar : (b.add x).far.2.2.1 < thr) :
    (committed s.newCycle c (p.n FRAMING_tca_prof) x rest).rcd =
      (tcaStep c [0, 0, thr, 0] (b.add x) (s.newCycle, b.add x) 2).1.rcd ∧
    ((committed s.newCycle c (p.n FRAMING_tca_prof) x rest).pmSt c).open15 =
      [(tcaStep c [0, 0, thr, 0] (b.add x) (s.newCycle, b.add x) 2).2] := by
  have hcheck : s.newCycle.tcaCheck c (p.n FRAMING_tca_prof) (b.add x) = _ :=
    tcaCheck_bbe hprof (by rw [newCycle_tcaThr]; exact hday ▸ hthr) hfar c
  rw [← hcheck]
  exact committed_single (by rwa [newCycle_pmSt]) (by rwa [newCycle_pmSt]) hb _ rest

theorem countOf_bbe (hun : x.neUn = false) : countOf (b.add x) 2 = b.ne.2.2.1 + x.neBbe := by
  show (addEnd b.ne x.neEs x.neSes x.neUn x.neBbe).2.2.1 = _
  rw [hun]
  rfl

end

end Sys2Proof.Framing
end

section
/-!
The end of a PM second (R61, R91 to R95, R187): its stages, what the classification of the one monitored path leaves, and that no later
stage changes it.
-/
namespace Sys2Proof.Framing

open Sys2Proof.Machine Sys2Proof.Safety Sys2Proof.Scope Sys2Proof.Architecture
open Sys2Proof.Laws hiding maskOf put

/-! ### What settling leaves of the performance monitoring -/

/-- The performance monitoring of the contexts apart from the defects of the second, which settling notes. -/
def pmCounts (s : State) (c : Nat) : PmSt := { s.pmSt c with defSec := false, bdiSec := false }

theorem pmCounts_of_pm {s t : State} (h : t.fr.pm = s.fr.pm) : pmCounts t = pmCounts s := by
  unfold pmCounts State.pmSt
  rw [h]

theorem pmCounts_of_fr {s t : State} (h : t.fr = s.fr) : pmCounts t = pmCounts s := pmCounts_of_pm (congrArg FrameBlock.pm h)

theorem pmCounts_setPmSt (s : State) (c : Nat) (a b : Bool) :
    pmCounts (s.setPmSt c { s.pmSt c with defSec := a, bdiSec := b }) = pmCounts s := by
  funext d
  unfold pmCounts
  rw [pmSt_setPmSt]
  split
  · next e => rw [e]
  · rfl

theorem startSearch_pm (s : State) (c n : Nat) : (s.startSearch c n).fr.pm = s.fr.pm := by
  unfold State.startSearch
  dsimp only
  split <;> simp [State.setAlignSt]

theorem holdAlign_pm (s : State) (c : Nat) (e : Entry) : (s.holdAlign c e).fr.pm = s.fr.pm := by
  unfold State.holdAlign
  split
  · rfl
  · lift_lets
    intro bad
    clear_value bad
    split
    · exact startSearch_pm ..
    · split
      · exact startSearch_pm ..
      · rfl

theorem settleCtx_pmCounts (s : State) (e : Entry) : pmCounts (s.settleCtx e) = pmCounts s := by
  unfold State.settleCtx
  dsimp only
  split
  · exact pmCounts_of_pm (holdAlign_pm ..)
  · next p _ =>
    have hshown : ∀ (t : State) (c old new q : Nat) (forced : Bool), pmCounts (((t.holdSuppressed c p new).showFramer c p e new
        forced).reportDefects c (p.n FRAMING_layer) q old new) = pmCounts t := by
      intro t c old new q forced
      refine (pmCounts_of_fr ((fr_reportDefects ..).fr (by decide))).trans ?_
      refine (pmCounts_of_fr ((fr_showFramer ..).fr (by decide))).trans ?_
      rfl
    split
    · exact (hshown ..).trans (pmCounts_of_pm (holdAlign_pm ..))
    · refine (pmCounts_setPmSt ..).trans ?_
      exact (hshown ..).trans (pmCounts_of_pm (holdAlign_pm ..))

theorem settle_pmCounts (s : State) : pmCounts s.settle = pmCounts s := by
  have hctx (t : State) (e : Entry) : pmCounts ((t.settleCtx e).markFailed e) = pmCounts t :=
    (pmCounts_of_fr ((fr_markFailed ..).fr (by decide))).trans (settleCtx_pmCounts t e)
  have hdefects : pmCounts s.settleDefects = pmCounts s :=
    forEach_keeps pmCounts (fun t k => forEach_keeps pmCounts hctx _ t) kindOrder s
  calc pmCounts s.settle = pmCounts s.settleDefects.showMerges := pmCounts_of_fr ((fr_settleGroups _).fr (by decide))
    _ = pmCounts s.settleDefects := pmCounts_of_fr ((fr_showMerges _).fr (by decide))
    _ = pmCounts s := hdefects

end Sys2Proof.Framing
end

section
/-!
The classification of the one monitored path at the end of a PM second (R92, R93).
-/
namespace Sys2Proof.Framing

open Sys2Proof.Machine Sys2Proof.Safety Sys2Proof.Scope Sys2Proof.Architecture
open Sys2Proof.Laws hiding maskOf put

/-! ### The seconds that wait -/

/-- A list of `n` seconds that ends with second `x`, apart from the availability of either end. -/
structure EndsWith (l : List PmSec) (n : Nat) (x : PmSec) : Prop where
  length : l.length = n
  last : ∃ y, l.getLast? = some y ∧ y.sec = x.sec ∧ y.neSes = x.neSes ∧ y.neEs = x.neEs ∧ y.neBbe = x.neBbe

theorem endsWith_append (l : List PmSec) {x y : PmSec} (hsec : y.sec = x.sec) (hses : y.neSes = x.neSes) (hes : y.neEs = x.neEs)
    (hbbe : y.neBbe = x.neBbe) : EndsWith (l ++ [y]) (l.length + 1) x :=
  ⟨List.length_append, y, List.getLast?_concat, hsec, hses, hes, hbbe⟩

theorem length_markLast10 (l : List PmSec) (f : PmSec → PmSec) : (markLast10 l f).length = l.length := by
  unfold markLast10
  rw [List.length_append, List.length_map, List.length_take, List.length_drop]
  omega

theorem getLast?_markLast10 (l : List PmSec) (f : PmSec → PmSec) : (markLast10 l f).getLast? = l.getLast?.map f := by
  unfold markLast10
  cases h : l.drop (l.length - 10) with
  | nil =>
    have hl : l = [] := by
      have := List.drop_eq_nil_iff.1 h
      exact List.eq_nil_of_length_eq_zero (by omega)
    rw [hl]
    rfl
  | cons y t =>
    have hlast : l.getLast? = (y :: t).getLast? := by
      rw [← h, List.getLast?_drop, if_neg]
      intro hle
      have := congrArg List.length h
      rw [List.length_drop, List.length_cons] at this
      omega
    rw [List.getLast?_append_of_ne_nil _ (by simp), List.getLast?_map, hlast]

/-- Seconds whose availability may change end with the same second. -/
theorem EndsWith.marked {l : List PmSec} {n : Nat} {x : PmSec} (h : EndsWith l n x) (b : Bool) {f : PmSec → PmSec}
    (hf : ∀ y, (f y).sec = y.sec ∧ (f y).neSes = y.neSes ∧ (f y).neEs = y.neEs ∧ (f y).neBbe = y.neBbe) :
    EndsWith (if b then markLast10 l f else l) n x := by
  cases b with
  | false => exact h
  | true =>
    obtain ⟨hlen, y, hy, hsec, hses, hes, hbbe⟩ := h
    obtain ⟨fsec, fses, fes, fbbe⟩ := hf y
    refine ⟨(length_markLast10 l f).trans hlen, f y, ?_, fsec.trans hsec, fses.trans hses, fes.trans hes, fbbe.trans hbbe⟩
    rw [if_pos rfl, getLast?_markLast10, hy]
    rfl

/-! ### The classification -/

/-- The words of FRM_PM and FRM_EB_CUR after the classification of a second. -/
def secondWords (w : State) (c nr : Nat) (nu : Bool) (fr : Nat) (fu : Bool) (db dg : Nat) : State :=
  ((((((w.set FRM_PM_ne_run nr c).setB FRM_PM_ne_unavail nu c).set FRM_PM_fe_run fr c).setB FRM_PM_fe_unavail fu c).set
    FRM_PM_deg_bad db c).set FRM_PM_deg_good dg c).set FRM_EB_CUR_eb 0 c

/-- The second of a context is SES: a defect was present, or 15 % of its blocks were errored (R92). -/
def secondSes (m : PmSt) : Bool := m.defSec || decide (15 * m.blocks ≤ m.eb * 100)

/-- The near end of a second of a context, without its availability. -/
def nearSecond (sec : Nat) (m : PmSt) : PmSec :=
  ⟨sec, secondSes m || decide (1 ≤ m.eb), secondSes m, if secondSes m then 0 else m.eb, false, false, false, 0, false, false⟩

/-- The performance monitoring of a context after the classification of its second. -/
structure Classified (sec : Nat) (m n : PmSt) : Prop where
  held : EndsWith n.held (m.held.length + 1) (nearSecond sec m)
  blocks : n.blocks = 0
  eb : n.eb = 0

theorem classify_eq {s : State} (sec : Nat) (p : Entry) (hddr : s.ddrUp = true) :
    ∃ (w : State) (fr : Nat) (fu : Bool) (db dg : Nat),
      Classified sec (s.pmSt (p.n FRAMING_ctx)) (w.pmSt (p.n FRAMING_ctx)) ∧
      s.classify sec p = secondWords w (p.n FRAMING_ctx)
        (availStep (s.get FRM_PM_ne_run (p.n FRAMING_ctx)) (s.on FRM_PM_ne_unavail (p.n FRAMING_ctx))
          (secondSes (s.pmSt (p.n FRAMING_ctx)))).1
        (availStep (s.get FRM_PM_ne_run (p.n FRAMING_ctx)) (s.on FRM_PM_ne_unavail (p.n FRAMING_ctx))
          (secondSes (s.pmSt (p.n FRAMING_ctx)))).2.1 fr fu db dg := by
  have hup : ∀ (d : DefSt) (m : PmSt) (c : Nat), ((s.setDefSt c d).setPmSt c m).ddrUp = true := fun _ _ _ => hddr
  unfold State.classify secondSes
  dsimp only
  generalize availStep (s.get FRM_PM_ne_run (p.n FRAMING_ctx)) _ _ = near
  generalize availStep (s.get FRM_PM_fe_run (p.n FRAMING_ctx)) _ _ = far
  generalize @ite _ (_ = true) (instDecidableEqBool _ _) far (0, false, false) = far
  obtain ⟨nr, nu, nch⟩ := near
  obtain ⟨fr, fu, fch⟩ := far
  refine ⟨_, fr, fu, _, _, ?_, rfl⟩
  rw [if_pos (hup ..), pmSt_setPmSt, if_pos rfl]
  refine ⟨?_, rfl, rfl⟩
  dsimp only
  rw [if_pos (show (s.setDefSt _ _).ddrUp = true from hddr)]
  refine EndsWith.marked ?_ fch fun _ => ⟨rfl, rfl, rfl, rfl⟩
  refine EndsWith.marked ?_ nch fun _ => ⟨rfl, rfl, rfl, rfl⟩
  exact endsWith_append _ rfl rfl rfl rfl

end Sys2Proof.Framing
end

section
/-!
The end of a PM second as a whole: the words of the near end, the ratios of the lanes, and the pins.
-/
namespace Sys2Proof.Framing

open Sys2Proof.Machine Sys2Proof.Safety Sys2Proof.Scope Sys2Proof.Architecture
open Sys2Proof.Laws hiding maskOf put

/-! ### The words of a classified context -/

theorem secondWords_pmSt (w : State) (c nr : Nat) (nu : Bool) (fr : Nat) (fu : Bool) (db dg d : Nat) :
    (secondWords w c nr nu fr fu db dg).pmSt d = w.pmSt d :=
  pmSt_of_fr (by simp only [secondWords, State.set_fr, State.setB_fr]) d

theorem secondWords_gets {c : Nat} (hc : c < 262144) (w : State) (nr : Nat) (nu : Bool) (fr : Nat) (fu : Bool) (db dg : Nat) :
    (secondWords w c nr nu fr fu db dg).get FRM_EB_CUR_eb c = 0 ∧
    (secondWords w c nr nu fr fu db dg).get FRM_PM_ne_run c = nr % 2 ^ 4 ∧
    (secondWords w c nr nu fr fu db dg).on FRM_PM_ne_unavail c = nu := by
  unfold secondWords State.on State.setB
  refine ⟨?_, ?_, ?_⟩
  · rw [get_set_context hc (by decide)]
    rfl
  · rw [get_set_sibling (by decide), get_set_bits (by decide), get_set_bits (by decide), get_set_bits (by decide),
      get_set_bits (by decide), get_set_bits (by decide), get_set_context hc (by decide)]
    rfl
  · rw [get_set_sibling (by decide), get_set_bits (by decide), get_set_bits (by decide), get_set_bits (by decide),
      get_set_bits (by decide), get_set_context hc (by decide)]
    cases nu <;> rfl

/-- Ten seconds of the other kind begin or end an unavailable period (R93). -/
theorem availStep_tenth {un ses : Bool} (h : ses ≠ un) : availStep 9 un ses = (0, ses, true) := by
  obtain rfl : ses = !un := Bool.eq_not_of_ne h
  unfold availStep
  rw [if_pos (by simp), if_pos rfl]

theorem availStep_other {un ses : Bool} (h : ses ≠ un) {run : Nat} (hrun : run < 9) :
    availStep run un ses = (run + 1, un, false) := by
  unfold availStep
  rw [if_pos (by simpa using h), if_neg (by omega)]

theorem availStep_same (run : Nat) (un : Bool) : availStep run un un = (0, un, false) := by
  unfold availStep
  rw [if_neg (by simp)]

/-! ### The lanes -/

/-- The symbol error ratio of a lane's second, as LN_SER holds it (R61). -/
def serOf (l : LaneSt) : Nat :=
  if l.secCw = 0 then 0 else min (l.secSym * 10 ^ 12 / (544 * l.secCw)) (top LN_SER_ser)

theorem laneSt_setLaneSt (s : State) (n m : Nat) (v : LaneSt) :
    (s.setLaneSt n v).laneSt m = if m = n then v else s.laneSt m := tget_tset ..

theorem laneSt_of_ln {s t : State} (h : t.ln = s.ln) (n : Nat) : t.laneSt n = s.laneSt n := by
  unfold State.laneSt
  rw [h]

theorem serOf_le (l : LaneSt) : serOf l ≤ top LN_SER_ser := by
  unfold serOf
  split
  · exact Nat.zero_le _
  · exact Nat.min_le_right ..

/-- A lane with its ratio shown, its state `v`, and where it is new the sticky bit of a high ratio. -/
def laneShown (s : State) (n : Nat) (v : LaneSt) (high : Bool) : State :=
  if high then ((s.set LN_SER_ser (serOf (s.laneSt n)) n).setLaneSt n v).lnStick LN_STICKY_hi_ser n
  else (s.set LN_SER_ser (serOf (s.laneSt n)) n).setLaneSt n v

theorem laneSecond_eq (s : State) (n : Nat) : ∃ v high, s.laneSecond n = laneShown s n v high := by
  have hser : (if (s.laneSt n).secCw = 0 then 0 else satN 32 ((s.laneSt n).secSym * 10 ^ 12 / (544 * (s.laneSt n).secCw))) =
      serOf (s.laneSt n) := by
    unfold serOf
    rw [satN_eq_min]
    rfl
  unfold State.laneSecond
  dsimp only
  rw [hser]
  exact ⟨_, _, rfl⟩

theorem laneSecond_ser {s : State} {n : Nat} (hn : n < 144) : (s.laneSecond n).get LN_SER_ser n = serOf (s.laneSt n) := by
  obtain ⟨v, high, h⟩ := laneSecond_eq s n
  rw [h, laneShown, get_ite, State.lnStick, State.setB, get_set_sibling (by decide), ite_self, setLaneSt_get,
    get_set_lane hn (by decide)]
  exact Nat.mod_eq_of_lt (Nat.lt_succ_of_le (serOf_le _))

/-- The second of a lane leaves every other lane. -/
theorem laneSecond_other {s : State} {n m : Nat} (h : m ≠ n) :
    (s.laneSecond n).get LN_SER_ser m = s.get LN_SER_ser m ∧ (s.laneSecond n).laneSt m = s.laneSt m := by
  obtain ⟨v, high, he⟩ := laneSecond_eq s n
  have hkey : LN_SER_ser.key m ≠ LN_STICKY_hi_ser.key n := by
    unfold Fld.key
    simp only [LN_SER_ser, LN_STICKY_hi_ser]
    omega
  rw [he, laneShown]
  cases high with
  | false =>
    refine ⟨get_set_instance (f := LN_SER_ser) (by decide) s _ h, ?_⟩
    exact (laneSt_setLaneSt ..).trans ((if_neg h).trans (laneSt_of_ln (State.set_ln ..) m))
  | true =>
    refine ⟨?_, (laneSt_of_ln (State.setB_ln ..) m).trans ?_⟩
    · exact (State.get_set_apart _ LN_STICKY_hi_ser LN_SER_ser _ n m (by decide) (.inl hkey)).trans
        (get_set_instance (f := LN_SER_ser) (by decide) s _ h)
    · exact (laneSt_setLaneSt ..).trans ((if_neg h).trans (laneSt_of_ln (State.set_ln ..) m))

theorem forEach_laneSecond_other {l : List Nat} {m : Nat} (h : m ∉ l) (s : State) :
    (forEach l s State.laneSecond).get LN_SER_ser m = s.get LN_SER_ser m := by
  induction l generalizing s with
  | nil => rfl
  | cons n l ih =>
    rw [List.mem_cons, not_or] at h
    exact (ih h.2 _).trans (laneSecond_other h.1).1

/-- Each lane of a list without repeats shows the ratio of its second. -/
theorem forEach_laneSecond_ser {l : List Nat} (hl : l.Nodup) {m : Nat} (hm : m ∈ l) (h144 : m < 144) (s : State) :
    (forEach l s State.laneSecond).get LN_SER_ser m = serOf (s.laneSt m) := by
  induction l generalizing s with
  | nil => exact absurd hm List.not_mem_nil
  | cons n l ih =>
    obtain ⟨hnl, hl⟩ := List.nodup_cons.1 hl
    rcases List.mem_cons.1 hm with rfl | hm
    · exact (forEach_laneSecond_other hnl _).trans (laneSecond_ser h144)
    · have hne : m ≠ n := fun e => hnl (e ▸ hm)
      exact (ih hl hm _).trans (by rw [(laneSecond_other hne).2])

/-! ### The stages -/

/-- The second ends for the performance counters and for the lanes. -/
def lanesClosed (s : State) : State :=
  forEach allLanes (s.count fun n => s.get PC_SEL_kind n == 5 && s.get PC_SEL_arg n == 3) State.laneSecond

/-- The self-tests of the framers (R253), and the MOD_INT_N pins unmasked (R64). -/
def framersTested (bad : List Nat) (s : State) : State :=
  { s.framerTest bad with ln := { (s.framerTest bad).ln with modEdges := [], modMasked := [] } }

/-- The FORCE_N levels count unmasked again (R187). -/
def pinsShown (s : State) : State := (s.set QS_FORCE_masked 0).set QS_FORCE_level s.qs.raw

/-- The late blocks of the mate lanes are reported. -/
def latesTold (s : State) : State :=
  forEach (s.mate.lanes.filter fun p => p.2.late != 0) s fun s p => s.report kMATE_LATE [(1, p.1), (4, p.2.late)]

/-- What is counted by the second starts again. -/
def countsCleared (s : State) : State :=
  { s with
    qs := { s.qs with edges := [] }
    mate := { s.mate with lanes := tmap (fun _ => {}) s.mate.lanes fun m => { m with late := 0 } }
    rcd := { s.rcd with hq := tmap (fun _ => {}) s.rcd.hq fun h => { h with lostRec := false } } }

/-- The wait-to-restore timers count down (R186). -/
def timersShown (s : State) : State :=
  forEach (s.entries PROTECTION_grp) s fun s e =>
    if s.on QS_GRP_ST_wtr (e.n PROTECTION_grp) then
      s.set QS_GRP_ST_wtr_left (s.get QS_GRP_ST_wtr_left (e.n PROTECTION_grp) - 1) (e.n PROTECTION_grp)
    else s

/-- The stages after the classification, up to the settling. -/
def secondShown (bad : List Nat) (s : State) : State := timersShown (countsCleared (latesTold (pinsShown (framersTested bad s))))

theorem effPmSecondEnd_eq (bad : List Nat) (s : State) : effPmSecondEnd bad s =
    (secondShown bad (forEach (lanesClosed s).pmPaths (lanesClosed s) fun t p => t.classify (s.sysSec - 1) p)).settle := rfl

/-- What each stage may change. -/
def m_lanesClosed : Nat := m_count ||| m_laneSecond

theorem lanesClosed_frame (s : State) : Frame m_lanesClosed s (lanesClosed s) :=
  Frame.forEach _ ((fr_count ..).mono (by decide)) fun _ _ h => h.step (fr_laneSecond ..) (by decide)

def m_framersTested : Nat := m_framerTest ||| 2 ^ 3

theorem framersTested_frame (bad : List Nat) (s : State) : Frame m_framersTested s (framersTested bad s) := by
  have h : Frame m_framersTested s (s.framerTest bad) := (fr_framerTest ..).mono (by decide)
  unfold framersTested
  rw [mk_put]
  apply Frame.upd h <;> first | exact .inl rfl | exact .inr (by decide)

/-- QS_FORCE is at place 39 of the register map. -/
def m_pinsShown : Nat := 2 ^ 71

theorem pinsShown_frame (s : State) : Frame m_pinsShown s (pinsShown s) :=
  ((Frame.refl _ s).setS (by decide +kernel)).setS (by decide +kernel)

/-- What the stages after the pins may change: records, the timers of QS_GRP_ST, and what is counted by the second. -/
def m_timersShown : Nat := m_evalGroup ||| m_report ||| 2 ^ 6

theorem timersShown_frame (s : State) : Frame m_timersShown s (timersShown (countsCleared (latesTold s))) := by
  have hlate : Frame m_timersShown s (latesTold s) :=
    Frame.forEach _ (Frame.refl ..) fun _ _ h => h.step (fr_report ..) (by decide)
  have hcleared : Frame m_timersShown s (countsCleared (latesTold s)) := by
    unfold countsCleared
    rw [mk_put]
    apply Frame.upd hlate <;> first | exact .inl rfl | exact .inr (by decide)
  refine Frame.forEach _ hcleared fun t e h => ?_
  split
  · exact h.setS (by decide +kernel)
  · exact h

def m_secondShown : Nat := m_framersTested ||| m_pinsShown ||| m_timersShown

theorem secondShown_frame (bad : List Nat) (s : State) : Frame m_secondShown s (secondShown bad s) :=
  (((framersTested_frame bad s).mono (by decide)).step (pinsShown_frame _) (by decide)).step (timersShown_frame _) (by decide)

theorem framersTested_pm (bad : List Nat) (s : State) : (framersTested bad s).fr.pm = s.fr.pm :=
  forEach_keeps (fun t : State => t.fr.pm) (fun _ _ => congrArg FrameBlock.pm ((fr_report ..).fr (by decide))) _ _

theorem secondShown_pmCounts (bad : List Nat) (s : State) : pmCounts (secondShown bad s) = pmCounts s := by
  calc pmCounts (secondShown bad s) = pmCounts (pinsShown (framersTested bad s)) :=
        pmCounts_of_fr ((timersShown_frame _).fr (by decide))
    _ = pmCounts (framersTested bad s) := pmCounts_of_fr ((pinsShown_frame _).fr (by decide))
    _ = pmCounts s := pmCounts_of_pm (framersTested_pm bad s)

/-- The pins of QS_FORCE after the second. -/
theorem secondShown_pins (bad : List Nat) (s : State) :
    (secondShown bad s).get QS_FORCE_level = s.qs.raw % 2 ^ 4 ∧ (secondShown bad s).get QS_FORCE_masked = 0 := by
  have hraw : (framersTested bad s).qs.raw = s.qs.raw := congrArg QsBlock.raw ((framersTested_frame bad s).qs (by decide))
  unfold secondShown
  rw [(timersShown_frame _).get (by decide +kernel), (timersShown_frame _).get (by decide +kernel), pinsShown]
  constructor
  · rw [State.get_set_same _ _ _ _ (by decide) (by decide), hraw]
    rfl
  · rw [get_set_bits (by decide), State.get_set_same _ _ _ _ (by decide) (by decide)]
    rfl

/-! ### The row -/

/-- The second of the one monitored path, classified after the lanes. -/
def pathClassified (s : State) (p : Entry) : State := (lanesClosed s).classify (s.sysSec - 1) p

/-- The end of a second before what follows from it is settled. -/
def secondEnded (bad : List Nat) (s : State) (p : Entry) : State := secondShown bad (pathClassified s p)

section
variable {bad : List Nat} {p : Entry} {s : State}

theorem execPmSecondEnd_one (hp : s.pmPaths = [p]) :
    exec (.pmSecondEnd bad) s = .next (secondEnded bad s.newCycle p).settle := by
  have hpaths : (lanesClosed s.newCycle).pmPaths = [p] := by
    rw [pmPaths_of_img ((lanesClosed_frame _).img (by decide)), newCycle_pmPaths, hp]
  refine congrArg Host.Outcome.next ((effPmSecondEnd_eq bad s.newCycle).trans ?_)
  rw [hpaths]
  rfl

/-- The words of a path are those that its classification gave. -/
theorem secondEnded_settle_get (f : Fld) (hf : Laws.apart m_secondShown f = true ∧ Laws.apart m_settle f = true) (n : Nat) :
    (secondEnded bad s p).settle.get f n = (pathClassified s p).get f n :=
  ((fr_settle _).get hf.2 n).trans ((secondShown_frame ..).get hf.1 n)

theorem secondEnded_settle_pmCounts : pmCounts (secondEnded bad s p).settle = pmCounts (pathClassified s p) :=
  (settle_pmCounts _).trans (secondShown_pmCounts ..)

/-- The classification of a path reads what the lanes leave as it was. -/
theorem pathClassified_eq (hddr : s.ddrUp = true) {c : Nat} (hc : p.n FRAMING_ctx = c) :
    ∃ (w : State) (fr : Nat) (fu : Bool) (db dg : Nat), Classified (s.sysSec - 1) (s.pmSt c) (w.pmSt c) ∧
      pathClassified s p = secondWords w c
        (availStep (s.get FRM_PM_ne_run c) (s.on FRM_PM_ne_unavail c) (secondSes (s.pmSt c))).1
        (availStep (s.get FRM_PM_ne_run c) (s.on FRM_PM_ne_unavail c) (secondSes (s.pmSt c))).2.1 fr fu db dg := by
  subst hc
  have hlanes := lanesClosed_frame s
  have hup : (lanesClosed s).ddrUp = true := by
    unfold State.ddrUp
    rw [hlanes.get (by decide +kernel)]
    exact hddr
  obtain ⟨w, fr, fu, db, dg, hw, he⟩ := classify_eq (s.sysSec - 1) p hup
  rw [pmSt_of_fr (hlanes.fr (by decide)), hlanes.get (by decide +kernel), hlanes.on (by decide +kernel)] at he
  rw [pmSt_of_fr (hlanes.fr (by decide))] at hw
  exact ⟨w, fr, fu, db, dg, hw, he⟩

/-- What the near end of a path shows once its second has ended. -/
structure NearShown (s t : State) (c : Nat) : Prop where
  counts : Classified (s.sysSec - 1) (s.pmSt c) (t.pmSt c)
  eb : t.get FRM_EB_CUR_eb c = 0
  run : t.get FRM_PM_ne_run c = (availStep (s.get FRM_PM_ne_run c) (s.on FRM_PM_ne_unavail c) (secondSes (s.pmSt c))).1 % 2 ^ 4
  unavail : t.on FRM_PM_ne_unavail c =
    (availStep (s.get FRM_PM_ne_run c) (s.on FRM_PM_ne_unavail c) (secondSes (s.pmSt c))).2.1

/-- What is classified does not rest on the defects of the next second. -/
theorem Classified.of_counts {sec : Nat} {m n k : PmSt} (h : Classified sec m n)
    (hk : { k with defSec := false, bdiSec := false } = ({ n with defSec := false, bdiSec := false } : PmSt)) :
    Classified sec m k := by
  obtain ⟨held, blocks, eb⟩ := h
  obtain ⟨hblocks, heb, -, -, -, hheld, -⟩ := PmSt.mk.inj hk
  exact ⟨hheld ▸ held, hblocks.trans blocks, heb.trans eb⟩

theorem secondEnded_nearShown {c : Nat} (hc : p.n FRAMING_ctx = c) (hlt : c < 262144) (hddr : s.ddrUp = true) :
    NearShown s (secondEnded bad s p).settle c := by
  obtain ⟨w, fr, fu, db, dg, hw, he⟩ := pathClassified_eq hddr hc
  have hcounts := congrFun (secondEnded_settle_pmCounts (bad := bad) (s := s) (p := p)) c
  obtain ⟨heb, hrun, hun⟩ := secondWords_gets hlt w
    (availStep (s.get FRM_PM_ne_run c) (s.on FRM_PM_ne_unavail c) (secondSes (s.pmSt c))).1
    (availStep (s.get FRM_PM_ne_run c) (s.on FRM_PM_ne_unavail c) (secondSes (s.pmSt c))).2.1 fr fu db dg
  rw [← he] at heb hrun hun
  refine ⟨hw.of_counts (hcounts.trans ?_), ?_, ?_, ?_⟩
  · unfold pmCounts
    rw [he, secondWords_pmSt]
  · rw [secondEnded_settle_get _ (by decide +kernel), heb]
  · rw [secondEnded_settle_get _ (by decide +kernel), hrun]
  · rw [State.on, secondEnded_settle_get _ (by decide +kernel)]
    exact hun

theorem secondEnded_ser {l : Nat} (hl : l < 144) : (secondEnded bad s p).settle.get LN_SER_ser l = serOf (s.laneSt l) := by
  rw [secondEnded_settle_get _ (by decide +kernel), pathClassified, (fr_classify ..).get (by decide +kernel), lanesClosed,
    forEach_laneSecond_ser (l := allLanes) List.nodup_range (List.mem_range.2 hl) hl, laneSt_of_ln ((fr_count ..).ln (by decide))]

theorem secondEnded_pins : (secondEnded bad s p).settle.get QS_FORCE_level = s.qs.raw % 2 ^ 4 ∧
    (secondEnded bad s p).settle.get QS_FORCE_masked = 0 := by
  have hqs : (pathClassified s p).qs = s.qs :=
    ((fr_classify ..).qs (by decide)).trans ((lanesClosed_frame s).qs (by decide))
  obtain ⟨hlevel, hmasked⟩ := secondShown_pins bad (pathClassified s p)
  rw [hqs] at hlevel
  exact ⟨((fr_settle _).get (by decide +kernel) 0).trans hlevel, ((fr_settle _).get (by decide +kernel) 0).trans hmasked⟩

end

/-! ### The whole of R91 to R96 -/

theorem newCycle_ddrUp (s : State) : s.newCycle.ddrUp = s.ddrUp := by
  unfold State.ddrUp
  rw [newCycle_get]

theorem newCycle_laneSt (s : State) (n : Nat) : s.newCycle.laneSt n = s.laneSt n :=
  laneSt_of_ln ((fr_newCycle s).ln (by decide)) n

theorem NearShown.of_newCycle {s t : State} {c : Nat} (h : NearShown s.newCycle t c) : NearShown s t c := by
  obtain ⟨counts, eb, run, unavail⟩ := h
  simp only [newCycle_sysSec, newCycle_pmSt, newCycle_get, newCycle_on] at counts run unavail
  exact ⟨counts, eb, run, unavail⟩

section
variable {p : Entry} {c : Nat} {s : State}

theorem secondSes_eq (m : PmSt) : secondSes m = (m.defSec || decide (15 * m.blocks ≤ 100 * m.eb)) := by
  rw [secondSes, Nat.mul_comm m.eb]

/-- The run of seconds of the other kind, and the unavailable period it begins or ends (R93). -/
structure RunShown (s t : State) (c : Nat) (ses : Bool) : Prop where
  tenth : ses ≠ s.on FRM_PM_ne_unavail c → s.get FRM_PM_ne_run c = 9 →
    t.on FRM_PM_ne_unavail c = ses ∧ t.get FRM_PM_ne_run c = 0
  other : ses ≠ s.on FRM_PM_ne_unavail c → s.get FRM_PM_ne_run c < 9 →
    t.on FRM_PM_ne_unavail c = s.on FRM_PM_ne_unavail c ∧ t.get FRM_PM_ne_run c = s.get FRM_PM_ne_run c + 1
  same : ses = s.on FRM_PM_ne_unavail c →
    t.on FRM_PM_ne_unavail c = s.on FRM_PM_ne_unavail c ∧ t.get FRM_PM_ne_run c = 0

theorem NearShown.runShown {t : State} (h : NearShown s t c) : RunShown s t c (secondSes (s.pmSt c)) := by
  obtain ⟨-, -, hrun, hun⟩ := h
  refine ⟨fun hne h9 => ?_, fun hne hlt => ?_, fun heq => ?_⟩
  · rw [h9, availStep_tenth hne] at hrun hun
    exact ⟨hun, hrun⟩
  · rw [availStep_other hne hlt] at hrun hun
    exact ⟨hun, hrun.trans (Nat.mod_eq_of_lt (by dsimp only; omega))⟩
  · rw [heq, availStep_same] at hrun hun
    exact ⟨hun, hrun⟩

/-- The end of a second in the terms of this file. -/
theorem pmSecondEnd_closes (bad : List Nat) (hp : s.pmPaths = [p]) (hc : p.n FRAMING_ctx = c) (hlt : c < 262144)
    (hddr : s.ddrUp = true) : ∃ u : State, exec (.pmSecondEnd bad) s = .next u.settle ∧
      NearShown s u.settle c ∧ (∀ l < 144, u.settle.get LN_SER_ser l = serOf (s.laneSt l)) ∧
      u.settle.get QS_FORCE_level = s.qs.raw % 2 ^ 4 ∧ u.settle.get QS_FORCE_masked = 0 ∧
      Frame m_effPmSecondEnd s.newCycle u.settle := by
  have hexec := execPmSecondEnd_one (bad := bad) hp
  obtain ⟨hlevel, hmasked⟩ := secondEnded_pins (bad := bad) (p := p) (s := s.newCycle)
  rw [(fr_newCycle s).qs (by decide)] at hlevel
  exact ⟨_, hexec, (secondEnded_nearShown hc hlt (by rw [newCycle_ddrUp]; exact hddr)).of_newCycle,
    fun l hl => (secondEnded_ser hl).trans (by rw [newCycle_laneSt]), hlevel, hmasked, frame_of_exec hexec⟩

variable {x : PmSec} {rest : List PmSec} {b : PmBin} {thr : Nat}

/-- The near-end BBE of the one open bin reaches its threshold: one record, and no other for that bin (R96). -/
theorem committed_tca (h15 : (s.pmSt c).open15 = [b]) (h24 : (s.pmSt c).open24 = []) (hb : b.start = x.sec - x.sec % 900)
    (hday : b.day = false) (hprof : p.n FRAMING_tca_prof ≠ 0) (hthr : s.tcaThr false (p.n FRAMING_tca_prof) = [0, 0, thr, 0])
    (hun : x.neUn = false) (hpos : 0 < thr) (hle : thr ≤ b.ne.2.2.1 + x.neBbe) (hfar : (b.add x).far.2.2.1 < thr) {t : State}
    (ht : t = committed s.newCycle c (p.n FRAMING_tca_prof) x rest) :
    (2 ∉ b.tca → Recorded s t kTCA (leBytes 3 c ++ leBytes 1 2 ++ leBytes 1 0 ++ leBytes 6 b.start ++
        leBytes 6 (b.ne.2.2.1 + x.neBbe) ++ leBytes 4 thr) ∧
      (t.pmSt c).open15.map (fun y => y.tca) = [b.tca ++ [2]]) ∧
    (2 ∈ b.tca → t.rcd = s.rcd ∧ (t.pmSt c).open15.map (fun y => y.tca) = [b.tca]) := by
  obtain ⟨hrcd, hopen⟩ := committed_bbe (rest := rest) h15 h24 hb hday hprof hthr hfar
  rw [← ht] at hrcd hopen
  constructor
  · intro hnew
    have hcount : thrOf [0, 0, thr, 0] 2 ≤ countOf (b.add x) 2 := by
      rw [countOf_bbe hun]
      exact hle
    rw [tcaStep_raises (k := 2) (thr := [0, 0, thr, 0]) c hpos hcount hnew] at hrcd hopen
    have hbin : b2n (b.add x).day = 0 := congrArg b2n hday
    rw [hbin, countOf_bbe hun] at hrcd
    refine ⟨fun hsev hroom => ?_, ?_⟩
    · have hoffers := report_recorded s kTCA [(3, c), (1, 2), (1, 0), (6, b.start), (6, b.ne.2.2.1 + x.neBbe), (4, thr)]
        hsev hroom
      rw [payloadOf_tca] at hoffers
      exact (congrArg Recorder.offers hrcd).trans hoffers
    · rw [hopen]
      rfl
  · intro hold
    rw [tcaStep_of_mem c hold] at hrcd hopen
    exact ⟨hrcd.trans (newCycle_rcd s), by rw [hopen]; rfl⟩

end

/-- Settles O45: the end of a second by its stages, the commit and the closing by what each bin takes. -/
theorem pmSecondsAndBins : Obligations.PmSecondsAndBins := by
  unfold Obligations.PmSecondsAndBins
  refine ⟨fun bad p c ses s hp hc hlt hddr hses => ?_, fun p c x rest s hp hc hheld hrest => ?_,
    fun p s hp hheld => execPmSecondCommit_short hp hheld, fun p c day s hp hc hkeep => ?_,
    fun p c x rest b thr s hp hc hheld hrest h15 h24 hb hday hprof hthr hun hpos hle hfar => ?_⟩
  · obtain ⟨u, hexec, hnear, hser, hlevel, hmasked, hframe⟩ := pmSecondEnd_closes bad hp hc hlt hddr
    obtain ⟨⟨hlength, hlast⟩, hblocks, heb⟩ := hnear.counts
    obtain ⟨htenth, hother, hsame⟩ := hnear.runShown
    rw [← secondSes_eq] at hses
    subst hses
    exact ⟨u, u.settle, hexec, rfl, hlast, hlength, hblocks, heb, hnear.eb, htenth, hother, hsame, hser, hlevel, hmasked,
      frame_keep hframe (by decide), hframe.keepRegs (by decide +kernel)⟩
  · exact pmSecondCommit_held hp hc hheld hrest
  · obtain ⟨t, hexec, hpm, hkeepParts, hkeepRegs⟩ := pmBinClose_closes day hp hc hkeep
    refine ⟨t, hexec, fun hd => ?_, fun hd => ?_, ?_, hkeepParts, hkeepRegs⟩
    · subst hd
      rw [hpm]
      exact ⟨rfl, rfl, rfl⟩
    · subst hd
      rw [hpm]
      exact ⟨rfl, rfl, rfl⟩
    · rw [hpm]
      rfl
  · exact ⟨_, execPmSecondCommit_held hp hc hheld hrest,
      committed_tca h15 h24 hb hday hprof hthr hun hpos hle hfar rfl⟩

end Sys2Proof.Framing
end

section
/-!
The FlexE calendars of a transmit group (R111): a switch after CA, and a request that ends without one.
-/
namespace Sys2Proof.Mapping

open Sys2Proof.Machine Sys2Proof.Safety Sys2Proof.Scope Sys2Proof.Architecture Sys2Proof.Framing
open Sys2Proof.Laws hiding maskOf put

/-! ### Calendars and flags of a context -/

theorem calSt_of_fr {s t : State} (h : t.fr = s.fr) (c : Nat) : t.calSt c = s.calSt c := by
  unfold State.calSt
  rw [h]

@[simp] theorem newCycle_calSt (s : State) (c : Nat) : s.newCycle.calSt c = s.calSt c := calSt_of_fr (newCycle_fr s) c

theorem calSt_setCalSt (s : State) (c d : Nat) (v : CalSt) :
    (s.setCalSt c v).calSt d = if d = c then v else s.calSt d := tget_tset ..

/-- A flag that is set belongs to a register that exists. -/
theorem lt_count_of_on {s : State} {f : Fld} {n : Nat} (h : s.on f n = true) : n < f.count := by
  by_contra hn
  rw [State.on, State.get_eq, if_neg hn] at h
  exact absurd h (by decide)

theorem keepBits_trans {s t u : State} {k : Nat} {fs : List Fld} (h : KeepBits s t k fs) (g : KeepBits t u k fs) :
    KeepBits s u k fs :=
  fun i hi => (g i hi).trans (h i hi)

theorem keepBits_mono {s t : State} {k : Nat} {fs gs : List Fld} (h : KeepBits s t k fs) (hs : ∀ f ∈ fs, f ∈ gs) :
    KeepBits s t k gs :=
  fun i hi => h i fun f hf => hi f (hs f hf)

/-! ### The switch -/

/-- A transmit group whose calendar has switched to `k`. -/
def calendarSwitched (s : State) (c k : Nat) : State :=
  ((s.setCalSt c { s.calSt c with txC := k, crNew := none, caGot := false }).set MAP_STATE_cal_tx k c).setB
    MAP_STATE_cr_pend false c

theorem effFlexeCalSwitch_of_ca {s : State} {c k : Nat} (hca : (s.calSt c).caGot = true) (hcr : (s.calSt c).crNew = some k) :
    effFlexeCalSwitch c s = calendarSwitched s c k := by
  unfold effFlexeCalSwitch
  dsimp only
  rw [hca, hcr]
  rfl

theorem calendarSwitched_calSt (s : State) (c k d : Nat) : (calendarSwitched s c k).calSt d =
    if d = c then { s.calSt c with txC := k, crNew := none, caGot := false } else s.calSt d := by
  unfold calendarSwitched
  rw [calSt_of_fr (State.setB_fr ..), calSt_of_fr (State.set_fr ..), calSt_setCalSt]

theorem calendarSwitched_shows (s : State) {c : Nat} (hc : c < 262144) (k : Nat) :
    (calendarSwitched s c k).get MAP_STATE_cal_tx c = k % 2 ∧ (calendarSwitched s c k).on MAP_STATE_cr_pend c = false := by
  unfold calendarSwitched
  constructor
  · rw [State.setB, get_set_bits (by decide), get_set_context hc (by decide)]
    rfl
  · exact State.on_setB_same _ _ _ _ hc (by decide) rfl

theorem calendarSwitched_keepBits (s : State) (c k : Nat) :
    KeepBits s (calendarSwitched s c k) (at_ MAP_STATE_cal_tx c) [MAP_STATE_cal_tx, MAP_STATE_cr_pend] := by
  have hcal : KeepBits s _ (at_ MAP_STATE_cal_tx c) [MAP_STATE_cal_tx] := keepBits_set
    (s.setCalSt c { s.calSt c with txC := k, crNew := none, caGot := false }) MAP_STATE_cal_tx k c (by decide)
  have hpend : KeepBits _ (calendarSwitched s c k) (at_ MAP_STATE_cr_pend c) [MAP_STATE_cr_pend] := keepBits_set _ _ _ _ (by decide)
  exact keepBits_trans (keepBits_mono hcal (by simp)) (keepBits_mono hpend (by simp))

theorem calendarSwitched_keepRegs (s : State) (c k : Nat) :
    KeepRegs s (calendarSwitched s c k) [at_ MAP_STATE_cal_tx c] [] := by
  unfold calendarSwitched State.setB
  refine keepRegs_after_set (keepRegs_after_set ?_ MAP_STATE_cal_tx (by decide) List.mem_cons_self) MAP_STATE_cal_tx (by decide)
    List.mem_cons_self
  exact keepRegs_of_regs rfl _ _

/-- FLEXE_CAL_SWITCH after CA. -/
theorem execFlexeCalSwitch_switches {s : State} {c k : Nat} (hc : c < 262144) (hca : (s.calSt c).caGot = true)
    (hcr : (s.calSt c).crNew = some k) : ∃ t, exec (.flexeCalSwitch c) s = .next t ∧
      t.calSt c = { s.calSt c with txC := k, crNew := none, caGot := false } ∧ (∀ d, d ≠ c → t.calSt d = s.calSt d) ∧
      t.get MAP_STATE_cal_tx c = k % 2 ∧ t.on MAP_STATE_cr_pend c = false ∧
      KeepBits s t (at_ MAP_STATE_cal_tx c) [MAP_STATE_cal_tx, MAP_STATE_cr_pend] ∧
      Keep s.newCycle t [.fr] ∧ KeepRegs s.newCycle t [at_ MAP_STATE_cal_tx c] [] := by
  have heff : effFlexeCalSwitch c s.newCycle = calendarSwitched s.newCycle c k :=
    effFlexeCalSwitch_of_ca (by rwa [newCycle_calSt]) (by rwa [newCycle_calSt])
  have hframe := fr_effFlexeCalSwitch c s.newCycle
  rw [heff] at hframe
  obtain ⟨htx, hpend⟩ := calendarSwitched_shows s.newCycle hc k
  refine ⟨_, congrArg Host.Outcome.next heff, ?_, fun d hd => ?_, htx, hpend, fun i hi => ?_, frame_keep hframe (by decide),
    calendarSwitched_keepRegs _ c k⟩
  · rw [calendarSwitched_calSt, if_pos rfl, newCycle_calSt]
  · rw [calendarSwitched_calSt, if_neg hd, newCycle_calSt]
  · rw [calendarSwitched_keepBits _ c k i hi, newCycle_reg]

/-! ### The end of a request without CA -/

/-- A transmit group whose request has ended, before its record. -/
def requestEnded (s : State) (c : Nat) : State :=
  (s.setCalSt c { s.calSt c with crNew := none }).setB MAP_STATE_cr_pend false c

theorem effFlexeCaTimeout_of_pending {s : State} {c : Nat} (hpend : s.on MAP_STATE_cr_pend c = true)
    (hca : (s.calSt c).caGot = false) :
    effFlexeCaTimeout c s = (requestEnded s c).report kFLEXE_CAL_TIMEOUT [(3, c)] := by
  unfold effFlexeCaTimeout
  rw [if_pos (by simp [hpend, hca])]
  rfl

theorem requestEnded_calSt (s : State) (c d : Nat) : (requestEnded s c).calSt d =
    if d = c then { s.calSt c with crNew := none } else s.calSt d := by
  unfold requestEnded
  rw [calSt_of_fr (State.setB_fr ..), calSt_setCalSt]

/-- FLEXE_CA_TIMEOUT without CA. -/
theorem execFlexeCaTimeout_ends {s : State} {c : Nat} (hpend : s.on MAP_STATE_cr_pend c = true)
    (hca : (s.calSt c).caGot = false) : ∃ t, exec (.flexeCaTimeout c) s = .next t ∧
      t.calSt c = { s.calSt c with crNew := none } ∧ (∀ d, d ≠ c → t.calSt d = s.calSt d) ∧
      t.on MAP_STATE_cr_pend c = false ∧ t.get MAP_STATE_cal_tx c = s.get MAP_STATE_cal_tx c ∧
      Keep s.newCycle t [.fr, .rcd, .irq, .perf, .out] ∧ KeepRegs s.newCycle t [] [EVR_LOSS_drop, MAP_STATE_cr_pend] := by
  have heff : effFlexeCaTimeout c s.newCycle = (requestEnded s.newCycle c).report kFLEXE_CAL_TIMEOUT [(3, c)] :=
    effFlexeCaTimeout_of_pending (by rwa [newCycle_on]) (by rwa [newCycle_calSt])
  have hframe := fr_effFlexeCaTimeout c s.newCycle
  have htold := fr_report (requestEnded s.newCycle c) kFLEXE_CAL_TIMEOUT [(3, c)]
  rw [heff] at hframe
  refine ⟨_, congrArg Host.Outcome.next heff, ?_, fun d hd => ?_, ?_, ?_, frame_keep hframe (by decide),
    hframe.keepRegs (by decide +kernel)⟩
  · rw [calSt_of_fr (htold.fr (by decide)), requestEnded_calSt, if_pos rfl, newCycle_calSt]
  · rw [calSt_of_fr (htold.fr (by decide)), requestEnded_calSt, if_neg hd, newCycle_calSt]
  · rw [htold.on (by decide +kernel)]
    exact State.on_setB_same _ _ _ _ (lt_count_of_on hpend) (by decide) rfl
  · rw [htold.get (by decide +kernel), requestEnded, State.setB, get_set_bits (by decide)]
    exact newCycle_get ..

end Sys2Proof.Mapping
end

section
/-!
The frame boundary of an egress mapper (R77, R88 to R90): what the mapping of the payload leaves of the egress contexts, and
the context that begins its next frame; with the statement about FlexE calendars and egress.
-/
namespace Sys2Proof.Mapping

open Sys2Proof.Machine Sys2Proof.Safety Sys2Proof.Scope Sys2Proof.Architecture Sys2Proof.Framing
open Sys2Proof.Laws hiding maskOf put

/-! ### The egress contexts while a payload is mapped -/

@[simp] theorem setMapSt_egress (s : State) (c : Nat) (v : MapSt) : (s.setMapSt c v).fr.egress = s.fr.egress := rfl

@[simp] theorem feed_egress (s : State) (c n v : Nat) : (s.feed c n v).fr.egress = s.fr.egress := rfl

@[simp] theorem pull_egress (s : State) (c n : Nat) : (s.pull c n).2.fr.egress = s.fr.egress := by
  unfold State.pull
  dsimp only
  split <;> rfl

@[simp] theorem adaptOut_egress (s : State) (c : Nat) : (s.adaptOut c).2.fr.egress = s.fr.egress := by
  unfold State.adaptOut
  dsimp only
  split <;> split <;> simp

theorem fillImp_egress (s : State) (c n : Nat) : (s.fillImp c n).fr.egress = s.fr.egress := by
  induction n generalizing s with
  | zero => rfl
  | succ n ih =>
    unfold State.fillImp
    split
    · rfl
    · exact (ih _).trans ((feed_egress ..).trans (adaptOut_egress ..))

@[simp] theorem showCm_egress (s : State) (e : Entry) (cm : Nat) : (s.showCm e cm).fr.egress = s.fr.egress := by
  rw [(fr_showCm s e cm).fr (by decide)]

theorem mapClient_egress (s : State) (e : Entry) : (s.mapClient e).2.fr.egress = s.fr.egress := by
  unfold State.mapClient
  dsimp only
  rw [showCm_egress, setMapSt_egress]
  refine forEach_keeps (fun a : List Nat × State => a.2.fr.egress) (fun a j => ?_) (List.range _) ([], s)
  split
  · exact pull_egress ..
  · rfl

theorem mapPayload_egress (s : State) (c : Nat) (e : Entry) : (s.mapPayload c e).2.fr.egress = s.fr.egress := by
  unfold State.mapPayload
  refine forEach_keeps (fun a : List (Nat × Nat × Nat × List Nat) × State => a.2.fr.egress) (fun a x => ?_) _ ([], s)
  have hfill : (if serverKind a.2.img x = 3 then a.2.fillImp (x.n MAPPING_ctx) 1847 else a.2).fr.egress = a.2.fr.egress := by
    split
    · exact fillImp_egress ..
    · rfl
  dsimp only
  split
  · exact (mapClient_egress ..).trans hfill
  · exact (feed_egress ..).trans ((mapClient_egress ..).trans hfill)

theorem sendFrame_egress (s : State) (c : Nat) (e : Entry) (aps : Option (List Nat)) :
    (s.sendFrame c e aps).fr.egress = s.fr.egress := by
  have hpayload : (if s.sources c e then s.mapPayload c e else ([], s)).2.fr.egress = s.fr.egress := by
    split
    · exact mapPayload_egress ..
    · rfl
  unfold State.sendFrame
  dsimp only
  split
  · rfl
  · split <;> exact hpayload

/-! ### The context at a frame boundary -/

theorem egSt_of_egress {s t : State} (h : t.fr.egress = s.fr.egress) (c : Nat) : t.egSt c = s.egSt c := by
  unfold State.egSt
  rw [h]

@[simp] theorem newCycle_egSt (s : State) (c : Nat) : s.newCycle.egSt c = s.egSt c :=
  egSt_of_egress (congrArg FrameBlock.egress (newCycle_fr s)) c

theorem egSt_setEgSt (s : State) (c d : Nat) (v : EgressSt) :
    (s.setEgSt c v).egSt d = if d = c then v else s.egSt d := tget_tset ..

@[simp] theorem newCycle_sinkOf (s : State) (c : Nat) : s.newCycle.sinkOf c = s.sinkOf c := by
  unfold State.sinkOf State.entries
  rw [newCycle_img]

/-- The replacement that follows from the blocks of a frame (R88, R89). -/
def replacementOf (g : EgressSt) : Nat :=
  if g.fail = true ∧ ¬ (g.good = true ∧ g.last = 0) then 1
  else if g.ueq = true ∧ ¬ (g.good = true ∧ g.last = 0) then 2 else if g.good = true then 0 else g.repl

/-- The BDI and the BEI that a context sends: those of the sink whose peer it is (R90). -/
def backwardOf (s : State) (c : Nat) : Bool × Nat :=
  match s.sinkOf c with
  | some p => (s.on FRM_DEF_tsf (p.n FRAMING_ctx), tget (fun _ => 0) s.fr.bei (p.n FRAMING_ctx))
  | none => (false, 0)

theorem backwardOf_fst (s : State) (c : Nat) : (backwardOf s c).1 =
    (match s.sinkOf c with | some p => s.on FRM_DEF_tsf (p.n FRAMING_ctx) | none => false) := by
  unfold backwardOf
  cases s.sinkOf c <;> rfl

theorem newCycle_backwardOf (s : State) (c : Nat) : backwardOf s.newCycle c = backwardOf s c := by
  unfold backwardOf
  rw [newCycle_sinkOf, newCycle_fr]
  cases s.sinkOf c with
  | none => rfl
  | some p => dsimp only; rw [newCycle_on]

/-- A context whose blocks of the last frame have been judged. -/
def judged (s : State) (c : Nat) : EgressSt :=
  { s.egSt c with fail := false, ueq := false, good := false, repl := replacementOf (s.egSt c), bdi := (backwardOf s c).1
                  bei := (backwardOf s c).2 }

/-- A context that begins its next frame. -/
def nextFrameOf (s : State) (c : Nat) : EgressSt :=
  { judged s c with mfas := ((s.egSt c).mfas + 1) % 256, omfi := ((s.egSt c).omfi + 1) % 20 }

/-- The APS bytes are shown without touching the egress contexts. -/
theorem apsShown_egress (due : Bool) (groups : List Entry) (s : State) (f : State → Entry → State)
    (hf : ∀ s q, (f s q).fr = s.fr) : (if due then forEach groups s f else s).fr.egress = s.fr.egress := by
  cases due with
  | false => rfl
  | true => exact forEach_keeps (fun t : State => t.fr.egress) (fun t q => congrArg FrameBlock.egress (hf t q)) groups s

theorem effEgressFrameBoundary_egSt {s : State} {c : Nat} {e : Entry} (he : s.mapE c = some e) (hdir : e.n MAPPING_dir = 1)
    (d : Nat) : (effEgressFrameBoundary c s).egSt d = if d = c then nextFrameOf s c else s.egSt d := by
  have hrepl : (if (s.egSt c).fail && !((s.egSt c).good && (s.egSt c).last == 0) then 1
      else if (s.egSt c).ueq && !((s.egSt c).good && (s.egSt c).last == 0) then 2
      else if (s.egSt c).good then 0 else (s.egSt c).repl) = replacementOf (s.egSt c) := by
    unfold replacementOf
    simp only [Bool.and_eq_true, Bool.not_eq_true', Bool.and_eq_false_iff, beq_eq_false_iff_ne, not_and_or, Bool.not_eq_true, ne_eq]
  have hsent : ∀ (u : State) (aps : Option (List Nat)), u.fr.egress = (s.setEgSt c (judged s c)).fr.egress → ∀ d,
      (u.sendFrame c e aps).egSt d = if d = c then judged s c else s.egSt d := by
    intro u aps hu d
    rw [egSt_of_egress (sendFrame_egress ..), egSt_of_egress hu, egSt_setEgSt]
  unfold effEgressFrameBoundary
  rw [he]
  dsimp only
  rw [if_neg (by simp [hdir]), hrepl, egSt_setEgSt, hsent _ _ ?_ c, hsent _ _ ?_ d, if_pos rfl]
  · split <;> rfl
  all_goals exact apsShown_egress _ _ _ _ fun s q => by simp

/-! ### The whole of R88 to R90 and R111 -/

/-- Settles O28: the switch, the request that ends, and the context that begins its next frame. -/
theorem flexeCalendarsAndEgress : Obligations.FlexeCalendarsAndEgress := by
  unfold Obligations.FlexeCalendarsAndEgress
  refine ⟨fun c s k hc hca hcr => execFlexeCalSwitch_switches hc hca hcr,
    fun c s hpend hca => execFlexeCaTimeout_ends hpend hca, fun c s e he hdir => ?_⟩
  have hframe := fr_effEgressFrameBoundary c s.newCycle
  have heg : ∀ d, (effEgressFrameBoundary c s.newCycle).egSt d = if d = c then nextFrameOf s.newCycle c else s.newCycle.egSt d :=
    effEgressFrameBoundary_egSt (by rwa [newCycle_mapE]) hdir
  have hc := heg c
  rw [if_pos rfl] at hc
  refine ⟨_, rfl, ?_, ?_, ?_, ?_, ?_, ?_, fun d hd => ?_, frame_keep hframe (by decide), hframe.keepRegs (by decide +kernel)⟩
  · exact congrArg EgressSt.fail hc
  · exact congrArg EgressSt.ueq hc
  · exact congrArg EgressSt.good hc
  · exact (congrArg EgressSt.repl hc).trans (congrArg replacementOf (newCycle_egSt s c))
  · refine (congrArg EgressSt.bdi hc).trans ((congrArg Prod.fst (newCycle_backwardOf s c)).trans (backwardOf_fst s c))
  · exact (congrArg EgressSt.mfas hc).trans (congrArg (fun g : EgressSt => (g.mfas + 1) % 256) (newCycle_egSt s c))
  · rw [heg, if_neg hd, newCycle_egSt]

end Sys2Proof.Mapping
end

section
/-!
The bytes of a twig frame's head (Table 4-8), and a table whose values have all taken a step.
-/
namespace Sys2Proof.Mapping

open Sys2Proof.Machine Sys2Proof.Safety

/-! ### Bytes of a number that bytes spell -/

theorem leBytes_leNat (a b : List Byte) : leBytes a.length (leNat (a ++ b)) = a := by
  induction a with
  | nil => rfl
  | cons x a ih =>
    have hx := x.isLt
    have hhead : BitVec.ofNat 8 (x.toNat + 256 * leNat (a ++ b)) = x := by
      apply BitVec.eq_of_toNat_eq
      rw [BitVec.toNat_ofNat]
      omega
    have htail : (x.toNat + 256 * leNat (a ++ b)) / 256 = leNat (a ++ b) := by omega
    rw [List.cons_append, List.length_cons, leNat, leBytes, hhead, htail, ih]

theorem leNat_append_div (a b : List Byte) : leNat (a ++ b) / 2 ^ (8 * a.length) = leNat b := by
  induction a with
  | nil => exact Nat.div_one _
  | cons x a ih =>
    have hx := x.isLt
    have hstep : (x.toNat + 256 * leNat (a ++ b)) / 2 ^ 8 = leNat (a ++ b) := by omega
    rw [List.cons_append, List.length_cons, leNat, Nat.mul_succ, Nat.add_comm (8 * _), pow_add, ← Nat.div_div_eq_div_mul, hstep,
      ih]

/-- The bytes `b` of a number, which begin at byte `i`. -/
theorem bytesAt_leNat {a b : List Byte} {i n : Nat} (hi : a.length = i) (hn : b.length = n) (c : List Byte) :
    bytesAt (leNat (a ++ (b ++ c))) i n = b := by
  subst hi hn
  rw [bytesAt, leNat_append_div, leBytes_leNat]

theorem bytesAt_one (frame i : Nat) : bytesAt frame i 1 = [byteAt frame i] := rfl

theorem length_beBytes (n v : Nat) : (beBytes n v).length = n := by
  have hlength : ∀ n v, (leBytes n v).length = n := by
    intro n
    induction n with
    | zero => exact fun _ => rfl
    | succ n ih => exact fun v => congrArg Nat.succ (ih _)
  rw [beBytes, List.length_reverse, hlength]

/-! ### A table whose values take a step -/

theorem tget_tmap {α : Type} [DecidableEq α] {d : Nat → α} {f : α → α} {t : List (Nat × α)} {k : Nat} (hd : f (d k) = d k)
    (h : f (tget d t k) ≠ d k) : tget d (tmap d t f) k = f (tget d t k) := by
  induction t with
  | nil => exact hd.symm
  | cons p t ih =>
    obtain ⟨q, v⟩ := p
    unfold tmap at ih ⊢
    by_cases hk : k = q
    · subst hk
      rw [tget, if_pos rfl] at h ⊢
      rw [List.map_cons, List.filter_cons_of_pos (by simpa using h), tget, if_pos rfl]
    · rw [tget, if_neg hk] at h ⊢
      rw [List.map_cons, List.filter_cons]
      split
      · rw [tget, if_neg hk, ih h]
      · exact ih h

end Sys2Proof.Mapping
end

section
/-!
The output twig hosts at a twig frame boundary (R121): each host in use begins its next frame, and no other changes.
-/
namespace Sys2Proof.Mapping

open Sys2Proof.Machine Sys2Proof.Safety Sys2Proof.Scope Sys2Proof.Architecture Sys2Proof.Framing
open Sys2Proof.Laws hiding maskOf put

/-! ### The twig sub-switch -/

@[simp] theorem newCycle_tw (s : State) : s.newCycle.tw = s.tw := (fr_newCycle s).tw (by decide)

theorem hostSt_of_tw {s t : State} (h : t.tw = s.tw) (n : Nat) : t.hostSt n = s.hostSt n := by
  unfold State.hostSt
  rw [h]

theorem twigOut_of_tw {s t : State} (h : t.tw = s.tw) (n : Nat) : t.twigOut n = s.twigOut n := by
  unfold State.twigOut
  rw [h]

theorem twigOut_setTwigOut (s : State) (h n : Nat) (v : TwigOut) :
    (s.setTwigOut h v).twigOut n = if n = h then v else s.twigOut n := tget_tset ..

@[simp] theorem newCycle_hosts (s : State) : s.newCycle.hosts = s.hosts := by
  unfold State.hosts
  rw [newCycle_img]

/-! ### The assembly of a frame -/

theorem assemble_recv (s : State) (h b : Nat) : (s.assemble h b).tw.recv = s.tw.recv := by
  unfold State.assemble
  dsimp only
  split <;> rfl

theorem assemble_other (s : State) {h n : Nat} (hn : n ≠ h) (b : Nat) : (s.assemble h b).twigOut n = s.twigOut n := by
  unfold State.assemble
  dsimp only
  split
  · rfl
  · rw [twigOut_setTwigOut, if_neg hn]

theorem assemble_fnum (s : State) (h b : Nat) : ((s.assemble h b).twigOut h).fnum = (s.twigOut h).fnum := by
  unfold State.assemble
  dsimp only
  split
  · rfl
  · rw [twigOut_setTwigOut, if_pos rfl]

/-- A host whose frame has all its blocks. -/
@[irreducible] def assembled (s : State) (h : Nat) : State := forEach (List.range 125) s fun s b => s.assemble h b

theorem assembled_keeps {β : Type} (p : State → β) {h : Nat} (hp : ∀ s b, p (s.assemble h b) = p s) (s : State) :
    p (assembled s h) = p s := by
  unfold assembled
  exact forEach_keeps p hp _ s

/-- The check-value units that take the units of a frame (R247). -/
def unitsTaken (s : State) (h frame : Nat) : State :=
  forEach (s.cvusOf 4) s fun s u =>
    if s.get CVU_SEL_slot u = h then s.cvuFeed u (leBytes 16 (unitOf frame (s.get CVU_SEL_twig u))) else s

theorem unitsTaken_frame (s : State) (h frame : Nat) : Frame m_cvuFeed s (unitsTaken s h frame) :=
  Frame.forEach _ (Frame.refl ..) fun _ _ ht => Frame.ite (ht.step (fr_cvuFeed ..) (by decide)) ht

/-! ### A frame that begins -/

/-- An output host begins frame `fnum` under a label: the alignment word, the label and fnum (Table 4-8). -/
structure BeginsFrame (o : TwigOut) (label n : Nat) : Prop where
  fnum : o.fnum = n
  head : ∃ rest, o.head = leNat (twigWord ++ (beBytes 8 label ++ ([BitVec.ofNat 8 n] ++ rest)))

theorem BeginsFrame.bytes {o : TwigOut} {label n : Nat} (h : BeginsFrame o label n) : bytesAt o.head 0 8 = twigWord ∧
    bytesAt o.head 8 8 = beBytes 8 label ∧ byteAt o.head 16 = BitVec.ofNat 8 n := by
  obtain ⟨rest, hhead⟩ := h.head
  have hlabel := length_beBytes 8 label
  have hfront : (twigWord ++ beBytes 8 label).length = 16 := by rw [List.length_append, hlabel]; rfl
  rw [hhead]
  have hword := bytesAt_leNat (a := []) (b := twigWord) rfl rfl (beBytes 8 label ++ ([BitVec.ofNat 8 n] ++ rest))
  refine ⟨hword, bytesAt_leNat (a := twigWord) rfl hlabel _, ?_⟩
  have hbyte := bytesAt_leNat (b := [BitVec.ofNat 8 n]) (n := 1) hfront rfl rest
  rw [bytesAt_one, List.append_assoc] at hbyte
  exact List.head_eq_of_cons_eq hbyte

theorem frameHead_fst (label n : Nat) (hist : List Nat) (codes alive : List (Nat × Nat)) :
    ∃ rest, (frameHead label n hist codes alive).1 = leNat (twigWord ++ (beBytes 8 label ++ ([BitVec.ofNat 8 n] ++ rest))) := by
  have hassoc : ∀ (l : List Byte) (x : Byte) (crc area : List Byte),
      twigWord ++ (l ++ [x, 0]) ++ crc ++ area = twigWord ++ (l ++ ([x] ++ (0 :: (crc ++ area)))) := by simp
  exact ⟨_, congrArg leNat (hassoc ..)⟩

/-- The label that an output host sends (R121). -/
def labelSent (l : List Section) (h : Nat) : Nat :=
  match hostCtx l h with | some e => e.n MAPPING_host_label_tx | none => 0

theorem labelSent_of_hostCtx {l : List Section} {h : Nat} {e : Entry} (he : hostCtx l h = some e) :
    labelSent l h = e.n MAPPING_host_label_tx := by
  unfold labelSent
  rw [he]

/-- What the boundary of one output host changes of the twig sub-switch: the host itself, and the time channel messages. -/
structure Rolled (s t : State) (h : Nat) : Prop where
  begins : BeginsFrame (t.twigOut h) (labelSent s.img h) (((s.twigOut h).fnum + 1) % 256)
  other : ∀ n, n ≠ h → t.twigOut n = s.twigOut n
  recv : t.tw.recv = s.tw.recv
  img : t.img = s.img

/-- The frame that an output host has sent: its head and its blocks. -/
def frameSent (o : TwigOut) : Nat := o.blocks.foldr (fun p a => a + p.2 * 2 ^ (512 * p.1)) o.head

/-- An output host as it begins its next frame under a label. -/
def nextOut (label : Nat) (o : TwigOut) : TwigOut :=
  let hist := frameSent o :: o.hist.take 3
  let n := (o.fnum + 1) % 256
  let head := frameHead label n hist o.codes o.alive
  { fnum := n, head := head.1, hist := hist, alive := head.2, last := o.codes }

theorem nextOut_begins (label : Nat) (o : TwigOut) : BeginsFrame (nextOut label o) label ((o.fnum + 1) % 256) :=
  ⟨rfl, frameHead_fst ..⟩

/-- The state after the frame of a host has been taken by the check-value units. -/
def frameEnded (s : State) (h : Nat) : State := unitsTaken (assembled s h) h (frameSent ((assembled s h).twigOut h))

theorem frameEnded_frame (s : State) (h : Nat) : Frame m_cvuFeed (assembled s h) (frameEnded s h) := unitsTaken_frame ..

/-- Beside the host that begins its next frame, only the time channel messages change. -/
theorem rollHost_eq (s : State) (h : Nat) : ∃ tch tchNext, s.rollHost h =
    let t := (frameEnded s h).setTwigOut h (nextOut (labelSent (frameEnded s h).img h) ((assembled s h).twigOut h))
    { t with tw := { t.tw with tch := tch, tchNext := tchNext } } := by
  unfold State.rollHost frameEnded assembled
  generalize (forEach (List.range 125) s fun s b => s.assemble h b) = u
  dsimp only
  split
  · exact ⟨_, _, rfl⟩
  · exact ⟨_, _, rfl⟩

theorem rollHost_rolled (s : State) (h : Nat) : Rolled s (s.rollHost h) h := by
  obtain ⟨tch, tchNext, heq⟩ := rollHost_eq s h
  have hframe := frameEnded_frame s h
  have himg : (frameEnded s h).img = s.img :=
    (hframe.img (by decide)).trans (assembled_keeps State.img (fun t b => (fr_assemble t h b).img (by decide)) s)
  have hout : ∀ n, (s.rollHost h).twigOut n =
      if n = h then nextOut (labelSent s.img h) ((assembled s h).twigOut h) else (assembled s h).twigOut n := by
    intro n
    rw [heq, himg, ← twigOut_of_tw (hframe.tw (by decide)) n]
    exact twigOut_setTwigOut ..
  refine ⟨?_, fun n hn => ?_, ?_, (fr_rollHost s h).img (by decide)⟩
  · rw [hout, if_pos rfl, ← assembled_keeps (fun t : State => (t.twigOut h).fnum) (fun t b => assemble_fnum t h b) s]
    exact nextOut_begins ..
  · rw [hout, if_neg hn]
    exact assembled_keeps (fun t : State => t.twigOut n) (fun t b => assemble_other t hn b) s
  · rw [heq]
    exact (congrArg TwigBlock.recv (hframe.tw (by decide))).trans
      (assembled_keeps (fun t : State => t.tw.recv) (fun t b => assemble_recv t h b) s)

end Sys2Proof.Mapping
end

section
/-!
The twig frame boundary as a whole (R30, R121): every output host in use, and the unit stores of the received hosts.
-/
namespace Sys2Proof.Mapping

open Sys2Proof.Machine Sys2Proof.Safety Sys2Proof.Scope Sys2Proof.Architecture Sys2Proof.Framing
open Sys2Proof.Laws hiding maskOf put

/-! ### Every output host -/

theorem forEach_rollHost_img (l : List Nat) (s : State) : (forEach l s State.rollHost).img = s.img :=
  forEach_keeps State.img (fun t h => (rollHost_rolled t h).img) l s

theorem forEach_rollHost_recv (l : List Nat) (s : State) : (forEach l s State.rollHost).tw.recv = s.tw.recv :=
  forEach_keeps (fun t : State => t.tw.recv) (fun t h => (rollHost_rolled t h).recv) l s

theorem forEach_cons {α σ : Type} (a : α) (l : List α) (s : σ) (f : σ → α → σ) :
    forEach (a :: l) s f = forEach l (f s a) f := rfl

theorem forEach_rollHost_other {l : List Nat} {n : Nat} (hn : n ∉ l) (s : State) :
    (forEach l s State.rollHost).twigOut n = s.twigOut n := by
  induction l generalizing s with
  | nil => rfl
  | cons h l ih =>
    obtain ⟨hne, hnl⟩ := not_or.1 (List.mem_cons.not.1 hn)
    rw [forEach_cons, ih hnl, (rollHost_rolled s h).other n hne]

/-- Each host of a list without repeats begins its next frame. -/
theorem forEach_rollHost_begins {l : List Nat} (hl : l.Nodup) {n : Nat} (hn : n ∈ l) (s : State) :
    BeginsFrame ((forEach l s State.rollHost).twigOut n) (labelSent s.img n) (((s.twigOut n).fnum + 1) % 256) := by
  induction l generalizing s with
  | nil => exact absurd hn List.not_mem_nil
  | cons h l ih =>
    obtain ⟨hhl, hl⟩ := List.nodup_cons.1 hl
    have hrolled := rollHost_rolled s h
    rw [forEach_cons]
    rcases List.mem_cons.1 hn with rfl | hn
    · rw [forEach_rollHost_other hhl]
      exact hrolled.begins
    · have hne : n ≠ h := fun e => hhl (e ▸ hn)
      have hlater := ih hl hn (s.rollHost h)
      rwa [hrolled.other n hne, hrolled.img] at hlater

/-! ### The boundary -/

/-- The hosts have begun their frames, and what is measured and dealt at a boundary has followed. -/
def framesBegun (s : State) : State := (forEach s.hosts s State.rollHost).measureTwigs.wrapFrame.mergeFrame

theorem effTwigFrameBoundary_eq (s : State) : effTwigFrameBoundary s =
    { framesBegun s with tw := { (framesBegun s).tw with recv := tmap (fun _ => {}) (framesBegun s).tw.recv TwigHost.boundary } } :=
  rfl

theorem framesBegun_tw (s : State) : (framesBegun s).tw = (forEach s.hosts s State.rollHost).tw := by
  unfold framesBegun
  rw [(fr_mergeFrame _).tw (by decide), (fr_wrapFrame _).tw (by decide), (fr_measureTwigs _).tw (by decide)]

theorem effTwigFrameBoundary_twigOut (s : State) (n : Nat) :
    (effTwigFrameBoundary s).twigOut n = (forEach s.hosts s State.rollHost).twigOut n := by
  rw [← twigOut_of_tw (framesBegun_tw s), effTwigFrameBoundary_eq]
  rfl

/-- A received host that is not held by a slip takes the frame that has waited longest. -/
theorem boundary_of_wait {th : TwigHost} (hslow : th.slow ≠ 2) {f : Nat} {rest : List Nat} (hwait : th.wait = f :: rest) :
    th.boundary = { th with wait := rest, frames := f :: th.frames.take 1, slow := 0 } := by
  unfold TwigHost.boundary
  rw [if_neg hslow, hwait]

theorem effTwigFrameBoundary_hostSt {s : State} {h : Nat} (hslow : (s.hostSt h).slow ≠ 2) {f : Nat} {rest : List Nat}
    (hwait : (s.hostSt h).wait = f :: rest) : (effTwigFrameBoundary s).hostSt h =
      { s.hostSt h with wait := rest, frames := f :: (s.hostSt h).frames.take 1, slow := 0 } := by
  have hrecv : (framesBegun s).tw.recv = s.tw.recv := (congrArg TwigBlock.recv (framesBegun_tw s)).trans (forEach_rollHost_recv ..)
  have hboundary := boundary_of_wait hslow hwait
  have hnew : TwigHost.boundary (tget (fun _ => {}) s.tw.recv h) ≠ ({} : TwigHost) := by
    intro hempty
    have hframes := congrArg TwigHost.frames (hboundary.symm.trans hempty)
    exact List.cons_ne_nil _ _ hframes
  calc (effTwigFrameBoundary s).hostSt h = tget (fun _ => {}) (tmap (fun _ => {}) s.tw.recv TwigHost.boundary) h := by
        rw [effTwigFrameBoundary_eq, State.hostSt, hrecv]
    _ = TwigHost.boundary (s.hostSt h) := tget_tmap (d := fun _ => ({} : TwigHost)) rfl hnew
    _ = _ := hboundary

/-- TWIG_FRAME_BOUNDARY. -/
theorem execTwigFrameBoundary_begins {s : State} (hs : s.hosts.Nodup) : ∃ t, exec .twigFrameBoundary s = .next t ∧
    (∀ h ∈ s.hosts, BeginsFrame (t.twigOut h) (labelSent s.img h) (((s.twigOut h).fnum + 1) % 256)) ∧
    (∀ h, h ∉ s.hosts → t.twigOut h = s.twigOut h) ∧
    (∀ h, (s.hostSt h).slow ≠ 2 → ∀ f rest, (s.hostSt h).wait = f :: rest →
      t.hostSt h = { s.hostSt h with wait := rest, frames := f :: (s.hostSt h).frames.take 1, slow := 0 }) ∧
    Frame m_effTwigFrameBoundary s.newCycle t := by
  have hout : ∀ n, s.newCycle.twigOut n = s.twigOut n := twigOut_of_tw (newCycle_tw s)
  have hin : ∀ n, s.newCycle.hostSt n = s.hostSt n := hostSt_of_tw (newCycle_tw s)
  refine ⟨effTwigFrameBoundary s.newCycle, rfl, fun h hh => ?_, fun h hh => ?_, fun h hslow f rest hwait => ?_,
    fr_effTwigFrameBoundary _⟩
  · have hbegins := forEach_rollHost_begins (l := s.newCycle.hosts) (by rwa [newCycle_hosts]) (by rwa [newCycle_hosts])
      (n := h) s.newCycle
    rwa [← effTwigFrameBoundary_twigOut, newCycle_img, hout] at hbegins
  · rw [effTwigFrameBoundary_twigOut, forEach_rollHost_other (by rwa [newCycle_hosts]), hout]
  · rw [effTwigFrameBoundary_hostSt (by rwa [hin]) (by rwa [hin]), hin]

end Sys2Proof.Mapping
end

section
/-!
The slip of a host (R122).
-/
namespace Sys2Proof.Mapping

open Sys2Proof.Machine Sys2Proof.Safety Sys2Proof.Scope Sys2Proof.Architecture Sys2Proof.Framing
open Sys2Proof.Laws hiding maskOf put

theorem hostSt_setHost (s : State) (h n : Nat) (v : TwigHost) :
    (s.setHost h v).hostSt n = if n = h then v else s.hostSt n := tget_tset ..

@[simp] theorem setHost_get (s : State) (h : Nat) (v : TwigHost) (f : Fld) (n : Nat) : (s.setHost h v).get f n = s.get f n := rfl

/-- The records offered by a report rest on the recorder, the sections in force and the cycle alone. -/
theorem offerRec_offers_congr {s t : State} (hrcd : t.rcd = s.rcd) (himg : t.img = s.img) (hcyc : t.cyc = s.cyc) (k : RecKind)
    (payload : List Byte) : (t.offerRec k payload).rcd.offers = (s.offerRec k payload).rcd.offers := by
  have hgl : t.gl RECORDS_keep_sev = s.gl RECORDS_keep_sev := by unfold State.gl; rw [himg]
  have hdrop : ∀ u : State, ((u.inc EVR_LOSS_drop k.sev).irqSet 449).rcd = u.rcd := fun u => by
    rw [(fr_irqSet ..).rcd (by decide), State.inc_rcd]
  unfold State.offerRec
  rw [hgl, hrcd, hcyc]
  split
  · rw [hrcd]
  · split
    · rw [hdrop, hdrop, hrcd]
    · rfl

theorem report_offers_congr {s t : State} (hrcd : t.rcd = s.rcd) (himg : t.img = s.img) (hcyc : t.cyc = s.cyc) (k : RecKind)
    (fields : List (Nat × Nat)) : (t.report k fields).rcd.offers = (s.report k fields).rcd.offers := by
  unfold State.report
  cases k.src with
  | none => exact offerRec_offers_congr hrcd himg hcyc ..
  | some src =>
    have hs := fr_irqSet s src
    have ht := fr_irqSet t src
    refine offerRec_offers_congr ?_ ?_ ?_ ..
    · rw [ht.rcd (by decide), hs.rcd (by decide), hrcd]
    · rw [ht.img (by decide), hs.img (by decide), himg]
    · rw [ht.cyc (by decide), hs.cyc (by decide), hcyc]

/-! ### The host after a slip -/

/-- A host after its slip: a frame that waits is discarded for a fast host, and fail units are due for a slow one. -/
def slippedHost (th : TwigHost) (fast : Bool) : TwigHost :=
  { th with grace := 4, rOut := true, slow := if fast then th.slow else 2, wait := if fast then th.wait.drop 1 else th.wait }

/-- The state after a slip of host `h` of context `c`, before its record. -/
def slipped (s : State) (h c : Nat) (fast : Bool) (past : Nat) : State :=
  ((s.setHost h (slippedHost (s.hostSt h) fast)).set MAP_HOST_TERM_term
    ((if fast then past - 1 else 32000 - past) % 16000) c).inc MAP_HOST_slips c

theorem effHostSlip_of_valid {s : State} {h past : Nat} {e : Entry} (fast : Bool) (he : hostCtx s.img h = some e)
    (hvalid : s.on MAP_HOST_TERM_term_valid (e.n MAPPING_ctx) = true) (hpast : 0 < past) :
    effHostSlip h fast past s = (slipped s h (e.n MAPPING_ctx) fast past).report kHOST_SLIP [(3, e.n MAPPING_ctx)] := by
  unfold effHostSlip
  rw [he]
  dsimp only
  rw [if_neg (by simp [hvalid]; omega)]
  rfl

section
variable (s : State) (h : Nat) {c past : Nat} (fast : Bool)

theorem slipped_slips (hc : c < 262144) : (slipped s h c fast past).get MAP_HOST_slips c =
    min (s.get MAP_HOST_slips c + 1) (top MAP_HOST_slips) := by
  unfold slipped
  rw [get_inc _ _ _ hc (by decide), get_set_sibling (by decide), setHost_get]

theorem slipped_valid : (slipped s h c fast past).on MAP_HOST_TERM_term_valid c = s.on MAP_HOST_TERM_term_valid c := by
  unfold slipped State.on
  rw [get_inc_sibling (by decide), get_set_bits (by decide), setHost_get]

/-- The term moves by 16,000 cycles back into range. -/
theorem slipped_term (hc : c < 262144) (hpos : 0 < past) (hmax : past ≤ 16000) :
    (slipped s h c fast past).get MAP_HOST_TERM_term c = if fast then past - 1 else 16000 - past := by
  unfold slipped
  rw [get_inc_sibling (by decide), get_set_context hc (by decide)]
  simp only [MAP_HOST_TERM_term]
  cases fast <;> simp only [Bool.false_eq_true, if_false, if_true] <;> omega

end

theorem slipped_tw (s : State) (h c : Nat) (fast : Bool) (past : Nat) :
    (slipped s h c fast past).tw = (s.setHost h (slippedHost (s.hostSt h) fast)).tw := by
  unfold slipped
  rw [State.inc_tw, State.set_tw]

/-- HOST_SLIP of a host with a valid term. -/
theorem execHostSlip_slips {s : State} {h past : Nat} {e : Entry} (fast : Bool) (he : hostCtx s.img h = some e)
    (hc : e.n MAPPING_ctx < 262144) (hvalid : s.on MAP_HOST_TERM_term_valid (e.n MAPPING_ctx) = true) (hpos : 0 < past)
    (hmax : past ≤ 16000) : ∃ t, exec (.hostSlip h fast past) s = .next t ∧
      t.get MAP_HOST_TERM_term (e.n MAPPING_ctx) = (if fast then past - 1 else 16000 - past) ∧
      t.on MAP_HOST_TERM_term_valid (e.n MAPPING_ctx) = true ∧
      t.get MAP_HOST_slips (e.n MAPPING_ctx) = min (s.get MAP_HOST_slips (e.n MAPPING_ctx) + 1) (top MAP_HOST_slips) ∧
      t.hostSt h = slippedHost (s.hostSt h) fast ∧ Recorded s t kHOST_SLIP (leBytes 3 (e.n MAPPING_ctx)) ∧
      Keep s.newCycle t [.rcd, .irq, .perf, .tw, .out] ∧ KeepRegs s.newCycle t [] [EVR_LOSS_drop, MAP_HOST_fnum, MAP_HOST_TERM_term] := by
  have heff : effHostSlip h fast past s.newCycle = _ := effHostSlip_of_valid fast (by rwa [newCycle_img]) (by rwa [newCycle_on]) hpos
  have hframe := fr_effHostSlip h fast past s.newCycle
  rw [heff] at hframe
  have htold := fr_report (slipped s.newCycle h (e.n MAPPING_ctx) fast past) kHOST_SLIP [(3, e.n MAPPING_ctx)]
  have hrecorded := report_recorded s kHOST_SLIP [(3, e.n MAPPING_ctx)]
  refine ⟨_, congrArg Host.Outcome.next heff, ?_, ?_, ?_, ?_, fun hsev hroom => ?_, frame_keep hframe (by decide),
    hframe.keepRegs (by decide +kernel)⟩
  · rw [htold.get (by decide +kernel), slipped_term _ _ _ hc hpos hmax]
  · rw [htold.on (by decide +kernel), slipped_valid, newCycle_on, hvalid]
  · rw [htold.get (by decide +kernel), slipped_slips _ _ _ hc, newCycle_get]
  · rw [hostSt_of_tw (htold.tw (by decide)), hostSt_of_tw (slipped_tw ..), hostSt_setHost, if_pos rfl, hostSt_of_tw (newCycle_tw s)]
  · refine (report_offers_congr ?_ ?_ ?_ ..).trans (hrecorded hsev hroom)
    · exact (State.inc_rcd ..).trans (State.set_rcd ..)
    · exact (State.inc_img ..).trans (State.set_img ..)
    · exact (State.inc_cyc ..).trans (State.set_cyc ..)

end Sys2Proof.Mapping
end

section
/-!
What the frames of any context leave of the received twig hosts: everything but the round in progress (R244).
-/
namespace Sys2Proof.Mapping

open Sys2Proof.Machine Sys2Proof.Safety Sys2Proof.Scope Sys2Proof.Architecture Sys2Proof.Framing
open Sys2Proof.Laws hiding maskOf put

/-- A received host apart from the judgement of its round in progress. -/
def receiver (h : Nat) (s : State) : TwigHost := { s.hostSt h with rOut := false, rErr := [] }

theorem receiver_of_tw {s t : State} (ht : t.tw = s.tw) (h : Nat) : receiver h t = receiver h s := by
  unfold receiver
  rw [hostSt_of_tw ht]

theorem fields_of_receiver {h : Nat} {s t : State} (hr : receiver h t = receiver h s) : (t.hostSt h).wait = (s.hostSt h).wait ∧
    (t.hostSt h).frames = (s.hostSt h).frames ∧ (t.hostSt h).fnum = (s.hostSt h).fnum :=
  ⟨(congrArg TwigHost.wait hr :), (congrArg TwigHost.frames hr :), (congrArg TwigHost.fnum hr :)⟩

/-- A change of the judgement of a round changes no receiver. -/
theorem receiver_setHost (s : State) (h n : Nat) (out : Bool) (err : List Nat) :
    receiver h (s.setHost n { s.hostSt n with rOut := out, rErr := err }) = receiver h s := by
  unfold receiver
  rw [hostSt_setHost]
  split
  · next e => rw [e]
  · rfl

theorem receiver_ite {p : Prop} [Decidable p] {h : Nat} {a b s : State} (ha : receiver h a = receiver h s)
    (hb : receiver h b = receiver h s) : receiver h (if p then a else b) = receiver h s := by
  split <;> assumption

variable (h : Nat)

theorem markFailed_receiver (s : State) (e : Entry) : receiver h (s.markFailed e) = receiver h s := by
  unfold State.markFailed
  dsimp only
  split
  · rfl
  · have htag : ∀ t : State, t.tw = s.tw → receiver h (t.setHost (e.n MAPPING_host)
        { t.hostSt (e.n MAPPING_host) with rOut := true }) = receiver h s := fun t ht =>
      (receiver_setHost t h _ true _).trans (receiver_of_tw ht h)
    split
    · refine htag _ ?_
      split <;> rfl
    · refine receiver_of_tw ?_ h
      split <;> rfl

theorem settle_receiver (s : State) : receiver h s.settle = receiver h s := by
  have hctx (t : State) (e : Entry) : receiver h ((t.settleCtx e).markFailed e) = receiver h t :=
    (markFailed_receiver h _ e).trans (receiver_of_tw ((fr_settleCtx t e).tw (by decide)) h)
  calc receiver h s.settle = receiver h s.settleDefects.showMerges := receiver_of_tw ((fr_settleGroups _).tw (by decide)) h
    _ = receiver h s.settleDefects := receiver_of_tw ((fr_showMerges _).tw (by decide)) h
    _ = receiver h s := forEach_keeps (receiver h) (fun t k => forEach_keeps (receiver h) hctx _ t) kindOrder s

theorem takeOs_receiver (s : State) (c : Nat) (os : List OsIn) : receiver h (s.takeOs c os) = receiver h s := by
  unfold State.takeOs
  refine forEach_keeps (receiver h) (fun t o => ?_) os s
  exact receiver_ite (receiver_of_tw rfl h) ((settle_receiver h _).trans (receiver_of_tw rfl h))

/-- The overhead of a frame without ordered sets touches nothing of the twig sub-switch. -/
theorem takeOverhead_tw (s : State) (c : Nat) {p : Entry} (hp : ¬ (p.n FRAMING_layer = 4 ∨ p.n FRAMING_layer = 6)) (f : FrameIn) :
    (s.takeOverhead c p f).tw = s.tw := by
  have hint : ∀ (t : State) k cond n, (t.integrate c p k cond n).tw = t.tw := fun t k cond n => (fr_integrate ..).tw (by decide)
  have htti : ∀ (t : State) m b, (t.takeTti c m b).tw = t.tw := fun t m b => (fr_takeTti ..).tw (by decide)
  have hpsi : ∀ (t : State) pt msi a b, (t.takePsi c pt msi a b).tw = t.tw := fun t pt msi a b => (fr_takePsi ..).tw (by decide)
  have hdef : ∀ (t : State) v, (t.setDefSt c v).tw = t.tw := fun _ _ => rfl
  have hlabel : ∀ (t : State) v, (t.setLabelSt c v).tw = t.tw := fun _ _ => rfl
  unfold State.takeOverhead
  dsimp only
  split
  · split
    · simp only [apply_ite State.tw, htti, hint, ite_self]
    · simp only [apply_ite State.tw, htti, hint, hpsi, hdef, ite_self]
  · split
    · simp only [apply_ite State.tw, hint, hlabel, ite_self]
    · split
      · split
        · simp only [apply_ite State.tw, hlabel, ite_self]
        · rfl
      · rfl

theorem takeOverhead_receiver (s : State) (c : Nat) (p : Entry) (f : FrameIn) :
    receiver h (s.takeOverhead c p f) = receiver h s := by
  by_cases hp : p.n FRAMING_layer = 4 ∨ p.n FRAMING_layer = 6
  · unfold State.takeOverhead
    dsimp only
    rw [if_neg (by omega), if_neg (by omega), if_pos hp]
    exact takeOs_receiver h ..
  · exact receiver_of_tw (takeOverhead_tw s c hp f) h

/-- The check of a frame's word, where the layer has one. -/
theorem checked_receiver (own : Bool) (s : State) (c : Nat) (e : Entry) (ok : Bool) :
    receiver h (if own then s.checkWord c e ok else s) = receiver h s := by
  split
  · exact receiver_of_tw ((fr_checkWord ..).tw (by decide)) h
  · rfl

theorem takeMf_receiver (s : State) (c layer : Nat) (f : FrameIn) : receiver h (s.takeMf c layer f) = receiver h s :=
  receiver_of_tw ((fr_takeMf ..).tw (by decide)) h

theorem countBlock_receiver (s : State) (c layer : Nat) (p : Entry) (f : FrameIn) :
    receiver h (s.countBlock c layer p f) = receiver h s :=
  receiver_of_tw ((fr_countBlock ..).tw (by decide)) h

theorem takeMapOh_receiver (s : State) (c : Nat) (e : Entry) (f : FrameIn) : receiver h (s.takeMapOh c e f) = receiver h s :=
  receiver_of_tw ((fr_takeMapOh ..).tw (by decide)) h

theorem compareLabels_receiver (s : State) (c : Nat) (p e : Entry) : receiver h (s.compareLabels c p e) = receiver h s :=
  receiver_of_tw ((fr_compareLabels ..).tw (by decide)) h

theorem takeFrame_receiver (s : State) (c : Nat) (e p : Entry) (f : FrameIn) : receiver h (s.takeFrame c e p f) = receiver h s := by
  unfold State.takeFrame
  refine receiver_ite ?_ ?_
  · rw [settle_receiver, countBlock_receiver, checked_receiver]
  · rw [settle_receiver, compareLabels_receiver, takeMapOh_receiver, takeOverhead_receiver, countBlock_receiver, takeMf_receiver,
      checked_receiver]

theorem frameIn_receiver (s : State) (c : Nat) (f : FrameIn) : receiver h (s.frameIn c f) = receiver h s := by
  unfold State.frameIn
  split
  · rfl
  · dsimp only
    split
    · rfl
    · split
      · exact takeFrame_receiver h ..
      · refine receiver_ite ?_ ?_
        · rw [settle_receiver, checked_receiver]
        · rw [settle_receiver, takeMapOh_receiver, takeMf_receiver, checked_receiver]

theorem checkTags_receiver (s : State) (n frame fnum : Nat) (e : Entry) :
    receiver h (s.checkTags n frame fnum e) = receiver h s := by
  unfold State.checkTags
  refine forEach_keeps (receiver h) (fun t k => ?_) _ s
  dsimp only
  have hcount : ∀ (b : Bool) (u : State) (f : Fld) (m : Nat), (if b then u.inc f m else u).tw = u.tw := by
    intro b u f m
    split
    · exact State.inc_tw ..
    · rfl
  refine receiver_ite ((receiver_setHost _ h n _ _).trans (receiver_of_tw ?_ h)) (receiver_of_tw ?_ h)
  · rw [hcount, hcount]
  · rw [hcount, hcount]

end Sys2Proof.Mapping
end

section
/-!
A frame of a received twig host (R116 to R120): its fnum, and the frame that waits for the boundary; with the statement about twig frames.
-/
namespace Sys2Proof.Mapping

open Sys2Proof.Machine Sys2Proof.Safety Sys2Proof.Scope Sys2Proof.Architecture Sys2Proof.Framing
open Sys2Proof.Laws hiding maskOf put

/-! ### The stages of a frame of a host in frame -/

/-- The fnum before a frame: the last one taken, or the one shown. -/
def lastFnum (s : State) (h c : Nat) : Nat := match (s.hostSt h).fnum with | some n => n | none => s.get MAP_HOST_fnum c

/-- The fnum of a frame: as sent where hcrc is good, and the last one plus 1 where it is not (R116). -/
def fnumOf (s : State) (h c frame : Nat) (ok : Bool) : Nat :=
  if ok then (byteAt frame 16).toNat else (lastFnum s h c + 1) % 256

/-- The fnum of a frame shown, and an hcrc in error counted. -/
def fnumShown (s : State) (h c frame : Nat) (ok : Bool) : State :=
  (if ok then s else s.inc MAP_HOST_hcrc_err c).set MAP_HOST_fnum (fnumOf s h c frame ok) c

/-- The tags of a frame checked, where they are, and the frames of the circuits taken. -/
def circuitsTaken (s : State) (h frame n : Nat) (checked : Bool) (bad : Entry → Bool) : State :=
  let t := if checked then forEach (s.circuits h) s fun s e => s.checkTags h frame n e else s
  forEach (t.circuits h) t fun s e => s.frameIn (e.n MAPPING_ctx) { errored := bad e }

/-- The units of a frame dealt to the check-value units and the twig wraps. -/
def unitsDealt (s : State) (h frame : Nat) : State :=
  (forEach (s.cvusOf 3) s fun s u =>
    if s.get CVU_SEL_slot u = h then s.cvuFeed u (leBytes 16 (unitOf frame (s.get CVU_SEL_twig u))) else s).wrapUnits h frame

/-- A frame that waits for the boundary beside those of a host, with the host's history of frames and alive codes. -/
def frameKept (s : State) (h frame : Nat) (hist : List Nat) (alive : List (Nat × Nat)) (grace : Nat) : State :=
  s.setHost h (({ s.hostSt h with hist := hist, alive := alive, grace := grace } : TwigHost).enter frame)

theorem hostFrame_eq (s : State) (h c frame : Nat) (ok : Bool) :
    ∃ (th : TwigHost) (u : State) (checked : Bool) (bad : Entry → Bool) (hist : List Nat) (alive : List (Nat × Nat)) (grace : Nat),
      th.wait = (s.hostSt h).wait ∧ th.frames = (s.hostSt h).frames ∧
      u = circuitsTaken ((fnumShown s h c frame ok).setHost h th) h frame (fnumOf s h c frame ok) checked bad ∧
      s.hostFrame h c frame ok = unitsDealt (frameKept u h frame hist alive grace) h frame := by
  unfold State.hostFrame
  refine ⟨_, _, _, _, _, _, _, ?_, ?_, rfl, rfl⟩
  all_goals rfl

/-! ### What the stages leave -/

theorem circuitsTaken_receiver (s : State) (h frame n : Nat) (checked : Bool) (bad : Entry → Bool) :
    receiver h (circuitsTaken s h frame n checked bad) = receiver h s := by
  have htags : receiver h (if checked then forEach (s.circuits h) s fun s e => s.checkTags h frame n e else s) = receiver h s :=
    receiver_ite (forEach_keeps (receiver h) (fun t e => checkTags_receiver h t h frame n e) _ s) rfl
  exact (forEach_keeps (receiver h) (fun t e => frameIn_receiver h t _ _) _ _).trans htags

/-- A frame of a circuit may change what any frame may, and the counts of its tags. -/
def m_circuitsTaken : Nat := m_frameIn ||| m_checkTags

theorem circuitsTaken_frame (s : State) (h frame n : Nat) (checked : Bool) (bad : Entry → Bool) :
    Frame m_circuitsTaken s (circuitsTaken s h frame n checked bad) :=
  Frame.forEach _ (Frame.ite (Frame.forEach _ (Frame.refl ..) fun _ _ ht => ht.step (fr_checkTags ..) (by decide)) (Frame.refl ..))
    fun _ _ ht => ht.step (fr_frameIn ..) (by decide)

def m_unitsDealt : Nat := m_cvuFeed ||| m_wrapUnits

theorem unitsDealt_frame (s : State) (h frame : Nat) : Frame m_unitsDealt s (unitsDealt s h frame) :=
  (Frame.forEach _ (Frame.refl ..) fun _ _ ht => Frame.ite (ht.step (fr_cvuFeed ..) (by decide)) ht).step (fr_wrapUnits ..)
    (by decide)

/-- A received frame waits behind those that wait, and the unit store stays. -/
theorem hostFrame_store (s : State) (h c frame : Nat) (ok : Bool) :
    ((s.hostFrame h c frame ok).hostSt h).wait = ((s.hostSt h).wait ++ [frame]).drop ((s.hostSt h).wait.length - 1) ∧
    ((s.hostFrame h c frame ok).hostSt h).frames = (s.hostSt h).frames := by
  obtain ⟨th, u, checked, bad, hist, alive, grace, hwait, hframes, hu, heq⟩ := hostFrame_eq s h c frame ok
  have hkept : receiver h u = receiver h ((fnumShown s h c frame ok).setHost h th) := by
    rw [hu]
    exact circuitsTaken_receiver ..
  have hhost : ((fnumShown s h c frame ok).setHost h th).hostSt h = th := by rw [hostSt_setHost, if_pos rfl]
  obtain ⟨huwait, huframes, -⟩ := fields_of_receiver hkept
  rw [hhost, hwait] at huwait
  rw [hhost, hframes] at huframes
  rw [heq, hostSt_of_tw ((unitsDealt_frame ..).tw (by decide)), frameKept, hostSt_setHost, if_pos rfl]
  unfold TwigHost.enter
  dsimp only
  rw [huwait, Nat.add_sub_add_right _ 1 1]
  exact ⟨rfl, huframes⟩

/-- The register of a host shows the fnum and the errors as the frame has them. -/
theorem hostFrame_get (s : State) (h c frame : Nat) (ok : Bool) {f : Fld} (hf : Laws.apart m_circuitsTaken f = true ∧
    Laws.apart m_unitsDealt f = true) (n : Nat) : (s.hostFrame h c frame ok).get f n = (fnumShown s h c frame ok).get f n := by
  obtain ⟨th, u, checked, bad, hist, alive, grace, -, -, hu, heq⟩ := hostFrame_eq s h c frame ok
  rw [heq, (unitsDealt_frame ..).get hf.2, frameKept, setHost_get, hu, (circuitsTaken_frame ..).get hf.1, setHost_get]

theorem fnumOf_lt (s : State) (h c frame : Nat) (ok : Bool) : fnumOf s h c frame ok < 256 := by
  unfold fnumOf
  split
  · exact (byteAt frame 16).isLt
  · exact Nat.mod_lt _ (by decide)

theorem fnumShown_fnum (s : State) (h : Nat) {c : Nat} (hc : c < 262144) (frame : Nat) (ok : Bool) :
    (fnumShown s h c frame ok).get MAP_HOST_fnum c = fnumOf s h c frame ok := by
  unfold fnumShown
  rw [get_set_context hc (by decide)]
  exact Nat.mod_eq_of_lt (fnumOf_lt ..)

theorem fnumShown_hcrc (s : State) (h : Nat) {c : Nat} (hc : c < 262144) (frame : Nat) (ok : Bool) :
    (fnumShown s h c frame ok).get MAP_HOST_hcrc_err c =
      if ok then s.get MAP_HOST_hcrc_err c else min (s.get MAP_HOST_hcrc_err c + 1) (top MAP_HOST_hcrc_err) := by
  unfold fnumShown
  rw [get_set_bits (by decide), get_ite, get_inc _ _ _ hc (by decide)]

/-! ### The bytes of a host -/

theorem mapSt_setMapSt (s : State) (c d : Nat) (v : MapSt) :
    (s.setMapSt c v).mapSt d = if d = c then v else s.mapSt d := tget_tset ..

theorem feed_mapSt (s : State) (c n v : Nat) : (s.feed c n v).mapSt c = { s.mapSt c with q := (s.mapSt c).q.push n v } :=
  (mapSt_setMapSt ..).trans (if_pos rfl)

@[simp] theorem feed_on (s : State) (c n v : Nat) (f : Fld) (m : Nat) : (s.feed c n v).on f m = s.on f m := rfl

theorem nextFrame_short {s : State} {c : Nat} (h : (s.mapSt c).q.n < 8 * ((s.mapSt c).skip + 8000)) :
    s.nextFrame c = (none, s) := if_pos h

theorem nextFrame_full {s : State} {c : Nat} (h : 8 * ((s.mapSt c).skip + 8000) ≤ (s.mapSt c).q.n) :
    (s.nextFrame c).1 = some ((s.mapSt c).q.v / 2 ^ (8 * (s.mapSt c).skip) % 2 ^ 64000) :=
  congrArg Prod.fst (if_neg (Nat.not_lt.2 h))

/-- Whether the hcrc of a frame is good (R116). -/
def hcrcGood (frame : Nat) : Bool := crc16 (bytesAt frame 8 10) == beNat (bytesAt frame 18 2)

/-- What a frame brings the framer of its host: its alignment word, and its label where hcrc is good (R116). -/
def broughtBy (frame : Nat) : FrameIn :=
  { wordOk := bytesAt frame 0 8 == twigWord, label := if hcrcGood frame then some (beNat (bytesAt frame 8 8)) else none }

section
variable {s : State} {h : Nat} {bytes : List Byte} {e : Entry}

/-- Bytes that make no frame of a host in frame wait. -/
theorem effTwigFrameReceived_waits (he : hostCtx s.img h = some e) (hwait : s.on FRM_ALIGN_state (e.n MAPPING_ctx) = false ∨
    ((s.mapSt (e.n MAPPING_ctx)).q.push (8 * bytes.length) (leNat bytes)).n < 8 * ((s.mapSt (e.n MAPPING_ctx)).skip + 8000)) :
    effTwigFrameReceived h bytes s = s.feed (e.n MAPPING_ctx) (8 * bytes.length) (leNat bytes) := by
  unfold effTwigFrameReceived
  rw [he]
  dsimp only
  rw [feed_on]
  cases hon : s.on FRM_ALIGN_state (e.n MAPPING_ctx) with
  | false => rfl
  | true =>
    have hshort := hwait.resolve_left (by simp [hon])
    rw [if_neg (by simp), nextFrame_short (by rwa [feed_mapSt])]

/-- A frame of a host that stays in frame is taken in. -/
theorem effTwigFrameReceived_takes (he : hostCtx s.img h = some e) (hon : s.on FRM_ALIGN_state (e.n MAPPING_ctx) = true)
    {frame : Nat} {w : State}
    (hnext : (s.feed (e.n MAPPING_ctx) (8 * bytes.length) (leNat bytes)).nextFrame (e.n MAPPING_ctx) = (some frame, w))
    (hin : (w.frameIn (e.n MAPPING_ctx) (broughtBy frame)).on FRM_ALIGN_state (e.n MAPPING_ctx) = true) :
    effTwigFrameReceived h bytes s =
      (w.frameIn (e.n MAPPING_ctx) (broughtBy frame)).hostFrame h (e.n MAPPING_ctx) frame (hcrcGood frame) := by
  unfold effTwigFrameReceived
  rw [he]
  dsimp only
  rw [feed_on, hon, if_neg (by simp), hnext]
  exact if_pos hin

end

/-! ### The row of a received frame, and the whole of R116 to R122 -/

/-- What a host and its register show once its frame has been taken in. -/
structure FrameTaken (s t : State) (h c frame : Nat) : Prop where
  wait : (t.hostSt h).wait = ((s.hostSt h).wait ++ [frame]).drop ((s.hostSt h).wait.length - 1)
  frames : (t.hostSt h).frames = (s.hostSt h).frames
  fnum : t.get MAP_HOST_fnum c = fnumOf s h c frame (hcrcGood frame)
  errors : t.get MAP_HOST_hcrc_err c = if hcrcGood frame then s.get MAP_HOST_hcrc_err c
    else min (s.get MAP_HOST_hcrc_err c + 1) (top MAP_HOST_hcrc_err)

theorem hostFrame_taken (s : State) (h : Nat) {c : Nat} (hc : c < 262144) (frame : Nat) :
    FrameTaken s (s.hostFrame h c frame (hcrcGood frame)) h c frame := by
  obtain ⟨hwait, hframes⟩ := hostFrame_store s h c frame (hcrcGood frame)
  refine ⟨hwait, hframes, ?_, ?_⟩
  · rw [hostFrame_get _ _ _ _ _ (by decide +kernel), fnumShown_fnum _ _ hc]
  · rw [hostFrame_get _ _ _ _ _ (by decide +kernel), fnumShown_hcrc _ _ hc]

/-- A frame taken rests on the receiver and on the host's register alone. -/
theorem FrameTaken.of_receiver {s u t : State} {h c frame : Nat} (ht : FrameTaken u t h c frame)
    (hrecv : receiver h u = receiver h s) (hfnum : u.get MAP_HOST_fnum c = s.get MAP_HOST_fnum c)
    (herr : u.get MAP_HOST_hcrc_err c = s.get MAP_HOST_hcrc_err c) : FrameTaken s t h c frame := by
  obtain ⟨hwait, hframes, hlast⟩ := fields_of_receiver hrecv
  obtain ⟨wait, frames, fnum, errors⟩ := ht
  unfold fnumOf lastFnum at fnum
  rw [hwait] at wait
  rw [hframes] at frames
  rw [hlast, hfnum] at fnum
  rw [herr] at errors
  exact ⟨wait, frames, fnum, errors⟩

/-- TWIG_FRAME_RECEIVED of a host that stays in frame. -/
theorem execTwigFrameReceived_takes {s : State} {h : Nat} {bytes : List Byte} {e : Entry} {frame : Nat} {w : State}
    (he : hostCtx s.img h = some e) (hc : e.n MAPPING_ctx < 262144) (hon : s.on FRM_ALIGN_state (e.n MAPPING_ctx) = true)
    (hnext : (s.newCycle.feed (e.n MAPPING_ctx) (8 * bytes.length) (leNat bytes)).nextFrame (e.n MAPPING_ctx) = (some frame, w))
    (hin : (w.frameIn (e.n MAPPING_ctx) (broughtBy frame)).on FRM_ALIGN_state (e.n MAPPING_ctx) = true) :
    ∃ t, exec (.twigFrameReceived h bytes) s = .next t ∧ FrameTaken s t h (e.n MAPPING_ctx) frame ∧
      Frame m_effTwigFrameReceived s.newCycle t := by
  have heff := effTwigFrameReceived_takes (s := s.newCycle) (h := h) (by rwa [newCycle_img]) (by rwa [newCycle_on]) hnext hin
  have hw : w = ((s.newCycle.feed (e.n MAPPING_ctx) (8 * bytes.length) (leNat bytes)).nextFrame (e.n MAPPING_ctx)).2 := by rw [hnext]
  have hfed : Frame m_nextFrame s.newCycle w := by
    rw [hw]
    exact ((fr_feed ..).mono (by decide)).step (fr_nextFrame ..) (by decide)
  have hframe := fr_frameIn w (e.n MAPPING_ctx) (broughtBy frame)
  refine ⟨_, rfl, ?_, fr_effTwigFrameReceived ..⟩
  rw [heff]
  refine (hostFrame_taken _ h hc frame).of_receiver ?_ ?_ ?_
  · rw [frameIn_receiver, receiver_of_tw (hfed.tw (by decide)), receiver_of_tw (newCycle_tw s)]
  · rw [hframe.get (by decide +kernel), hfed.get (by decide +kernel), newCycle_get]
  · rw [hframe.get (by decide +kernel), hfed.get (by decide +kernel), newCycle_get]

/-- TWIG_FRAME_RECEIVED of bytes that make no frame of a host in frame. -/
theorem execTwigFrameReceived_waits {s : State} {h : Nat} {bytes : List Byte} {e : Entry} (he : hostCtx s.img h = some e)
    (hwait : s.on FRM_ALIGN_state (e.n MAPPING_ctx) = false ∨
      ((s.mapSt (e.n MAPPING_ctx)).q.push (8 * bytes.length) (leNat bytes)).n < 8 * ((s.mapSt (e.n MAPPING_ctx)).skip + 8000)) :
    ∃ t, exec (.twigFrameReceived h bytes) s = .next t ∧ t.mapSt (e.n MAPPING_ctx) =
      { s.mapSt (e.n MAPPING_ctx) with q := (s.mapSt (e.n MAPPING_ctx)).q.push (8 * bytes.length) (leNat bytes) } ∧
      Keep s.newCycle t [.fr] ∧ t.regs = s.regs := by
  have heff := effTwigFrameReceived_waits (s := s.newCycle) (bytes := bytes) (by rwa [newCycle_img])
    (by rwa [newCycle_on, newCycle_mapSt])
  refine ⟨_, congrArg Host.Outcome.next heff, ?_, frame_keep (fr_feed ..) (by decide), newCycle_regs s⟩
  rw [feed_mapSt, newCycle_mapSt]

/-- Settles O40: the boundary host by host, the received frame by its stages, and the slip by its one write. -/
theorem twigFrames : Obligations.TwigFrames := by
  unfold Obligations.TwigFrames
  refine ⟨fun s hs => ?_, fun h bytes q frame e w ok hok lab s he hc hon hq hfull hframe hw hword hcrc hlab hin => ?_,
    fun h bytes q e s he hq hwait => ?_, fun h fast past e s he hc hvalid hpos hmax => execHostSlip_slips fast he hc hvalid hpos hmax⟩
  · obtain ⟨t, hexec, hbegins, hother, hstore, hframe⟩ := execTwigFrameBoundary_begins hs
    refine ⟨t, hexec, fun h hh => ?_, hother, hstore, frame_keep hframe (by decide), hframe.keepRegs (by decide +kernel)⟩
    obtain ⟨hword, hlabel, hfnum⟩ := (hbegins h hh).bytes
    refine ⟨(hbegins h hh).fnum, hword, fun e he => ?_, ?_⟩
    · rw [hlabel, labelSent_of_hostCtx he]
    · rw [hfnum, (hbegins h hh).fnum]
  · subst hlab hword hcrc
    have hmap : (s.newCycle.feed (e.n MAPPING_ctx) (8 * bytes.length) (leNat bytes)).mapSt (e.n MAPPING_ctx) =
        { s.mapSt (e.n MAPPING_ctx) with q := q } := by rw [feed_mapSt, newCycle_mapSt, hq]
    have hnext := nextFrame_full (s := s.newCycle.feed (e.n MAPPING_ctx) (8 * bytes.length) (leNat bytes)) (by rwa [hmap])
    rw [hmap, ← hframe] at hnext
    obtain ⟨t, hexec, ⟨hwait, hframes, hfnum, herr⟩, hkept⟩ :=
      execTwigFrameReceived_takes he hc hon (Prod.ext hnext hw.symm) hin
    refine ⟨t, hexec, hwait, hframes, fun hok => ⟨?_, ?_⟩, fun hok => ⟨?_, ?_⟩, frame_keep hkept (by decide),
      hkept.keepRegs (by decide +kernel)⟩
    · exact hfnum.trans (if_pos hok)
    · exact herr.trans (if_pos hok)
    · refine hfnum.trans ((if_neg (by simpa [hcrcGood] using hok)).trans ?_)
      unfold lastFnum
      cases (s.hostSt h).fnum <;> rfl
    · exact herr.trans (if_neg (by simpa [hcrcGood] using hok))
  · subst hq
    exact execTwigFrameReceived_waits he hwait

end Sys2Proof.Mapping
end

section
/-!
The write of a slot block (R126 to R129): what is stored at its location, and what every other location keeps.
-/
namespace Sys2Proof.Fabric

open Sys2Proof.Machine Sys2Proof.Safety Sys2Proof.Scope Sys2Proof.Architecture Sys2Proof.Framing
open Sys2Proof.Laws hiding maskOf put

/-! ### A table searched by key after a write -/

theorem find?_tput {α : Type} (t : List (Nat × α)) (k j : Nat) (v : α) :
    (tput t k v).find? (fun p => p.1 == j) = if j = k then some (j, v) else t.find? fun p => p.1 == j := by
  induction t with
  | nil => by_cases hj : j = k <;> simp [tput, hj, Ne.symm]
  | cons p t ih =>
    obtain ⟨q, w⟩ := p
    simp only [tput]
    split
    · next hkq => subst hkq; by_cases hj : j = k <;> simp [hj, beq_eq_decide, eq_comm]
    · next hkq =>
      split
      · by_cases hj : j = k <;> simp [List.find?_cons, hj, beq_eq_decide, eq_comm]
      · rw [List.find?_cons, List.find?_cons, ih]
        by_cases hj : j = k
        · subst hj; simp [beq_eq_decide, eq_comm, hkq]
        · simp [hj]

theorem find?_foldl_tput {α : Type} (key : Nat → Nat) (v : α) (l : List Nat) (t : List (Nat × α)) (j : Nat) :
    (l.foldl (fun t a => tput t (key a) v) t).find? (fun p => p.1 == j) =
      if ∃ a ∈ l, j = key a then some (j, v) else t.find? fun p => p.1 == j := by
  induction l generalizing t with
  | nil => simp
  | cons a l ih =>
    rw [List.foldl_cons, ih, find?_tput]
    by_cases hl : ∃ b ∈ l, j = key b
    · rw [if_pos hl, if_pos (hl.imp fun _ hb => ⟨List.mem_cons_of_mem _ hb.1, hb.2⟩)]
    · rw [if_neg hl]
      simp only [List.exists_mem_cons_iff, or_iff_left hl]

/-! ### Locations -/

theorem pairOf_slice {ls wc : Nat} (h : wc < 128) : pairOf ls wc / 128 = ls := by unfold pairOf; omega

theorem pairOf_cycle {ls wc : Nat} (h : wc < 128) : pairOf ls wc % 128 = wc := by unfold pairOf; omega

theorem locKey_inj {ph ph' wc wc' g g' : Nat} (h : wc < 128) (h' : wc' < 128) :
    locKey ph wc g = locKey ph' wc' g' ↔ ph = ph' ∧ wc = wc' ∧ g % 32 = g' % 32 := by
  unfold locKey
  omega

/-- The state with other blocks in the slices. -/
def withLocs (s : State) (l : List (Nat × Loc)) : State := { s with fab := { s.fab with locs := l } }

/-- What a location holds. -/
def locAt (s : State) (k : Nat) : Option (Nat × Loc) := s.fab.locs.find? fun p => p.1 == k

/-- A block as it is stored in the grid period of its write (R127). -/
def locOf (s : State) (b : Blk) (nosrc : Bool) : Loc :=
  { body := b.body, side := b.side, epoch := s.fab.gp / 32 % 2, page := s.page, nosrc := nosrc }

section
variable (s : State) (l : List (Nat × Loc)) (ph pair g : Nat)

/-- A read of a location that was left alone delivers what it delivered. -/
theorem stored_withLocs (h : locAt (withLocs s l) (locKey ph (pair % 128) g) = locAt s (locKey ph (pair % 128) g)) :
    (withLocs s l).stored ph pair g = s.stored ph pair g := by
  unfold State.stored
  unfold locAt at h
  rw [h]
  rfl

theorem stored_of_locAt {k : Nat} {v : Loc} (h : locAt s (locKey ph (pair % 128) g) = some (k, v)) (hpage : v.page = s.page) :
    s.stored ph pair g = if v.epoch ≠ g / 32 % 2 then none else some ⟨v.body, v.side⟩ := by
  unfold State.stored
  unfold locAt at h
  rw [h]
  dsimp only
  rw [if_pos hpage]

theorem storedNosrc_of_locAt {k : Nat} {v : Loc} (h : locAt s (locKey ph (pair % 128) g) = some (k, v)) :
    s.storedNosrc ph pair g = v.nosrc := by
  unfold State.storedNosrc
  unfold locAt at h
  rw [h]
  rfl

end

/-! ### A write -/

theorem forEach_locs (key : Nat → Nat) (v : Loc) (l : List Nat) (s : State) :
    (forEach l s fun s a => { s with fab := { s.fab with locs := tput s.fab.locs (key a) v } }) =
      withLocs s (l.foldl (fun t a => tput t (key a) v) s.fab.locs) := by
  induction l generalizing s with
  | nil => rfl
  | cons a l ih => exact ih _

section
variable (s : State) {ls wc : Nat} (hwc : wc < 128) (b : Blk) (nosrc : Bool)
include hwc

theorem writeBlk_eq : s.writeBlk (pairOf ls wc) b nosrc = withLocs s
    ((s.writers ls).foldl (fun t ph => tput t (locKey ph wc s.fab.gp) (locOf s b nosrc)) s.fab.locs) := by
  unfold State.writeBlk
  rw [pairOf_slice hwc, pairOf_cycle hwc]
  exact forEach_locs (fun ph => locKey ph wc s.fab.gp) (locOf s b nosrc) _ s

/-- After a write, a location of a writer holds the block, and every other what it held. -/
theorem locAt_writeBlk (k : Nat) : locAt (s.writeBlk (pairOf ls wc) b nosrc) k =
    if ∃ ph ∈ s.writers ls, k = locKey ph wc s.fab.gp then some (k, locOf s b nosrc) else locAt s k := by
  rw [writeBlk_eq s hwc]
  exact find?_foldl_tput (fun ph => locKey ph wc s.fab.gp) ..

theorem stored_writeBlk_other {o wc' g : Nat} (hwc' : wc' < 128)
    (h : ¬ (o ∈ s.writers ls ∧ wc' = wc ∧ g % 32 = s.fab.gp % 32)) :
    (s.writeBlk (pairOf ls wc) b nosrc).stored o (pairOf ls wc') g = s.stored o (pairOf ls wc') g := by
  have hloc := locAt_writeBlk s hwc b nosrc (ls := ls) (locKey o (pairOf ls wc' % 128) g)
  rw [if_neg, writeBlk_eq s hwc] at hloc
  · rw [writeBlk_eq s hwc]
    exact stored_withLocs s _ o _ g hloc
  · rintro ⟨ph, hph, hkey⟩
    rw [pairOf_cycle hwc'] at hkey
    obtain ⟨rfl, hcycle⟩ := (locKey_inj hwc' hwc).1 hkey
    exact h ⟨hph, hcycle⟩

variable {ph : Nat} (hph : ph ∈ s.writers ls)
include hph

theorem locAt_writeBlk_same {g : Nat} (hg : g % 32 = s.fab.gp % 32) :
    locAt (s.writeBlk (pairOf ls wc) b nosrc) (locKey ph (pairOf ls wc % 128) g) =
      some (locKey ph wc g, locOf s b nosrc) := by
  rw [pairOf_cycle hwc, locAt_writeBlk s hwc, if_pos ⟨ph, hph, (locKey_inj hwc hwc).2 ⟨rfl, rfl, hg⟩⟩]

theorem stored_writeBlk_same {g : Nat} (hg : g % 32 = s.fab.gp % 32) :
    (s.writeBlk (pairOf ls wc) b nosrc).stored ph (pairOf ls wc) g =
      if s.fab.gp / 32 % 2 ≠ g / 32 % 2 then none else some b := by
  refine stored_of_locAt _ _ _ _ (locAt_writeBlk_same s hwc b nosrc hph hg) ?_
  rw [writeBlk_eq s hwc]
  rfl

theorem storedNosrc_writeBlk_same :
    (s.writeBlk (pairOf ls wc) b nosrc).storedNosrc ph (pairOf ls wc) s.fab.gp = nosrc :=
  storedNosrc_of_locAt _ _ _ _ (locAt_writeBlk_same s hwc b nosrc hph rfl)

end

end Sys2Proof.Fabric
end

section
/-!
The read of a slot block (R128 to R130, R133): what a read counts, and the block that its output receives.
-/
namespace Sys2Proof.Fabric

open Sys2Proof.Machine Sys2Proof.Safety Sys2Proof.Scope Sys2Proof.Architecture Sys2Proof.Framing
open Sys2Proof.Laws hiding maskOf put

/-! ### A count of nothing -/

theorem withBits_bitsOf (w : Word) {hi lo : Nat} (h32 : hi < 32) : withBits w hi lo (bitsOf w hi lo) = w := by
  apply BitVec.eq_of_getLsbD_eq
  intro i _
  rw [getLsbD_withBits _ _ _ _ _ h32]
  split
  · next hin =>
    obtain ⟨hlo, hhi⟩ := hin
    have hlt : i - lo < hi + 1 - lo := by omega
    rw [testBit_bitsOf, Nat.add_sub_cancel' hlo, decide_eq_true hlt, Bool.true_and]
  · rfl

theorem inc_zero_reg (s : State) {f : Fld} (h32 : f.hi < 32) (n k : Nat) : (s.inc f n 0).reg k = s.reg k := by
  have hsat : satN (f.hi + 1 - f.lo) (s.get f n + 0) = s.get f n := if_neg (Nat.not_le.2 (get_lt s f n))
  unfold State.inc
  rw [hsat, State.reg_set]
  split
  · next h =>
    obtain ⟨hn, rfl⟩ := h
    rw [State.get_eq, if_pos hn, withBits_bitsOf _ h32]
  · rfl

/-! ### What a read counts -/

/-- What a read entry finds in the slice that serves its logical slice. -/
def readFound (s : State) (r : Entry) : Option Blk :=
  if (s.sourceOf r).2 ≤ s.fab.gp then s.stored (s.physOf (r.n FABRIC_PAGE_rd_slice))
    (pairOf (r.n FABRIC_PAGE_rd_slice) (s.sourceOf r).1) (s.fab.gp - (s.sourceOf r).2) else none

/-- What it finds in the SHADOW of its logical slice (R149). -/
def readShadow (s : State) (r : Entry) : Option Blk :=
  if s.get FAB_COPPICE_state = 1 ∧ s.get FAB_COPPICE_shadow = r.n FABRIC_PAGE_rd_slice ∧ (s.sourceOf r).2 ≤ s.fab.gp then
    s.stored s.spare (pairOf (r.n FABRIC_PAGE_rd_slice) (s.sourceOf r).1) (s.fab.gp - (s.sourceOf r).2) else none

/-- Whether the block check of a read fails, or its word is uncorrectable. -/
def readBad (x : GridIn) (r : Entry) : Bool := x.chk.contains (r.n FABRIC_PAGE_out) || x.uncorr.contains (r.n FABRIC_PAGE_out)

/-- The corrected words of the read for an output. -/
def wordsFor (l : List (Nat × Nat)) (out : Nat) : Nat := ((l.filter fun p => p.1 == out).map (·.2)).sum

/-- The counts of the read itself. -/
def ownCounted (s : State) (x : GridIn) (r : Entry) : State :=
  let q := s.physOf (r.n FABRIC_PAGE_rd_slice)
  let s := s.inc FAB_SLICE_CORR_corr q (wordsFor x.corr (r.n FABRIC_PAGE_out))
  let s := if x.uncorr.contains (r.n FABRIC_PAGE_out) then s.irqSet 169 else s
  if readBad x r then s.chkErr q else s

/-- The counts of the read of a SHADOW that found `b`, and of its comparison. -/
def shadowCounted (s : State) (x : GridIn) (r : Entry) (found : Option Blk) (b : Blk) : State :=
  let out := r.n FABRIC_PAGE_out
  let s := s.inc FAB_SLICE_CORR_corr s.spare (wordsFor x.corrP out)
  let s := if x.uncorrP.contains out then s.irqSet 169 else s
  s.compare (readBad x r) (x.chkP.contains out || x.uncorrP.contains out) (x.diff.contains out || decide (found ≠ some b))

/-- Every count of a read. -/
def readCounted (s : State) (x : GridIn) (r : Entry) : State :=
  match readShadow s r with
  | some b => shadowCounted (ownCounted s x r) x r (readFound s r) b
  | none => ownCounted s x r

/-- What the counts of a read may change. -/
def m_readCounted : Nat := m_chkErr ||| m_compare ||| m_irqSet ||| 2 ^ 57

theorem ownCounted_frame (s : State) (x : GridIn) (r : Entry) : Frame m_readCounted s (ownCounted s x r) := by
  have hcorr := (Frame.refl m_readCounted s).incS (f := FAB_SLICE_CORR_corr) (by decide +kernel)
    (n := s.physOf (r.n FABRIC_PAGE_rd_slice)) (a := wordsFor x.corr (r.n FABRIC_PAGE_out))
  have hirq := Frame.ite (c := x.uncorr.contains (r.n FABRIC_PAGE_out) = true) (hcorr.step (fr_irqSet _ 169) (by decide)) hcorr
  exact Frame.ite (hirq.step (fr_chkErr ..) (by decide)) hirq

theorem shadowCounted_frame (s : State) (x : GridIn) (r : Entry) (found : Option Blk) (b : Blk) :
    Frame m_readCounted s (shadowCounted s x r found b) := by
  have hcorr := (Frame.refl m_readCounted s).incS (f := FAB_SLICE_CORR_corr) (by decide +kernel)
    (n := s.spare) (a := wordsFor x.corrP (r.n FABRIC_PAGE_out))
  exact (Frame.ite (c := x.uncorrP.contains (r.n FABRIC_PAGE_out) = true)
    (hcorr.step (fr_irqSet _ 169) (by decide)) hcorr).step (fr_compare ..) (by decide)

theorem readCounted_frame (s : State) (x : GridIn) (r : Entry) : Frame m_readCounted s (readCounted s x r) := by
  unfold readCounted
  split
  · exact (ownCounted_frame ..).step (shadowCounted_frame ..) (Nat.or_self _)
  · exact ownCounted_frame ..

/-! ### What a read leaves in the slices -/

@[simp] theorem irqSet_fab (s : State) (src : Nat) : (s.irqSet src).fab = s.fab := (fr_irqSet s src).fab (by decide)

@[simp] theorem compare_locs (s : State) (a b c : Bool) : (s.compare a b c).fab.locs = s.fab.locs := by
  unfold State.compare
  split
  · rfl
  · rw [State.inc_fab]

@[simp] theorem chkErr_locs (s : State) (ph : Nat) : (s.chkErr ph).fab.locs = s.fab.locs :=
  show (s.inc FAB_SLICE_ERR_chk_err ph).fab.locs = s.fab.locs from
    congrArg FabBlock.locs (State.inc_fab s ph 1 FAB_SLICE_ERR_chk_err)

theorem ownCounted_locs (s : State) (x : GridIn) (r : Entry) : (ownCounted s x r).fab.locs = s.fab.locs := by
  unfold ownCounted
  dsimp only
  split_ifs <;> simp

theorem readCounted_locs (s : State) (x : GridIn) (r : Entry) : (readCounted s x r).fab.locs = s.fab.locs := by
  unfold readCounted
  split
  · unfold shadowCounted
    dsimp only
    split_ifs <;> simp [ownCounted_locs]
  · exact ownCounted_locs ..

/-- A read of a sound block without a corrected word, outside an overlap, counts nothing. -/
theorem readCounted_clean {s : State} {x : GridIn} {r : Entry} (hshadow : s.get FAB_COPPICE_state ≠ 1)
    (hchk : r.n FABRIC_PAGE_out ∉ x.chk) (hue : r.n FABRIC_PAGE_out ∉ x.uncorr)
    (hcorr : ∀ p ∈ x.corr, p.1 ≠ r.n FABRIC_PAGE_out) :
    readCounted s x r = s.inc FAB_SLICE_CORR_corr (s.physOf (r.n FABRIC_PAGE_rd_slice)) 0 := by
  have hwords : wordsFor x.corr (r.n FABRIC_PAGE_out) = 0 := by
    unfold wordsFor
    rw [List.filter_eq_nil_iff.2 fun p hp => by simpa using hcorr p hp]
    rfl
  have hnone : readShadow s r = none := if_neg fun h => hshadow h.1
  unfold readCounted
  rw [hnone]
  simp [ownCounted, readBad, hchk, hue, hwords]

/-! ### What a read delivers -/

section
variable {s : State} (x : GridIn) {r : Entry} (hbridge : s.bridgeOff r = false)
include hbridge

/-- The block that a read delivers, after its counts. -/
theorem readBlk_eq : s.readBlk x r =
    match readFound s r with
    | some b => (if (readCounted s x r).storedNosrc (s.physOf (r.n FABRIC_PAGE_rd_slice))
          (pairOf (r.n FABRIC_PAGE_rd_slice) (s.sourceOf r).1) ((readCounted s x r).fab.gp - (s.sourceOf r).2)
        then (readCounted s x r).noteLost (r.n FABRIC_PAGE_out) else readCounted s x r, if readBad x r then b.failed else b)
    | none => ((((readCounted s x r).inc FAB_ERR_stale).irqSet 167).noteLost (r.n FABRIC_PAGE_out), failBlk) := by
  have hon : ¬ s.bridgeOff r = true := by simp [hbridge]
  exact if_neg hon

end

theorem noteLost_keep (s : State) (out : Nat) : Keep s (s.noteLost out) [.fab] := by
  refine ⟨fun p hp => ?_, rfl⟩
  cases p
  case fab => exact absurd List.mem_cons_self hp
  all_goals rfl

theorem keep_inc (s : State) (f : Fld) (n k : Nat) : Keep s (s.inc f n k) [] := keep_set ..

section
variable {s : State} (x : GridIn) {r : Entry} {b : Blk} (hbridge : s.bridgeOff r = false) (hfound : readFound s r = some b)
include hbridge hfound

theorem readBlk_of_found : s.readBlk x r = ((s.readBlk x r).1, if readBad x r then b.failed else b) ∧
    ((s.readBlk x r).1 = readCounted s x r ∨ (s.readBlk x r).1 = (readCounted s x r).noteLost (r.n FABRIC_PAGE_out)) := by
  rw [readBlk_eq x hbridge, hfound]
  refine ⟨rfl, ?_⟩
  dsimp only
  split
  · exact .inr rfl
  · exact .inl rfl

theorem readBlk_locs : (s.readBlk x r).1.fab.locs = s.fab.locs := by
  rcases (readBlk_of_found x hbridge hfound).2 with h | h
  · rw [h, readCounted_locs]
  · rw [h]
    exact readCounted_locs ..

/-- A read of a sound block delivers it, and counts nothing outside an overlap. -/
theorem readBlk_sound (hchk : r.n FABRIC_PAGE_out ∉ x.chk) (hue : r.n FABRIC_PAGE_out ∉ x.uncorr) : (s.readBlk x r).2 = b ∧
    (s.get FAB_COPPICE_state ≠ 1 → (∀ p ∈ x.corr, p.1 ≠ r.n FABRIC_PAGE_out) →
      Keep s (s.readBlk x r).1 [.fab] ∧ KeepRegs s (s.readBlk x r).1 [] []) := by
  obtain ⟨hout, hstate⟩ := readBlk_of_found x hbridge hfound
  refine ⟨?_, fun hshadow hcorr => ?_⟩
  · rw [hout]
    exact if_neg (by simp [readBad, hchk, hue])
  · have hkeep : Keep s (readCounted s x r) [.fab] := by
      rw [readCounted_clean hshadow hchk hue hcorr]
      exact keep_mono (keep_inc ..) (by decide)
    have hreg : ∀ k, (readCounted s x r).reg k = s.reg k := by
      rw [readCounted_clean hshadow hchk hue hcorr]
      exact inc_zero_reg s (by decide) _
    rcases hstate with h | h
    · rw [h]
      exact ⟨hkeep, fun k _ _ _ => hreg k⟩
    · rw [h]
      exact ⟨keep_trans hkeep (noteLost_keep ..), fun k _ _ _ => hreg k⟩

/-- A read whose block check fails, or of an uncorrectable word, marks the block (R130). -/
theorem readBlk_bad (h : r.n FABRIC_PAGE_out ∈ x.chk ∨ r.n FABRIC_PAGE_out ∈ x.uncorr) : (s.readBlk x r).2 = b.failed := by
  rw [(readBlk_of_found x hbridge hfound).1]
  exact if_pos (by simpa [readBad] using h)

end

/-- A read that finds no block of its grid period counts a stale read (R129). -/
theorem readBlk_stale {s : State} (x : GridIn) {r : Entry} (hbridge : s.bridgeOff r = false) (hnone : readFound s r = none) :
    (s.readBlk x r).2 = failBlk ∧
      (s.readBlk x r).1.get FAB_ERR_stale = min (s.get FAB_ERR_stale + 1) (top FAB_ERR_stale) := by
  rw [readBlk_eq x hbridge, hnone]
  refine ⟨rfl, ?_⟩
  calc _ = ((readCounted s x r).inc FAB_ERR_stale).get FAB_ERR_stale := (fr_irqSet _ 167).get (by decide +kernel) 0
    _ = min ((readCounted s x r).get FAB_ERR_stale + 1) (top FAB_ERR_stale) := get_inc _ _ _ (by decide) (by decide)
    _ = _ := by rw [(readCounted_frame s x r).get (by decide +kernel)]

/-! ### The whole of R126 to R130 -/

/-- Settles O30: the write by the locations of its writers, the read by what it finds. -/
theorem slotBlocksPassThroughSlices : Obligations.SlotBlocksPassThroughSlices := by
  unfold Obligations.SlotBlocksPassThroughSlices
  refine ⟨fun s ls wc b nosrc ph wc' g' hwc hwc' hph => ?_, fun s x r b hbridge hlag hstored => ?_,
    fun s x r hbridge hlag hstored => ?_, fun s x r hbridge => if_pos hbridge⟩
  · refine ⟨_, rfl, ?_, storedNosrc_writeBlk_same s hwc b nosrc hph, fun hother => ?_, fun o ho => ?_, ?_⟩
    · rw [stored_writeBlk_same s hwc b nosrc hph rfl, if_neg (not_not.2 rfl)]
    · exact stored_writeBlk_other s hwc b nosrc hwc' fun h => hother h.2
    · exact stored_writeBlk_other s hwc b nosrc hwc' fun h => ho h.1
    · rw [stored_writeBlk_same s hwc b nosrc hph (by omega), if_pos (by omega)]
  · have hfound : readFound s r = some b := (if_pos hlag).trans hstored
    exact ⟨readBlk_locs x hbridge hfound, readBlk_sound x hbridge hfound, readBlk_bad x hbridge hfound⟩
  · exact readBlk_stale x hbridge ((if_pos hlag).trans hstored)

end Sys2Proof.Fabric
end

section
/-!
The status of a physical slice (R144 to R148): what a failed slice shows and records, and what a halted rotation shows.
-/
namespace Sys2Proof.Fabric

open Sys2Proof.Machine Sys2Proof.Safety Sys2Proof.Scope Sys2Proof.Architecture Sys2Proof.Framing Sys2Proof.Mapping
open Sys2Proof.Laws hiding maskOf put

theorem newCycle_fab (s : State) : s.newCycle.fab = s.fab := (fr_newCycle s).fab (by decide)

/-! ### Loops -/

/-- A loop keeps what its round for each element of its list keeps. -/
theorem forEach_keeps_on {α σ β : Type} (p : σ → β) {f : σ → α → σ} {l : List α} (h : ∀ a ∈ l, ∀ s, p (f s a) = p s) (s : σ) :
    p (forEach l s f) = p s := by
  induction l generalizing s with
  | nil => rfl
  | cons a l ih =>
    obtain ⟨ha, hl⟩ := List.forall_mem_cons.1 h
    rw [forEach_cons, ih hl, ha]

/-- What one round of a loop brings about, and no other round undoes, holds after the loop. -/
theorem forEach_reaches {α σ : Type} {Q : σ → Prop} {f : σ → α → σ} {a : α} {l : List α} (ha : a ∈ l) (hself : ∀ s, Q (f s a))
    (hkeep : ∀ b ∈ l, b ≠ a → ∀ s, Q s → Q (f s b)) (s : σ) : Q (forEach l s f) := by
  have hstep : ∀ b ∈ l, ∀ s, Q s → Q (f s b) := fun b hb s hs =>
    (Classical.em (b = a)).elim (fun e => e ▸ hself s) fun hne => hkeep b hb hne s hs
  obtain ⟨l₁, l₂, rfl⟩ := List.append_of_mem ha
  unfold forEach
  rw [List.foldl_append, List.foldl_cons]
  refine List.foldlRecOn l₂ f (hself _) fun s hs b hb => hstep b ?_ s hs
  exact List.mem_append_right _ (List.mem_cons_of_mem _ hb)

/-! ### Fields of FAB_SLICE_ST and FAB_COPPICE -/

/-- The fields of FAB_SLICE_ST that say what a slice does. -/
def sliceFlds : List Fld := [FAB_SLICE_ST_state, FAB_SLICE_ST_suspect, FAB_SLICE_ST_cause, FAB_SLICE_ST_logical]

theorem sliceFlds_register : ∀ f ∈ sliceFlds, f.base = 0x4100 ∧ f.stride = 0x10 ∧ f.count = 21 ∧ f.hi < 32 := by decide

theorem sliceFlds_apart_report : ∀ f ∈ sliceFlds, Laws.apart m_report f = true := by decide +kernel

theorem sliceFlds_apart_coppice :
    ∀ f ∈ sliceFlds, Laws.apart m_haltCoppice f = true ∧ Laws.apart m_restartCoppice f = true := by decide +kernel

section
variable (s : State) (v : Nat) {f g : Fld} {n ph : Nat}

theorem get_set_slice_same (hf : f ∈ sliceFlds) (hph : ph < 21) : (s.set f v ph).get f ph = v % 2 ^ (f.hi + 1 - f.lo) := by
  obtain ⟨-, -, hcount, h32⟩ := sliceFlds_register f hf
  exact State.get_set_same s f v ph (hcount ▸ hph) h32

theorem get_set_slice_other (hf : f ∈ sliceFlds) (hg : g ∈ sliceFlds) (hn : n ≠ ph) : (s.set f v ph).get g n = s.get g n := by
  obtain ⟨hfbase, hfstride, -, h32⟩ := sliceFlds_register f hf
  obtain ⟨hgbase, hgstride, -, -⟩ := sliceFlds_register g hg
  refine State.get_set_apart s f g v ph n h32 (.inl ?_)
  unfold Fld.key
  rw [hfbase, hfstride, hgbase, hgstride]
  omega

end

/-! ### A failed slice -/

/-- A slice is FAILED with a cause, and serves no logical slice. -/
structure SliceFailed (t : State) (ph cause : Nat) : Prop where
  state : t.get FAB_SLICE_ST_state ph = 3
  cause : t.get FAB_SLICE_ST_cause ph = cause
  logical : t.get FAB_SLICE_ST_logical ph = 31

theorem SliceFailed.of_get {s t : State} {ph cause : Nat} (h : SliceFailed s ph cause)
    (hget : ∀ f ∈ sliceFlds, t.get f ph = s.get f ph) : SliceFailed t ph cause :=
  ⟨(hget _ (by decide)).trans h.state, (hget _ (by decide)).trans h.cause, (hget _ (by decide)).trans h.logical⟩

/-- The registers of a slice that has failed. -/
def sliceMarked (s : State) (ph cause : Nat) : State :=
  ((s.set FAB_SLICE_ST_state 3 ph).set FAB_SLICE_ST_cause cause ph).set FAB_SLICE_ST_logical 31 ph

section
variable (s : State) {f : Fld} {n ph cause : Nat} (count : Nat)

theorem sliceFail_eq : s.sliceFail ph cause count = (sliceMarked s ph cause).report kSLICE_FAIL
    [(1, ph), (1, cause), (1, s.get FAB_SLICE_ST_logical ph), (2, count)] := rfl

theorem sliceFail_get (hf : f ∈ sliceFlds) : (s.sliceFail ph cause count).get f n = (sliceMarked s ph cause).get f n :=
  (fr_report ..).get (sliceFlds_apart_report f hf) n

theorem sliceFail_failed (hph : ph < 21) (hcause : cause < 4) : SliceFailed (s.sliceFail ph cause count) ph cause := by
  refine SliceFailed.of_get (s := sliceMarked s ph cause) ?_ fun f hf => sliceFail_get s count hf
  unfold sliceMarked
  constructor
  · rw [get_set_bits (by decide), get_set_bits (by decide), get_set_slice_same _ _ (by decide) hph]
    rfl
  · rw [get_set_bits (by decide), get_set_slice_same _ _ (by decide) hph]
    exact Nat.mod_eq_of_lt hcause
  · rw [get_set_slice_same _ _ (by decide) hph]
    rfl

theorem sliceFail_suspect : (s.sliceFail ph cause count).get FAB_SLICE_ST_suspect n = s.get FAB_SLICE_ST_suspect n := by
  rw [sliceFail_get s count (by decide), sliceMarked, get_set_bits (by decide), get_set_bits (by decide),
    get_set_bits (by decide)]

theorem sliceFail_other (hf : f ∈ sliceFlds) (hn : n ≠ ph) : (s.sliceFail ph cause count).get f n = s.get f n := by
  rw [sliceFail_get s count hf, sliceMarked, get_set_slice_other _ _ (by decide) hf hn,
    get_set_slice_other _ _ (by decide) hf hn, get_set_slice_other _ _ (by decide) hf hn]

theorem sliceMarked_rcd : (sliceMarked s ph cause).rcd = s.rcd := by simp only [sliceMarked, State.set_rcd]

theorem sliceMarked_img : (sliceMarked s ph cause).img = s.img := by simp only [sliceMarked, State.set_img]

theorem sliceMarked_cyc : (sliceMarked s ph cause).cyc = s.cyc := by simp only [sliceMarked, State.set_cyc]

end

/-! ### A halted rotation -/

theorem haltCoppice_state (s : State) : s.haltCoppice.get FAB_COPPICE_state = 2 := by
  unfold State.haltCoppice State.setB
  rw [get_set_bits (by decide), get_set_bits (by decide), get_set_bits (by decide),
    State.get_set_same _ _ _ _ (by decide) (by decide)]
  rfl

theorem haltCoppice_spare (s : State) : s.haltCoppice.get FAB_COPPICE_spare = 31 := by
  unfold State.haltCoppice State.setB
  rw [get_set_bits (by decide), get_set_bits (by decide), State.get_set_same _ _ _ _ (by decide) (by decide)]
  rfl

theorem haltCoppice_rcd (s : State) : s.haltCoppice.rcd = s.rcd := (fr_haltCoppice s).rcd (by decide)

/-! ### The records of a port -/

/-- The records of a group that wait in its port. -/
abbrev waiting (s : State) (group : Nat) : Nat := (s.rcd.offers.filter fun o => o.typ / 256 == group).length

/-- Whether a record would be offered: its severity is kept, and its port has room (R384). -/
def Offers (s : State) (k : RecKind) : Prop := k.sev ≤ s.gl RECORDS_keep_sev ∧ waiting s k.group < 32

theorem offerRec_offers {s : State} {k : RecKind} (payload : List Byte) (h : Offers s k) :
    (s.offerRec k payload).rcd.offers = s.rcd.offers ++ [⟨s.cyc, k.typ, k.sev, k.sec, payload⟩] := by
  unfold State.offerRec
  rw [if_neg (Nat.not_lt.2 h.1), if_neg (Nat.not_le.2 h.2)]

theorem offerRec_not_offers {s : State} {k : RecKind} (payload : List Byte) (h : ¬ Offers s k) :
    (s.offerRec k payload).rcd.offers = s.rcd.offers := by
  unfold State.offerRec
  split
  · rfl
  · next hsev =>
    rw [if_pos (Nat.not_lt.1 fun hroom => h ⟨Nat.not_lt.1 hsev, hroom⟩), (fr_irqSet ..).rcd (by decide), State.inc_rcd]

theorem report_offers_eq (s : State) (k : RecKind) (fields : List (Nat × Nat)) :
    (s.report k fields).rcd.offers = (s.offerRec k (payloadOf fields)).rcd.offers := by
  unfold State.report
  cases k.src with
  | none => rfl
  | some src =>
    have hset := fr_irqSet s src
    exact offerRec_offers_congr (hset.rcd (by decide)) (hset.img (by decide)) (hset.cyc (by decide)) ..

section
variable {s : State} {k : RecKind} (fields : List (Nat × Nat))

theorem report_offers (h : Offers s k) :
    (s.report k fields).rcd.offers = s.rcd.offers ++ [⟨s.cyc, k.typ, k.sev, k.sec, payloadOf fields⟩] :=
  (report_offers_eq ..).trans (offerRec_offers _ h)

/-- A report adds one record at most. -/
theorem report_adds : ∃ l : List Offer, l.length ≤ 1 ∧ (s.report k fields).rcd.offers = s.rcd.offers ++ l := by
  by_cases h : Offers s k
  · exact ⟨_, le_rfl, report_offers fields h⟩
  · refine ⟨[], Nat.zero_le _, ?_⟩
    rw [report_offers_eq, offerRec_not_offers _ h, List.append_nil]

theorem report_waiting (group : Nat) : waiting (s.report k fields) group ≤ waiting s group + 1 := by
  obtain ⟨l, hl, hadds⟩ := report_adds (s := s) (k := k) fields
  unfold waiting
  rw [hadds, List.filter_append, List.length_append]
  have hfilter := List.length_filter_le (fun o : Offer => o.typ / 256 == group) l
  omega

theorem mem_report {o : Offer} (h : o ∈ s.rcd.offers) : o ∈ (s.report k fields).rcd.offers := by
  obtain ⟨l, -, hadds⟩ := report_adds (s := s) (k := k) fields
  rw [hadds]
  exact List.mem_append_left _ h

end

/-! ### The record of a failed slice -/

/-- What a SLICE_FAIL record says (R146): the slice, the cause, the logical slice that it served, and the count. -/
def failFields (s : State) (ph cause count : Nat) : List (Nat × Nat) :=
  [(1, ph), (1, cause), (1, s.get FAB_SLICE_ST_logical ph), (2, count)]

section
variable {s : State} (ph cause count : Nat)

theorem sliceFail_offers_eq :
    (s.sliceFail ph cause count).rcd.offers = (s.report kSLICE_FAIL (failFields s ph cause count)).rcd.offers := by
  rw [sliceFail_eq]
  exact report_offers_congr (sliceMarked_rcd s) (sliceMarked_img s) (sliceMarked_cyc s) ..

theorem payloadOf_failFields : payloadOf (failFields s ph cause count) =
    leBytes 1 ph ++ leBytes 1 cause ++ leBytes 1 (s.get FAB_SLICE_ST_logical ph) ++ leBytes 2 count := by
  simp only [failFields, payloadOf, List.flatMap_cons, List.flatMap_nil, List.append_nil, List.append_assoc]

end

end Sys2Proof.Fabric
end

section
/-!
The background self-test of the SPARE slice (R145), and a rotation that falls due (R149).
-/
namespace Sys2Proof.Fabric

open Sys2Proof.Machine Sys2Proof.Safety Sys2Proof.Scope Sys2Proof.Architecture Sys2Proof.Framing Sys2Proof.Mapping
open Sys2Proof.Laws hiding maskOf put

/-- The state with another list of slices whose last self-test pass failed. -/
def withTestBad (s : State) (l : List Nat) : State := { s with fab := { s.fab with testBad := l } }

/-- A clean pass of slice `p`. -/
def sparePassed (s : State) (p : Nat) : State :=
  (withTestBad s (s.fab.testBad.filter (· != p))).set FAB_SLICE_TEST_last_pass (s.get TMC_SEC_LO_sec_lo) p

/-- A first failed pass of slice `p`. -/
def spareSuspected (s : State) (p : Nat) : State :=
  withTestBad (s.setB FAB_SLICE_ST_suspect true p) ((s.setB FAB_SLICE_ST_suspect true p).fab.testBad ++ [p])

/-- The registers and the list of a slice `p` whose pass fails again, before it is FAILED. -/
def spareAgain (s : State) (p : Nat) : State :=
  withTestBad (s.setB FAB_SLICE_ST_suspect true p) ((s.setB FAB_SLICE_ST_suspect true p).fab.testBad.filter (· != p))

/-- A second failed pass of slice `p`. -/
def spareFailed (s : State) (p : Nat) : State := ((spareAgain s p).sliceFail p 2 2).haltCoppice

section
variable {s : State} {p : Nat} (hstate : s.get FAB_COPPICE_state = 0) (hspare : s.get FAB_COPPICE_spare = p) (hp : p < 21)
include hstate hspare hp

theorem effSpareSelfTestPass_eq (clean : Bool) : effSpareSelfTestPass clean s =
    if clean then sparePassed s p else if s.fab.testBad.contains p then spareFailed s p else spareSuspected s p := by
  have hruns : ¬ (s.get FAB_COPPICE_state ≠ 0 ∨ 21 ≤ s.spare) := by
    unfold State.spare
    omega
  subst hspare
  exact if_neg hruns

end

section
variable (s : State) {p : Nat}

theorem sparePassed_shows (hp : p < 21) : (sparePassed s p).get FAB_SLICE_TEST_last_pass p = s.get TMC_SEC_LO_sec_lo ∧
    p ∉ (sparePassed s p).fab.testBad ∧ (sparePassed s p).get FAB_SLICE_ST_state p = s.get FAB_SLICE_ST_state p := by
  unfold sparePassed
  refine ⟨?_, ?_, get_set_sibling (by decide) ..⟩
  · rw [State.get_set_same _ _ _ _ hp (by decide)]
    exact Nat.mod_eq_of_lt (get_lt s TMC_SEC_LO_sec_lo 0)
  · rw [State.set_fab]
    simp [withTestBad]

theorem setSuspect_on (hp : p < 21) : (s.setB FAB_SLICE_ST_suspect true p).on FAB_SLICE_ST_suspect p = true :=
  State.on_setB_same s _ true p hp (by decide) rfl

theorem spareSuspected_shows (hp : p < 21) : (spareSuspected s p).on FAB_SLICE_ST_suspect p = true ∧
    (spareSuspected s p).fab.testBad = s.fab.testBad ++ [p] ∧
    (spareSuspected s p).get FAB_SLICE_ST_state p = s.get FAB_SLICE_ST_state p := by
  refine ⟨setSuspect_on s hp, ?_, get_set_bits (by decide) ..⟩
  show (s.setB FAB_SLICE_ST_suspect true p).fab.testBad ++ [p] = _
  rw [State.setB_fab]

theorem spareAgain_logical (n : Nat) : (spareAgain s p).get FAB_SLICE_ST_logical n = s.get FAB_SLICE_ST_logical n :=
  get_set_bits (by decide) ..

theorem spareFailed_shows (hp : p < 21) : (spareFailed s p).on FAB_SLICE_ST_suspect p = true ∧
    SliceFailed (spareFailed s p) p 2 ∧ (spareFailed s p).get FAB_COPPICE_state = 2 ∧
    (spareFailed s p).get FAB_COPPICE_spare = 31 := by
  have hget : ∀ f ∈ sliceFlds, (spareFailed s p).get f p = ((spareAgain s p).sliceFail p 2 2).get f p := fun f hf =>
    (fr_haltCoppice _).get (sliceFlds_apart_coppice f hf).1 p
  refine ⟨?_, (sliceFail_failed _ 2 hp (by decide)).of_get hget, haltCoppice_state _, haltCoppice_spare _⟩
  rw [State.on, hget _ (by decide), sliceFail_suspect]
  exact setSuspect_on s hp

/-- The record of a slice whose self-test fails again. -/
theorem spareFailed_recorded : Recorded s (spareFailed s.newCycle p) kSLICE_FAIL
    (leBytes 1 p ++ leBytes 1 2 ++ leBytes 1 (s.get FAB_SLICE_ST_logical p) ++ leBytes 2 2) := by
  intro hsev hroom
  have hrecorded := report_recorded s kSLICE_FAIL (failFields s p 2 2) hsev hroom
  rw [payloadOf_failFields] at hrecorded
  have hfields : failFields (spareAgain s.newCycle p) p 2 2 = failFields s p 2 2 := by
    unfold failFields
    rw [spareAgain_logical, newCycle_get]
  rw [spareFailed, haltCoppice_rcd, sliceFail_offers_eq, hfields, ← hrecorded]
  exact report_offers_congr (s := s.newCycle) (t := spareAgain s.newCycle p) (s.newCycle.setB_rcd p FAB_SLICE_ST_suspect true)
    (s.newCycle.setB_img p FAB_SLICE_ST_suspect true) (s.newCycle.setB_cyc p FAB_SLICE_ST_suspect true) ..

end

/-! ### The rows -/

/-- What the background self-test of a slice may change. -/
def SpareTested (s t : State) : Prop := Keep s.newCycle t [.rcd, .irq, .perf, .fab, .out] ∧
  KeepRegs s.newCycle t [] [FAB_COPPICE_next_min, FAB_SLICE_ST_rot_ok, FAB_SLICE_TEST_last_pass, EVR_LOSS_drop]

theorem effSpareSelfTestPass_tested (clean : Bool) (s : State) : SpareTested s (effSpareSelfTestPass clean s.newCycle) :=
  ⟨frame_keep (fr_effSpareSelfTestPass ..) (by decide), (fr_effSpareSelfTestPass ..).keepRegs (by decide +kernel)⟩

section
variable {s : State} {p : Nat} (hstate : s.get FAB_COPPICE_state = 0) (hspare : s.get FAB_COPPICE_spare = p) (hp : p < 21)
include hstate hspare hp

theorem execSpareSelfTestPass_eq (clean : Bool) : ∃ t, exec (.spareSelfTestPass clean) s = .next t ∧ SpareTested s t ∧
    t = if clean then sparePassed s.newCycle p
      else if s.fab.testBad.contains p then spareFailed s.newCycle p else spareSuspected s.newCycle p := by
  refine ⟨_, rfl, effSpareSelfTestPass_tested clean s, ?_⟩
  rw [effSpareSelfTestPass_eq (by rwa [newCycle_get]) (by rwa [newCycle_get]) hp, newCycle_fab]

theorem execSpareSelfTestPass_clean : ∃ t, exec (.spareSelfTestPass true) s = .next t ∧
    t.get FAB_SLICE_TEST_last_pass p = s.get TMC_SEC_LO_sec_lo ∧ p ∉ t.fab.testBad ∧
    t.get FAB_SLICE_ST_state p = s.get FAB_SLICE_ST_state p ∧ SpareTested s t := by
  obtain ⟨t, hexec, htested, rfl⟩ := execSpareSelfTestPass_eq hstate hspare hp true
  obtain ⟨hpass, hbad, hkept⟩ := sparePassed_shows s.newCycle hp
  exact ⟨_, hexec, hpass.trans (newCycle_get ..), hbad, hkept.trans (newCycle_get ..), htested⟩

theorem execSpareSelfTestPass_first (hfirst : p ∉ s.fab.testBad) : ∃ t, exec (.spareSelfTestPass false) s = .next t ∧
    t.on FAB_SLICE_ST_suspect p = true ∧ t.fab.testBad = s.fab.testBad ++ [p] ∧
    t.get FAB_SLICE_ST_state p = s.get FAB_SLICE_ST_state p ∧ SpareTested s t := by
  obtain ⟨t, hexec, htested, ht⟩ := execSpareSelfTestPass_eq hstate hspare hp false
  rw [if_neg Bool.false_ne_true, if_neg (by simpa using hfirst)] at ht
  subst ht
  obtain ⟨hsuspect, hbad, hkept⟩ := spareSuspected_shows s.newCycle hp
  exact ⟨_, hexec, hsuspect, hbad.trans (by rw [newCycle_fab]), hkept.trans (newCycle_get ..), htested⟩

theorem execSpareSelfTestPass_second (hsecond : p ∈ s.fab.testBad) : ∃ t, exec (.spareSelfTestPass false) s = .next t ∧
    t.on FAB_SLICE_ST_suspect p = true ∧ SliceFailed t p 2 ∧ t.get FAB_COPPICE_state = 2 ∧ t.get FAB_COPPICE_spare = 31 ∧
    Recorded s t kSLICE_FAIL (leBytes 1 p ++ leBytes 1 2 ++ leBytes 1 (s.get FAB_SLICE_ST_logical p) ++ leBytes 2 2) ∧
    SpareTested s t := by
  obtain ⟨t, hexec, htested, ht⟩ := execSpareSelfTestPass_eq hstate hspare hp false
  rw [if_neg Bool.false_ne_true, if_pos (by simpa using hsecond)] at ht
  subst ht
  obtain ⟨hsuspect, hfailed, hhalted, hnone⟩ := spareFailed_shows s.newCycle hp
  exact ⟨_, hexec, hsuspect, hfailed, hhalted, hnone, spareFailed_recorded s, htested⟩

end

/-- A rotation that falls due waits for the next boundary (R149). -/
theorem execCoppiceDue_waits {s : State} (hstate : s.get FAB_COPPICE_state = 0) (hon : s.fab.on = true) :
    ∃ t, exec .coppiceDue s = .next t ∧ t.fab = { s.fab with due := true } ∧ t.get FAB_COPPICE_next_min = 0 ∧
      t.get FAB_COPPICE_state = 0 ∧ Keep s.newCycle t [.fab] ∧ KeepRegs s.newCycle t [] [FAB_COPPICE_next_min] := by
  have hframe := fr_effCoppiceDue s.newCycle
  have heff : effCoppiceDue s.newCycle =
      ({ s.newCycle with fab := { s.newCycle.fab with due := true } } : State).set FAB_COPPICE_next_min 0 :=
    if_pos ⟨(newCycle_get ..).trans hstate, (congrArg FabBlock.on (newCycle_fab s)).trans hon⟩
  rw [heff] at hframe
  refine ⟨_, congrArg Host.Outcome.next heff, ?_, ?_, ?_, frame_keep hframe (by decide), hframe.keepRegs (by decide +kernel)⟩
  · rw [State.set_fab, newCycle_fab]
  · exact State.get_set_same _ _ _ _ (by decide) (by decide)
  · exact (get_set_bits (by decide) ..).trans ((newCycle_get ..).trans hstate)

end Sys2Proof.Fabric
end

section
/-!
The slices that fail when the fabric leaves reset (R145, R148), and their records.
-/
namespace Sys2Proof.Fabric

open Sys2Proof.Machine Sys2Proof.Safety Sys2Proof.Scope Sys2Proof.Architecture Sys2Proof.Framing Sys2Proof.Mapping
open Sys2Proof.Laws hiding maskOf put

/-! ### A list without its repeats -/

/-- One element of a list, taken where it is new. -/
def takeNew (a : List Nat) (x : Nat) : List Nat := if a.contains x then a else x :: a

theorem nodup_foldl_takeNew (l : List Nat) {a : List Nat} (ha : a.Nodup) : (l.foldl takeNew a).Nodup := by
  induction l generalizing a with
  | nil => exact ha
  | cons x l ih =>
    refine ih ?_
    unfold takeNew
    split
    · exact ha
    · next hx => exact List.nodup_cons.2 ⟨by simpa using hx, ha⟩

theorem mem_foldl_takeNew (l a : List Nat) (y : Nat) : y ∈ l.foldl takeNew a ↔ y ∈ a ∨ y ∈ l := by
  induction l generalizing a with
  | nil => simp
  | cons x l ih =>
    rw [List.foldl_cons, ih, takeNew, List.mem_cons]
    split
    · next hx =>
      have hxa : x ∈ a := by simpa using hx
      exact ⟨fun h => h.imp_right .inr, fun h => h.elim .inl fun h => h.elim (fun e => .inl (e ▸ hxa)) .inr⟩
    · rw [List.mem_cons, or_assoc, or_left_comm]

theorem dedup_nodup (l : List Nat) : (dedup l).Nodup := List.nodup_reverse.2 (nodup_foldl_takeNew l List.nodup_nil)

theorem mem_dedup {l : List Nat} {y : Nat} : y ∈ dedup l ↔ y ∈ l := by
  have h := mem_foldl_takeNew l [] y
  rw [List.mem_nil_iff, false_or] at h
  exact List.mem_reverse.trans h

/-! ### The slices that fail -/

/-- The slices that fail the self-test of a reset. -/
def slicesFailing (s : State) (bad : List Nat) : List Nat :=
  (dedup bad).filter fun ph => decide (ph < 21) && s.get FAB_SLICE_ST_state ph != 3

/-- The state after the self-test. -/
def slicesTested (s : State) (bad : List Nat) : State := forEach (slicesFailing s bad) s fun s ph => s.sliceFail ph 2 1

section
variable {s : State} {bad : List Nat} {ph : Nat}

theorem mem_slicesFailing : ph ∈ slicesFailing s bad ↔ ph ∈ bad ∧ ph < 21 ∧ s.get FAB_SLICE_ST_state ph ≠ 3 := by
  simp only [slicesFailing, List.mem_filter, mem_dedup, Bool.and_eq_true, decide_eq_true_eq, bne_iff_ne]

theorem length_slicesFailing : (slicesFailing s bad).length ≤ 21 := by
  have hsub : slicesFailing s bad ⊆ List.range 21 := fun ph h => List.mem_range.2 (mem_slicesFailing.1 h).2.1
  have hle := (((dedup_nodup bad).filter _).subperm hsub).length_le
  rwa [List.length_range] at hle

theorem slicesTested_failed (h : ph ∈ slicesFailing s bad) : SliceFailed (slicesTested s bad) ph 2 :=
  forEach_reaches (Q := fun t => SliceFailed t ph 2) h (fun t => sliceFail_failed t 1 (mem_slicesFailing.1 h).2.1 (by decide))
    (fun _ _ hne t ht => ht.of_get fun _ hf => sliceFail_other t 1 hf hne.symm) s

theorem slicesTested_other {f : Fld} (hf : f ∈ sliceFlds) (h : ph ∉ slicesFailing s bad) :
    (slicesTested s bad).get f ph = s.get f ph :=
  forEach_keeps_on (fun t : State => t.get f ph) (fun _ ha t => sliceFail_other t 1 hf fun e => h (e ▸ ha)) s

theorem slicesTested_state : (slicesTested s bad).get FAB_SLICE_ST_state ph =
    if ph ∈ bad ∧ ph < 21 then 3 else s.get FAB_SLICE_ST_state ph := by
  by_cases h : ph ∈ slicesFailing s bad
  · obtain ⟨hbad, hlt, -⟩ := mem_slicesFailing.1 h
    rw [(slicesTested_failed h).state, if_pos ⟨hbad, hlt⟩]
  · rw [slicesTested_other (by decide) h]
    split
    · next hin => exact not_not.1 fun hne => h (mem_slicesFailing.2 ⟨hin.1, hin.2, hne⟩)
    · rfl

end

/-! ### Their records -/

theorem sliceFail_gl (s : State) (ph cause count : Nat) (f : ImgFld) : (s.sliceFail ph cause count).gl f = s.gl f := by
  unfold State.gl
  rw [(fr_sliceFail ..).img (by decide)]

theorem sliceFail_waiting (s : State) (ph cause count group : Nat) :
    waiting (s.sliceFail ph cause count) group ≤ waiting s group + 1 := by
  unfold waiting
  rw [sliceFail_offers_eq]
  exact report_waiting _ group

theorem mem_forEach_sliceFail {o : Offer} (l : List Nat) {s : State} (h : o ∈ s.rcd.offers) :
    o ∈ (forEach l s fun s ph => s.sliceFail ph 2 1).rcd.offers := by
  induction l generalizing s with
  | nil => exact h
  | cons a l ih =>
    refine ih ?_
    rw [sliceFail_offers_eq]
    exact mem_report _ h

theorem forEach_sliceFail_waiting (l : List Nat) (s : State) (group : Nat) :
    waiting (forEach l s fun s ph => s.sliceFail ph 2 1) group ≤ waiting s group + l.length := by
  induction l generalizing s with
  | nil => exact le_rfl
  | cons a l ih =>
    have hrest := ih (s.sliceFail a 2 1)
    have hone := sliceFail_waiting s a 2 1 group
    rw [forEach_cons, List.length_cons]
    omega

/-- Each slice that fails leaves its record, where the port has room for all. -/
theorem forEach_sliceFail_offer {l : List Nat} {ph : Nat} (hph : ph ∈ l) {s : State}
    (hsev : kSLICE_FAIL.sev ≤ s.gl RECORDS_keep_sev) (hroom : waiting s kSLICE_FAIL.group + l.length ≤ 32) :
    (⟨s.cyc, kSLICE_FAIL.typ, kSLICE_FAIL.sev, kSLICE_FAIL.sec, payloadOf (failFields s ph 2 1)⟩ : Offer) ∈
      (forEach l s fun s ph => s.sliceFail ph 2 1).rcd.offers := by
  induction l generalizing s with
  | nil => exact absurd hph List.not_mem_nil
  | cons a l ih =>
    rw [List.length_cons] at hroom
    rw [forEach_cons]
    by_cases hne : ph = a
    · refine mem_forEach_sliceFail l ?_
      rw [← hne, sliceFail_offers_eq, report_offers _ ⟨hsev, by omega⟩]
      exact List.mem_append_right _ List.mem_cons_self
    · have hin : ph ∈ l := (List.mem_cons.1 hph).resolve_left hne
      have hone := sliceFail_waiting s a 2 1 kSLICE_FAIL.group
      have hlater := ih hin (s := s.sliceFail a 2 1) (by rwa [sliceFail_gl]) (by omega)
      rwa [(fr_sliceFail ..).cyc (by decide), failFields, sliceFail_other _ _ (by decide) hne] at hlater

end Sys2Proof.Fabric
end

section
/-!
The steering that a reset of the fabric builds (R148): the good slices serve LS_0 to LS_19 in order.
-/
namespace Sys2Proof.Fabric

open Sys2Proof.Machine Sys2Proof.Safety Sys2Proof.Scope Sys2Proof.Architecture Sys2Proof.Framing Sys2Proof.Mapping
open Sys2Proof.Laws hiding maskOf put

/-! ### The steering fields -/

theorem steerFld_eq (ls : Nat) : steerFld ls = ⟨0x4020, 4, 5, 8 * (ls % 4) + 4, 8 * (ls % 4)⟩ := by
  have hlt := Nat.mod_lt ls (show 0 < 4 by decide)
  unfold steerFld
  generalize ls % 4 = k at hlt
  interval_cases k <;> rfl

theorem sliceFlds_apart_steer : ∀ f ∈ sliceFlds, Laws.apart (2 ^ 51) f = true := by decide +kernel

theorem steerFld_covered (ls : Nat) : covered (2 ^ 51) (steerFld ls) = true := by
  unfold steerFld
  split <;> decide +kernel

/-- What the choice of the spare and the wait to the next rotation may change. -/
def m_spareChosen : Nat := m_restartCoppice ||| 2 ^ 56

theorem steerFld_apart (ls : Nat) : Laws.apart m_spareChosen (steerFld ls) = true := by
  unfold steerFld
  split <;> decide +kernel

section
variable (s : State) (v : Nat) {i j : Nat}

theorem physOf_set_same (hi : i < 20) : (s.set (steerFld i) v (i / 4)).physOf i = v % 32 := by
  have hmod := Nat.mod_lt i (show 0 < 4 by decide)
  have h := State.get_set_same s (steerFld i) v (i / 4) (by rw [steerFld_eq]; dsimp only; omega)
    (by rw [steerFld_eq]; dsimp only; omega)
  refine h.trans ?_
  rw [steerFld_eq]
  dsimp only
  rw [show 8 * (i % 4) + 4 + 1 - 8 * (i % 4) = 5 by omega]
  rfl

theorem physOf_set_other (h : j ≠ i) : (s.set (steerFld i) v (i / 4)).physOf j = s.physOf j := by
  have hmod := Nat.mod_lt i (show 0 < 4 by decide)
  refine State.get_set_apart s (steerFld i) (steerFld j) v (i / 4) (j / 4) ?_ ?_
  · rw [steerFld_eq]
    dsimp only
    omega
  · rw [steerFld_eq, steerFld_eq]
    simp only [Fld.key]
    omega

theorem get_set_steer {f : Fld} (hf : f ∈ sliceFlds) (n : Nat) : (s.set (steerFld i) v (i / 4)).get f n = s.get f n :=
  ((Frame.refl (2 ^ 51) s).setS (steerFld_covered i)).get (sliceFlds_apart_steer f hf) n

/-- What writes neither the steering nor a register of the mask of the spare leaves the steering as it is. -/
theorem physOf_of_frame {s t : State} (h : Frame m_spareChosen s t) (i : Nat) : t.physOf i = s.physOf i :=
  h.get (steerFld_apart i) (i / 4)

theorem physOf_set_slice {f : Fld} (hf : f ∈ sliceFlds) (n : Nat) : (s.set f v n).physOf i = s.physOf i := by
  have hcovered : ∀ f ∈ sliceFlds, covered m_spareChosen f = true := by decide +kernel
  exact physOf_of_frame ((Frame.refl _ s).setS (hcovered f hf)) i

end

/-! ### One slice takes up a logical slice -/

/-- Slice `ph` is WORKING and serves logical slice `i`. -/
structure Serves (t : State) (ph i : Nat) : Prop where
  phys : t.physOf i = ph
  state : t.get FAB_SLICE_ST_state ph = 0
  logical : t.get FAB_SLICE_ST_logical ph = i

theorem Serves.of_get {s t : State} {ph i : Nat} (h : Serves s ph i) (hphys : t.physOf i = s.physOf i)
    (hget : ∀ f ∈ sliceFlds, t.get f ph = s.get f ph) : Serves t ph i :=
  ⟨hphys.trans h.phys, (hget _ (by decide)).trans h.state, (hget _ (by decide)).trans h.logical⟩

/-- A slice, the first of a pair, takes up the logical slice that is the second. -/
def takenUp (s : State) (x : Nat × Nat) : State := (s.steer x.2 x.1).set FAB_SLICE_ST_state 0 x.1

section
variable (s : State) {x : Nat × Nat}

theorem takenUp_serves (hph : x.1 < 21) (hi : x.2 < 20) : Serves (takenUp s x) x.1 x.2 := by
  unfold takenUp State.steer
  constructor
  · rw [physOf_set_slice _ _ (by decide), physOf_set_slice _ _ (by decide), physOf_set_same _ _ hi]
    exact Nat.mod_eq_of_lt (by omega)
  · rw [get_set_slice_same _ _ (by decide) hph]
    rfl
  · rw [get_set_bits (by decide), get_set_slice_same _ _ (by decide) hph]
    exact Nat.mod_eq_of_lt (show x.2 < 32 by omega)

theorem takenUp_other {f : Fld} (hf : f ∈ sliceFlds) {n : Nat} (hn : n ≠ x.1) : (takenUp s x).get f n = s.get f n := by
  rw [takenUp, State.steer, get_set_slice_other _ _ (by decide) hf hn, get_set_slice_other _ _ (by decide) hf hn,
    get_set_steer _ _ hf]

theorem takenUp_physOf {i : Nat} (hi : i ≠ x.2) : (takenUp s x).physOf i = s.physOf i := by
  rw [takenUp, State.steer, physOf_set_slice _ _ (by decide), physOf_set_slice _ _ (by decide), physOf_set_other _ _ hi]

end

/-! ### Every good slice -/

/-- Which slice takes up which logical slice. -/
def placesOf (good : List Nat) : List (Nat × Nat) := (good.take 20).zip (List.range 20)

/-- The first 20 good slices take up LS_0 to LS_19. -/
def slicesSteered (s : State) (good : List Nat) : State := forEach (placesOf good) s takenUp

theorem mem_placesOf {good : List Nat} {x : Nat × Nat} : x ∈ placesOf good ↔ x.2 < 20 ∧ good[x.2]? = some x.1 := by
  obtain ⟨ph, i⟩ := x
  unfold placesOf
  rw [List.mem_iff_getElem?]
  constructor
  · rintro ⟨k, hk⟩
    obtain ⟨hph, hrange⟩ := List.getElem?_zip_eq_some.1 hk
    obtain ⟨hlt, rfl⟩ : ∃ h : k < 20, k = i := by simpa [List.getElem?_range] using List.getElem?_eq_some_iff.1 hrange
    exact ⟨hlt, by rwa [List.getElem?_take_of_lt hlt] at hph⟩
  · rintro ⟨hlt, hph⟩
    refine ⟨i, List.getElem?_zip_eq_some.2 ⟨?_, List.getElem?_range hlt⟩⟩
    rwa [List.getElem?_take_of_lt hlt]

section
variable (s : State) {good : List Nat} {i j ph q : Nat}

theorem index_of_nodup (hgood : good.Nodup) (hi : good[i]? = some ph) (hj : good[j]? = some ph) : i = j := by
  obtain ⟨hlt, -⟩ := List.getElem?_eq_some_iff.1 hi
  exact (List.getElem?_inj hlt hgood).1 (hi.trans hj.symm)

theorem slicesSteered_serves (hgood : good.Nodup) (hlt : ∀ ph ∈ good, ph < 21) (hi : i < 20) (hph : good[i]? = some ph) :
    Serves (slicesSteered s good) ph i := by
  refine forEach_reaches (Q := fun t => Serves t ph i) (a := (ph, i)) (mem_placesOf.2 ⟨hi, hph⟩)
    (fun t => takenUp_serves t (hlt ph (List.mem_of_getElem? hph)) hi) (fun x hx hne t ht => ?_) s
  obtain ⟨-, hx⟩ := mem_placesOf.1 hx
  have hlogical : i ≠ x.2 := fun e => hne (Prod.ext (Option.some.inj (hx.symm.trans (e ▸ hph))) e.symm)
  have hslice : ph ≠ x.1 := fun e => hlogical (index_of_nodup hgood hph (e ▸ hx))
  exact ht.of_get (takenUp_physOf t hlogical) fun f hf => takenUp_other t hf hslice

theorem slicesSteered_other {f : Fld} (hf : f ∈ sliceFlds) (h : ∀ i < 20, good[i]? ≠ some ph) :
    (slicesSteered s good).get f ph = s.get f ph := by
  refine forEach_keeps_on (fun t : State => t.get f ph) (fun x hx t => takenUp_other t hf fun e => ?_) s
  obtain ⟨hlt, hx⟩ := mem_placesOf.1 hx
  exact h x.2 hlt (e ▸ hx)

theorem slicesSteered_rcd : (slicesSteered s good).rcd = s.rcd :=
  forEach_keeps State.rcd (fun t x => by simp only [takenUp, State.steer, State.set_rcd]) _ s

end

/-! ### The slice left over -/

/-- Rotation is ready, with slice `q` SPARE. -/
def rotationReady (s : State) (q : Nat) : State :=
  ((s.set FAB_COPPICE_spare q).set FAB_COPPICE_state 0).set FAB_COPPICE_shadow 31

/-- The good slice left over is SPARE; without one the rotation is halted. -/
def spareChosen (s : State) (left : Option Nat) : State :=
  match left with
  | some q => rotationReady (s.set FAB_SLICE_ST_state 1 q) q
  | none => s.haltCoppice

theorem rotationReady_frame (s : State) (q : Nat) : Frame m_haltCoppice s (rotationReady s q) :=
  (((Frame.refl m_haltCoppice s).setS (by decide +kernel)).setS (by decide +kernel)).setS (by decide +kernel)

theorem spareChosen_frame (s : State) (left : Option Nat) : Frame m_spareChosen s (spareChosen s left) := by
  cases left with
  | none => exact (fr_haltCoppice s).mono (by decide)
  | some q => exact ((Frame.refl m_spareChosen s).setS (by decide +kernel)).step (rotationReady_frame ..) (by decide)

theorem spareChosen_other (s : State) {f : Fld} (hf : f ∈ sliceFlds) {left : Option Nat} {n : Nat} (hn : left ≠ some n) :
    (spareChosen s left).get f n = s.get f n := by
  have hapart := (sliceFlds_apart_coppice f hf).1
  cases left with
  | none => exact (fr_haltCoppice s).get hapart n
  | some q =>
    refine ((rotationReady_frame ..).get hapart n).trans (get_set_slice_other _ _ (by decide) hf ?_)
    exact fun e => hn (congrArg some e.symm)

theorem spareChosen_some (s : State) {q : Nat} (hq : q < 21) : (spareChosen s (some q)).get FAB_SLICE_ST_state q = 1 ∧
    (spareChosen s (some q)).get FAB_COPPICE_spare = q ∧ (spareChosen s (some q)).get FAB_COPPICE_state = 0 := by
  have hapart := (sliceFlds_apart_coppice FAB_SLICE_ST_state (by decide)).1
  refine ⟨((rotationReady_frame ..).get hapart q).trans (get_set_slice_same _ _ (by decide) hq), ?_, ?_⟩
  · show (rotationReady _ q).get FAB_COPPICE_spare = q
    rw [rotationReady, get_set_bits (by decide), get_set_bits (by decide), State.get_set_same _ _ _ _ (by decide) (by decide)]
    exact Nat.mod_eq_of_lt (show q < 32 by omega)
  · show (rotationReady _ q).get FAB_COPPICE_state = 0
    rw [rotationReady, get_set_bits (by decide), State.get_set_same _ _ _ _ (by decide) (by decide)]
    rfl

end Sys2Proof.Fabric
end

section
/-!
The fabric leaves reset as a whole (R148), and the statement of R145, R148 and R149.
-/
namespace Sys2Proof.Fabric

open Sys2Proof.Machine Sys2Proof.Safety Sys2Proof.Scope Sys2Proof.Architecture Sys2Proof.Framing Sys2Proof.Mapping
open Sys2Proof.Laws hiding maskOf put

/-! ### The stages -/

/-- The slices that are not FAILED, lowest number first. -/
def goodSlices (s : State) : List Nat := (List.range 21).filter fun ph => s.get FAB_SLICE_ST_state ph != 3

/-- No slice serves a logical slice. -/
def logicalsCleared (s : State) : State := forEach (List.range 21) s fun s ph => s.set FAB_SLICE_ST_logical 31 ph

/-- The fabric stays disabled, and no rotation runs. -/
def fabricOff (s : State) : State := { s.haltCoppice with fab := { s.haltCoppice.fab with on := false, locs := [] } }

/-- With fewer than 20 good slices the fabric stays disabled, with a FABRIC_FAIL record of those that failed. -/
def fabricDisabled (s : State) (failed : Nat) : State := (fabricOff s).report kFABRIC_FAIL [(1, failed)]

/-- The fabric is enabled, and the wait to the next rotation starts. -/
def fabricEnabled (s : State) : State :=
  ({ s with fab := { s.fab with on := true, locs := [], testBad := [], degr := [], blameP := none } } : State).restartCoppice

/-- The steering of 20 good slices or more. -/
def fabricSteered (s : State) (good : List Nat) : State := fabricEnabled (spareChosen (slicesSteered s good) good[20]?)

theorem fabricTest_eq (s : State) (bad : List Nat) : s.fabricTest bad =
    let good := goodSlices (slicesTested s bad)
    if good.length < 20 then fabricDisabled (logicalsCleared (slicesTested s bad)) (21 - good.length)
    else fabricSteered (logicalsCleared (slicesTested s bad)) good := by
  unfold State.fabricTest
  dsimp only
  rfl

/-! ### The slices in use and out of use -/

theorem logicalsCleared_logical (s : State) {n : Nat} (hn : n < 21) : (logicalsCleared s).get FAB_SLICE_ST_logical n = 31 :=
  forEach_reaches (Q := fun t : State => t.get FAB_SLICE_ST_logical n = 31) (List.mem_range.2 hn)
    (fun t => get_set_slice_same t 31 (by decide) hn)
    (fun _ _ hne t ht => (get_set_slice_other t 31 (by decide) (by decide) hne.symm).trans ht) s

theorem logicalsCleared_other (s : State) {f : Fld} (hf : f.hi < 16 ∨ 20 < f.lo) (n : Nat) :
    (logicalsCleared s).get f n = s.get f n :=
  forEach_keeps_on (fun t : State => t.get f n) (fun _ _ _ => get_set_bits ⟨by decide, hf.symm⟩ ..) s

theorem logicalsCleared_rcd (s : State) : (logicalsCleared s).rcd = s.rcd :=
  forEach_keeps_on State.rcd (fun _ _ _ => State.set_rcd ..) s

/-- The good slices of a self-test: those that neither had FAILED nor fail. -/
theorem goodSlices_slicesTested (s : State) (bad : List Nat) : goodSlices (slicesTested s bad) =
    (List.range 21).filter fun ph => s.get FAB_SLICE_ST_state ph != 3 && !bad.contains ph := by
  refine List.filter_congr fun ph hph => ?_
  rw [slicesTested_state]
  by_cases hbad : ph ∈ bad
  · simp [hbad, List.mem_range.1 hph]
  · simp [hbad]

theorem goodSlices_nodup (s : State) : (goodSlices s).Nodup := List.nodup_range.filter _

theorem lt_of_mem_goodSlices {s : State} {ph : Nat} (h : ph ∈ goodSlices s) : ph < 21 :=
  List.mem_range.1 (List.mem_of_mem_filter h)

/-- A slice that is not good is FAILED and serves no logical slice; where it failed in this self-test its cause is 2. -/
structure OutOfUse (s t : State) (ph : Nat) : Prop where
  state : t.get FAB_SLICE_ST_state ph = 3
  logical : t.get FAB_SLICE_ST_logical ph = 31
  cause : s.get FAB_SLICE_ST_state ph ≠ 3 → t.get FAB_SLICE_ST_cause ph = 2

theorem OutOfUse.of_get {s t u : State} {ph : Nat} (h : OutOfUse s t ph) (hget : ∀ f ∈ sliceFlds, u.get f ph = t.get f ph) :
    OutOfUse s u ph :=
  ⟨(hget _ (by decide)).trans h.state, (hget _ (by decide)).trans h.logical, fun hs => (hget _ (by decide)).trans (h.cause hs)⟩

section
variable {s : State} {bad : List Nat} {ph : Nat} (hlt : ph < 21) (hbad : ph ∉ goodSlices (slicesTested s bad))
include hlt hbad

theorem state_of_not_good : (slicesTested s bad).get FAB_SLICE_ST_state ph = 3 := by
  by_contra hne
  exact hbad (List.mem_filter.2 ⟨List.mem_range.2 hlt, bne_iff_ne.2 hne⟩)

theorem mem_slicesFailing_of_not_good (hs : s.get FAB_SLICE_ST_state ph ≠ 3) : ph ∈ slicesFailing s bad := by
  have hstate := state_of_not_good hlt hbad
  by_contra hnot
  exact hs ((slicesTested_other (by decide) hnot).symm.trans hstate)

theorem logicalsCleared_outOfUse : OutOfUse s (logicalsCleared (slicesTested s bad)) ph where
  state := (logicalsCleared_other _ (by decide) ph).trans (state_of_not_good hlt hbad)
  logical := logicalsCleared_logical _ hlt
  cause hs := (logicalsCleared_other _ (by decide) ph).trans
    (slicesTested_failed (mem_slicesFailing_of_not_good hlt hbad hs)).cause

end

/-! ### The fabric disabled -/

section
variable (s : State) (failed : Nat)

theorem fabricDisabled_get {f : Fld} (hf : f ∈ sliceFlds) (n : Nat) : (fabricDisabled s failed).get f n = s.get f n :=
  ((fr_report ..).get (sliceFlds_apart_report f hf) n).trans ((fr_haltCoppice s).get (sliceFlds_apart_coppice f hf).1 n)

theorem fabricDisabled_on : (fabricDisabled s failed).fab.on = false := congrArg FabBlock.on ((fr_report ..).fab (by decide))

theorem fabricDisabled_offers : (fabricDisabled s failed).rcd.offers = (s.report kFABRIC_FAIL [(1, failed)]).rcd.offers := by
  have hframe := fr_haltCoppice s
  have hrcd : (fabricOff s).rcd = s.rcd := hframe.rcd (by decide)
  have himg : (fabricOff s).img = s.img := hframe.img (by decide)
  have hcyc : (fabricOff s).cyc = s.cyc := hframe.cyc (by decide)
  exact report_offers_congr hrcd himg hcyc ..

end

/-! ### The fabric steered -/

theorem fabricEnabled_get (s : State) {f : Fld} (hf : Laws.apart m_restartCoppice f = true) (n : Nat) :
    (fabricEnabled s).get f n = s.get f n := (fr_restartCoppice _).get hf n

theorem fabricEnabled_rotation (s : State) : (fabricEnabled s).get FAB_COPPICE_spare = s.get FAB_COPPICE_spare ∧
    (fabricEnabled s).get FAB_COPPICE_state = s.get FAB_COPPICE_state :=
  ⟨get_set_bits (by decide) .., get_set_bits (by decide) ..⟩

theorem fabricEnabled_physOf (s : State) (i : Nat) : (fabricEnabled s).physOf i = s.physOf i :=
  physOf_of_frame ((fr_restartCoppice _).mono (by decide)) i

section
variable (s : State) {good : List Nat}

theorem fabricSteered_fab : (fabricSteered s good).fab.on = true ∧ (fabricSteered s good).fab.locs = [] := by
  unfold fabricSteered fabricEnabled State.restartCoppice
  rw [State.set_fab]
  exact ⟨rfl, rfl⟩

theorem fabricSteered_rcd : (fabricSteered s good).rcd = s.rcd :=
  ((fr_restartCoppice _).rcd (by decide)).trans (((spareChosen_frame ..).rcd (by decide)).trans (slicesSteered_rcd s))

theorem fabricSteered_get {f : Fld} (hf : f ∈ sliceFlds) (n : Nat) :
    (fabricSteered s good).get f n = (spareChosen (slicesSteered s good) good[20]?).get f n :=
  fabricEnabled_get _ (sliceFlds_apart_coppice f hf).2 n

theorem fabricSteered_other {f : Fld} (hf : f ∈ sliceFlds) {ph : Nat} (h : ph ∉ good) :
    (fabricSteered s good).get f ph = s.get f ph := by
  have hne : ∀ i : Nat, good[i]? ≠ some ph := fun i e => h (List.mem_of_getElem? e)
  rw [fabricSteered_get s hf, spareChosen_other _ hf (hne 20), slicesSteered_other s hf fun i _ => hne i]

theorem fabricSteered_serves (hgood : good.Nodup) (hlt : ∀ ph ∈ good, ph < 21) {i ph : Nat} (hi : i < 20)
    (hph : good[i]? = some ph) : Serves (fabricSteered s good) ph i := by
  refine (slicesSteered_serves s hgood hlt hi hph).of_get ?_ fun f hf => ?_
  · exact (fabricEnabled_physOf ..).trans (physOf_of_frame (spareChosen_frame ..) i)
  · rw [fabricSteered_get s hf, spareChosen_other _ hf]
    exact fun h20 => absurd (index_of_nodup hgood hph h20) (by omega)

theorem fabricSteered_spare (hlt : ∀ ph ∈ good, ph < 21) {q : Nat} (hq : good[20]? = some q) :
    (fabricSteered s good).get FAB_SLICE_ST_state q = 1 ∧ (fabricSteered s good).get FAB_COPPICE_spare = q ∧
      (fabricSteered s good).get FAB_COPPICE_state = 0 := by
  obtain ⟨hstate, hspare, hready⟩ := spareChosen_some (slicesSteered s good) (hlt q (List.mem_of_getElem? hq))
  rw [← hq] at hstate hspare hready
  exact ⟨(fabricSteered_get s (by decide) q).trans hstate, (fabricEnabled_rotation _).1.trans hspare,
    (fabricEnabled_rotation _).2.trans hready⟩

theorem fabricSteered_none (hnone : good[20]? = none) : (fabricSteered s good).get FAB_COPPICE_spare = 31 ∧
    (fabricSteered s good).get FAB_COPPICE_state = 2 := by
  unfold fabricSteered
  rw [hnone, (fabricEnabled_rotation _).1, (fabricEnabled_rotation _).2]
  exact ⟨haltCoppice_spare _, haltCoppice_state _⟩

end

/-! ### The records of a reset -/

section
variable {s : State} (bad : List Nat) (hroom : waiting s kFABRIC_FAIL.group < 11)

/-- The state that the self-test leaves, before the steering is built. -/
abbrev clearedBy (s : State) (bad : List Nat) : State := logicalsCleared (slicesTested s bad)

theorem clearedBy_rcd : (clearedBy s bad).rcd = (slicesTested s bad).rcd := logicalsCleared_rcd _

theorem clearedBy_kept : (clearedBy s bad).gl RECORDS_keep_sev = s.gl RECORDS_keep_sev ∧ (clearedBy s bad).cyc = s.cyc := by
  have hfail : ∀ p : State → Nat, (∀ t n v, p (t.set FAB_SLICE_ST_logical v n) = p t) →
      (∀ t ph, p (t.sliceFail ph 2 1) = p t) → p (clearedBy s bad) = p s := fun p hset hfail =>
    (forEach_keeps_on p (fun a _ t => hset t a 31) _).trans (forEach_keeps_on p (fun a _ t => hfail t a) s)
  refine ⟨hfail (·.gl RECORDS_keep_sev) (fun t n v => ?_) fun t ph => sliceFail_gl ..,
    hfail State.cyc (fun t n v => State.set_cyc ..) fun t ph => (fr_sliceFail ..).cyc (by decide)⟩
  simp only [State.gl, State.set_img]

include hroom

theorem slicesTested_offer {ph : Nat} (hph : ph ∈ slicesFailing s bad) (hsev : kSLICE_FAIL.sev ≤ s.gl RECORDS_keep_sev) :
    (⟨s.cyc, kSLICE_FAIL.typ, kSLICE_FAIL.sev, kSLICE_FAIL.sec, payloadOf (failFields s ph 2 1)⟩ : Offer) ∈
      (slicesTested s bad).rcd.offers := by
  have hlen := length_slicesFailing (s := s) (bad := bad)
  have hgroup : waiting s kSLICE_FAIL.group < 11 := hroom
  exact forEach_sliceFail_offer hph hsev (by omega)

theorem fabricDisabled_recorded (failed : Nat) (hsev : kFABRIC_FAIL.sev ≤ s.gl RECORDS_keep_sev) :
    (fabricDisabled (clearedBy s bad) failed).rcd.offers = (slicesTested s bad).rcd.offers ++
      [⟨s.cyc, kFABRIC_FAIL.typ, kFABRIC_FAIL.sev, kFABRIC_FAIL.sec, payloadOf [(1, failed)]⟩] := by
  obtain ⟨hgl, hcyc⟩ := clearedBy_kept (s := s) bad
  have hlen := length_slicesFailing (s := s) (bad := bad)
  have hwaiting : waiting (clearedBy s bad) kFABRIC_FAIL.group ≤
      waiting s kFABRIC_FAIL.group + (slicesFailing s bad).length := by
    unfold waiting
    rw [clearedBy_rcd]
    exact forEach_sliceFail_waiting _ s kFABRIC_FAIL.group
  rw [fabricDisabled_offers, report_offers _ ⟨by rwa [hgl], by omega⟩, clearedBy_rcd, hcyc]

end

/-! ### The row -/

/-- What a reset of the fabric with good slices `good` leaves in its slices. -/
structure FabricTested (s t : State) (good : List Nat) : Prop where
  unused : ∀ ph < 21, ph ∉ good → OutOfUse s t ph
  enabled : 20 ≤ good.length → t.fab.on = true ∧ t.fab.locs = []
  serves : 20 ≤ good.length → ∀ i ph, i < 20 → good[i]? = some ph → Serves t ph i
  spare : 20 ≤ good.length → ∀ ph, good[20]? = some ph →
    t.get FAB_SLICE_ST_state ph = 1 ∧ t.get FAB_COPPICE_spare = ph ∧ t.get FAB_COPPICE_state = 0
  halted : good.length = 20 → t.get FAB_COPPICE_spare = 31 ∧ t.get FAB_COPPICE_state = 2
  disabled : good.length < 20 → t.fab.on = false

/-- What a reset of the fabric with good slices `good` records, where its port has room. -/
structure FabricTold (s t : State) (good : List Nat) : Prop where
  fabric : good.length < 20 → kFABRIC_FAIL.sev ≤ s.gl RECORDS_keep_sev → t.rcd.offers.getLast? =
    some ⟨s.cyc, kFABRIC_FAIL.typ, kFABRIC_FAIL.sev, kFABRIC_FAIL.sec, payloadOf [(1, 21 - good.length)]⟩
  slice : ∀ ph < 21, ph ∉ good → s.get FAB_SLICE_ST_state ph ≠ 3 → kSLICE_FAIL.sev ≤ s.gl RECORDS_keep_sev →
    (⟨s.cyc, kSLICE_FAIL.typ, kSLICE_FAIL.sev, kSLICE_FAIL.sec, payloadOf (failFields s ph 2 1)⟩ : Offer) ∈ t.rcd.offers

section
variable (s : State) (bad : List Nat)

/-- The good slices of a reset, by number. -/
abbrev goodAfter : List Nat := goodSlices (slicesTested s bad)

theorem fabricTest_tested : FabricTested s (s.fabricTest bad) (goodAfter s bad) := by
  have hgood := goodSlices_nodup (slicesTested s bad)
  have hlt : ∀ ph ∈ goodAfter s bad, ph < 21 := fun _ => lt_of_mem_goodSlices
  rw [fabricTest_eq]
  dsimp only
  split
  · next hfew => exact {
      unused := fun ph hph hnot => (logicalsCleared_outOfUse hph hnot).of_get fun f hf => fabricDisabled_get _ _ hf ph
      enabled := fun h => absurd hfew (Nat.not_lt.2 h)
      serves := fun h => absurd hfew (Nat.not_lt.2 h)
      spare := fun h => absurd hfew (Nat.not_lt.2 h)
      halted := fun h => absurd hfew (Nat.not_lt.2 h.ge)
      disabled := fun _ => fabricDisabled_on .. }
  · next hmany => exact {
      unused := fun ph hph hnot => (logicalsCleared_outOfUse hph hnot).of_get fun f hf => fabricSteered_other _ hf hnot
      enabled := fun _ => fabricSteered_fab _
      serves := fun _ i ph hi hph => fabricSteered_serves _ hgood hlt hi hph
      spare := fun _ ph hph => fabricSteered_spare _ hlt hph
      halted := fun h => fabricSteered_none _ (List.getElem?_eq_none h.le)
      disabled := fun h => absurd h hmany }

/-- The records of the slices that failed come before that of the fabric. -/
theorem fabricTest_told (hroom : waiting s kFABRIC_FAIL.group < 11) : FabricTold s (s.fabricTest bad) (goodAfter s bad) := by
  have hslice := fun ph hph hnot hs hsev =>
    slicesTested_offer (s := s) bad hroom (ph := ph) (mem_slicesFailing_of_not_good hph hnot hs) hsev
  rw [fabricTest_eq]
  dsimp only
  split
  · next hfew =>
    refine ⟨fun _ hsev => ?_, fun ph hph hnot hs hsev => ?_⟩
    · rw [fabricDisabled_recorded bad hroom _ hsev, List.getLast?_concat]
    · rw [fabricDisabled_offers]
      refine mem_report _ ?_
      rw [clearedBy_rcd]
      exact hslice ph hph hnot hs hsev
  · next hmany =>
    refine ⟨fun h => absurd h hmany, fun ph hph hnot hs hsev => ?_⟩
    rw [fabricSteered_rcd, clearedBy_rcd]
    exact hslice ph hph hnot hs hsev

end

/-- Settles O46: the background pass by its three outcomes, the reset by its stages, and a rotation that waits. -/
theorem fabricSelfTests : Obligations.FabricSelfTests := by
  unfold Obligations.FabricSelfTests
  refine ⟨fun p s hstate hspare hp => ⟨execSpareSelfTestPass_clean hstate hspare hp,
    execSpareSelfTestPass_first hstate hspare hp, fun hsecond => ?_⟩, fun bad good s hgood => ?_,
    fun s hstate hon => execCoppiceDue_waits hstate hon⟩
  · obtain ⟨t, hexec, hsuspect, hfailed, hhalted, hnone, hrecorded, hkept⟩ :=
      execSpareSelfTestPass_second hstate hspare hp hsecond
    exact ⟨t, hexec, hsuspect, hfailed.state, hfailed.cause, hhalted, hnone, hrecorded, hkept⟩
  · have hafter : goodAfter s.newCycle bad = good := by
      simp only [goodAfter, goodSlices_slicesTested, newCycle_get, hgood]
    have htested := hafter ▸ fabricTest_tested s.newCycle bad
    have hframe := fr_effFabricResetSelfTest bad s.newCycle
    refine ⟨_, rfl, fun ph hph hnot => ?_, fun hmany => ?_, htested.disabled, fun hroom => ?_, frame_keep hframe (by decide),
      hframe.keepRegs (by decide +kernel)⟩
    · obtain ⟨hstate, hlogical, hcause⟩ := htested.unused ph hph hnot
      exact ⟨hstate, hlogical, fun hs => hcause (by rwa [newCycle_get])⟩
    · obtain ⟨hon, hlocs⟩ := htested.enabled hmany
      refine ⟨hon, hlocs, fun i ph hi hph => ?_, htested.spare hmany, htested.halted⟩
      obtain ⟨hphys, hstate, hlogical⟩ := htested.serves hmany i ph hi hph
      exact ⟨hphys, hstate, hlogical⟩
    · have htold := hafter ▸ fabricTest_told s.newCycle bad (by rwa [waiting, newCycle_rcd])
      have hgl : s.newCycle.gl RECORDS_keep_sev = s.gl RECORDS_keep_sev := by unfold State.gl; rw [newCycle_img]
      have hfabric := htold.fabric
      have hslice := htold.slice
      simp only [payloadOf_failFields, hgl, newCycle_cyc, newCycle_get] at hfabric hslice
      exact ⟨hfabric, hslice⟩

end Sys2Proof.Fabric
end

section
/-!
A change plan in force (R163, R165): what a step leaves in the image, and what a halt shows (R172).
-/
namespace Sys2Proof.Fabric

open Sys2Proof.Machine Sys2Proof.Safety Sys2Proof.Scope Sys2Proof.Architecture Sys2Proof.Framing Sys2Proof.Mapping
open Sys2Proof.Laws hiding maskOf put

/-! ### The sections in force -/

/-- The pages of the sections named have swapped. -/
def pagesSwapped (s : State) (old : List Section) (names : List Nat) : State :=
  let s := if names.contains 5 then s.swapFabric old else s
  let s := if names.contains 6 then s.swapTwig else s
  if names.contains 5 || names.contains 6 then { s with chg := { s.chg with swap := some (pageGroups old) } } else s

theorem pagesSwapped_img (s : State) (old : List Section) (names : List Nat) : (pagesSwapped s old names).img = s.img := by
  have hfabric : ∀ t : State, (if names.contains 5 then t.swapFabric old else t).img = t.img := fun t => by
    split
    · exact (fr_swapFabric t old).img (by decide)
    · rfl
  have htwig : ∀ t : State, (if names.contains 6 then t.swapTwig else t).img = t.img := fun t => by
    split
    · exact (fr_swapTwig t).img (by decide)
    · rfl
  unfold pagesSwapped
  dsimp only
  split
  · exact (htwig _).trans (hfabric s)
  · exact (htwig _).trans (hfabric s)

/-- The lanes that change are disabled, and the sections are in force in place of those of their IDs. -/
def sectionsPlaced (s : State) (new : List Section) : State :=
  { (if (new.map (·.sec)).contains 2 then
        forEach (changedLanes s.img (new.foldl putSection s.img)) s State.laneDisable else s) with
    img := new.foldl putSection s.img }

/-- What the sections do that are in force. -/
def sectionsTaken (s : State) (old : List Section) (keep : List (Nat × Nat × Nat)) (names : List Nat) : State :=
  ((forEach ((List.range 17).filter fun i => names.contains i) (pagesSwapped s old names) fun s i =>
    s.sectionTaken old keep i).routeCheck.setWants).settle

theorem takeEffect_eq (s : State) (new : List Section) : s.takeEffect new =
    sectionsTaken (sectionsPlaced s new) s.img (s.keptMiddles (kindOf (new.foldl putSection s.img) 8 2))
      (new.map (·.sec)) := rfl

theorem sectionsTaken_img (s : State) (old : List Section) (keep : List (Nat × Nat × Nat)) (names : List Nat) :
    (sectionsTaken s old keep names).img = s.img := by
  unfold sectionsTaken
  rw [(fr_settle _).img (by decide), (fr_setWants _).img (by decide), (fr_routeCheck _).img (by decide),
    forEach_keeps State.img (fun t i => (fr_sectionTaken t old keep i).img (by decide)), pagesSwapped_img]

/-- The sections that take effect stand in place of those of their IDs, and no other changes. -/
theorem takeEffect_img (s : State) (new : List Section) : (s.takeEffect new).img = new.foldl putSection s.img := by
  rw [takeEffect_eq, sectionsTaken_img]
  rfl

/-! ### A change that stops -/

/-- The measuring window of a step in force: whether it is open, of which step, and from which boundary on. -/
def windowOf (s : State) : Bool × Nat × Nat := (s.chg.winOpen, s.chg.winStep, s.chg.winGmf)

theorem windowOf_of_chg {s t : State} (h : t.chg = s.chg) : windowOf t = windowOf s := by
  unfold windowOf
  rw [h]

/-- What a step that follows, or a halt, leaves of the step in force: the sections, its number, the count and the window. -/
structure StepKept (s t : State) : Prop where
  img : t.img = s.img
  step : t.get PLN_STATE_step = s.get PLN_STATE_step
  count : t.get PLN_CNT_steps = s.get PLN_CNT_steps
  window : windowOf t = windowOf s

theorem StepKept.trans {s t u : State} (h : StepKept s t) (g : StepKept t u) : StepKept s u :=
  ⟨g.img.trans h.img, g.step.trans h.step, g.count.trans h.count, g.window.trans h.window⟩

/-- The standby page of a field stays as it is, or returns to EMPTY. -/
def pageEmptied (s : State) (f : Fld) (stale : Bool) : State := if stale then s else s.set f 0

/-- The status of a change that stops, before its pages are emptied. -/
def changeStopped (s : State) (cause sec key : Nat) : State :=
  (((s.endChange 4).set PLN_STATE_cause cause).set PLN_DETAIL_sec sec).set PLN_DETAIL_key key

/-- What a change that stops does beside its status. -/
def m_stopped : Nat := 2 ^ 45 ||| 2 ^ 47 ||| m_restMb1 ||| m_arbitrate ||| m_report

/-- What the start of a load does beside its status. -/
def m_loadStarted : Nat := 2 ^ 45 ||| 2 ^ 47 ||| m_wakeMb1

section
variable (s : State) (cause sec key : Nat)

theorem stopChange_eq : ∃ fab twig k fields, s.stopChange cause sec key =
    ((pageEmptied (pageEmptied (changeStopped s cause sec key) FAB_PAGE_standby fab) TWG_PAGE_standby
      twig).restMb1.arbitrate).report k fields := by
  by_cases hplan : (s.get PLN_STATE_kind == 2) = true
  · exact ⟨_, _, _, _, if_pos hplan⟩
  · exact ⟨_, _, _, _, if_neg hplan⟩

theorem pageEmptied_frame {f : Fld} (hf : covered m_stopped f = true) (stale : Bool) :
    Frame m_stopped s (pageEmptied s f stale) :=
  Frame.ite (Frame.refl ..) ((Frame.refl m_stopped s).setS hf)

theorem stopChange_frame : Frame m_stopped (changeStopped s cause sec key) (s.stopChange cause sec key) := by
  obtain ⟨fab, twig, k, fields, heq⟩ := stopChange_eq s cause sec key
  rw [heq]
  have hpages := (pageEmptied_frame (changeStopped s cause sec key) (f := FAB_PAGE_standby) (by decide +kernel) fab).step
    (pageEmptied_frame _ (f := TWG_PAGE_standby) (by decide +kernel) twig) (Nat.or_self _)
  exact ((hpages.step (fr_restMb1 _) (by decide)).step (fr_arbitrate _) (by decide)).step (fr_report ..) (by decide)

theorem endChange_get (st : Nat) (f : Fld) : (s.endChange st).get f = ((s.set PLN_STATE_state st).setDue 0).get f := by
  unfold State.endChange
  rfl

theorem changeStopped_shows : (changeStopped s cause sec key).get PLN_STATE_state = 4 ∧
    (changeStopped s cause sec key).get PLN_STATE_cause = cause % 16 ∧
    (changeStopped s cause sec key).get PLN_STATE_step = s.get PLN_STATE_step := by
  have hdetail : ∀ f : Fld, Laws.apart (2 ^ 64) f = true →
      (changeStopped s cause sec key).get f = ((s.endChange 4).set PLN_STATE_cause cause).get f := fun f hf =>
    (((Frame.refl (2 ^ 64) ((s.endChange 4).set PLN_STATE_cause cause)).setS (f := PLN_DETAIL_sec) (by decide +kernel)).setS
      (f := PLN_DETAIL_key) (by decide +kernel)).get hf 0
  have hended : ∀ f : Fld, Laws.apart m_setDue f = true → (s.endChange 4).get f = (s.set PLN_STATE_state 4).get f :=
    fun f hf => (endChange_get s 4 f).trans ((fr_setDue (s.set PLN_STATE_state 4) 0).get hf 0)
  refine ⟨?_, ?_, ?_⟩
  · rw [hdetail _ (by decide +kernel), get_set_bits (by decide), hended _ (by decide +kernel)]
    exact State.get_set_same _ _ _ _ (by decide) (by decide)
  · rw [hdetail _ (by decide +kernel)]
    exact State.get_set_same _ _ _ _ (by decide) (by decide)
  · rw [hdetail _ (by decide +kernel), get_set_bits (by decide), hended _ (by decide +kernel), get_set_bits (by decide)]

theorem changeStopped_window : windowOf (changeStopped s cause sec key) = windowOf s := by
  simp only [windowOf, changeStopped, State.endChange, State.setDue, State.set_chg, State.set64_chg]

/-- A change that stops shows state 4 and its cause (Table 6-3). -/
theorem stopChange_shows (hcause : cause < 16) : (s.stopChange cause sec key).get PLN_STATE_state = 4 ∧
    (s.stopChange cause sec key).get PLN_STATE_cause = cause := by
  have hframe := stopChange_frame s cause sec key
  obtain ⟨hstate, hshown, -⟩ := changeStopped_shows s cause sec key
  rw [Nat.mod_eq_of_lt hcause] at hshown
  exact ⟨(hframe.get (by decide +kernel) 0).trans hstate, (hframe.get (by decide +kernel) 0).trans hshown⟩

theorem stopChange_kept : StepKept s (s.stopChange cause sec key) := by
  have hframe := stopChange_frame s cause sec key
  have hwhole := fr_stopChange s cause sec key
  exact ⟨hwhole.img (by decide), (hframe.get (by decide +kernel) 0).trans (changeStopped_shows s cause sec key).2.2,
    hwhole.get (by decide +kernel) 0, (windowOf_of_chg (hframe.chg (by decide))).trans (changeStopped_window ..)⟩

end

/-! ### The next step of a plan -/

section
variable (s : State)

theorem setDue_kept (n : Nat) : StepKept s (s.setDue n) := by
  have hframe := fr_setDue s n
  exact ⟨hframe.img (by decide), hframe.get (by decide +kernel) 0, hframe.get (by decide +kernel) 0,
    windowOf_of_chg (hframe.chg (by decide))⟩

/-- The state with a load under way, before its standby pages show it. -/
def loadBegun (names : List (Nat × Nat)) : State :=
  ({ s with chg := { s.chg with names := sortNames names, ready := none } } : State).set PLN_STATE_state 1

theorem startLoad_frame (names : List (Nat × Nat)) : Frame m_loadStarted (loadBegun s names) (s.startLoad names) := by
  have hfab := Frame.ite (c := (names.any fun p => p.1 == 5) = true)
    ((Frame.refl m_loadStarted (loadBegun s names)).setS (f := FAB_PAGE_standby) (a := 1) (n := 0) (by decide +kernel))
    (Frame.refl ..)
  have htwig := Frame.ite (c := (names.any fun p => p.1 == 6) = true)
    (hfab.setS (f := TWG_PAGE_standby) (a := 1) (n := 0) (by decide +kernel)) hfab
  exact htwig.step (fr_wakeMb1 _) (by decide)

theorem startLoad_kept (names : List (Nat × Nat)) : StepKept s (s.startLoad names) := by
  have hframe := startLoad_frame s names
  have hchg : (loadBegun s names).chg = { s.chg with names := sortNames names, ready := none } := State.set_chg ..
  refine ⟨(hframe.img (by decide)).trans (State.set_img ..),
    (hframe.get (by decide +kernel) 0).trans (get_set_bits (by decide) ..),
    (hframe.get (by decide +kernel) 0).trans (State.get_set_apart _ _ _ _ _ _ (by decide) (.inl (by decide))), ?_⟩
  rw [windowOf_of_chg (hframe.chg (by decide)), windowOf, hchg]
  rfl

/-- The number of the step to come has no register. -/
theorem stepNumber_kept (k : Nat) : StepKept s { s with chg := { s.chg with step := k } } := ⟨rfl, rfl, rfl, rfl⟩

theorem startStep_kept (k : Nat) : StepKept s (s.startStep k) := by
  unfold State.startStep
  dsimp only
  split
  · exact (stepNumber_kept s k).trans (stopChange_kept ..)
  · exact (stepNumber_kept s k).trans (startLoad_kept ..)

end

end Sys2Proof.Fabric
end

section
/-!
A plan step at its boundary (R163, R165, R176), and the statement of R165 and R172.
-/
namespace Sys2Proof.Fabric

open Sys2Proof.Machine Sys2Proof.Safety Sys2Proof.Scope Sys2Proof.Architecture Sys2Proof.Framing Sys2Proof.Mapping
open Sys2Proof.Laws hiding maskOf put

/-! ### The step in force -/

/-- The sections of step `k` are in force at boundary `n`, the step is counted and shown. -/
def stepTaken (s : State) (k : Nat) (secs : List Section) : State :=
  (((s.closeWindow.takeEffect secs).incW PLN_CNT_steps).set PLN_STATE_step k).restMb1

/-- The measuring window of step `k` opens at boundary `n`, and no load is left. -/
def stepOpened (s : State) (k n : Nat) : State :=
  { s.openWindow k n with chg := { (s.openWindow k n).chg with names := [], ready := none } }

/-- After step `k` the plan halts, where it is told to, or its next step loads, or it waits for the end of its last window. -/
def stepFollowed (s : State) (k n : Nat) (halt : Bool) : State :=
  if halt then ({ s with chg := { s.chg with step := k + 1 } } : State).stopChange 8 0 0
  else if k < s.get PLN_STATE_steps then (s.setDue (n + (s.planStep (k + 1)).n PLAN_gap)).startStep (k + 1)
  else s.setDue 0

/-- The grid period count comes to boundary `n` (log entry 71). -/
def atBoundary (s : State) (n : Nat) : State := { s with fab := { s.fab with gp := max s.fab.gp (1024 * n) } }

/-- The step of a plan that is due takes effect at boundary `n`. -/
def stepAt (s : State) (n : Nat) (secs : List Section) : State :=
  stepFollowed (stepOpened (stepTaken s s.chg.step secs) s.chg.step n) s.chg.step n s.chg.haltAt

theorem changeNow_of_plan {s : State} (h : s.get PLN_STATE_kind ≠ 1) (n : Nat) (secs : List Section) :
    s.changeNow n secs = stepAt (atBoundary s n) n secs := by
  unfold State.changeNow
  extract_lets _ u _ k halt _ _ taken _ _ opened
  have hu : atBoundary s n = u := rfl
  have hkind : u.get PLN_STATE_kind ≠ 1 := h
  clear_value u
  have htaken : stepTaken u k secs = taken := rfl
  clear_value taken
  have hopened : stepOpened taken k n = opened := rfl
  clear_value opened
  rw [if_neg hkind, hu, stepAt, htaken, hopened]
  rfl

theorem stepFollowed_kept (s : State) (k n : Nat) (halt : Bool) : StepKept s (stepFollowed s k n halt) := by
  unfold stepFollowed
  split
  · exact (stepNumber_kept s (k + 1)).trans (stopChange_kept ..)
  · split
    · exact (setDue_kept ..).trans (startStep_kept ..)
    · exact setDue_kept ..

theorem stepOpened_shows (s : State) (k n : Nat) : (stepOpened s k n).img = s.img ∧
    (∀ f, (stepOpened s k n).get f = s.get f) ∧ windowOf (stepOpened s k n) = (true, k, n) := ⟨rfl, fun _ => rfl, rfl⟩

theorem stepFollowed_halts (s : State) (k n : Nat) : (stepFollowed s k n true).get PLN_STATE_state = 4 ∧
    (stepFollowed s k n true).get PLN_STATE_cause = 8 := stopChange_shows _ 8 0 0 (by decide)

section
variable (s : State) (k : Nat) (secs : List Section)

theorem stepTaken_img : (stepTaken s k secs).img = secs.foldl putSection s.img := by
  rw [stepTaken, (fr_restMb1 _).img (by decide), State.set_img, State.incW_img, takeEffect_img,
    (fr_closeWindow s).img (by decide)]

theorem stepTaken_step (hk : k < 2 ^ 8) : (stepTaken s k secs).get PLN_STATE_step = k := by
  rw [stepTaken, (fr_restMb1 _).get (by decide +kernel), State.get_set_same _ _ _ _ (by decide) (by decide)]
  exact Nat.mod_eq_of_lt hk

theorem stepTaken_count : (stepTaken s k secs).get PLN_CNT_steps = (s.get PLN_CNT_steps + 1) % 2 ^ 16 := by
  have htaken : (s.closeWindow.takeEffect secs).get PLN_CNT_steps = s.get PLN_CNT_steps :=
    ((fr_takeEffect ..).get (by decide +kernel) 0).trans ((fr_closeWindow s).get (by decide +kernel) 0)
  rw [stepTaken, (fr_restMb1 _).get (by decide +kernel), State.get_set_apart _ _ _ _ _ _ (by decide) (.inl (by decide)),
    State.incW, State.get_set_same _ _ _ _ (by decide) (by decide), htaken]
  rfl

end

/-- A step takes effect as a whole: its sections, its number, its count and its window. -/
theorem stepAt_shows {s : State} (hstep : s.chg.step < 2 ^ 8) (n : Nat) (secs : List Section) :
    (stepAt s n secs).img = secs.foldl putSection s.img ∧ (stepAt s n secs).get PLN_STATE_step = s.chg.step ∧
    (stepAt s n secs).get PLN_CNT_steps = (s.get PLN_CNT_steps + 1) % 2 ^ 16 ∧
    windowOf (stepAt s n secs) = (true, s.chg.step, n) := by
  obtain ⟨himg, hnumber, hcount, hwindow⟩ :=
    stepFollowed_kept (stepOpened (stepTaken s s.chg.step secs) s.chg.step n) s.chg.step n s.chg.haltAt
  obtain ⟨hopenedImg, hopenedGet, hopened⟩ := stepOpened_shows (stepTaken s s.chg.step secs) s.chg.step n
  exact ⟨himg.trans (hopenedImg.trans (stepTaken_img ..)),
    hnumber.trans ((hopenedGet _).trans (stepTaken_step _ _ _ hstep)), hcount.trans ((hopenedGet _).trans (stepTaken_count ..)),
    hwindow.trans hopened⟩

theorem stepAt_halts {s : State} (hhalt : s.chg.haltAt = true) (n : Nat) (secs : List Section) :
    (stepAt s n secs).get PLN_STATE_state = 4 ∧ (stepAt s n secs).get PLN_STATE_cause = 8 := by
  rw [stepAt, hhalt]
  exact stepFollowed_halts ..

/-! ### The boundary of the step -/

theorem newCycle_chg (s : State) : s.newCycle.chg = s.chg := (fr_newCycle s).chg (by decide)

theorem newCycle_mate (s : State) : s.newCycle.mate = s.mate := (fr_newCycle s).mate (by decide)

theorem newCycle_due (s : State) : s.newCycle.due = s.due := by
  simp only [State.due, State.get64, newCycle_get]

theorem newCycle_changing (s : State) : s.newCycle.changing = s.changing := by
  simp only [State.changing, newCycle_get]

theorem newCycle_stepCommitted (s : State) : s.newCycle.stepCommitted = s.stepCommitted := by
  simp only [State.stepCommitted, newCycle_get, newCycle_on, newCycle_mate, newCycle_chg, newCycle_reg]

/-- A plan whose next boundary is that of its step. -/
structure StepDue (s : State) : Prop where
  kind : s.get PLN_STATE_kind = 2
  changing : s.changing = true
  due : s.due = s.gmf + 1
  started : s.chg.start = none

theorem StepDue.newCycle {s : State} (h : StepDue s) : StepDue s.newCycle where
  kind := (newCycle_get ..).trans h.kind
  changing := (newCycle_changing s).trans h.changing
  due := by rw [newCycle_due, newCycle_gmf, h.due]
  started := by rw [newCycle_chg, h.started]

section
variable {s : State} (h : StepDue s)
include h

theorem StepDue.kind_ne_apply : s.get PLN_STATE_kind ≠ 1 := by
  rw [h.kind]
  decide

/-- The boundary of a step that is due: the plan halts unless the step is loaded. -/
theorem StepDue.effPlanStepDue : effPlanStepDue s = s.chg.ready.elim (s.stopChange 3 s.firstUnloaded 0) fun secs =>
    if !s.stepCommitted then s.setDue (s.gmf + 1 + 1) else s.changeNow (s.gmf + 1) secs := by
  have hfix : s.fixStart (s.gmf + 1) = s := by
    unfold State.fixStart
    rw [h.started]
  unfold Machine.effPlanStepDue State.changeRow
  dsimp only
  rw [if_pos ⟨h.kind, h.due⟩, if_neg (by simp [h.changing]), if_neg h.kind_ne_apply, hfix,
    if_neg (by simp [h.due, h.started])]
  cases s.chg.ready with
  | none => rfl
  | some secs => rfl

/-- A step that is loaded, and committed to a standby that follows, takes effect. -/
theorem StepDue.takes {secs : List Section} (hready : s.chg.ready = some secs) (hcommitted : s.stepCommitted = true) :
    Machine.effPlanStepDue s = s.changeNow (s.gmf + 1) secs := by
  rw [h.effPlanStepDue, hready]
  exact if_neg (by simp [hcommitted])

/-- A step that is not loaded halts the plan with cause NOT_READY (R172). -/
theorem StepDue.halts (hready : s.chg.ready = none) :
    Machine.effPlanStepDue s = s.stopChange 3 s.firstUnloaded 0 := by
  rw [h.effPlanStepDue, hready, Option.elim_none]

end

/-- Settles O38: a step that is loaded takes effect by its stages, and one that is not stops the plan. -/
theorem stepsTakeEffectWhole : Obligations.StepsTakeEffectWhole := by
  unfold Obligations.StepsTakeEffectWhole
  refine ⟨fun secs s hkind hchanging hdue hstart hready hcommitted hstep => ?_, fun s hkind hchanging hdue hstart hready => ?_⟩
  · have hstepDue := (StepDue.mk hkind hchanging hdue hstart).newCycle
    have heff := hstepDue.takes (by rwa [newCycle_chg]) (by rwa [newCycle_stepCommitted])
    have hgp := changeNow_gp s.newCycle (s.gmf + 1) secs
    have hframe := fr_changeNow s.newCycle (s.gmf + 1) secs
    rw [newCycle_gmf] at heff
    rw [changeNow_of_plan hstepDue.kind_ne_apply] at heff hgp hframe
    obtain ⟨himg, hnumber, hcount, hwindow⟩ := stepAt_shows (s := atBoundary s.newCycle (s.gmf + 1))
      (show s.newCycle.chg.step < 2 ^ 8 by rwa [newCycle_chg]) (s.gmf + 1) secs
    have hchg : (atBoundary s.newCycle (s.gmf + 1)).chg = s.chg := newCycle_chg s
    rw [hchg] at hnumber hwindow
    refine ⟨_, congrArg Host.Outcome.next heff, himg.trans (congrArg (secs.foldl putSection) (newCycle_img s)), hnumber, ?_,
      congrArg (·.1) hwindow, congrArg (·.2.1) hwindow, congrArg (·.2.2) hwindow, ?_,
      fun hhalt => stepAt_halts (by rwa [hchg]) _ secs, frame_keep hframe (by decide), hframe.keepRegs (by decide +kernel)⟩
    · rw [hcount]
      exact congrArg (fun v => (v + 1) % 2 ^ 16) (newCycle_get s PLN_CNT_steps 0)
    · rw [hgp, newCycle_gp]
  · have hstepDue := (StepDue.mk hkind hchanging hdue hstart).newCycle
    have heff := hstepDue.halts (by rwa [newCycle_chg])
    have hframe := fr_stopChange s.newCycle 3 s.newCycle.firstUnloaded 0
    have hkept := stopChange_kept s.newCycle 3 s.newCycle.firstUnloaded 0
    obtain ⟨hstate, hcause⟩ := stopChange_shows s.newCycle 3 s.newCycle.firstUnloaded 0 (by decide)
    exact ⟨_, congrArg Host.Outcome.next heff, hkept.img.trans (newCycle_img s), hstate, hcause,
      hkept.step.trans (newCycle_get ..), frame_keep hframe (by decide), hframe.keepRegs (by decide +kernel)⟩

end Sys2Proof.Fabric
end

section
/-!
Mailbox commands (R368 to R376): a command that passes the checks is carried out and answered, and what its reply leaves.
-/
namespace Sys2Proof.Images

open Sys2Proof.Machine Sys2Proof.Safety Sys2Proof.Scope Sys2Proof.Architecture Sys2Proof.Framing Sys2Proof.Fabric
open Sys2Proof.Laws hiding maskOf put

/-! ### The start of a cycle -/

theorem newCycle_host (s : State) : s.newCycle.host = s.host := (fr_newCycle s).host (by decide)

theorem newCycle_boot (s : State) : s.newCycle.boot = s.boot := (fr_newCycle s).boot (by decide)

theorem newCycle_flash (s : State) : s.newCycle.flash = s.flash := (fr_newCycle s).flash (by decide)

theorem newCycle_cpRuns (s : State) : s.newCycle.cpRuns = s.cpRuns := by
  unfold State.cpRuns
  rw [newCycle_get, (fr_newCycle s).bus (by decide)]

theorem served_newCycle {s : State} {n op : Nat} {m : List Nat} (h : Served s n op m) : Served s.newCycle n op m := by
  unfold Served at *
  rwa [newCycle_host, newCycle_cpRuns, newCycle_bootState, newCycle_boot]

/-! ### A command in the foreground -/

/-- A command that passes the checks and carries no token is answered with what it does. -/
theorem serve_answer {s : State} {n op : Nat} {m : List Nat} (h : Served s n op m) (htoken : carriesToken op = false)
    (f : State → List Nat → Reply × State) :
    (s.serve n op fun s m _ => answer (f s m)) = (f s m).2.reply n (msgWord m 0) (f s m).1 := by
  obtain ⟨htaken, hruns, hop, hsecure, hboot, htamper⟩ := h
  have hworld : (secureOnly op && decide (n < 8)) = false := by
    cases hs : secureOnly op
    · rfl
    · simpa using hsecure hs
  have hup : (s.bootState != 4 && !inRescue op) = false := by
    rcases hboot with h | h <;> simp [h]
  have hwhole : (s.boot.tampered && tamperRefuses op) = false := by
    cases ht : s.boot.tampered
    · rfl
    · exact htamper ht
  unfold State.serve
  rw [htaken]
  dsimp only
  rw [if_neg (by rw [hruns, hop, bne_self_eq_false]; decide), htoken, if_neg Bool.false_ne_true, hworld,
    if_neg Bool.false_ne_true, hup, if_neg Bool.false_ne_true, hwhole, if_neg Bool.false_ne_true]
  rfl

/-! ### What a reply leaves -/

/-- The fields that show how far a change is. -/
def changeFlds : List Fld :=
  [PLN_STATE_state, PLN_STATE_kind, PLN_STATE_cause, FAB_PAGE_standby, TWG_PAGE_standby]

theorem changeFlds_apart_reply : ∀ f ∈ changeFlds, Laws.apart m_reply f = true := by decide +kernel

/-- What leaves the two registers of PLN_DUE leaves the boundary of the next step. -/
theorem due_of_frame {w : Nat} {s t : State} (h : Frame w s t)
    (hw : Laws.apart w PLN_DUE_LO_due_lo = true ∧ Laws.apart w PLN_DUE_HI_due_hi = true) : t.due = s.due := by
  simp only [State.due, State.get64, h.get hw.1, h.get hw.2]

section
variable (s : State) (n hdr : Nat) (r : Reply)

theorem reply_get {f : Fld} (hf : f ∈ changeFlds) : (s.reply n hdr r).get f = s.get f :=
  (fr_reply s n hdr r).get (changeFlds_apart_reply f hf) 0

theorem reply_due : (s.reply n hdr r).due = s.due := due_of_frame (fr_reply ..) (by decide +kernel)

theorem reply_chg : (s.reply n hdr r).chg = s.chg := (fr_reply s n hdr r).chg (by decide)

end

end Sys2Proof.Images
end

section
/-!
The halt of a plan and the end of a measuring window (R171, R173, R174).
-/
namespace Sys2Proof.Images

open Sys2Proof.Machine Sys2Proof.Safety Sys2Proof.Scope Sys2Proof.Architecture Sys2Proof.Framing Sys2Proof.Fabric
open Sys2Proof.Laws hiding maskOf put

/-! ### The boundary of the next step -/

theorem setDue_due (s : State) (n : Nat) : (s.setDue n).due = n % 2 ^ 64 := by
  simp (disch := decide) only [State.due, State.setDue, State.get64, State.set64, State.get_set_same, get_set_sibling]
  exact mod_two_words n 32

theorem setDue_chg (s : State) (n : Nat) : (s.setDue n).chg = s.chg := State.set64_chg ..

/-! ### A change that stops -/

/-- What is left of a change that has ended: its container, plan and measuring window. -/
def changeEnded (c : ChgBlock) : ChgBlock := { c with names := [], ready := none, start := none, haltAt := false }

section
variable (s : State)

theorem endChange_chg (st : Nat) : (s.endChange st).chg = changeEnded s.chg := by
  have h : ((s.set PLN_STATE_state st).setDue 0).chg = s.chg := (setDue_chg ..).trans (State.set_chg ..)
  unfold State.endChange changeEnded
  dsimp only
  rw [h]

theorem endChange_due (st : Nat) : (s.endChange st).due = 0 := setDue_due (s.set PLN_STATE_state st) 0

theorem changeStopped_chg (cause sec key : Nat) : (changeStopped s cause sec key).chg = changeEnded s.chg := by
  unfold changeStopped
  rw [State.set_chg, State.set_chg, State.set_chg, endChange_chg]

theorem changeStopped_due (cause sec key : Nat) : (changeStopped s cause sec key).due = 0 := by
  refine Eq.trans ?_ (endChange_due s 4)
  simp (disch := decide) only [changeStopped, State.due, State.get64, get_set_sibling]

theorem stopChange_chg (cause sec key : Nat) : (s.stopChange cause sec key).chg = changeEnded s.chg :=
  ((stopChange_frame s cause sec key).chg (by decide)).trans (changeStopped_chg ..)

theorem stopChange_due (cause sec key : Nat) : (s.stopChange cause sec key).due = 0 :=
  (due_of_frame (stopChange_frame s cause sec key) (by decide +kernel)).trans (changeStopped_due ..)

end

/-! ### HALT_PLAN (R174) -/

/-- The halt of what is in progress, at step `k` of a plan, with cause HOST. -/
def haltedByHost (s : State) (k : Nat) : State := ({ s with chg := { s.chg with step := k } } : State).stopChange 8 0 0

section
variable {s : State}

/-- HALT_PLAN finds nothing to stop: nothing is in progress, or an APPLY that has loaded. -/
theorem cmdHaltPlan_idle (h : s.changing = false ∨ (s.get PLN_STATE_kind = 1 ∧ s.get PLN_STATE_state = 2)) :
    s.cmdHaltPlan = ({}, s) := by
  unfold State.cmdHaltPlan
  rcases h with hidle | ⟨hkind, hstate⟩
  · rw [if_pos (by rw [hidle]; rfl)]
  · rw [if_neg (by simp [State.changing, hstate]), if_pos hkind, if_neg (by rw [hstate]; decide)]

/-- In the grid multiframe of the next step's boundary the halt waits for that step. -/
theorem cmdHaltPlan_waits (hchanging : s.changing = true) (hkind : s.get PLN_STATE_kind ≠ 1) (hdue : s.due = s.gmf + 1)
    (hstart : s.chg.start = none) : s.cmdHaltPlan = ({}, { s with chg := { s.chg with haltAt := true } }) := by
  unfold State.cmdHaltPlan
  rw [if_neg (by simp [hchanging]), if_neg hkind, if_neg (by omega), if_pos ⟨hdue, by rw [hstart]; rfl⟩]

/-- An APPLY that is loading, and a plan whose next step is not at hand, stop at once. -/
theorem cmdHaltPlan_stops (hchanging : s.changing = true)
    (h : (s.get PLN_STATE_kind = 1 ∧ s.get PLN_STATE_state = 1) ∨
      (s.get PLN_STATE_kind ≠ 1 ∧ (s.due ≠ s.gmf + 1 ∨ s.chg.start.isSome = true))) :
    ∃ k, s.cmdHaltPlan = ({}, haltedByHost s k) := by
  unfold State.cmdHaltPlan
  rw [if_neg (by simp [hchanging])]
  rcases h with ⟨hkind, hstate⟩ | ⟨hkind, hfar⟩
  · rw [if_pos hkind, if_pos hstate]
    exact ⟨s.chg.step, rfl⟩
  · rw [if_neg hkind]
    by_cases hlast : s.due = 0
    · rw [if_pos hlast]
      exact ⟨s.chg.step + 1, rfl⟩
    · have hnear : ¬ (s.due = s.gmf + 1 ∧ s.chg.start.isNone = true) := by
        rintro ⟨hdue, hstart⟩
        rcases hfar with hother | hlater
        · exact hother hdue
        · rw [← Option.not_isSome, hlater] at hstart
          exact Bool.false_ne_true hstart
      rw [if_neg hlast, if_neg hnear]
      exact ⟨s.chg.step, rfl⟩

end

theorem execHaltPlan_served {s : State} {n : Nat} {m : List Nat} (h : Served s n 0x0103 m) :
    exec (.haltPlan n) s = .next (s.newCycle.cmdHaltPlan.2.reply n (msgWord m 0) s.newCycle.cmdHaltPlan.1) :=
  congrArg Host.Outcome.next (serve_answer (served_newCycle h) rfl fun s _ => s.cmdHaltPlan)

theorem execHaltPlan_answers {s : State} {n : Nat} {m : List Nat} (h : Served s n 0x0103 m) {u : State}
    (hcmd : s.newCycle.cmdHaltPlan = ({}, u)) : exec (.haltPlan n) s = .next (u.reply n (msgWord m 0) {}) := by
  rw [execHaltPlan_served h, hcmd]

/-- A halt with cause HOST, as the command shows and answers it. -/
theorem execHaltPlan_stops {s : State} {n : Nat} {m : List Nat} (h : Served s n 0x0103 m) {k : Nat}
    (hcmd : s.newCycle.cmdHaltPlan = ({}, haltedByHost s.newCycle k)) :
    ∃ u t : State, exec (.haltPlan n) s = .next t ∧ t = u.reply n (msgWord m 0) {} ∧
      t.get PLN_STATE_state = 4 ∧ t.get PLN_STATE_cause = 8 ∧ t.due = 0 ∧ t.chg.ready = none ∧ t.img = s.img ∧
      Keep s.newCycle t [.mate, .rcd, .irq, .perf, .chg, .host, .mem, .out] ∧
      KeepRegs s.newCycle t [] (replyRegs ++ [FAB_PAGE_active, TWG_PAGE_active, PLN_STATE_steps, PLN_DUE_LO_due_lo,
        PLN_DUE_HI_due_hi, PLN_DETAIL_key, MB_ST_repaired, EVR_LOSS_drop, MATE_ST_flash_own]) := by
  have hexec := execHaltPlan_answers h hcmd
  have hframe : Frame m_effHaltPlan s.newCycle _ := frame_of_exec hexec
  obtain ⟨hstate, hcause⟩ := stopChange_shows { s.newCycle with chg := { s.newCycle.chg with step := k } } 8 0 0 (by decide)
  refine ⟨_, _, hexec, rfl, ?_, ?_, ?_, ?_, ?_, frame_keep hframe (by decide +kernel), hframe.keepRegs (by decide +kernel)⟩
  · exact (reply_get _ _ _ _ (by decide)).trans hstate
  · exact (reply_get _ _ _ _ (by decide)).trans hcause
  · exact (reply_due ..).trans (stopChange_due ..)
  · rw [reply_chg, haltedByHost, stopChange_chg]
    rfl
  · exact (hframe.img (by decide)).trans (newCycle_img s)

/-! ### The end of a measuring window (R171) -/

/-- The outputs that were hit more than their bound. -/
def hitsExceeding (s : State) : List HitSt := s.chg.win.filter fun h => decide (h.bound < h.count)

/-- The HIT_EXCEEDED records of a window. -/
def excessTold (s : State) : State :=
  forEach ((hitsExceeding s).take 64) s fun s h =>
    (s.waitPort kHIT_EXCEEDED).report kHIT_EXCEEDED
      [(3, h.key), (1, h.cls), (2, h.bound), (2, h.count), (1, b2n h.qs + 2 * b2n h.steer)]

/-- The excess outputs are counted, and the largest count of the window is shown. -/
def hitsShown (s : State) (excess : Nat) : State :=
  let s := s.inc PLN_HIT_exceeded 0 excess
  s.set PLN_HIT_last_max ((s.chg.win.map (·.count)).foldl max 0)

/-- The PLAN_STEP record of a window. -/
def stepTold (s : State) (excess : Nat) : State :=
  s.report kPLAN_STEP [(4, s.get PLN_ID_id), (1, s.chg.winStep), (8, s.chg.winGmf), (3, s.chg.winNamed), (3, excess)]

/-- The window is that of the last step of a plan that waits for no other boundary. -/
def lastWindow (s : State) : Bool :=
  s.get PLN_STATE_kind == 2 && s.get PLN_STATE_state == 2 && s.chg.winStep == s.get PLN_STATE_steps

/-- No window is open. -/
def windowShut (s : State) : State := { s with chg := { s.chg with win := [], winOpen := false } }

/-- The window shuts, and after the last step the plan is done. -/
def planDone (s : State) : State :=
  if lastWindow s then ((windowShut s).endChange 3).report kPLAN_DONE [(4, (windowShut s).get PLN_ID_id)]
  else windowShut s

/-- What a window shows as it closes. -/
def windowTold (s : State) : State :=
  stepTold (hitsShown (excessTold s) (hitsExceeding s).length) (hitsExceeding s).length

theorem closeWindow_of_open {s : State} (h : s.chg.winOpen = true) : s.closeWindow = planDone (windowTold s) := by
  unfold State.closeWindow
  rw [if_neg (by simp [h])]
  rfl

/-- What the records of a window change. -/
def m_excessTold : Nat := m_waitPort ||| m_report

theorem excessTold_frame (s : State) : Frame m_excessTold s (excessTold s) :=
  Frame.forEach _ (Frame.refl ..) fun _ _ hs => (hs.step (fr_waitPort ..) (by decide)).step (fr_report ..) (by decide)

/-- What a window that closes changes beside the status of the plan. -/
def m_windowTold : Nat := m_excessTold ||| 2 ^ 65

theorem hitsShown_frame (s : State) (excess : Nat) : Frame m_windowTold s (hitsShown s excess) :=
  ((Frame.refl m_windowTold s).incS (by decide +kernel)).setS (by decide +kernel)

theorem stepTold_frame (s : State) (excess : Nat) : Frame m_report s (stepTold s excess) := fr_report ..

theorem windowTold_frame (s : State) : Frame m_windowTold s (windowTold s) :=
  (((excessTold_frame s).mono (by decide)).step (hitsShown_frame _ (hitsExceeding s).length) (Nat.or_self _)).step
    (stepTold_frame ..) (by decide)

section
variable (s : State)

theorem hitsShown_exceeded (excess : Nat) :
    (hitsShown s excess).get PLN_HIT_exceeded = min (s.get PLN_HIT_exceeded + excess) (top PLN_HIT_exceeded) :=
  (get_set_bits (by decide) ..).trans (get_inc_by s _ _ _ (by decide) (by decide))

theorem hitsShown_max (excess : Nat) :
    (hitsShown s excess).get PLN_HIT_last_max = ((s.chg.win.map (·.count)).foldl max 0) % 2 ^ 16 := by
  unfold hitsShown
  dsimp only
  rw [State.inc_chg]
  exact State.get_set_same _ _ _ _ (by decide) (by decide)

theorem windowTold_exceeded : (windowTold s).get PLN_HIT_exceeded =
    min (s.get PLN_HIT_exceeded + (hitsExceeding s).length) (top PLN_HIT_exceeded) := by
  unfold windowTold
  rw [(stepTold_frame ..).get (by decide +kernel), hitsShown_exceeded, (excessTold_frame s).get (by decide +kernel)]

theorem windowTold_max :
    (windowTold s).get PLN_HIT_last_max = ((s.chg.win.map (·.count)).foldl max 0) % 2 ^ 16 := by
  unfold windowTold
  rw [(stepTold_frame ..).get (by decide +kernel), hitsShown_max, (excessTold_frame s).chg (by decide)]

theorem windowTold_lastWindow : lastWindow (windowTold s) = lastWindow s := by
  have hframe := windowTold_frame s
  unfold lastWindow
  rw [hframe.get (by decide +kernel), hframe.get (by decide +kernel), hframe.get (by decide +kernel),
    hframe.chg (by decide)]

theorem lastWindow_iff : lastWindow s = true ↔
    s.get PLN_STATE_kind = 2 ∧ s.get PLN_STATE_state = 2 ∧ s.chg.winStep = s.get PLN_STATE_steps := by
  simp [lastWindow, and_assoc]

theorem planDone_chg : (planDone s).chg.win = [] ∧ (planDone s).chg.winOpen = false := by
  unfold planDone
  split
  · rw [(fr_report ..).chg (by decide), endChange_chg]
    exact ⟨rfl, rfl⟩
  · exact ⟨rfl, rfl⟩

theorem planDone_state : (planDone s).get PLN_STATE_state = if lastWindow s then 3 else s.get PLN_STATE_state := by
  unfold planDone
  split
  · rw [(fr_report ..).get (by decide +kernel), endChange_get, (fr_setDue ..).get (by decide +kernel)]
    exact State.get_set_same _ _ _ _ (by decide) (by decide)
  · rfl

theorem planDone_hits {f : Fld} (hf : f ∈ [PLN_HIT_exceeded, PLN_HIT_last_max]) : (planDone s).get f = s.get f := by
  have hended : Laws.apart m_endChange f = true := (by decide +kernel :
    ∀ f ∈ [PLN_HIT_exceeded, PLN_HIT_last_max], Laws.apart m_endChange f = true) f hf
  have htold : Laws.apart m_report f = true := (by decide +kernel :
    ∀ f ∈ [PLN_HIT_exceeded, PLN_HIT_last_max], Laws.apart m_report f = true) f hf
  unfold planDone
  split
  · rw [(fr_report ..).get htold, (fr_endChange ..).get hended]
    rfl
  · rfl

end

/-- A window that is complete is open. -/
theorem winOpen_of_windowDone {s : State} (h : s.windowDone = true) : s.chg.winOpen = true := by
  unfold State.windowDone at h
  simp only [Bool.and_eq_true] at h
  exact h.1.1

theorem newCycle_windowDone (s : State) : s.newCycle.windowDone = s.windowDone := by
  unfold State.windowDone
  rw [newCycle_chg, newCycle_fab]

theorem newCycle_lastWindow (s : State) : lastWindow s.newCycle = lastWindow s := by
  simp only [lastWindow, newCycle_get, newCycle_chg]

theorem execHitWindowEnd_eq {s : State} (h : s.windowDone = true) :
    exec .hitWindowEnd s = .next (planDone (windowTold s.newCycle)) := by
  have hdone : s.newCycle.windowDone = true := (newCycle_windowDone s).trans h
  refine congrArg Host.Outcome.next ?_
  rw [effHitWindowEnd, if_pos hdone, closeWindow_of_open (winOpen_of_windowDone hdone)]

/-- Settles O39: HALT_PLAN by when it comes, and a complete window by what it shows and shuts. -/
theorem haltsAndHits : Obligations.HaltsAndHits := by
  unfold Obligations.HaltsAndHits
  refine ⟨fun n m s hserved => ⟨fun hidle => ?_, fun hchanging hkind hdue hstart => ?_, fun hchanging hfar => ?_⟩,
    fun s hdone => ?_⟩
  · have hcmd := cmdHaltPlan_idle (s := s.newCycle) (by rwa [newCycle_changing, newCycle_get, newCycle_get])
    exact ⟨_, _, execHaltPlan_answers hserved hcmd, rfl, rfl⟩
  · have hcmd := cmdHaltPlan_waits (s := s.newCycle) (by rwa [newCycle_changing]) (by rwa [newCycle_get])
      (by rwa [newCycle_due, newCycle_gmf]) (by rwa [newCycle_chg])
    rw [newCycle_chg] at hcmd
    exact ⟨_, _, execHaltPlan_answers hserved hcmd, rfl, rfl⟩
  · obtain ⟨k, hcmd⟩ := cmdHaltPlan_stops (s := s.newCycle) (by rwa [newCycle_changing])
      (by rwa [newCycle_get, newCycle_get, newCycle_due, newCycle_gmf, newCycle_chg])
    exact execHaltPlan_stops hserved hcmd
  · have hexec := execHitWindowEnd_eq hdone
    have hframe : Frame m_effHitWindowEnd s.newCycle _ := frame_of_exec hexec
    have hlast := planDone_state (windowTold s.newCycle)
    rw [windowTold_lastWindow, newCycle_lastWindow, (windowTold_frame _).get (by decide +kernel), newCycle_get] at hlast
    obtain ⟨hwin, hshut⟩ := planDone_chg (windowTold s.newCycle)
    refine ⟨_, hexec, hshut, hwin, ?_, ?_, fun h => ?_, fun h => ?_, frame_keep hframe (by decide +kernel),
      hframe.keepRegs (by decide +kernel)⟩
    · rw [planDone_hits _ (by decide), windowTold_exceeded, newCycle_get, hitsExceeding, newCycle_chg]
    · rw [planDone_hits _ (by decide), windowTold_max, newCycle_chg]
    · rw [hlast, if_pos ((lastWindow_iff s).2 h)]
    · rw [hlast, if_neg fun hl => h ((lastWindow_iff s).1 hl)]

end Sys2Proof.Images
end

section
/-!
The containers in flash (R315, R316, R319, R378): what is read of one depends on the flash and the fuses alone.
-/
namespace Sys2Proof.Images

open Sys2Proof.Machine Sys2Proof.Safety Sys2Proof.Scope Sys2Proof.Architecture Sys2Proof.Framing Sys2Proof.Fabric
open Sys2Proof.Laws hiding maskOf put

section
variable {s t : State} (h : t.flash = s.flash)
include h

theorem flashBytes_of_flash : t.flashBytes = s.flashBytes := by
  funext cs off n
  unfold State.flashBytes State.flashByte
  rw [h]

theorem flashNat_of_flash : t.flashNat = s.flashNat := by
  funext cs off n
  unfold State.flashNat
  rw [flashBytes_of_flash h]

theorem header_of_flash : t.header = s.header := by
  funext cs base
  unfold State.header
  rw [flashNat_of_flash h]

theorem secTable_of_flash : t.secTable = s.secTable := by
  funext hdr
  unfold State.secTable
  rw [flashNat_of_flash h, flashBytes_of_flash h]

theorem body_of_flash : t.body = s.body := by
  funext hdr e
  unfold State.body
  rw [flashBytes_of_flash h]

theorem imageDigest_of_flash : t.imageDigest = s.imageDigest := by
  funext hdr
  unfold State.imageDigest
  rw [flashBytes_of_flash h]

theorem dir_of_flash : t.dir = s.dir := by
  funext cs
  unfold State.dir State.dirCopy State.dirSlot
  rw [flashNat_of_flash h, flashBytes_of_flash h]

theorem planOf_of_flash : t.planOf = s.planOf := by
  funext hdr inst
  unfold State.planOf
  rw [secTable_of_flash h, body_of_flash h]

end

/-- What the choice and the verification of a container read is the same. -/
structure SameStore (s t : State) : Prop where
  flash : t.flash = s.flash
  boot : t.boot = s.boot
  img : t.img = s.img
  cs : t.get CP_BOOT_ST_cs = s.get CP_BOOT_ST_cs

theorem newCycle_sameStore (s : State) : SameStore s s.newCycle :=
  ⟨newCycle_flash s, newCycle_boot s, newCycle_img s, newCycle_get ..⟩

section
variable {s t : State} (h : SameStore s t)
include h

theorem SameStore.verify : t.verify = s.verify := by
  funext hdr size
  unfold State.verify State.keyHash
  rw [flashBytes_of_flash h.flash, imageDigest_of_flash h.flash, secTable_of_flash h.flash, h.boot]

theorem SameStore.sourceHeader : t.sourceHeader = s.sourceHeader := by
  funext src
  unfold State.sourceHeader State.inForce
  rw [header_of_flash h.flash, dir_of_flash h.flash, h.boot, h.cs]

theorem SameStore.usable : t.usable = s.usable := by
  funext src
  unfold State.usable
  rw [h.sourceHeader, h.verify, secTable_of_flash h.flash, h.img]

end

theorem readContainer_sameStore (s : State) (src : Nat) : SameStore s (s.readContainer src) := by
  have hframe := fr_readContainer s src
  exact ⟨hframe.flash (by decide), hframe.boot (by decide), hframe.img (by decide), hframe.get (by decide +kernel) 0⟩

end Sys2Proof.Images
end

section
/-!
The acceptance of an APPLY and of an APPLY_PLAN (R159, R164, R165, R166).
-/
namespace Sys2Proof.Images

open Sys2Proof.Machine Sys2Proof.Safety Sys2Proof.Scope Sys2Proof.Architecture Sys2Proof.Framing Sys2Proof.Fabric
open Sys2Proof.Laws hiding maskOf put

theorem newCycle_roleTakes (s : State) : s.newCycle.roleTakes = s.roleTakes := by
  unfold State.roleTakes
  rw [newCycle_get, newCycle_get, newCycle_get]

/-! ### The start of a load -/

/-- The load of the named sections has started in `t`, and the change is otherwise as `s` has it. -/
structure LoadStarted (s : State) (names : List (Nat × Nat)) (t : State) : Prop where
  state : t.get PLN_STATE_state = 1
  kind : t.get PLN_STATE_kind = s.get PLN_STATE_kind
  due : t.due = s.due
  chg : t.chg = { s.chg with names := sortNames names, ready := none }
  fabricPage : 5 ∈ names.map (·.1) → t.get FAB_PAGE_standby = 1
  twigPage : 6 ∈ names.map (·.1) → t.get TWG_PAGE_standby = 1

section
variable (s : State) (names : List (Nat × Nat))

theorem startLoad_due : (s.startLoad names).due = s.due := by
  have hbegun : (loadBegun s names).due = s.due := by
    simp (disch := decide) only [State.due, State.get64, loadBegun, get_set_sibling]
    rfl
  exact (due_of_frame (startLoad_frame s names) (by decide +kernel)).trans hbegun

/-- A load that names FABRIC_PAGE fills its standby page. -/
theorem startLoad_fabricPage (h : 5 ∈ names.map (·.1)) : (s.startLoad names).get FAB_PAGE_standby = 1 := by
  have hany : (names.any fun p => p.1 == 5) = true := by simpa using h
  unfold State.startLoad
  dsimp only
  rw [(fr_wakeMb1 _).get (by decide +kernel), if_pos hany, get_ite, get_set_sibling (by decide), ite_self]
  exact State.get_set_same _ _ _ _ (by decide) (by decide)

/-- A load that names TWIG_PAGE fills its standby page. -/
theorem startLoad_twigPage (h : 6 ∈ names.map (·.1)) : (s.startLoad names).get TWG_PAGE_standby = 1 := by
  have hany : (names.any fun p => p.1 == 6) = true := by simpa using h
  unfold State.startLoad
  dsimp only
  rw [(fr_wakeMb1 _).get (by decide +kernel), if_pos hany]
  exact State.get_set_same _ _ _ _ (by decide) (by decide)

theorem startLoad_loadStarted : LoadStarted s names (s.startLoad names) where
  state := ((startLoad_frame s names).get (by decide +kernel) 0).trans (State.get_set_same _ _ _ _ (by decide) (by decide))
  kind := ((startLoad_frame s names).get (by decide +kernel) 0).trans (get_set_bits (by decide) ..)
  due := startLoad_due s names
  chg := ((startLoad_frame s names).chg (by decide)).trans (State.set_chg ..)
  fabricPage := startLoad_fabricPage s names
  twigPage := startLoad_twigPage s names

end

theorem LoadStarted.plan {s t : State} {names : List (Nat × Nat)} (h : LoadStarted s names t) :
    t.chg.plan = s.chg.plan := congrArg (·.plan) h.chg

theorem LoadStarted.reply {s t : State} {names : List (Nat × Nat)} (h : LoadStarted s names t) (n hdr : Nat) (r : Reply) :
    LoadStarted s names (t.reply n hdr r) where
  state := (reply_get _ _ _ _ (by decide)).trans h.state
  kind := (reply_get _ _ _ _ (by decide)).trans h.kind
  due := (reply_due ..).trans h.due
  chg := (reply_chg ..).trans h.chg
  fabricPage h5 := (reply_get _ _ _ _ (by decide)).trans (h.fabricPage h5)
  twigPage h6 := (reply_get _ _ _ _ (by decide)).trans (h.twigPage h6)

/-! ### APPLY -/

/-- An APPLY that is accepted, before its load starts. -/
def applyBegun (s : State) (h : Header) (src : Nat) : State :=
  let s := s.closeWindow.useContainer h src
  let s : State := { s with chg := { s.chg with plan := [], step := 0, start := none, haltAt := false } }
  ((s.set PLN_STATE_kind 1).set PLN_STATE_step 0).set PLN_STATE_steps 0

/-- A command that this device takes in its role while no change is in progress, with a container that it may use. -/
structure Acceptable (s : State) (src : Nat) (h : Header) : Prop where
  role : s.roleTakes = true
  known : src ≤ 2
  idle : s.changing = false
  usable : s.usable src = some h

theorem Acceptable.newCycle {s : State} {src : Nat} {h : Header} (ha : Acceptable s src h) :
    Acceptable s.newCycle src h where
  role := (newCycle_roleTakes s).trans ha.role
  known := ha.known
  idle := (newCycle_changing s).trans ha.idle
  usable := by rw [(newCycle_sameStore s).usable, ha.usable]

/-- Whether a container holds each of the named section instances. -/
def Holds (s : State) (h : Header) (names : List (Nat × Nat)) : Prop :=
  ∀ p ∈ names, ∃ x ∈ s.secTable h, x.id = p.1 ∧ x.inst = p.2

theorem Holds.all_any {s : State} {h : Header} {names : List (Nat × Nat)} (hheld : Holds s h names) :
    (names.all fun n => (s.secTable h).any fun x => x.id == n.1 && x.inst == n.2) = true := by
  simpa [Holds] using hheld

theorem Holds.of_flash {s t : State} {h : Header} {names : List (Nat × Nat)} (hflash : t.flash = s.flash)
    (hheld : Holds s h names) : Holds t h names := by
  unfold Holds
  rwa [secTable_of_flash hflash]

section
variable {s : State} {src : Nat} {h : Header} {names : List (Nat × Nat)}

theorem applyBegun_flash : (applyBegun s h src).flash = s.flash := by
  simp only [applyBegun, State.set_flash]
  exact (fr_closeWindow s).flash (by decide)

theorem applyBegun_chg : (applyBegun s h src).chg.cs = h.cs ∧ (applyBegun s h src).chg.base = h.base := by
  simp only [applyBegun, State.set_chg]
  exact ⟨rfl, rfl⟩

theorem applyBegun_kind : (applyBegun s h src).get PLN_STATE_kind = 1 := by
  simp (disch := decide) only [applyBegun, get_set_bits]
  exact State.get_set_same _ _ _ _ (by decide) (by decide)

/-- An APPLY that is accepted answers the digest of its container and starts its load. -/
theorem cmdApply_accepts (ha : Acceptable s src h) (hnames : namesOk names = true) (hheld : Holds s h names) :
    s.cmdApply src names = ({ words := [(1, leNat ((s.imageDigest h).take 4))] },
      (applyBegun (s.readContainer src) h src).startLoad names) := by
  have hstore := readContainer_sameStore s src
  have hdigest := imageDigest_of_flash (applyBegun_flash (s := s.readContainer src) (src := src) (h := h))
  rw [imageDigest_of_flash hstore.flash] at hdigest
  have hsrc := ha.known
  unfold State.cmdApply
  rw [if_neg (by simp [ha.role]), if_neg (by simp [hnames, hsrc]), if_neg (by simp [ha.idle])]
  extract_lets read
  have husable : read.usable src = some h := by rw [hstore.usable, ha.usable]
  have hall := (hheld.of_flash (t := read) hstore.flash).all_any
  rw [husable]
  dsimp -zeta only
  rw [if_neg (by rw [hall]; decide), ← hdigest]
  rfl

/-- One that arrives while a change is in progress is answered as busy (R164). -/
theorem cmdApply_busy (hrole : s.roleTakes = true) (hsrc : src ≤ 2) (hnames : namesOk names = true)
    (hchanging : s.changing = true) : s.cmdApply src names = ({ status := 4 }, s) := by
  unfold State.cmdApply
  rw [if_neg (by simp [hrole]), if_neg (by simp [hnames, hsrc]), if_pos hchanging]

end

section
variable {s : State} {n : Nat} {m : List Nat}

theorem execApply_served (h : Served s n 0x0101 m) {r : Reply} {u : State}
    (hcmd : s.newCycle.cmdApply (msgWord m 1 % 4) (applyNames m) = (r, u)) :
    exec (.apply n) s = .next (u.reply n (msgWord m 0) r) := by
  refine (congrArg Host.Outcome.next (serve_answer (served_newCycle h) rfl fun s m =>
    s.cmdApply (msgWord m 1 % 4) (applyNames m))).trans ?_
  rw [hcmd]

theorem execApply_accepts {h : Header} (hserved : Served s n 0x0101 m) (ha : Acceptable s (msgWord m 1 % 4) h)
    (hnames : namesOk (applyNames m) = true) (hheld : Holds s h (applyNames m)) :
    ∃ u t : State, exec (.apply n) s = .next t ∧
      t = u.reply n (msgWord m 0) { words := [(1, leNat ((s.imageDigest h).take 4))] } ∧
      t.get PLN_STATE_state = 1 ∧ t.get PLN_STATE_kind = 1 ∧ t.chg.names = sortNames (applyNames m) ∧
      t.chg.ready = none ∧ t.chg.cs = h.cs ∧ t.chg.base = h.base ∧
      (5 ∈ (applyNames m).map (·.1) → t.get FAB_PAGE_standby = 1) ∧
      (6 ∈ (applyNames m).map (·.1) → t.get TWG_PAGE_standby = 1) := by
  have hcmd := cmdApply_accepts ha.newCycle hnames (hheld.of_flash (newCycle_flash s))
  rw [imageDigest_of_flash (newCycle_flash s)] at hcmd
  have hexec := execApply_served hserved hcmd
  have hload := (startLoad_loadStarted (applyBegun (s.newCycle.readContainer (msgWord m 1 % 4)) h (msgWord m 1 % 4))
    (applyNames m)).reply n (msgWord m 0) { words := [(1, leNat ((s.imageDigest h).take 4))] }
  obtain ⟨hcs, hbase⟩ := applyBegun_chg (s := s.newCycle.readContainer (msgWord m 1 % 4)) (src := msgWord m 1 % 4) (h := h)
  exact ⟨_, _, hexec, rfl, hload.state, hload.kind.trans applyBegun_kind, congrArg (·.names) hload.chg,
    congrArg (·.ready) hload.chg, (congrArg (·.cs) hload.chg).trans hcs, (congrArg (·.base) hload.chg).trans hbase,
    hload.fabricPage, hload.twigPage⟩

end

/-! ### APPLY_PLAN -/

/-- The loader has read the PLAN section of a number, and its clamps are told (R14, R15). -/
def planRead (s : State) (h : Header) (inst : Nat) : State :=
  (s.loaderReads ((((s.secTable h).find? fun x => x.id == 16 && x.inst == inst).map (s.body h)).getD [])).writeClamps true
    (s.planOf h inst).isNone (s.planClamps h inst)

/-- The number of steps of a plan, and its ID. -/
def planSteps (plan : List Entry) : Nat := globalOf [({ sec := 16, entries := plan } : Section)] PLAN_steps
def planId (plan : List Entry) : Nat := globalOf [({ sec := 16, entries := plan } : Section)] PLAN_plan_id

/-- A plan without a start time that is accepted and shown. -/
def planBegun (s : State) (h : Header) (src : Nat) (plan : List Entry) : State :=
  let s := s.closeWindow.useContainer h src
  let s : State := { s with chg := { s.chg with plan := plan, haltAt := false, start := none } }
  let s := ((s.set PLN_STATE_kind 2).set PLN_STATE_step 0).set PLN_STATE_steps (planSteps plan)
  s.set PLN_ID_id (planId plan)

/-- The boundary of step `k` is its gap on. -/
def stepScheduled (s : State) (k : Nat) : State := s.setDue (s.gmf + (s.planStep k).n PLAN_gap)

/-- Step `k` is the one that loads. -/
def stepChosen (s : State) (k : Nat) : State := { s with chg := { s.chg with step := k } }

theorem stepChosen_get (s : State) (k : Nat) (f : Fld) (n : Nat) : (stepChosen s k).get f n = s.get f n := rfl

theorem stepChosen_plan (s : State) (k : Nat) : (stepChosen s k).chg.plan = s.chg.plan := rfl

theorem stepChosen_due (s : State) (k : Nat) : (stepChosen s k).due = s.due := rfl

/-- The precondition of a step: the pages in force are those that it checks for, if it checks. -/
def PagesAwaited (s : State) (e : Entry) : Prop := e.b PLAN_pre_check = true →
  s.get FAB_PAGE_ID_id = e.n PLAN_pre_fab_id ∧ s.get TWG_PAGE_ID_id = e.n PLAN_pre_twg_id

theorem pagesAwaited_of_get {s t : State} {e : Entry} (hfab : t.get FAB_PAGE_ID_id = s.get FAB_PAGE_ID_id)
    (htwig : t.get TWG_PAGE_ID_id = s.get TWG_PAGE_ID_id) (h : PagesAwaited s e) : PagesAwaited t e := by
  unfold PagesAwaited
  rwa [hfab, htwig]

/-- The steps of a plan name sections that a container holds. -/
def PlanHeld (s : State) (h : Header) (plan : List Entry) : Prop := ∀ y ∈ plan, y.kind = 1 → Holds s h (stepNames y)

theorem planStep_of_plan {s t : State} (h : t.chg.plan = s.chg.plan) (k : Nat) : t.planStep k = s.planStep k := by
  unfold State.planStep
  rw [h]

section
variable {s : State} {src : Nat} {h : Header} {inst : Nat} {plan : List Entry} {k : Nat}

theorem planRead_flash : (planRead s h inst).flash = s.flash :=
  ((fr_writeClamps ..).flash (by decide)).trans ((fr_loaderReads ..).flash (by decide))

/-- A change of the block of changes alone. -/
theorem frame_chg (s : State) (c : ChgBlock) : Frame m_useContainer s { s with chg := c } := by
  rw [mk_put]
  apply Frame.upd (Frame.refl _ _) <;> first | exact .inl rfl | exact .inr (by decide)

/-- What an APPLY_PLAN that is accepted changes beside its reply. -/
def m_planTaken : Nat := m_loaderReads ||| m_writeClamps ||| m_closeWindow ||| m_startLoad ||| 2 ^ 61

theorem planBegun_frame : Frame m_planTaken s (planBegun (planRead (s.readContainer src) h inst) h src plan) := by
  have hread : Frame m_planTaken s (planRead (s.readContainer src) h inst) :=
    (((fr_readContainer s src).mono (by decide)).step (fr_loaderReads ..) (by decide)).step (fr_writeClamps ..) (by decide)
  have hclosed := (hread.step (fr_closeWindow _) (by decide)).step (fr_useContainer _ h src) (by decide)
  exact ((((hclosed.step (frame_chg ..) (by decide)).setS (by decide +kernel)).setS (by decide +kernel)).setS
    (by decide +kernel)).setS (by decide +kernel)

theorem planBegun_plan : (planBegun s h src plan).chg.plan = plan := by
  simp only [planBegun, State.set_chg]

theorem planBegun_kind : (planBegun s h src plan).get PLN_STATE_kind = 2 := by
  simp (disch := decide) only [planBegun, get_set_bits, get_set_sibling]
  exact State.get_set_same _ _ _ _ (by decide) (by decide)

/-- An APPLY_PLAN without a start time that is accepted shows its plan and starts step `k`. -/
theorem cmdApplyPlan_accepts (ha : Acceptable s src h) (hinst : ∃ x ∈ s.secTable h, x.id = 16 ∧ x.inst = inst)
    (hplan : s.planOf h inst = some plan) (hk : max 1 k ≤ 32) (hsteps : max 1 k ≤ planSteps plan)
    (hheld : PlanHeld s h plan) :
    s.cmdApplyPlan src inst k none = ({},
      (stepScheduled (planBegun (planRead (s.readContainer src) h inst) h src plan) (max 1 k)).startStep (max 1 k)) := by
  have hstore := readContainer_sameStore s src
  have hfirst : (if k = 0 then 1 else k) = max 1 k := by split <;> omega
  have hsrc := ha.known
  have hany : ((s.secTable h).any fun x => x.id == 16 && x.inst == inst) = true := by simpa using hinst
  have hall : ((plan.filter fun e => e.kind == 1).all fun e => (stepNames e).all fun n =>
      (s.secTable h).any fun x => x.id == n.1 && x.inst == n.2) = true :=
    List.all_eq_true.2 fun y hy => (hheld y (List.mem_of_mem_filter hy)
      (by simpa using (List.mem_filter.1 hy).2)).all_any
  unfold State.cmdApplyPlan
  rw [hfirst]
  generalize max 1 k = k at hk hsteps
  rw [if_neg (by simp [ha.role]), if_neg (by omega), if_neg (by simp [ha.idle])]
  extract_lets read
  have husable : read.usable src = some h := by rw [hstore.usable, ha.usable]
  rw [husable]
  dsimp -zeta only
  rw [if_neg (by rw [secTable_of_flash hstore.flash, hany]; decide)]
  extract_lets body clamped
  have hclamped : clamped = planRead read h inst := rfl
  have hflash : clamped.flash = s.flash := hclamped ▸ planRead_flash.trans hstore.flash
  have hplan' : clamped.planOf h inst = some plan := by rw [planOf_of_flash hflash, hplan]
  rw [hplan']
  dsimp -zeta only
  extract_lets steps
  rw [if_neg (show ¬ steps < k from Nat.not_lt.2 hsteps), if_neg (by simp),
    if_neg (by rw [secTable_of_flash hflash, hall]; decide)]
  rfl

/-- The load of a step whose precondition holds starts. -/
theorem startStep_starts (hpre : PagesAwaited s (s.planStep k)) :
    s.startStep k = (stepChosen s k).startLoad (stepNames (s.planStep k)) := by
  have hholds : ((s.planStep k).b PLAN_pre_check && (s.get FAB_PAGE_ID_id != (s.planStep k).n PLAN_pre_fab_id ||
      s.get TWG_PAGE_ID_id != (s.planStep k).n PLAN_pre_twg_id)) = false := by
    cases hcheck : (s.planStep k).b PLAN_pre_check
    · rfl
    · obtain ⟨hfab, htwig⟩ := hpre hcheck
      simp [hfab, htwig]
  unfold State.startStep
  extract_lets e t
  exact if_neg (Bool.eq_false_iff.1 hholds)

end

section
variable {s : State} {n : Nat} {m : List Nat}

theorem execApplyPlan_served (h : Served s n 0x0102 m) (hstart : bit (msgWord m 4) 31 = false) {r : Reply} {u : State}
    (hcmd : s.newCycle.cmdApplyPlan (msgWord m 1 % 4) (msgWord m 2 % 2 ^ 8) (slice (msgWord m 2) 15 8) none = (r, u)) :
    exec (.applyPlan n) s = .next (u.reply n (msgWord m 0) r) := by
  refine (congrArg Host.Outcome.next (serve_answer (served_newCycle h) rfl fun s m =>
    s.cmdApplyPlan (msgWord m 1 % 4) (msgWord m 2 % 2 ^ 8) (slice (msgWord m 2) 15 8)
      (if bit (msgWord m 4) 31 then some (msgWord m 3 + 2 ^ 32 * (msgWord m 4 % 2 ^ 16)) else none))).trans ?_
  rw [hstart, if_neg Bool.false_ne_true, hcmd]

/-- The plan as the load of step `k` starts. -/
def planReady (s : State) (src inst k : Nat) (h : Header) (plan : List Entry) : State :=
  stepScheduled (planBegun (planRead (s.readContainer src) h inst) h src plan) k

section
variable {src inst k : Nat} {h : Header} {plan : List Entry}

theorem planReady_frame : Frame m_planTaken s (planReady s src inst k h plan) :=
  planBegun_frame.step (fr_setDue ..) (by decide)

theorem planReady_plan : (planReady s src inst k h plan).chg.plan = plan := by
  unfold planReady stepScheduled
  rw [setDue_chg, planBegun_plan]

theorem planReady_kind : (planReady s src inst k h plan).get PLN_STATE_kind = 2 :=
  ((fr_setDue ..).get (by decide +kernel) 0).trans planBegun_kind

theorem planReady_due {t : State} (ht : t.chg.plan = plan) :
    (planReady s src inst k h plan).due = (s.gmf + (t.planStep k).n PLAN_gap) % 2 ^ 64 := by
  have hframe := planBegun_frame (s := s) (src := src) (inst := inst) (h := h) (plan := plan)
  have hgmf := gmf_of_get (hframe.get (f := FAB_GMF_LO_gmf_lo) (by decide +kernel) 0)
    (hframe.get (f := FAB_GMF_HI_gmf_hi) (by decide +kernel) 0)
  unfold planReady stepScheduled
  rw [setDue_due, hgmf, planStep_of_plan (planBegun_plan.trans ht.symm)]

/-- The step that an APPLY_PLAN names starts to load, where its precondition holds. -/
theorem planReady_starts {t : State} (ht : t.chg.plan = plan) (hpre : PagesAwaited s (t.planStep k)) :
    (planReady s src inst k h plan).startStep k =
      (stepChosen (planReady s src inst k h plan) k).startLoad (stepNames (t.planStep k)) := by
  have hframe := planReady_frame (s := s) (src := src) (inst := inst) (k := k) (h := h) (plan := plan)
  have hstep := planStep_of_plan (s := t) (t := planReady s src inst k h plan) (planReady_plan.trans ht.symm) k
  rw [startStep_starts, hstep]
  rw [hstep]
  exact pagesAwaited_of_get (hframe.get (by decide +kernel) 0) (hframe.get (by decide +kernel) 0) hpre

/-- The state as the load of step `k` has started. -/
def planLoading (s : State) (src inst k : Nat) (h : Header) (plan : List Entry) (names : List (Nat × Nat)) : State :=
  (stepChosen (planReady s src inst k h plan) k).startLoad names

theorem planLoading_frame (names : List (Nat × Nat)) : Frame m_planTaken s (planLoading s src inst k h plan names) :=
  (planReady_frame.step (frame_chg ..) (by decide)).step (fr_startLoad ..) (by decide)

/-- What an APPLY_PLAN that is accepted and answered changes. -/
theorem planAnswered_frame (names : List (Nat × Nat)) (r : Reply) : Frame (m_planTaken ||| m_reply) s
    ((planLoading s src inst k h plan names).reply n (msgWord m 0) r) :=
  ((planLoading_frame names).mono (by decide)).step (fr_reply ..) (by decide)

/-- What shows that the load of step `k` of a plan has started, the step due its gap on. -/
theorem planAnswered_shows {w t : State} (hw : w.chg.plan = plan) {names : List (Nat × Nat)} {r : Reply}
    (ht : t = (planLoading s src inst k h plan names).reply n (msgWord m 0) r) :
    t.get PLN_STATE_state = 1 ∧ t.get PLN_STATE_kind = 2 ∧ t.chg.plan = plan ∧ t.chg.step = k ∧
      t.due = (s.gmf + (w.planStep k).n PLAN_gap) % 2 ^ 64 ∧ t.chg.names = sortNames names := by
  have hload := (startLoad_loadStarted (stepChosen (planReady s src inst k h plan) k) names).reply n (msgWord m 0) r
  rw [← planLoading, ← ht] at hload
  refine ⟨hload.state, ?_, ?_, congrArg (·.step) hload.chg, ?_, congrArg (·.names) hload.chg⟩
  · rw [hload.kind, stepChosen_get, planReady_kind]
  · rw [hload.plan, stepChosen_plan, planReady_plan]
  · rw [hload.due, stepChosen_due, planReady_due hw]

end

/-- An APPLY_PLAN that is accepted starts its step and answers without words. -/
theorem execApplyPlan_accepts {h : Header} {plan : List Entry} {k : Nat} {w : State} (hserved : Served s n 0x0102 m)
    (ha : Acceptable s (msgWord m 1 % 4) h) (hinst : ∃ x ∈ s.secTable h, x.id = 16 ∧ x.inst = msgWord m 2 % 2 ^ 8)
    (hplan : s.planOf h (msgWord m 2 % 2 ^ 8) = some plan) (hstart : bit (msgWord m 4) 31 = false)
    (hfirst : k = max 1 (slice (msgWord m 2) 15 8)) (hk : k ≤ 32) (hsteps : k ≤ planSteps plan) (hheld : PlanHeld s h plan)
    (hw : w.chg.plan = plan) (hpre : PagesAwaited s (w.planStep k)) :
    exec (.applyPlan n) s = .next ((planLoading s.newCycle (msgWord m 1 % 4) (msgWord m 2 % 2 ^ 8) k h plan
      (stepNames (w.planStep k))).reply n (msgWord m 0) {}) := by
  have hflash := newCycle_flash s
  have hcmd := cmdApplyPlan_accepts ha.newCycle (by rwa [secTable_of_flash hflash]) (by rwa [planOf_of_flash hflash])
    (hfirst ▸ hk) (hfirst ▸ hsteps) fun y hy hstep => (hheld y hy hstep).of_flash hflash
  have hstep := planReady_starts (s := s.newCycle) (src := msgWord m 1 % 4) (inst := msgWord m 2 % 2 ^ 8) (h := h) hw
    (pagesAwaited_of_get (newCycle_get ..) (newCycle_get ..) hpre)
  rw [← hfirst] at hcmd
  rw [planReady] at hstep
  rw [hstep] at hcmd
  exact execApplyPlan_served hserved hstart hcmd

end

/-- Settles O36: an APPLY accepted or answered as busy, and an APPLY_PLAN that starts its step. -/
theorem changesAreAccepted : Obligations.ChangesAreAccepted := by
  unfold Obligations.ChangesAreAccepted
  refine ⟨fun n m h s hserved hrole hsrc hnames hidle husable hheld => ?_,
    fun n m s hserved hrole hsrc hnames hchanging => ?_,
    fun n m h plan k e s hserved hrole hsrc hidle husable hinst hplan hstart hfirst hk hsteps hheld he hpre => ?_⟩
  · obtain ⟨u, t, hexec, hreply, hstate, hkind, hrest⟩ :=
      execApply_accepts hserved ⟨hrole, hsrc, hidle, husable⟩ hnames hheld
    have hframe : Frame m_effApply s.newCycle t := frame_of_exec hexec
    obtain ⟨hloads, hready, hcs, hbase, hfab, htwig⟩ := hrest
    exact ⟨u, t, hexec, hreply, hstate, hkind, hloads, hready, hcs, hbase, hfab, htwig,
      frame_keep hframe (by decide +kernel), hframe.keepRegs (by decide +kernel)⟩
  · have hcmd := cmdApply_busy ((newCycle_roleTakes s).trans hrole) hsrc hnames ((newCycle_changing s).trans hchanging)
    exact ⟨_, _, execApply_served hserved hcmd, rfl, rfl⟩
  · have hplanOf : ({ s with chg := { s.chg with plan := plan } } : State).chg.plan = plan := rfl
    generalize ({ s with chg := { s.chg with plan := plan } } : State) = w at he hplanOf
    subst he
    have hexec := execApplyPlan_accepts hserved ⟨hrole, hsrc, hidle, husable⟩ hinst hplan hstart hfirst hk hsteps hheld
      hplanOf hpre
    have hframe := planAnswered_frame (s := s.newCycle) (n := n) (m := m) (src := msgWord m 1 % 4)
      (inst := msgWord m 2 % 2 ^ 8) (k := k) (h := h) (plan := plan) (stepNames (w.planStep k)) {}
    obtain ⟨hstate, hkind, hshown, hstep, hdue, hloads⟩ := planAnswered_shows (s := s.newCycle) (src := msgWord m 1 % 4)
      (inst := msgWord m 2 % 2 ^ 8) (k := k) (h := h) hplanOf (names := stepNames (w.planStep k)) (r := {}) rfl
    rw [newCycle_gmf] at hdue
    exact ⟨_, _, hexec, rfl, hstate, hkind, hshown, hstep, hdue, hloads, frame_keep hframe (by decide +kernel),
      hframe.keepRegs (by decide +kernel)⟩

end Sys2Proof.Images
end

section
/-!
The end of a load (R161, R162, R172): the checks and the faults that they find, and the load that is armed.
-/
namespace Sys2Proof.Images

open Sys2Proof.Machine Sys2Proof.Safety Sys2Proof.Scope Sys2Proof.Architecture Sys2Proof.Framing Sys2Proof.Fabric
open Sys2Proof.Laws hiding maskOf put

theorem newCycle_flashFree (s : State) : s.newCycle.flashFree = s.flashFree := by
  unfold State.flashFree
  rw [newCycle_on, newCycle_on, newCycle_on, newCycle_mate]

/-! ### The faults of a load (Table 6-3) -/

/-- A fault of the reading of the sections: one that cannot be read, or that its range checks reject. -/
theorem loadNames_cause {s : State} {h : Header} {bad : List (Nat × Nat)} {names : List (Nat × Nat)} {f : LoadFault}
    (hf : (s.loadNames h bad names).2.2 = some f) : f.1 ∈ [7, 1] := by
  induction names with
  | nil => cases hf
  | cons n names ih =>
    unfold State.loadNames at hf
    split at hf
    · cases hf
      simp
    · dsimp only at hf
      split at hf
      · cases hf
        simp
      · split at hf
        · cases hf
          simp
        · split at hf
          · cases hf
            simp
          · exact ih hf

theorem firstRejected_cause {l : List Loaded} {f : LoadFault} (hf : firstRejected l = some f) : f.1 = 1 := by
  obtain ⟨x, -, hx⟩ := List.exists_of_findSome?_eq_some hf
  obtain ⟨e, -, rfl⟩ := Option.map_eq_some_iff.1 hx
  rfl

/-- A fault of the checks of the sections read: a rejection, residence, a disturbed output or a hit declaration. -/
theorem checkLoad_cause {s : State} {names : List (Nat × Nat)} {l : List Loaded} {f : LoadFault}
    (hf : (s.checkLoad names l).2.1 = some f) : f.1 ∈ [1, 2, 4, 5] := by
  unfold State.checkLoad at hf
  dsimp only at hf
  split at hf
  · next hrejected =>
    cases hf
    simp [firstRejected_cause hrejected]
  · split at hf
    · cases hf
      simp
    · split at hf
      · cases hf
      · split at hf
        · cases hf
          simp
        · split at hf
          · cases hf
            simp
          · cases hf

/-! ### The stages of the end of a load -/

/-- What the reading of sections gives: the sections with their digests, the bytes read, and the first fault. -/
abbrev ReadSections := List (Loaded × List Byte) × List Byte × Option LoadFault

/-- What the checks give: the sections as checked, the first fault, and a residence mismatch. -/
abbrev Verdict := List Loaded × Option LoadFault × Option Mismatch

/-- MB1 is ON for a load. -/
def mb1On (s : State) : State := if s.get MB_ST_power 1 = 3 then s.set MB_ST_power 0 1 else s

/-- The sections that a load names, read from its container. -/
def sectionsRead (s : State) (bad : List (Nat × Nat)) : ReadSections :=
  s.loadNames (s.header s.chg.cs s.chg.base) bad s.chg.names

/-- The fault that the reading met, or what the checks say. -/
def verdictOf (s : State) (r : ReadSections) : Verdict :=
  match r.2.2 with
  | some f => (r.1.map (·.1), some f, none)
  | none => s.checkLoad s.chg.names (r.1.map (·.1))

/-- The clamps of a load are told and noted. -/
def loadNoted (s : State) (v : Verdict) : State :=
  let l := if v.2.2.isSome then mismatchRejects v.1 else v.1
  (s.loadClamps true v.2.1.isSome l).noteLoad l

/-- The record of a residence mismatch. -/
def mismatchTold (s : State) (o : Option Mismatch) : State :=
  match o with
  | some m => s.report kRESIDENCE_MISMATCH [(3, m.1), (4, m.2.1), (4, unsignedOf 32 m.2.2)]
  | none => s

/-- The sections of a load that passed, each with its digest and its source. -/
def sectionsArmed (src : Nat) (l : List Loaded) (r : ReadSections) : List Section :=
  (l.zip (r.1.map (·.2))).map fun p => ({ p.1.section_ with src := src, digest := p.2 } : Section)

/-- A standby page that was being filled is READY. -/
def pageReady (s : State) (f : Fld) : State := if s.get f = 1 then s.set f 2 else s

/-- The change waits for its boundary with its sections. -/
def loadArmed (s : State) (secs : List Section) : State :=
  pageReady (pageReady ((({ s with chg := { s.chg with ready := some secs } } : State).set PLN_STATE_state 2).arbitrate)
    FAB_PAGE_standby) TWG_PAGE_standby

/-- A load ends by what the checks say. -/
def loadEnded (s : State) (r : ReadSections) (v : Verdict) : State :=
  match v.2.1 with
  | some f => (mismatchTold (loadNoted s v) v.2.2).stopChange f.1 f.2.1 f.2.2
  | none => loadArmed (loadNoted s v) (sectionsArmed (loadNoted s v).chg.src v.1 r)

/-- The sections read are absorbed by the units that check them, and the load ends by its checks. -/
def loadJudged (s : State) (r : ReadSections) : State :=
  loadEnded (s.loaderReads r.2.1) r (verdictOf (s.loaderReads r.2.1) r)

/-- A load that may end now: it is under way, and this device may drive the flash. -/
structure LoadEnds (s : State) : Prop where
  loading : s.get PLN_STATE_state = 1
  unready : s.chg.ready = none
  free : s.flashFree = true

theorem LoadEnds.newCycle {s : State} (h : LoadEnds s) : LoadEnds s.newCycle where
  loading := (newCycle_get ..).trans h.loading
  unready := by rw [newCycle_chg, h.unready]
  free := (newCycle_flashFree s).trans h.free

theorem LoadEnds.eff {s : State} (h : LoadEnds s) (bad : List (Nat × Nat)) :
    effApplyLoadComplete bad s = loadJudged (mb1On s) (sectionsRead (mb1On s) bad) := by
  unfold effApplyLoadComplete
  rw [if_neg (by simp [h.loading, h.unready, h.free])]
  rfl

theorem verdictOf_cause {s : State} {r : ReadSections} {f : LoadFault} (hr : ∀ g, r.2.2 = some g → g.1 ∈ [7, 1])
    (hf : (verdictOf s r).2.1 = some f) : f.1 ∈ [1, 2, 4, 5, 7] := by
  have hchecks : ∀ c ∈ [1, 2, 4, 5], c ∈ [1, 2, 4, 5, 7] := by decide
  have hreads : ∀ c ∈ [7, 1], c ∈ [1, 2, 4, 5, 7] := by decide
  unfold verdictOf at hf
  split at hf
  · next g hg =>
    cases hf
    exact hreads _ (hr _ hg)
  · exact hchecks _ (checkLoad_cause hf)

/-! ### What the stages leave -/

/-- What the reading, the checks and their records change. -/
def m_loadNoted : Nat := m_loaderReads ||| m_loadClamps ||| m_noteLoad ||| m_wakeMb1

theorem mb1On_frame (s : State) : Frame m_loadNoted s (mb1On s) :=
  Frame.ite ((Frame.refl m_loadNoted s).setS (by decide +kernel)) (Frame.refl ..)

theorem loadNoted_frame (s : State) (v : Verdict) : Frame m_loadNoted s (loadNoted s v) :=
  ((fr_loadClamps ..).mono (by decide)).step (fr_noteLoad ..) (by decide)

/-- What arming a load changes beside the status of the change. -/
def m_armed : Nat := 2 ^ 45 ||| 2 ^ 47 ||| m_arbitrate

theorem pageReady_frame (s : State) {f : Fld} (hf : covered m_armed f = true) : Frame m_armed s (pageReady s f) :=
  Frame.ite ((Frame.refl m_armed s).setS hf) (Frame.refl ..)

theorem loadArmed_frame (s : State) (secs : List Section) :
    Frame m_armed (({ s with chg := { s.chg with ready := some secs } } : State).set PLN_STATE_state 2)
      (loadArmed s secs) :=
  (((fr_arbitrate _).mono (by decide)).step (pageReady_frame _ (by decide +kernel)) (Nat.or_self _)).step
    (pageReady_frame _ (by decide +kernel)) (Nat.or_self _)

section
variable (s : State) (secs : List Section)

theorem loadArmed_state : (loadArmed s secs).get PLN_STATE_state = 2 :=
  ((loadArmed_frame s secs).get (by decide +kernel) 0).trans (State.get_set_same _ _ _ _ (by decide) (by decide))

theorem loadArmed_ready : (loadArmed s secs).chg.ready = some secs := by
  rw [(loadArmed_frame s secs).chg (by decide), State.set_chg]

theorem loadArmed_due : (loadArmed s secs).due = s.due := by
  rw [due_of_frame (loadArmed_frame s secs) (by decide +kernel)]
  simp (disch := decide) only [State.due, State.get64, get_set_sibling]
  rfl

end

/-! ### A load that fails -/

section
variable (s : State) {cause sec key : Nat}

theorem pageEmptied_false (f : Fld) : pageEmptied s f false = s.set f 0 := if_neg Bool.false_ne_true

/-- A load that fails leaves no standby page filled (R162). -/
theorem stopChange_empties (hcause : cause < 8) : ∃ k fields, s.stopChange cause sec key =
    ((pageEmptied (pageEmptied (changeStopped s cause sec key) FAB_PAGE_standby false) TWG_PAGE_standby
      false).restMb1.arbitrate).report k fields := by
  unfold State.stopChange
  rw [decide_eq_false (Nat.not_le.2 hcause)]
  by_cases hplan : (s.get PLN_STATE_kind == 2) = true
  · exact ⟨_, _, if_pos hplan⟩
  · exact ⟨_, _, if_neg hplan⟩

/-- The fields of the standby pages. -/
def pageFlds : List Fld := [FAB_PAGE_standby, TWG_PAGE_standby]

theorem pageFlds_apart : ∀ f ∈ pageFlds, Laws.apart m_restMb1 f = true ∧ Laws.apart m_arbitrate f = true ∧
    Laws.apart m_report f = true := by decide +kernel

theorem stopChange_page (hcause : cause < 8) {f : Fld} (hf : f ∈ pageFlds) : (s.stopChange cause sec key).get f =
    (((changeStopped s cause sec key).set FAB_PAGE_standby 0).set TWG_PAGE_standby 0).get f := by
  obtain ⟨k, fields, heq⟩ := stopChange_empties s (sec := sec) (key := key) hcause
  obtain ⟨hrest, harbitrate, hreport⟩ := pageFlds_apart f hf
  rw [heq, (fr_report ..).get hreport, (fr_arbitrate _).get harbitrate, (fr_restMb1 _).get hrest, pageEmptied_false,
    pageEmptied_false]

theorem stopChange_pages (hcause : cause < 8) : (s.stopChange cause sec key).get FAB_PAGE_standby = 0 ∧
    (s.stopChange cause sec key).get TWG_PAGE_standby = 0 := by
  rw [stopChange_page s hcause (by decide), stopChange_page s hcause (by decide), get_set_sibling (by decide)]
  exact ⟨State.get_set_same _ _ _ _ (by decide) (by decide), State.get_set_same _ _ _ _ (by decide) (by decide)⟩

/-- A change that stops shows the section and the key of its cause. -/
theorem stopChange_detail : (s.stopChange cause sec key).get PLN_DETAIL_sec = sec % 2 ^ 8 ∧
    (s.stopChange cause sec key).get PLN_DETAIL_key = key % 2 ^ 24 := by
  have hframe := stopChange_frame s cause sec key
  rw [hframe.get (by decide +kernel), hframe.get (by decide +kernel)]
  exact ⟨(get_set_bits (by decide) ..).trans (State.get_set_same _ _ _ _ (by decide) (by decide)),
    State.get_set_same _ _ _ _ (by decide) (by decide)⟩

end

/-! ### The end of a load -/

/-- A load that fails stops the change as a whole, with its cause. -/
structure LoadFailed (t : State) : Prop where
  state : t.get PLN_STATE_state = 4
  cause : t.get PLN_STATE_cause ∈ [1, 2, 4, 5, 7]
  ready : t.chg.ready = none
  names : t.chg.names = []
  fabricPage : t.get FAB_PAGE_standby = 0
  twigPage : t.get TWG_PAGE_standby = 0

theorem stopChange_loadFailed (s : State) {f : LoadFault} (hf : f.1 ∈ [1, 2, 4, 5, 7]) :
    LoadFailed (s.stopChange f.1 f.2.1 f.2.2) := by
  have hlt : f.1 < 8 := (by decide : ∀ c ∈ [1, 2, 4, 5, 7], c < 8) _ hf
  obtain ⟨hstate, hcause⟩ := stopChange_shows s f.1 f.2.1 f.2.2 (by omega)
  obtain ⟨hfab, htwig⟩ := stopChange_pages s (sec := f.2.1) (key := f.2.2) hlt
  have hchg := stopChange_chg s f.1 f.2.1 f.2.2
  exact ⟨hstate, by rwa [hcause], by rw [hchg]; rfl, by rw [hchg]; rfl, hfab, htwig⟩

theorem loadJudged_cases (s : State) {r : ReadSections} (hr : ∀ g, r.2.2 = some g → g.1 ∈ [7, 1]) :
    ((loadJudged s r).get PLN_STATE_state = 2 ∧ ∃ l, (loadJudged s r).chg.ready = some l) ∨
      LoadFailed (loadJudged s r) := by
  unfold loadJudged loadEnded
  split
  · next f hf => exact .inr (stopChange_loadFailed _ (verdictOf_cause hr hf))
  · exact .inl ⟨loadArmed_state .., _, loadArmed_ready ..⟩

theorem LoadEnds.exec {s : State} (h : LoadEnds s) (bad : List (Nat × Nat)) : exec (.applyLoadComplete bad) s =
    .next (loadJudged (mb1On s.newCycle) (sectionsRead (mb1On s.newCycle) bad)) :=
  congrArg Host.Outcome.next (h.newCycle.eff bad)

theorem execApplyLoadComplete_waits (bad : List (Nat × Nat)) {s : State} (hfree : s.flashFree = false) :
    exec (.applyLoadComplete bad) s = .next s.newCycle := by
  refine congrArg Host.Outcome.next ?_
  unfold effApplyLoadComplete
  rw [if_pos (.inr (.inr (by rw [newCycle_flashFree, hfree]; rfl)))]

section
variable (s : State)

theorem mb1On_newCycle_flash : (mb1On s.newCycle).flash = s.flash :=
  ((mb1On_frame _).flash (by decide)).trans (newCycle_flash s)

theorem mb1On_newCycle_chg : (mb1On s.newCycle).chg = s.chg := ((mb1On_frame _).chg (by decide)).trans (newCycle_chg s)

/-- The sections are read from the container of the change, whatever the cycle has begun. -/
theorem sectionsRead_newCycle (bad : List (Nat × Nat)) : sectionsRead (mb1On s.newCycle) bad =
    (mb1On s.newCycle).loadNames (s.header s.chg.cs s.chg.base) bad s.chg.names := by
  unfold sectionsRead
  rw [mb1On_newCycle_chg, header_of_flash (mb1On_newCycle_flash s)]

end

/-- A section that the flash cannot read fails the load, with cause FLASH. -/
theorem loadNames_unreadable {s : State} {h : Header} {bad : List (Nat × Nat)} {p : Nat × Nat} {x : SecEnt}
    (hx : ((s.secTable h).find? fun x => x.id == p.1 && x.inst == p.2) = some x) (hbad : p ∈ bad)
    (names : List (Nat × Nat)) : s.loadNames h bad (p :: names) = ([], [], some (7, p.1, p.2)) := by
  unfold State.loadNames
  rw [hx]
  dsimp only
  rw [if_pos (by simpa using hbad)]

/-- Settles O37: a load that waits, one that fails or is armed, one that the flash cannot read, and one that passes. -/
theorem loadsEndArmedOrFailed : Obligations.LoadsEndArmedOrFailed := by
  unfold Obligations.LoadsEndArmedOrFailed
  refine ⟨fun bad s _ _ hbusy => execApplyLoadComplete_waits bad hbusy, fun bad s hloading hready hfree => ?_,
    fun bad p x s hloading hready hfree hnames hx hbad => ?_,
    fun bad read bytes l s w hloading _ hready hfree hw hread hcheck => ?_⟩
  · have hexec := (LoadEnds.mk hloading hready hfree).exec bad
    have hframe : Frame m_effApplyLoadComplete s.newCycle _ := frame_of_exec hexec
    refine ⟨_, hexec, ?_, (hframe.img (by decide)).trans (newCycle_img s), frame_keep hframe (by decide +kernel),
      hframe.keepRegs (by decide +kernel)⟩
    refine (loadJudged_cases _ fun g hg => loadNames_cause hg).imp_right fun hfailed => ?_
    exact ⟨hfailed.state, hfailed.cause, hfailed.ready, hfailed.names, hfailed.fabricPage, hfailed.twigPage⟩
  · have hexec := (LoadEnds.mk hloading hready hfree).exec bad
    have hread : sectionsRead (mb1On s.newCycle) bad = ([], [], some (7, p.1, p.2)) := by
      rw [← secTable_of_flash (mb1On_newCycle_flash s)] at hx
      rw [sectionsRead_newCycle, hnames, loadNames_unreadable hx hbad]
    rw [hread] at hexec
    refine ⟨_, hexec, ?_⟩
    obtain ⟨hstate, hcause⟩ := stopChange_shows
      (loadNoted ((mb1On s.newCycle).loaderReads []) ([], some (7, p.1, p.2), none)) 7 p.1 p.2 (by decide)
    exact ⟨hstate, hcause, stopChange_detail ..⟩
  · have hexec := (LoadEnds.mk hloading hready hfree).exec bad
    have hw' : mb1On s.newCycle = w := by
      rw [hw, mb1On, newCycle_get]
    have hreads : sectionsRead (mb1On s.newCycle) bad = (read, bytes, none) := by
      rw [sectionsRead_newCycle, hw', hread]
    have hchg : (w.loaderReads bytes).chg = s.chg := by
      rw [(fr_loaderReads ..).chg (by decide), ← hw', mb1On_newCycle_chg]
    have hverdict : verdictOf (w.loaderReads bytes) (read, bytes, none) = (l, none, none) := by
      rw [← hcheck, ← hchg]
      rfl
    rw [hreads, hw', loadJudged, hverdict] at hexec
    have hframe : Frame m_loadNoted s.newCycle (loadNoted (w.loaderReads bytes) (l, none, none)) := by
      rw [← hw']
      exact ((mb1On_frame _).step (fr_loaderReads ..) (by decide)).step (loadNoted_frame ..) (Nat.or_self _)
    refine ⟨_, hexec, loadArmed_state .., ?_, ?_⟩
    · exact ((loadArmed_due ..).trans (due_of_frame hframe (by decide +kernel))).trans (newCycle_due s)
    · refine (loadArmed_ready ..).trans ?_
      rw [(loadNoted_frame ..).chg (by decide), hchg]
      rfl

end Sys2Proof.Images
end

section
/-!
The roles of a mate pair (R201, R207): what the role, the sync bit and the squelch of an isolated device change.
-/
namespace Sys2Proof.Protection

open Sys2Proof.Machine Sys2Proof.Safety Sys2Proof.Scope Sys2Proof.Architecture Sys2Proof.Framing Sys2Proof.Mapping
  Sys2Proof.Fabric Sys2Proof.Images
open Sys2Proof.Laws hiding maskOf put

/-! ### Records -/

/-- A record that a command offers: what comes before leaves the ports, the sections and the cycle count, and what comes after
leaves the ports. -/
theorem recorded_of_report {s u t : State} {k : RecKind} {fields : List (Nat × Nat)} (hrcd : u.rcd = s.newCycle.rcd)
    (himg : u.img = s.newCycle.img) (hcyc : u.cyc = s.newCycle.cyc) (ht : t.rcd = (u.report k fields).rcd) :
    Recorded s t k (payloadOf fields) := by
  intro hsev hroom
  rw [ht, report_offers_congr hrcd himg hcyc]
  exact report_recorded s k fields hsev hroom

theorem payloadOf_single (n v : Nat) : payloadOf [(n, v)] = leBytes n v := List.append_nil _

/-! ### The role register -/

theorem setRole_same (s : State) {r : Nat} (hr : r < 4) : (s.setRole r).get MATE_ST_role = r := by
  unfold State.setRole
  split
  · assumption
  · rw [(fr_report ..).get (by decide +kernel), State.get_set_same _ _ _ _ (by decide) (by decide)]
    exact Nat.mod_eq_of_lt hr

/-- A role that changes is recorded. -/
theorem setRole_of_ne {s : State} {r : Nat} (h : s.get MATE_ST_role ≠ r) :
    s.setRole r = (s.set MATE_ST_role r).report kMATE_ROLE [(1, r)] := if_neg h

/-- The fields of MATE_ST that the sync bit and the lift of a squelch leave as they are. -/
def mateFlds : List Fld :=
  [MATE_ST_mode, MATE_ST_role, MATE_ST_rank, MATE_ST_mate_rank, MATE_ST_lost, MATE_ST_flash_own, MATE_ST_flash_seized]

theorem mateFlds_apart : ∀ f ∈ mateFlds, Laws.apart m_liftIso f = true ∧ Laws.apart m_report f = true ∧
    (MATE_ST_sync.hi < f.lo ∨ f.hi < MATE_ST_sync.lo) := by decide +kernel

section
variable (s : State) {f : Fld} (hf : f ∈ mateFlds)
include hf

theorem liftIso_get : s.liftIso.get f = s.get f := (fr_liftIso s).get (mateFlds_apart f hf).1 0

theorem showSync_get : s.showSync.get f = s.get f :=
  (liftIso_get _ hf).trans (get_set_bits ⟨by decide, (mateFlds_apart f hf).2.2⟩ ..)

end

/-! ### ROLE_RESOLVE (R201) -/

/-- A NEGOTIATING device of a pair with beats on 8 boundaries that has read the mate's heartbeat. -/
structure Resolving (s : State) : Prop where
  negotiating : s.get MATE_ST_role = 0
  paired : s.get MATE_ST_mode ≠ 0
  beats : 8 ≤ s.mate.beats
  seen : s.mate.seen = true

theorem Resolving.newCycle {s : State} (h : Resolving s) : Resolving s.newCycle where
  negotiating := (newCycle_get ..).trans h.negotiating
  paired := by rw [newCycle_get]; exact h.paired
  beats := by rw [newCycle_mate]; exact h.beats
  seen := by rw [newCycle_mate]; exact h.seen

/-- Whether the two devices cannot share out the roles: equal ranks, or different modes. -/
def Mismatched (s : State) : Prop := s.on MATE_ST_rank = s.on MATE_ST_mate_rank ∨ s.mate.mMode ≠ s.get MATE_ST_mode

/-- The role that rank, mode and the mate's role give (R201). -/
def resolvedRole (s : State) : Nat :=
  if s.get MATE_ST_mode = 2 then 1 else if s.mate.mRole = 1 then 2 else if s.on MATE_ST_rank then 1 else 2

/-- A device that leaves NEGOTIATING: its next generation is a full one. -/
def resolved (s : State) : State := { s with mate := { s.mate with cfgRec := false, full := true, genOpen := 0 } }

/-- A device that stays NEGOTIATING has told so. -/
def mismatchNoted (s : State) : State := { s with mate := { s.mate with cfgRec := true } }

theorem resolvedRole_lt (s : State) : resolvedRole s < 4 := by
  unfold resolvedRole
  split_ifs <;> decide

theorem resolvedRole_ne_zero (s : State) : resolvedRole s ≠ 0 := by
  unfold resolvedRole
  split_ifs <;> decide

theorem newCycle_resolvedRole (s : State) : resolvedRole s.newCycle = resolvedRole s := by
  simp only [resolvedRole, newCycle_get, newCycle_on, newCycle_mate]

theorem newCycle_mismatched (s : State) : Mismatched s.newCycle ↔ Mismatched s := by
  simp only [Mismatched, newCycle_get, newCycle_on, newCycle_mate]

section
variable {s : State} (h : Resolving s)
include h

theorem Resolving.guard : ¬ (s.get MATE_ST_role ≠ 0 ∨ s.get MATE_ST_mode = 0 ∨ s.mate.beats < 8 ∨ (!s.mate.seen) = true) := by
  have hbeats := h.beats
  simp [h.negotiating, h.paired, h.seen, hbeats]

theorem Resolving.takes (hmatch : ¬ Mismatched s) :
    effRoleResolve s = ((resolved s).setRole (resolvedRole s)).showSync.liftIso := by
  unfold effRoleResolve
  rw [if_neg h.guard]
  dsimp only
  rw [if_neg (by simpa [Mismatched] using hmatch)]
  congr 3
  unfold resolvedRole
  by_cases hsplit : s.get MATE_ST_mode = 2
  · simp [hsplit]
  · by_cases hactive : s.mate.mRole = 1 <;> simp [hsplit, hactive]

theorem Resolving.takes_role (hmatch : ¬ Mismatched s) : (effRoleResolve s).get MATE_ST_role = resolvedRole s := by
  rw [h.takes hmatch, liftIso_get _ (by decide), showSync_get _ (by decide)]
  exact setRole_same _ (resolvedRole_lt s)

theorem Resolving.takes_rcd (hmatch : ¬ Mismatched s) : (effRoleResolve s).rcd =
    (((resolved s).set MATE_ST_role (resolvedRole s)).report kMATE_ROLE [(1, resolvedRole s)]).rcd := by
  have hne : (resolved s).get MATE_ST_role ≠ resolvedRole s := fun e => resolvedRole_ne_zero s (e.symm.trans h.negotiating)
  rw [h.takes hmatch, setRole_of_ne hne, (fr_liftIso _).rcd (by decide), (fr_showSync _).rcd (by decide)]

theorem Resolving.waits (hmatch : Mismatched s) (hnew : s.mate.cfgRec = false) :
    effRoleResolve s = (mismatchNoted s).report kMATE_CONFIG [] := by
  unfold effRoleResolve
  rw [if_neg h.guard]
  dsimp only
  rw [if_pos (by simpa [Mismatched] using hmatch), if_neg (by rw [hnew]; exact Bool.false_ne_true)]
  rfl

end

/-! ### MATE_ROLE (R207) -/

theorem cmdMateRole_isolated {s : State} (h : s.get MATE_ST_role = 3) : s.cmdMateRole 1 = ({}, (s.setRole 1).liftIso) := by
  unfold State.cmdMateRole
  rw [if_neg (by decide), if_neg (by rw [h]; decide)]

theorem cmdMateRole_refused {s : State} (h : s.get MATE_ST_role ≠ 3) : s.cmdMateRole 1 = ({ status := 5 }, s) := by
  unfold State.cmdMateRole
  rw [if_neg (by decide), if_pos h]

theorem execMateRole_served {s : State} {n : Nat} {m : List Nat} (h : Served s n 0x0701 m) (hrole : msgWord m 1 = 1)
    {r : Reply} {u : State} (hcmd : s.newCycle.cmdMateRole 1 = (r, u)) :
    exec (.mateRole n) s = .next (u.reply n (msgWord m 0) r) := by
  have hserve := serve_answer (served_newCycle h) rfl fun s m => s.cmdMateRole (msgWord m 1)
  rw [hrole, hcmd] at hserve
  exact congrArg Host.Outcome.next hserve

theorem execRoleResolve_takes {s : State} (h : Resolving s) (hmatch : ¬ Mismatched s) :
    ∃ t, exec .roleResolve s = .next t ∧ t.get MATE_ST_role = resolvedRole s ∧
      Recorded s t kMATE_ROLE (leBytes 1 (t.get MATE_ST_role)) := by
  have hmatch' := (newCycle_mismatched s).not.2 hmatch
  have hrole := h.newCycle.takes_role hmatch'
  refine ⟨_, rfl, hrole.trans (newCycle_resolvedRole s), ?_⟩
  rw [hrole, ← payloadOf_single]
  exact recorded_of_report (u := (resolved s.newCycle).set MATE_ST_role (resolvedRole s.newCycle)) (State.set_rcd ..)
    (State.set_img ..) (State.set_cyc ..) (h.newCycle.takes_rcd hmatch')

theorem execRoleResolve_waits {s : State} (h : Resolving s) (hmatch : Mismatched s) (hnew : s.mate.cfgRec = false) :
    ∃ t, exec .roleResolve s = .next t ∧ t.get MATE_ST_role = 0 ∧ t.mate = { s.mate with cfgRec := true } ∧
      Recorded s t kMATE_CONFIG [] := by
  have hwaits := h.newCycle.waits ((newCycle_mismatched s).2 hmatch) (by rw [newCycle_mate]; exact hnew)
  refine ⟨_, rfl, ?_, ?_, ?_⟩
  · rw [hwaits, (fr_report ..).get (by decide +kernel)]
    exact h.newCycle.negotiating
  · rw [hwaits, (fr_report ..).mate (by decide), mismatchNoted, newCycle_mate]
  · exact recorded_of_report (u := mismatchNoted s.newCycle) rfl rfl rfl (congrArg State.rcd hwaits)

/-- Settles O34: a role resolved or withheld, and MATE_ROLE on an isolated device or another. -/
theorem mateRoles : Obligations.MateRoles := by
  unfold Obligations.MateRoles
  refine ⟨fun s hnegotiating hpaired hbeats hseen => ?_, fun n m s hserved hrole hisolated => ?_,
    fun n m s hserved hrole hother => ?_⟩
  · have h := Resolving.mk hnegotiating hpaired hbeats hseen
    refine ⟨fun hrank hmode => ?_, fun hmatch hnew => ?_⟩
    · obtain ⟨t, hexec, hrole, hrecorded⟩ := execRoleResolve_takes h (not_or.2 ⟨hrank, not_not.2 hmode⟩)
      have hframe : Frame m_effRoleResolve s.newCycle t := frame_of_exec hexec
      exact ⟨t, hexec, hrole, hrecorded, frame_keep hframe (by decide +kernel), hframe.keepRegs (by decide +kernel)⟩
    · obtain ⟨t, hexec, hrole, hmate, hrecorded⟩ := execRoleResolve_waits h hmatch hnew
      have hframe : Frame m_effRoleResolve s.newCycle t := frame_of_exec hexec
      exact ⟨t, hexec, hrole, hmate, hrecorded, frame_keep hframe (by decide +kernel), hframe.keepRegs (by decide +kernel)⟩
  · have hexec := execMateRole_served hserved hrole (cmdMateRole_isolated ((newCycle_get ..).trans hisolated))
    have hframe : Frame m_effMateRole s.newCycle _ := frame_of_exec hexec
    have hactive : ((s.newCycle.setRole 1).liftIso).get MATE_ST_role = 1 :=
      (liftIso_get _ (by decide)).trans (setRole_same _ (by decide))
    exact ⟨_, _, hexec, rfl, ((fr_reply ..).get (by decide +kernel) 0).trans hactive, hactive,
      frame_keep hframe (by decide +kernel), hframe.keepRegs (by decide +kernel)⟩
  · exact ⟨_, _, execMateRole_served hserved hrole (cmdMateRole_refused (by rwa [newCycle_get])), rfl, rfl⟩

end Sys2Proof.Protection
end

section
/-!
The flash that a mate pair shares (R209): the arbiter of the rank-high device, and the survivor that takes the flash.
-/
namespace Sys2Proof.Protection

open Sys2Proof.Machine Sys2Proof.Safety Sys2Proof.Scope Sys2Proof.Architecture Sys2Proof.Framing Sys2Proof.Mapping
  Sys2Proof.Fabric Sys2Proof.Images
open Sys2Proof.Laws hiding maskOf put

/-! ### What shows a free flash -/

theorem flashFree_of_seized {s : State} (h : s.on MATE_ST_flash_seized = true) : s.flashFree = true := if_pos h

theorem flashFree_arbiter {s : State} (hrank : s.on MATE_ST_rank = true) (hlost : s.on MATE_ST_lost = false) :
    s.flashFree = (s.on MATE_ST_flash_seized || !s.mate.flashGnt) := by
  unfold State.flashFree
  rw [hrank, hlost]
  cases s.on MATE_ST_flash_seized <;> rfl

theorem flashFree_granted {s : State} (hrank : s.on MATE_ST_rank = false) :
    s.flashFree = (s.on MATE_ST_flash_seized || if s.on MATE_ST_lost then s.mate.flashHeld else s.mate.flashGnt) := by
  unfold State.flashFree
  rw [hrank]
  cases s.on MATE_ST_flash_seized <;> rfl

theorem showFlashOwn_own (s : State) : s.showFlashOwn.on MATE_ST_flash_own = s.flashFree :=
  State.on_setB_same _ _ _ _ (by decide) (by decide) rfl

theorem showFlashOwn_get (s : State) {f : Fld} (hf : MATE_ST_flash_own.hi < f.lo ∨ f.hi < MATE_ST_flash_own.lo) (n : Nat) :
    s.showFlashOwn.get f n = s.get f n := get_set_bits ⟨by decide, hf⟩ ..

theorem showFlashOwn_keepBits (s : State) : KeepBits s s.showFlashOwn (at_ MATE_ST_flash_own) [MATE_ST_flash_own] :=
  keepBits_set s _ _ _ (by decide)

theorem showFlashOwn_keepRegs (s : State) : KeepRegs s s.showFlashOwn [at_ MATE_ST_flash_own] [] := keepRegs_set _ _ _ _

theorem keepBits_of_regs {s u t : State} (h : u.regs = s.regs) {k : Nat} {fs : List Fld} (g : KeepBits u t k fs) :
    KeepBits s t k fs :=
  fun i hi => (g i hi).trans (by unfold State.reg; rw [h])

/-! ### The arbiter -/

/-- The levels of the two pins of a shared flash. -/
def flashPins (s : State) (req gnt : Bool) : State := { s with mate := { s.mate with flashReq := req, flashGnt := gnt } }

theorem keep_mate (s : State) (m : MateBlock) : Keep s { s with mate := m } [.mate] := by
  refine ⟨fun p hp => ?_, rfl⟩
  cases p
  case mate => exact absurd List.mem_cons_self hp
  all_goals rfl

theorem flashPins_regs (s : State) (req gnt : Bool) : (flashPins s req gnt).regs = s.regs := rfl

/-- What the arbiter drives on FLASH_GNT for a level of FLASH_REQ. -/
def grantFor (s : State) (level : Bool) : Bool :=
  level && (s.mate.flashGnt || !(s.mate.flashUse || decide (s.get PLN_STATE_state = 1)))

section
variable (s : State) (req gnt : Bool)

/-- The pins of a shared flash have moved, and MATE_ST shows whose the flash is. -/
def flashPinsShown : State := (flashPins s.newCycle req gnt).showFlashOwn

theorem flashPinsShown_mate : (flashPinsShown s req gnt).mate = { s.mate with flashReq := req, flashGnt := gnt } := by
  rw [flashPinsShown, State.showFlashOwn, State.setB_mate, flashPins, newCycle_mate]

theorem flashPinsShown_keepBits : KeepBits s (flashPinsShown s req gnt) (at_ MATE_ST_flash_own) [MATE_ST_flash_own] :=
  keepBits_of_regs ((flashPins_regs ..).trans (newCycle_regs s)) (showFlashOwn_keepBits _)

theorem flashPinsShown_keep : Keep s.newCycle (flashPinsShown s req gnt) [.mate] :=
  keep_step (keep_mate s.newCycle _) (keep_set ..) (by simp)

theorem flashPinsShown_keepRegs : KeepRegs s.newCycle (flashPinsShown s req gnt) [at_ MATE_ST_flash_own] [] :=
  keepRegs_trans (keepRegs_of_regs (flashPins_regs ..) _ _) (showFlashOwn_keepRegs _)

end

theorem newCycle_grantFor (s : State) (level : Bool) : grantFor s.newCycle level = grantFor s level := by
  unfold grantFor
  rw [newCycle_mate, newCycle_get]

theorem effFlashReqChange_arbiter {s : State} (level : Bool) (hrank : s.on MATE_ST_rank = true)
    (hlost : s.on MATE_ST_lost = false) : effFlashReqChange level s = (flashPins s level (grantFor s level)).showFlashOwn := by
  have hpair : (s.on MATE_ST_rank && !s.on MATE_ST_lost) = true := by rw [hrank, hlost]; rfl
  exact (if_pos hrank).trans (if_pos hpair)

theorem effFlashReqChange_lost {s : State} (level : Bool) (hrank : s.on MATE_ST_rank = true) (hlost : s.on MATE_ST_lost = true) :
    effFlashReqChange level s = flashPins s level s.mate.flashGnt := by
  have hpair : ¬ (s.on MATE_ST_rank && !s.on MATE_ST_lost) = true := by rw [hrank, hlost]; decide
  exact (if_pos hrank).trans (if_neg hpair)

/-! ### The grant on a rank-low device, and the seizure -/

theorem effFlashGntChange_low {s : State} {level : Bool} (ms : Nat) (hrank : s.on MATE_ST_rank = false)
    (hwait : level = false ∨ s.boot.waitGnt = false) :
    effFlashGntChange level ms s = (flashPins s s.mate.flashReq level).showFlashOwn := by
  unfold effFlashGntChange
  rw [if_neg (by rw [hrank]; exact Bool.false_ne_true)]
  refine if_neg fun hboot => ?_
  obtain ⟨hlevel, hgnt⟩ := Bool.and_eq_true_iff.1 hboot
  rcases hwait with hwait | hwait
  · exact Bool.false_ne_true (hwait.symm.trans hlevel)
  · exact Bool.false_ne_true (hwait.symm.trans hgnt)

/-- The survivor has taken the flash, and told so. -/
def seized (s : State) : State := (s.setB MATE_ST_flash_seized true).report kFLASH_SEIZED []

theorem effFlashSeize_survivor {s : State} (hlost : s.on MATE_ST_lost = true) (hfirst : s.on MATE_ST_flash_seized = false)
    (hrole : s.get MATE_ST_role ≠ 3) : effFlashSeize s = (seized s).showFlashOwn := by
  unfold effFlashSeize
  rw [hlost, hfirst, if_neg (by simpa using hrole)]
  rfl

theorem seized_on (s : State) : (seized s).on MATE_ST_flash_seized = true := by
  unfold seized
  rw [(fr_report ..).on (by decide +kernel)]
  exact State.on_setB_same _ _ _ _ (by decide) (by decide) rfl

theorem seized_keepBits (s : State) : KeepBits s (seized s) (at_ MATE_ST_flash_own) [MATE_ST_flash_seized] := by
  have hreport : (seized s).reg (at_ MATE_ST_flash_own) = (s.setB MATE_ST_flash_seized true).reg (at_ MATE_ST_flash_own) :=
    (fr_report ..).reg _ (free_of_apart (f := MATE_ST_flash_own) (by decide +kernel) (n := 0) (by decide))
  intro i hi
  rw [hreport]
  exact keepBits_set s MATE_ST_flash_seized _ 0 (by decide) i hi

section
variable {s : State}

theorem execFlashReqChange_arbiter (level : Bool) (hrank : s.on MATE_ST_rank = true) (hlost : s.on MATE_ST_lost = false) :
    exec (.flashReqChange level) s = .next (flashPinsShown s level (grantFor s level)) := by
  rw [← newCycle_grantFor]
  exact congrArg Host.Outcome.next
    (effFlashReqChange_arbiter level ((newCycle_on ..).trans hrank) ((newCycle_on ..).trans hlost))

theorem execFlashReqChange_lost (level : Bool) (hrank : s.on MATE_ST_rank = true) (hlost : s.on MATE_ST_lost = true) :
    exec (.flashReqChange level) s = .next (flashPins s.newCycle level s.mate.flashGnt) := by
  rw [← newCycle_mate]
  exact congrArg Host.Outcome.next
    (effFlashReqChange_lost level ((newCycle_on ..).trans hrank) ((newCycle_on ..).trans hlost))

theorem execFlashGntChange_low {level : Bool} (ms : Nat) (hrank : s.on MATE_ST_rank = false)
    (hwait : level = false ∨ s.boot.waitGnt = false) :
    exec (.flashGntChange level ms) s = .next (flashPinsShown s s.mate.flashReq level) := by
  rw [← newCycle_mate]
  rw [← newCycle_boot] at hwait
  exact congrArg Host.Outcome.next (effFlashGntChange_low ms ((newCycle_on ..).trans hrank) hwait)

theorem execFlashSeize_survivor (hlost : s.on MATE_ST_lost = true) (hfirst : s.on MATE_ST_flash_seized = false)
    (hrole : s.get MATE_ST_role ≠ 3) : exec .flashSeize s = .next (seized s.newCycle).showFlashOwn :=
  congrArg Host.Outcome.next (effFlashSeize_survivor ((newCycle_on ..).trans hlost) ((newCycle_on ..).trans hfirst)
    (by rwa [newCycle_get]))

end

/-- Settles O35: FLASH_REQ at the arbiter and while the mate is lost, FLASH_GNT on the rank-low device, and the seizure. -/
theorem sharedFlashArbitration : Obligations.SharedFlashArbitration := by
  unfold Obligations.SharedFlashArbitration
  refine ⟨fun level s hrank hlost => ?_, fun level s hrank hlost => ?_, fun level ms s hrank hwait => ?_,
    fun s hlost hfirst hrole => ?_⟩
  · have hexec := execFlashReqChange_arbiter level hrank hlost
    have hframe : Frame m_effFlashReqChange s.newCycle _ := frame_of_exec hexec
    refine ⟨_, hexec, flashPinsShown_mate .., ?_, flashPinsShown_keepBits _ _ _, flashPinsShown_keep ..,
      hframe.keepRegs (by decide +kernel)⟩
    rw [flashPinsShown_mate, flashPinsShown, showFlashOwn_own, flashFree_arbiter]
    · exact congrArg (· || _) (newCycle_on ..)
    · exact (newCycle_on ..).trans hrank
    · exact (newCycle_on ..).trans hlost
  · refine ⟨_, execFlashReqChange_lost level hrank hlost, ?_, keep_mate .., newCycle_regs s⟩
    rw [flashPins, newCycle_mate]
  · refine ⟨_, execFlashGntChange_low ms hrank hwait, flashPinsShown_mate .., ?_, flashPinsShown_keepBits _ _ _,
      flashPinsShown_keep .., flashPinsShown_keepRegs _ _ _⟩
    rw [flashPinsShown, showFlashOwn_own, flashFree_granted]
    · rw [flashPins, newCycle_mate]
      exact congrArg₂ (fun a b => a || if b then s.mate.flashHeld else level) (newCycle_on ..) (newCycle_on ..)
    · exact (newCycle_on ..).trans hrank
  · have hexec := execFlashSeize_survivor hlost hfirst hrole
    have hframe : Frame m_effFlashSeize s.newCycle _ := frame_of_exec hexec
    have hseized := seized_on s.newCycle
    refine ⟨_, hexec, ?_, ?_, ?_, ?_, frame_keep hframe (by decide +kernel), hframe.keepRegs (by decide +kernel)⟩
    · rw [State.on, showFlashOwn_get _ (by decide)]
      exact hseized
    · exact (showFlashOwn_own _).trans (flashFree_of_seized hseized)
    · exact recorded_of_report (u := s.newCycle.setB MATE_ST_flash_seized true) (State.setB_rcd ..) (State.setB_img ..)
        (State.setB_cyc ..) (State.setB_rcd ..)
    · exact keepBits_of_regs (newCycle_regs s) (keepBits_trans (keepBits_mono (seized_keepBits _) (by simp))
        (keepBits_mono (showFlashOwn_keepBits _) (by simp)))

end Sys2Proof.Protection
end

section
/-!
What arrives from the mate (R198 to R200, R203, R279): the beats, the mate frame by its stages, and a commit word.
-/
namespace Sys2Proof.Protection

open Sys2Proof.Machine Sys2Proof.Safety Sys2Proof.Scope Sys2Proof.Architecture Sys2Proof.Framing Sys2Proof.Mapping
  Sys2Proof.Fabric Sys2Proof.Images
open Sys2Proof.Laws hiding maskOf put

/-! ### The sync bit and the squelch in the mate block -/

theorem liftIso_mate (s : State) : ∃ sq, s.liftIso.mate = { s.mate with sqIso := sq } := by
  unfold State.liftIso
  dsimp only
  split
  · exact ⟨false, (fr_showSquelchAll _).mate (by decide)⟩
  · exact ⟨s.mate.sqIso, rfl⟩

theorem showSync_mate (s : State) : ∃ sq, s.showSync.mate = { s.mate with sqIso := sq } := by
  obtain ⟨sq, h⟩ := liftIso_mate (s.setB MATE_ST_sync
    ((s.get MATE_ST_mode == 1 && (s.get MATE_ST_role == 1 || s.get MATE_ST_role == 2) && !s.on MATE_ST_lost) &&
      decide (s.get MATE_GEN_age ≤ s.gl PROTECTION_mate_gen) && (s.get MATE_ST_role == 1 || s.digestOk)))
  rw [State.setB_mate] at h
  exact ⟨sq, h⟩

/-! ### The heartbeat -/

/-- What the registers and the mate block hold after a heartbeat. -/
structure BeatShown (t : State) (b : BeatIn) : Prop where
  link : t.mate.beatLink = true
  seen : t.mate.seen = true
  role : t.mate.mRole = b.role
  mode : t.mate.mMode = b.mode
  epoch : t.mate.mEpoch = b.epoch
  gen : t.mate.mGen = b.gen
  rank : t.get MATE_ST_mate_rank = b.rank % 2
  digest : t.get MATE_PEER_digest = b.digest % 2 ^ 32

/-- The rank and the digest of a heartbeat in the registers. -/
def beatRegs (s : State) (b : BeatIn) : State := (s.set MATE_ST_mate_rank b.rank).set MATE_PEER_digest b.digest

/-- A heartbeat in the mate block. -/
def beatHeld (s : State) (b : BeatIn) (bad : Bool) : State :=
  { s with mate := { s.mate with
    beatLink := true, seen := true, mRole := b.role, mMode := b.mode, mEpoch := b.epoch, mGen := b.gen, imgRec := bad } }

section
variable (s : State) (b : BeatIn)

theorem beatHeld_shown (bad : Bool) : BeatShown (beatHeld (beatRegs s b) b bad) b where
  link := rfl
  seen := rfl
  role := rfl
  mode := rfl
  epoch := rfl
  gen := rfl
  rank := (State.get_set_apart (s.set MATE_ST_mate_rank b.rank) _ _ _ 0 0 (by decide) (.inl (by decide))).trans
    (State.get_set_same s MATE_ST_mate_rank _ 0 (by decide) (by decide))
  digest := State.get_set_same (s.set MATE_ST_mate_rank b.rank) MATE_PEER_digest _ 0 (by decide) (by decide)

theorem BeatShown.report {t : State} {b : BeatIn} (h : BeatShown t b) (k : RecKind) (l : List (Nat × Nat)) :
    BeatShown (t.report k l) b := by
  have hmate : (t.report k l).mate = t.mate := (fr_report ..).mate (by decide)
  constructor
  case rank => rw [(fr_report ..).get (by decide +kernel)]; exact h.rank
  case digest => rw [(fr_report ..).get (by decide +kernel)]; exact h.digest
  all_goals rw [hmate]
  exacts [h.link, h.seen, h.role, h.mode, h.epoch, h.gen]

theorem BeatShown.showSync {t : State} {b : BeatIn} (h : BeatShown t b) : BeatShown t.showSync b := by
  obtain ⟨sq, hmate⟩ := showSync_mate t
  constructor
  case rank => rw [showSync_get _ (by decide)]; exact h.rank
  case digest => rw [(fr_showSync _).get (by decide +kernel)]; exact h.digest
  all_goals rw [hmate]
  exacts [h.link, h.seen, h.role, h.mode, h.epoch, h.gen]

/-- A heartbeat is held, a digest that newly differs is told, and the sync bit follows. -/
theorem takeBeat_eq : ∃ bad told : Bool, s.takeBeat b = (if told then
    (beatHeld (beatRegs s b) b bad).report kMATE_IMAGE_MISMATCH [(4, b.digest)] else beatHeld (beatRegs s b) b bad).showSync :=
  ⟨_, _, rfl⟩

theorem takeBeat_shown : BeatShown (s.takeBeat b) b := by
  obtain ⟨bad, told, h⟩ := takeBeat_eq s b
  rw [h]
  split
  · exact ((beatHeld_shown s b bad).report ..).showSync
  · exact (beatHeld_shown s b bad).showSync

theorem takeBeat_lanes_rx : (s.takeBeat b).mate.lanes = s.mate.lanes ∧ (s.takeBeat b).mate.rx = s.mate.rx := by
  obtain ⟨bad, told, h⟩ := takeBeat_eq s b
  have hheld : (beatHeld (beatRegs s b) b bad).mate.lanes = s.mate.lanes ∧
      (beatHeld (beatRegs s b) b bad).mate.rx = s.mate.rx := by
    simp only [beatHeld, beatRegs, State.set_mate, and_self]
  rw [h]
  split
  · obtain ⟨sq, hmate⟩ := showSync_mate ((beatHeld (beatRegs s b) b bad).report kMATE_IMAGE_MISMATCH [(4, b.digest)])
    rw [hmate, (fr_report ..).mate (by decide)]
    exact hheld
  · obtain ⟨sq, hmate⟩ := showSync_mate (beatHeld (beatRegs s b) b bad)
    rw [hmate]
    exact hheld

end

/-! ### The mate frame (R198) -/

/-- A mate frame that arrives on a lane in UP of a device of a pair. -/
structure Delivered (s : State) (j : Nat) : Prop where
  lane : j < 16
  up : s.get LN_STATE_state (128 + j) = 6
  paired : s.get MATE_ST_mode ≠ 0

theorem Delivered.newCycle {s : State} {j : Nat} (h : Delivered s j) : Delivered s.newCycle j where
  lane := h.lane
  up := (newCycle_get ..).trans h.up
  paired := by rw [newCycle_get]; exact h.paired

theorem mateLane_of_mate {s t : State} (h : t.mate.lanes = s.mate.lanes) (j : Nat) : t.mateLane j = s.mateLane j := by
  unfold State.mateLane
  rw [h]

theorem newCycle_mateLane (s : State) (j : Nat) : s.newCycle.mateLane j = s.mateLane j :=
  mateLane_of_mate (congrArg MateBlock.lanes (newCycle_mate s)) j

theorem mateLane_setMateLane (s : State) (j i : Nat) (v : MateLane) :
    (s.setMateLane j v).mateLane i = if i = j then v else s.mateLane i := tget_tset ..

theorem hunt_good {m : MateLane} {f : MateFrameIn} (hin : m.inFrame = true) (hok : f.wordOk = true) :
    m.hunt f = { m with align := { m.align with errs := 0 } } := by
  unfold MateLane.hunt
  rw [if_pos hin, hok]
  rfl

theorem hunt_fourth_error {m : MateLane} {f : MateFrameIn} (hin : m.inFrame = true) (hok : f.wordOk = false)
    (herrs : m.align.errs = 3) : m.hunt f = { m with inFrame := false, align := { n := 2, held := false } } := by
  unfold MateLane.hunt
  rw [if_pos hin, hok, herrs]
  rfl

/-- The receiver of the lane has checked the frame word. -/
def hunted (j : Nat) (f : MateFrameIn) (s : State) : State := s.setMateLane j ((s.mateLane j).hunt f)

/-- The blocks of the frame wait for the ingress ports. -/
def blocksHeld (j : Nat) (f : MateFrameIn) (s : State) : State :=
  let secs := takeSections (s.mateSlots j) 1024 (descramble f.seed f.body)
  let blks := (secs.zip (List.range secs.length)).flatMap fun x =>
    (x.1.zip (List.range x.1.length)).map fun y => (mateKey (s.fab.gp + 2 + x.2) j y.2, y.1)
  { s with fab := { s.fab with mateIn := blks.foldl (fun t p => tput t p.1 p.2) s.fab.mateIn } }

/-- The generation that the frame completes waits for its commit word. -/
def generationHeld (f : MateFrameIn) (s : State) : State :=
  match f.gen with
  | some x => { s with mate := { s.mate with rx := some x } }
  | none => s

/-- What else the control channel of the frame brings. -/
def controlTaken (f : MateFrameIn) (s : State) : State :=
  forEach f.msgs (if f.recFault then s.report kMATE_RECORDER_FAULT [] else s) fun s x => s.mateMsg x.1 x.2

/-- The heartbeat of the frame. -/
def beatTaken (f : MateFrameIn) (s : State) : State :=
  match f.beat with
  | some b => s.takeBeat b
  | none => s

/-- What a frame in frame brings beside its heartbeat. -/
def contentTaken (j : Nat) (f : MateFrameIn) (s : State) : State :=
  controlTaken f (generationHeld f (blocksHeld j f (hunted j f s)))

section
variable {s : State} {j : Nat} (h : Delivered s j) (f : MateFrameIn)
include h

theorem Delivered.guard : ¬ (16 ≤ j ∨ s.get LN_STATE_state (128 + j) ≠ 6 ∨ s.get MATE_ST_mode = 0) := by
  have hlane := h.lane
  simp [h.up, h.paired, hlane]

theorem Delivered.kept (hin : ((s.mateLane j).hunt f).inFrame = true) :
    effMateFrameReceived j f s = beatTaken f (contentTaken j f s) := by
  unfold effMateFrameReceived
  rw [if_neg h.guard]
  dsimp only
  rw [hin]
  rfl

theorem Delivered.lost (hout : ((s.mateLane j).hunt f).inFrame = false) : effMateFrameReceived j f s = hunted j f s := by
  unfold effMateFrameReceived
  rw [if_neg h.guard]
  dsimp only
  rw [hout]
  rfl

end

section
variable (j : Nat) (f : MateFrameIn) (s : State)

theorem hunted_mate : (hunted j f s).mate.beatLink = s.mate.beatLink ∧ (hunted j f s).mate.rx = s.mate.rx := ⟨rfl, rfl⟩

theorem controlTaken_mate : (controlTaken f s).mate = s.mate := by
  refine (forEach_keeps State.mate (fun s (x : Nat × List Nat) => (fr_mateMsg s x.1 x.2).mate (by decide)) _ _).trans ?_
  split
  · exact (fr_report ..).mate (by decide)
  · rfl

theorem generationHeld_mate : (generationHeld f s).mate.lanes = s.mate.lanes ∧
    (generationHeld f s).mate.rx = f.gen.or s.mate.rx := by
  unfold generationHeld
  cases f.gen <;> exact ⟨rfl, rfl⟩

theorem beatTaken_mate : (beatTaken f s).mate.lanes = s.mate.lanes ∧ (beatTaken f s).mate.rx = s.mate.rx := by
  unfold beatTaken
  cases f.beat
  case none => exact ⟨rfl, rfl⟩
  case some b => exact takeBeat_lanes_rx s b

/-- A frame that is kept leaves the receiver as the check of its word does, and holds the generation it completes. -/
theorem frameTaken_mate : (beatTaken f (contentTaken j f s)).mateLane j = (s.mateLane j).hunt f ∧
    (beatTaken f (contentTaken j f s)).mate.rx = f.gen.or s.mate.rx := by
  obtain ⟨hlanes, hrx⟩ := beatTaken_mate f (contentTaken j f s)
  obtain ⟨hlanes', hrx'⟩ := generationHeld_mate f (blocksHeld j f (hunted j f s))
  have hcontent : (contentTaken j f s).mate = (generationHeld f (blocksHeld j f (hunted j f s))).mate := controlTaken_mate ..
  rw [hcontent] at hlanes hrx
  refine ⟨?_, hrx.trans hrx'⟩
  rw [mateLane_of_mate (hlanes.trans hlanes')]
  exact (mateLane_setMateLane s j j _).trans (if_pos rfl)

end

/-! ### A commit word (R203) -/

/-- A standby in shadow mode. -/
structure Standby (s : State) : Prop where
  shadow : s.get MATE_ST_mode = 1
  standby : s.get MATE_ST_role = 2

theorem Standby.newCycle {s : State} (h : Standby s) : Standby s.newCycle where
  shadow := (newCycle_get ..).trans h.shadow
  standby := (newCycle_get ..).trans h.standby

/-- The generation held is taken from MB7. -/
def generationOut (s : State) : State := { s with mate := { s.mate with rx := none } }

/-- A generation is the last one applied; its number is shown, and its age starts again. -/
def generationApplied (s : State) (m : Mirror) (cyc64 : Nat) : State :=
  (({ s with mate := { s.mate with rx := none, last := some m, cyc64 := cyc64 } } : State).set MATE_GEN_gen m.gen).set
    MATE_GEN_age 0

section
variable {s : State} {m : Mirror} (h : Standby s) (hrx : s.mate.rx = some m)
include h hrx

theorem Standby.applies : ∃ c, effGenerationCommitReceived true s =
    ((generationApplied s m c).takeHistory m.hist).showSync := by
  unfold effGenerationCommitReceived
  rw [if_neg (by simp [h.shadow, h.standby]), hrx]
  exact ⟨_, rfl⟩

theorem Standby.discards : effGenerationCommitReceived false s = generationOut s := by
  unfold effGenerationCommitReceived
  rw [if_neg (by simp [h.shadow, h.standby]), hrx]
  rfl

end

section
variable (s : State) (m : Mirror) (c : Nat)

theorem generationApplied_get {f : Fld} (hf : MATE_GEN_gen.base ≠ f.base ∧ f.stride = 0) :
    (generationApplied s m c).get f = s.get f := by
  have hkey : f.key 0 ≠ MATE_GEN_gen.key 0 := by
    simpa [Fld.key, hf.2, MATE_GEN_gen] using hf.1.symm
  exact (State.get_set_apart _ MATE_GEN_age f 0 0 0 (by decide) (.inl hkey)).trans
    (State.get_set_apart _ MATE_GEN_gen f _ 0 0 (by decide) (.inl hkey))

theorem generationApplied_gen : (generationApplied s m c).get MATE_GEN_gen = m.gen % 2 ^ 16 :=
  (get_set_bits (by decide) ..).trans (State.get_set_same _ _ _ _ (by decide) (by decide))

theorem generationApplied_age : (generationApplied s m c).get MATE_GEN_age = 0 :=
  State.get_set_same _ _ _ _ (by decide) (by decide)

theorem generationApplied_mate : (generationApplied s m c).mate.rx = none ∧
    (generationApplied s m c).mate.last = some m := by
  simp only [generationApplied, State.set_mate, and_self]

theorem generationApplied_tim : (generationApplied s m c).tim = s.tim := by
  simp only [generationApplied, State.set_tim]

/-- A history is kept where none comes, or where the device's own is valid (R279). -/
theorem takeHistory_keeps {h : Option Int} (hown : h = none ∨ s.on TMC_ST_hist_valid = true) : s.takeHistory h = s := by
  unfold State.takeHistory
  rcases h with - | h
  · rfl
  · exact if_pos (hown.resolve_left (by simp))

/-- A history that comes where the device's own is not valid is taken, and valid (R279). -/
theorem takeHistory_takes (h : Int) (hown : s.on TMC_ST_hist_valid = false) :
    (s.takeHistory (some h)).on TMC_ST_hist_valid = true ∧ (s.takeHistory (some h)).tim.hist = some h := by
  unfold State.takeHistory
  dsimp only
  rw [if_neg (by rw [hown]; exact Bool.false_ne_true)]
  exact ⟨State.on_setB_same (s.setI TMC_HIST_hist (h / 65536)) TMC_ST_hist_valid true 0 (by decide) (by decide) rfl, rfl⟩

/-- What the showing of the sync bit leaves of a generation applied with its history. -/
theorem generationShown (hist : Option Int) : let t := ((generationApplied s m c).takeHistory hist).showSync
    t.mate.rx = none ∧ t.mate.last = some m ∧ t.get MATE_GEN_gen = m.gen % 2 ^ 16 ∧ t.get MATE_GEN_age = 0 := by
  obtain ⟨sq, hmate⟩ := showSync_mate ((generationApplied s m c).takeHistory hist)
  obtain ⟨hrx, hlast⟩ := generationApplied_mate s m c
  dsimp only
  rw [hmate, (fr_takeHistory ..).mate (by decide), (fr_showSync _).get (by decide +kernel),
    (fr_showSync _).get (by decide +kernel), (fr_takeHistory ..).get (by decide +kernel),
    (fr_takeHistory ..).get (by decide +kernel)]
  exact ⟨hrx, hlast, generationApplied_gen .., generationApplied_age ..⟩

end

/-- A commit word with a good CRC applies the generation that waits, with its history where the standby has none. -/
theorem execGenerationCommitReceived_applies {s : State} {m : Mirror} (h : Standby s) (hrx : s.mate.rx = some m) :
    ∃ t, exec (.generationCommitReceived true) s = .next t ∧
      t.mate.rx = none ∧ t.mate.last = some m ∧ t.get MATE_GEN_gen = m.gen % 2 ^ 16 ∧ t.get MATE_GEN_age = 0 ∧
      (∀ h, m.hist = some h → s.on TMC_ST_hist_valid = false →
        t.on TMC_ST_hist_valid = true ∧ t.tim.hist = some h) ∧
      (m.hist = none ∨ s.on TMC_ST_hist_valid = true → t.tim.hist = s.tim.hist) := by
  rw [← newCycle_mate] at hrx
  obtain ⟨c, happlies⟩ := h.newCycle.applies hrx
  have hexec : exec (.generationCommitReceived true) s = _ := congrArg Host.Outcome.next happlies
  have hvalid : (generationApplied s.newCycle m c).on TMC_ST_hist_valid = s.on TMC_ST_hist_valid := by
    rw [State.on, generationApplied_get _ _ _ (by decide), newCycle_get]
    rfl
  obtain ⟨hnone, hlast, hgen, hage⟩ := generationShown s.newCycle m c m.hist
  have htim := (fr_showSync ((generationApplied s.newCycle m c).takeHistory m.hist)).tim (by decide)
  refine ⟨_, hexec, hnone, hlast, hgen, hage, fun h hh hown => ?_, fun hown => ?_⟩
  · rw [htim, (fr_showSync _).on (by decide +kernel), hh]
    exact takeHistory_takes _ h (hvalid.trans hown)
  · rw [htim, takeHistory_keeps _ (by rwa [hvalid]), generationApplied_tim, newCycle_tim]

theorem execGenerationCommitReceived_discards {s : State} {m : Mirror} (h : Standby s) (hrx : s.mate.rx = some m) :
    exec (.generationCommitReceived false) s = .next (generationOut s.newCycle) := by
  rw [← newCycle_mate] at hrx
  exact congrArg Host.Outcome.next (h.newCycle.discards hrx)

/-! ### The frame that arrives -/

section
variable {s : State} {j : Nat} {f : MateFrameIn} (h : Delivered s j) (hin : (s.mateLane j).inFrame = true)
include h hin

theorem execMateFrameReceived_kept (hok : f.wordOk = true) :
    exec (.mateFrameReceived j f) s = .next (beatTaken f (contentTaken j f s.newCycle)) := by
  refine congrArg Host.Outcome.next (h.newCycle.kept f ?_)
  rw [newCycle_mateLane, hunt_good hin hok]
  exact hin

theorem execMateFrameReceived_lost (hok : f.wordOk = false) (herrs : (s.mateLane j).align.errs = 3) :
    exec (.mateFrameReceived j f) s = .next (hunted j f s.newCycle) := by
  refine congrArg Host.Outcome.next (h.newCycle.lost f ?_)
  rw [newCycle_mateLane, hunt_fourth_error hin hok herrs]

end

/-! ### A device with mate_mode 0 -/

section
variable {s : State} (h : s.get MATE_ST_mode = 0)
include h

theorem execMateAliveInChange_unpaired : exec .mateAliveInChange s = .next s.newCycle :=
  congrArg Host.Outcome.next (if_pos ((newCycle_get ..).trans h))

theorem execGaspDetected_unpaired : exec .gaspDetected s = .next s.newCycle :=
  congrArg Host.Outcome.next (if_pos ((newCycle_get ..).trans h))

theorem execMateFrameReceived_unpaired (j : Nat) (f : MateFrameIn) : exec (.mateFrameReceived j f) s = .next s.newCycle :=
  congrArg Host.Outcome.next (if_pos (.inr (.inr ((newCycle_get ..).trans h))))

end

/-- Settles O33: the beats, the frame that is kept and the one that is lost, and the two commit words. -/
theorem mateBeatsAndFrames : Obligations.MateBeatsAndFrames := by
  unfold Obligations.MateBeatsAndFrames
  refine ⟨fun s hpaired => ?_, fun s hpaired => ?_, fun s h => ⟨execMateAliveInChange_unpaired h, execGaspDetected_unpaired h,
    execMateFrameReceived_unpaired h⟩, fun j f s hlane hup hpaired hin hok => ?_,
    fun j f s hlane hup hpaired hin hok herrs => ?_, fun m s hshadow hstandby hrx => ⟨?_, ?_⟩⟩
  · refine ⟨_, congrArg Host.Outcome.next (if_neg (by rwa [newCycle_get])), ?_, keep_mate .., newCycle_regs s⟩
    dsimp only
    rw [newCycle_mate]
  · refine ⟨_, congrArg Host.Outcome.next (if_neg (by rwa [newCycle_get])), ?_, keep_mate .., newCycle_regs s⟩
    dsimp only
    rw [newCycle_mate]
  · have hexec := execMateFrameReceived_kept ⟨hlane, hup, hpaired⟩ hin hok
    have hframe : Frame m_effMateFrameReceived s.newCycle _ := frame_of_exec hexec
    obtain ⟨hreceiver, hrx⟩ := frameTaken_mate j f s.newCycle
    rw [newCycle_mateLane, hunt_good hin hok] at hreceiver
    rw [newCycle_mate] at hrx
    refine ⟨_, hexec, ?_, ?_, fun b hb => ?_, fun x hx => ?_, fun hnone => ?_, frame_keep hframe (by decide +kernel),
      hframe.keepRegs (by decide +kernel)⟩
    · rw [hreceiver]
      exact hin
    · rw [hreceiver]
    · obtain ⟨hlink, hseen, hrole, hmode, hepoch, hgen, hrank, hdigest⟩ := takeBeat_shown (contentTaken j f s.newCycle) b
      have htaken : beatTaken f (contentTaken j f s.newCycle) = (contentTaken j f s.newCycle).takeBeat b := by
        unfold beatTaken
        rw [hb]
      rw [htaken]
      exact ⟨hlink, hseen, hrole, hmode, hepoch, hgen, hrank, hdigest⟩
    · rw [hrx, hx, Option.some_or]
    · rw [hrx, hnone, Option.none_or]
  · refine ⟨_, execMateFrameReceived_lost ⟨hlane, hup, hpaired⟩ hin hok herrs, ?_, ?_, ?_, newCycle_fab s, newCycle_regs s⟩
    · rw [hunted, mateLane_setMateLane, if_pos rfl, newCycle_mateLane, hunt_fourth_error hin hok herrs]
    · rw [(hunted_mate ..).1, newCycle_mate]
    · rw [(hunted_mate ..).2, newCycle_mate]
  · obtain ⟨t, hexec, hnone, hlast, hgen, hage, htakes, hkeeps⟩ :=
      execGenerationCommitReceived_applies ⟨hshadow, hstandby⟩ hrx
    have hframe : Frame m_effGenerationCommitReceived s.newCycle t := frame_of_exec hexec
    exact ⟨t, hexec, hnone, hlast, hgen, hage, htakes, hkeeps, frame_keep hframe (by decide +kernel),
      hframe.keepRegs (by decide +kernel)⟩
  · refine ⟨_, execGenerationCommitReceived_discards ⟨hshadow, hstandby⟩ hrx, ?_, keep_mate .., newCycle_regs s⟩
    rw [generationOut, newCycle_mate]

end Sys2Proof.Protection
end

section
/-!
The loss of the mate (R199, R205 to R207): its declaration, and the takeover or the isolation that follows.
-/
namespace Sys2Proof.Protection

open Sys2Proof.Machine Sys2Proof.Safety Sys2Proof.Scope Sys2Proof.Architecture Sys2Proof.Framing Sys2Proof.Mapping
  Sys2Proof.Fabric Sys2Proof.Images
open Sys2Proof.Laws hiding maskOf put

/-! ### The declaration and its outcomes -/

/-- The loss is declared: shown, counted, and no longer due. -/
def lossDeclared (s : State) : State :=
  (({ s with mate := { s.mate with lostDue := false, flashHeld := s.flashFree } } : State).setB MATE_ST_lost true).inc
    MATE_CNT_losses

/-- What the declaration makes of the role: `high` says that the rank is high or the loss came with a gasp. -/
def lossResolved (s : State) (high : Bool) : State :=
  if s.get MATE_ST_mode = 1 ∧ s.get MATE_ST_role = 2 then (if high then s.takeOver else s.isolate)
  else if s.get MATE_ST_mode = 1 ∧ s.get MATE_ST_role = 1 then (if high then s else s.isolate)
  else s

/-- The sync bit and the flash as they stand after the loss. -/
def lossShown (s : State) : State := s.showSync.showFlashOwn

/-- A rank that is high, or a loss on a gasp. -/
def prevails (s : State) : Bool := s.on MATE_ST_rank || s.mate.byGasp

theorem newCycle_prevails (s : State) : prevails s.newCycle = prevails s := by
  unfold prevails
  rw [newCycle_on, newCycle_mate]

section
variable (s : State)

theorem lossDeclared_get {f : Fld} (hf : f.key 0 ≠ MATE_CNT_losses.key 0 ∧ (MATE_ST_lost.hi < f.lo ∨ f.hi < MATE_ST_lost.lo)) :
    (lossDeclared s).get f = s.get f :=
  (State.get_set_apart _ MATE_CNT_losses f _ 0 0 (by decide) (.inl hf.1)).trans (get_set_bits ⟨by decide, hf.2⟩ ..)

theorem lossDeclared_mate : (lossDeclared s).mate = { s.mate with lostDue := false, flashHeld := s.flashFree } := by
  simp only [lossDeclared, State.inc_mate, State.setB_mate]

theorem effMateLost_of_due (hdue : s.mate.lostDue = true) :
    effMateLost s = (lossShown (lossResolved (lossDeclared s) (prevails s))).settle := by
  have hrank : (lossDeclared s).on MATE_ST_rank = s.on MATE_ST_rank := by
    rw [State.on, lossDeclared_get _ (by decide)]
    rfl
  unfold effMateLost prevails
  rw [hdue, if_neg (by decide), ← hrank]
  rfl

end

/-! ### A takeover (R205) -/

/-- The groups and their registers are those of a generation. -/
def groupsMirrored (s : State) (m : Mirror) : State :=
  (({ s with qs := { s.qs with grps := m.grps } } : State).resetRange 0x6000 0xA000).putWords 0x6000 0xA000 m.words

/-- The evergreen counters go on from those of a generation, advanced by the time since. -/
def wrapsResumed (s : State) (seqs : List (Nat × Nat)) : State :=
  forEach seqs s fun t p => t.setEvgWrap p.1 { t.evgWrap p.1 with seq := (p.2 + 64 * s.mate.cyc64) % 2 ^ 32 }

/-- The state of the last committed generation is in force. -/
def mirrored (s : State) (m : Mirror) : State :=
  (wrapsResumed (groupsMirrored s.followActive m) m.seqs).takePlan m.page

/-- The state that the survivor takes over, where a generation was committed. -/
def inherited (s : State) : State :=
  match s.mate.last with
  | none => s
  | some m => mirrored s m

theorem takeOver_eq (s : State) : s.takeOver = (((((inherited s).incW MATE_CNT_takeovers).jumpWraps).report kMATE_TAKEOVER
    [(2, (((inherited s).incW MATE_CNT_takeovers).jumpWraps).get MATE_GEN_gen)]).setRole 1).liftIso := by
  unfold State.takeOver inherited
  cases s.mate.last <;> rfl

/-- A change of the quickset block alone. -/
theorem frame_qs (s : State) (q : QsBlock) : Frame m_setGrp s { s with qs := q } := by
  rw [mk_put]
  apply Frame.upd (Frame.refl _ _) <;> first | exact .inl rfl | exact .inr (by decide)

/-- What the state of a generation changes: what a standby follows and a plan that halts, the registers of the groups, and
the evergreen counters. -/
def m_mirrored : Nat := m_followActive ||| m_takePlan ||| m_removeGroup ||| m_setEvgWrap

section
variable (s : State) (m : Mirror)

theorem groupsMirrored_frame : Frame m_mirrored s (groupsMirrored s m) :=
  ((((frame_qs s { s.qs with grps := m.grps }).mono (by decide)).resetRangeS (by decide +kernel)).putWordsS (by decide +kernel))

theorem wrapsResumed_frame (seqs : List (Nat × Nat)) : Frame m_setEvgWrap s (wrapsResumed s seqs) :=
  Frame.forEach _ (Frame.refl _ s) fun _ _ ht => ht.step (fr_setEvgWrap ..) (Nat.or_self _)

theorem mirrored_frame : Frame m_mirrored s (mirrored s m) :=
  ((((fr_followActive s).mono (by decide)).step (groupsMirrored_frame ..) (Nat.or_self _)).step (wrapsResumed_frame ..)
    (by decide)).step (fr_takePlan ..) (by decide)

theorem putWords_qs (a b : Nat) (l : List (Nat × Word)) : (s.putWords a b l).qs = s.qs := by
  refine forEach_keeps State.qs (fun t p => ?_) l s
  split <;> rfl

theorem mirrored_grps : (mirrored s m).qs.grps = m.grps := by
  rw [mirrored, (fr_takePlan ..).qs (by decide), (wrapsResumed_frame ..).qs (by decide), groupsMirrored, putWords_qs]
  rfl

theorem inherited_frame : Frame m_mirrored s (inherited s) := by
  unfold inherited
  split
  · exact Frame.refl _ s
  · exact mirrored_frame ..

theorem takeOver_role : s.takeOver.get MATE_ST_role = 1 := by
  rw [takeOver_eq, liftIso_get _ (by decide)]
  exact setRole_same _ (by decide)

theorem takeOver_count : s.takeOver.get MATE_CNT_takeovers =
    (s.get MATE_CNT_takeovers + 1) % (top MATE_CNT_takeovers + 1) := by
  rw [takeOver_eq, (fr_liftIso _).get (by decide +kernel), (fr_setRole ..).get (by decide +kernel),
    (fr_report ..).get (by decide +kernel), (fr_jumpWraps _).get (by decide +kernel), State.incW,
    State.get_set_same _ _ _ _ (by decide) (by decide), (inherited_frame s).get (by decide +kernel)]
  rfl

theorem takeOver_grps {m : Mirror} (hlast : s.mate.last = some m) : s.takeOver.qs.grps = m.grps := by
  rw [takeOver_eq, (fr_liftIso _).qs (by decide), (fr_setRole ..).qs (by decide), (fr_report ..).qs (by decide),
    (fr_jumpWraps _).qs (by decide), State.incW_qs, inherited, hlast]
  exact mirrored_grps s m

end

/-! ### An isolation (R206, R207) -/

theorem isolate_role (s : State) : s.isolate.get MATE_ST_role = 3 := by
  unfold State.isolate
  rw [(fr_showSquelchAll _).get (by decide +kernel)]
  exact setRole_same s (by decide)

theorem isolate_get (s : State) {f : Fld} (hf : Laws.apart m_report f = true ∧ Laws.apart m_showSquelchAll f = true)
    (hrole : f.key 0 ≠ MATE_ST_role.key 0 ∨ MATE_ST_role.hi < f.lo ∨ f.hi < MATE_ST_role.lo) : s.isolate.get f = s.get f := by
  have hset : (s.setRole 3).get f = s.get f := by
    unfold State.setRole
    split
    · rfl
    · rw [(fr_report ..).get hf.1]
      exact State.get_set_apart _ _ _ _ _ _ (by decide) hrole
  exact ((fr_showSquelchAll _).get hf.2 0).trans hset

theorem isolate_mate (s : State) : s.isolate.mate = { s.mate with sqIso := true, beats := 0 } := by
  unfold State.isolate
  dsimp only
  rw [(fr_showSquelchAll _).mate (by decide), (fr_setRole ..).mate (by decide)]

/-- An isolated device keeps its squelch. -/
theorem liftIso_isolated {s : State} (h : s.get MATE_ST_role = 3) : s.liftIso = s := by
  unfold State.liftIso
  rw [h]
  exact if_neg (by simp)

theorem showSync_mate_isolated {s : State} (h : s.get MATE_ST_role = 3) : s.showSync.mate = s.mate := by
  unfold State.showSync
  dsimp only
  rw [liftIso_isolated, State.setB_mate]
  exact (get_set_bits (by decide) ..).trans h

/-! ### A loss without a takeover -/

/-- What a loss may change that is no takeover. -/
def m_lossShown : Nat := m_isolate ||| m_showSync ||| m_showFlashOwn ||| m_settle ||| 2 ^ 76

/-- A state that shows the loss of the mate, from the state in which it was found. -/
structure LossKnown (s t : State) : Prop where
  lost : t.on MATE_ST_lost = true
  done : t.mate.lostDue = false
  losses : t.get MATE_CNT_losses = min (s.get MATE_CNT_losses + 1) (top MATE_CNT_losses)
  frame : Frame m_lossShown s t

theorem frame_mate (s : State) (m : MateBlock) : Frame m_setMateLane s { s with mate := m } := by
  rw [mk_put]
  apply Frame.upd (Frame.refl _ _) <;> first | exact .inl rfl | exact .inr (by decide)

theorem lossDeclared_known (s : State) : LossKnown s (lossDeclared s) where
  lost := by
    unfold lossDeclared State.inc
    rw [State.on, State.get_set_apart _ _ _ _ _ _ (by decide) (.inl (by decide))]
    exact State.on_setB_same _ MATE_ST_lost true 0 (by decide) (by decide) rfl
  done := by rw [lossDeclared_mate]
  losses := by
    unfold lossDeclared
    rw [get_inc _ _ _ (by decide) (by decide), State.setB, State.get_set_apart _ _ _ _ _ _ (by decide) (.inl (by decide))]
    rfl
  frame := (((frame_mate s _).mono (by decide)).setBS (by decide +kernel)).incS (by decide +kernel)

section
variable {s t : State} (h : LossKnown s t)
include h

theorem LossKnown.isolate : LossKnown s t.isolate where
  lost := by
    rw [State.on, isolate_get _ (by decide +kernel) (by decide)]
    exact h.lost
  done := by
    rw [isolate_mate]
    exact h.done
  losses := (isolate_get _ (by decide +kernel) (by decide)).trans h.losses
  frame := h.frame.step (fr_isolate t) (by decide)

theorem LossKnown.settle : LossKnown s (lossShown t).settle where
  lost := by
    rw [(fr_settle _).on (by decide +kernel), State.on, lossShown, showFlashOwn_get _ (by decide), showSync_get _ (by decide)]
    exact h.lost
  done := by
    obtain ⟨sq, hmate⟩ := showSync_mate t
    rw [(fr_settle _).mate (by decide), lossShown, State.showFlashOwn, State.setB_mate, hmate]
    exact h.done
  losses := by
    rw [(fr_settle _).get (by decide +kernel), lossShown, (fr_showFlashOwn _).get (by decide +kernel),
      (fr_showSync _).get (by decide +kernel)]
    exact h.losses
  frame := ((h.frame.step (fr_showSync t) (by decide)).step (fr_showFlashOwn _) (by decide)).step (fr_settle _) (by decide)

end

theorem lossShown_settle_role (s : State) : (lossShown s).settle.get MATE_ST_role = s.get MATE_ST_role := by
  rw [(fr_settle _).get (by decide +kernel), lossShown, showFlashOwn_get _ (by decide), showSync_get _ (by decide)]

theorem lossShown_settle_sqIso {s : State} (h : s.get MATE_ST_role = 3) : (lossShown s).settle.mate.sqIso = s.mate.sqIso := by
  rw [(fr_settle _).mate (by decide), lossShown, State.showFlashOwn, State.setB_mate, showSync_mate_isolated h]

/-! ### Which outcome a loss has -/

/-- A shadow-mode standby that takes over (R205). -/
def TakesOver (s : State) : Prop := s.get MATE_ST_mode = 1 ∧ s.get MATE_ST_role = 2 ∧ prevails s = true

/-- A shadow-mode device in a role that isolates (R206, R207). -/
def Isolates (s : State) : Prop :=
  s.get MATE_ST_mode = 1 ∧ (s.get MATE_ST_role = 1 ∨ s.get MATE_ST_role = 2) ∧ prevails s = false

section
variable {s : State}

theorem newCycle_takesOver : TakesOver s.newCycle ↔ TakesOver s := by
  simp only [TakesOver, newCycle_get, newCycle_prevails]

theorem newCycle_isolates : Isolates s.newCycle ↔ Isolates s := by
  simp only [Isolates, newCycle_get, newCycle_prevails]

theorem lossDeclared_mode : (lossDeclared s).get MATE_ST_mode = s.get MATE_ST_mode := lossDeclared_get s (by decide)

theorem lossDeclared_role : (lossDeclared s).get MATE_ST_role = s.get MATE_ST_role := lossDeclared_get s (by decide)

theorem lossResolved_takesOver (h : TakesOver s) :
    lossResolved (lossDeclared s) (prevails s) = (lossDeclared s).takeOver := by
  obtain ⟨hmode, hrole, hhigh⟩ := h
  unfold lossResolved
  rw [lossDeclared_mode, lossDeclared_role, if_pos ⟨hmode, hrole⟩, if_pos hhigh]

theorem lossResolved_isolates (h : Isolates s) : lossResolved (lossDeclared s) (prevails s) = (lossDeclared s).isolate := by
  obtain ⟨hmode, hrole, hlow⟩ := h
  unfold lossResolved
  rw [lossDeclared_mode, lossDeclared_role, hlow]
  rcases hrole with hrole | hrole
  · rw [if_neg (by omega), if_pos ⟨hmode, hrole⟩, if_neg Bool.false_ne_true]
  · rw [if_pos ⟨hmode, hrole⟩, if_neg Bool.false_ne_true]

theorem lossResolved_keeps (htakes : ¬ TakesOver s) (hisolates : ¬ Isolates s) :
    lossResolved (lossDeclared s) (prevails s) = lossDeclared s := by
  unfold lossResolved
  rw [lossDeclared_mode, lossDeclared_role]
  cases hhigh : prevails s
  · have hrole : ∀ r, r = 1 ∨ r = 2 → ¬ (s.get MATE_ST_mode = 1 ∧ s.get MATE_ST_role = r) :=
      fun r hr hand => hisolates ⟨hand.1, by omega, hhigh⟩
    rw [if_neg (hrole 2 (.inr rfl)), if_neg (hrole 1 (.inl rfl))]
  · rw [if_neg fun hand => htakes ⟨hand.1, hand.2, hhigh⟩, if_pos rfl, ite_self]

theorem execMateLost_of_due (hdue : s.mate.lostDue = true) : exec .mateLost s =
    .next (lossShown (lossResolved (lossDeclared s.newCycle) (prevails s.newCycle))).settle :=
  congrArg Host.Outcome.next (effMateLost_of_due s.newCycle (by rw [newCycle_mate]; exact hdue))

/-- A takeover: the device is ACTIVE, counts it, and has the groups of the last committed generation. -/
theorem execMateLost_takesOver (hdue : s.mate.lostDue = true) (h : TakesOver s) :
    ∃ u t : State, exec .mateLost s = .next t ∧ t = u.settle ∧ t.get MATE_ST_role = 1 ∧
      t.get MATE_CNT_takeovers = (s.get MATE_CNT_takeovers + 1) % (top MATE_CNT_takeovers + 1) ∧
      ∀ m, s.mate.last = some m → u.qs.grps = m.grps := by
  have hexec := execMateLost_of_due hdue
  rw [lossResolved_takesOver (newCycle_takesOver.2 h)] at hexec
  have hcount : (lossDeclared s.newCycle).get MATE_CNT_takeovers = s.get MATE_CNT_takeovers := by
    unfold lossDeclared State.inc State.setB
    rw [get_set_bits (by decide), State.get_set_apart _ _ _ _ _ _ (by decide) (.inl (by decide))]
    exact newCycle_get ..
  refine ⟨_, _, hexec, rfl, ?_, ?_, fun m hlast => ?_⟩
  · rw [lossShown_settle_role, takeOver_role]
  · rw [(fr_settle _).get (by decide +kernel), lossShown, (fr_showFlashOwn _).get (by decide +kernel),
      (fr_showSync _).get (by decide +kernel), takeOver_count, hcount]
  · rw [lossShown, State.showFlashOwn, State.setB_qs, (fr_showSync _).qs (by decide)]
    refine takeOver_grps _ ?_
    rw [lossDeclared_mate, newCycle_mate]
    exact hlast

end

/-- Settles O32: a takeover, an isolation, and a loss that leaves the role as it is. -/
theorem mateLoss : Obligations.MateLoss := by
  unfold Obligations.MateLoss
  refine fun s hdue => ⟨fun hmode hrole hhigh => ?_, fun hstays => ?_⟩
  · obtain ⟨u, t, hexec, ht, hactive, hcount, hgrps⟩ := execMateLost_takesOver hdue ⟨hmode, hrole, hhigh⟩
    have hframe : Frame m_effMateLost s.newCycle t := frame_of_exec hexec
    exact ⟨u, t, hexec, ht, hactive, hcount, hgrps, frame_keep hframe (by decide +kernel), hframe.keepRegs (by decide +kernel)⟩
  · have htakes : ¬ TakesOver s.newCycle := newCycle_takesOver.not.2 hstays
    have hknown := lossDeclared_known s.newCycle
    have hexec := execMateLost_of_due hdue
    have hcases : ∃ w, lossResolved (lossDeclared s.newCycle) (prevails s.newCycle) = w ∧ LossKnown s.newCycle w ∧
        (Isolates s → w.get MATE_ST_role = 3 ∧ w.mate.sqIso = true) ∧ (¬ Isolates s → w.get MATE_ST_role = s.get MATE_ST_role) := by
      by_cases h : Isolates s
      · refine ⟨_, lossResolved_isolates (newCycle_isolates.2 h), hknown.isolate, fun _ => ⟨isolate_role _, ?_⟩, absurd h⟩
        rw [isolate_mate]
      · exact ⟨_, lossResolved_keeps htakes (newCycle_isolates.not.2 h), hknown, fun h' => absurd h' h,
          fun _ => lossDeclared_role.trans (newCycle_get ..)⟩
    obtain ⟨w, hw, hwknown, hisolated, hkept⟩ := hcases
    rw [hw] at hexec
    obtain ⟨hlost, hdone, hlosses, hframe⟩ := hwknown.settle
    refine ⟨_, hexec, hlost, hdone, by rw [hlosses, newCycle_get], fun hmode hrole hlow => ?_, fun hother => ?_,
      frame_keep hframe (by decide +kernel), hframe.keepRegs (by decide +kernel)⟩
    · obtain ⟨hrole', hsquelch⟩ := hisolated ⟨hmode, hrole, hlow⟩
      exact ⟨(lossShown_settle_role w).trans hrole', (lossShown_settle_sqIso hrole').trans hsquelch⟩
    · refine (lossShown_settle_role w).trans (hkept ?_)
      rintro ⟨hmode, hrole, hlow⟩
      rcases hother with hother | hother | hother | hhigh
      · exact hother hmode
      · omega
      · omega
      · exact Bool.false_ne_true (hlow.symm.trans hhigh)

end Sys2Proof.Protection
end

section
/-!
A protection group (R185, R186, R196): its entry and its state, a failure of protocol, and the evaluation of its request by stages.
-/
namespace Sys2Proof.Protection

open Sys2Proof.Machine Sys2Proof.Safety Sys2Proof.Scope Sys2Proof.Architecture Sys2Proof.Framing Sys2Proof.Mapping
  Sys2Proof.Fabric Sys2Proof.Images
open Sys2Proof.Laws hiding maskOf put

/-! ### The entry and the state of a group -/

/-- The entry of a group names it. -/
theorem grp_of_entry {s : State} {g : Nat} {e : Entry} (h : s.entry PROTECTION_grp g = some e) : e.n PROTECTION_grp = g := by
  have hfound := List.find?_some h
  simp only [Bool.and_eq_true, beq_iff_eq] at hfound
  exact hfound.2

theorem newCycle_entry (s : State) (f : ImgFld) (v : Nat) : s.newCycle.entry f v = s.entry f v := by
  unfold State.entry
  rw [newCycle_img]

theorem newCycle_qs (s : State) : s.newCycle.qs = s.qs := (fr_newCycle s).qs (by decide)

theorem grp_of_qs {s t : State} (h : t.qs = s.qs) (g : Nat) : t.grp g = s.grp g := by
  unfold State.grp
  rw [h]

theorem newCycle_grp (s : State) (g : Nat) : s.newCycle.grp g = s.grp g := grp_of_qs (newCycle_qs s) g

theorem grp_setGrp (s : State) (g h : Nat) (v : QsGrp) : (s.setGrp g v).grp h = if h = g then v else s.grp h := tget_tset ..

theorem setGrp_get (s : State) (g : Nat) (v : QsGrp) (f : Fld) (n : Nat) : (s.setGrp g v).get f n = s.get f n := rfl

theorem newCycle_pinCode (s : State) (g : Nat) : s.newCycle.pinCode g = s.pinCode g := by
  unfold State.pinCode State.gl
  rw [newCycle_get, newCycle_img]

theorem newCycle_localRequest (s : State) (e : Entry) : s.newCycle.localRequest e = s.localRequest e := by
  unfold State.localRequest
  dsimp only
  rw [newCycle_grp, newCycle_pinCode, newCycle_get]

theorem newCycle_farRequest (s : State) (e : Entry) : s.newCycle.farRequest e = s.farRequest e := by
  unfold State.farRequest State.farEnd
  dsimp only
  rw [newCycle_on, newCycle_on, newCycle_get]

theorem newCycle_topRequest (s : State) (e : Entry) (hold : Nat) : s.newCycle.topRequest e hold = s.topRequest e hold := by
  unfold State.topRequest
  dsimp only
  rw [newCycle_localRequest, newCycle_farRequest, newCycle_grp]

/-- A field of a group reads back what was written to it, cut to its width. -/
theorem get_set_group {g : Nat} (hg : g < 1024) {f : Fld} (h : f.count = 1024 ∧ f.hi < 32) (s : State) (v : Nat) :
    (s.set f v g).get f g = v % 2 ^ (f.hi + 1 - f.lo) :=
  State.get_set_same s f v g (by omega) h.2

theorem on_setB_group {g : Nat} (hg : g < 1024) {f : Fld} (h : f.count = 1024 ∧ f.hi < 32 ∧ f.lo = f.hi) (s : State) (b : Bool) :
    (s.setB f b g).on f g = b :=
  State.on_setB_same s f b g (by omega) h.2.1 h.2.2

/-! ### The pins of the quickset engine -/

/-- The stable levels of FORCE_N and the edges counted. -/
def pins (s : State) : Nat × List (Nat × Nat) := (s.qs.raw, s.qs.edges)

theorem pins_of_qs {s t : State} (h : t.qs = s.qs) : pins t = pins s := by
  unfold pins
  rw [h]

/-! ### A failure of protocol (R196) -/

/-- The field that shows a failure of protocol: FOP_PM or FOP_NR. -/
def fopFld (pm : Bool) : Fld := if pm then QS_GRP_ST_fop_pm else QS_GRP_ST_fop_nr

theorem setFop_eq (s : State) (g : Nat) (pm on : Bool) : s.setFop g pm on =
    if s.on (fopFld pm) g == on then s else (s.setB (fopFld pm) on g).report kAPS_FAIL [(2, g), (1, b2n pm), (1, b2n on)] := rfl

section
variable (s : State) (g : Nat) (pm on : Bool)

theorem setFop_on (hg : g < 1024) : (s.setFop g pm on).on (fopFld pm) g = on := by
  rw [setFop_eq]
  split
  · next h => exact beq_iff_eq.1 h
  · rw [(fr_report ..).on (by cases pm <;> decide +kernel)]
    exact on_setB_group hg (by cases pm <;> decide) ..

theorem setFop_get {f : Fld} (hf : Laws.apart m_report f = true) (hbits : (fopFld pm).hi < f.lo ∨ f.hi < (fopFld pm).lo) (n : Nat) :
    (s.setFop g pm on).get f n = s.get f n := by
  rw [setFop_eq]
  split
  · rfl
  · rw [(fr_report ..).get hf]
    exact get_set_bits ⟨by cases pm <;> decide, hbits⟩ ..

theorem setFop_qs : (s.setFop g pm on).qs = s.qs := (fr_setFop ..).qs (by decide)

end

section
variable (s : State) (e : Entry)

theorem endFopNr_get {f : Fld} (hf : Laws.apart m_report f = true ∧ (QS_GRP_ST_fop_nr.hi < f.lo ∨ f.hi < QS_GRP_ST_fop_nr.lo))
    (n : Nat) : (s.endFopNr e).get f n = s.get f n := by
  unfold State.endFopNr
  split
  · rfl
  · exact setFop_get s _ false false hf.1 hf.2 n

theorem endFopNr_qs : (s.endFopNr e).qs = s.qs := (fr_endFopNr ..).qs (by decide)

end

/-! ### The evaluation of a request by stages (R185, R186) -/

section
variable (s : State) (e : Entry)

/-- A request of code 4 or above is held. -/
def busy : Bool := decide (4 ≤ s.localRequest e) || decide (4 ≤ s.farRequest e)

/-- The WTR or DNR state once a request of code 6 or above that has cleared has left one. -/
def holdEntered : Nat :=
  let q := s.grp (e.n PROTECTION_grp)
  if !busy s e && q.hold == 0 && decide (6 ≤ s.get QS_GRP_ST_req (e.n PROTECTION_grp)) && s.on QS_GRP_ST_sel (e.n PROTECTION_grp)
  then (if e.b PROTECTION_revert then 1 else 2) else q.hold

/-- The request in force: the far end's shows as RR. -/
def requestTaken : Nat :=
  if (s.topRequest e (holdEntered s e)).2 then 2 else (s.topRequest e (holdEntered s e)).1

/-- The WTR or DNR state that the request in force leaves. -/
def holdLeft : Nat :=
  if busy s e && holdEntered s e == 2 && !selOf (requestTaken s e) (s.topRequest e (holdEntered s e)).1 then 0
  else holdEntered s e

/-- The group with its WTR or DNR state. -/
def grpEvaluated : QsGrp :=
  let q := s.grp (e.n PROTECTION_grp)
  { q with hold := holdLeft s e, dropped := q.dropped && s.get QS_GRP_ST_req (e.n PROTECTION_grp) == requestTaken s e }

/-- The wait-to-restore timer of a group, which a request stops and a WTR state starts. -/
def timerTaken (busy : Bool) (hold : Nat) : State :=
  let g := e.n PROTECTION_grp
  if busy then (s.setB QS_GRP_ST_wtr false g).set QS_GRP_ST_wtr_left 0 g
  else if hold = 1 ∧ !s.on QS_GRP_ST_wtr g then
    (s.setB QS_GRP_ST_wtr true g).set QS_GRP_ST_wtr_left (e.n PROTECTION_wtr) g
  else s

/-- The request in the register. -/
def requestShown : State :=
  (timerTaken (s.setGrp (e.n PROTECTION_grp) (grpEvaluated s e)) e (busy s e) (holdLeft s e)).set QS_GRP_ST_req (requestTaken s e)
    (e.n PROTECTION_grp)

theorem evalGroup_eq : s.evalGroup e = (requestShown s e).endFopNr e := rfl

/-- The fields of QS_GRP_ST that the timer writes. -/
def timerFlds : List Fld := [QS_GRP_ST_wtr, QS_GRP_ST_wtr_left]

theorem timerTaken_get (b : Bool) (hold : Nat) {f : Fld} (hf : ∀ x ∈ timerFlds, x.hi < f.lo ∨ f.hi < x.lo) (n : Nat) :
    (timerTaken s e b hold).get f n = s.get f n := by
  have hwtr := hf QS_GRP_ST_wtr (by decide)
  have hleft := hf QS_GRP_ST_wtr_left (by decide)
  have hset : ∀ c v g, ((s.setB QS_GRP_ST_wtr c g).set QS_GRP_ST_wtr_left v g).get f n = s.get f n := fun c v g =>
    (get_set_bits ⟨by decide, hleft⟩ ..).trans (get_set_bits ⟨by decide, hwtr⟩ ..)
  unfold timerTaken
  dsimp only
  split
  · exact hset ..
  · split
    · exact hset ..
    · rfl

theorem timerTaken_qs (b : Bool) (hold : Nat) : (timerTaken s e b hold).qs = s.qs := by
  unfold timerTaken
  dsimp only
  split_ifs <;> simp only [State.set_qs, State.setB_qs]

theorem evalGroup_qs : (s.evalGroup e).qs = (s.setGrp (e.n PROTECTION_grp) (grpEvaluated s e)).qs := by
  rw [evalGroup_eq, endFopNr_qs, requestShown, State.set_qs, timerTaken_qs]

theorem evalGroup_pins : pins (s.evalGroup e) = pins s :=
  (pins_of_qs (s := s.setGrp (e.n PROTECTION_grp) (grpEvaluated s e)) (evalGroup_qs s e)).trans rfl

theorem evalGroup_grp : (s.evalGroup e).grp (e.n PROTECTION_grp) = grpEvaluated s e := by
  rw [grp_of_qs (evalGroup_qs s e), grp_setGrp, if_pos rfl]

theorem evalGroup_req (hg : e.n PROTECTION_grp < 1024) :
    (s.evalGroup e).get QS_GRP_ST_req (e.n PROTECTION_grp) = requestTaken s e % 2 ^ 4 := by
  rw [evalGroup_eq, endFopNr_get _ _ (by decide +kernel)]
  exact get_set_group hg (by decide) ..

/-- The fields of QS_GRP_ST that an evaluation leaves as they are. -/
def keptFlds : List Fld := [QS_GRP_ST_fe_req, QS_GRP_ST_sel, QS_GRP_ST_bridge, QS_GRP_ST_fop_pm, QS_GRP_ST_mbx]

theorem keptFlds_apart : ∀ f ∈ keptFlds, Laws.apart m_report f = true ∧
    ∀ x ∈ QS_GRP_ST_fop_nr :: QS_GRP_ST_req :: timerFlds, x.hi < f.lo ∨ f.hi < x.lo := by decide +kernel

theorem evalGroup_get {f : Fld} (hf : f ∈ keptFlds) (n : Nat) : (s.evalGroup e).get f n = s.get f n := by
  obtain ⟨hreport, hbits⟩ := keptFlds_apart f hf
  rw [evalGroup_eq, endFopNr_get _ _ ⟨hreport, hbits _ List.mem_cons_self⟩, requestShown,
    get_set_bits ⟨by decide, hbits _ (by decide)⟩,
    timerTaken_get _ _ _ _ fun x hx => hbits x (List.mem_cons_of_mem _ (List.mem_cons_of_mem _ hx))]
  rfl

end

/-! ### The settling of the groups (R184) -/

theorem settleGroup_pins (s : State) (e : Entry) : pins (s.settleGroup e) = pins s := by
  unfold State.settleGroup
  dsimp only
  rw [evalGroup_pins]
  unfold pins State.setGrp
  simp only [State.setB_qs, State.inc_qs, State.setWord_qs]

theorem settleGroups_pins (s : State) : pins s.settleGroups = pins s := forEach_keeps pins settleGroup_pins _ s

end Sys2Proof.Protection
end

section
/-!
The requests of a group (R185), and what ends or changes them: the hold-off and the wait-to-restore timer (R184, R186) and the FORCE_N
pins (R187).
-/
namespace Sys2Proof.Protection

open Sys2Proof.Machine Sys2Proof.Safety Sys2Proof.Scope Sys2Proof.Architecture Sys2Proof.Framing Sys2Proof.Mapping
  Sys2Proof.Fabric Sys2Proof.Images
open Sys2Proof.Laws hiding maskOf put

/-! ### The request of this end -/

/-- The request codes of the triggers declared. -/
def declaredCodes (d : Nat) : List Nat :=
  (if bit d 1 then [10] else []) ++ (if bit d 0 then [8] else []) ++ (if bit d 3 then [7] else []) ++ (if bit d 2 then [6] else [])

theorem declaredCodes_nil {d : Nat} (h : d % 16 = 0) : declaredCodes d = [] := by
  have hbit : ∀ i < 4, bit d i = false := fun i hi => by
    have hlow := Nat.testBit_mod_two_pow d 4 i
    rw [show d % 2 ^ 4 = 0 from h, Nat.zero_testBit, decide_eq_true hi, Bool.true_and] at hlow
    exact hlow.symm
  simp [declaredCodes, hbit]

theorem declaredCodes_foldl_le (d : Nat) : (declaredCodes d).foldl max 0 ≤ 10 := by
  unfold declaredCodes
  cases bit d 0 <;> cases bit d 1 <;> cases bit d 2 <;> cases bit d 3 <;> decide

theorem pinCode_le (s : State) (g : Nat) : s.pinCode g ≤ 11 := by
  refine List.foldlRecOn (motive := (· ≤ 11)) _ _ (Nat.zero_le _) fun a ha k _ => ?_
  split
  · refine max_le ha ?_
    split <;> decide
  · exact ha

theorem pinCode_congr {s t : State} (hlevel : t.get QS_FORCE_level = s.get QS_FORCE_level) (himg : t.img = s.img) (g : Nat) :
    t.pinCode g = s.pinCode g := by
  unfold State.pinCode State.gl
  rw [hlevel, himg]

section
variable (s : State) (e : Entry)

theorem localRequest_eq : s.localRequest e =
    max (max ((declaredCodes (s.grp (e.n PROTECTION_grp)).decl).foldl max 0) (s.pinCode (e.n PROTECTION_grp)))
      (mbxCode (s.get QS_GRP_TRIG_mbx_cmd (e.n PROTECTION_grp))) := by
  unfold State.localRequest declaredCodes
  rw [List.foldl_append]
  rfl

theorem localRequest_none (hdecl : (s.grp (e.n PROTECTION_grp)).decl % 16 = 0) (hpin : s.pinCode (e.n PROTECTION_grp) = 0)
    (hmbx : mbxCode (s.get QS_GRP_TRIG_mbx_cmd (e.n PROTECTION_grp)) = 0) : s.localRequest e = 0 := by
  rw [localRequest_eq, declaredCodes_nil hdecl, hpin, hmbx]
  rfl

/-- A held LO outranks every other request of this end. -/
theorem localRequest_lockout (hmbx : s.get QS_GRP_TRIG_mbx_cmd (e.n PROTECTION_grp) = 1) : s.localRequest e = 11 := by
  have htrig := declaredCodes_foldl_le (s.grp (e.n PROTECTION_grp)).decl
  have hpin := pinCode_le s (e.n PROTECTION_grp)
  rw [localRequest_eq, hmbx]
  exact max_eq_right (max_le (htrig.trans (by decide)) hpin)

theorem holdCode_le (hold : Nat) : holdCode hold ≤ 3 := by
  unfold holdCode
  split <;> decide

/-! ### A group that takes no far-end request -/

variable {s e} (halone : e.b PROTECTION_bidir = false)
include halone

theorem farRequest_alone : s.farRequest e = 0 := if_neg (by rw [halone]; decide)

theorem topRequest_alone (hold : Nat) : s.topRequest e hold = (max (s.localRequest e) (holdCode hold), false) := by
  unfold State.topRequest
  dsimp only
  rw [farRequest_alone halone, if_neg]
  simp [farWins, prio]

theorem requestTaken_alone : requestTaken s e = max (s.localRequest e) (holdCode (holdEntered s e)) := by
  unfold requestTaken
  rw [topRequest_alone halone]
  rfl

theorem requestTaken_lockout (hmbx : s.get QS_GRP_TRIG_mbx_cmd (e.n PROTECTION_grp) = 1) : requestTaken s e = 11 := by
  rw [requestTaken_alone halone, localRequest_lockout s e hmbx]
  exact max_eq_left ((holdCode_le _).trans (by decide))

end

/-! ### A group without a request -/

/-- A group that takes no far-end request, holds none of its own and shows none. -/
structure Quiet (s : State) (e : Entry) : Prop where
  alone : e.b PROTECTION_bidir = false
  request : s.localRequest e = 0
  shown : s.get QS_GRP_ST_req (e.n PROTECTION_grp) = 0
  hold : (s.grp (e.n PROTECTION_grp)).hold = 0

section
variable {s : State} {e : Entry} (h : Quiet s e)
include h

theorem Quiet.not_busy : busy s e = false := by
  unfold busy
  rw [h.request, farRequest_alone h.alone]
  rfl

theorem Quiet.holdEntered : holdEntered s e = 0 := by
  unfold Protection.holdEntered
  dsimp only
  rw [h.shown, h.hold]
  simp

theorem Quiet.requestTaken : requestTaken s e = 0 := by
  rw [requestTaken_alone h.alone, h.request, h.holdEntered]
  rfl

theorem Quiet.holdLeft : holdLeft s e = 0 := by
  unfold Protection.holdLeft
  rw [h.not_busy, h.holdEntered]
  rfl

theorem Quiet.evalGroup_req (hg : e.n PROTECTION_grp < 1024) : (s.evalGroup e).get QS_GRP_ST_req (e.n PROTECTION_grp) = 0 := by
  rw [Protection.evalGroup_req s e hg, h.requestTaken, Nat.zero_mod]

theorem Quiet.evalGroup_hold : ((s.evalGroup e).grp (e.n PROTECTION_grp)).hold = 0 := by
  rw [evalGroup_grp]
  exact h.holdLeft

/-- The timer of a group without a request stands as it is. -/
theorem Quiet.evalGroup_timer {f : Fld} (hf : f ∈ timerFlds) (n : Nat) : (s.evalGroup e).get f n = s.get f n := by
  obtain ⟨hreport, hfop, hreq⟩ := (by decide +kernel : ∀ f ∈ timerFlds, Laws.apart m_report f = true ∧
    (QS_GRP_ST_fop_nr.hi < f.lo ∨ f.hi < QS_GRP_ST_fop_nr.lo) ∧ (QS_GRP_ST_req.hi < f.lo ∨ f.hi < QS_GRP_ST_req.lo)) f hf
  rw [evalGroup_eq, endFopNr_get _ _ ⟨hreport, hfop⟩, requestShown, get_set_bits ⟨by decide, hreq⟩, h.not_busy, h.holdLeft]
  rfl

end

/-! ### HOLDOFF_EXPIRY (R184) -/

/-- A group one of whose triggers falls due. -/
def fallenDue (q : QsGrp) (k : Nat) : QsGrp := { q with due := q.due + 2 ^ k }

theorem execHoldoffExpiry_due {s : State} {g k : Nat} (hrun : bit (s.grp g).hoRun k = true) (hdue : bit (s.grp g).due k = false) :
    exec (.holdoffExpiry g k) s = .next (s.newCycle.setGrp g (fallenDue (s.grp g) k)) := by
  refine congrArg Host.Outcome.next ?_
  unfold effHoldoffExpiry
  dsimp only
  rw [newCycle_grp, hrun, hdue]
  rfl

theorem bit_fallenDue {q : QsGrp} {k : Nat} (h : bit q.due k = false) (j : Nat) :
    bit (fallenDue q k).due j = (bit q.due j || decide (j = k)) := testBit_add_two_pow h j

/-! ### WTR_EXPIRY (R186) -/

/-- A group whose wait-to-restore timer has expired, before its request is evaluated. -/
def timerEnded (s : State) (g : Nat) : State :=
  (((s.setGrp g { s.grp g with hold := 0 }).setB QS_GRP_ST_wtr false g).set QS_GRP_ST_wtr_left 0 g).set QS_GRP_ST_req 0 g

theorem effWtrExpiry_runs {s : State} {g : Nat} {e : Entry} (he : s.entry PROTECTION_grp g = some e)
    (hruns : s.on QS_GRP_ST_wtr g = true) : effWtrExpiry g s = (timerEnded s g).evalGroup e := by
  unfold effWtrExpiry
  rw [he]
  exact if_pos hruns

section
variable (s : State) (g : Nat)

theorem timerEnded_get {f : Fld} {n : Nat} (hf : f.key n ≠ QS_GRP_ST_req.key g) : (timerEnded s g).get f n = s.get f n := by
  have hset : ∀ (u : State) (x : Fld) (v : Nat), x.hi < 32 ∧ x.key g = QS_GRP_ST_req.key g → (u.set x v g).get f n = u.get f n :=
    fun u x v hx => State.get_set_apart u x f v g n hx.1 (.inl (hx.2 ▸ hf))
  calc (timerEnded s g).get f n
    _ = (((s.setGrp g { s.grp g with hold := 0 }).setB QS_GRP_ST_wtr false g).set QS_GRP_ST_wtr_left 0 g).get f n :=
      hset _ _ _ ⟨by decide, rfl⟩
    _ = ((s.setGrp g { s.grp g with hold := 0 }).setB QS_GRP_ST_wtr false g).get f n := hset _ _ _ ⟨by decide, rfl⟩
    _ = s.get f n := hset _ _ _ ⟨by decide, rfl⟩

theorem timerEnded_grp : (timerEnded s g).grp g = { s.grp g with hold := 0 } := by
  rw [grp_of_qs (s := s.setGrp g { s.grp g with hold := 0 }) (by
    unfold timerEnded
    simp only [State.set_qs, State.setB_qs]), grp_setGrp, if_pos rfl]

theorem timerEnded_pinCode (hg : g < 1024) : (timerEnded s g).pinCode g = s.pinCode g := by
  refine pinCode_congr (timerEnded_get s g ?_) ?_ g
  · unfold Fld.key
    change 0xA000 + 0 * 0 ≠ 0x6000 + 0x10 * g
    omega
  · unfold timerEnded
    simp only [State.set_img, State.setB_img]
    rfl

variable {g} (hg : g < 1024)
include hg

theorem timerEnded_req : (timerEnded s g).get QS_GRP_ST_req g = 0 := by
  unfold timerEnded
  rw [get_set_group hg (by decide), Nat.zero_mod]

theorem timerEnded_wtr_left : (timerEnded s g).get QS_GRP_ST_wtr_left g = 0 := by
  unfold timerEnded
  rw [get_set_bits (by decide), get_set_group hg (by decide), Nat.zero_mod]

theorem timerEnded_wtr : (timerEnded s g).get QS_GRP_ST_wtr g = 0 := by
  unfold timerEnded State.setB
  rw [get_set_bits (by decide), get_set_bits (by decide), get_set_group hg (by decide)]
  rfl

end

theorem timerEnded_quiet {s : State} {e : Entry} (hg : e.n PROTECTION_grp < 1024) (halone : e.b PROTECTION_bidir = false)
    (hdecl : (s.grp (e.n PROTECTION_grp)).decl % 16 = 0) (hpin : s.pinCode (e.n PROTECTION_grp) = 0)
    (hmbx : mbxCode (s.get QS_GRP_TRIG_mbx_cmd (e.n PROTECTION_grp)) = 0) : Quiet (timerEnded s (e.n PROTECTION_grp)) e where
  alone := halone
  request := by
    refine localRequest_none _ e ?_ ?_ ?_
    · rw [timerEnded_grp]
      exact hdecl
    · rw [timerEnded_pinCode _ _ hg, hpin]
    · rw [timerEnded_get, hmbx]
      change 0x6004 + 0x10 * e.n PROTECTION_grp ≠ 0x6000 + 0x10 * e.n PROTECTION_grp
      omega
  shown := timerEnded_req s hg
  hold := by rw [timerEnded_grp]

/-! ### FORCE_PIN_EDGE (R187) -/

theorem bit_putBit (v k i : Nat) (b : Bool) : bit (putBit v k b) i = if i = k then b else bit v i := by
  have hwith : putBit v k b = withBit v k b := by
    unfold putBit withBit
    cases b <;> cases bit v k <;> rfl
  rw [hwith, bit_withBit]

/-- The level of a pin taken. -/
def pinRaw (s : State) (k : Nat) (on : Bool) : State := { s with qs := { s.qs with raw := putBit s.qs.raw k on } }

/-- The edges of a pin in the running PM second. -/
def edgesOf (s : State) (k : Nat) : Nat := tget (fun _ => 0) s.qs.edges k

/-- An edge of a pin counted. -/
def edgeCounted (s : State) (k : Nat) : State :=
  { s with qs := { s.qs with edges := tset (fun _ => 0) s.qs.edges k (edgesOf s k + 1) } }

/-- An edge of a pin accepted: its level and its latch in the registers. -/
def edgeShown (s : State) (k : Nat) (on : Bool) : State :=
  let latched := s.set QS_FORCE_edge (s.get QS_FORCE_edge ||| 2 ^ k)
  latched.set QS_FORCE_level (putBit (latched.get QS_FORCE_level) k on)

/-- The count of the edges of a pin past the limit. -/
def excFld (k : Nat) : Fld := ⟨0xA004, 0, 1, 8 * k + 7, 8 * k⟩

theorem effForcePinEdge_accepted {s : State} {k : Nat} {on : Bool} (hk : k < 4) (hlevel : bit s.qs.raw k ≠ on)
    (hroom : edgesOf s k < 1000) :
    effForcePinEdge k on s = ((edgeShown (edgeCounted (pinRaw s k on) k) k on).irqSet 226).settleGroups := by
  unfold effForcePinEdge
  rw [if_neg (by simp only [not_or, hlevel, not_false_eq_true, and_true]; omega)]
  exact if_pos hroom

/-- An edge of a pin past the limit, counted. -/
def edgeExceeds (s : State) (k : Nat) (on : Bool) : State := (pinRaw s k on).inc (excFld k)

/-- A pin masked. -/
def pinMasked (s : State) (k : Nat) : State := s.set QS_FORCE_masked (s.get QS_FORCE_masked ||| 2 ^ k)

theorem effForcePinEdge_exceeded {s : State} {k : Nat} {on : Bool} (hk : k < 4) (hlevel : bit s.qs.raw k ≠ on)
    (hfull : 1000 ≤ edgesOf s k) :
    effForcePinEdge k on s = if bit ((edgeExceeds s k on).get QS_FORCE_masked) k then edgeExceeds s k on
      else (pinMasked (edgeExceeds s k on) k).report kFORCE_RATE [(1, k)] := by
  unfold effForcePinEdge
  rw [if_neg (by simp only [not_or, hlevel, not_false_eq_true, and_true]; omega)]
  exact if_neg (Nat.not_lt.2 hfull)

/-! ### The pin registers -/

/-- A field of four pins reads back what was written to it, cut to its width. -/
theorem get_set_force {f : Fld} (hf : f ∈ [QS_FORCE_masked, QS_FORCE_level, QS_FORCE_edge]) (s : State) (v : Nat) :
    (s.set f v).get f = v % 2 ^ 4 := by
  obtain ⟨hcount, h32, hwidth⟩ := (by decide : ∀ f ∈ [QS_FORCE_masked, QS_FORCE_level, QS_FORCE_edge],
    0 < f.count ∧ f.hi < 32 ∧ f.hi + 1 - f.lo = 4) f hf
  rw [State.get_set_same _ _ _ _ hcount h32, hwidth]

theorem bit_set_low4 (v : Nat) {k : Nat} (hk : k < 4) : bit ((v ||| 2 ^ k) % 2 ^ 4) k = true := by
  rw [bit, Nat.testBit_mod_two_pow, Nat.testBit_or, Nat.testBit_two_pow_self, decide_eq_true hk, Bool.or_true, Bool.and_true]

section
variable (s : State) (k : Nat) (on : Bool)

theorem edgeShown_level : (edgeShown s k on).get QS_FORCE_level = putBit (s.get QS_FORCE_level) k on % 2 ^ 4 := by
  unfold edgeShown
  dsimp only
  rw [get_set_force (by decide), get_set_bits (by decide)]

theorem edgeShown_edge : (edgeShown s k on).get QS_FORCE_edge = (s.get QS_FORCE_edge ||| 2 ^ k) % 2 ^ 4 := by
  unfold edgeShown
  dsimp only
  rw [get_set_bits (by decide), get_set_force (by decide)]

theorem bit_edgeShown_edge (hk : k < 4) : bit ((edgeShown s k on).get QS_FORCE_edge) k = true := by
  rw [edgeShown_edge, bit_set_low4 _ hk]

theorem bit_edgeShown_level (hk : k < 4) (j : Nat) :
    bit ((edgeShown s k on).get QS_FORCE_level) j = if j = k then on else bit (s.get QS_FORCE_level) j := by
  have hput := bit_putBit (s.get QS_FORCE_level) k j on
  rw [edgeShown_level, bit, Nat.testBit_mod_two_pow, ← hput]
  by_cases hj : j < 4
  · rw [decide_eq_true hj, Bool.true_and]
    rfl
  · have hhigh : bit (s.get QS_FORCE_level) j = false :=
      Nat.testBit_lt_two_pow ((get_lt s QS_FORCE_level 0).trans_le (Nat.pow_le_pow_right (by decide) (Nat.le_of_not_lt hj)))
    rw [decide_eq_false hj, Bool.false_and, hput, if_neg (by omega), hhigh]

/-- What follows an edge in its cycle leaves the registers of the pins. -/
theorem pinSettled_get {f : Fld} (hf : f = QS_FORCE_level ∨ f = QS_FORCE_edge) :
    (s.irqSet 226).settleGroups.get f = s.get f := by
  obtain ⟨hsettle, hirq⟩ : Laws.apart m_settleGroups f = true ∧ Laws.apart m_irqSet f = true := by
    rcases hf with rfl | rfl <;> decide +kernel
  rw [(fr_settleGroups _).get hsettle, (fr_irqSet ..).get hirq]

theorem pinSettled_pins : pins (s.irqSet 226).settleGroups = pins s :=
  (settleGroups_pins _).trans (pins_of_qs ((fr_irqSet ..).qs (by decide)))

end

theorem edgesOf_edgeCounted (s : State) (k : Nat) : edgesOf (edgeCounted s k) k = edgesOf s k + 1 := by
  unfold edgesOf edgeCounted
  dsimp only
  rw [tget_tset, if_pos rfl]
  rfl

theorem edgesOf_of_pins {s t : State} (h : pins t = pins s) (k : Nat) : edgesOf t k = edgesOf s k := by
  unfold edgesOf
  rw [(Prod.mk.inj h).2]

theorem excFld_report : ∀ k < 4, Laws.apart m_report (excFld k) = true := by decide +kernel

section
variable (s : State) (k : Nat) (on : Bool)

/-- A count of edges past the limit leaves the register of the pins. -/
theorem edgeExceeds_get (hk : k < 4) {f : Fld} (hf : f.base = QS_FORCE_level.base ∧ f.stride = 0) :
    (edgeExceeds s k on).get f = s.get f :=
  get_inc_sibling ⟨by unfold excFld; dsimp only; omega, hf.2.symm, hf.1 ▸ (by decide : (0xA004 : Nat) ≠ QS_FORCE_level.base)⟩
    (pinRaw s k on) 0 1

theorem edgeExceeds_exc (hk : k < 4) : (edgeExceeds s k on).get (excFld k) = min (s.get (excFld k) + 1) 255 := by
  have htop : top (excFld k) = 255 := by
    unfold top excFld
    dsimp only
    rw [show 8 * k + 7 + 1 - 8 * k = 8 by omega]
    rfl
  have hinc := get_inc (pinRaw s k on) (excFld k) 0 (by decide : (0 : Nat) < 1) (by unfold excFld; dsimp only; omega)
  rwa [htop] at hinc

theorem pinMasked_get {f : Fld} (hf : QS_FORCE_masked.hi < f.lo ∨ f.hi < QS_FORCE_masked.lo) : (pinMasked s k).get f = s.get f :=
  get_set_bits ⟨by decide, hf⟩ ..

theorem pinMasked_exc : (pinMasked s k).get (excFld k) = s.get (excFld k) := by
  unfold pinMasked
  exact get_set_sibling (f := QS_FORCE_masked) (g := excFld k) ⟨by decide, rfl, (by decide : QS_FORCE_masked.base ≠ 0xA004)⟩ s _ 0

theorem pinMasked_rcd_img_cyc : (pinMasked (edgeExceeds s k on) k).rcd = s.rcd ∧ (pinMasked (edgeExceeds s k on) k).img = s.img ∧
    (pinMasked (edgeExceeds s k on) k).cyc = s.cyc := by
  unfold pinMasked edgeExceeds
  simp only [State.set_rcd, State.set_img, State.set_cyc, State.inc_rcd, State.inc_img, State.inc_cyc]
  exact ⟨rfl, rfl, rfl⟩

theorem bit_pinMasked (hk : k < 4) : bit ((pinMasked s k).get QS_FORCE_masked) k = true := by
  unfold pinMasked
  rw [get_set_force (by decide), bit_set_low4 _ hk]

end

/-- What an edge past the limit leaves in the pins, their registers and the records. -/
structure Exceeded (s t : State) (k : Nat) (on : Bool) : Prop where
  raw : t.qs.raw = putBit s.qs.raw k on
  level : t.get QS_FORCE_level = s.get QS_FORCE_level
  edge : t.get QS_FORCE_edge = s.get QS_FORCE_edge
  masked : bit (t.get QS_FORCE_masked) k = true
  exc : t.get (excFld k) = min (s.get (excFld k) + 1) 255
  noted : bit (s.get QS_FORCE_masked) k = false →
    t.rcd = ((pinMasked (edgeExceeds s k on) k).report kFORCE_RATE [(1, k)]).rcd
  known : bit (s.get QS_FORCE_masked) k = true → t.rcd = s.rcd

section
variable (s : State) {k : Nat} (on : Bool) (hk : k < 4)
include hk

/-- The edge of a pin that is masked. -/
theorem exceeded_known (hmasked : bit (s.get QS_FORCE_masked) k = true) : Exceeded s (edgeExceeds s k on) k on where
  raw := congrArg QsBlock.raw (State.inc_qs ..)
  level := edgeExceeds_get s k on hk (by decide)
  edge := edgeExceeds_get s k on hk (by decide)
  masked := by rw [edgeExceeds_get s k on hk (by decide), hmasked]
  exc := edgeExceeds_exc s k on hk
  noted h := by rw [hmasked] at h; exact absurd h (by decide)
  known _ := State.inc_rcd ..

/-- The edge that masks its pin. -/
theorem exceeded_noted (hmasked : bit (s.get QS_FORCE_masked) k = false) :
    Exceeded s ((pinMasked (edgeExceeds s k on) k).report kFORCE_RATE [(1, k)]) k on where
  raw := by
    rw [(fr_report ..).qs (by decide)]
    unfold pinMasked edgeExceeds
    rw [State.set_qs, State.inc_qs]
    rfl
  level := by
    rw [(fr_report ..).get (by decide +kernel), pinMasked_get _ _ (by decide), edgeExceeds_get s k on hk (by decide)]
  edge := by
    rw [(fr_report ..).get (by decide +kernel), pinMasked_get _ _ (by decide), edgeExceeds_get s k on hk (by decide)]
  masked := by
    rw [(fr_report ..).get (by decide +kernel)]
    exact bit_pinMasked _ k hk
  exc := by
    rw [(fr_report ..).get (excFld_report k hk), pinMasked_exc]
    exact edgeExceeds_exc s k on hk
  noted _ := rfl
  known h := by rw [hmasked] at h; exact absurd h (by decide)

end

theorem effForcePinEdge_leaves {s : State} {k : Nat} {on : Bool} (hk : k < 4) (hlevel : bit s.qs.raw k ≠ on)
    (hfull : 1000 ≤ edgesOf s k) : Exceeded s (effForcePinEdge k on s) k on := by
  rw [effForcePinEdge_exceeded hk hlevel hfull, edgeExceeds_get s k on hk (by decide)]
  split
  · next h => exact exceeded_known s on hk h
  · next h => exact exceeded_noted s on hk (Bool.not_eq_true _ ▸ h)

/-- What an edge that is accepted leaves in the pins and their registers. -/
structure Accepted (s t : State) (k : Nat) (on : Bool) : Prop where
  raw : t.qs.raw = putBit s.qs.raw k on
  edges : edgesOf t k = edgesOf s k + 1
  level : ∀ j, bit (t.get QS_FORCE_level) j = if j = k then on else bit (s.get QS_FORCE_level) j
  edge : bit (t.get QS_FORCE_edge) k = true

theorem effForcePinEdge_takes {s : State} {k : Nat} {on : Bool} (hk : k < 4) (hlevel : bit s.qs.raw k ≠ on)
    (hroom : edgesOf s k < 1000) : Accepted s (effForcePinEdge k on s) k on := by
  have hpins : pins (effForcePinEdge k on s) = pins (edgeCounted (pinRaw s k on) k) := by
    rw [effForcePinEdge_accepted hk hlevel hroom, pinSettled_pins]
    exact pins_of_qs ((State.set_qs ..).trans (State.set_qs ..))
  refine ⟨(Prod.mk.inj hpins).1, (edgesOf_of_pins hpins k).trans (edgesOf_edgeCounted _ k), fun j => ?_, ?_⟩
  · rw [effForcePinEdge_accepted hk hlevel hroom, pinSettled_get _ (.inl rfl)]
    exact bit_edgeShown_level _ k on hk j
  · rw [effForcePinEdge_accepted hk hlevel hroom, pinSettled_get _ (.inr rfl)]
    exact bit_edgeShown_edge _ k on hk

/-- Settles O47: a hold-off that falls due, a wait-to-restore timer that expires, and an edge of a pin within the limit and past it. -/
theorem quicksetTimersAndPins : Obligations.QuicksetTimersAndPins := by
  unfold Obligations.QuicksetTimersAndPins
  refine ⟨fun g k s hrun hdue => ?_, fun g e s he hg hruns halone hdecl hpin hmbx => ?_, fun k on s hk hlevel => ?_⟩
  · have hexec := execHoldoffExpiry_due hrun hdue
    have hframe : Frame m_effHoldoffExpiry s.newCycle _ := frame_of_exec hexec
    have hgrp (h : Nat) : (s.newCycle.setGrp g (fallenDue (s.grp g) k)).grp h = if h = g then fallenDue (s.grp g) k else s.grp h := by
      rw [grp_setGrp, newCycle_grp]
    have hsame := (hgrp g).trans (if_pos rfl)
    refine ⟨_, hexec, ?_, fun j hj => ?_, ?_, fun h hh => (hgrp h).trans (if_neg hh), frame_keep hframe (by decide +kernel),
      hframe.keepRegs (by decide +kernel)⟩
    · rw [hsame, bit_fallenDue hdue, decide_eq_true rfl, Bool.or_true]
    · rw [hsame, bit_fallenDue hdue, decide_eq_false hj, Bool.or_false]
    · rw [hsame]
      rfl
  · obtain rfl := grp_of_entry he
    have heff : effWtrExpiry _ s.newCycle = (timerEnded s.newCycle (e.n PROTECTION_grp)).evalGroup e :=
      effWtrExpiry_runs ((newCycle_entry ..).trans he) ((newCycle_on ..).trans hruns)
    have hexec : exec (.wtrExpiry (e.n PROTECTION_grp)) s = .next ((timerEnded s.newCycle (e.n PROTECTION_grp)).evalGroup e) :=
      congrArg Host.Outcome.next heff
    have hframe : Frame m_effWtrExpiry s.newCycle _ := frame_of_exec hexec
    have hquiet := timerEnded_quiet (s := s.newCycle) hg halone (by rw [newCycle_grp, hdecl]) (by rw [newCycle_pinCode, hpin])
      (by rw [newCycle_get, hmbx])
    refine ⟨_, hexec, hquiet.evalGroup_req hg, ?_, ?_, hquiet.evalGroup_hold, frame_keep hframe (by decide +kernel),
      hframe.keepRegs (by decide +kernel)⟩
    · unfold State.on
      rw [hquiet.evalGroup_timer (by decide), timerEnded_wtr _ hg]
      rfl
    · rw [hquiet.evalGroup_timer (by decide), timerEnded_wtr_left _ hg]
  · have hexec : exec (.forcePinEdge k on) s = .next (effForcePinEdge k on s.newCycle) := rfl
    have hframe : Frame m_effForcePinEdge s.newCycle _ := frame_of_exec hexec
    have hqs := newCycle_qs s
    have hlevel' : bit s.newCycle.qs.raw k ≠ on := hqs ▸ hlevel
    have hedges : edgesOf s.newCycle k = edgesOf s k := edgesOf_of_pins (pins_of_qs hqs) k
    have hraw : (effForcePinEdge k on s.newCycle).qs.raw = putBit s.newCycle.qs.raw k on :=
      (Nat.lt_or_ge (edgesOf s.newCycle k) 1000).elim (fun h => (effForcePinEdge_takes hk hlevel' h).raw)
        fun h => (effForcePinEdge_leaves hk hlevel' h).raw
    refine ⟨_, hexec, ?_, fun hroom => ?_, fun hfull => ?_, frame_keep hframe (by decide +kernel),
      hframe.keepRegs (by decide +kernel)⟩
    · rw [hraw, bit_putBit, if_pos rfl]
    · obtain ⟨-, hcount, hlevels, hlatch⟩ := effForcePinEdge_takes hk hlevel' (hedges.trans_lt hroom)
      refine ⟨(hlevels k).trans (if_pos rfl), hlatch, hcount.trans (congrArg (· + 1) hedges), fun j hj => ?_⟩
      rw [hlevels, if_neg hj, newCycle_get]
    · obtain ⟨-, hlevels, hlatch, hmasked, hexc, hnoted, hknown⟩ := effForcePinEdge_leaves hk hlevel' (hfull.trans_eq hedges.symm)
      rw [newCycle_get] at hlevels hlatch hexc hnoted hknown
      refine ⟨hlevels, hlatch, hmasked, hexc, fun h => ?_, fun h => (hknown h).trans (newCycle_rcd s)⟩
      rw [← payloadOf_single]
      obtain ⟨hrcd, himg, hcyc⟩ := pinMasked_rcd_img_cyc s.newCycle k on
      exact recorded_of_report hrcd himg hcyc (hnoted h)

end Sys2Proof.Protection
end

section
/-!
The mailbox command of a group (R188): FORCE_SWITCH holds one, CLEAR_FORCE removes it.
-/
namespace Sys2Proof.Protection

open Sys2Proof.Machine Sys2Proof.Safety Sys2Proof.Scope Sys2Proof.Architecture Sys2Proof.Framing Sys2Proof.Mapping
  Sys2Proof.Fabric Sys2Proof.Images
open Sys2Proof.Laws hiding maskOf put

/-! ### A mailbox command held -/

/-- A manual switch of the mailbox is the group's newest. -/
def newestHere (s : State) (g c : Nat) : State := if 3 ≤ c then s.setGrp g { s.grp g with msFar := false } else s

/-- A mailbox command in the registers of its group. -/
def mbxShown (s : State) (e : Entry) (c : Nat) : State :=
  ((newestHere s (e.n PROTECTION_grp) c).set QS_GRP_TRIG_mbx_cmd c (e.n PROTECTION_grp)).setB QS_GRP_ST_mbx (c != 0)
    (e.n PROTECTION_grp)

section
variable (s : State) (e : Entry) (c : Nat)

theorem holdMbx_eq : s.holdMbx e c = (mbxShown s e c).evalGroup e := rfl

theorem mbxShown_pins : pins (mbxShown s e c) = pins s := by
  have hnewest : pins (newestHere s (e.n PROTECTION_grp) c) = pins s := by
    unfold newestHere
    split <;> rfl
  unfold mbxShown
  rw [pins_of_qs ((State.setB_qs ..).trans (State.set_qs ..)), hnewest]

theorem holdMbx_raw : (s.holdMbx e c).qs.raw = s.qs.raw :=
  congrArg Prod.fst ((evalGroup_pins ..).trans (mbxShown_pins s e c))

variable {e c} (hg : e.n PROTECTION_grp < 1024) (hc : c ≤ 4)
include hg

theorem holdMbx_mbx : (s.holdMbx e c).on QS_GRP_ST_mbx (e.n PROTECTION_grp) = (c != 0) := by
  rw [holdMbx_eq]
  unfold State.on
  rw [evalGroup_get _ _ (by decide)]
  exact on_setB_group hg (by decide) ..

include hc

theorem mbxShown_cmd : (mbxShown s e c).get QS_GRP_TRIG_mbx_cmd (e.n PROTECTION_grp) = c := by
  unfold mbxShown State.setB
  rw [get_set_sibling (by decide), get_set_group hg (by decide)]
  exact Nat.mod_eq_of_lt (hc.trans_lt (by decide))

theorem holdMbx_cmd : (s.holdMbx e c).get QS_GRP_TRIG_mbx_cmd (e.n PROTECTION_grp) = c := by
  rw [holdMbx_eq, (fr_evalGroup ..).get (by decide +kernel), mbxShown_cmd s hg hc]

end

/-- A lockout held is the request of a group that takes no far-end request. -/
theorem holdMbx_lockout (s : State) {e : Entry} (hg : e.n PROTECTION_grp < 1024) (halone : e.b PROTECTION_bidir = false) :
    (s.holdMbx e 1).get QS_GRP_ST_req (e.n PROTECTION_grp) = 11 := by
  rw [holdMbx_eq, evalGroup_req _ _ hg, requestTaken_lockout halone (mbxShown_cmd s hg (by decide))]
  rfl

/-! ### FORCE_SWITCH and CLEAR_FORCE -/

/-- Whether FORCE_SWITCH holds a command: LO or FS, or a manual switch that the request in force does not outrank. -/
def Holds (s : State) (e : Entry) (c : Nat) : Prop :=
  (1 ≤ c ∧ c ≤ 2) ∨ (3 ≤ c ∧ c ≤ 4 ∧ (s.topRequest e (s.grp (e.n PROTECTION_grp)).hold).1 ≤ 5)

theorem newCycle_topRequest_grp (s : State) (e : Entry) (g : Nat) :
    s.newCycle.topRequest e (s.newCycle.grp g).hold = s.topRequest e (s.grp g).hold := by
  rw [newCycle_grp, newCycle_topRequest]

theorem Holds.newCycle {s : State} {e : Entry} {c : Nat} (h : Holds s e c) : Holds s.newCycle e c := by
  unfold Holds
  rwa [newCycle_topRequest_grp]

theorem Holds.bounds {s : State} {e : Entry} {c : Nat} (h : Holds s e c) : c ≠ 0 ∧ c ≤ 4 := by
  unfold Holds at h
  omega

section
variable {s : State} {e : Entry} {g c : Nat} (he : s.entry PROTECTION_grp g = some e)
include he

theorem cmdForceSwitch_holds (h : Holds s e c) : s.cmdForceSwitch g c = ({}, s.holdMbx e c) := by
  obtain rfl := grp_of_entry he
  unfold State.cmdForceSwitch
  rw [he]
  dsimp only
  rw [if_neg (by have := h.bounds; omega), if_neg (by unfold Holds at h; omega)]

theorem cmdForceSwitch_badCode (h : c = 0 ∨ 4 < c) : s.cmdForceSwitch g c = ({ status := 2 }, s) := by
  unfold State.cmdForceSwitch
  rw [he]
  exact if_pos h

theorem cmdForceSwitch_outranked (hlow : 3 ≤ c) (hhigh : c ≤ 4) (h : 5 < (s.topRequest e (s.grp g).hold).1) :
    s.cmdForceSwitch g c = ({ status := 9 }, s) := by
  unfold State.cmdForceSwitch
  rw [he]
  dsimp only
  rw [if_neg (by omega), if_pos ⟨hlow, h⟩]

theorem cmdClearForce_removes : s.cmdClearForce g = ({}, s.holdMbx e 0) := by
  unfold State.cmdClearForce
  rw [he]

end

section
variable {s : State} {g : Nat} (h : s.entry PROTECTION_grp g = none)
include h

theorem cmdForceSwitch_undefined (c : Nat) : s.cmdForceSwitch g c = ({ status := 8 }, s) := by
  unfold State.cmdForceSwitch
  rw [h]

theorem cmdClearForce_undefined : s.cmdClearForce g = ({ status := 8 }, s) := by
  unfold State.cmdClearForce
  rw [h]

end

theorem execForceSwitch_served {s : State} {n : Nat} {m : List Nat} (h : Served s n 0x0201 m) {r : Reply} {u : State}
    (hcmd : s.newCycle.cmdForceSwitch (msgWord m 1) (msgWord m 2) = (r, u)) :
    exec (.forceSwitch n) s = .next (u.reply n (msgWord m 0) r) := by
  have hserve := serve_answer (served_newCycle h) rfl fun s m => s.cmdForceSwitch (msgWord m 1) (msgWord m 2)
  rw [hcmd] at hserve
  exact congrArg Host.Outcome.next hserve

theorem execClearForce_served {s : State} {n : Nat} {m : List Nat} (h : Served s n 0x0202 m) {r : Reply} {u : State}
    (hcmd : s.newCycle.cmdClearForce (msgWord m 1) = (r, u)) : exec (.clearForce n) s = .next (u.reply n (msgWord m 0) r) := by
  have hserve := serve_answer (served_newCycle h) rfl fun s m => s.cmdClearForce (msgWord m 1)
  rw [hcmd] at hserve
  exact congrArg Host.Outcome.next hserve

/-! ### After the answer -/

/-- What a group and the pins show once a mailbox command is held and its requester answered. -/
structure MbxHeld (s t : State) (g c : Nat) : Prop where
  cmd : t.get QS_GRP_TRIG_mbx_cmd g = c
  mbx : t.on QS_GRP_ST_mbx g = (c != 0)
  raw : t.qs.raw = s.qs.raw

theorem reply_holdMbx (s : State) {e : Entry} (hg : e.n PROTECTION_grp < 1024) {c : Nat} (hc : c ≤ 4) (n hdr : Nat) (r : Reply) :
    MbxHeld s ((s.newCycle.holdMbx e c).reply n hdr r) (e.n PROTECTION_grp) c where
  cmd := ((fr_reply ..).get (by decide +kernel) _).trans (holdMbx_cmd _ hg hc)
  mbx := ((fr_reply ..).on (by decide +kernel) _).trans (holdMbx_mbx _ hg)
  raw := by rw [(fr_reply ..).qs (by decide), holdMbx_raw, newCycle_qs]

/-- Settles O48: a mailbox command held or refused by FORCE_SWITCH, and removed by CLEAR_FORCE. -/
theorem forcedSwitches : Obligations.ForcedSwitches := by
  unfold Obligations.ForcedSwitches
  refine ⟨fun n m e s hserved he hg => ⟨fun hholds => ?_, fun hcode => ?_, fun hlow hhigh hout => ?_⟩, fun n m s hserved hnone => ?_,
    fun n m e s hserved he hg => ?_, fun n m s hserved hnone => ?_⟩
  · have he' := (newCycle_entry ..).trans he
    have hgrp := grp_of_entry he
    rw [← hgrp] at hg
    have hholds' : Holds s e (msgWord m 2) := by
      unfold Holds
      rwa [hgrp]
    have hexec := execForceSwitch_served hserved (cmdForceSwitch_holds he' hholds'.newCycle)
    have hframe : Frame m_effForceSwitch s.newCycle _ := frame_of_exec hexec
    obtain ⟨hcmd, hmbx, hraw⟩ := reply_holdMbx s hg hholds'.bounds.2 n (msgWord m 0) {}
    rw [hgrp] at hcmd hmbx
    refine ⟨_, _, hexec, rfl, hcmd, hmbx.trans (bne_iff_ne.2 hholds'.bounds.1), fun hlo halone => ?_, hraw,
      frame_keep hframe (by decide +kernel), hframe.keepRegs (by decide +kernel)⟩
    rw [(fr_reply ..).get (by decide +kernel), hlo, ← hgrp]
    exact holdMbx_lockout _ hg halone
  · exact ⟨_, _, execForceSwitch_served hserved (cmdForceSwitch_badCode ((newCycle_entry ..).trans he) hcode), rfl, rfl⟩
  · have hout' := (newCycle_topRequest_grp s e (msgWord m 1)).symm ▸ hout
    exact ⟨_, _, execForceSwitch_served hserved (cmdForceSwitch_outranked ((newCycle_entry ..).trans he) hlow hhigh hout'), rfl, rfl⟩
  · exact ⟨_, _, execForceSwitch_served hserved (cmdForceSwitch_undefined ((newCycle_entry ..).trans hnone) _), rfl, rfl⟩
  · have hgrp := grp_of_entry he
    rw [← hgrp] at hg
    have hexec := execClearForce_served hserved (cmdClearForce_removes ((newCycle_entry ..).trans he))
    have hframe : Frame m_effClearForce s.newCycle _ := frame_of_exec hexec
    obtain ⟨hcmd, hmbx, hraw⟩ := reply_holdMbx s hg (Nat.zero_le 4) n (msgWord m 0) {}
    rw [hgrp] at hcmd hmbx
    exact ⟨_, _, hexec, rfl, hcmd, hmbx, hraw, frame_keep hframe (by decide +kernel), hframe.keepRegs (by decide +kernel)⟩
  · exact ⟨_, _, execClearForce_served hserved (cmdClearForce_undefined ((newCycle_entry ..).trans hnone)), rfl, rfl⟩

end Sys2Proof.Protection
end

section
/-!
The APS of a group (R194, R196): a value accepted on its third identical frame, and the failures of protocol.
-/
namespace Sys2Proof.Protection

open Sys2Proof.Machine Sys2Proof.Safety Sys2Proof.Scope Sys2Proof.Architecture Sys2Proof.Framing Sys2Proof.Mapping
  Sys2Proof.Fabric Sys2Proof.Images
open Sys2Proof.Laws hiding maskOf put

/-! ### A frame counted -/

/-- The three bytes of an APS frame. -/
def apsBytes (b1 b2 b3 : Nat) : List Byte := [BitVec.ofNat 8 b1, BitVec.ofNat 8 b2, BitVec.ofNat 8 b3]

/-- The value last received and its run. -/
def apsNoted (s : State) (g : Nat) (v : List Byte) (run : Nat) : State :=
  s.setGrp g { s.grp g with apsCand := v, apsRun := run }

theorem apsNoted_grp (s : State) (g : Nat) (v : List Byte) (run : Nat) :
    (apsNoted s g v run).grp g = { s.grp g with apsCand := v, apsRun := run } := by
  unfold apsNoted
  rw [grp_setGrp, if_pos rfl]

/-- A group with APS whose protecting context has no aTSF. -/
structure HearsAps (s : State) (g : Nat) (e : Entry) : Prop where
  entry : s.entry PROTECTION_grp g = some e
  aps : e.b PROTECTION_aps = true
  clear : s.on FRM_DEF_tsf (e.n PROTECTION_p_ctx) = false

theorem HearsAps.newCycle {s : State} {g : Nat} {e : Entry} (h : HearsAps s g e) : HearsAps s.newCycle g e where
  entry := (newCycle_entry ..).trans h.entry
  aps := h.aps
  clear := (newCycle_on ..).trans h.clear

section
variable {s : State} {g : Nat} {e : Entry} (h : HearsAps s g e) {b1 b2 b3 : Nat}
include h

/-- A frame of such a group: its run, and what its third identical one gives. -/
theorem HearsAps.received {run : Nat}
    (hrun : (if (s.grp g).apsCand = apsBytes b1 b2 b3 then min ((s.grp g).apsRun + 1) 3 else 1) = run) :
    effApsReceived g b1 b2 b3 s =
      if run < 3 ∨ ((s.grp g).apsCand = apsBytes b1 b2 b3 ∧ 3 ≤ (s.grp g).apsRun) then apsNoted s g (apsBytes b1 b2 b3) run
      else match apsCode (b1 / 16 % 16) (b2 % 256) with
        | none => (apsNoted s g (apsBytes b1 b2 b3) run).inc QS_GRP_CNT_aps_bad g
        | some code => (apsNoted s g (apsBytes b1 b2 b3) run).apsTake e (b1 % 256) (b2 % 256) (b3 % 256) code := by
  subst hrun
  unfold effApsReceived
  rw [h.entry]
  dsimp only
  rw [h.aps, h.clear]
  rfl

theorem HearsAps.early (hearly : (s.grp g).apsCand ≠ apsBytes b1 b2 b3 ∨ (s.grp g).apsRun < 2) :
    ∃ run, effApsReceived g b1 b2 b3 s = apsNoted s g (apsBytes b1 b2 b3) run := by
  refine ⟨_, (h.received rfl).trans (if_pos (.inl ?_))⟩
  split
  · next hsame =>
    have hshort := hearly.resolve_left (not_not.2 hsame)
    omega
  · decide

theorem HearsAps.third (hcand : (s.grp g).apsCand = apsBytes b1 b2 b3) (hrun : (s.grp g).apsRun = 2) :
    effApsReceived g b1 b2 b3 s = match apsCode (b1 / 16 % 16) (b2 % 256) with
      | none => (apsNoted s g (apsBytes b1 b2 b3) 3).inc QS_GRP_CNT_aps_bad g
      | some code => (apsNoted s g (apsBytes b1 b2 b3) 3).apsTake e (b1 % 256) (b2 % 256) (b3 % 256) code := by
  rw [h.received (run := 3) (by rw [if_pos hcand, hrun]; rfl), if_neg (by omega)]

end

/-! ### The accepted value -/

/-- The accepted value of a group, and whether the far end's manual switch is the newest. -/
def apsAccepted (s : State) (e : Entry) (b1 b2 b3 code : Nat) : State :=
  let g := e.n PROTECTION_grp
  s.setGrp g { s.grp g with
    apsAcc := some (b1, b2, b3), msFar := (s.grp g).msFar || (prio code == 5 && s.get QS_GRP_ST_fe_req g != code) }

/-- The accepted value in the registers. -/
def apsShown (s : State) (e : Entry) (b1 b2 b3 code : Nat) : State :=
  let g := e.n PROTECTION_grp
  (((apsAccepted s e b1 b2 b3 code).set QS_GRP_APS_rx_req b1 g).set QS_GRP_APS_rx_br b3 g).set QS_GRP_ST_fe_req code g

/-- The A, B and D bits of the first APS byte that a group sends (Table 7-5). -/
theorem apsSent_bits (s : State) (e : Entry) :
    (s.apsSent e).getD 0 0 / 2 % 8 = 4 + 2 * b2n (e.b PROTECTION_type) + b2n (e.b PROTECTION_bidir) := by
  have hb2n : ∀ b, b2n b ≤ 1 := by decide
  have htype := hb2n (e.b PROTECTION_type)
  have hbidir := hb2n (e.b PROTECTION_bidir)
  have hrevert := hb2n (e.b PROTECTION_revert)
  unfold State.apsSent
  simp only [List.getD_cons_zero]
  omega

/-- What a group shows of an accepted value. -/
structure ApsTaken (t : State) (e : Entry) (b1 b2 b3 code : Nat) : Prop where
  acc : (t.grp (e.n PROTECTION_grp)).apsAcc = some (b1, b2, b3)
  rx_req : t.get QS_GRP_APS_rx_req (e.n PROTECTION_grp) = b1 % 2 ^ 8
  rx_br : t.get QS_GRP_APS_rx_br (e.n PROTECTION_grp) = b3 % 2 ^ 8
  fe_req : t.get QS_GRP_ST_fe_req (e.n PROTECTION_grp) = code % 2 ^ 4
  fop_pm : t.on QS_GRP_ST_fop_pm (e.n PROTECTION_grp) =
    (b1 / 2 % 8 != 4 + 2 * b2n (e.b PROTECTION_type) + b2n (e.b PROTECTION_bidir))

section
variable (s : State) (e : Entry) (b1 b2 b3 code : Nat)

theorem apsTake_eq : s.apsTake e b1 b2 b3 code = ((apsShown s e b1 b2 b3 code).setFop (e.n PROTECTION_grp) true
    (b1 / 2 % 8 != ((apsShown s e b1 b2 b3 code).apsSent e).getD 0 0 / 2 % 8)).evalGroup e := rfl

theorem apsShown_acc : ((apsShown s e b1 b2 b3 code).grp (e.n PROTECTION_grp)).apsAcc = some (b1, b2, b3) := by
  have hqs : (apsShown s e b1 b2 b3 code).qs = (apsAccepted s e b1 b2 b3 code).qs := by
    unfold apsShown
    simp only [State.set_qs]
  rw [grp_of_qs hqs]
  unfold apsAccepted
  dsimp only
  rw [grp_setGrp, if_pos rfl]

theorem apsTake_taken (hg : e.n PROTECTION_grp < 1024) : ApsTaken (s.apsTake e b1 b2 b3 code) e b1 b2 b3 code where
  acc := by
    rw [apsTake_eq, evalGroup_grp]
    unfold grpEvaluated
    dsimp only
    rw [grp_of_qs (setFop_qs ..), apsShown_acc]
  rx_req := by
    rw [apsTake_eq, (fr_evalGroup ..).get (by decide +kernel), (fr_setFop ..).get (by decide +kernel)]
    unfold apsShown
    dsimp only
    rw [get_set_sibling (by decide), get_set_bits (by decide)]
    exact get_set_group hg (by decide) ..
  rx_br := by
    rw [apsTake_eq, (fr_evalGroup ..).get (by decide +kernel), (fr_setFop ..).get (by decide +kernel)]
    unfold apsShown
    dsimp only
    rw [get_set_sibling (by decide)]
    exact get_set_group hg (by decide) ..
  fe_req := by
    rw [apsTake_eq, evalGroup_get _ _ (by decide), setFop_get _ _ _ _ (by decide +kernel) (by decide)]
    exact get_set_group hg (by decide) ..
  fop_pm := by
    rw [apsTake_eq, apsSent_bits]
    unfold State.on
    rw [evalGroup_get _ _ (by decide)]
    exact setFop_on _ _ true _ hg

end

/-! ### FOP_NR_DECLARE (R196) -/

theorem newCycle_apsSent (s : State) (e : Entry) : s.newCycle.apsSent e = s.apsSent e := by
  unfold State.apsSent
  dsimp only
  rw [newCycle_get, newCycle_grp, newCycle_on]

theorem newCycle_bridgeDiffers (s : State) (e : Entry) : s.newCycle.bridgeDiffers e = s.bridgeDiffers e := by
  unfold State.bridgeDiffers
  rw [newCycle_grp, newCycle_apsSent]

theorem effFopNrDeclare_differs {s : State} {g : Nat} {e : Entry} (he : s.entry PROTECTION_grp g = some e)
    (haps : e.b PROTECTION_aps = true) (hkind : e.b PROTECTION_bidir = true ∨ e.b PROTECTION_type = true)
    (hdiffers : s.bridgeDiffers e = true) : effFopNrDeclare g s = s.setFop g false true := by
  unfold effFopNrDeclare
  rw [he]
  refine if_pos ?_
  rw [haps, hdiffers, Bool.or_eq_true_iff.2 hkind]
  rfl

theorem payloadOf_triple (n₁ v₁ n₂ v₂ n₃ v₃ : Nat) :
    payloadOf [(n₁, v₁), (n₂, v₂), (n₃, v₃)] = leBytes n₁ v₁ ++ leBytes n₂ v₂ ++ leBytes n₃ v₃ := by
  simp [payloadOf]

/-- A failure of protocol that begins is recorded. -/
theorem setFop_entered {s : State} {g : Nat} {pm : Bool} (h : s.on (fopFld pm) g = false) :
    s.setFop g pm true = (s.setB (fopFld pm) true g).report kAPS_FAIL [(2, g), (1, b2n pm), (1, 1)] := by
  rw [setFop_eq, h]
  rfl

/-! ### APS_RECEIVED (R194) -/

section
variable {s : State} {g : Nat} {e : Entry} (h : HearsAps s g e) (hg : g < 1024) {b1 b2 b3 : Nat}
  (hcand : (s.grp g).apsCand = apsBytes b1 b2 b3) (hrun : (s.grp g).apsRun = 2)
include h hg hcand hrun

theorem HearsAps.takes {code : Nat} (hcode : apsCode (b1 / 16 % 16) (b2 % 256) = some code) :
    ApsTaken (effApsReceived g b1 b2 b3 s) e (b1 % 256) (b2 % 256) (b3 % 256) code := by
  obtain rfl := grp_of_entry h.entry
  rw [h.third hcand hrun, hcode]
  exact apsTake_taken _ e _ _ _ code hg

/-- A code that is not listed is counted and leaves the accepted value. -/
theorem HearsAps.counts (hcode : apsCode (b1 / 16 % 16) (b2 % 256) = none) :
    ((effApsReceived g b1 b2 b3 s).grp g).apsAcc = (s.grp g).apsAcc ∧
      (effApsReceived g b1 b2 b3 s).get QS_GRP_CNT_aps_bad g =
        min (s.get QS_GRP_CNT_aps_bad g + 1) (top QS_GRP_CNT_aps_bad) := by
  rw [h.third hcand hrun, hcode]
  dsimp only
  refine ⟨?_, get_inc _ _ _ hg (by decide)⟩
  rw [grp_of_qs (State.inc_qs ..), apsNoted_grp]

end

/-- Settles O49: a third identical frame accepted or counted, an earlier one held, and a bridge that differs for 50 ms. -/
theorem apsValues : Obligations.ApsValues := by
  unfold Obligations.ApsValues
  refine ⟨fun g b1 b2 b3 e v s he hg haps hclear hv => ?_, fun g e s he hg haps hkind hdiffers => ?_⟩
  · have h := (HearsAps.mk he haps hclear).newCycle
    have hexec : exec (.apsReceived g b1 b2 b3) s = .next (effApsReceived g b1 b2 b3 s.newCycle) := rfl
    have hframe : Frame m_effApsReceived s.newCycle _ := frame_of_exec hexec
    obtain rfl : v = apsBytes b1 b2 b3 := hv
    rw [← newCycle_grp s g]
    refine ⟨fun hcand hrun => ⟨fun code hcode => ?_, fun hcode => ?_⟩, fun hearly => ?_⟩
    · obtain rfl := grp_of_entry he
      obtain ⟨hacc, hreq, hbr, hfe, hfop⟩ := h.takes hg hcand hrun hcode
      have hbits : b1 % 256 / 2 % 8 = b1 / 2 % 8 := by omega
      rw [hbits] at hfop
      exact ⟨_, hexec, hacc, hreq.trans (Nat.mod_mod ..), hbr.trans (Nat.mod_mod ..), hfe, hfop.trans (by rw [bne, decide_not, beq_eq_decide]),
        frame_keep hframe (by decide +kernel), hframe.keepRegs (by decide +kernel)⟩
    · obtain ⟨hacc, hbad⟩ := h.counts hg hcand hrun hcode
      exact ⟨_, hexec, hacc, hbad.trans (by rw [newCycle_get]), frame_keep hframe (by decide +kernel),
        hframe.keepRegs (by decide +kernel)⟩
    · obtain ⟨run, hnoted⟩ := h.early hearly
      rw [hnoted] at hexec
      exact ⟨_, hexec, by rw [apsNoted_grp], by rw [apsNoted_grp], newCycle_regs s, newCycle_rcd s⟩
  · have heff := effFopNrDeclare_differs ((newCycle_entry ..).trans he) haps hkind ((newCycle_bridgeDiffers s e).trans hdiffers)
    have hexec : exec (.fopNrDeclare g) s = .next (effFopNrDeclare g s.newCycle) := rfl
    have hframe : Frame m_effFopNrDeclare s.newCycle _ := frame_of_exec hexec
    refine ⟨_, hexec, ?_, fun hnew => ?_, frame_keep hframe (by decide +kernel), hframe.keepRegs (by decide +kernel)⟩
    · rw [heff]
      exact setFop_on _ g false true hg
    · rw [← payloadOf_triple]
      rw [← newCycle_on] at hnew
      exact recorded_of_report (State.setB_rcd ..) (State.setB_img ..) (State.setB_cyc ..)
        (congrArg State.rcd (heff.trans (setFop_entered (pm := false) hnew)))

end Sys2Proof.Protection
end

section
/-!
A merge of the evergreen engine: its entry, its copies, what a settling leaves of it (R219, R223), and its registers.
-/
namespace Sys2Proof.Evergreen

open Sys2Proof.Machine Sys2Proof.Safety Sys2Proof.Scope Sys2Proof.Architecture Sys2Proof.Framing Sys2Proof.Mapping
  Sys2Proof.Fabric Sys2Proof.Images Sys2Proof.Protection
open Sys2Proof.Laws hiding maskOf put

/-! ### The entry and the state of a merge -/

/-- The entry of a merge names it. -/
theorem merge_of_entry {s : State} {i : Nat} {e : Entry} (h : s.entry EVERGREEN_merge i = some e) :
    e.n EVERGREEN_merge = i := by
  have hfound := List.find?_some h
  simp only [Bool.and_eq_true, beq_iff_eq] at hfound
  exact hfound.2

theorem newCycle_evg (s : State) : s.newCycle.evg = s.evg := (fr_newCycle s).evg (by decide)

theorem evgMerge_of_evg {s t : State} (h : t.evg = s.evg) (i : Nat) : t.evgMerge i = s.evgMerge i := by
  unfold State.evgMerge
  rw [h]

theorem newCycle_evgMerge (s : State) (i : Nat) : s.newCycle.evgMerge i = s.evgMerge i := evgMerge_of_evg (newCycle_evg s) i

theorem evgMerge_setEvgMerge (s : State) (i : Nat) (m : EvgMerge) : (s.setEvgMerge i m).evgMerge i = m := tget_tset_same ..

@[simp] theorem setEvgMerge_get (s : State) (i : Nat) (m : EvgMerge) (f : Fld) (n : Nat) :
    (s.setEvgMerge i m).get f n = s.get f n := rfl

theorem newCycle_middleSlots (s : State) (e : Entry) : s.newCycle.middleSlots e = s.middleSlots e := by
  unfold State.middleSlots
  rw [newCycle_ddrUp, newCycle_evg]

/-! ### The copies of a merge -/

section
variable (m : EvgMerge) (b : Bool) (c : EvgCopy)

@[simp] theorem copy_setCopy_same : (m.setCopy b c).copy b = c := by cases b <;> rfl

end

/-- A merge without its copies: its queue, and what it has played. -/
def queueOf (m : EvgMerge) : EvgMerge := { m with a := {}, b := {} }

@[simp] theorem queueOf_setCopy (m : EvgMerge) (b : Bool) (c : EvgCopy) : queueOf (m.setCopy b c) = queueOf m := by
  cases b <;> rfl

section
variable {m n : EvgMerge} (h : queueOf n = queueOf m)
include h

theorem held_of_queue : n.held = m.held := by
  exact (congrArg EvgMerge.held h :)

theorem last_of_queue : n.last = m.last := by
  exact (congrArg EvgMerge.last h :)

theorem lastP_of_queue : n.lastP = m.lastP := by
  exact (congrArg EvgMerge.lastP h :)

theorem out_of_queue : n.out = m.out := by
  exact (congrArg EvgMerge.out h :)

theorem anchored_of_queue : n.anchored = m.anchored := by
  exact (congrArg EvgMerge.anchored h :)

theorem behind_of_queue (seq idx : Nat) : n.behind seq idx = m.behind seq idx := by
  exact (congrArg (EvgMerge.behind · seq idx) h :)

theorem inWindow_of_queue (seq : Nat) : n.inWindow seq = m.inWindow seq := by
  exact (congrArg (EvgMerge.inWindow · seq) h :)

theorem instOf_of_queue (b : Bool) (seq idx : Nat) : n.instOf b seq idx = m.instOf b seq idx := by
  exact (congrArg (EvgMerge.instOf · b seq idx) h :)

theorem place_of_queue (e : Entry) (cap : Nat) (x : EvgHeld) : n.place e cap x = m.place e cap x := by
  exact (congrArg (EvgMerge.place · e cap x) h :)

end

/-! ### The signals of the copies (R219, R231) -/

/-- A mask leaves out all that the signals of the copies follow: the sections, the mate, its lanes and the signal fails. -/
def keepsCopies (w : Nat) : Bool :=
  !w.testBit 2 && Laws.apart w MATE_ST_lost && Laws.apart w LN_STATE_state && Laws.apart w FRM_DEF_tsf

section
variable {w : Nat} {s t : State} (h : Frame w s t) (hw : keepsCopies w = true)
include h hw

theorem copyDown_of_frame (e : Entry) (b : Bool) : t.copyDown e b = s.copyDown e b := by
  simp only [keepsCopies, Bool.and_eq_true, Bool.not_eq_true'] at hw
  obtain ⟨⟨⟨himg, hlost⟩, hlane⟩, htsf⟩ := hw
  unfold State.copyDown State.mateFail State.mateEntry State.entry
  simp only [h.img himg, h.on hlost, h.on htsf, h.get hlane]

theorem copyState_of_frame (e : Entry) (m : EvgMerge) (b : Bool) : t.copyState e m b = s.copyState e m b := by
  unfold State.copyState
  rw [copyDown_of_frame h hw]

theorem settledCopies_of_frame (e : Entry) (m : EvgMerge) : settledCopies t e m = settledCopies s e m := by
  unfold settledCopies State.settleCopy
  simp only [copyDown_of_frame h hw, copyState_of_frame h hw]

end

theorem newCycle_copyDown (s : State) (e : Entry) (b : Bool) : s.newCycle.copyDown e b = s.copyDown e b :=
  copyDown_of_frame (fr_newCycle s) (by decide +kernel) e b

theorem newCycle_copyState (s : State) (e : Entry) (m : EvgMerge) (b : Bool) :
    s.newCycle.copyState e m b = s.copyState e m b := copyState_of_frame (fr_newCycle s) (by decide +kernel) e m b

/-- The state of a copy in the merge as it stands. -/
theorem newCycle_stateOf (s : State) (e : Entry) (i : Nat) (b : Bool) :
    s.newCycle.copyState e (s.newCycle.evgMerge i) b = s.copyState e (s.evgMerge i) b := by
  rw [newCycle_copyState, newCycle_evgMerge]

theorem newCycle_settledCopies (s : State) (e : Entry) (m : EvgMerge) :
    settledCopies s.newCycle e m = settledCopies s e m := settledCopies_of_frame (fr_newCycle s) (by decide +kernel) e m

/-! ### The settling of a merge -/

/-- A copy of a merge as its signal leaves it. -/
def settledCopy (s : State) (e : Entry) (m : EvgMerge) (b : Bool) : EvgCopy :=
  let c := if s.copyDown e b then { m.copy b with align := {}, inFrame := false, outRun := 0 } else m.copy b
  if s.copyState e m b == 2 then c else { c with dmax := false }

section
variable (s : State) (e : Entry) (m : EvgMerge) (b : Bool)

theorem settledCopies_copy : (settledCopies s e m).copy b = settledCopy s e m b := by cases b <;> rfl

@[simp] theorem queueOf_settledCopies : queueOf (settledCopies s e m) = queueOf m := rfl

theorem settledCopy_off : (settledCopy s e m b).off = (m.copy b).off := by
  unfold settledCopy
  dsimp only
  split_ifs <;> rfl

/-- The settling of one copy does not read the other. -/
theorem settledCopy_setCopy_not (c : EvgCopy) : settledCopy s e (m.setCopy b c) (!b) = settledCopy s e m (!b) := by
  cases b <;> rfl

variable {s e b} in
theorem settledCopy_align (hup : s.copyDown e b = false) : (settledCopy s e m b).align = (m.copy b).align ∧
    (settledCopy s e m b).inFrame = (m.copy b).inFrame := by
  unfold settledCopy
  simp only [hup, Bool.false_eq_true, if_false]
  split_ifs <;> exact ⟨rfl, rfl⟩

theorem showMerge_evg : (s.showMerge e).evg = s.evg := (fr_showMerge s e).evg (by decide)

theorem settleMerge_evgMerge {i : Nat} (hi : e.n EVERGREEN_merge = i) :
    (s.settleMerge e).evgMerge i = settledCopies s e (s.evgMerge i) := by
  subst hi
  unfold State.settleMerge
  dsimp only
  rw [evgMerge_of_evg (showMerge_evg ..), evgMerge_setEvgMerge]
  rfl

end

/-- A merge set and settled, as the state in which the command began leaves its copies. -/
theorem evgMerge_settled {w : Nat} {s u : State} (hframe : Frame w s.newCycle u) (hw : keepsCopies w = true) {e : Entry} {i : Nat}
    (hi : e.n EVERGREEN_merge = i) : (u.settleMerge e).evgMerge i = settledCopies s e (u.evgMerge i) := by
  rw [settleMerge_evgMerge _ _ hi, settledCopies_of_frame hframe hw, newCycle_settledCopies]

/-- A merge set and settled holds what it was given, but for the copies. -/
theorem evgMerge_set_settled (u : State) {e : Entry} {i : Nat} (hi : e.n EVERGREEN_merge = i) (m : EvgMerge) :
    queueOf (((u.setEvgMerge i m).settleMerge e).evgMerge i) = queueOf m := by
  rw [settleMerge_evgMerge _ _ hi, queueOf_settledCopies, evgMerge_setEvgMerge]

/-- A record that a command writes once it has set a merge. -/
theorem recorded_of_setEvgMerge {s t : State} {i : Nat} {m : EvgMerge} {k : RecKind} {fields : List (Nat × Nat)}
    (ht : t.rcd = ((s.newCycle.setEvgMerge i m).report k fields).rcd) : Recorded s t k (payloadOf fields) :=
  recorded_of_report (u := s.newCycle.setEvgMerge i m) rfl rfl rfl ht

/-! ### The registers of a merge -/

/-- Two fields share no bit, read with the same index. -/
def disjoint (f g : Fld) : Bool :=
  decide (f.hi < 32) && ((f.stride == g.stride && f.base != g.base) || decide (f.hi < g.lo) || decide (g.hi < f.lo))

/-- Two fields whose registers share no key, one of them being in a single register below all of the other's. -/
def distant (f g : Fld) : Bool :=
  decide (f.hi < 32) && ((f.stride == 0 && decide (f.base < g.base)) || (g.stride == 0 && decide (g.base < f.base)))

section
variable {f g : Fld} (s : State)

theorem get_set_disjoint (h : disjoint f g = true) (v n : Nat) : (s.set f v n).get g n = s.get g n := by
  simp only [disjoint, Bool.and_eq_true, Bool.or_eq_true, decide_eq_true_eq, beq_iff_eq, bne_iff_ne] at h
  obtain ⟨h32, (⟨hstride, hbase⟩ | hbits) | hbits⟩ := h
  · exact get_set_sibling ⟨h32, hstride, hbase⟩ ..
  · exact get_set_bits ⟨h32, .inl hbits⟩ ..
  · exact get_set_bits ⟨h32, .inr hbits⟩ ..

theorem get_set_distant (h : distant f g = true) (v n k : Nat) : (s.set f v n).get g k = s.get g k := by
  simp only [distant, Bool.and_eq_true, Bool.or_eq_true, decide_eq_true_eq, beq_iff_eq] at h
  obtain ⟨h32, hkeys⟩ := h
  refine State.get_set_apart s f g v n k h32 (.inl ?_)
  unfold Fld.key
  rcases hkeys with ⟨hstride, hbase⟩ | ⟨hstride, hbase⟩ <;> rw [hstride] <;> omega

theorem get_inc_disjoint (h : disjoint f g = true) (n : Nat) : (s.inc f n).get g n = s.get g n := get_set_disjoint s h ..

theorem get_incW_disjoint (h : disjoint f g = true) (n : Nat) : (s.incW f n).get g n = s.get g n := get_set_disjoint s h ..

theorem get_setB_disjoint (h : disjoint f g = true) (c : Bool) (n : Nat) : (s.setB f c n).get g n = s.get g n :=
  get_set_disjoint s h ..

theorem get_inc_distant (h : distant f g = true) (n k : Nat) : (s.inc f n).get g k = s.get g k := get_set_distant s h ..

theorem irqSet_get (src : Nat) (n : Nat) : (s.irqSet src).get g n = s.get g n := by
  unfold State.get State.reg
  rw [irqSet_regs]

/-- A counter that wraps counts one, modulo its width (R10). -/
theorem get_incW {n : Nat} (hn : n < f.count) (h32 : f.hi < 32) :
    (s.incW f n).get f n = (s.get f n + 1) % 2 ^ (f.hi + 1 - f.lo) := State.get_set_same s f _ n hn h32

end

/-- The fields that show a merge. -/
def mergeFlds : List Fld :=
  [EVG_M_ST_mstate, EVG_M_ST_state_a, EVG_M_ST_state_b, EVG_M_OFF_A_valid, EVG_M_OFF_A_off, EVG_M_OFF_B_valid, EVG_M_OFF_B_off,
   EVG_M_QFILL_head, EVG_M_QFILL_tail, EVG_M_QFILL_middle]

/-- The state of a merge that is acquiring, in protection, on one copy or without any (R219). -/
def mergeState (anchored : Bool) (a b : Nat) : Nat :=
  if !anchored then 0 else if a = 3 ∧ b = 3 then 1 else if a = 3 ∨ b = 3 then 2 else 3

/-- A merge in its registers, with its state and those of its copies (Table 8-4). -/
def mergeShown (s : State) (i st a b : Nat) (m : EvgMerge) : State :=
  let s := ((s.set EVG_M_ST_mstate st i).set EVG_M_ST_state_a a i).set EVG_M_ST_state_b b i
  let s := (s.setB EVG_M_OFF_A_valid m.a.off.isSome i).set EVG_M_OFF_A_off (unsignedOf 26 (m.a.off.getD 0)) i
  let s := (s.setB EVG_M_OFF_B_valid m.b.off.isSome i).set EVG_M_OFF_B_off (unsignedOf 26 (m.b.off.getD 0)) i
  ((s.set EVG_M_QFILL_head (inPart 2 m.held) i).set EVG_M_QFILL_tail (inPart 0 m.held) i).set
    EVG_M_QFILL_middle (inPart 1 m.held) i

section
variable (s : State) (i st a b : Nat) (m : EvgMerge)

theorem mergeShown_get {f : Fld} (hf : (mergeFlds.all (disjoint · f)) = true) :
    (mergeShown s i st a b m).get f i = s.get f i := by
  simp only [mergeFlds, List.all_cons, List.all_nil, Bool.and_true, Bool.and_eq_true] at hf
  obtain ⟨hst, ha, hb, hva, hoa, hvb, hob, hhead, htail, hmiddle⟩ := hf
  unfold mergeShown
  dsimp only
  rw [get_set_disjoint _ hmiddle, get_set_disjoint _ htail, get_set_disjoint _ hhead, get_set_disjoint _ hob,
    get_setB_disjoint _ hvb, get_set_disjoint _ hoa, get_setB_disjoint _ hva, get_set_disjoint _ hb, get_set_disjoint _ ha,
    get_set_disjoint _ hst]

theorem mergeShown_mstate (hi : i < 4096) : (mergeShown s i st a b m).get EVG_M_ST_mstate i = st % 2 ^ 2 := by
  unfold mergeShown
  dsimp only
  simp (disch := decide) only [get_set_disjoint, get_setB_disjoint]
  exact State.get_set_same _ _ _ _ hi (by decide)

end

theorem showMerge_eq (s : State) (e : Entry) :
    let i := e.n EVERGREEN_merge
    let m := s.evgMerge i
    let a := s.copyState e m false
    let b := s.copyState e m true
    s.showMerge e = if mergeState m.anchored a b = s.get EVG_M_ST_mstate i then mergeShown s i (mergeState m.anchored a b) a b m
      else (mergeShown s i (mergeState m.anchored a b) a b m).irqSet 256 := rfl

section
variable (s : State) {e : Entry} {i : Nat} (hi : e.n EVERGREEN_merge = i)
include hi

theorem showMerge_get (f : Fld) (n : Nat) : (s.showMerge e).get f n =
    (mergeShown s i (mergeState (s.evgMerge i).anchored (s.copyState e (s.evgMerge i) false)
      (s.copyState e (s.evgMerge i) true)) (s.copyState e (s.evgMerge i) false) (s.copyState e (s.evgMerge i) true)
      (s.evgMerge i)).get f n := by
  subst hi
  refine (congrArg (State.get · f n) (showMerge_eq s e)).trans ?_
  split
  · rfl
  · exact irqSet_get _ _ _

/-- The settling of a merge leaves its other fields. -/
theorem settleMerge_get {f : Fld} (hf : (mergeFlds.all (disjoint · f)) = true) : (s.settleMerge e).get f i = s.get f i := by
  unfold State.settleMerge
  dsimp only
  rw [showMerge_get _ hi, mergeShown_get _ _ _ _ _ _ hf, setEvgMerge_get]

/-- A merge that is not anchored shows state 0. -/
theorem settleMerge_mstate (hlt : i < 4096) (h : (s.evgMerge i).anchored = false) :
    (s.settleMerge e).get EVG_M_ST_mstate i = 0 := by
  subst hi
  unfold State.settleMerge
  dsimp only
  rw [showMerge_get _ rfl, mergeShown_mstate _ _ _ _ _ _ hlt, evgMerge_setEvgMerge]
  exact congrArg (fun x => mergeState x _ _ % 2 ^ 2) h

end

end Sys2Proof.Evergreen
end

section
/-!
The anchoring of a merge (R223), its re-anchoring, and the flush of its queue (R230).
-/
namespace Sys2Proof.Evergreen

open Sys2Proof.Machine Sys2Proof.Safety Sys2Proof.Scope Sys2Proof.Architecture Sys2Proof.Framing Sys2Proof.Mapping
  Sys2Proof.Fabric Sys2Proof.Images Sys2Proof.Protection
open Sys2Proof.Laws hiding maskOf put

theorem marginOf_eq (e : Entry) : marginOf e = 128 * (e.n EVERGREEN_m_margin : Int) := by
  unfold marginOf
  push_cast
  ring

/-! ### Anchoring -/

/-- The head takes frames as they are, and marks them as its own. -/
theorem mem_fillHead {lim : Int} {x : EvgHeld} : ∀ {l : List EvgHeld} {n : Nat}, x ∈ fillHead lim n l →
    ∃ y ∈ l, x = y ∨ x = { y with part := 2 }
  | [], n, h => by
    cases n <;> cases h
  | y :: l, 0, h => ⟨x, h, .inl rfl⟩
  | y :: l, n + 1, h => by
    have later : ∀ {k}, x ∈ fillHead lim k l → ∃ z ∈ y :: l, x = z ∨ x = { z with part := 2 } := fun hx =>
      let ⟨z, hz, hxz⟩ := mem_fillHead hx
      ⟨z, List.mem_cons_of_mem _ hz, hxz⟩
    unfold fillHead at h
    split at h <;> rcases List.mem_cons.1 h with rfl | htail
    · exact ⟨y, List.mem_cons_self, .inr rfl⟩
    · exact later htail
    · exact ⟨x, List.mem_cons_self, .inl rfl⟩
    · exact later htail

/-- The offset of the copy that a held frame came on. -/
def offsetFor (offA offB : Option Int) (h : EvgHeld) : Option Int := if h.copyB then offB else offA

/-- A merge anchored so that the key (seq, idx) plays at `p`. -/
def anchoredAt (m : EvgMerge) (e : Entry) (seq idx : Nat) (p : Int) (offA offB : Option Int) : EvgMerge :=
  let keep := m.held.filter fun h => (offsetFor offA offB h).isSome && decide (keyRank seq h.seq h.idx < 2 ^ 31 * 256)
    && decide (idx ≤ h.idx ∨ h.seq ≠ seq)
  { m with
    anchored := true, a := { m.a with off := offA }, b := { m.b with off := offB }
    held := fillHead (p + (7 * m.spacing e : Nat)) 8
      (keep.map fun h => { h with inst := (h.arr : Int) + (offsetFor offA offB h).getD 0, placed := true })
    last := none, lastP := p - m.spacing e, played := [] }

section
variable (s : State) (m : EvgMerge) (e : Entry) (seq idx : Nat) (p : Int) (offA offB : Option Int)

theorem anchor_eq : s.anchor e seq idx p offA offB =
    (s.setEvgMerge (e.n EVERGREEN_merge) (anchoredAt (s.evgMerge (e.n EVERGREEN_merge)) e seq idx p offA offB)).report
      kEVG_ANCHOR [(2, e.n EVERGREEN_merge)] := rfl

/-- A frame held by a merge that has anchored is of a copy with an offset, and plays by it. -/
theorem held_anchoredAt {x : EvgHeld} (h : x ∈ (anchoredAt m e seq idx p offA offB).held) :
    ∃ o, offsetFor offA offB x = some o ∧ x.inst = (x.arr : Int) + o := by
  obtain ⟨y, hy, hxy⟩ := mem_fillHead h
  obtain ⟨z, hz, rfl⟩ := List.mem_map.1 hy
  obtain ⟨-, hkept⟩ := List.mem_filter.1 hz
  simp only [Bool.and_eq_true] at hkept
  obtain ⟨o, ho⟩ := Option.isSome_iff_exists.1 hkept.1.1
  refine ⟨o, ?_⟩
  rcases hxy with rfl | rfl <;> exact ⟨ho, by simp only [ho, Option.getD_some]⟩

end

/-- With one copy anchored, its frames alone have an offset. -/
theorem offsetFor_one (b : Bool) (mg : Int) (x : EvgHeld) :
    offsetFor (if b then none else some mg) (if b then some mg else none) x = if x.copyB = b then some mg else none := by
  unfold offsetFor
  cases b <;> cases x.copyB <;> rfl

/-- A merge whose copies are not both aligned in time anchors on the usable one, at its latest good frame. -/
theorem effEvgAcqTimeout_one {s : State} {i : Nat} {e : Entry} {h : EvgHeld} {b : Bool} (he : s.entry EVERGREEN_merge i = some e)
    (hnew : (s.evgMerge i).anchored = false)
    (hone : ¬ (s.copyState e (s.evgMerge i) false = 3 ∧ s.copyState e (s.evgMerge i) true = 3))
    (hb : b = (s.copyState e (s.evgMerge i) false != 3))
    (hlast : ((s.evgMerge i).held.filter fun x => x.copyB == b && x.good).getLast? = some h) :
    effEvgAcqTimeout i s = (s.anchor e h.seq h.idx ((h.arr : Int) + marginOf e) (if b then none else some (marginOf e))
      (if b then some (marginOf e) else none)).settleMerge e := by
  subst hb
  have hcond : ((s.evgMerge i).anchored || (s.copyState e (s.evgMerge i) false == 3 && s.copyState e (s.evgMerge i) true == 3)) =
      false := by
    rw [hnew, Bool.false_or, Bool.eq_false_iff, ne_eq, Bool.and_eq_true, beq_iff_eq, beq_iff_eq]
    exact hone
  unfold effEvgAcqTimeout
  rw [he]
  dsimp only
  rw [hcond, hlast]
  rfl

theorem effEvgAcqTimeout_both {s : State} {i : Nat} {e : Entry} (he : s.entry EVERGREEN_merge i = some e)
    (ha : s.copyState e (s.evgMerge i) false = 3) (hb : s.copyState e (s.evgMerge i) true = 3) : effEvgAcqTimeout i s = s := by
  unfold effEvgAcqTimeout
  rw [he]
  dsimp only
  rw [ha, hb]
  exact if_pos (Bool.or_true _)

section
variable (s : State) {e : Entry} {i : Nat} (hi : e.n EVERGREEN_merge = i) (seq idx : Nat) (p : Int)
include hi

theorem anchor_settle_evgMerge (offA offB : Option Int) : ((s.anchor e seq idx p offA offB).settleMerge e).evgMerge i =
    settledCopies s e (anchoredAt (s.evgMerge i) e seq idx p offA offB) := by
  subst hi
  rw [settleMerge_evgMerge _ _ rfl, settledCopies_of_frame (fr_anchor ..) (by decide +kernel), anchor_eq,
    evgMerge_of_evg ((fr_report ..).evg (by decide)), evgMerge_setEvgMerge]

theorem anchor_settle_recorded (offA offB : Option Int) :
    Recorded s ((s.newCycle.anchor e seq idx p offA offB).settleMerge e) kEVG_ANCHOR (leBytes 2 i) := by
  subst hi
  rw [← payloadOf_single]
  exact recorded_of_setEvgMerge (by rw [(fr_settleMerge ..).rcd (by decide), anchor_eq])

end

/-- What a merge that anchors on copy `b` alone holds: that copy's offset, and that copy's frames at their instants. -/
structure AnchoredOn (m : EvgMerge) (b : Bool) (mg : Int) : Prop where
  anchored : m.anchored = true
  off : (m.copy b).off = some mg
  off_not : (m.copy (!b)).off = none
  held : ∀ x ∈ m.held, x.copyB = b ∧ x.inst = (x.arr : Int) + mg

theorem anchoredAt_one (m : EvgMerge) (e : Entry) (seq idx : Nat) (p mg : Int) (b : Bool) :
    AnchoredOn (anchoredAt m e seq idx p (if b then none else some mg) (if b then some mg else none)) b mg where
  anchored := rfl
  off := by cases b <;> rfl
  off_not := by cases b <;> rfl
  held x hx := by
    obtain ⟨o, ho, hinst⟩ := held_anchoredAt (h := hx) ..
    rw [offsetFor_one, Option.ite_none_right_eq_some, Option.some_inj] at ho
    obtain ⟨hb, rfl⟩ := ho
    exact ⟨hb, hinst⟩

theorem AnchoredOn.settled {m : EvgMerge} {b : Bool} {mg : Int} (h : AnchoredOn m b mg) (s : State) (e : Entry) :
    AnchoredOn (settledCopies s e m) b mg where
  anchored := h.anchored
  off := by rw [settledCopies_copy, settledCopy_off, h.off]
  off_not := by rw [settledCopies_copy, settledCopy_off, h.off_not]
  held := h.held

/-! ### Re-anchoring -/

/-- The offsets that a re-anchoring by `d` would give the copies that are late or usable. -/
def movedOffsets (s : State) (e : Entry) (m : EvgMerge) (d : Int) : List Int :=
  ([false, true].filterMap fun x => if 2 ≤ s.copyState e m x then (m.copy x).off else none).map (· + d)

theorem mem_movedOffsets {s : State} {e : Entry} {m : EvgMerge} {d x : Int} :
    x ∈ movedOffsets s e m d ↔ ∃ c o, 2 ≤ s.copyState e m c ∧ (m.copy c).off = some o ∧ o + d = x := by
  simp only [movedOffsets, List.mem_map, List.mem_filterMap, Option.ite_none_right_eq_some]
  constructor
  · rintro ⟨o, ⟨c, -, hc, ho⟩, rfl⟩
    exact ⟨c, o, hc, ho, rfl⟩
  · rintro ⟨c, o, hc, ho, rfl⟩
    exact ⟨o, ⟨c, by cases c <;> decide, hc, ho⟩, rfl⟩

/-- A copy whose re-anchoring was refused in this stay in LATE. -/
def refusedOn (m : EvgMerge) (b : Bool) : EvgMerge := m.setCopy b { m.copy b with dmax := true }

theorem refusedOn_off (m : EvgMerge) (b c : Bool) : ((refusedOn m b).copy c).off = (m.copy c).off := by
  cases b <;> cases c <;> rfl

theorem refusedOn_dmax (m : EvgMerge) (b : Bool) : ((refusedOn m b).copy b).dmax = true :=
  congrArg EvgCopy.dmax (copy_setCopy_same ..)

theorem refusedOn_again {m : EvgMerge} {b : Bool} (h : (m.copy b).dmax = true) : refusedOn m b = m := by
  obtain ⟨⟨⟩, ⟨⟩⟩ := m
  cases b <;> cases h <;> rfl

theorem shift_push_off (m : EvgMerge) (d : Int) (c : Bool) :
    (((m.shift d).push 0 true).copy c).off = (m.copy c).off.map (· + d) := by
  cases c <;> rfl

/-- A merge that may re-anchor onto copy `b`, which is LATE with offset `o` (R223). -/
structure Reanchors (s : State) (i : Nat) (b : Bool) (e : Entry) (o : Int) : Prop where
  entry : s.entry EVERGREEN_merge i = some e
  anchored : (s.evgMerge i).anchored = true
  late : s.copyState e (s.evgMerge i) b = 2
  off : ((s.evgMerge i).copy b).off = some o
  allowed : e.b EVERGREEN_m_reanchor = true ∨ s.copyState e (s.evgMerge i) (!b) < 2

theorem Reanchors.newCycle {s : State} {i : Nat} {b : Bool} {e : Entry} {o : Int} (h : Reanchors s i b e o) :
    Reanchors s.newCycle i b e o := by
  obtain ⟨hentry, hanchored, hlate, hoff, hallowed⟩ := h
  exact ⟨(newCycle_entry ..).trans hentry, by rwa [newCycle_evgMerge], (newCycle_stateOf ..).trans hlate,
    by rwa [newCycle_evgMerge], by rwa [newCycle_stateOf]⟩

section
variable {s : State} {i : Nat} {b : Bool} {e : Entry} {o : Int} (h : Reanchors s i b e o)
include h

theorem Reanchors.eff : effEvgReanchor i b s =
    if (movedOffsets s e (s.evgMerge i) (marginOf e - o)).any fun x => decide (((e.n EVERGREEN_m_dmax * 1250 : Nat) : Int) < x) then
      if ((s.evgMerge i).copy b).dmax then s
      else (s.setEvgMerge i (refusedOn (s.evgMerge i) b)).report kEVG_DMAX
        [(2, i), (1, b2n b)]
    else (((s.setEvgMerge i (((s.evgMerge i).shift (marginOf e - o)).push 0 true)).inc EVG_M_DUP_reanchors i).report kEVG_REANCHOR
      [(2, i), (4, (marginOf e - o).toNat)]).settleMerge e := by
  have hallowed : (!e.b EVERGREEN_m_reanchor && decide (2 ≤ s.copyState e (s.evgMerge i) !b)) = false := by
    rcases h.allowed with hre | hother
    · rw [hre]; rfl
    · rw [decide_eq_false (by omega), Bool.and_false]
  unfold effEvgReanchor
  rw [h.entry]
  dsimp only
  split
  · next hnone => cases hnone.symm.trans h.off
  · next o' ho' =>
    cases ho'.symm.trans h.off
    rw [h.anchored, h.late, hallowed]
    rfl

/-- Where every offset stays within m_dmax, all of them move. -/
theorem Reanchors.moves (hfit : ∀ c o', 2 ≤ s.copyState e (s.evgMerge i) c → ((s.evgMerge i).copy c).off = some o' →
    o' + (marginOf e - o) ≤ 1250 * (e.n EVERGREEN_m_dmax : Int)) : effEvgReanchor i b s =
      (((s.setEvgMerge i (((s.evgMerge i).shift (marginOf e - o)).push 0 true)).inc EVG_M_DUP_reanchors i).report kEVG_REANCHOR
        [(2, i), (4, (marginOf e - o).toNat)]).settleMerge e := by
  refine h.eff.trans (if_neg fun hany => ?_)
  obtain ⟨x, hx, hlt⟩ := List.any_eq_true.1 hany
  obtain ⟨c, o', hc, ho', rfl⟩ := mem_movedOffsets.1 hx
  have hle := hfit c o' hc ho'
  rw [decide_eq_true_eq] at hlt
  push_cast at hlt
  omega

/-- Where an offset would pass m_dmax, none moves; the record of it is written once for the stay in LATE. -/
theorem Reanchors.refused {c : Bool} {o' : Int} (hc : 2 ≤ s.copyState e (s.evgMerge i) c)
    (ho' : ((s.evgMerge i).copy c).off = some o') (hlt : 1250 * (e.n EVERGREEN_m_dmax : Int) < o' + (marginOf e - o)) :
    effEvgReanchor i b s = if ((s.evgMerge i).copy b).dmax then s
      else (s.setEvgMerge i (refusedOn (s.evgMerge i) b)).report kEVG_DMAX
        [(2, i), (1, b2n b)] := by
  refine h.eff.trans (if_pos (List.any_eq_true.2 ⟨_, mem_movedOffsets.2 ⟨c, o', hc, ho', rfl⟩, ?_⟩))
  rw [decide_eq_true_eq]
  push_cast
  omega

theorem Reanchors.moves_evgMerge (hfit : ∀ c o', 2 ≤ s.copyState e (s.evgMerge i) c → ((s.evgMerge i).copy c).off = some o' →
    o' + (marginOf e - o) ≤ 1250 * (e.n EVERGREEN_m_dmax : Int)) : ∃ u, (effEvgReanchor i b s).evgMerge i =
      settledCopies u e (((s.evgMerge i).shift (marginOf e - o)).push 0 true) := by
  rw [h.moves hfit, settleMerge_evgMerge _ _ (merge_of_entry h.entry), evgMerge_of_evg ((fr_report ..).evg (by decide)),
    evgMerge_of_evg (State.inc_evg ..), evgMerge_setEvgMerge]
  exact ⟨_, rfl⟩

theorem Reanchors.refused_evgMerge {c : Bool} {o' : Int} (hc : 2 ≤ s.copyState e (s.evgMerge i) c)
    (ho' : ((s.evgMerge i).copy c).off = some o') (hlt : 1250 * (e.n EVERGREEN_m_dmax : Int) < o' + (marginOf e - o)) :
    (effEvgReanchor i b s).evgMerge i = refusedOn (s.evgMerge i) b := by
  rw [h.refused hc ho' hlt]
  split
  · next hdmax => rw [refusedOn_again hdmax]
  · rw [evgMerge_of_evg ((fr_report ..).evg (by decide)), evgMerge_setEvgMerge]

end

/-! ### No usable copy, and a flush -/

theorem effEvgNoUsableTimeout_asks {s : State} {i : Nat} {e : Entry} (he : s.entry EVERGREEN_merge i = some e)
    (hanchored : (s.evgMerge i).anchored = true) (ha : s.copyState e (s.evgMerge i) false ≠ 3)
    (hb : s.copyState e (s.evgMerge i) true ≠ 3) : effEvgNoUsableTimeout i s = s.evgFlushReq i := by
  unfold effEvgNoUsableTimeout
  rw [he]
  dsimp only
  rw [hanchored, beq_eq_false_iff_ne.2 ha, beq_eq_false_iff_ne.2 hb]
  rfl

/-- A merge whose queue is flushed. -/
def flushed (m : EvgMerge) : EvgMerge :=
  { m with
    anchored := false, held := [], last := none, played := [], flush := false
    a := { m.a with off := none }, b := { m.b with off := none } }

theorem effEvgFlush_asked {s : State} {i : Nat} {e : Entry} (he : s.entry EVERGREEN_merge i = some e)
    (hflush : (s.evgMerge i).flush = true) : effEvgFlush i s = (s.setEvgMerge i (flushed (s.evgMerge i))).settleMerge e := by
  unfold effEvgFlush
  rw [he]
  dsimp only
  rw [hflush]
  rfl

theorem effEvgFlush_evgMerge {s : State} {i : Nat} {e : Entry} (he : s.entry EVERGREEN_merge i = some e)
    (hflush : (s.evgMerge i).flush = true) : ∃ u, (effEvgFlush i s).evgMerge i = settledCopies u e (flushed (s.evgMerge i)) := by
  rw [effEvgFlush_asked he hflush, settleMerge_evgMerge _ _ (merge_of_entry he), evgMerge_setEvgMerge]
  exact ⟨_, rfl⟩

theorem payloadOf_pair (n₁ v₁ n₂ v₂ : Nat) : payloadOf [(n₁, v₁), (n₂, v₂)] = leBytes n₁ v₁ ++ leBytes n₂ v₂ := by
  simp [payloadOf]

/-! ### The statement -/

/-- Settles O44: an anchoring on one copy, a re-anchoring made and refused, a flush asked for and made. -/
theorem evergreenAnchors : Obligations.EvergreenAnchors := by
  unfold Obligations.EvergreenAnchors
  refine ⟨fun i e h b s he hnew hone hb hlast => ?_, fun i e s he ha hb => ?_,
    fun i e o d b s he hlt hanchored hlate hoff hallowed hd => ?_, fun i e s he hanchored ha hb => ?_,
    fun i e s he hlt hflush => ?_⟩
  · have hi := merge_of_entry he
    have heff := effEvgAcqTimeout_one (s := s.newCycle) (b := b) (h := h) ((newCycle_entry ..).trans he)
      (by rwa [newCycle_evgMerge]) (by rwa [newCycle_stateOf, newCycle_stateOf]) (by rwa [newCycle_stateOf])
      (by rwa [newCycle_evgMerge])
    have hexec : exec (.evgAcqTimeout i) s = .next (effEvgAcqTimeout i s.newCycle) := rfl
    have hframe : Frame m_effEvgAcqTimeout s.newCycle _ := frame_of_exec hexec
    have hon : AnchoredOn ((effEvgAcqTimeout i s.newCycle).evgMerge i) b (marginOf e) := by
      rw [heff, anchor_settle_evgMerge _ hi]
      exact (anchoredAt_one ..).settled ..
    rw [← marginOf_eq]
    refine ⟨_, hexec, hon.anchored, hon.off, hon.off_not, fun x hx => (hon.held x hx).1, fun x hx => (hon.held x hx).2, ?_,
      frame_keep hframe (by decide +kernel), hframe.keepRegs (by decide +kernel)⟩
    rw [heff]
    exact anchor_settle_recorded _ hi _ _ _ _ _
  · exact congrArg Host.Outcome.next (effEvgAcqTimeout_both ((newCycle_entry ..).trans he) ((newCycle_stateOf ..).trans ha)
      ((newCycle_stateOf ..).trans hb))
  · have hi := merge_of_entry he
    have h := (Reanchors.mk he hanchored hlate hoff hallowed).newCycle
    have hexec : exec (.evgReanchor i b) s = .next (effEvgReanchor i b s.newCycle) := rfl
    have hframe : Frame m_effEvgReanchor s.newCycle _ := frame_of_exec hexec
    rw [← marginOf_eq] at hd
    subst hd
    simp only [← newCycle_copyState s]
    rw [← newCycle_evgMerge s i]
    refine ⟨fun hfit => ?_, fun c o' hc ho' hfar => ?_⟩
    · obtain ⟨u, hmerge⟩ := h.moves_evgMerge hfit
      refine ⟨_, hexec, fun c => ?_, by rw [hmerge]; rfl, by rw [hmerge]; rfl, ?_, frame_keep hframe (by decide +kernel),
        hframe.keepRegs (by decide +kernel)⟩
      · rw [hmerge, settledCopies_copy, settledCopy_off, shift_push_off]
      · rw [h.moves hfit, settleMerge_get _ hi (by decide), (fr_report ..).get (by decide +kernel), get_inc _ _ _ hlt (by decide),
          setEvgMerge_get, newCycle_get]
    · have hmerge := h.refused_evgMerge hc ho' hfar
      refine ⟨_, hexec, fun c => by rw [hmerge, refusedOn_off], by rw [hmerge, refusedOn_dmax], fun hfirst => ?_⟩
      rw [← payloadOf_pair]
      refine recorded_of_setEvgMerge (congrArg State.rcd ((h.refused hc ho' hfar).trans (if_neg ?_)))
      rw [hfirst]
      decide
  · have heff := effEvgNoUsableTimeout_asks (s := s.newCycle) ((newCycle_entry ..).trans he) (by rwa [newCycle_evgMerge])
      (by rwa [newCycle_stateOf]) (by rwa [newCycle_stateOf])
    have hexec : exec (.evgNoUsableTimeout i) s = .next (effEvgNoUsableTimeout i s.newCycle) := rfl
    have hframe : Frame m_effEvgNoUsableTimeout s.newCycle _ := frame_of_exec hexec
    refine ⟨_, hexec, ?_, frame_keep hframe (by decide +kernel), hframe.keepRegs (by decide +kernel)⟩
    rw [heff, ← newCycle_evgMerge s]
    exact evgMerge_setEvgMerge ..
  · have hasked : (s.newCycle.evgMerge i).flush = true := by rwa [newCycle_evgMerge]
    obtain ⟨u, hmerge⟩ := effEvgFlush_evgMerge ((newCycle_entry ..).trans he) hasked
    have hexec : exec (.evgFlush i) s = .next (effEvgFlush i s.newCycle) := rfl
    have hframe : Frame m_effEvgFlush s.newCycle _ := frame_of_exec hexec
    refine ⟨_, hexec, by rw [hmerge]; rfl, by rw [hmerge]; rfl, by rw [hmerge]; rfl, fun c => ?_, ?_,
      (hframe.get (by decide +kernel) i).trans (newCycle_get ..), (hframe.get (by decide +kernel) i).trans (newCycle_get ..),
      frame_keep hframe (by decide +kernel), hframe.keepRegs (by decide +kernel)⟩
    · rw [hmerge, settledCopies_copy, settledCopy_off]
      cases c <;> rfl
    · rw [effEvgFlush_asked ((newCycle_entry ..).trans he) hasked]
      exact settleMerge_mstate _ (merge_of_entry he) hlt (by rw [evgMerge_setEvgMerge]; rfl)

end Sys2Proof.Evergreen
end

section
/-!
The playout of a merge (Table 8-5, R221, R222, R226, R227).
-/
namespace Sys2Proof.Evergreen

open Sys2Proof.Machine Sys2Proof.Safety Sys2Proof.Scope Sys2Proof.Architecture Sys2Proof.Framing Sys2Proof.Mapping
  Sys2Proof.Fabric Sys2Proof.Images Sys2Proof.Protection
open Sys2Proof.Laws hiding maskOf put

/-! ### A key that is due -/

/-- A merge once the key of `h` has been played. -/
def keyPlayed (m : EvgMerge) (e : Entry) (h : EvgHeld) : EvgMerge :=
  EvgMerge.refill (e := e) { m with
    held := m.held.filter fun x => !(x.seq == h.seq && x.idx == h.idx)
    last := some (h.seq, h.idx), lastP := h.inst, played := ((h.seq, h.idx, h.inst) :: m.played).take 131072 }

/-- The frames of the key of `h` that are at hand: those of the middle are not while DDR5 is late. -/
def atHand (m : EvgMerge) (h : EvgHeld) (late : Bool) : List EvgHeld :=
  (m.held.filter fun x => x.seq == h.seq && x.idx == h.idx).filter fun x => !(late && x.mark.isSome)

/-- The frame to be played of those at hand: the first good one, or else the first. -/
def bestOf (l : List EvgHeld) : Option EvgHeld := (l.find? (·.good)).or l.head?

/-- Whether the end mark of the frame to be played does not match (R226). -/
def markFails (l : List EvgHeld) (bad : Bool) : Bool := match bestOf l with | some x => !x.taken bad | none => false

/-- An end mark that does not match is counted. -/
def markCounted (s : State) (fails : Bool) : State := if fails then (s.inc EVG_DDR_mark_err).irqSet 262 else s

/-- The frames at hand but one whose end mark does not match. -/
def readable (l : List EvgHeld) (bad : Bool) : List EvgHeld := if markFails l bad then l.filter fun x => some x != bestOf l else l

/-- A frame that plays, counted and shown. -/
def frameShown (s : State) (i : Nat) (x : EvgHeld) : State := (s.incW EVG_M_QR_played i).setB EVG_M_ST_last x.copyB i

/-- A merge plays the good one of the frames at hand, the first bad one, or a fail-marked frame. -/
def framePlayed (s : State) (i : Nat) (m : EvgMerge) (l : List EvgHeld) : State :=
  let good := l.find? (·.good)
  let s := match (if good.isSome then good else l.head?) with
    | some x => frameShown s i x
    | none => s
  match good, l.head? with
  | some g, some f =>
    let s := if f.good then s else if f.copyB then s.inc EVG_M_ERR_bad_b i else s.inc EVG_M_ERR_bad_a i
    s.setEvgMerge i ({ m with hold := g.inst - g.arr }.push g.data g.srcFail)
  | none, some f => (s.inc EVG_M_LOSS_both_bad i).setEvgMerge i ({ m with hold := f.inst - f.arr }.push f.data false)
  | _, none => (s.inc EVG_M_LOSS_missing i).setEvgMerge i (m.push 0 true)

/-- The frames of a merge whose instants have come. -/
def dueFrames (m : EvgMerge) (cyc : Nat) : List EvgHeld := m.held.filter fun h => h.placed && decide (h.inst ≤ (cyc : Int))

/-- The frame of the lowest key due. -/
def dueFrame (m : EvgMerge) (cyc : Nat) : Option EvgHeld :=
  lowestKey ((m.last.map (·.1)).getD ((m.held.head?.map (·.seq)).getD 0)) (dueFrames m cyc)

/-- A frame that counts as missing, its instant past. -/
def missed (m : EvgMerge) (e : Entry) : EvgMerge :=
  (({ m with lastP := m.lastP + m.spacing e } : EvgMerge).refill e).push 0 true

theorem effEvgPlayout_eq {s : State} {i : Nat} {e : Entry} (he : s.entry EVERGREEN_merge i = some e) (cyc : Nat) (late bad : Bool) :
    effEvgPlayout i cyc late bad s =
      (if !(s.evgMerge i).anchored then s.setEvgMerge i ((s.evgMerge i).push 0 true)
      else match dueFrame (s.evgMerge i) cyc with
        | some h => framePlayed (markCounted (s.set EVG_M_SEQ_seq h.seq i) (markFails (atHand (s.evgMerge i) h late) bad)) i
            (keyPlayed (s.evgMerge i) e h) (readable (atHand (s.evgMerge i) h late) bad)
        | none =>
          if (s.evgMerge i).lastP + (s.evgMerge i).spacing e + 128 ≤ (cyc : Int) then
            (s.inc EVG_M_LOSS_missing i).setEvgMerge i (missed (s.evgMerge i) e)
          else s).settleMerge e := by
  unfold effEvgPlayout
  rw [he]
  rfl

section
variable {s : State} {i : Nat} {e : Entry} (he : s.entry EVERGREEN_merge i = some e) (cyc : Nat) (late bad : Bool)
include he

theorem effEvgPlayout_unanchored (h : (s.evgMerge i).anchored = false) :
    effEvgPlayout i cyc late bad s = (s.setEvgMerge i ((s.evgMerge i).push 0 true)).settleMerge e := by
  rw [effEvgPlayout_eq he, h]
  rfl

variable {cyc} (hanchored : (s.evgMerge i).anchored = true)
include hanchored

theorem effEvgPlayout_due {h : EvgHeld} (hdue : dueFrame (s.evgMerge i) cyc = some h) : effEvgPlayout i cyc late bad s =
    (framePlayed (markCounted (s.set EVG_M_SEQ_seq h.seq i) (markFails (atHand (s.evgMerge i) h late) bad)) i
      (keyPlayed (s.evgMerge i) e h) (readable (atHand (s.evgMerge i) h late) bad)).settleMerge e := by
  rw [effEvgPlayout_eq he, hanchored, hdue]
  rfl

theorem effEvgPlayout_missed (hdue : dueFrame (s.evgMerge i) cyc = none)
    (hpast : (s.evgMerge i).lastP + (s.evgMerge i).spacing e + 128 ≤ (cyc : Int)) : effEvgPlayout i cyc late bad s =
      ((s.inc EVG_M_LOSS_missing i).setEvgMerge i (missed (s.evgMerge i) e)).settleMerge e := by
  rw [effEvgPlayout_eq he, hanchored, hdue]
  exact congrArg (State.settleMerge · e) (if_pos hpast)

theorem effEvgPlayout_waits (hdue : dueFrame (s.evgMerge i) cyc = none)
    (hearly : (cyc : Int) < (s.evgMerge i).lastP + (s.evgMerge i).spacing e + 128) :
    effEvgPlayout i cyc late bad s = s.settleMerge e := by
  rw [effEvgPlayout_eq he, hanchored, hdue]
  exact congrArg (State.settleMerge · e) (if_neg (not_le.2 hearly))

end

/-! ### Which frame is due -/

section
variable {m : EvgMerge} {f g : EvgHeld} {cyc : Nat}

theorem dueFrame_none (hnone : ∀ f ∈ m.held, f.placed = true → (cyc : Int) < f.inst) : dueFrame m cyc = none := by
  have hdue : dueFrames m cyc = [] := by
    refine List.filter_eq_nil_iff.2 fun f hf => ?_
    rw [Bool.and_eq_true, decide_eq_true_eq]
    rintro ⟨hplaced, hle⟩
    exact absurd (hnone f hf hplaced) (not_lt.2 hle)
  unfold dueFrame
  rw [hdue]
  rfl

/-- Where all that is held has come to its instant, the lowest key is of all that is held. -/
theorem dueFrames_all (hall : ∀ f ∈ m.held, f.placed = true ∧ f.inst ≤ (cyc : Int)) : dueFrames m cyc = m.held := by
  refine List.filter_eq_self.2 fun f hf => ?_
  rw [Bool.and_eq_true, decide_eq_true_eq]
  exact hall f hf

theorem dueFrame_single (hheld : m.held = [f]) (hf : f.placed = true) (hle : f.inst ≤ (cyc : Int)) : dueFrame m cyc = some f := by
  unfold dueFrame
  rw [dueFrames_all (by simp [hheld, hf, hle]), hheld]
  rfl

/-- Of two frames of one key, the first is found. -/
theorem dueFrame_pair (hheld : m.held = [f, g]) (hseq : f.seq = g.seq) (hidx : f.idx = g.idx) (hf : f.placed = true)
    (hg : g.placed = true) (hfle : f.inst ≤ (cyc : Int)) (hgle : g.inst ≤ (cyc : Int)) : dueFrame m cyc = some f := by
  unfold dueFrame
  rw [dueFrames_all (by simp [hheld, hf, hfle, hg, hgle]), hheld]
  unfold lowestKey lowestKey lowestKey
  rw [hseq, hidx]
  exact if_neg (Nat.lt_irrefl _)

/-! ### What a merge then holds -/

/-- Only frames of the key of `f` are held. -/
def OneKey (m : EvgMerge) (f : EvgHeld) : Prop := ∀ x ∈ m.held, x.seq = f.seq ∧ x.idx = f.idx

theorem oneKey_single (hheld : m.held = [f]) : OneKey m f := by simp [OneKey, hheld]

theorem oneKey_pair (hheld : m.held = [f, g]) (hseq : f.seq = g.seq) (hidx : f.idx = g.idx) : OneKey m f := by
  simp [OneKey, hheld, hseq, hidx]

variable (hkey : OneKey m f)
include hkey

/-- Once the only key held is played, nothing is held. -/
theorem keyPlayed_held (e : Entry) : (keyPlayed m e f).held = [] := by
  have hnone : (m.held.filter fun x => !(x.seq == f.seq && x.idx == f.idx)) = [] := by
    refine List.filter_eq_nil_iff.2 fun x hx => ?_
    obtain ⟨hseq, hidx⟩ := hkey x hx
    simp [hseq, hidx]
  unfold keyPlayed EvgMerge.refill
  dsimp only
  rw [hnone]
  unfold fillHead
  rfl

theorem atHand_all : atHand m f false = m.held := by
  unfold atHand
  rw [List.filter_eq_self.2 fun x hx => ?_, List.filter_eq_self.2 fun x hx => ?_]
  · obtain ⟨hseq, hidx⟩ := hkey x hx
    simp [hseq, hidx]
  · rfl

end

theorem atHand_late {m : EvgMerge} {f : EvgHeld} (h : ∀ x ∈ m.held, x.mark.isSome = true) : atHand m f true = [] := by
  unfold atHand
  refine List.filter_eq_nil_iff.2 fun x hx => ?_
  rw [h x (List.mem_of_mem_filter hx)]
  decide

/-! ### End marks -/

section
variable {l : List EvgHeld} {f g : EvgHeld} {bad : Bool}

theorem bestOf_single (f : EvgHeld) : bestOf [f] = some f := by
  unfold bestOf
  cases hgood : f.good <;> simp [hgood]

theorem bestOf_pair (hf : f.good = false) (hg : g.good = true) : bestOf [f, g] = some g := by
  simp [bestOf, hf, hg]

theorem markFails_of_best (hbest : bestOf l = some f) : markFails l bad = !f.taken bad := by
  unfold markFails
  rw [hbest]

theorem readable_taken (h : markFails l bad = false) : readable l bad = l := if_neg (by rw [h]; decide)

theorem readable_single (h : f.taken bad = false) : readable [f] bad = [] := by
  have hfails : markFails [f] bad = true := by rw [markFails_of_best (bestOf_single f), h]; rfl
  unfold readable
  rw [if_pos hfails, bestOf_single]
  simp

/-- A frame that went through the middle is not taken where DDR5 returns other bytes. -/
theorem not_taken_bad (h : f.mark.isSome = true) : f.taken true = false := by
  obtain ⟨k, hk⟩ := Option.isSome_iff_exists.1 h
  unfold EvgHeld.taken
  rw [hk]
  rfl

end

/-! ### What is played -/

/-- The bytes of a frame that plays, or those of a fail-marked one. -/
def playedSeg (f : EvgHeld) : EvgSeg := if f.good && f.srcFail then ⟨4096, 0, true⟩ else ⟨4096, f.data, false⟩

/-- A merge that has played the frame `x` as `seg`. -/
def playedOut (m : EvgMerge) (x : EvgHeld) (seg : EvgSeg) : EvgMerge := { m with hold := x.inst - x.arr, out := m.out ++ [seg] }

section
variable (s : State) (i : Nat) (m : EvgMerge) {f g : EvgHeld}

/-- A bad frame is counted as such where no good one is held. -/
def badCounted (s : State) (i : Nat) (f : EvgHeld) : State := if f.good then s else s.inc EVG_M_LOSS_both_bad i

theorem framePlayed_single : framePlayed s i m [f] = (badCounted (frameShown s i f) i f).setEvgMerge i
    (playedOut m f (playedSeg f)) := by
  unfold framePlayed badCounted playedSeg playedOut
  cases hgood : f.good <;> cases hfail : f.srcFail <;> simp [hgood, hfail, EvgMerge.push]

/-- A bad frame that came first is counted against its copy, and the good one plays. -/
theorem framePlayed_pair (hf : f.good = false) (hg : g.good = true) (hsrc : g.srcFail = false) : framePlayed s i m [f, g] =
    ((frameShown s i g).inc (if f.copyB then EVG_M_ERR_bad_b else EVG_M_ERR_bad_a) i).setEvgMerge i
      (playedOut m g ⟨4096, g.data, false⟩) := by
  unfold framePlayed playedOut
  cases hcopy : f.copyB <;> simp [hf, hg, hsrc, hcopy, EvgMerge.push]

end

/-! ### The counters of a playout -/

section
variable (s : State) {i : Nat} (hlt : i < 4096) (f : EvgHeld)

theorem badCounted_get {g : Fld} (hg : disjoint EVG_M_LOSS_both_bad g = true) : (badCounted s i f).get g i = s.get g i := by
  unfold badCounted
  split
  · rfl
  · exact get_inc_disjoint s hg i

theorem frameShown_get {g : Fld} (hg : (disjoint EVG_M_QR_played g && disjoint EVG_M_ST_last g) = true) :
    (frameShown s i f).get g i = s.get g i := by
  obtain ⟨hplayed, hlast⟩ := Bool.and_eq_true_iff.1 hg
  unfold frameShown
  rw [get_setB_disjoint _ hlast, get_incW_disjoint _ hplayed]

theorem markCounted_get (fails : Bool) {g : Fld} (hg : distant EVG_DDR_mark_err g = true) (n : Nat) :
    (markCounted s fails).get g n = s.get g n := by
  unfold markCounted
  split
  · rw [irqSet_get, get_inc_distant _ hg]
  · rfl

theorem markCounted_get_mark (fails : Bool) : (markCounted s fails).get EVG_DDR_mark_err =
    if fails then min (s.get EVG_DDR_mark_err + 1) (top EVG_DDR_mark_err) else s.get EVG_DDR_mark_err := by
  unfold markCounted
  split
  · rw [irqSet_get, get_inc _ _ _ (by decide) (by decide)]
  · rfl

include hlt

theorem badCounted_get_bothBad : (badCounted s i f).get EVG_M_LOSS_both_bad i =
    if f.good then s.get EVG_M_LOSS_both_bad i else min (s.get EVG_M_LOSS_both_bad i + 1) (top EVG_M_LOSS_both_bad) := by
  unfold badCounted
  split
  · rfl
  · exact get_inc s _ i hlt (by decide)

theorem frameShown_get_played : (frameShown s i f).get EVG_M_QR_played i = (s.get EVG_M_QR_played i + 1) % 2 ^ 32 := by
  unfold frameShown
  rw [get_setB_disjoint _ (by decide)]
  exact get_incW s hlt (by decide)

theorem frameShown_on_last : (frameShown s i f).on EVG_M_ST_last i = f.copyB :=
  State.on_setB_same _ _ _ _ hlt (by decide) (by decide)

end

/-- What a merge shows of a frame that it has played: its key, its copy and the counters. -/
structure Shown (s t : State) (i : Nat) (f : EvgHeld) : Prop where
  seq : t.get EVG_M_SEQ_seq i = f.seq % 2 ^ 32
  last : t.on EVG_M_ST_last i = f.copyB
  played : t.get EVG_M_QR_played i = (s.get EVG_M_QR_played i + 1) % 2 ^ 32
  both_bad : t.get EVG_M_LOSS_both_bad i =
    if f.good then s.get EVG_M_LOSS_both_bad i else min (s.get EVG_M_LOSS_both_bad i + 1) (top EVG_M_LOSS_both_bad)
  missing : t.get EVG_M_LOSS_missing i = s.get EVG_M_LOSS_missing i

theorem shown_single (s : State) {e : Entry} {i : Nat} (hi : e.n EVERGREEN_merge = i) (hlt : i < 4096) (f : EvgHeld) (m : EvgMerge) :
    Shown s (((badCounted (frameShown (s.set EVG_M_SEQ_seq f.seq i) i f) i f).setEvgMerge i m).settleMerge e) i f where
  seq := by
    rw [settleMerge_get _ hi (by decide), setEvgMerge_get, badCounted_get _ _ (by decide), frameShown_get _ _ (by decide)]
    exact State.get_set_same _ _ _ _ hlt (by decide)
  last := by
    have hshown := frameShown_on_last (s.set EVG_M_SEQ_seq f.seq i) hlt f
    unfold State.on at hshown ⊢
    rw [settleMerge_get _ hi (by decide), setEvgMerge_get, badCounted_get _ _ (by decide), hshown]
  played := by
    rw [settleMerge_get _ hi (by decide), setEvgMerge_get, badCounted_get _ _ (by decide), frameShown_get_played _ hlt,
      get_set_disjoint _ (by decide)]
  both_bad := by
    rw [settleMerge_get _ hi (by decide), setEvgMerge_get, badCounted_get_bothBad _ hlt, frameShown_get _ _ (by decide),
      get_set_disjoint _ (by decide)]
  missing := by
    rw [settleMerge_get _ hi (by decide), setEvgMerge_get, badCounted_get _ _ (by decide), frameShown_get _ _ (by decide),
      get_set_disjoint _ (by decide)]

/-- A frame lost is counted as missing, and with it an end mark that does not match. -/
theorem lost_counted (s : State) {e : Entry} {i : Nat} (hi : e.n EVERGREEN_merge = i) (hlt : i < 4096) (f : EvgHeld) (late : Bool)
    (m : EvgMerge) :
    let t := ((((markCounted (s.set EVG_M_SEQ_seq f.seq i) (!late)).inc EVG_M_LOSS_missing i).setEvgMerge i m).settleMerge e)
    t.get EVG_DDR_mark_err = (if late then s.get EVG_DDR_mark_err else min (s.get EVG_DDR_mark_err + 1) (top EVG_DDR_mark_err)) ∧
      t.get EVG_M_LOSS_missing i = min (s.get EVG_M_LOSS_missing i + 1) (top EVG_M_LOSS_missing) ∧
      t.get EVG_M_QR_played i = s.get EVG_M_QR_played i := by
  dsimp only
  rw [(fr_settleMerge ..).get (by decide +kernel), setEvgMerge_get, get_inc_distant _ (by decide), settleMerge_get _ hi (by decide),
    settleMerge_get _ hi (by decide), setEvgMerge_get, setEvgMerge_get, get_inc _ _ _ hlt (by decide), get_inc_disjoint _ (by decide)]
  rw [markCounted_get_mark, markCounted_get _ _ (by decide), markCounted_get _ _ (by decide), get_set_distant _ (by decide),
    get_set_disjoint _ (by decide), get_set_disjoint _ (by decide)]
  exact ⟨by cases late <;> rfl, rfl, rfl⟩

/-- A good frame that plays in place of a bad one is shown, and the bad one counted against its copy. -/
theorem pair_counted (s : State) {e : Entry} {i : Nat} (hi : e.n EVERGREEN_merge = i) (hlt : i < 4096) (f g : EvgHeld) (m : EvgMerge) :
    let t := ((((frameShown (s.set EVG_M_SEQ_seq f.seq i) i g).inc (if f.copyB then EVG_M_ERR_bad_b else EVG_M_ERR_bad_a)
      i).setEvgMerge i m).settleMerge e)
    t.on EVG_M_ST_last i = g.copyB ∧ t.get EVG_M_LOSS_both_bad i = s.get EVG_M_LOSS_both_bad i ∧
      t.get EVG_M_ERR_bad_a i = (if f.copyB then s.get EVG_M_ERR_bad_a i
        else min (s.get EVG_M_ERR_bad_a i + 1) (top EVG_M_ERR_bad_a)) ∧
      t.get EVG_M_ERR_bad_b i = (if f.copyB then min (s.get EVG_M_ERR_bad_b i + 1) (top EVG_M_ERR_bad_b)
        else s.get EVG_M_ERR_bad_b i) := by
  have hlast := frameShown_on_last (s.set EVG_M_SEQ_seq f.seq i) hlt g
  unfold State.on at hlast ⊢
  dsimp only
  rw [settleMerge_get _ hi (by decide), settleMerge_get _ hi (by decide), settleMerge_get _ hi (by decide),
    settleMerge_get _ hi (by decide)]
  simp only [setEvgMerge_get]
  cases f.copyB <;>
    simp (disch := decide) only [Bool.false_eq_true, if_true, if_false, get_inc _ EVG_M_ERR_bad_a i hlt (by decide),
      get_inc _ EVG_M_ERR_bad_b i hlt (by decide), get_inc_disjoint, frameShown_get, get_set_disjoint, hlast, and_true]

/-! ### A playout of what is held -/

section
variable {s : State} {i cyc : Nat} {e : Entry} (he : s.entry EVERGREEN_merge i = some e) (hanchored : (s.evgMerge i).anchored = true)
  {f g : EvgHeld} (hf : f.placed = true) (hfle : f.inst ≤ (cyc : Int))
include he hanchored hf hfle

section
variable (hheld : (s.evgMerge i).held = [f])
include hheld

/-- The one frame held plays where it is taken. -/
theorem effEvgPlayout_single (htaken : f.taken false = true) : effEvgPlayout i cyc false false s =
    ((badCounted (frameShown (s.set EVG_M_SEQ_seq f.seq i) i f) i f).setEvgMerge i
      (playedOut (keyPlayed (s.evgMerge i) e f) f (playedSeg f))).settleMerge e := by
  have hmarked : markFails [f] false = false := by rw [markFails_of_best (bestOf_single f), htaken]; rfl
  rw [effEvgPlayout_due he false false hanchored (dueFrame_single hheld hf hfle), atHand_all (oneKey_single hheld), hheld,
    readable_taken hmarked, hmarked, framePlayed_single]
  rfl

/-- The one frame held does not play where DDR5 is late with it, or its end mark does not match. -/
theorem effEvgPlayout_lost (late bad : Bool) (hmark : f.mark.isSome = true) (hlost : late = true ∨ bad = true) :
    effEvgPlayout i cyc late bad s =
      (((markCounted (s.set EVG_M_SEQ_seq f.seq i) (!late)).inc EVG_M_LOSS_missing i).setEvgMerge i
        ((keyPlayed (s.evgMerge i) e f).push 0 true)).settleMerge e := by
  rw [effEvgPlayout_due he late bad hanchored (dueFrame_single hheld hf hfle)]
  cases late with
  | true =>
    rw [atHand_late (by simpa [hheld] using hmark)]
    rfl
  | false =>
    obtain rfl := hlost.resolve_left (by decide)
    have hnot := not_taken_bad hmark
    have hmarked : markFails [f] true = true := by rw [markFails_of_best (bestOf_single f), hnot]; rfl
    rw [atHand_all (oneKey_single hheld), hheld, readable_single hnot, hmarked]
    rfl

end

/-- Of two frames of one key, the good one that came second plays. -/
theorem effEvgPlayout_pair (hheld : (s.evgMerge i).held = [f, g]) (hseq : f.seq = g.seq) (hidx : f.idx = g.idx)
    (hg : g.placed = true) (hgle : g.inst ≤ (cyc : Int)) (htaken : g.taken false = true) (hbad : f.good = false)
    (hgood : g.good = true) (hsrc : g.srcFail = false) : effEvgPlayout i cyc false false s =
      (((frameShown (s.set EVG_M_SEQ_seq f.seq i) i g).inc (if f.copyB then EVG_M_ERR_bad_b else EVG_M_ERR_bad_a) i).setEvgMerge i
        (playedOut (keyPlayed (s.evgMerge i) e f) g ⟨4096, g.data, false⟩)).settleMerge e := by
  have hmarked : markFails [f, g] false = false := by rw [markFails_of_best (bestOf_pair hbad hgood), htaken]; rfl
  rw [effEvgPlayout_due he false false hanchored (dueFrame_pair hheld hseq hidx hf hg hfle hgle),
    atHand_all (oneKey_pair hheld hseq hidx), hheld, readable_taken hmarked, hmarked, framePlayed_pair _ _ _ hbad hgood hsrc]
  rfl

end

/-! ### The statement -/

/-- A frame that is counted as missing. -/
theorem missing_counted (s : State) {e : Entry} {i : Nat} (hi : e.n EVERGREEN_merge = i) (hlt : i < 4096) (m : EvgMerge) :
    (((s.inc EVG_M_LOSS_missing i).setEvgMerge i m).settleMerge e).get EVG_M_LOSS_missing i =
      min (s.get EVG_M_LOSS_missing i + 1) (top EVG_M_LOSS_missing) := by
  rw [settleMerge_get _ hi (by decide), setEvgMerge_get, get_inc _ _ _ hlt (by decide)]

/-- Settles O43: a playout of a merge that is not anchored, of the one frame held, of two of one key, and of none. -/
theorem evergreenPlayout : Obligations.EvergreenPlayout := by
  unfold Obligations.EvergreenPlayout
  refine ⟨fun i cyc late bad e s he hnew => ?_, fun i cyc f e s he hlt hanchored hheld hf hle => ⟨fun htaken => ?_,
    fun late bad hmark hlost => ?_⟩, fun i cyc f g e s he hlt hanchored hheld hseq hidx hf hg hfle hgle htaken hbad hgood hsrc => ?_,
    fun i cyc late bad e s he hlt hanchored hnone => ⟨fun hpast => ?_, fun hearly => ?_⟩⟩
  all_goals
    have hi := merge_of_entry he
    replace he := (newCycle_entry s EVERGREEN_merge i).trans he
    rw [← newCycle_evgMerge s i] at *
  · have hexec : exec (.evgPlayout i cyc late bad) s = .next (effEvgPlayout i cyc late bad s.newCycle) := rfl
    have hframe : Frame m_effEvgPlayout s.newCycle _ := frame_of_exec hexec
    refine ⟨_, hexec, ?_, frame_keep hframe (by decide +kernel), hframe.keepRegs (by decide +kernel)⟩
    rw [effEvgPlayout_unanchored he cyc late bad hnew, evgMerge_settled (fr_setEvgMerge ..) (by decide +kernel) hi,
      evgMerge_setEvgMerge]
  · have heff := effEvgPlayout_single he hanchored hf hle hheld htaken
    have hexec : exec (.evgPlayout i cyc false false) s = .next (effEvgPlayout i cyc false false s.newCycle) := rfl
    have hframe : Frame m_effEvgPlayout s.newCycle _ := frame_of_exec hexec
    have hqueue := heff ▸ evgMerge_set_settled _ hi (playedOut (keyPlayed (s.newCycle.evgMerge i) e f) f (playedSeg f))
    obtain ⟨hseq, hlast, hplayed, hbothBad, hmissing⟩ := heff ▸ shown_single s.newCycle hi hlt f _
    rw [newCycle_get] at hplayed hbothBad hmissing
    exact ⟨_, hexec, (held_of_queue hqueue).trans (keyPlayed_held (oneKey_single hheld) e), last_of_queue hqueue,
      lastP_of_queue hqueue, out_of_queue hqueue, hseq, hlast, hplayed, hbothBad, hmissing, frame_keep hframe (by decide +kernel),
      hframe.keepRegs (by decide +kernel)⟩
  · have heff := effEvgPlayout_lost he hanchored hf hle hheld late bad hmark hlost
    have hexec : exec (.evgPlayout i cyc late bad) s = .next (effEvgPlayout i cyc late bad s.newCycle) := rfl
    have hframe : Frame m_effEvgPlayout s.newCycle _ := frame_of_exec hexec
    have hqueue := heff ▸ evgMerge_set_settled _ hi ((keyPlayed (s.newCycle.evgMerge i) e f).push 0 true)
    obtain ⟨hmarkErr, hmissing, hplayed⟩ := heff ▸ lost_counted s.newCycle hi hlt f late _
    rw [newCycle_get] at hmarkErr hmissing hplayed
    exact ⟨_, hexec, hmarkErr, (held_of_queue hqueue).trans (keyPlayed_held (oneKey_single hheld) e), last_of_queue hqueue,
      out_of_queue hqueue, hmissing, hplayed, frame_keep hframe (by decide +kernel), hframe.keepRegs (by decide +kernel)⟩
  · have heff := effEvgPlayout_pair he hanchored hf hfle hheld hseq hidx hg hgle htaken hbad hgood hsrc
    have hexec : exec (.evgPlayout i cyc false false) s = .next (effEvgPlayout i cyc false false s.newCycle) := rfl
    have hqueue := heff ▸ evgMerge_set_settled _ hi (playedOut (keyPlayed (s.newCycle.evgMerge i) e f) g ⟨4096, g.data, false⟩)
    obtain ⟨hlast, hbothBad, hbadA, hbadB⟩ := heff ▸ pair_counted s.newCycle hi hlt f g _
    rw [newCycle_get] at hbothBad hbadA hbadB
    exact ⟨_, hexec, (held_of_queue hqueue).trans (keyPlayed_held (oneKey_pair hheld hseq hidx) e), out_of_queue hqueue, hlast,
      hbothBad, hbadA, hbadB⟩
  · have hexec : exec (.evgPlayout i cyc late bad) s = .next (effEvgPlayout i cyc late bad s.newCycle) := rfl
    have heff := effEvgPlayout_missed he late bad hanchored (dueFrame_none hnone) hpast
    have hframe : Frame m_effEvgPlayout s.newCycle ((s.newCycle.inc EVG_M_LOSS_missing i).setEvgMerge i
        (missed (s.newCycle.evgMerge i) e)) :=
      ((Frame.refl ..).incS (by decide +kernel)).step (fr_setEvgMerge ..) (by decide +kernel)
    refine ⟨_, hexec, ?_, ?_⟩
    · rw [heff, evgMerge_settled hframe (by decide +kernel) hi, evgMerge_setEvgMerge]
      rfl
    · rw [heff, missing_counted _ hi hlt, newCycle_get]
  · have hexec : exec (.evgPlayout i cyc late bad) s = .next (effEvgPlayout i cyc late bad s.newCycle) := rfl
    have heff := effEvgPlayout_waits he late bad hanchored (dueFrame_none hnone) hearly
    refine ⟨_, hexec, ?_, ?_⟩
    · rw [heff]
      exact evgMerge_settled (Frame.refl 0 _) (by decide +kernel) hi
    · rw [heff, settleMerge_get _ hi (by decide), newCycle_get]

end Sys2Proof.Evergreen
end

section
/-!
The keys of the wraps (R216), and the frame alignment of a copy (R219).
-/
namespace Sys2Proof.Evergreen

open Sys2Proof.Machine Sys2Proof.Safety Sys2Proof.Scope Sys2Proof.Architecture Sys2Proof.Framing Sys2Proof.Mapping
  Sys2Proof.Fabric Sys2Proof.Images Sys2Proof.Protection
open Sys2Proof.Laws hiding maskOf put

/-! ### An evergreen block boundary -/

/-- A wrap at an evergreen block boundary: its sequence number counts on, and its frames begin with idx 0. -/
def wrapCounted (w : EvgWrap) : EvgWrap := { w with seq := (w.seq + 1) % 2 ^ 32, idx := 0, jump := w.jump - 1 }

/-- The wrap of an entry counts. -/
def countWrap (s : State) (e : Entry) : State :=
  s.setEvgWrap (e.n EVERGREEN_wrap) (wrapCounted (s.evgWrap (e.n EVERGREEN_wrap)))

theorem effEvergreenBlockBoundary_eq (s : State) :
    effEvergreenBlockBoundary s = forEach (s.entries EVERGREEN_wrap) s countWrap := rfl

theorem evgWrap_countWrap (s : State) (e : Entry) (j : Nat) : (countWrap s e).evgWrap j =
    if j = e.n EVERGREEN_wrap then wrapCounted (s.evgWrap (e.n EVERGREEN_wrap)) else s.evgWrap j := tget_tset ..

theorem evgWrap_forEach_countWrap_other {j : Nat} : ∀ (l : List Entry) (s : State), (∀ e ∈ l, e.n EVERGREEN_wrap ≠ j) →
    (forEach l s countWrap).evgWrap j = s.evgWrap j
  | [], _, _ => rfl
  | e :: l, s, h => by
    have hrest := evgWrap_forEach_countWrap_other l (countWrap s e) fun x hx => h x (List.mem_cons_of_mem _ hx)
    have hne : j ≠ e.n EVERGREEN_wrap := (h e List.mem_cons_self).symm
    exact hrest.trans ((evgWrap_countWrap ..).trans (if_neg hne))

/-- Every wrap counts once, as no two entries name the same wrap. -/
theorem evgWrap_forEach_countWrap {e : Entry} {l : List Entry} (hnodup : (l.map (·.n EVERGREEN_wrap)).Nodup) (he : e ∈ l)
    (s : State) : (forEach l s countWrap).evgWrap (e.n EVERGREEN_wrap) = wrapCounted (s.evgWrap (e.n EVERGREEN_wrap)) := by
  induction l generalizing s with
  | nil => cases he
  | cons x l ih =>
    rw [List.map_cons, List.nodup_cons] at hnodup
    obtain ⟨hx, hl⟩ := hnodup
    have hother : ∀ y ∈ l, y.n EVERGREEN_wrap ≠ x.n EVERGREEN_wrap := fun y hy h => hx (List.mem_map.2 ⟨y, hy, h⟩)
    rcases List.mem_cons.1 he with rfl | he
    · exact (evgWrap_forEach_countWrap_other l _ hother).trans ((evgWrap_countWrap ..).trans (if_pos rfl))
    · refine (ih hl he (countWrap s x)).trans ?_
      rw [evgWrap_countWrap, if_neg (hother e he)]

theorem merges_forEach_countWrap (l : List Entry) (s : State) : (forEach l s countWrap).evg.merges = s.evg.merges :=
  forEach_keeps (f := countWrap) (fun t : State => t.evg.merges) (fun _ _ => rfl) l s

theorem mids_forEach_countWrap (l : List Entry) (s : State) : (forEach l s countWrap).evg.mids = s.evg.mids :=
  forEach_keeps (f := countWrap) (fun t : State => t.evg.mids) (fun _ _ => rfl) l s

theorem newCycle_evgWrap (s : State) (j : Nat) : s.newCycle.evgWrap j = s.evgWrap j := by
  unfold State.evgWrap
  rw [newCycle_evg]

theorem newCycle_entries (s : State) (f : ImgFld) : s.newCycle.entries f = s.entries f := by
  unfold State.entries
  rw [newCycle_img]

/-! ### A copy that hunts -/

/-- A copy that is in frame at `pos`. -/
def alignedCopy (c : EvgCopy) (pos : Nat) : EvgCopy :=
  { c with align := { pos := pos }, inFrame := true, foreign := 0, match_ := 0, off := none }

/-- What a copy that comes into frame may change before the merge is settled. -/
def m_copyAligned : Nat := m_setEvgMerge ||| m_report

section
variable {s : State} {i : Nat} {e : Entry} {b : Bool} {found : List Nat} {p : Nat × Nat}

/-- A copy that hunts is in frame once one position alone has matched often enough. -/
theorem effEvgFrameArrival_aligns (he : s.entry EVERGREEN_merge i = some e) (hup : s.copyDown e b = false)
    (hhunts : ((s.evgMerge i).copy b).inFrame = false) (hn : 0 < ((s.evgMerge i).copy b).align.n)
    (halone : ((nextCands ((s.evgMerge i).copy b).align.cands (dedup found)).filter fun x =>
      decide (((s.evgMerge i).copy b).align.n ≤ x.2)) = [p]) (cyc frame : Nat) (tailFull : Bool) :
    ∃ u, effEvgFrameArrival i b cyc frame found tailFull s = u.settleMerge e ∧ Frame m_copyAligned s u ∧
      u.evgMerge i = (s.evgMerge i).setCopy b (alignedCopy ((s.evgMerge i).copy b) p.1) := by
  have hset : Frame m_copyAligned s (s.setEvgMerge i ((s.evgMerge i).setCopy b (alignedCopy ((s.evgMerge i).copy b) p.1))) :=
    (fr_setEvgMerge ..).mono (by decide +kernel)
  have hread : effEvgFrameArrival i b cyc frame found tailFull s =
      (let u := s.setEvgMerge i ((s.evgMerge i).setCopy b (alignedCopy ((s.evgMerge i).copy b) p.1))
       if ((s.evgMerge i).copy b).align.amb = 0 then u
       else u.report kALIGN_AMBIGUOUS [(3, e.n (if b then EVERGREEN_m_copy_b else EVERGREEN_m_copy_a)),
         (2, ((s.evgMerge i).copy b).align.amb)]).settleMerge e := by
    unfold effEvgFrameArrival
    rw [he]
    refine congrArg (State.settleMerge · e) ((if_neg (by rw [hup]; decide)).trans ((if_pos (by rw [hhunts]; rfl)).trans ?_))
    rw [if_neg hn.ne']
    dsimp only
    rw [halone]
    rfl
  rw [hread]
  dsimp only
  split
  · exact ⟨_, rfl, hset, evgMerge_setEvgMerge ..⟩
  · exact ⟨_, rfl, hset.step (fr_report ..) (by decide +kernel),
      (evgMerge_of_evg ((fr_report ..).evg (by decide)) i).trans (evgMerge_setEvgMerge ..)⟩

end

end Sys2Proof.Evergreen
end

section
/-!
A frame that arrives on a copy in frame: its key, the offsets it measures, and its place in the queue (R219 to R228).
-/
namespace Sys2Proof.Evergreen

open Sys2Proof.Machine Sys2Proof.Safety Sys2Proof.Scope Sys2Proof.Architecture Sys2Proof.Framing Sys2Proof.Mapping
  Sys2Proof.Fabric Sys2Proof.Images Sys2Proof.Protection
open Sys2Proof.Laws hiding maskOf put

/-! ### The checks of a frame -/

theorem newCycle_accepts {s : State} {e : Entry} {i : Nat} {b : Bool} {frame : Nat} (h : Accepts s e i b frame) :
    Accepts s.newCycle e i b frame := by
  unfold Accepts State.gl at *
  rwa [newCycle_copyDown, newCycle_evgMerge, newCycle_img]

/-- A copy that has received a good frame of the merge's trib. -/
def heardCopy (c : EvgCopy) : EvgCopy :=
  { c with align := { c.align with errs := 0 }, foreign := 0, match_ := min 3 (c.match_ + 1), wrong := false }

/-- The merge of a good frame that has been accepted. -/
def heard (s : State) (i : Nat) (b : Bool) : State :=
  s.setEvgMerge i ((s.evgMerge i).setCopy b (heardCopy ((s.evgMerge i).copy b)))

/-- An accepted frame that is good is taken. -/
theorem effEvgFrameArrival_takes {s : State} {i : Nat} {e : Entry} {b : Bool} {frame : Nat}
    (he : s.entry EVERGREEN_merge i = some e) (h : Accepts s e i b frame) (cyc : Nat) (found : List Nat) (tailFull : Bool) :
    effEvgFrameArrival i b cyc frame found tailFull s = ((heard s i b).evgTake e b cyc frame true tailFull).settleMerge e := by
  obtain ⟨hup, hin, hwrong, hm, hword, htag, hpayload, htrib⟩ := h
  have htagOk : (bytesAt frame 0 8 == evgWord && crc32c (bytesAt frame 0 60) == beNat (bytesAt frame 60 4)) = true := by
    rw [hword, htag, beq_self_eq_true, beq_self_eq_true]
    rfl
  have hgood : (crc32c (bytesAt frame 64 4096) == beNat (bytesAt frame 56 4)) = true := by rw [hpayload, beq_self_eq_true]
  have hsame : (beNat (bytesAt frame 16 4) == e.n EVERGREEN_m_trib) = true := by rw [htrib, beq_self_eq_true]
  unfold effEvgFrameArrival
  rw [he]
  refine congrArg (State.settleMerge · e) ((if_neg (by rw [hup]; decide)).trans ((if_neg (by rw [hin]; decide)).trans ?_))
  rw [htagOk, hgood, hsame]
  refine (if_neg (not_le.2 hm)).trans ?_
  rw [hwrong]
  rfl

/-! ### The frame that first gives an offset -/

section
variable (m : EvgMerge) (b : Bool) (seq idx : Nat) (p : Int)

/-- A measurement moves no frame into or out of the queue. -/
theorem measure_any : ((m.measure b seq idx p).held.any fun x => x.good && x.seq == seq && x.idx == idx) =
    m.held.any fun x => x.good && x.seq == seq && x.idx == idx := by
  unfold EvgMerge.measure
  split
  · dsimp only
    rw [List.any_map]
    congr 1
    funext x
    dsimp only [Function.comp]
    split_ifs <;> rfl
  · rfl

theorem measure_last : (m.measure b seq idx p).last = m.last := by
  unfold EvgMerge.measure
  cases b <;> split <;> rfl

variable {m} in
/-- A merge that holds no good frame of a key measures nothing by it. -/
theorem measure_of_new (hnew : (m.held.any fun x => x.good && x.seq == seq && x.idx == idx) = false) :
    m.measure b seq idx p = m := by
  unfold EvgMerge.measure
  split
  · next h hfound =>
    have hmem := List.mem_of_find?_eq_some hfound
    have hkey := List.find?_some hfound
    simp only [Bool.and_eq_true] at hkey
    obtain ⟨⟨⟨⟨hseq, hidx⟩, -⟩, hgood⟩, -⟩ := hkey
    have hany := List.any_eq_false.1 hnew h hmem
    rw [hgood, hseq, hidx] at hany
    exact absurd rfl hany
  · rfl

variable {m} in
theorem measure_held_of_queue {n : EvgMerge} (h : queueOf n = queueOf m) :
    (n.measure b seq idx p).held = (m.measure b seq idx p).held := by
  unfold EvgMerge.measure
  rw [held_of_queue h]
  split
  · rfl
  · exact held_of_queue h

end

section
variable {s : State} {e : Entry} {i : Nat} {b : Bool} {seq idx cyc : Nat} {o : Int}

/-- A frame whose key has no instant yet may give one to the frames of the other copy. -/
theorem evgOffset_first (hi : e.n EVERGREEN_merge = i) (hoff : ((s.evgMerge i).copy b).off = some o)
    (hfirst : (s.evgMerge i).instOf b seq idx = none) :
    s.evgOffset e b seq idx cyc = s.setEvgMerge i ((s.evgMerge i).measure (!b) seq idx (cyc + o)) := by
  subst hi
  unfold State.evgOffset
  dsimp only
  rw [hfirst, hoff]

/-- A frame whose key has an instant re-measures its own copy at most. -/
theorem evgOffset_again (hi : e.n EVERGREEN_merge = i) (hoff : ((s.evgMerge i).copy b).off = some o)
    (hagain : (s.evgMerge i).instOf b seq idx ≠ none) : queueOf ((s.evgOffset e b seq idx cyc).evgMerge i) = queueOf (s.evgMerge i) := by
  subst hi
  obtain ⟨p, hp⟩ := Option.ne_none_iff_exists'.1 hagain
  unfold State.evgOffset
  dsimp only
  rw [hp, hoff]
  dsimp only
  split
  · rw [evgMerge_of_evg ((fr_report ..).evg (by decide)), evgMerge_setEvgMerge, queueOf_setCopy]
  · rfl

end

/-! ### A frame that is taken -/

/-- The key of a frame. -/
def seqOf (frame : Nat) : Nat := beNat (bytesAt frame 8 4)
def idxOf (frame : Nat) : Nat := (byteAt frame 12).toNat

/-- A merge that has received a frame in its window on copy `b`. -/
def inWindowOn (m : EvgMerge) (b : Bool) : EvgMerge := m.setCopy b { m.copy b with outRun := 0 }

/-- The merge of a good frame whose key is in the window, its offsets measured. -/
def measured (s : State) (e : Entry) (b : Bool) (cyc frame : Nat) : State :=
  (s.setEvgMerge (e.n EVERGREEN_merge) (inWindowOn (s.evgMerge (e.n EVERGREEN_merge)) b)).evgOffset e b
    (seqOf frame) (idxOf frame) cyc

/-- Whether a merge has played a key or gone past it, or holds a good frame of it. -/
def hasKey (m : EvgMerge) (seq idx : Nat) : Bool :=
  m.behind seq idx || m.held.any fun x => x.good && x.seq == seq && x.idx == idx

section
variable {s : State} {e : Entry} {i : Nat} (hi : e.n EVERGREEN_merge = i) {b : Bool} {cyc frame : Nat}
  (hanchored : (s.evgMerge i).anchored = true)
  (hwindow : ((s.evgMerge i).behind (seqOf frame) (idxOf frame) ||
    (s.evgMerge i).inWindow (seqOf frame)) = true) (tailFull : Bool)
include hi hanchored hwindow

/-- A frame in the window is counted as a duplicate where its key is known, and else stored. -/
theorem evgTake_window : s.evgTake e b cyc frame true tailFull =
    if hasKey ((measured s e b cyc frame).evgMerge i) (seqOf frame) (idxOf frame) then
      (measured s e b cyc frame).inc EVG_M_DUP_dup i
    else match (((measured s e b cyc frame).evgMerge i).copy b).off with
      | some o => (measured s e b cyc frame).evgStore e (heldOf b cyc frame o) tailFull
      | none => (measured s e b cyc frame).evgStore e { heldOf b cyc frame 0 with inst := 0, placed := false } tailFull := by
  subst hi
  have hcond : (!(s.evgMerge (e.n EVERGREEN_merge)).behind (seqOf frame) (idxOf frame) &&
      !(s.evgMerge (e.n EVERGREEN_merge)).inWindow (seqOf frame)) = false := by
    rw [← Bool.not_or, hwindow]
    rfl
  unfold State.evgTake
  refine (if_neg (by rw [hanchored]; decide)).trans ((if_neg (Bool.eq_false_iff.1 hcond)).trans ?_)
  rfl

end

theorem inWindowOn_off (m : EvgMerge) (b : Bool) : ((inWindowOn m b).copy b).off = (m.copy b).off := by
  unfold inWindowOn
  rw [copy_setCopy_same]

theorem queueOf_inWindowOn (m : EvgMerge) (b : Bool) : queueOf (inWindowOn m b) = queueOf m := queueOf_setCopy ..

section
variable {s : State} {e : Entry} {i : Nat} (hi : e.n EVERGREEN_merge = i) {b : Bool} {cyc frame : Nat} {o : Int}
  (hoff : ((s.evgMerge i).copy b).off = some o)
include hi hoff

/-- What is held changes only where a frame's key gives the other copy its offset. -/
theorem measured_merge : ((measured s e b cyc frame).evgMerge i).last = (s.evgMerge i).last ∧
    ((measured s e b cyc frame).evgMerge i).held =
      if (s.evgMerge i).instOf b (seqOf frame) (idxOf frame) = none
      then ((s.evgMerge i).measure (!b) (seqOf frame) (idxOf frame) (cyc + o)).held
      else (s.evgMerge i).held := by
  subst hi
  have hset := evgMerge_setEvgMerge s (e.n EVERGREEN_merge) (inWindowOn (s.evgMerge (e.n EVERGREEN_merge)) b)
  have hqueue := queueOf_inWindowOn (s.evgMerge (e.n EVERGREEN_merge)) b
  have hknown : (((s.setEvgMerge (e.n EVERGREEN_merge) (inWindowOn (s.evgMerge (e.n EVERGREEN_merge)) b)).evgMerge
      (e.n EVERGREEN_merge)).copy b).off = some o := by rw [hset, inWindowOn_off, hoff]
  unfold measured
  split_ifs with hinst
  · rw [evgOffset_first rfl hknown (by rw [hset, instOf_of_queue hqueue, hinst]), evgMerge_setEvgMerge, hset, measure_last]
    exact ⟨last_of_queue hqueue, measure_held_of_queue _ _ _ _ hqueue⟩
  · have hagain := evgOffset_again (cyc := cyc) rfl hknown (by rw [hset, instOf_of_queue hqueue]; exact hinst)
    rw [hset, hqueue] at hagain
    exact ⟨last_of_queue hagain, held_of_queue hagain⟩

theorem measured_hasKey :
    hasKey ((measured s e b cyc frame).evgMerge i) (seqOf frame) (idxOf frame) =
      hasKey (s.evgMerge i) (seqOf frame) (idxOf frame) := by
  obtain ⟨hlast, hheld⟩ := measured_merge (cyc := cyc) (frame := frame) hi hoff
  unfold hasKey EvgMerge.behind
  rw [hlast, hheld]
  split_ifs
  · rw [measure_any]
  · rfl

/-- A new key measures nothing. -/
theorem measured_new (hfirst : (s.evgMerge i).instOf b (seqOf frame) (idxOf frame) = none)
    (hnew : hasKey (s.evgMerge i) (seqOf frame) (idxOf frame) = false) :
    (measured s e b cyc frame).evgMerge i = inWindowOn (s.evgMerge i) b ∧
      (measured s e b cyc frame).middleSlots e = s.middleSlots e := by
  subst hi
  have hset := evgMerge_setEvgMerge s (e.n EVERGREEN_merge) (inWindowOn (s.evgMerge (e.n EVERGREEN_merge)) b)
  have hqueue := queueOf_inWindowOn (s.evgMerge (e.n EVERGREEN_merge)) b
  have hkey := (Bool.or_eq_false_iff.1 hnew).2
  unfold measured
  rw [evgOffset_first rfl (by rw [hset, inWindowOn_off, hoff]) (by rw [hset, instOf_of_queue hqueue, hfirst]), hset,
    measure_of_new _ _ _ _ (by rw [held_of_queue hqueue]; exact hkey)]
  exact ⟨evgMerge_setEvgMerge .., rfl⟩

end

/-! ### The place of a frame in the queue (R225, R227, R228) -/

section
variable {m : EvgMerge} (hanchored : m.anchored = true) (e : Entry) {cap : Nat} {h : EvgHeld}
include hanchored

theorem place_tailFull (hfull : 8 ≤ inPart 0 m.held) : m.place e cap h = .error false := by
  unfold EvgMerge.place
  rw [hanchored]
  exact if_pos hfull

variable {e} (hroom : inPart 0 m.held < 8)
include hroom

theorem place_noSlot (hfar : m.near e h = false) (hcap : cap ≤ inPart 1 m.held) : m.place e cap h = .error true := by
  unfold EvgMerge.place
  rw [hanchored, hfar]
  exact (if_neg (not_le.2 hroom)).trans (if_pos hcap)

/-- A frame stands in the middle, in the head, or where the head is full in the tail. -/
def placed (m : EvgMerge) (e : Entry) (h : EvgHeld) : EvgHeld :=
  if m.near e h = false then { h with part := 1, mark := some h.endMark }
  else if inPart 2 m.held < 8 then { h with part := 2 } else h

theorem place_stores (hplace : m.near e h = true ∨ inPart 1 m.held < cap) : m.place e cap h = .ok (m.held ++ [placed m e h]) := by
  unfold EvgMerge.place placed
  rw [hanchored]
  refine (if_neg (not_le.2 hroom)).trans ?_
  cases hnear : m.near e h with
  | true => rfl
  | false => exact if_neg (not_le.2 (hplace.resolve_left (by rw [hnear]; decide)))

end

section
variable {s : State} {e : Entry} {i : Nat} (hi : e.n EVERGREEN_merge = i) {h : EvgHeld} {tailFull : Bool}
include hi

theorem evgStore_tailFull (hfull : tailFull = true ∨ (s.evgMerge i).place e (s.middleSlots e) h = .error false) :
    s.evgStore e h tailFull = ((s.inc EVG_M_DROP_bp_drop i).inc EVG_DDR_bp_drop).irqSet 261 := by
  subst hi
  unfold State.evgStore
  dsimp only
  rcases hfull with rfl | hplace
  · rfl
  · rw [hplace, ite_self]

theorem evgStore_noSlot (htail : tailFull = false) (hplace : (s.evgMerge i).place e (s.middleSlots e) h = .error true) :
    s.evgStore e h tailFull = (s.inc EVG_M_DROP_ovf i).irqSet 261 := by
  subst hi htail
  unfold State.evgStore
  dsimp only
  rw [if_neg (by decide), hplace]

theorem evgStore_stores (htail : tailFull = false) {held : List EvgHeld}
    (hplace : (s.evgMerge i).place e (s.middleSlots e) h = .ok held) :
    ∃ m, s.evgStore e h tailFull = ((s.setEvgMerge i m).incW EVG_M_QW_written i).setB EVG_M_ST_stored h.copyB i ∧ m.held = held := by
  subst hi htail
  unfold State.evgStore
  dsimp only
  rw [if_neg (by decide), hplace]
  exact ⟨_, rfl, rfl⟩

end

end Sys2Proof.Evergreen
end

section
/-!
What a merge does with an arriving frame: known keys, new keys, and those for which the queue has no place (R222, R225, R227).
-/
namespace Sys2Proof.Evergreen

open Sys2Proof.Machine Sys2Proof.Safety Sys2Proof.Scope Sys2Proof.Architecture Sys2Proof.Framing Sys2Proof.Mapping
  Sys2Proof.Fabric Sys2Proof.Images Sys2Proof.Protection
open Sys2Proof.Laws hiding maskOf put

/-! ### A frame of an accepted copy -/

/-- A good frame arrives on an accepted copy of an anchored merge, whose offset is `o`. -/
structure Arrives (s : State) (i : Nat) (b : Bool) (frame : Nat) (e : Entry) (o : Int) : Prop where
  entry : s.entry EVERGREEN_merge i = some e
  anchored : (s.evgMerge i).anchored = true
  accepts : Accepts s e i b frame
  off : ((s.evgMerge i).copy b).off = some o

theorem Arrives.newCycle {s : State} {i : Nat} {b : Bool} {frame : Nat} {e : Entry} {o : Int} (h : Arrives s i b frame e o) :
    Arrives s.newCycle i b frame e o := by
  obtain ⟨hentry, hanchored, haccepts, hoff⟩ := h
  exact ⟨(newCycle_entry ..).trans hentry, by rwa [newCycle_evgMerge], newCycle_accepts haccepts, by rwa [newCycle_evgMerge]⟩

/-- The merge of an arrived frame, its offsets measured. -/
def arrived (s : State) (i : Nat) (b : Bool) (cyc frame : Nat) (e : Entry) : State := measured (heard s i b) e b cyc frame

theorem arrived_frame (s : State) (i : Nat) (b : Bool) (cyc frame : Nat) (e : Entry) :
    Frame m_evgOffset s (arrived s i b cyc frame e) := by
  have hheard : Frame m_evgOffset s (heard s i b) := (fr_setEvgMerge ..).mono (by decide +kernel)
  exact (hheard.step (fr_setEvgMerge ..) (by decide +kernel)).step (fr_evgOffset ..) (Nat.or_self _)

section
variable {s : State} {i : Nat} {b : Bool} {frame : Nat} {e : Entry} {o : Int} (h : Arrives s i b frame e o) (cyc : Nat)

theorem queueOf_heard (s : State) (i : Nat) (b : Bool) : queueOf ((heard s i b).evgMerge i) = queueOf (s.evgMerge i) := by
  unfold heard
  rw [evgMerge_setEvgMerge, queueOf_setCopy]

theorem heard_off (s : State) (i : Nat) (b : Bool) : (((heard s i b).evgMerge i).copy b).off = ((s.evgMerge i).copy b).off := by
  unfold heard
  rw [evgMerge_setEvgMerge, copy_setCopy_same]
  rfl

theorem hasKey_of_queue {m n : EvgMerge} (h : queueOf n = queueOf m) (seq idx : Nat) : hasKey n seq idx = hasKey m seq idx := by
  exact (congrArg (hasKey · seq idx) h :)

include h

theorem Arrives.held : ((arrived s i b cyc frame e).evgMerge i).held =
    if (s.evgMerge i).instOf b (seqOf frame) (idxOf frame) = none
    then ((s.evgMerge i).measure (!b) (seqOf frame) (idxOf frame) (cyc + o)).held else (s.evgMerge i).held := by
  have hqueue := queueOf_heard s i b
  have hheld := (measured_merge (cyc := cyc) (frame := frame) (merge_of_entry h.entry) ((heard_off s i b).trans h.off)).2
  rwa [instOf_of_queue hqueue, measure_held_of_queue _ _ _ _ hqueue, held_of_queue hqueue] at hheld

theorem Arrives.hasKey_arrived : hasKey ((arrived s i b cyc frame e).evgMerge i) (seqOf frame) (idxOf frame) =
    hasKey (s.evgMerge i) (seqOf frame) (idxOf frame) :=
  (measured_hasKey (merge_of_entry h.entry) ((heard_off s i b).trans h.off)).trans (hasKey_of_queue (queueOf_heard s i b) ..)

section
variable (hfirst : (s.evgMerge i).instOf b (seqOf frame) (idxOf frame) = none)
  (hnew : hasKey (s.evgMerge i) (seqOf frame) (idxOf frame) = false)
include hfirst hnew

/-- A new key leaves the queue as it is, until it is stored. -/
theorem Arrives.unchanged : queueOf ((arrived s i b cyc frame e).evgMerge i) = queueOf (s.evgMerge i) ∧
    (((arrived s i b cyc frame e).evgMerge i).copy b).off = some o ∧
    (arrived s i b cyc frame e).middleSlots e = s.middleSlots e := by
  have hqueue := queueOf_heard s i b
  obtain ⟨hmerge, hslots⟩ := measured_new (cyc := cyc) (frame := frame) (merge_of_entry h.entry) ((heard_off s i b).trans h.off)
    ((instOf_of_queue hqueue ..).trans hfirst) ((hasKey_of_queue hqueue ..).trans hnew)
  unfold arrived
  rw [hmerge, hslots, queueOf_inWindowOn, hqueue, inWindowOn_off, heard_off]
  exact ⟨rfl, h.off, rfl⟩

/-- What the queue answers to the frame is what it answered before the arrival. -/
theorem Arrives.place : ((arrived s i b cyc frame e).evgMerge i).place e ((arrived s i b cyc frame e).middleSlots e)
    (heldOf b cyc frame o) = (s.evgMerge i).place e (s.middleSlots e) (heldOf b cyc frame o) := by
  obtain ⟨hqueue, -, hslots⟩ := h.unchanged cyc hfirst hnew
  rw [hslots, place_of_queue hqueue]

/-- A drop leaves the queue and the count of frames written. -/
theorem Arrives.kept {u : State} (hevg : u.evg = (arrived s i b cyc frame e).evg)
    (hget : u.get EVG_M_QW_written i = (arrived s i b cyc frame e).get EVG_M_QW_written i) :
    ((u.settleMerge e).evgMerge i).held = (s.evgMerge i).held ∧
      (u.settleMerge e).get EVG_M_QW_written i = s.get EVG_M_QW_written i := by
  have hi := merge_of_entry h.entry
  have hqueue := (h.unchanged cyc hfirst hnew).1
  constructor
  · rw [settleMerge_evgMerge _ _ hi, held_of_queue (queueOf_settledCopies ..), evgMerge_of_evg hevg, held_of_queue hqueue]
  · rw [settleMerge_get _ hi (by decide), hget, (arrived_frame ..).get (by decide +kernel)]

end

variable (found : List Nat) (tailFull : Bool)

section
variable (hwindow : ((s.evgMerge i).behind (seqOf frame) (idxOf frame) || (s.evgMerge i).inWindow (seqOf frame)) = true)
include hwindow

/-- A frame whose key is known is discarded. -/
theorem Arrives.duplicate (hknown : hasKey (s.evgMerge i) (seqOf frame) (idxOf frame) = true) :
    effEvgFrameArrival i b cyc frame found tailFull s = ((arrived s i b cyc frame e).inc EVG_M_DUP_dup i).settleMerge e := by
  have hqueue := queueOf_heard s i b
  rw [effEvgFrameArrival_takes h.entry h.accepts, evgTake_window (merge_of_entry h.entry) ((anchored_of_queue hqueue).trans h.anchored)
    (by rw [behind_of_queue hqueue, inWindow_of_queue hqueue]; exact hwindow)]
  exact congrArg (State.settleMerge · e) (if_pos ((h.hasKey_arrived cyc).trans hknown))

/-- A frame with a new key goes to the queue. -/
theorem Arrives.new (hfirst : (s.evgMerge i).instOf b (seqOf frame) (idxOf frame) = none)
    (hnew : hasKey (s.evgMerge i) (seqOf frame) (idxOf frame) = false) :
    effEvgFrameArrival i b cyc frame found tailFull s =
      ((arrived s i b cyc frame e).evgStore e (heldOf b cyc frame o) tailFull).settleMerge e := by
  have hqueue := queueOf_heard s i b
  have hoff := (h.unchanged cyc hfirst hnew).2.1
  unfold arrived at hoff
  rw [effEvgFrameArrival_takes h.entry h.accepts, evgTake_window (merge_of_entry h.entry) ((anchored_of_queue hqueue).trans h.anchored)
    (by rw [behind_of_queue hqueue, inWindow_of_queue hqueue]; exact hwindow), hoff]
  refine congrArg (State.settleMerge · e) (if_neg ?_)
  exact Bool.eq_false_iff.1 ((h.hasKey_arrived cyc).trans hnew)

end

/-! ### What becomes of the frame -/

section
variable (hlt : i < 4096) (hwindow : ((s.evgMerge i).behind (seqOf frame) (idxOf frame) || (s.evgMerge i).inWindow (seqOf frame)) = true)
include hlt hwindow

theorem Arrives.discards (hknown : hasKey (s.evgMerge i) (seqOf frame) (idxOf frame) = true) :
    let t := effEvgFrameArrival i b cyc frame found tailFull s
    (t.evgMerge i).held = (if (s.evgMerge i).instOf b (seqOf frame) (idxOf frame) = none
      then ((s.evgMerge i).measure (!b) (seqOf frame) (idxOf frame) (cyc + o)).held else (s.evgMerge i).held) ∧
    t.get EVG_M_DUP_dup i = min (s.get EVG_M_DUP_dup i + 1) (top EVG_M_DUP_dup) := by
  have hi := merge_of_entry h.entry
  dsimp only
  rw [h.duplicate cyc found tailFull hwindow hknown, ← h.held cyc]
  constructor
  · rw [settleMerge_evgMerge _ _ hi, held_of_queue (queueOf_settledCopies ..), evgMerge_of_evg (State.inc_evg ..)]
  · rw [settleMerge_get _ hi (by decide), get_inc _ _ _ hlt (by decide), (arrived_frame ..).get (by decide +kernel)]

variable (hfirst : (s.evgMerge i).instOf b (seqOf frame) (idxOf frame) = none)
  (hnew : hasKey (s.evgMerge i) (seqOf frame) (idxOf frame) = false)
include hfirst hnew

theorem Arrives.stored (htail : tailFull = false) (hroom : inPart 0 (s.evgMerge i).held < 8)
    (hplace : (s.evgMerge i).near e (heldOf b cyc frame o) = true ∨ inPart 1 (s.evgMerge i).held < s.middleSlots e) :
    let t := effEvgFrameArrival i b cyc frame found tailFull s
    (t.evgMerge i).held = (s.evgMerge i).held ++ [placed (s.evgMerge i) e (heldOf b cyc frame o)] ∧
    t.get EVG_M_QW_written i = (s.get EVG_M_QW_written i + 1) % 2 ^ 32 ∧ t.on EVG_M_ST_stored i = b := by
  have hi := merge_of_entry h.entry
  obtain ⟨m, hstore, hheld⟩ := evgStore_stores hi htail
    ((h.place cyc hfirst hnew).trans (place_stores h.anchored hroom hplace))
  dsimp only
  rw [h.new cyc found tailFull hwindow hfirst hnew, hstore]
  refine ⟨?_, ?_, ?_⟩
  · rw [settleMerge_evgMerge _ _ hi, held_of_queue (queueOf_settledCopies ..), evgMerge_of_evg (State.setB_evg ..),
      evgMerge_of_evg (State.incW_evg ..), evgMerge_setEvgMerge, hheld]
  · rw [settleMerge_get _ hi (by decide), get_setB_disjoint _ (by decide), get_incW _ hlt (by decide), setEvgMerge_get,
      (arrived_frame ..).get (by decide +kernel)]
    rfl
  · unfold State.on
    rw [settleMerge_get _ hi (by decide)]
    exact State.on_setB_same _ _ _ _ hlt (by decide) (by decide)

theorem Arrives.noSlot (htail : tailFull = false) (hroom : inPart 0 (s.evgMerge i).held < 8)
    (hfar : (s.evgMerge i).near e (heldOf b cyc frame o) = false) (hcap : s.middleSlots e ≤ inPart 1 (s.evgMerge i).held) :
    let t := effEvgFrameArrival i b cyc frame found tailFull s
    (t.evgMerge i).held = (s.evgMerge i).held ∧ t.get EVG_M_QW_written i = s.get EVG_M_QW_written i ∧
    t.get EVG_M_DROP_ovf i = min (s.get EVG_M_DROP_ovf i + 1) (top EVG_M_DROP_ovf) := by
  have hi := merge_of_entry h.entry
  have hstore := evgStore_noSlot hi htail ((h.place cyc hfirst hnew).trans (place_noSlot h.anchored hroom hfar hcap))
  dsimp only
  rw [h.new cyc found tailFull hwindow hfirst hnew, hstore]
  obtain ⟨hheld, hwritten⟩ := h.kept cyc hfirst hnew (u := ((arrived s i b cyc frame e).inc EVG_M_DROP_ovf i).irqSet 261)
    (((fr_irqSet ..).evg (by decide)).trans (State.inc_evg ..)) (by rw [irqSet_get, get_inc_disjoint _ (by decide)])
  refine ⟨hheld, hwritten, ?_⟩
  rw [settleMerge_get _ hi (by decide), irqSet_get, get_inc _ _ _ hlt (by decide), (arrived_frame ..).get (by decide +kernel)]

theorem Arrives.noRoom (hfull : tailFull = true ∨ 8 ≤ inPart 0 (s.evgMerge i).held) :
    let t := effEvgFrameArrival i b cyc frame found tailFull s
    (t.evgMerge i).held = (s.evgMerge i).held ∧ t.get EVG_M_QW_written i = s.get EVG_M_QW_written i ∧
    t.get EVG_M_DROP_bp_drop i = min (s.get EVG_M_DROP_bp_drop i + 1) (top EVG_M_DROP_bp_drop) ∧
    t.get EVG_DDR_bp_drop = min (s.get EVG_DDR_bp_drop + 1) (top EVG_DDR_bp_drop) := by
  have hi := merge_of_entry h.entry
  have hstore := evgStore_tailFull (tailFull := tailFull) hi (hfull.imp_right fun htail =>
    (h.place cyc hfirst hnew).trans (place_tailFull h.anchored e htail))
  dsimp only
  rw [h.new cyc found tailFull hwindow hfirst hnew, hstore]
  obtain ⟨hheld, hwritten⟩ := h.kept cyc hfirst hnew
    (u := (((arrived s i b cyc frame e).inc EVG_M_DROP_bp_drop i).inc EVG_DDR_bp_drop).irqSet 261)
    (((fr_irqSet ..).evg (by decide)).trans ((State.inc_evg ..).trans (State.inc_evg ..)))
    (by rw [irqSet_get, get_inc_distant _ (by decide), get_inc_disjoint _ (by decide)])
  refine ⟨hheld, hwritten, ?_, ?_⟩
  · rw [settleMerge_get _ hi (by decide), irqSet_get, get_inc_distant _ (by decide), get_inc _ _ _ hlt (by decide),
      (arrived_frame ..).get (by decide +kernel)]
  · rw [(fr_settleMerge ..).get (by decide +kernel), irqSet_get, get_inc _ _ _ (by decide) (by decide),
      get_inc_distant _ (by decide), (arrived_frame ..).get (by decide +kernel)]

end

end

/-! ### The statement -/

/-- Settles O42: the block boundary, a copy that comes into frame, and the frames that are discarded, stored and dropped. -/
theorem evergreenArrivals : Obligations.EvergreenArrivals := by
  unfold Obligations.EvergreenArrivals
  refine ⟨fun s hnodup => ?_, fun i b cyc frame found tailFull e p s he hup hhunts hn halone => ?_,
    fun i b cyc frame found tailFull e o q k h s he hlt hanchored haccepts hoff hh hq hk => ?_⟩
  · have hexec : exec .evergreenBlockBoundary s = .next (effEvergreenBlockBoundary s.newCycle) := rfl
    have hframe : Frame m_effEvergreenBlockBoundary s.newCycle _ := frame_of_exec hexec
    rw [← newCycle_entries s] at hnodup ⊢
    refine ⟨_, hexec, fun e he => ?_, ?_, ?_, frame_keep hframe (by decide +kernel), hframe.keepRegs (by decide +kernel)⟩
    · rw [← newCycle_evgWrap s, effEvergreenBlockBoundary_eq]
      exact evgWrap_forEach_countWrap hnodup he s.newCycle
    · exact (merges_forEach_countWrap ..).trans (by rw [newCycle_evg])
    · exact (mids_forEach_countWrap ..).trans (by rw [newCycle_evg])
  · have hi := merge_of_entry he
    have hexec : exec (.evgFrameArrival i b cyc frame found tailFull) s =
      .next (effEvgFrameArrival i b cyc frame found tailFull s.newCycle) := rfl
    rw [← newCycle_evgMerge s i] at *
    obtain ⟨u, heff, hu, hmerge⟩ := effEvgFrameArrival_aligns ((newCycle_entry ..).trans he) ((newCycle_copyDown ..).trans hup)
      hhunts hn halone cyc frame tailFull
    have hframe : Frame (m_copyAligned ||| m_settleMerge) s.newCycle (u.settleMerge e) :=
      (hu.mono (by decide +kernel)).step (fr_settleMerge ..) (by decide +kernel)
    have hsettled := evgMerge_settled hu (by decide +kernel) hi
    rw [hmerge] at hsettled
    refine ⟨_, hexec, ?_, ?_, ?_, ?_, ?_, ?_, ?_⟩
    all_goals rw [heff]
    · rw [hsettled, settledCopies_copy, (settledCopy_align _ hup).2, copy_setCopy_same]
      rfl
    · rw [hsettled, settledCopies_copy, (settledCopy_align _ hup).1, copy_setCopy_same]
      rfl
    · rw [hsettled, settledCopies_copy, settledCopy_off, copy_setCopy_same]
      rfl
    · rw [hsettled, settledCopies_copy, settledCopies_copy, settledCopy_setCopy_not]
    · rw [hsettled, held_of_queue (queueOf_settledCopies ..), held_of_queue (queueOf_setCopy ..)]
    · exact frame_keep hframe (by decide +kernel)
    · exact hframe.keepRegs (by decide +kernel)
  · subst hh hq hk
    have h := (Arrives.mk he hanchored haccepts hoff).newCycle
    have hexec : exec (.evgFrameArrival i b cyc frame found tailFull) s =
      .next (effEvgFrameArrival i b cyc frame found tailFull s.newCycle) := rfl
    have hframe : Frame m_effEvgFrameArrival s.newCycle _ := frame_of_exec hexec
    rw [← newCycle_evgMerge s i, ← newCycle_middleSlots s]
    simp only [← newCycle_get s]
    refine ⟨_, hexec, fun hknown => ?_, fun hahead hin hfirst hother => ?_, frame_keep hframe (by decide +kernel),
      hframe.keepRegs (by decide +kernel)⟩
    · refine h.discards cyc found tailFull hlt ?_ (Bool.or_eq_true_iff.2 (hknown.imp_right And.right))
      exact Bool.or_eq_true_iff.2 (hknown.imp_right And.left)
    · have hwindow : ((s.newCycle.evgMerge i).behind (seqOf frame) (idxOf frame) ||
          (s.newCycle.evgMerge i).inWindow (seqOf frame)) = true := Bool.or_eq_true_iff.2 (.inr hin)
      have hnew : hasKey (s.newCycle.evgMerge i) (seqOf frame) (idxOf frame) = false := Bool.or_eq_false_iff.2 ⟨hahead, hother⟩
      exact ⟨h.stored cyc found tailFull hlt hwindow hfirst hnew, h.noSlot cyc found tailFull hlt hwindow hfirst hnew,
        h.noRoom cyc found tailFull hlt hwindow hfirst hnew⟩

end Sys2Proof.Evergreen
end

section
/-!
The closed rounds of twig tags (R244, R245).
-/
namespace Sys2Proof.Integrity

open Sys2Proof.Machine Sys2Proof.Safety Sys2Proof.Scope Sys2Proof.Architecture Sys2Proof.Framing Sys2Proof.Mapping
  Sys2Proof.Evergreen
open Sys2Proof.Laws hiding maskOf put

theorem gl_of_img {s t : State} (h : t.img = s.img) (f : ImgFld) : t.gl f = s.gl f := by
  unfold State.gl
  rw [h]

/-! ### A judged circuit -/

/-- The runs of a circuit after an errored round: the clean run ends, and the error run goes up. -/
def erredRuns (s : State) (c : Nat) : State := (s.set PIT_CTX_ST_ok_run 0 c).inc PIT_CTX_ST_err_run c

/-- The runs of a circuit after a clean round. -/
def cleanRuns (s : State) (c : Nat) : State := (s.set PIT_CTX_ST_err_run 0 c).inc PIT_CTX_ST_ok_run c

/-- The declaration of a circuit, with its record. -/
def declTold (s : State) (c : Nat) : State := (s.declare c true none).report kTWIG_FAULT [(3, c)]

/-- A circuit whose runs an errored round has set: at twig_errs errored rounds it is declared faulty. -/
def erredJudged (s : State) (c : Nat) : State :=
  if s.on PIT_CTX_ST_faulty c || decide (s.get PIT_CTX_ST_err_run c < s.gl INTEGRITY_twig_errs) then s else declTold s c

/-- A circuit whose runs a clean round has set: at twig_clr clean rounds its declaration ends. -/
def cleanJudged (s : State) (c : Nat) : State :=
  if s.on PIT_CTX_ST_faulty c && decide (s.gl INTEGRITY_twig_clr ≤ s.get PIT_CTX_ST_ok_run c) then s.undeclare c true else s

/-- The round of a host closes, and the groups take what it has found. -/
def roundClosed (h : Nat) (s : State) : State := (s.setHost h { s.hostSt h with rOut := true, rErr := [] }).settleGroups

/-- A round of a host with one circuit. -/
theorem effTwigRoundEnd_one {s : State} {h : Nat} {e : Entry} (hout : (s.hostSt h).rOut = false)
    (hfnum : (s.hostSt h).fnum.map (· % 4) = some 3) (hen : s.gl INTEGRITY_twig_en = 1) (hcirc : s.circuits h = [e]) :
    effTwigRoundEnd h s = roundClosed h
      (if (twigsOf e).any fun t => (s.hostSt h).rErr.contains t then erredJudged (erredRuns s (e.n MAPPING_ctx)) (e.n MAPPING_ctx)
       else cleanJudged (cleanRuns s (e.n MAPPING_ctx)) (e.n MAPPING_ctx)) := by
  unfold effTwigRoundEnd
  dsimp only
  rw [if_neg (by simp [hout, hfnum, hen]), hcirc]
  rfl

/-- The runs of a context. -/
def runFlds : List Fld := [PIT_CTX_ST_err_run, PIT_CTX_ST_ok_run]

/-- The fields that a round shows. -/
def roundFlds : List Fld := [PIT_CTX_ST_faulty, PIT_CNT_decl, PIT_LAST_ctx, PIT_LAST_twig] ++ runFlds

theorem roundFlds_apart : ∀ f ∈ roundFlds, Laws.apart m_settleGroups f = true := by decide +kernel

/-- The settling of the groups leaves what the round has shown. -/
theorem roundClosed_get (h : Nat) (s : State) {f : Fld} (hf : f ∈ roundFlds) (n : Nat) :
    (roundClosed h s).get f n = s.get f n := ((fr_settleGroups _).get (roundFlds_apart f hf) n).trans (setHost_get ..)

theorem roundClosed_on (h : Nat) (s : State) {f : Fld} (hf : f ∈ roundFlds) (n : Nat) : (roundClosed h s).on f n = s.on f n := by
  unfold State.on
  rw [roundClosed_get h s hf]

theorem roundClosed_rErr (h : Nat) (s : State) : ((roundClosed h s).hostSt h).rErr = [] := by
  unfold roundClosed
  rw [hostSt_of_tw ((fr_settleGroups _).tw (by decide)), hostSt_setHost, if_pos rfl]

/-! ### The runs -/

section
variable (s : State) {c : Nat} (hc : c < 262144)

theorem erredRuns_gl (f : ImgFld) : (erredRuns s c).gl f = s.gl f := gl_of_img ((State.inc_img ..).trans (State.set_img ..)) f

theorem cleanRuns_gl (f : ImgFld) : (cleanRuns s c).gl f = s.gl f := gl_of_img ((State.inc_img ..).trans (State.set_img ..)) f

theorem erredRuns_on_faulty : (erredRuns s c).on PIT_CTX_ST_faulty c = s.on PIT_CTX_ST_faulty c := by
  unfold erredRuns State.on
  rw [get_inc_disjoint _ (by decide), get_set_disjoint _ (by decide)]

theorem cleanRuns_on_faulty : (cleanRuns s c).on PIT_CTX_ST_faulty c = s.on PIT_CTX_ST_faulty c := by
  unfold cleanRuns State.on
  rw [get_inc_disjoint _ (by decide), get_set_disjoint _ (by decide)]

theorem erredRuns_decl : (erredRuns s c).get PIT_CNT_decl = s.get PIT_CNT_decl := by
  unfold erredRuns
  rw [get_inc_distant _ (by decide), get_set_distant _ (by decide)]

theorem cleanRuns_decl : (cleanRuns s c).get PIT_CNT_decl = s.get PIT_CNT_decl := by
  unfold cleanRuns
  rw [get_inc_distant _ (by decide), get_set_distant _ (by decide)]

include hc

theorem erredRuns_runs : (erredRuns s c).get PIT_CTX_ST_ok_run c = 0 ∧
    (erredRuns s c).get PIT_CTX_ST_err_run c = min (s.get PIT_CTX_ST_err_run c + 1) (top PIT_CTX_ST_err_run) := by
  unfold erredRuns
  rw [get_inc_disjoint _ (by decide), get_set_context hc (by decide), get_inc _ _ _ hc (by decide),
    get_set_disjoint _ (by decide)]
  exact ⟨Nat.zero_mod _, rfl⟩

theorem cleanRuns_runs : (cleanRuns s c).get PIT_CTX_ST_err_run c = 0 ∧
    (cleanRuns s c).get PIT_CTX_ST_ok_run c = min (s.get PIT_CTX_ST_ok_run c + 1) (top PIT_CTX_ST_ok_run) := by
  unfold cleanRuns
  rw [get_inc_disjoint _ (by decide), get_set_context hc (by decide), get_inc _ _ _ hc (by decide),
    get_set_disjoint _ (by decide)]
  exact ⟨Nat.zero_mod _, rfl⟩

end

/-! ### A declaration of a circuit, and its end -/

/-- What a declaration shows. -/
def declShown (s : State) (c : Nat) : State :=
  ((((s.setB PIT_CTX_ST_faulty true c).inc PIT_SUM_twig_faulty).setB PIT_LAST_twig true).set PIT_LAST_ctx c).inc PIT_CNT_decl

theorem declare_twig_get (s : State) (c : Nat) (f : Fld) (n : Nat) :
    (s.declare c true none).get f n = (declShown s c).get f n := rfl

section
variable (s : State) {c : Nat}

theorem declTold_get {f : Fld} (hf : Laws.apart m_report f = true) (n : Nat) : (declTold s c).get f n = (declShown s c).get f n :=
  ((fr_report ..).get hf n).trans (declare_twig_get ..)

theorem declTold_run {f : Fld} (hf : f ∈ runFlds) : (declTold s c).get f c = s.get f c := by
  obtain ⟨hreport, hbits, hsum, hlast, hctx, hdecl⟩ : Laws.apart m_report f = true ∧ disjoint PIT_CTX_ST_faulty f = true ∧
      distant PIT_SUM_twig_faulty f = true ∧ distant PIT_LAST_twig f = true ∧ distant PIT_LAST_ctx f = true ∧
      distant PIT_CNT_decl f = true := by
    revert f
    decide +kernel
  rw [declTold_get s hreport, declShown, get_inc_distant _ hdecl, get_set_distant _ hctx, State.setB, get_set_distant _ hlast,
    get_inc_distant _ hsum, get_setB_disjoint _ hbits]

theorem declTold_faulty (hc : c < 262144) : (declTold s c).on PIT_CTX_ST_faulty c = true := by
  unfold State.on
  rw [declTold_get s (by decide +kernel), declShown, get_inc_distant _ (by decide), get_set_distant _ (by decide), State.setB,
    get_set_distant _ (by decide), get_inc_distant _ (by decide), State.setB, get_set_context hc (by decide)]
  rfl

theorem declTold_last (hc : c < 262144) : (declTold s c).get PIT_LAST_ctx = c ∧ (declTold s c).on PIT_LAST_twig = true := by
  unfold State.on
  rw [declTold_get s (by decide +kernel), declTold_get s (by decide +kernel), declShown, get_inc_disjoint _ (by decide),
    get_inc_disjoint _ (by decide), State.get_set_same _ _ _ _ (by decide) (by decide), get_set_disjoint _ (by decide), State.setB,
    State.get_set_same _ _ _ _ (by decide) (by decide)]
  exact ⟨Nat.mod_eq_of_lt hc, rfl⟩

theorem declTold_decl : (declTold s c).get PIT_CNT_decl = min (s.get PIT_CNT_decl + 1) (top PIT_CNT_decl) := by
  rw [declTold_get s (by decide +kernel), declShown, get_inc _ _ _ (by decide) (by decide), get_set_disjoint _ (by decide),
    get_setB_disjoint _ (by decide), get_inc_disjoint _ (by decide), State.setB, get_set_distant _ (by decide)]

/-- The end of a declaration moves no field but faulty, the sums of declarations and the count of their ends. -/
theorem undeclare_get (twig : Bool) {f : Fld} {n : Nat} (hreport : Laws.apart m_report f = true)
    (hclr : ∀ t : State, (t.inc PIT_CNT_clr).get f n = t.get f n) (hsum : Laws.apart m_forgetFaults f = true) :
    (s.undeclare c twig).get f n = (s.setB PIT_CTX_ST_faulty false c).get f n := by
  unfold State.undeclare
  rw [(fr_report ..).get hreport, hclr, (fr_forgetFaults ..).get hsum]

theorem undeclare_run (twig : Bool) {f : Fld} (hf : f ∈ runFlds) : (s.undeclare c twig).get f c = s.get f c := by
  obtain ⟨hreport, hclr, hsum, hbits⟩ : Laws.apart m_report f = true ∧ distant PIT_CNT_clr f = true ∧
      Laws.apart m_forgetFaults f = true ∧ disjoint PIT_CTX_ST_faulty f = true := by
    revert f
    decide +kernel
  rw [undeclare_get s twig hreport (fun t => get_inc_distant t hclr ..) hsum, get_setB_disjoint _ hbits]

theorem undeclare_faulty (twig : Bool) (hc : c < 262144) : (s.undeclare c twig).on PIT_CTX_ST_faulty c = false := by
  unfold State.on
  rw [undeclare_get s twig (by decide +kernel) (fun t => get_inc_distant t (by decide) ..) (by decide +kernel), State.setB,
    get_set_context hc (by decide)]
  rfl

theorem undeclare_decl (twig : Bool) : (s.undeclare c twig).get PIT_CNT_decl = s.get PIT_CNT_decl := by
  rw [undeclare_get s twig (by decide +kernel) (fun t => get_inc_disjoint t (by decide) ..) (by decide +kernel), State.setB,
    get_set_distant _ (by decide)]

end

/-! ### The judgement -/

section
variable (s : State) {c : Nat}

theorem erredJudged_run {f : Fld} (hf : f ∈ runFlds) : (erredJudged s c).get f c = s.get f c := by
  unfold erredJudged
  split
  · rfl
  · exact declTold_run s hf

theorem cleanJudged_run {f : Fld} (hf : f ∈ runFlds) : (cleanJudged s c).get f c = s.get f c := by
  unfold cleanJudged
  split
  · exact undeclare_run s true hf
  · rfl

theorem cleanJudged_decl : (cleanJudged s c).get PIT_CNT_decl = s.get PIT_CNT_decl := by
  unfold cleanJudged
  split
  · exact undeclare_decl s true
  · rfl

theorem erredJudged_faulty (hc : c < 262144) : (erredJudged s c).on PIT_CTX_ST_faulty c =
    (s.on PIT_CTX_ST_faulty c || decide (s.gl INTEGRITY_twig_errs ≤ s.get PIT_CTX_ST_err_run c)) := by
  unfold erredJudged
  split
  · next h =>
    rw [Bool.or_eq_true, decide_eq_true_eq] at h
    rcases h with h | h
    · rw [h, Bool.true_or]
    · rw [decide_eq_false (by omega), Bool.or_false]
  · next h =>
    rw [Bool.or_eq_true, decide_eq_true_eq, not_or, Nat.not_lt] at h
    rw [decide_eq_true h.2, Bool.or_true]
    exact declTold_faulty s hc

theorem cleanJudged_faulty (hc : c < 262144) : (cleanJudged s c).on PIT_CTX_ST_faulty c =
    (s.on PIT_CTX_ST_faulty c && decide (s.get PIT_CTX_ST_ok_run c < s.gl INTEGRITY_twig_clr)) := by
  unfold cleanJudged
  split
  · next h =>
    rw [Bool.and_eq_true, decide_eq_true_eq] at h
    rw [decide_eq_false (by omega), Bool.and_false]
    exact undeclare_faulty s true hc
  · next h =>
    cases hfaulty : s.on PIT_CTX_ST_faulty c
    · rfl
    · rw [hfaulty, Bool.true_and, decide_eq_true_eq, Nat.not_le] at h
      rw [decide_eq_true h]
      rfl

/-- The round that reaches twig_errs declares a circuit that was not declared. -/
theorem erredJudged_declares (hfaulty : s.on PIT_CTX_ST_faulty c = false)
    (herrs : s.gl INTEGRITY_twig_errs ≤ s.get PIT_CTX_ST_err_run c) : erredJudged s c = declTold s c :=
  if_neg (by simp [hfaulty, herrs])

end

/-! ### The round that closes -/

section
variable (s : State) (h : Nat) {c : Nat} (hc : c < 262144)
include hc

/-- A clean round ends the run of errors, and may end the declaration (R245). -/
theorem cleanRound_shows {t : State} (ht : t = roundClosed h (cleanJudged (cleanRuns s c) c)) :
    t.get PIT_CTX_ST_err_run c = 0 ∧
    t.get PIT_CTX_ST_ok_run c = min (s.get PIT_CTX_ST_ok_run c + 1) (top PIT_CTX_ST_ok_run) ∧
    t.on PIT_CTX_ST_faulty c = (s.on PIT_CTX_ST_faulty c && decide (t.get PIT_CTX_ST_ok_run c < s.gl INTEGRITY_twig_clr)) ∧
    t.get PIT_CNT_decl = s.get PIT_CNT_decl := by
  obtain ⟨herr, hok⟩ := cleanRuns_runs s hc
  have hrun : t.get PIT_CTX_ST_ok_run c = (cleanRuns s c).get PIT_CTX_ST_ok_run c := by
    rw [ht, roundClosed_get _ _ (by decide), cleanJudged_run _ (by decide)]
  refine ⟨?_, hrun.trans hok, ?_, ?_⟩
  · rw [ht, roundClosed_get _ _ (by decide), cleanJudged_run _ (by decide), herr]
  · rw [hrun, ht, roundClosed_on _ _ (by decide), cleanJudged_faulty _ hc, cleanRuns_on_faulty, cleanRuns_gl]
  · rw [ht, roundClosed_get _ _ (by decide), cleanJudged_decl, cleanRuns_decl]

/-- An errored round ends the run of clean ones, and may declare the circuit (R245). -/
theorem erredRound_shows {t : State} (ht : t = roundClosed h (erredJudged (erredRuns s c) c)) :
    t.get PIT_CTX_ST_ok_run c = 0 ∧
    t.get PIT_CTX_ST_err_run c = min (s.get PIT_CTX_ST_err_run c + 1) (top PIT_CTX_ST_err_run) ∧
    t.on PIT_CTX_ST_faulty c = (s.on PIT_CTX_ST_faulty c || decide (s.gl INTEGRITY_twig_errs ≤ t.get PIT_CTX_ST_err_run c)) ∧
    (s.on PIT_CTX_ST_faulty c = false → s.gl INTEGRITY_twig_errs ≤ t.get PIT_CTX_ST_err_run c →
      t.get PIT_LAST_ctx = c ∧ t.on PIT_LAST_twig = true ∧
      t.get PIT_CNT_decl = min (s.get PIT_CNT_decl + 1) (top PIT_CNT_decl)) := by
  obtain ⟨hok, herr⟩ := erredRuns_runs s hc
  have hrun : t.get PIT_CTX_ST_err_run c = (erredRuns s c).get PIT_CTX_ST_err_run c := by
    rw [ht, roundClosed_get _ _ (by decide), erredJudged_run _ (by decide)]
  refine ⟨?_, hrun.trans herr, ?_, fun hfaulty herrs => ?_⟩
  · rw [ht, roundClosed_get _ _ (by decide), erredJudged_run _ (by decide), hok]
  · rw [hrun, ht, roundClosed_on _ _ (by decide), erredJudged_faulty _ hc, erredRuns_on_faulty, erredRuns_gl]
  · rw [hrun, ← erredRuns_gl] at herrs
    rw [erredJudged_declares _ (by rwa [erredRuns_on_faulty]) herrs] at ht
    obtain ⟨hlast, htwig⟩ := declTold_last (erredRuns s c) hc
    rw [ht, roundClosed_get _ _ (by decide), roundClosed_on _ _ (by decide), roundClosed_get _ _ (by decide), declTold_decl,
      erredRuns_decl]
    exact ⟨hlast, htwig, rfl⟩

end

/-- Settles O41: a round of one circuit sets its runs, and the run that grew decides the declaration. -/
theorem twigRounds : Obligations.TwigRounds := by
  unfold Obligations.TwigRounds
  rintro h e c s hout hfnum hen hcirc rfl hc
  have hin : s.newCycle.hostSt h = s.hostSt h := hostSt_of_tw (newCycle_tw s) h
  have hgl : ∀ f, s.newCycle.gl f = s.gl f := gl_of_img (newCycle_img s)
  have heff := effTwigRoundEnd_one (s := s.newCycle) (h := h) (e := e) (by rwa [hin]) (by rwa [hin]) (by rwa [hgl])
    (by unfold State.circuits; rwa [newCycle_img])
  have hframe := fr_effTwigRoundEnd h s.newCycle
  rw [hin] at heff
  refine ⟨_, rfl, fun hclean => ?_, fun herred => ?_, ?_, frame_keep hframe (by decide +kernel), hframe.keepRegs (by decide +kernel)⟩
  · rw [if_neg (by simpa using hclean)] at heff
    have hshown := cleanRound_shows s.newCycle h hc heff
    rwa [newCycle_get, newCycle_on, newCycle_get, hgl] at hshown
  · rw [if_pos (by simpa using herred)] at heff
    have hshown := erredRound_shows s.newCycle h hc heff
    rwa [newCycle_get, newCycle_on, newCycle_get, hgl] at hshown
  · rw [heff, roundClosed_rErr]

end Sys2Proof.Integrity
end

section
/-!
The fields of one check-value unit (Table 9-8), and the algorithms of Table 9-5.
-/
namespace Sys2Proof.Integrity

open Sys2Proof.Machine Sys2Proof.Safety Sys2Proof.Scope Sys2Proof.Architecture Sys2Proof.Framing Sys2Proof.Evergreen
open Sys2Proof.Laws hiding maskOf put

/-! ### Fields of units -/

/-- A field of the registers of the check-value units (Table 9-8). -/
def unitFld (f : Fld) : Bool :=
  f.stride == 0x40 && f.count == 64 && decide (0x50000 ≤ f.base) && decide (f.base < 0x50040) && decide (f.hi < 32)

/-- A field of a unit reads back what was written to it, cut to its width. -/
theorem get_set_unit {u : Nat} (hu : u < 64) {f : Fld} (h : f.count = 64 ∧ f.hi < 32) (s : State) (v : Nat) :
    (s.set f v u).get f u = v % 2 ^ (f.hi + 1 - f.lo) :=
  State.get_set_same s f v u (by omega) h.2

theorem get_inc_unit {u : Nat} (hu : u < 64) {f : Fld} (h : f.count = 64 ∧ f.hi < 32) (s : State) :
    (s.inc f u).get f u = min (s.get f u + 1) (top f) := get_inc s f u (by omega) h.2

theorem on_setB_unit {u : Nat} (hu : u < 64) {f : Fld} (h : f.count = 64 ∧ f.hi < 32 ∧ f.lo = f.hi) (s : State) (b : Bool) :
    (s.setB f b u).on f u = b := State.on_setB_same s f b u (by omega) h.2.1 h.2.2

theorem get_set64_disjoint {f f' g : Fld} (s : State) (h : disjoint f g = true) (h' : disjoint f' g = true) (v n : Nat) :
    (s.set64 f f' v n).get g n = s.get g n := (get_set_disjoint _ h' ..).trans (get_set_disjoint _ h ..)

/-- A quantity of two words of a unit reads back what was written to it. -/
theorem get64_set64_unit {u : Nat} (hu : u < 64) {f g : Fld} (hf : f.count = 64 ∧ f.hi = 31 ∧ f.lo = 0)
    (hg : g.count = 64 ∧ g.hi = 31 ∧ g.lo = 0) (hfg : disjoint g f = true) (s : State) {v : Nat} (hv : v < 2 ^ 64) :
    (s.set64 f g v u).get64 f g u = v := by
  obtain ⟨hfc, hfh, hfl⟩ := hf
  obtain ⟨hgc, hgh, hgl⟩ := hg
  unfold State.get64 State.set64
  rw [get_set_disjoint _ hfg, get_set_unit hu ⟨hfc, by omega⟩, get_set_unit hu ⟨hgc, by omega⟩, hfh, hfl, hgh, hgl]
  exact (mod_two_words v 32).trans (Nat.mod_eq_of_lt hv)

/-- A write of a field of one unit leaves the fields of another. -/
theorem get_set_otherUnit {x u : Nat} (hne : x ≠ u) {f g : Fld} (hf : unitFld f = true) (hg : unitFld g = true) (s : State)
    (v : Nat) : (s.set f v x).get g u = s.get g u := by
  simp only [unitFld, Bool.and_eq_true, beq_iff_eq, decide_eq_true_eq] at hf hg
  obtain ⟨⟨⟨⟨hfs, -⟩, hfb⟩, hfb'⟩, hf32⟩ := hf
  obtain ⟨⟨⟨⟨hgs, -⟩, hgb⟩, hgb'⟩, -⟩ := hg
  refine State.get_set_apart s f g v x u hf32 (.inl ?_)
  unfold Fld.key
  rw [hfs, hgs]
  omega

theorem cvuVal_lt (s : State) (u : Nat) : s.cvuVal u < 2 ^ 64 := by
  have hlo := get_lt s CVU_VAL_LO_val_lo u
  have hhi := get_lt s CVU_VAL_HI_val_hi u
  simp only [CVU_VAL_LO_val_lo, CVU_VAL_HI_val_hi] at hlo hhi
  unfold State.cvuVal State.get64
  simp only [CVU_VAL_LO_val_lo, CVU_VAL_HI_val_hi]
  omega

/-! ### Working registers have 64 bits -/

theorem timesN_lt {f : Nat → Nat} {N : Nat} (hf : ∀ x < N, f x < N) : ∀ n x, x < N → timesN f n x < N
  | 0, _, hx => hx
  | n + 1, x, hx => timesN_lt hf n (f x) (hf x hx)

theorem crcBitR_lt {poly : Nat} (hp : poly < 2 ^ 64) (x : Nat) (hx : x < 2 ^ 64) : crcBitR poly x < 2 ^ 64 := by
  have hhalf : x / 2 < 2 ^ 64 := by omega
  unfold crcBitR
  split
  · exact Nat.xor_lt_two_pow hhalf hp
  · exact hhalf

theorem crcBitL_lt {w poly : Nat} (hw : w ≤ 64) (hp : poly < 2 ^ 64) (x : Nat) : crcBitL w poly x < 2 ^ 64 := by
  have hcut : x * 2 % 2 ^ w < 2 ^ 64 :=
    Nat.lt_of_lt_of_le (Nat.mod_lt _ (Nat.two_pow_pos w)) (Nat.pow_le_pow_right (by decide) hw)
  unfold crcBitL
  split
  · exact Nat.xor_lt_two_pow hcut hp
  · exact hcut

/-- A byte keeps a working register within 64 bits, whatever the algorithm (Table 9-5). -/
theorem crcByte_lt (a : Nat) {x : Nat} (hx : x < 2 ^ 64) (b : Byte) : crcByte a x b < 2 ^ 64 := by
  have hb : b.toNat < 2 ^ 8 := b.isLt
  have hR : ∀ poly < 2 ^ 64, crcByteR poly x b < 2 ^ 64 := fun poly hp =>
    timesN_lt (crcBitR_lt hp) 8 _ (Nat.xor_lt_two_pow hx (by omega))
  have hL : ∀ w ≤ 64, ∀ poly < 2 ^ 64, crcByteL w poly x b < 2 ^ 64 := fun w hw poly hp =>
    crcBitL_lt hw hp _
  unfold crcByte
  split
  · exact hR _ (by decide)
  · exact hR _ (by decide)
  · exact hL _ (by decide) _ (by decide)
  · exact hL _ (by decide) _ (by decide)

theorem crcFeed_lt (a : Nat) (l : List Byte) {x : Nat} (hx : x < 2 ^ 64) : crcFeed a x l < 2 ^ 64 := by
  induction l generalizing x with
  | nil => exact hx
  | cons b l ih => exact ih (crcByte_lt a hx b)

theorem crcInit_lt (a : Nat) : crcInit a < 2 ^ 64 := by
  unfold crcInit
  split <;> decide

theorem crcFinal_lt (a : Nat) : crcFinal a < 2 ^ 64 := by
  unfold crcFinal
  split <;> decide

end Sys2Proof.Integrity
end

section
/-!
The windows of a check-value unit (R249).
-/
namespace Sys2Proof.Integrity

open Sys2Proof.Machine Sys2Proof.Safety Sys2Proof.Scope Sys2Proof.Architecture Sys2Proof.Framing Sys2Proof.Evergreen
open Sys2Proof.Laws hiding maskOf put

/-! ### A window that closes -/

/-- The result of the window of a unit. -/
def windowResult (s : State) (u : Nat) : Nat := s.cvuVal u ^^^ crcFinal (s.get CVU_CTL_poly u)

/-- A unit whose result is latched, its working register reloaded, its bytes cleared and its window counted. -/
def windowEnded (s : State) (u : Nat) : State :=
  (((s.set64 CVU_RES_LO_res_lo CVU_RES_HI_res_hi (windowResult s u) u).set64 CVU_VAL_LO_val_lo CVU_VAL_HI_val_hi
    (crcInit (s.get CVU_CTL_poly u)) u).set CVU_CNT_cnt 0 u).incW CVU_ST_windows u

/-- A unit in read mode has a result to read; one that was not read is overrun. -/
def readyShown (s : State) (u : Nat) : State :=
  (if s.on CVU_ST_ready u then s.setB CVU_ST_overrun true u else s).setB CVU_ST_ready true u

/-- A unit in native mode whose result differs from the expected one. -/
def mismatchTold (s : State) (u : Nat) : State :=
  ((s.setB CVU_ST_mismatch true u).inc CVU_MIS_CNT_mis u).report kCVU_MISMATCH [(1, u)]

theorem cvuClose_eq (s : State) (u : Nat) : s.cvuClose u =
    if (windowEnded s u).on CVU_CTL_mode u then readyShown (windowEnded s u) u
    else if windowResult s u = (windowEnded s u).get64 CVU_EXP_LO_exp_lo CVU_EXP_HI_exp_hi u then windowEnded s u
    else mismatchTold (windowEnded s u) u := rfl

theorem effCvuWindowClose_closes {s : State} {u : Nat} (hu : u < 64) (hwin : s.get CVU_CTL_win u ≠ 0)
    (hlen : s.get CVU_CTL_win u = 3 → 0 < s.get CVU_LEN_len u ∧ s.get CVU_LEN_len u ≤ s.get CVU_CNT_cnt u) :
    effCvuWindowClose u s = s.cvuClose u := by
  refine if_neg ?_
  rintro (h | h | ⟨h, h'⟩)
  · omega
  · exact hwin h
  · have := hlen h
    omega

/-- What every window that closes leaves in the unit. -/
structure WindowClosed (s t : State) (u : Nat) : Prop where
  result : t.get64 CVU_RES_LO_res_lo CVU_RES_HI_res_hi u = windowResult s u
  value : t.cvuVal u = crcInit (s.get CVU_CTL_poly u)
  cnt : t.get CVU_CNT_cnt u = 0
  windows : t.get CVU_ST_windows u = (s.get CVU_ST_windows u + 1) % 2 ^ 16

/-- The fields that WindowClosed speaks of. -/
def closedFlds : List Fld :=
  [CVU_RES_LO_res_lo, CVU_RES_HI_res_hi, CVU_VAL_LO_val_lo, CVU_VAL_HI_val_hi, CVU_CNT_cnt, CVU_ST_windows]

theorem WindowClosed.congr {s t t' : State} {u : Nat} (h : WindowClosed s t u) (ht : ∀ f ∈ closedFlds, t'.get f u = t.get f u) :
    WindowClosed s t' u where
  result := by rw [← h.result]; simp only [State.get64, ht CVU_RES_LO_res_lo (by decide), ht CVU_RES_HI_res_hi (by decide)]
  value := by
    rw [← h.value]
    simp only [State.cvuVal, State.get64, ht CVU_VAL_LO_val_lo (by decide), ht CVU_VAL_HI_val_hi (by decide)]
  cnt := (ht _ (by decide)).trans h.cnt
  windows := (ht _ (by decide)).trans h.windows

section
variable (s : State) {u : Nat}

theorem windowEnded_closed (hu : u < 64) : WindowClosed s (windowEnded s u) u := by
  have hres : windowResult s u < 2 ^ 64 := Nat.xor_lt_two_pow (cvuVal_lt s u) (crcFinal_lt _)
  unfold windowEnded
  constructor
  · unfold State.get64
    simp (disch := decide) only [get_incW_disjoint, get_set_disjoint, get_set64_disjoint]
    exact get64_set64_unit hu (by decide) (by decide) (by decide) s hres
  · unfold State.cvuVal State.get64
    simp (disch := decide) only [get_incW_disjoint, get_set_disjoint]
    exact get64_set64_unit hu (by decide) (by decide) (by decide) _ (crcInit_lt _)
  · simp (disch := decide) only [get_incW_disjoint]
    exact (get_set_unit hu (by decide) ..).trans (Nat.zero_mod _)
  · rw [get_incW _ hu (by decide)]
    simp (disch := decide) only [get_set_disjoint, get_set64_disjoint]
    rfl

/-- A field that the end of a window leaves. -/
def outlasts (f : Fld) : Bool :=
  disjoint CVU_ST_windows f && closedFlds.all fun g => disjoint g f

theorem windowEnded_get {f : Fld} (hf : outlasts f = true) : (windowEnded s u).get f u = s.get f u := by
  simp only [outlasts, closedFlds, Bool.and_eq_true, List.all_cons] at hf
  obtain ⟨hwin, hrl, hrh, hvl, hvh, hcnt, -⟩ := hf
  unfold windowEnded
  rw [get_incW_disjoint _ hwin, get_set_disjoint _ hcnt, get_set64_disjoint _ hvl hvh, get_set64_disjoint _ hrl hrh]

theorem windowEnded_on {f : Fld} (hf : outlasts f = true) : (windowEnded s u).on f u = s.on f u := by
  unfold State.on
  rw [windowEnded_get s hf]

/-- A window closes in read mode. -/
theorem cvuClose_read (hmode : s.on CVU_CTL_mode u = true) : s.cvuClose u = readyShown (windowEnded s u) u := by
  rw [cvuClose_eq, windowEnded_on s (by decide), if_pos hmode]

/-- A window closes in native mode with a result that differs from the expected one. -/
theorem cvuClose_differs (hmode : s.on CVU_CTL_mode u = false)
    (hres : windowResult s u ≠ s.get64 CVU_EXP_LO_exp_lo CVU_EXP_HI_exp_hi u) :
    s.cvuClose u = mismatchTold (windowEnded s u) u := by
  have hexp : (windowEnded s u).get64 CVU_EXP_LO_exp_lo CVU_EXP_HI_exp_hi u = s.get64 CVU_EXP_LO_exp_lo CVU_EXP_HI_exp_hi u := by
    unfold State.get64
    rw [windowEnded_get s (by decide), windowEnded_get s (by decide)]
  rw [cvuClose_eq, windowEnded_on s (by decide), if_neg (by rw [hmode]; decide), hexp, if_neg hres]

theorem readyShown_get {f : Fld} (hready : disjoint CVU_ST_ready f = true) (hover : disjoint CVU_ST_overrun f = true) :
    (readyShown s u).get f u = s.get f u := by
  unfold readyShown
  rw [get_setB_disjoint _ hready, get_ite, get_setB_disjoint _ hover, ite_self]

theorem mismatchTold_get {f : Fld} (hreport : Laws.apart m_report f = true) (hmis : disjoint CVU_ST_mismatch f = true)
    (hcnt : disjoint CVU_MIS_CNT_mis f = true) : (mismatchTold s u).get f u = s.get f u := by
  unfold mismatchTold
  rw [(fr_report ..).get hreport, get_inc_disjoint _ hcnt, get_setB_disjoint _ hmis]

theorem closedFlds_apart : ∀ f ∈ closedFlds, Laws.apart m_report f = true ∧ disjoint CVU_ST_mismatch f = true ∧
    disjoint CVU_MIS_CNT_mis f = true ∧ disjoint CVU_ST_ready f = true ∧ disjoint CVU_ST_overrun f = true := by decide +kernel

/-- Whatever the mode, a window that closes ends so. -/
theorem cvuClose_closed (hu : u < 64) : WindowClosed s (s.cvuClose u) u := by
  have hended := windowEnded_closed s hu
  rw [cvuClose_eq]
  split
  · refine hended.congr fun f hf => ?_
    obtain ⟨-, -, -, hready, hover⟩ := closedFlds_apart f hf
    exact readyShown_get _ hready hover
  · split
    · exact hended
    · refine hended.congr fun f hf => ?_
      obtain ⟨hreport, hmis, hcnt, -⟩ := closedFlds_apart f hf
      exact mismatchTold_get _ hreport hmis hcnt

theorem readyShown_shows (hu : u < 64) : (readyShown s u).on CVU_ST_ready u = true ∧
    (readyShown s u).on CVU_ST_overrun u = (s.on CVU_ST_overrun u || s.on CVU_ST_ready u) ∧
    (readyShown s u).on CVU_ST_mismatch u = s.on CVU_ST_mismatch u ∧
    (readyShown s u).get CVU_MIS_CNT_mis u = s.get CVU_MIS_CNT_mis u := by
  have hover : (readyShown s u).on CVU_ST_overrun u =
      (if s.on CVU_ST_ready u then s.setB CVU_ST_overrun true u else s).on CVU_ST_overrun u := by
    unfold readyShown State.on
    rw [get_setB_disjoint _ (by decide)]
  refine ⟨on_setB_unit hu (by decide) .., ?_, ?_, readyShown_get _ (by decide) (by decide)⟩
  · rw [hover]
    cases s.on CVU_ST_ready u
    · exact (Bool.or_false _).symm
    · exact (on_setB_unit hu (by decide) ..).trans (Bool.or_true _).symm
  · unfold State.on
    rw [readyShown_get _ (by decide) (by decide)]

theorem mismatchTold_shows (hu : u < 64) : (mismatchTold s u).on CVU_ST_mismatch u = true ∧
    (mismatchTold s u).get CVU_MIS_CNT_mis u = min (s.get CVU_MIS_CNT_mis u + 1) (top CVU_MIS_CNT_mis) := by
  unfold mismatchTold
  rw [(fr_report ..).on (by decide +kernel), (fr_report ..).get (by decide +kernel), get_inc_unit hu (by decide),
    get_setB_disjoint _ (by decide)]
  refine ⟨?_, rfl⟩
  unfold State.on
  rw [get_inc_disjoint _ (by decide)]
  exact on_setB_unit hu (by decide) ..

end

/-- CVU_WINDOW_CLOSE of a unit whose window may close (R249). -/
theorem execCvuWindowClose_closes {u : Nat} {s : State} (hu : u < 64) (hwin : s.get CVU_CTL_win u ≠ 0)
    (hlen : s.get CVU_CTL_win u = 3 → 0 < s.get CVU_LEN_len u ∧ s.get CVU_LEN_len u ≤ s.get CVU_CNT_cnt u) :
    exec (.cvuWindowClose u) s = .next (s.newCycle.cvuClose u) :=
  congrArg Host.Outcome.next (effCvuWindowClose_closes hu (by rwa [newCycle_get]) (by simpa only [newCycle_get] using hlen))

end Sys2Proof.Integrity
end

section
/-!
The bytes that a check-value unit absorbs (R247, R250).
-/
namespace Sys2Proof.Integrity

open Sys2Proof.Machine Sys2Proof.Safety Sys2Proof.Scope Sys2Proof.Architecture Sys2Proof.Framing Sys2Proof.Evergreen
open Sys2Proof.Laws hiding maskOf put

/-! ### One byte -/

/-- A unit with one more byte in its working register and in its count. -/
def byteTaken (s : State) (u : Nat) (b : Byte) : State :=
  (s.set64 CVU_VAL_LO_val_lo CVU_VAL_HI_val_hi (crcByte (s.get CVU_CTL_poly u) (s.cvuVal u) b) u).inc CVU_CNT_cnt u

/-- A window of code 3 that has absorbed its bytes. -/
abbrev WindowFull (s : State) (u : Nat) : Prop :=
  s.get CVU_CTL_win u = 3 ∧ s.get CVU_LEN_len u ≠ 0 ∧ s.get CVU_LEN_len u ≤ s.get CVU_CNT_cnt u

/-- One byte, which may end a window. -/
def byteFed (u : Nat) (s : State) (b : Byte) : State :=
  if WindowFull (byteTaken s u b) u then (byteTaken s u b).cvuClose u else byteTaken s u b

theorem cvuFeed_eq (s : State) (u : Nat) (l : List Byte) : s.cvuFeed u l = forEach l s (byteFed u) := rfl

section
variable (s : State) {u : Nat}

/-- A byte moves no field of its unit but the working register and the count. -/
theorem byteTaken_get (b : Byte) {f : Fld} (hlo : disjoint CVU_VAL_LO_val_lo f = true) (hhi : disjoint CVU_VAL_HI_val_hi f = true)
    (hcnt : disjoint CVU_CNT_cnt f = true) : (byteTaken s u b).get f u = s.get f u := by
  unfold byteTaken
  rw [get_inc_disjoint _ hcnt, get_set64_disjoint _ hlo hhi]

theorem byteTaken_cvuVal (hu : u < 64) (b : Byte) :
    (byteTaken s u b).cvuVal u = crcByte (s.get CVU_CTL_poly u) (s.cvuVal u) b := by
  unfold byteTaken State.cvuVal State.get64
  rw [get_inc_disjoint _ (by decide), get_inc_disjoint _ (by decide)]
  exact get64_set64_unit hu (by decide) (by decide) (by decide) s (crcByte_lt _ (cvuVal_lt s u) b)

theorem byteTaken_cnt (hu : u < 64) (b : Byte) :
    (byteTaken s u b).get CVU_CNT_cnt u = min (s.get CVU_CNT_cnt u + 1) (top CVU_CNT_cnt) := by
  unfold byteTaken
  rw [get_inc_unit hu (by decide), get_set64_disjoint _ (by decide) (by decide)]

theorem byteTaken_keep (b : Byte) : Keep s (byteTaken s u b) [] :=
  keep_trans (keep_trans (keep_set ..) (keep_set ..)) (keep_set ..)

/-- The registers that bytes of an open window move. -/
def feedKeys (u : Nat) : List Nat := [at_ CVU_VAL_LO_val_lo u, at_ CVU_VAL_HI_val_hi u, at_ CVU_CNT_cnt u]

theorem byteTaken_keepRegs (b : Byte) : KeepRegs s (byteTaken s u b) (feedKeys u) [] := by
  have hset : ∀ (t : State) (f : Fld) (v : Nat), at_ f u ∈ feedKeys u → KeepRegs t (t.set f v u) (feedKeys u) [] :=
    fun t f v hf => keepRegs_mono (keepRegs_set t f v u) (by simpa using hf) fun _ h => h
  exact keepRegs_trans (keepRegs_trans (hset s _ _ (by simp [feedKeys])) (hset _ _ _ (by simp [feedKeys])))
    (hset _ CVU_CNT_cnt _ (by simp [feedKeys]))

end

/-! ### The bytes of a cycle -/

/-- No window of the unit ends by its length. -/
abbrev OpenWindow (s : State) (u : Nat) : Prop := s.get CVU_CTL_win u = 3 → s.get CVU_LEN_len u = 0

section
variable {s : State} {u : Nat}

theorem byteFed_open (h : OpenWindow s u) (b : Byte) : byteFed u s b = byteTaken s u b := by
  refine if_neg ?_
  rintro ⟨hwin, hlen, -⟩
  rw [byteTaken_get _ _ (by decide) (by decide) (by decide)] at hwin hlen
  exact hlen (h hwin)

theorem byteTaken_open (h : OpenWindow s u) (b : Byte) : OpenWindow (byteTaken s u b) u := by
  unfold OpenWindow
  rwa [byteTaken_get _ _ (by decide) (by decide) (by decide), byteTaken_get _ _ (by decide) (by decide) (by decide)]

/-- Every byte goes into the working register by the algorithm selected, and is counted (R247, R248). -/
theorem cvuFeed_open (hu : u < 64) (l : List Byte) (h : OpenWindow s u) :
    (s.cvuFeed u l).cvuVal u = crcFeed (s.get CVU_CTL_poly u) (s.cvuVal u) l ∧
    (s.cvuFeed u l).get CVU_CNT_cnt u = min (s.get CVU_CNT_cnt u + l.length) (top CVU_CNT_cnt) ∧
    Keep s (s.cvuFeed u l) [] ∧ KeepRegs s (s.cvuFeed u l) (feedKeys u) [] := by
  induction l generalizing s with
  | nil => exact ⟨rfl, (Nat.min_eq_left (get_le_top ..)).symm, keep_refl .., fun _ _ _ _ => rfl⟩
  | cons b l ih =>
    have hstep : s.cvuFeed u (b :: l) = (byteTaken s u b).cvuFeed u l := by
      rw [← byteFed_open h b]
      rfl
    obtain ⟨hval, hcnt, hkeep, hregs⟩ := ih (byteTaken_open h b)
    rw [byteTaken_cvuVal _ hu, byteTaken_get _ _ (by decide) (by decide) (by decide)] at hval
    rw [byteTaken_cnt _ hu] at hcnt
    rw [hstep]
    refine ⟨hval, ?_, keep_trans (byteTaken_keep ..) hkeep, keepRegs_trans (byteTaken_keepRegs s b) hregs⟩
    rw [hcnt, List.length_cons]
    omega

end

/-! ### Other units -/

section
variable {x u : Nat} (hne : x ≠ u) {f : Fld} (hf : unitFld f = true ∧ Laws.apart m_report f = true) (s : State)
include hne hf

theorem get_set64_otherUnit {g g' : Fld} (hg : unitFld g = true) (hg' : unitFld g' = true) (v : Nat) :
    (s.set64 g g' v x).get f u = s.get f u :=
  (get_set_otherUnit hne hg' hf.1 ..).trans (get_set_otherUnit hne hg hf.1 ..)

theorem windowEnded_otherUnit : (windowEnded s x).get f u = s.get f u := by
  unfold windowEnded State.incW
  rw [get_set_otherUnit hne (by decide) hf.1, get_set_otherUnit hne (by decide) hf.1,
    get_set64_otherUnit hne hf _ (by decide) (by decide), get_set64_otherUnit hne hf _ (by decide) (by decide)]

theorem readyShown_otherUnit : (readyShown s x).get f u = s.get f u := by
  unfold readyShown State.setB
  rw [get_set_otherUnit hne (by decide) hf.1, get_ite, get_set_otherUnit hne (by decide) hf.1, ite_self]

theorem mismatchTold_otherUnit : (mismatchTold s x).get f u = s.get f u := by
  unfold mismatchTold State.inc State.setB
  rw [(fr_report ..).get hf.2, get_set_otherUnit hne (by decide) hf.1, get_set_otherUnit hne (by decide) hf.1]

theorem cvuClose_otherUnit : (s.cvuClose x).get f u = s.get f u := by
  have hended := windowEnded_otherUnit hne hf s
  rw [cvuClose_eq]
  split
  · exact (readyShown_otherUnit hne hf _).trans hended
  · split
    · exact hended
    · exact (mismatchTold_otherUnit hne hf _).trans hended

theorem byteFed_otherUnit (b : Byte) : (byteFed x s b).get f u = s.get f u := by
  have htaken : (byteTaken s x b).get f u = s.get f u := by
    unfold byteTaken State.inc
    rw [get_set_otherUnit hne (by decide) hf.1, get_set64_otherUnit hne hf _ (by decide) (by decide)]
  unfold byteFed
  split
  · exact (cvuClose_otherUnit hne hf _).trans htaken
  · exact htaken

/-- What one unit absorbs leaves the fields of another. -/
theorem cvuFeed_otherUnit (l : List Byte) : (s.cvuFeed x l).get f u = s.get f u :=
  forEach_keeps (fun t : State => t.get f u) (fun t b => byteFed_otherUnit hne hf t b) l s

omit hne in
/-- A write on the bus matrix leaves the fields of every unit that is not of source 5. -/
theorem cvuWord_otherSource (hsrc : s.get CVU_CTL_src u ≠ 5) (m a be : Nat) (data : Word) :
    (s.cvuWord m a be data).get f u = s.get f u := by
  have hunits : ∀ x ∈ s.cvusOf 5, x ≠ u := by
    rintro x hx rfl
    unfold State.cvusOf at hx
    simp only [List.mem_filter, Bool.and_eq_true, beq_iff_eq] at hx
    exact hsrc hx.2.2
  unfold State.cvuWord State.cvuBus
  clear hsrc
  generalize s.cvusOf 5 = l at hunits ⊢
  induction l generalizing s with
  | nil => rfl
  | cons x l ih =>
    refine (ih _ fun y hy => hunits y (List.mem_cons_of_mem _ hy)).trans ?_
    dsimp only
    split
    · rfl
    · exact cvuFeed_otherUnit (hunits x List.mem_cons_self) hf s _

end

end Sys2Proof.Integrity
end

section
/-!
The accesses of a check-value unit: the write of its count (R250), and the read of its result (R249).
-/
namespace Sys2Proof.Integrity

open Sys2Proof.Machine Sys2Proof.Safety Sys2Proof.Scope Sys2Proof.Architecture Sys2Proof.Framing Sys2Proof.Evergreen
open Sys2Proof.Laws hiding maskOf put

/-! ### The write of the count -/

/-- The register CVU_CNT, and CVU_RES_HI. -/
def cntReg : RegDef := ⟨0x050030, 0x40, 64, [(31, 0, .rw)]⟩
def resHiReg : RegDef := ⟨0x05002C, 0x40, 64, [(31, 0, .ro)]⟩

/-- A write of all four bytes of CVU_CNT takes the written word. -/
theorem written_cnt (sec : Bool) (w data : Word) : written sec cntReg 15 data w = data := by
  refine BitVec.eq_of_getLsbD_eq fun i hi => ?_
  rw [getLsbD_written_inside (f := (31, 0, .rw)) (by decide) _ _ _ _ (by decide) ⟨Nat.zero_le i, Nat.le_of_lt_succ hi⟩,
    testBit_fifteen hi]
  rfl

section
variable {u : Nat} (hu : u < 64)
include hu

theorem cvuKey_cnt : CvuKey u (at_ CVU_CNT_cnt u) := by simp only [CvuKey, at_, CVU_CNT_cnt]; omega

theorem cvuKey_resHi : CvuKey u (at_ CVU_RES_HI_res_hi u) := by simp only [CvuKey, at_, CVU_RES_HI_res_hi]; omega

theorem regAt_cnt : regAt (at_ CVU_CNT_cnt u) = some (cntReg, u) :=
  regAt_key (r := cntReg) (by decide +kernel) (by decide) (by decide +kernel) hu

theorem regAt_resHi : regAt (at_ CVU_RES_HI_res_hi u) = some (resHiReg, u) :=
  regAt_key (r := resHiReg) (by decide +kernel) (by decide) (by decide +kernel) hu

theorem writeKey_cnt (s : State) (host sec : Bool) (m : Nat) (data : Word) :
    s.writeKey host sec m (at_ CVU_CNT_cnt u) 15 data = (s.setReg (at_ CVU_CNT_cnt u) data).cvuCheck u m := by
  have hk := cvuKey_cnt hu
  have hoff : at_ CVU_CNT_cnt u % 0x40 = 0x30 := by simp only [at_, CVU_CNT_cnt]; omega
  have hw : s.cvuWritable u (at_ CVU_CNT_cnt u) 31 = true := by simp [State.cvuWritable, hoff]
  have hr := regAt_cnt hu
  have hv := hk.cvuAt
  have hc := hk.chanOf
  have ho := hk.ownerAt
  have hp := hk.pcSelAt
  have hlow : lowOf (at_ CVU_CNT_cnt u) = none := by
    unfold lowOf
    rw [if_neg (by simp only [at_, CVU_CNT_cnt]; omega), if_neg (by omega)]
  have hfields : ({ cntReg with fields := cntReg.fields.filter fun f => s.cvuWritable u (at_ CVU_CNT_cnt u) f.1 } : RegDef) =
      cntReg := by
    simp [cntReg, hw]
  have hwritten := written_cnt sec (s.reg (at_ CVU_CNT_cnt u)) data
  unfold CvuKey at hk
  generalize at_ CVU_CNT_cnt u = k at *
  unfold State.writeKey
  simp only [hr, hv, hc, ho, hp, hlow, hfields, hwritten]
  rw [if_neg (by omega), if_neg (by omega), if_neg (by omega), if_neg (by omega), if_neg (by omega)]

end

theorem cvuRefused_otherSource {s : State} {u : Nat} (h : s.get CVU_CTL_src u ≠ 5) : s.cvuRefused u = false := by
  unfold State.cvuRefused State.cvuSecure
  rw [beq_eq_false_iff_ne.2 h, Bool.false_and, Bool.and_false]

/-- A unit with a count written to it. -/
def cntWritten (s : State) (u : Nat) (data : Word) : State := s.setReg (at_ CVU_CNT_cnt u) data

section
variable (s : State) {u : Nat} (data : Word)

theorem cntWritten_get {f : Fld} (hf : unitFld f = true) (hbase : f.base ≠ CVU_CNT_cnt.base) (n : Nat) :
    (cntWritten s u data).get f n = s.get f n := by
  refine State.get_of_reg ?_
  simp only [unitFld, Bool.and_eq_true, beq_iff_eq, decide_eq_true_eq] at hf
  obtain ⟨⟨⟨⟨hs, -⟩, hb⟩, hb'⟩, -⟩ := hf
  unfold cntWritten
  rw [State.reg_setReg, if_neg]
  simp only [Fld.key, at_, CVU_CNT_cnt, hs] at hbase ⊢
  omega

theorem cntWritten_cnt (hu : u < 64) : (cntWritten s u data).get CVU_CNT_cnt u = data.toNat := by
  have hkey : (cntWritten s u data).reg (CVU_CNT_cnt.key u) = data := State.reg_setReg_same ..
  rw [State.get_eq, hkey, if_pos (c := u < CVU_CNT_cnt.count) hu]
  unfold bitsOf
  simp only [CVU_CNT_cnt]
  have hlt := data.isLt
  omega

theorem cntWritten_frame (hu : u < 64) : Frame m_cvuWord s (cntWritten s u data) :=
  Frame.setReg _ _ _ fun _ hj => covered_ne (f := CVU_CNT_cnt) (by decide +kernel) hj hu

theorem cntWritten_noBusUnit (h : NoBusUnit s) : NoBusUnit (cntWritten s u data) := by
  intro x hx hon
  unfold State.on at hon
  rw [cntWritten_get s data (by decide) (by decide)] at hon ⊢
  exact h x hx hon

end

/-- The state in which the bytes of the cycle arrive: the count is written, and the units of source 5 have absorbed the write. -/
def cntAbsorbed (s : State) (src : Src) (u : Nat) (data : Word) : State :=
  (cntWritten s u data).cvuWord (srcMaster src) (0x10000000 + at_ CVU_CNT_cnt u) 15 data

/-- The fields that decide what a unit does with a byte, and its working register. -/
def feedFlds : List Fld :=
  [CVU_CTL_enable, CVU_CTL_src, CVU_CTL_poly, CVU_CTL_win, CVU_LEN_len, CVU_VAL_LO_val_lo, CVU_VAL_HI_val_hi]

theorem feedFlds_unit : ∀ f ∈ feedFlds, (unitFld f = true ∧ Laws.apart m_report f = true) ∧ f.base ≠ CVU_CNT_cnt.base := by
  decide +kernel

section
variable {s : State} {u : Nat} (src : Src) (data : Word) (hsrc : s.get CVU_CTL_src u ≠ 5)
include hsrc

theorem cntAbsorbed_eq {f : Fld} (hf : unitFld f = true ∧ Laws.apart m_report f = true) :
    (cntAbsorbed s src u data).get f u = (cntWritten s u data).get f u :=
  cvuWord_otherSource hf _ (by rwa [cntWritten_get s data (by decide) (by decide)]) ..

theorem cntAbsorbed_get {f : Fld} (hf : f ∈ feedFlds) : (cntAbsorbed s src u data).get f u = s.get f u := by
  obtain ⟨hunit, hbase⟩ := feedFlds_unit f hf
  rw [cntAbsorbed_eq src data hsrc hunit, cntWritten_get s data hunit.1 hbase]

theorem cntAbsorbed_cnt (hu : u < 64) : (cntAbsorbed s src u data).get CVU_CNT_cnt u = data.toNat := by
  rw [cntAbsorbed_eq src data hsrc (by decide +kernel), cntWritten_cnt s data hu]

/-- The write of the count, and then the bytes of its cycle. -/
theorem effCvuValWrite_cnt (hu : u < 64) (bytes : List Byte) (hon : s.on CVU_CTL_enable u = true) (howner : s.cvuOwner u ≠ 2) :
    effCvuValWrite src u 0x30 15 data false bytes s.newCycle = (cntAbsorbed s.newCycle src u data).cvuFeed u bytes := by
  have hnew : s.newCycle.get CVU_CTL_src u ≠ 5 := by rwa [newCycle_get]
  have hkey : 0x50000 + 0x40 * u + 0x30 = at_ CVU_CNT_cnt u := by simp only [at_, CVU_CNT_cnt]; omega
  have hcheck : ∀ m, (cntWritten s.newCycle u data).cvuCheck u m = cntWritten s.newCycle u data := cvuCheck_of_not_refused
    fun _ => cvuRefused_otherSource (by rwa [cntWritten_get _ data (by decide) (by decide)])
  have hwrite : s.newCycle.writeBar src (at_ CVU_CNT_cnt u) 15 data = cntAbsorbed s.newCycle src u data := by
    rw [writeBar_cvu hu (cvuKey_cnt hu) (by omega) (fun h => absurd h howner), writeKey_cnt hu]
    exact congrArg (fun t : State => t.cvuWord (srcMaster src) (0x10000000 + at_ CVU_CNT_cnt u) 15 data) (hcheck _)
  have htakes : ((cntAbsorbed s.newCycle src u data).on CVU_CTL_enable u &&
      !(cntAbsorbed s.newCycle src u data).cvuRefused u) = true := by
    rw [cvuRefused_otherSource (by rwa [cntAbsorbed_get src data hnew (by decide)])]
    unfold State.on at hon ⊢
    rwa [cntAbsorbed_get src data hnew (by decide), newCycle_get, Bool.not_false, Bool.and_true]
  unfold effCvuValWrite
  rw [Nat.mod_eq_of_lt hu]
  dsimp only
  rw [if_neg (by decide : ¬ ((0x30 : Nat) = 0x18 ∨ (0x30 : Nat) = 0x1C)), hkey]
  have hfull : ((0x30 : Nat) == 0x1C) = false := rfl
  simp only [hfull, Bool.false_and, Bool.false_eq_true, if_false, hwrite, htakes, if_true]

end

/-- CVU_VAL_WRITE of the count of a unit without a window of a set length (R250). -/
theorem execCvuValWrite_cnt (src : Src) {u : Nat} (data : Word) (bytes : List Byte) {s : State} (hu : u < 64)
    (hon : s.on CVU_CTL_enable u = true) (howner : s.cvuOwner u ≠ 2) (hsrc : s.get CVU_CTL_src u ≠ 5)
    (hlen : s.get CVU_CTL_win u = 3 → s.get CVU_LEN_len u = 0) :
    ∃ t, exec (.cvuValWrite src u 0x30 15 data false bytes) s = .next t ∧
      t.cvuVal u = crcFeed (s.get CVU_CTL_poly u) (s.cvuVal u) bytes % 2 ^ 64 ∧
      t.get CVU_CNT_cnt u = min (data.toNat + bytes.length) (top CVU_CNT_cnt) ∧
      Keep s.newCycle t [.rcd, .irq, .perf, .out] ∧ KeepRegs s.newCycle t [] absorbRegs ∧
      (NoBusUnit s → Keep s.newCycle t [] ∧ KeepRegs s.newCycle t (feedKeys u) []) := by
  have hnew : s.newCycle.get CVU_CTL_src u ≠ 5 := by rwa [newCycle_get]
  have hget : ∀ f ∈ feedFlds, (cntAbsorbed s.newCycle src u data).get f u = s.get f u := fun f hf =>
    (cntAbsorbed_get src data hnew hf).trans (newCycle_get ..)
  have hin : (cntAbsorbed s.newCycle src u data).cvuVal u = s.cvuVal u := by
    unfold State.cvuVal State.get64
    rw [hget _ (by decide), hget _ (by decide)]
  have hopen : OpenWindow (cntAbsorbed s.newCycle src u data) u := by
    unfold OpenWindow
    rwa [hget _ (by decide), hget _ (by decide)]
  obtain ⟨hval, hcnt, hkeep, hregs⟩ := cvuFeed_open hu bytes hopen
  rw [hin, hget _ (by decide)] at hval
  rw [cntAbsorbed_cnt src data hnew hu] at hcnt
  have hframe : Frame m_cvuWord s.newCycle ((cntAbsorbed s.newCycle src u data).cvuFeed u bytes) :=
    ((cntWritten_frame s.newCycle data hu).step (fr_cvuWord ..) (by decide +kernel)).step (fr_cvuFeed ..) (by decide +kernel)
  refine ⟨_, congrArg Host.Outcome.next (effCvuValWrite_cnt src data hsrc hu bytes hon howner), ?_, hcnt,
    frame_keep hframe (by decide +kernel), hframe.keepRegs (by decide +kernel), fun hno => ?_⟩
  · rw [hval, Nat.mod_eq_of_lt (crcFeed_lt _ _ (cvuVal_lt s u))]
  · have hword : cntAbsorbed s.newCycle src u data = cntWritten s.newCycle u data :=
      cvuWord_of_noBusUnit (cntWritten_noBusUnit _ data (by simpa only [NoBusUnit, newCycle_get, newCycle_on] using hno)) ..
    rw [hword] at hkeep hregs ⊢
    exact ⟨keep_trans (keep_setReg ..) hkeep,
      keepRegs_trans (keepRegs_mono (keepRegs_setReg _ _ data) (by simp [feedKeys]) fun _ h => h) hregs⟩

/-! ### The read of the result -/

/-- The value of a register that shows what it holds, latched words first. -/
theorem takeLatch_fst_getD {s : State} {sec : Bool} {k : Nat} (hshown : s.shown sec k = s.reg k) :
    (s.takeLatch sec k).1 = (latchedAt s k).getD (s.reg k) := by
  cases hl : latchedAt s k with
  | none => rw [takeLatch_of_none hl, hshown]; rfl
  | some v => rw [takeLatch_fst hl]; rfl

theorem resHi_readOnly : ReadOnlyWord resHiReg := rfl

theorem takeLatch_reg (s : State) (sec : Bool) (k j : Nat) : (s.takeLatch sec k).2.reg j = s.reg j := by
  unfold State.takeLatch
  split
  · split <;> rfl
  · rfl

section
variable {u : Nat} (hu : u < 64)
include hu

omit hu in
theorem resHi_offset : at_ CVU_RES_HI_res_hi u % 0x40 = 0x2C := by simp only [at_, CVU_RES_HI_res_hi]; omega

theorem shown_resHi (s : State) (sec : Bool) : s.shown sec (at_ CVU_RES_HI_res_hi u) = s.reg (at_ CVU_RES_HI_res_hi u) := by
  have hk := cvuKey_resHi hu
  have hoff := resHi_offset (u := u)
  have hv := hk.cvuAt
  have hc := hk.chanOf
  unfold CvuKey at hk
  generalize at_ CVU_RES_HI_res_hi u = k at *
  unfold State.shown
  dsimp only
  rw [if_neg (by omega), if_neg (by omega), if_neg (by omega), if_neg (by omega), if_neg (by omega), if_neg (by omega),
    if_neg (by omega), if_neg (by omega), if_neg (by omega), if_neg (by omega), if_neg (by omega), hc, hv]
  exact if_neg (by omega)

theorem latchedBy_resHi : latchedBy (at_ CVU_RES_HI_res_hi u) = [] := by
  have hk := cvuKey_resHi hu
  have hoff := resHi_offset (u := u)
  have hv := hk.cvuAt
  unfold CvuKey at hk
  generalize at_ CVU_RES_HI_res_hi u = k at *
  unfold latchedBy
  rw [if_neg (by omega), if_neg (by omega), if_neg (by omega), if_neg, if_neg (by omega), hv, if_pos (by rfl), hoff]
  · rfl
  · simp only [List.contains_cons, List.contains_nil, Bool.or_eq_true, beq_iff_eq, Bool.false_eq_true, or_false]
    omega

theorem readActs_resHi (s : State) :
    s.readActs resHiReg (at_ CVU_RES_HI_res_hi u) 15 = s.setB CVU_ST_ready false u := by
  have hk := cvuKey_resHi hu
  have hoff := resHi_offset (u := u)
  have hv := hk.cvuAt
  have hclears : rcCleared s resHiReg (at_ CVU_RES_HI_res_hi u) 15 = s := rcCleared_readOnlyWord resHi_readOnly ..
  unfold CvuKey at hk
  generalize at_ CVU_RES_HI_res_hi u = k at *
  unfold rcCleared at hclears
  unfold State.readActs
  dsimp only
  rw [hclears, if_neg (by omega), hv]
  exact if_pos hoff

/-- The read returns the word, and clears ready. -/
theorem readShown_resHi (src : Src) {s : State} (hw : s.cvuOwner u = 2 → s.secureSrc src (at_ CVU_RES_HI_res_hi u) = true) :
    s.newCycle.readShown src (at_ CVU_RES_HI_res_hi u) 15 =
      ((s.newCycle.takeLatch (s.secureSrc src (at_ CVU_RES_HI_res_hi u)) (at_ CVU_RES_HI_res_hi u)).2.setB CVU_ST_ready false
        u).showWords [(latchedAt s (at_ CVU_RES_HI_res_hi u)).getD (s.reg (at_ CVU_RES_HI_res_hi u))] := by
  have hk := cvuKey_resHi hu
  have h4 : at_ CVU_RES_HI_res_hi u / 4 * 4 = at_ CVU_RES_HI_res_hi u := by simp only [at_, CVU_RES_HI_res_hi]; omega
  have hread := readShown_taken (s := s.newCycle) (src := src) (off := at_ CVU_RES_HI_res_hi u) 15 (by rw [h4, hk.barKey])
    (regAt_resHi hu) (by rw [newCycle_secureKey, newCycle_secureSrc, hk.secureKey, beq_iff_eq]; exact hw)
  rwa [latchHigh_of_nil (latchedBy_resHi hu), readActs_resHi hu, readWord_readOnlyWord resHi_readOnly,
    takeLatch_fst_getD (shown_resHi hu ..), newCycle_latchedAt, newCycle_reg, newCycle_secureSrc] at hread

/-- CVU_RES_HI_READ returns the high word of the result, and clears ready (R249). -/
theorem execCvuResHiRead_reads (src : Src) {s : State}
    (hw : s.cvuOwner u = 2 → s.secureSrc src (at_ CVU_RES_HI_res_hi u) = true) :
    ∃ t, exec (.cvuResHiRead src u) s = .next t ∧
      t.out.rdata = [(latchedAt s (at_ CVU_RES_HI_res_hi u)).getD (s.reg (at_ CVU_RES_HI_res_hi u))] ∧
      t.on CVU_ST_ready u = false ∧ KeepBits s t (at_ CVU_ST_ready u) [CVU_ST_ready] ∧
      Keep s.newCycle t [.latch, .out] ∧ KeepRegs s.newCycle t [at_ CVU_ST_ready u] [] := by
  have haddr : 0x5002C + 0x40 * (u % 64) = at_ CVU_RES_HI_res_hi u := by rw [Nat.mod_eq_of_lt hu]; rfl
  have hexec : exec (.cvuResHiRead src u) s = .next (s.newCycle.readShown src (0x5002C + 0x40 * (u % 64)) 15) := rfl
  rw [haddr, readShown_resHi hu src hw] at hexec
  have htaken := fr_takeLatch s.newCycle (s.secureSrc src (at_ CVU_RES_HI_res_hi u)) (at_ CVU_RES_HI_res_hi u)
  refine ⟨_, hexec, ?_, on_setB_unit hu (by decide) _ _, fun i hi => ?_, ?_, fun k hknown hne hf => ?_⟩
  · rw [showWords_rdata, State.setB_out, takeLatch_out, newCycle_rdata]
    rfl
  · exact (keepBits_set _ _ _ u (by decide) i hi).trans (by rw [takeLatch_reg, newCycle_reg])
  · exact keep_trans (keep_trans (frame_keep htaken (by decide)) (keep_mono (keep_set ..) (by decide)))
      (keep_mono (keep_showWords ..) (by decide))
  · exact (keepRegs_set _ CVU_ST_ready _ u k hknown hne hf).trans (takeLatch_reg ..)

end

/-- Settles O17: each window that closes by its mode, the bytes of a cycle by induction after the write, and the read of a result. -/
theorem checkValueUnits : Obligations.CheckValueUnits := by
  unfold Obligations.CheckValueUnits
  refine ⟨fun u s hu hwin hlen => ?_,
    fun src u data bytes s hu hon howner hsrc hlen => execCvuValWrite_cnt src data bytes hu hon howner hsrc hlen,
    fun src u s hu hw => execCvuResHiRead_reads hu src hw⟩
  have hframe := fr_cvuClose s.newCycle u
  have hval : s.newCycle.cvuVal u = s.cvuVal u := by simp only [State.cvuVal, State.get64, newCycle_get]
  have hresult : windowResult s.newCycle u = s.cvuVal u ^^^ crcFinal (s.get CVU_CTL_poly u) := by
    rw [windowResult, hval, newCycle_get]
  obtain ⟨hres, hreload, hcnt, hwindows⟩ := cvuClose_closed s.newCycle hu
  rw [newCycle_get] at hreload hwindows
  refine ⟨_, execCvuWindowClose_closes hu hwin hlen, hres.trans hresult, hreload, hcnt, hwindows, fun hmode => ?_,
    fun hmode hne => ?_, frame_keep hframe (by decide +kernel), hframe.keepRegs (by decide +kernel)⟩
  · obtain ⟨hready, hover, hmis, hmiscnt⟩ := readyShown_shows (windowEnded s.newCycle u) hu
    rw [cvuClose_read _ (by rwa [newCycle_on]), hover, hmis, hmiscnt]
    simp only [windowEnded_on _ (f := CVU_ST_overrun) (by decide), windowEnded_on _ (f := CVU_ST_ready) (by decide),
      windowEnded_on _ (f := CVU_ST_mismatch) (by decide), windowEnded_get _ (f := CVU_MIS_CNT_mis) (by decide),
      newCycle_on, newCycle_get]
    exact ⟨hready, trivial, trivial, trivial⟩
  · obtain ⟨hmis, hmiscnt⟩ := mismatchTold_shows (windowEnded s.newCycle u) hu
    rw [cvuClose_differs _ (by rwa [newCycle_on]) (by simpa only [hresult, State.get64, newCycle_get] using hne), hmiscnt,
      windowEnded_get _ (by decide), newCycle_get]
    exact ⟨hmis, rfl⟩

end Sys2Proof.Integrity
end

section
/-!
A path tag check whose declaration also ends a failure of protocol (R196, R242).
-/
namespace Sys2Proof.Integrity

open Sys2Proof.Machine Sys2Proof.Safety
open Sys2Proof.Laws hiding maskOf put

/-- Checker context 5 of lane 0, whose first output slot reads input slot 7 as the working source of group 0. -/
def checkedCtx : Entry :=
  { fields := [(MAPPING_ctx.fid, 0, 5), (MAPPING_kind.fid, 0, 4), (MAPPING_dir.fid, 0, 1), (MAPPING_lead.fid, 0, 0),
      (MAPPING_server.fid, 0, 5)] }

/-- One lane of ETH, one write entry, one read entry under group 0, and group 0, which exchanges APS. -/
def protectedImg : List Section :=
  [{ sec := LANES_enable.sec, entries :=
      [{ fields := [(LANES_enable.fid, 0, 1), (LANES_format.fid, 0, 2), (LANES_width.fid, 0, 1)] }] },
   { sec := MAPPING_ctx.sec, entries := [checkedCtx] },
   { sec := FABRIC_PAGE_out.sec, entries :=
      [{ kind := 2, fields := [(FABRIC_PAGE_wr_slot.fid, 0, 7), (FABRIC_PAGE_wr_cycle.fid, 0, 1), (FABRIC_PAGE_wr_slice.fid, 0, 0)] },
       { kind := 3, fields := [(FABRIC_PAGE_out.fid, 0, 0), (FABRIC_PAGE_rd_slice.fid, 0, 0), (FABRIC_PAGE_src_wc.fid, 0, 1),
          (FABRIC_PAGE_prot.fid, 0, 1), (FABRIC_PAGE_qs_group.fid, 0, 0)] }] },
   { sec := PROTECTION_grp.sec, entries :=
      [{ kind := 1, fields := [(PROTECTION_grp.fid, 0, 0), (PROTECTION_aps.fid, 0, 1), (PROTECTION_bidir.fid, 0, 1)] }] }]

/-- Group 0 has FOP_NR: the far end bridges the protecting source, and the group requests the working one. The checker has had
two errors, and a tag block without a tag has arrived. -/
def fopNrHeld : State :=
  ((({ img := protectedImg, qs := { grps := [(0, { apsAcc := some (0, 0, 1) })] }
       tag := { chks := [(5, { due := some (0, 0) })] } } : State).setB QS_GRP_ST_fop_nr true 0).set PIT_CTX_ST_err_run 2 5)

/-- How many records wait after the check of context 5. -/
def offersAfter (s : State) : Nat := match exec (.pathTagCheck 5) s with | .next t => t.rcd.offers.length | _ => 0

/-- The declaration makes group 0 request its protecting source, which ends FOP_NR: two records are written. -/
theorem offersAfter_fopNrHeld : offersAfter fopNrHeld = 2 := by decide +kernel

/-- Refutes O50: the declaration at tag_errs is a trigger of the group that reads the faulty connection, and where its new request
ends FOP_NR (R196) an APS_FAIL record follows the PATH_FAULT record in the same command. -/
theorem not_pathTags : ¬ Obligations.PathTags := by
  unfold Obligations.PathTags
  intro h
  have hverdict : TagVerdict (fopNrHeld.tagChk 5) 0 0 (fopNrHeld.expectedCtx checkedCtx) 4 := .inl ⟨rfl, by decide⟩
  obtain ⟨t, hexec, -, -, -, -, herr, -⟩ := h 5 checkedCtx 0 0 4 fopNrHeld (by decide +kernel) (by decide +kernel)
    (by decide +kernel) (by decide +kernel) (by decide) hverdict
  obtain ⟨-, hrun, -, hrecorded⟩ := herr (by decide)
  have herrs : fopNrHeld.gl INTEGRITY_tag_errs = 3 := by decide +kernel
  have hrun3 : t.get PIT_CTX_ST_err_run 5 = 3 := hrun.trans (by decide +kernel)
  have hone := hrecorded (by decide +kernel) (by rw [herrs, hrun3]) (by decide +kernel) (by decide +kernel)
  have htwo := offersAfter_fopNrHeld
  unfold offersAfter at htwo
  rw [hexec] at htwo
  dsimp only at htwo
  rw [hone] at htwo
  exact absurd htwo (by simp [fopNrHeld, State.setB])

end Sys2Proof.Integrity
end
